-- ==== Sys2Proof/Word.lean ====
section
/-! DEFINITION. Word types, their plainest arithmetic, and the canonical sparse map every table of the
machine's state is held in. -/
namespace Sys2Proof

abbrev Byte := BitVec 8
abbrev W16 := BitVec 16
abbrev W32 := BitVec 32
abbrev W256 := BitVec 256
abbrev W64 := BitVec 64
/-- A 512-bit vector register (Table 5.1): byte 0 is the least significant byte. -/
abbrev W512 := BitVec 512

/-- A sparse map from numbers to data. In its canonical form the keys rise strictly and no entry equals
what an unlisted key reads as. -/
abbrev NMap (α : Type) := List (Nat × α)

/-- The entry of key `k`, if it is listed. -/
def nmFind {α : Type} : NMap α → Nat → Option α
  | [], _ => none
  | (j, v) :: t, k => if j = k then some v else nmFind t k

/-- What key `k` reads as, where an unlisted key `j` reads as `d j`. -/
def nmGet {α : Type} (d : Nat → α) (m : NMap α) (k : Nat) : α := (nmFind m k).getD (d k)

/-- The map with key `k` unlisted. -/
def nmErase {α : Type} : NMap α → Nat → NMap α
  | [], _ => []
  | (j, v) :: t, k => if j = k then nmErase t k else (j, v) :: nmErase t k

/-- The map with key `k` listed as `v`, in its place. -/
def nmInsert {α : Type} : NMap α → Nat → α → NMap α
  | [], k, v => [(k, v)]
  | (j, w) :: t, k, v =>
    if k < j then (k, v) :: (j, w) :: t
    else if j = k then (k, v) :: t
    else (j, w) :: nmInsert t k v

/-- Store `v` at key `k`, keeping the canonical form: storing what the key reads as when unlisted unlists it. -/
def nmPut {α : Type} [DecidableEq α] (d : Nat → α) (m : NMap α) (k : Nat) (v : α) : NMap α :=
  if v = d k then nmErase m k else nmInsert m k v

/-- Every listed entry changed by `f`, keeping the canonical form. -/
def nmMap {α : Type} [DecidableEq α] (d : Nat → α) (f : Nat → α → α) (m : NMap α) : NMap α :=
  m.foldl (fun r x => nmPut d r x.1 (f x.1 x.2)) []

/-- The keys rise strictly and lie above `b`, and no entry equals what its key reads as when unlisted. -/
def nmWfFrom {α : Type} [DecidableEq α] (d : Nat → α) : Nat → NMap α → Bool
  | _, [] => true
  | b, (k, v) :: t => decide (b ≤ k) && decide (v ≠ d k) && nmWfFrom d (k + 1) t

/-- The canonical form. -/
def nmWf {α : Type} [DecidableEq α] (d : Nat → α) (m : NMap α) : Bool := nmWfFrom d 0 m

/-- Bits `lo + len - 1 .. lo` of a number. -/
def bitsOf (v lo len : Nat) : Nat := v / 2 ^ lo % 2 ^ len

/-- Bit `i` of a number. -/
def bitOf (v i : Nat) : Bool := v / 2 ^ i % 2 == 1

/-- A Bool as 0 or 1. -/
def b01 (b : Bool) : Nat := if b then 1 else 0

/-- A number of `w` bits read as two's complement. -/
def sext (w v : Nat) : Int :=
  let m := v % 2 ^ w
  if m < 2 ^ (w - 1) then (m : Int) else (m : Int) - (2 ^ w : Nat)

/-- An integer reduced to `w` bits of two's complement. -/
def wrapTo (w : Nat) (v : Int) : Nat := (v % ((2 ^ w : Nat) : Int)).toNat

/-- An integer held within two bounds. -/
def clampI (lo hi v : Int) : Int := if v < lo then lo else if hi < v then hi else v

/-- The smallest multiple-count that covers `a` in steps of `b`. -/
def ceilDiv (a b : Nat) : Nat := (a + b - 1) / b

/-- Replace element `i` of a list (a list too short is unchanged). -/
def listSet {α : Type} : List α → Nat → α → List α
  | [], _, _ => []
  | _ :: t, 0, v => v :: t
  | h :: t, i + 1, v => h :: listSet t i v

/-- The bytes of a number, least significant first. -/
def toBytes : Nat → Nat → List Nat
  | 0, _ => []
  | n + 1, v => v % 256 :: toBytes n (v / 256)

/-- The number whose bytes, least significant first, are given (R4). -/
def ofBytes : List Nat → Nat
  | [] => 0
  | b :: t => b % 256 + 256 * ofBytes t

end Sys2Proof
end

