-- ==== Sys2Proof/Syntax.lean ====
section
/-! DEFINITION. The commands of the device, one constructor per row of the opcode table, and the types of their operands. -/
namespace Sys2Proof

/-- R498: who makes an access. -/
inductive Requester
  /-- A thread of a shed. -/
  | shedThread (shed : Fin 64) (thread : Fin 256)
  | shunter (n : Fin 96)
  | port (n : Fin 8)
  | rein
  /-- A host channel's porch: its aperture writes and its reader. -/
  | porch (c : Fin 4)
  /-- Ostler firmware, the commands CFG_WRITE and CFG_READ among its accesses. -/
  | ostler
  | farrier
  /-- The sequencer of the light block. -/
  | light
  deriving DecidableEq, Repr

/-- R24: whether a requester's accesses travel over the bridleway. -/
def Requester.bridle : Requester → Bool
  | .ostler => true
  | .farrier => true
  | .light => true
  | _ => false

/-- R10: a register of a shunter, of a stall's queue or of a Droveway port, as a requester writes it. -/
structure ShuAt where
  req : Requester
  shu : Fin 96
  deriving DecidableEq, Repr

structure StallAt where
  req : Requester
  stall : Fin 16
  deriving DecidableEq, Repr

structure PortAt where
  req : Requester
  port : Fin 8
  deriving DecidableEq, Repr

/-- Logic functions of two scalar operands; `other` carries a function code the spec does not name. -/
inductive LogicFn
  | and | or | xor
  | other (code : Fin 64)
  deriving DecidableEq, Repr

/-- Shifts of a scalar register. -/
inductive ShiftFn
  | left | right | rightArith
  deriving DecidableEq, Repr

/-- Comparisons of two scalar operands; `other` carries a function code the spec does not name. -/
inductive CmpFn
  | eq | lt | ltu
  | other (code : Fin 64)
  deriving DecidableEq, Repr

/-- Class 1: an operation on a register and a signed immediate. -/
inductive ImmFn
  | add
  | logic (f : LogicFn)
  | shift (f : ShiftFn)
  | cmp (f : CmpFn)
  | other (code : Fin 64)
  deriving DecidableEq, Repr

/-- Class 4: vector arithmetic; `other` carries a function code the spec does not name (0x02 is VFMA). -/
inductive VecFn
  | add | sub | mul
  | other (code : Fin 64)
  deriving DecidableEq, Repr

/-- Class 4: the type field MOD [1:0]. -/
inductive VecTy
  | fp32 | bf16 | int32 | int16
  deriving DecidableEq, Repr

/-- VFMA's types; type BF16 is VDOT2. -/
inductive FmaTy
  | fp32 | int32 | int16
  deriving DecidableEq, Repr

/-- R136: the configuration registers of a shed. -/
inductive ShedCfgReg
  | cfg | coredis | entry | trapvec
  | thrEn (j : Fin 8)
  deriving DecidableEq, Repr


/-- R500: the configuration registers of a siding. -/
inductive SidReg
  | base | cfg | elems | sbx
  deriving DecidableEq, Repr

/-- What a memory request asks of a controller (R206). `write`: bytes from the address up, none where masked. -/
inductive MemReqKind
  | read (bursts : Nat)
  | write (bytes : List (Option Byte))
  deriving DecidableEq, Repr

/-- R280: a pilot check's measurements: mean drop power, the ring's full drop power, and the amplitudes at the pilots of five lines, all in
one unit. -/
structure PilotMeas where
  mean : Nat
  full : Nat
  amp : List Nat
  deriving DecidableEq, Repr

/-- R276: a ring's sweep: the drop power at each code from 0 up, and the check windows of its first peak, in turn. -/
structure RingSweep where
  ring : Fin 528
  power : List Nat
  windows : List PilotMeas
  deriving DecidableEq, Repr

/-- R298: the configuration registers of a converter and its accumulators. -/
inductive MonReg
  | seq (k : Fin 400)
  | calf
  | cfg (a : Fin 128)
  | ref (a : Fin 128)
  | phase (a : Fin 128)
  deriving DecidableEq, Repr

/-- R317, R318: a "stopped" field of a loop entry, by its offset. -/
abbrev LoopOffset := Fin 64

/-- R344: a measurement of a stall: fields by number (Machine/FarrierOps.lean), unlisted ones 0. -/
structure StallMeas where
  field : List (Nat × Int)
  deriving DecidableEq, Repr

/-- R351: a measurement of a lane: transmit level, receive threshold, sampling phase. -/
structure LaneMeas where
  txlvl : Nat
  rxthr : Int
  phase : Nat
  deriving DecidableEq, Repr

/-- R361: what the power stage samples at PBUDGET: millivolts, or a whole period of a pulse signal (high time and period, in ns), or no
edge. -/
inductive PbSample
  | volts (mv : Nat)
  | pulse (high period : Nat)
  | noEdge
  deriving DecidableEq, Repr

/-- Table 15.3: a data frame. -/
structure DataFrame where
  herd : Nat := 0
  frame : Nat := 0
  src : Nat := 0
  kind : Nat := 1
  dst : Nat := 0
  cls : Nat := 0
  lane : Nat := 0
  retry : Bool := false
  epoch : Nat := 0
  addr : Nat := 0
  lines : Nat := 0
  xfer : Nat := 0
  index : Nat := 0
  nframes : Nat := 0
  rsbx : Nat := 0
  renew : Nat := 0
  payload : List Nat := []
  deriving DecidableEq, Repr

/-- R386: a C0 frame. -/
structure C0Frame where
  herd : Nat := 0
  frame : Nat := 0
  src : Nat := 0
  epoch : Nat := 0
  dst : Nat := 0
  pos : Nat := 0
  type : Nat := 0
  payload : List Nat := []
  tag : List Nat := []
  /-- the lane it travels on; 0xFF: the control wavelength -/
  lane : Nat := 255
  deriving DecidableEq, Repr

/-- R392: an entry of an ACK frame. -/
structure AckEntry where
  frame : Nat
  lane : Nat
  status : Nat
  deriving DecidableEq, Repr

/-- R394, R397: a request heard by the leader: a reservation, or the RENEW field of a data frame. -/
structure ResReq where
  src : Nat
  dst : Nat
  lanes : Nat
  cls : Nat
  renew : Bool := false
  deriving DecidableEq, Repr

/-- R394, R399: what else a leader segment tells: the member mask; a handover (index, frame it takes effect in), an epoch change (epoch, frame, reason); and, to
the leader that sends it, whether it hears its own segment garbled, with the generator's draw. -/
structure GrantNews where
  members : W16 := 0
  leader : Option (Nat × Nat) := none
  epoch : Option (Nat × Nat × Nat) := none
  garbled : Option Nat := none
  deriving DecidableEq, Repr

/-- R395, R398: an owned slot of a port: the member's frame is heard after `delay` D-cycles, or is not heard. -/
structure OwnSlot where
  port : Fin 8
  delay : Option Nat := none
  deriving DecidableEq, Repr

/-- R388: what a KEY frame tells of its epoch: the frame it begins in, and its key. -/
structure KeyStart where
  frame : W64
  key : W256
  deriving DecidableEq, Repr

/-- What the farrier calibrates on its own clock: a stall, or a lane of a port. -/
inductive FarUnit
  | stall (k : Fin 16)
  | lane (p : Fin 8) (j : Fin 32)
  deriving DecidableEq, Repr

/-- R208: a temperature the controller reads, in °C, none where the sensor cannot be read; and the rated limit of its module. -/
structure MemTemp where
  temp : Option Int
  limit : Int
  deriving DecidableEq, Repr

/-- R392, R400: what a sender resends: a data frame of a transfer, or the C0 frame at a place among those not acknowledged. -/
inductive ResendKey
  | data (xfer : W16) (index : Fin 4096)
  | c0 (place : Nat)
  deriving DecidableEq, Repr

/-- R403: a step of an admission. `step` 1 and 3 come to the leader, 2 and 4 to the joiner. `identity`: what step 1 offers; `nonce`: the
challenge that the sender puts in steps 1 and 2; `report`: the report of steps 2 and 3, byte by byte; `exchanged`: the ECDH key exchange
gives a key. -/
structure AdmitMsg where
  step : Nat
  idx : Nat
  identity : Nat := 0
  nonce : List Nat := []
  report : List Nat := []
  exchanged : Bool := true
  epoch : Nat := 0
  members : Nat := 0
  leader : Nat := 0
  frame : Nat := 0
  /-- the herd key, as unwrapped -/
  key : W256 := 0
  deriving DecidableEq, Repr

/-- R419: CK of a host channel begins to arrive, or stops (DESIGN CHOICE: log entry 247). -/
structure CkChange where
  chan : Fin 4
  stops : Bool := false
  deriving DecidableEq, Repr

/-- R410: a configuration register of the Droveway: of a port, or of the herd. -/
inductive DrvCfgReg
  | cfg (p : Fin 8)
  | herdId
  | herdIndex
  deriving DecidableEq, Repr

/-- R411: the parts of a receive window. -/
inductive WinPart
  | base | size | ctl
  deriving DecidableEq, Repr

/-- R435, Table 16.11: how a request of a batch ended: its output tokens, STATUS and REASON. -/
structure ReqOutcome where
  tokens : List W32 := []
  status : Nat := 0
  reason : Nat := 0
  deriving DecidableEq, Repr

/-- R204: what a rate's training of the DDR5 tier ends in: the channels that fail. -/
abbrev DdrTry := List (Fin 12)

/-- R198, R202 to R204: what DDR5 training finds: modules per channel, their capacity in GiB and ranks, whether the population meets R202,
and the channels that fail at each rate tried. -/
structure DdrTraining where
  modules : Nat := 0
  gib : Nat := 32
  ranks : Nat := 1
  sound : Bool := true
  fails : List DdrTry := []
  deriving DecidableEq, Repr

/-- The commands of the device: one constructor per row of spec/opcode_table.json. -/
inductive Instr
  /-- REGISTER_WRITE (R11): A write to a register that has no row of its own acts on its fields by their access codes, or ends in a bus error under R9. -/
  | registerWrite (req : Requester) (addr : BitVec 48) (width : Fin 65) (value : W64)
  /-- LOW_HALF_WRITE (R10): A write of the low half of a 64-bit register is held for that requester and has no effect by itself. -/
  | lowHalfWrite (req : Requester) (addr : BitVec 48) (value : W32)
  /-- HIGH_HALF_WRITE (R10): A write of the high half of a 64-bit register writes both halves together with the held low half, or ends in a bus error when no low half is held. -/
  | highHalfWrite (req : Requester) (addr : BitVec 48) (value : W32)
  /-- LOW_HALF_READ (R10): A read of the low half of a 64-bit register returns it, takes any read-clear effect and latches the high half for that requester. -/
  | lowHalfRead (req : Requester) (addr : BitVec 48)
  /-- HIGH_HALF_READ (R10): A read of the high half of a 64-bit register returns the latched value and releases the latch, or returns the live value when no latch is held. -/
  | highHalfRead (req : Requester) (addr : BitVec 48)
  /-- RC_READ (R12): A read of an RC counter returns its value and clears it, keeping any increment made in the same cycle. -/
  | rcRead (req : Requester) (addr : BitVec 48) (width : Fin 65)
  /-- EVENT_RECORD_ARRIVAL (R501): An event record arrives at the event log as C0 traffic and is entered at the tail of the queue, or is dropped and counted when the queue is full. -/
  | eventRecordArrival (idx : List Nat)
  /-- SEED_WRITE (R55): A write of SHU_SEED loads the shunter's generator state, with a seed of 0 loading the default constant. -/
  | seedWrite (reg : ShuAt) (value : W64)
  /-- LOAD_ACCEPT (R75): The stall's load front end accepts a complete tile into a free staging slot and forms E_T, the underflow marks, the poison map and the cell codes. -/
  | loadAccept (stall : Fin 16)
  /-- STRING_CYCLES_START (R76): The string cycles of a staged load begin once the idle node holds no uncommitted tile and no refresh uses the strings. -/
  | stringCyclesStart (stall : Fin 16)
  /-- LOAD_COMPLETE (R75): The last string cycle ends, the idle node holds the tile and the load's staging slot frees. -/
  | loadComplete (stall : Fin 16)
  /-- COMMIT (R77): The active and idle hold nodes of every cell and the two poison maps swap in 2 S-cycles. -/
  | commit (stall : Fin 16)
  /-- HOLD_REFRESH_DUE (R81): A hold node's refresh falls due 48 S-cycles before the end of its band's refresh interval. -/
  | holdRefreshDue (stall : Fin 16) (nodeB : Bool) (elapsed : Nat)
  /-- HOLD_REFRESH_START (R82): A due refresh drives the node's stored codes through the strings once no load's string cycles occupy them. -/
  | holdRefreshStart (stall : Fin 16)
  /-- HOLD_REFRESH_END (R81): A refresh ends after 16 S-cycles, which counts as a write of its node and may let a waiting load begin. -/
  | holdRefreshEnd (stall : Fin 16)
  /-- BAND_CHANGE_AT_STALL (R84): A band change reaches the stall's refresh logic and reschedules each node's next refresh under the new interval. -/
  | bandChangeAtStall (stall : Fin 16) (elapsedA elapsedB : Nat)
  /-- TILE_OP_HANDOVER (R105): The even stall shunter hands a queued tile-operation descriptor to the stall once its WAIT_SBX has reached WAIT_VALUE. -/
  | tileOpHandover (stall : Fin 16)
  /-- ISSUE_ACCEPT (R98): A handed-over tile operation is accepted at the stall's issue port, advancing the tile cursor if NEXT is set. -/
  | issueAccept (stall : Fin 16)
  /-- TILE_OP_BEGIN (R106): A tile operation reaches cycle 1 of its pipeline, reads its inputs, forms E_X and checks WFMT against its tile. -/
  | tileOpBegin (stall : Fin 16)
  /-- PASS_END (R114): A pass's last window closes and the stall decides its scale check as a clip miss, a low-peak miss or a pass. -/
  | passEnd (stall : Fin 16)
  /-- RETRY_START (R115): A missed pass is retried once at G* on the same tile when a retry record is free, contributing corrections to the trough. -/
  | retryStart (stall : Fin 16)
  /-- TILE_OP_COMPLETE (R111): A tile operation completes when its last contribution is readable and, with DONE_EN, increments DONE_SBX 4 or 5 M-cycles later. -/
  | tileOpComplete (stall : Fin 16)
  /-- STALL_START (R123): A write of STL_CTRL.START in STOPPED returns the stall to RUN and resumes issue with any waiting retry and remainder. -/
  | stallStart (stall : Fin 16)
  /-- STALL_STOP (R121): A write of STL_CTRL.STOP without CUT stops acceptance and lets accepted work finish. -/
  | stallStop (stall : Fin 16)
  /-- STALL_STOP_CUT (R122): A write of STL_CTRL.STOP with CUT stops acceptance and cuts the running pass at the next window. -/
  | stallStopCut (stall : Fin 16)
  /-- STALL_STOPPED (R121): The last accepted work or string cycle ends and the stall's STATE becomes STOPPED. -/
  | stallStopped (stall : Fin 16)
  /-- STL_CFG_RANGE (R125): A write of STL_CFG that changes RANGE, when allowed, grounds both hold nodes, clears the poison maps and discards the staging buffer. -/
  | stlCfgRange (req : Requester) (stall : Fin 16) (range : Bool)
  /-- STL_CFG_OFFLINE (R127): A write of STL_CFG.OFFLINE takes the stall to OFFLINE or returns it to STOPPED, voiding any descriptor waiting at the issue port's entry. -/
  | stlCfgOffline (req : Requester) (stall : Fin 16) (offline : Bool)
  /-- STL_RESET (R125): A write of STL_RESET.RESET when stopped clears both nodes, the buffers and the retry records and voids pending work with cause 4. -/
  | stlReset (req : Requester) (stall : Fin 16)
  /-- SCALAR_ADD (R143): Class 0 instruction that adds two scalar registers. -/
  | scalarAdd (shed : Fin 64) (thread : Fin 256) (rd ra rb : Fin 32) (mask : Fin 8)
  /-- SCALAR_SUB (R143): Class 0 instruction that subtracts two scalar registers. -/
  | scalarSub (shed : Fin 64) (thread : Fin 256) (rd ra rb : Fin 32) (mask : Fin 8)
  /-- SCALAR_LOGIC (R143): Class 0 instruction that applies a logic function to two scalar registers. -/
  | scalarLogic (shed : Fin 64) (thread : Fin 256) (fn : LogicFn) (rd ra rb : Fin 32) (mask : Fin 8)
  /-- SCALAR_SHIFT (R143): Class 0 instruction that shifts a scalar register. -/
  | scalarShift (shed : Fin 64) (thread : Fin 256) (fn : ShiftFn) (rd ra rb : Fin 32) (mask : Fin 8)
  /-- SCALAR_COMPARE (R143): Class 0 instruction that compares two scalar registers. -/
  | scalarCompare (shed : Fin 64) (thread : Fin 256) (fn : CmpFn) (rd ra rb : Fin 32) (mask : Fin 8)
  /-- MUL (R143): Class 0 scalar multiply with a latency of 3 H-cycles. -/
  | mul (shed : Fin 64) (thread : Fin 256) (rd ra rb : Fin 32) (mask : Fin 8)
  /-- DIV (R143): Class 0 scalar divide with a latency of 18 H-cycles, returning all ones on division by zero. -/
  | div (shed : Fin 64) (thread : Fin 256) (rd ra rb : Fin 32) (mask : Fin 8)
  /-- SCALAR_IMMEDIATE (R143): Class 1 scalar integer operation with a signed immediate. -/
  | scalarImmediate (shed : Fin 64) (thread : Fin 256) (fn : ImmFn) (rd ra : Fin 32) (imm : BitVec 12)
  /-- LUI (R143): Class 1 instruction that places the immediate into bits [63:52]. -/
  | lui (shed : Fin 64) (thread : Fin 256) (rd : Fin 32) (imm : BitVec 12)
  /-- BRANCH_EQ (R143): Class 2 branch taken when two registers are equal. -/
  | branchEq (shed : Fin 64) (thread : Fin 256) (ra rb : Fin 32) (off : BitVec 15)
  /-- BRANCH_NE (R143): Class 2 branch taken when two registers differ. -/
  | branchNe (shed : Fin 64) (thread : Fin 256) (ra rb : Fin 32) (off : BitVec 15)
  /-- BRANCH_LT (R143): Class 2 branch taken on signed less-than. -/
  | branchLt (shed : Fin 64) (thread : Fin 256) (ra rb : Fin 32) (off : BitVec 15)
  /-- BRANCH_GE (R143): Class 2 branch taken on signed greater-or-equal. -/
  | branchGe (shed : Fin 64) (thread : Fin 256) (ra rb : Fin 32) (off : BitVec 15)
  /-- BRANCH_LTU (R143): Class 2 branch taken on unsigned less-than. -/
  | branchLtu (shed : Fin 64) (thread : Fin 256) (ra rb : Fin 32) (off : BitVec 15)
  /-- BRANCH_GEU (R143): Class 2 branch taken on unsigned greater-or-equal. -/
  | branchGeu (shed : Fin 64) (thread : Fin 256) (ra rb : Fin 32) (off : BitVec 15)
  /-- JUMP_TO_REGISTER (R143): Class 2 COND 6 jump to the address in a register. -/
  | jumpToRegister (shed : Fin 64) (thread : Fin 256) (ra : Fin 32)
  /-- JUMP_AND_LINK (R143): Class 2 COND 7 jump by an offset, writing the link register. -/
  | jumpAndLink (shed : Fin 64) (thread : Fin 256) (rd : Fin 32) (off : BitVec 20)
  /-- SCALAR_LOAD (R139): Class 3 load of 1, 2, 4 or 8 bytes from its target, with optional acquire ordering. -/
  | scalarLoad (shed : Fin 64) (thread : Fin 256) (size : Fin 8) (ord : Fin 4) (rd ra : Fin 32) (off : BitVec 12)
  /-- SCALAR_STORE (R140): Class 3 store of 1, 2, 4 or 8 bytes to its target, with optional release ordering. -/
  | scalarStore (shed : Fin 64) (thread : Fin 256) (size : Fin 8) (ord : Fin 4) (rs ra : Fin 32) (off : BitVec 12)
  /-- VECTOR_LOAD (R139): Class 5 load of 64 bytes into a vector register. -/
  | vectorLoad (shed : Fin 64) (thread : Fin 256) (size : Fin 8) (ord : Fin 4) (vd ra : Fin 32) (off : BitVec 12)
  /-- VECTOR_STORE (R140): Class 5 store of 64 bytes from a vector register. -/
  | vectorStore (shed : Fin 64) (thread : Fin 256) (size : Fin 8) (ord : Fin 4) (vs ra : Fin 32) (off : BitVec 12)
  /-- LOAD_RESULT_RETURN (R139): The value or acknowledgement of an issued access returns to the thread after its load-to-use count. -/
  | loadResultReturn (shed : Fin 64) (thread : Fin 256) (idx : Nat)
  /-- VECTOR_ARITH (R143): Class 4 masked vector FP32, BF16, INT32 or INT16 arithmetic. -/
  | vectorArith (shed : Fin 64) (thread : Fin 256) (fn : VecFn) (ty : VecTy) (vd va vb : Fin 32) (mask : Fin 8)
  /-- VFMA (R143): Class 4 fused multiply-add of vector registers, rounded once. -/
  | vfma (shed : Fin 64) (thread : Fin 256) (ty : FmaTy) (vd va vb : Fin 32) (mask : Fin 8)
  /-- VDOT2 (R143): Class 4 BF16 pair dot product into FP32 lanes, rounded once. -/
  | vdot2 (shed : Fin 64) (thread : Fin 256) (vd va vb : Fin 32) (mask : Fin 8)
  /-- BXDOT8 (R144): Class 6 BX8 block dot product accumulated into FP32 lanes. -/
  | bxdot8 (shed : Fin 64) (thread : Fin 256) (vd va vb : Fin 32) (xs : Fin 32)
  /-- TOBX4 (R144): Class 6 conversion of 32 FP32 elements into one BX4 block under R51. -/
  | tobx4 (shed : Fin 64) (thread : Fin 256) (vd va xs : Fin 32) (slot rnd : Fin 4)
  /-- TOBX8 (R144): Class 6 conversion of 32 FP32 elements into one BX8 block under R51. -/
  | tobx8 (shed : Fin 64) (thread : Fin 256) (vd va xs : Fin 32) (slot rnd : Fin 4)
  /-- TOBX16 (R144): Class 6 conversion of 32 FP32 elements into one BX16 block under R51. -/
  | tobx16 (shed : Fin 64) (thread : Fin 256) (vd va xs : Fin 32) (slot rnd : Fin 4)
  /-- FROMBX4 (R144): Class 6 conversion of 16 BX4 elements into FP32 lanes. -/
  | frombx4 (shed : Fin 64) (thread : Fin 256) (vd va xs : Fin 32) (group : Fin 8)
  /-- FROMBX8 (R144): Class 6 conversion of 16 BX8 elements into FP32 lanes. -/
  | frombx8 (shed : Fin 64) (thread : Fin 256) (vd va xs : Fin 32) (group : Fin 8)
  /-- FROMBX16 (R144): Class 6 conversion of 16 BX16 elements into FP32 lanes. -/
  | frombx16 (shed : Fin 64) (thread : Fin 256) (vd va xs : Fin 32) (group : Fin 8)
  /-- F32TOBF16 (R58): Class 6 conversion of 32 FP32 lanes into BF16 with round to nearest even. -/
  | f32tobf16 (shed : Fin 64) (thread : Fin 256) (vd va : Fin 32)
  /-- BF16TOF32 (R58): Class 6 exact conversion of 16 BF16 lanes into FP32. -/
  | bf16tof32 (shed : Fin 64) (thread : Fin 256) (vd va : Fin 32) (half : Fin 2)
  /-- ATOMIC_ADD (R142): Class 7 atomic add at a manger address, returning the old value. -/
  | atomicAdd (shed : Fin 64) (thread : Fin 256) (rd ra rb : Fin 32) (mask : Fin 8) (mod : Fin 16)
  /-- ATOMIC_AND (R142): Class 7 atomic AND at a manger address. -/
  | atomicAnd (shed : Fin 64) (thread : Fin 256) (rd ra rb : Fin 32) (mask : Fin 8) (mod : Fin 16)
  /-- ATOMIC_OR (R142): Class 7 atomic OR at a manger address. -/
  | atomicOr (shed : Fin 64) (thread : Fin 256) (rd ra rb : Fin 32) (mask : Fin 8) (mod : Fin 16)
  /-- ATOMIC_XOR (R142): Class 7 atomic XOR at a manger address. -/
  | atomicXor (shed : Fin 64) (thread : Fin 256) (rd ra rb : Fin 32) (mask : Fin 8) (mod : Fin 16)
  /-- ATOMIC_SWAP (R142): Class 7 atomic swap at a manger address. -/
  | atomicSwap (shed : Fin 64) (thread : Fin 256) (rd ra rb : Fin 32) (mask : Fin 8) (mod : Fin 16)
  /-- ATOMIC_CAS (R142): Class 7 atomic compare-and-swap taking its expected value from rd. -/
  | atomicCas (shed : Fin 64) (thread : Fin 256) (rd ra rb : Fin 32) (mask : Fin 8) (mod : Fin 16)
  /-- ATOMIC_MINS (R142): Class 7 atomic signed minimum. -/
  | atomicMins (shed : Fin 64) (thread : Fin 256) (rd ra rb : Fin 32) (mask : Fin 8) (mod : Fin 16)
  /-- ATOMIC_MAXS (R142): Class 7 atomic signed maximum. -/
  | atomicMaxs (shed : Fin 64) (thread : Fin 256) (rd ra rb : Fin 32) (mask : Fin 8) (mod : Fin 16)
  /-- ATOMIC_MINU (R142): Class 7 atomic unsigned minimum. -/
  | atomicMinu (shed : Fin 64) (thread : Fin 256) (rd ra rb : Fin 32) (mask : Fin 8) (mod : Fin 16)
  /-- ATOMIC_MAXU (R142): Class 7 atomic unsigned maximum. -/
  | atomicMaxu (shed : Fin 64) (thread : Fin 256) (rd ra rb : Fin 32) (mask : Fin 8) (mod : Fin 16)
  /-- FENCE (R141): Class 7 fence that holds later accesses until every earlier access of the thread has completed. -/
  | fence (shed : Fin 64) (thread : Fin 256) (mask : Fin 8)
  /-- SBINC (R146): Class 8 release increment of a signal box on the thread's own die. -/
  | sbinc (shed : Fin 64) (thread : Fin 256) (ra rb : Fin 32) (mask : Fin 8)
  /-- SBWAIT (R146): Class 8 instruction that puts the thread to sleep until a signal box reaches a value or TWAIT passes. -/
  | sbwait (shed : Fin 64) (thread : Fin 256) (rd ra rb : Fin 32) (mask : Fin 8)
  /-- SBWAIT_WAKE (R146): A waiting thread becomes ready 4 or 5 H-cycles after its signal box reaches the value, with status 0. -/
  | sbwaitWake (shed : Fin 64) (thread : Fin 256)
  /-- SBWAIT_TIMEOUT (R146): A thread's SBWAIT time limit TWAIT passes and the thread resumes with status 1. -/
  | sbwaitTimeout (shed : Fin 64) (thread : Fin 256) (elapsed : Nat)
  /-- HALT (R143): Class 8 instruction that stops the thread and clears its SHD_THR_RUN bit. -/
  | halt (shed : Fin 64) (thread : Fin 256) (mask : Fin 8)
  /-- TILEOP (R145): Class 8 instruction that queues a tile-operation descriptor for a local stall, waiting for queue space when W = 1. -/
  | tileop (shed : Fin 64) (thread : Fin 256) (w : Bool) (rd ra rb : Fin 32) (mask : Fin 8)
  /-- CSRR (R132): Class 9 read of a thread CSR. -/
  | csrr (shed : Fin 64) (thread : Fin 256) (rd : Fin 32) (csr : BitVec 12)
  /-- CSRW (R132): Class 9 write of a thread CSR, trapping on handler fields outside handler mode. -/
  | csrw (shed : Fin 64) (thread : Fin 256) (ra : Fin 32) (csr : BitVec 12)
  /-- ERET (R149): Class 9 return from handler mode to EPC. -/
  | eret (shed : Fin 64) (thread : Fin 256)
  /-- TRAP (R147): Class 9 instruction that raises a precise trap of cause 6 with IMM in TVAL. -/
  | trap (shed : Fin 64) (thread : Fin 256) (imm : BitVec 12)
  /-- EXP2 (R143): Class 10 special-function base-2 exponential on FP32 lanes. -/
  | exp2 (shed : Fin 64) (thread : Fin 256) (vd va : Fin 32) (mask : Fin 8)
  /-- LOG2 (R143): Class 10 special-function base-2 logarithm on FP32 lanes. -/
  | log2 (shed : Fin 64) (thread : Fin 256) (vd va : Fin 32) (mask : Fin 8)
  /-- RCP (R143): Class 10 special-function reciprocal on FP32 lanes. -/
  | rcp (shed : Fin 64) (thread : Fin 256) (vd va : Fin 32) (mask : Fin 8)
  /-- RSQRT (R143): Class 10 special-function reciprocal square root on FP32 lanes. -/
  | rsqrt (shed : Fin 64) (thread : Fin 256) (vd va : Fin 32) (mask : Fin 8)
  /-- SIN (R143): Class 10 special-function sine on FP32 lanes. -/
  | sin (shed : Fin 64) (thread : Fin 256) (vd va : Fin 32) (mask : Fin 8)
  /-- TANH (R143): Class 10 special-function hyperbolic tangent on FP32 lanes. -/
  | tanh (shed : Fin 64) (thread : Fin 256) (vd va : Fin 32) (mask : Fin 8)
  /-- DEFERRED_BUS_ERROR (R147): A target reports an error on an issued access and the thread takes a deferred trap at its next instruction boundary. -/
  | deferredBusError (shed : Fin 64) (thread : Fin 256)
  /-- SHED_LAUNCH (R134): A write of SHD_CTRL.START with LAUNCH in STOPPED starts every enabled thread at SHD_ENTRY with cleared state. -/
  | shedLaunch (shed : Fin 64)
  /-- SHED_RESUME (R134): A write of SHD_CTRL.START without LAUNCH in STOPPED resumes every stopped thread where it stopped. -/
  | shedResume (shed : Fin 64)
  /-- SHED_STOP (R135): A write of SHD_CTRL.STOP in RUN stops issue and takes waiting threads out of their waits. -/
  | shedStop (shed : Fin 64)
  /-- SHED_STOPPED (R135): The last issued access completes and the shed's STATE becomes STOPPED. -/
  | shedStopped (shed : Fin 64)
  /-- ICINV (R137): A write of SHD_CTRL.ICINV in STOPPED empties the shed's instruction cache. -/
  | icinv (shed : Fin 64)
  /-- SHED_CFG_WRITE (R136): A write of a shed configuration register is accepted in STOPPED, with SHD_CFG.OFFLINE moving the shed to or from OFFLINE, or is refused with event 0x2003. -/
  | shedCfgWrite (req : Requester) (shed : Fin 64) (reg : ShedCfgReg) (value : W64)
  /-- CHANNEL_ARM (R161): A write of SHU_CHn_ARM starts the fetch and checking of a stream descriptor. -/
  | channelArm (reg : ShuAt) (chan : Fin 8) (addr : BitVec 48)
  /-- ARM_RESULT (R162): The arm status of a descriptor is written to SHU_CHn_ARMST, making it current, shadowed or refused. -/
  | armResult (shu : Fin 96) (chan : Fin 8)
  /-- CHANNEL_WAIT_SATISFIED (R163): A channel in WAIT becomes ACTIVE when its signal box reaches WAIT_VALUE and issues 2 M-cycles later. -/
  | channelWaitSatisfied (shu : Fin 96) (chan : Fin 8)
  /-- TRANSFER_ISSUE (R190): The shunter issues up to two transfers in an M-cycle from eligible channels by class and round robin. -/
  | transferIssue (shu : Fin 96) (cycles : Nat)
  /-- TRANSFER_READ_RETURN (R154): The data of a transfer's source read returns to the shunter, is checked and converted, and its destination writes issue. -/
  | transferReadReturn (shu : Fin 96) (chan : Fin 8)
  /-- TRANSFER_ACK (R157): The last destination write of a transfer is acknowledged and the transfer is no longer outstanding. -/
  | transferAck (shu : Fin 96) (chan : Fin 8)
  /-- CHANNEL_HALTED (R166): A stopping channel's last outstanding transfer is acknowledged and it becomes HALTED with its cause. -/
  | channelHalted (shu : Fin 96) (chan : Fin 8)
  /-- CHANNEL_CLEAR (R168): A write of SHU_CHn_CTRL.CLEAR stops the channel issuing, with DROP_SHADOW choosing whether the shadow is discarded or rearmed. -/
  | channelClear (shu : Fin 96) (chan : Fin 8) (drop : Bool)
  /-- CHANNEL_CLEAR_COMPLETE (R168): A clearing channel's outstanding transfers complete, its siding slots are returned, it becomes IDLE and its shadow is rechecked. -/
  | channelClearComplete (shu : Fin 96) (chan : Fin 8)
  /-- SHUNTER_STOP (R169): A write of SHU_CTRL.STOP in RUN stops every channel issuing. -/
  | shunterStop (shu : Fin 96)
  /-- SHUNTER_STOPPED (R169): The shunter's last outstanding transfer is acknowledged and its STATE becomes STOPPED. -/
  | shunterStopped (shu : Fin 96)
  /-- SHUNTER_START (R169): A write of SHU_CTRL.START in STOPPED refills the token buckets and resumes every channel where it stopped. -/
  | shunterStart (shu : Fin 96)
  /-- SHU_CLASS_WRITE (R170): A write of SHU_CLASS1 to SHU_CLASS3 is accepted in STOPPED, or is refused with event 0x4040. -/
  | shuClassWrite (req : Requester) (shu : Fin 96) (cls : Fin 3) (value : W32)
  /-- SID_PUB (R176): A write of SID_PUB publishes slots for a shed producer, or flags PUB_OVER or PARTY. -/
  | sidPub (die : Fin 4) (sid : Fin 256) (n : Fin 128)
  /-- SID_REL (R176): A write of SID_REL releases slots for a shed consumer, or flags REL_OVER or PARTY. -/
  | sidRel (die : Fin 4) (sid : Fin 256) (n : Fin 128)
  /-- SID_CTRL_RESET (R500): A write of SID_CTRL.RESET with no channel bound sets HEAD, TAIL, FILL and SEQ to 0. -/
  | sidCtrlReset (req : Requester) (die : Fin 4) (sid : Fin 256)
  /-- SIDING_CONFIG_WRITE (R500): A write of a siding configuration field is accepted only with no channel bound, and an accepted change resets the siding. -/
  | sidingConfigWrite (req : Requester) (die : Fin 4) (sid : Fin 256) (reg : SidReg) (value : W64)
  /-- SIDING_DEADLOCK (R192): A channel's siding wait reaches the deadlock window and, if its party waits on it in turn, both halt and event 0x4020 is raised. -/
  | sidingDeadlock (shu : Fin 96) (chan : Fin 8)
  /-- SIGNAL_BOX_INCREMENT (R177): An increment reaches a signal box and is added to its count modulo 2^32. -/
  | signalBoxIncrement (idx : Nat)
  /-- SBX_CNT_WRITE (R177): A write of SBX_CNT sets a signal box's count, ahead of any increment in the same cycle. -/
  | sbxCntWrite (die : Fin 4) (box : Fin 1024) (value : W32)
  /-- SBX_INC_WRITE (R178): A write of SBX_INC adds its value to a signal box. -/
  | sbxIncWrite (die : Fin 4) (box : Fin 1024) (value : W32)
  /-- TQ_ARM (R185): A write of SHU_TQ_ARM fetches and checks a tile-operation descriptor and places it in the stall's descriptor queue. -/
  | tqArm (reg : StallAt) (addr : BitVec 48)
  /-- TILE_BUFFER_ENTRY (R179): A weight-port tile enters the stall's tile input buffer once the buffer has room for a whole tile. -/
  | tileBufferEntry (stall : Fin 16)
  /-- INPUT_VECTOR_FETCH (R180): The input-port stream begins fetching an operation's vectors once its wait is satisfied and the vector buffer has room for all of them. -/
  | inputVectorFetch (stall : Fin 16)
  /-- MEMORY_REQUEST (R206): A request enters an HBM or DDR5 controller queue and is served after its wait, refresh, bank, latency and burst times. -/
  | memoryRequest (addr : BitVec 48) (kind : MemReqKind) (cls : Fin 4) (tRef : Bool)
  /-- MEMORY_REQUEST_COMPLETE (R206): The last data or acknowledgement of a memory request departs the controller. -/
  | memoryRequestComplete (idx : Nat)
  /-- ROW_IDLE_CLOSE (R205): A bank with no request for 64 M-cycles closes its open row. -/
  | rowIdleClose (addr : BitVec 48)
  /-- DRAM_REFRESH (R209): A refresh target's refresh is issued in an idle cycle late in its interval, or at the end of the interval. -/
  | dramRefresh (addr : BitVec 48)
  /-- MEMORY_TEMP_READ (R208): The controller reads a stack or module temperature and selects the band and timing in force. -/
  | memoryTempRead (unit : Fin 20) (readings : List MemTemp)
  /-- TIER_OFFLINE_WRITE (R215): A write of HBM_CFG.OFFLINE or DDR_CFG.OFFLINE takes a stack or channel offline or returns it to READY. -/
  | tierOfflineWrite (req : Requester) (unit : Fin 20) (offline : Bool)
  /-- POWER_ON_FILL (R228): A region is filled in three passes, with rows repaired and retested, and passes or goes OFFLINE. -/
  | powerOnFill (region : Fin 24) (bad again : List (BitVec 48))
  /-- HANDLING_PERIOD_END (R237): The HWIN period after a region's first new uncorrectable error passes and the handling state ends. -/
  | handlingPeriodEnd (region : Fin 24) (bank : Fin 64)
  /-- HND_WRITE (R237): A write of 1 to a region's HND bit ends its handling state. -/
  | hndWrite (req : Requester) (region : Fin 24) (value : W64)
  /-- POISON_WRITE (R231): A region writes stored poison over a failing byte or burst in the first cycle its target is idle, unless a full write cancelled it. -/
  | poisonWrite (idx : Nat)
  /-- GROOM_READ (R230): A groom reads its next window in an idle cycle once 2^PACE cycles have passed, and detects correctable and uncorrectable errors. -/
  | groomRead (groom : Fin 276)
  /-- GROOM_WRITE_BACK (R231): A groom writes back corrected bytes or bursts in an idle cycle. -/
  | groomWriteBack (idx : Nat)
  /-- GROOM_LAP_ALARM (R232): A region's current lap reaches GRM_LAPMAX, setting GRM_ALARM and raising event 0x3006 once. -/
  | groomLapAlarm (region : Fin 24)
  /-- GROOM_ENABLE_WRITE (R232): A write of GRM_CTRL stops a tier's grooms once their work completes, or starts a new lap. -/
  | groomEnableWrite (req : Requester) (value : W32)
  /-- MGR_SOFTREP (R234): A write of MGR_SOFTREP requests a soft repair of a manger row, held while another result is busy. -/
  | mgrSoftrep (req : Requester) (die : Fin 4) (bank : Fin 64) (row : Fin 8192)
  /-- SOFT_REPAIR_COPY (R234): A soft row takes over a manger row after a 3 M-cycle copy, and MGR_REPST takes the result. -/
  | softRepairCopy (die : Fin 4) (bank : Fin 64)
  /-- FLIP_ARM (R242): A write of ECC_FLIP_CTRL.ARM arms a codeword flip, replacing any armed settings. -/
  | flipArm (req : Requester)
  /-- FLIP_DISARM (R242): A write of ECC_FLIP_CTRL.DISARM clears ARMED without a flip. -/
  | flipDisarm (req : Requester)
  /-- OSTLER_MEMORY_ERROR (R241): An uncorrectable read of ostler memory sets ECC_OHOLD.HOLD, holds signal-box waits and restarts the ostler. -/
  | ostlerMemoryError (addr : BitVec 48)
  /-- OHOLD_RELEASE (R241): A write of 1 to ECC_OHOLD.HOLD lets held signal-box waits proceed 1 M-cycle later. -/
  | oholdRelease (req : Requester)
  /-- CHUNK_DIGEST_CHECK (R252): The hash engines finish a chunk in staging, copying it to its place when the digest matches or discarding and counting it otherwise. -/
  | chunkDigestCheck (chunk : Nat) (repair : Bool)
  /-- BAY_SET (R254): A write of LFT_BAYx_SET requests a listed bay transition, or is refused with event 0x5008. -/
  | baySet (req : Requester) (bay : Fin 2) (state : Fin 8)
  /-- LOFT_SWITCH (R259): A write of LFT_SWITCH makes a READY or DRAINING bay ACTIVE, raises LFT_GEN and drains the old bay. -/
  | loftSwitch (req : Requester) (bay : Fin 2)
  /-- REFOP_INCREMENT (R260): A write of LFT_REFOP with DEC = 0 raises the REFS of the active bay, or is refused. -/
  | refopIncrement (req : Requester) (bay : Fin 2) (n : W16)
  /-- REFOP_DECREMENT (R261): A write of LFT_REFOP with DEC = 1 lowers a bay's REFS, releasing a DRAINING bay at 0. -/
  | refopDecrement (req : Requester) (bay : Fin 2) (n : W16)
  /-- MIGRATION_START (R264): Migration of DDR5 bands into HBM begins when the active bay holds DDR5 bands and free HBM exists. -/
  | migrationStart
  /-- BAND_MIGRATED (R264): A migrated band's copy ends, its placement entry is rewritten and its DDR5 copy is freed, or migration ends with event 0x5009. -/
  | bandMigrated
  /-- BUILD_TIMEOUT (R266): No chunk arrives for LFT_BTIMEOUT seconds and the build fails with cause 10. -/
  | buildTimeout
  /-- LTE_ASSIGN (R275): A write of LTE_CTRL.ASSIGN runs the start-up sequence of the light. -/
  | lteAssign (req : Requester) (lock0 lock1 : Bool) (sweeps : List RingSweep)
  /-- LTE_RELIGHT (R275): A write of LTE_CTRL.RELIGHT runs the start-up sequence of the light from dark. -/
  | lteRelight (req : Requester) (lock0 lock1 : Bool) (sweeps : List RingSweep)
  /-- LTE_DARK (R356): A write of LTE_CTRL.DARK switches the lasers off for dark standby and holds every stall. -/
  | lteDark (req : Requester)
  /-- LTE_RESTORE (R286): A write of LTE_CTRL.RESTORE returns each half to its own comb die and every stall to its own carrier. -/
  | lteRestore (req : Requester) (pass0 pass1 : Bool)
  /-- LIGHT_SEQUENCE_END (R278): Step 6 of the light start-up ends and event 0x6007 is raised. -/
  | lightSequenceEnd
  /-- PILOT_CHECK_DUE (R281): A locked ring's pilot check falls due at its period, on a fault, on wide capture clearing, or on RECHECK. -/
  | pilotCheckDue (ring : Fin 528)
  /-- PILOT_CHECK_RESULT (R280): A pilot check window closes and gives PASS, WRONG, UNKNOWN or LOST for its ring. -/
  | pilotCheckResult (ring : Fin 528) (meas : PilotMeas)
  /-- COMB_DIE_FAILURE (R285): A comb die loses spacing lock for 10 ms, loses more than 8 lines or overheats, and its bias is switched off. -/
  | combDieFailure (die : Fin 2) (reason : Fin 4)
  /-- REDISTRIBUTION_SETTLED (R285): The yard redistribution switch settles and every ring is captured and checked again. -/
  | redistributionSettled
  /-- RING_STOP (R288): A write of LTE_RING_CTRL.STOP takes the ring to OFF with its loop frozen. -/
  | ringStop (req : Requester) (ring : Fin 528)
  /-- RING_START (R288): A write of LTE_RING_CTRL.START in OFF recovers the ring toward its assigned line. -/
  | ringStart (req : Requester) (ring : Fin 528)
  /-- RING_RECHECK (R281): A write of LTE_RING_CTRL.RECHECK runs a pilot check of the ring at once. -/
  | ringRecheck (req : Requester) (ring : Fin 528)
  /-- RING_CFG_WRITE (R288): A write of LTE_RING_CFG is accepted only while the ring is OFF, or is refused with event 0x6008. -/
  | ringCfgWrite (req : Requester) (ring : Fin 528) (value : W32)
  /-- ACCUMULATOR_LATCH (R296): At a frame boundary that ends its period an accumulator latches its results, advances PSEQ and restarts. -/
  | accumulatorLatch (conv : Fin 48) (acc : Fin 128)
  /-- MONITOR_START (R298): A write of MON_CTRL.START in STOPPED resumes conversion at the next frame boundary. -/
  | monitorStart (req : Requester) (conv : Fin 48)
  /-- MONITOR_STOP (R298): A write of MON_CTRL.STOP stops conversion at the next frame boundary. -/
  | monitorStop (req : Requester) (conv : Fin 48)
  /-- MONITOR_CAL (R299): A write of MON_CTRL.CAL starts a self-calibration at the next frame boundary. -/
  | monitorCal (req : Requester) (conv : Fin 48)
  /-- CALIBRATION_END (R300): A self-calibration ends after 4.2 ms and writes MON_CALF, or rejects the result with event 0x7801. -/
  | calibrationEnd (conv : Fin 48) (ground ref : Nat)
  /-- ACC_CONFIG_WRITE (R298): A write of an accumulator's configuration is accepted when allowed, stopping it at once when only RUN goes OFF, or refused with event 0x7802. -/
  | accConfigWrite (req : Requester) (conv : Fin 48) (reg : MonReg) (value : W32)
  /-- TRM_CODE_WRITE (R303): A write of TRM_CODE switches the tap, parks the channel, or begins a range-change hold. -/
  | trmCodeWrite (req : Requester) (chan : Fin 1024) (code : BitVec 12) (x2 en : Bool)
  /-- RANGE_HOLD_RELEASE (R305): A trim channel's range-change hold ends and the output is released to the pending code. -/
  | rangeHoldRelease (chan : Fin 1024)
  /-- LOOP_EXECUTION (R310): A loop executes in its slot of a frame, reading inputs, slewing its set-point, running its stages and buffering its output. -/
  | loopExecution (loop : Fin 6144)
  /-- OUTPUT_PHASE (R311): At C-cycle 19,992 of a frame the rein engine writes every buffered loop output to its destination. -/
  | outputPhase
  /-- BANK_STOP (R332): A write of RN_BANK_CTRL.STOP makes a bank STOPPING, and it becomes STOPPED at the next frame boundary. -/
  | bankStop (req : Requester) (bank : Fin 24)
  /-- BANK_START (R333): A write of RN_BANK_CTRL.START checks the bank's loops and starts it at the next frame boundary, or refuses with event 0x7003. -/
  | bankStart (req : Requester) (bank : Fin 24)
  /-- LOOP_FIELD_WRITE (R332): A write of a stopped-only loop field while its bank runs is refused with event 0x7002. -/
  | loopFieldWrite (req : Requester) (loop : Fin 6144) (word : LoopOffset) (value : W32)
  /-- FREEZE_WRITE (R327): A write of RN_LP_RUN.FREEZE freezes or releases a loop. -/
  | freezeWrite (req : Requester) (loop : Fin 6144) (freeze : Bool)
  /-- FARRIER_START (R353): A write of FAR_CTRL.START in STOPPED returns the farrier to RUN with its queue intact. -/
  | farrierStart (req : Requester)
  /-- FARRIER_STOP (R349): A write of FAR_CTRL.STOP abandons the attempt in progress and the farrier becomes STOPPED. -/
  | farrierStop (req : Requester)
  /-- RUNALL (R341): A write of FAR_CTRL.RUNALL queues every stall and port lane for a run. -/
  | runall (req : Requester)
  /-- FAR_STALL_RUN (R341): A write of FAR_STALL_CTRL.RUN queues a stall for a run. -/
  | farStallRun (req : Requester) (stall : Fin 16)
  /-- FAR_STALL_RELEASE (R346): A write of FAR_STALL_CTRL.RELEASE clears HOLD_FAR on a degraded stall. -/
  | farStallRelease (req : Requester) (stall : Fin 16)
  /-- FAR_PORT_LANERUN (R341): A write of FAR_PORT_LANERUN queues port lanes for a run. -/
  | farPortLanerun (req : Requester) (port : Fin 8) (lanes : W32)
  /-- CALIBRATION_AGE_EXPIRY (R341): FAR_MAXAGE hours pass since a stall's or lane's last accepted run and it is queued. -/
  | calibrationAgeExpiry (unit : FarUnit) (hours : Nat)
  /-- FARRIER_QUIESCED (R343): A stall under HOLD_FAR finishes its accepted work and the farrier takes the strings, cells and detectors. -/
  | farrierQuiesced (stall : Fin 16)
  /-- STALL_RUN_START (R342): The farrier takes the next queued stall and sets HOLD_FAR to begin a run or re-interpolation. -/
  | stallRunStart
  /-- ATTEMPT_END (R345): A run attempt's measurements A and B are compared and verified, and the attempt is accepted or rejected. -/
  | attemptEnd (a b : StallMeas) (phaseOk refOk : Bool)
  /-- REINTERPOLATION (R348): The farrier writes the interpolated corrections for a stall's present temperature, verifying the reference column for a thermally held stall. -/
  | reinterpolation (stall : Fin 16) (verified : Bool)
  /-- PORT_LANE_RUN (R351): A port lane released to the farrier is measured twice in loopback, compared and written or rejected. -/
  | portLaneRun (port : Fin 8) (a b : LaneMeas)
  /-- RESIDUAL_STORE_WRITE (R352): The farrier writes a changed residual to the non-volatile store once per FAR_NVINT seconds, or on entry to dark standby. -/
  | residualStoreWrite (unit : FarUnit) (elapsed : Nat)
  /-- PRECHARGE_COMPLETE (R357): The input capacitance charge completes and the power stage begins the rail sequence. -/
  | prechargeComplete (refclk : Bool)
  /-- RAIL_VALID (R358): The last rail comes within limits, RAILOK is released and start-up begins. -/
  | railValid
  /-- REFCLK_RETRY (R490): With no reference clock detected the power stage holds rail 2 off and tries again every 100 ms. -/
  | refclkRetry (refclk : Bool)
  /-- INPUT_WARNING (R359): PWR_IN held outside a warning threshold raises or clears event 0x9007. -/
  | inputWarning (ovr set : Bool) (vin iin : Fin 4096)
  /-- FORCED_DEMAND (R359): Undervoltage or overcurrent held for its time forces shed demand to 3 until it ends. -/
  | forcedDemand (overcurrent begins : Bool) (vin iin : Fin 4096)
  /-- PACKAGE_TRIP (R376): A trip condition turns every rail off in reverse order and records its cause in PWR_LASTTRIP. -/
  | packageTrip (cause : Fin 8) (vin iin : Fin 4096)
  /-- BUDGET_UPDATE (R360): At a frame boundary the power block updates RN_PBUDGET from the budget source and its limits. -/
  | budgetUpdate (vin iin : Fin 4096)
  /-- PBUDGET_ABSENT (R361): The PBUDGET signal is absent for 10 ms, the budget takes the fallback and event 0x9009 is raised. -/
  | pbudgetAbsent
  /-- PBUDGET_RESTORED (R361): The PBUDGET signal is valid again for 100 ms, the budget returns to the decoded value and event 0x9009 is raised. -/
  | pbudgetRestored
  /-- PDEMAND_UPDATE (R362): Ostler firmware writes both PDEMAND outputs every 100 ms. -/
  | pdemandUpdate (p0 p1 : Nat)
  /-- SHED_DEMAND_APPLY (R363): A new shed demand reaches the stall issue logic and sets the pause, the parked stalls and the comb power. -/
  | shedDemandApply
  /-- STALL_UNPARK (R365): An unparked stall clears HOLD_THM 50 µs after the output phase that lowered the count. -/
  | stallUnpark (stall : Fin 16)
  /-- OVERBUDGET_CLEAR (R367): The package power loop output stays below 3 for 1 s and OVERBUDGET and FAULT clear. -/
  | overbudgetClear
  /-- SENSOR_READING (R368): Each on-die sensor is converted once per frame, giving die temperatures, bands and the rate test. -/
  | sensorReading (die : Fin 6) (readings : List Int)
  /-- CONTACT_SENSOR_READ (R369): The power stage measures the TSNS pairs and thermistors every 1 ms and acts on their limits. -/
  | contactSensorRead (readings : List (Option Int))
  /-- QUIET_PERIOD_END (R374): The rate test passes for THM_QUIET, wide capture clears and the die's rings are checked. -/
  | quietPeriodEnd (die : Fin 4)
  /-- TRIP_END (R374): No stall of the die holds HOLD_THM for the trip, the trip ends with event 0x9003 and the hold-off begins. -/
  | tripEnd (die : Fin 4)
  /-- HOLDOFF_END (R374): THM_HOLDOFF.MS passes after a trip and the die's minimum pause is lifted. -/
  | holdoffEnd (die : Fin 4)
  /-- RECOVERY_OVERRUN (R375): A trip has not ended THM_RECMAX ms after it began and event 0x9004 is raised once. -/
  | recoveryOverrun (die : Fin 4) (ms : Nat)
  /-- DIE_TRIP_END (R376): The tripped die or stack stays below 95 °C for 100 ms and the die trip ends. -/
  | dieTripEnd (die : Fin 4) (stack : Fin 9)
  /-- SEND_ARM (R389): A write of DRV_SQ_ARM checks and queues a send descriptor with a status. -/
  | sendArm (reg : PortAt) (addr : BitVec 48)
  /-- LANE_FRAME_START (R384): A lane frame begins and the sender places a data frame and C0 frames on the lane. -/
  | laneFrameStart (port : Fin 8)
  /-- DATA_FRAME_RECEIVE (R391): A receiver decodes a data frame, accepts and writes it or refuses it, and answers it in an ACK. -/
  | dataFrameReceive (port : Fin 8) (frame : DataFrame) (tagOk : Bool) (errs : List Nat)
  /-- ACK_RECEIVE (R392): A sender receives an ACK frame and marks frames accepted or resends busy ones. -/
  | ackReceive (port : Fin 8) (src : Fin 16) (entries : List AckEntry)
  /-- FRAME_RESEND_TIMEOUT (R392): A frame not accepted within 4 lane frames is resent, or its transfer fails after 8 resends. -/
  | frameResendTimeout (port : Fin 8) (key : ResendKey)
  /-- TRANSFER_RECEIVED (R393): Every frame of a transfer has been written at the receiver and the remote signal box is incremented. -/
  | transferReceived (port : Fin 8) (src : Fin 16) (xfer : W16)
  /-- TRANSFER_DONE (R393): Every frame of a transfer has been accepted and the sender increments DONE. -/
  | transferDone (port : Fin 8) (xfer : W16)
  /-- RESERVATION (R396): A star member sends a reservation in a random slot and hears it back, backing off after a failure. -/
  | reservation (port : Fin 8) (slot : Fin 32) (heard : Bool) (draw : Nat)
  /-- RESERVATION_BACKOFF_END (R396): A member's backoff of w frames after failed reservations ends and it reserves again. -/
  | reservationBackoffEnd (port : Fin 8)
  /-- GRANT (R397): The star leader grants the data lanes of frame n + 2 in its segment of frame n + 1. -/
  | grant (port : Fin 8) (heard : List ResReq) (owners : List Nat) (news : GrantNews)
  /-- OWNED_SLOT (R398): A star member sends its C0 frame with its lane masks in its owned slot. -/
  | ownedSlot (slot : OwnSlot)
  /-- MEMBER_SILENT (R398): A member not heard in its owned slot for 256 frames is taken to have left the herd. -/
  | memberSilent (port : Fin 8) (idx : Fin 16)
  /-- LEADER_ELECTION (R399): The leader segment fails to decode for 4 frames and members take the lowest heard index as leader. -/
  | leaderElection (port : Fin 8) (idx : Fin 16)
  /-- HANDOVER (R399): A HANDOVER frame passes leadership to another member 8 frames later. -/
  | handover (port : Fin 8) (idx : Fin 16)
  /-- C0_TX_ARM (R400): A write of DRV_C0TX_ARM queues a C0 frame to seal and send. -/
  | c0TxArm (req : Requester) (port : Fin 8) (addr : BitVec 48)
  /-- C0_FRAME_RECEIVE (R400): A port writes a received C0 frame into its ring, or drops and counts it when the ring is full. -/
  | c0FrameReceive (port : Fin 8) (frame : C0Frame) (tagOk : Bool) (errs : Nat)
  /-- EPOCH_CHANGE (R388): The leader opens a new key epoch and sends the key in KEY frames effective 64 frames later. -/
  | epochChange (port : Fin 8) (reason : Fin 4) (epoch : W32) (starts : KeyStart)
  /-- ADMIT (R403): An ADMIT frame carries one step of the attested admission of a joining member. -/
  | admitFrame (port : Fin 8) (msg : AdmitMsg)
  /-- LEAVE (R404): A LEAVE frame removes a member, and the leader opens a new epoch. -/
  | leave (port : Fin 8) (idx : Fin 16) (removed : Bool)
  /-- LANE_DROP (R406): A lane leaves service for its ring, its errors, the farrier or the far end, and event 0xA003 is raised. -/
  | laneDrop (port : Fin 8) (lane : Fin 32) (rx : Bool) (cause : Fin 5)
  /-- LANEMAP (R407): A LANEMAP frame announces a new lane mask that takes effect at frame N + 8. -/
  | lanemap (port : Fin 8) (src : Fin 16) (tx rx : W32)
  /-- LANE_PROBE (R408): A lane dropped on errors is probed every RESTORE seconds and returns if no uncorrectable codeword is seen. -/
  | laneProbe (port : Fin 8) (lane : Fin 32) (rx : Bool) (ucw : Nat)
  /-- SUSPEND (R409): A SUSPEND frame takes a star member out of the traffic 8 frames later. -/
  | suspend (port : Fin 8) (idx : Fin 16)
  /-- RESUME (R409): A RESUME frame returns a suspended member to the star. -/
  | resume (port : Fin 8) (idx : Fin 16)
  /-- SUSPENSION_TIMEOUT (R409): A suspension longer than 16 ms counts as the member leaving. -/
  | suspensionTimeout (port : Fin 8) (idx : Fin 16) (us : Nat)
  /-- PORT_START (R410): A write of DRV_CTRL.START in STOPPED enters TRAINING. -/
  | portStart (req : Requester) (port : Fin 8)
  /-- PORT_TRAINING_END (R410): Port training ends after 64 lane frames and the port enters ADMITTING or stays down. -/
  | portTrainingEnd (port : Fin 8) (tx rx : W32)
  /-- ADMISSION_TIMEOUT (R410): A port in ADMITTING not admitted within 10 s becomes DOWN. -/
  | admissionTimeout (port : Fin 8)
  /-- PORT_STOP (R410): A write of DRV_CTRL.STOP sends LEAVE, fails queued transfers and stops the port. -/
  | portStop (req : Requester) (port : Fin 8)
  /-- PORT_STOPPED (R410): The stopping port's last lane frame ends and it becomes STOPPED. -/
  | portStopped (port : Fin 8)
  /-- DRV_CONFIG_WRITE (R410): A write of DRV_CFG, DRV_HERD_ID or DRV_HERD_INDEX is accepted only with the ports stopped, or is refused with event 0xA00C. -/
  | drvConfigWrite (req : Requester) (reg : DrvCfgReg) (value : W64)
  /-- RXWIN_WRITE (R411): A write of a receive window takes effect at the next lane frame boundary. -/
  | rxwinWrite (reg : PortAt) (window : Fin 8) (part : WinPart) (value : W64)
  /-- PORCH_WRITE (R420): A host write burst to a channel writes its unmasked bytes to the porch offset of R420. -/
  | porchWrite (chan : Fin 4) (bg : Fin 4) (ba : Fin 16) (col : Fin 64) (bytes : List (Option Byte))
  /-- PORCH_READ (R422): A host read burst returns porch units whole before or after any device write. -/
  | porchRead (chan : Fin 4) (bg : Fin 4) (ba : Fin 16) (col : Fin 64) (long : Bool)
  /-- MODE_REGISTER_WRITE (R417): A host mode register write sets the field, with unsupported enables forced to 0. -/
  | modeRegisterWrite (chan : Fin 4) (reg : Byte) (value unsupported : Byte)
  /-- MODE_REGISTER_READ (R417): A host mode register read returns the values of Table 16.2 or the last written values. -/
  | modeRegisterRead (chan : Fin 4) (reg : Byte)
  /-- HOST_REFRESH (R418): A REF or RFM command is accepted and ignored. -/
  | hostRefresh (chan : Fin 4)
  /-- HOST_CHANNEL_RESET (R419): A channel's own reset contact returns its mode registers and training to reset, keeping the porch and mailbox. -/
  | hostChannelReset (chan : Fin 4)
  /-- SQ_TAIL_WRITE (R425): A host write of SQ_TAIL offers new submission entries, or halts the mailbox when it moves backwards. -/
  | sqTailWrite (chan : Fin 4) (tail : Fin 4096)
  /-- CQ_HEAD_WRITE (R427): A host write of CQ_HEAD frees completion entries, or halts the mailbox when out of range. -/
  | cqHeadWrite (chan : Fin 4) (head : Fin 4096)
  /-- MAILBOX_RESET (R428): A write of MB_CTRL.RESET cancels the mailbox's commands, zeroes its pointers and returns it to READY. -/
  | mailboxReset (chan : Fin 4)
  /-- NOTICE_ACK (R423): A write of MB_CTRL.ACK clears NOTICE. -/
  | noticeAck (chan : Fin 4)
  /-- SUBMISSION_TAKE (R426): Ostler firmware copies the next submission entry, advances SQ_HEAD and starts the command. -/
  | submissionTake (chan : Fin 4)
  /-- COMPLETION_WRITE (R426): Ostler firmware writes a command's completion entry at CQ_TAIL and advances CQ_TAIL. -/
  | completionWrite (chan : Fin 4)
  /-- IDENTIFY (R433): Rewrites the identity page and returns its first bytes. -/
  | identify (chan : Fin 4)
  /-- STATUS (R433): Returns the service level, loft state, sessions, batches and generation. -/
  | status (chan : Fin 4)
  /-- ATTEST (R456): Writes a signed attestation report bound to the host's nonce. -/
  | attest (chan : Fin 4)
  /-- SESSION_OPEN (R434): Reserves KV space in a tier and opens a session. -/
  | sessionOpen (chan : Fin 4)
  /-- SESSION_CLOSE (R434): Closes a session once no batch holds it. -/
  | sessionClose (chan : Fin 4)
  /-- SESSION_INFO (R433): Returns a session's tokens held and the generation of its KV cache. -/
  | sessionInfo (chan : Fin 4)
  /-- BATCH (R435): Admits a batch of requests bound to one bay and generation, waiting while 64 batches are admitted. -/
  | batch (chan : Fin 4)
  /-- BATCH_ADMIT (R435): A waiting BATCH is taken once fewer than 64 batches are admitted. -/
  | batchAdmit (chan : Fin 4)
  /-- BATCH_END (R435): Every request of a batch has ended and the BATCH completes with its result records. -/
  | batchEnd (place : Nat) (aborted : Bool) (outcomes : List ReqOutcome)
  /-- BATCH_CANCEL (R435): Ends every unfinished request of a batch at its next token boundary. -/
  | batchCancel (chan : Fin 4)
  /-- BUNDLE_BEGIN (R436): Makes a bay BUILDING and runs the header, signature and table checks of a bundle. -/
  | bundleBegin (chan : Fin 4)
  /-- BUNDLE_PIECE (R436): Delivers a piece of a chunk into staging, or of a repair chunk. -/
  | bundlePiece (chan : Fin 4)
  /-- BUNDLE_ABORT (R436): Fails the build in progress with cause 13. -/
  | bundleAbort (chan : Fin 4)
  /-- BAY_DISCARD (R436): Returns a READY bay to EMPTY. -/
  | bayDiscard (chan : Fin 4)
  /-- SWITCH (R436): Writes LFT_SWITCH between two admissions to make a bay ACTIVE. -/
  | switch (chan : Fin 4)
  /-- SLOT_LIST (R433): Writes the 64 adapter slot entries of a bay. -/
  | slotList (chan : Fin 4)
  /-- CAL_RUN (R433): Queues farrier runs for the named stalls and lanes. -/
  | calRun (chan : Fin 4)
  /-- CAL_STATUS (R433): Returns the valid and degraded stalls and the farrier state. -/
  | calStatus (chan : Fin 4)
  /-- POWER_SET (R439): Writes the given fields of PWR_PBCFG, PWR_LIMIT and PWR_PBFIX. -/
  | powerSet (chan : Fin 4)
  /-- CAPACITY_SET (R439): Sets the HBM and DDR5 space reserved for sessions. -/
  | capacitySet (chan : Fin 4)
  /-- DARK (R439): Enters dark standby after admitted batches end, or relights the device. -/
  | dark (chan : Fin 4) (lock0 lock1 : Bool) (sweeps : List RingSweep)
  /-- UNIT_STOP (R438): Writes STOP to a unit and completes when it reads STOPPED or the timeout passes. -/
  | unitStop (chan : Fin 4)
  /-- UNIT_START (R438): Writes START to a stopped unit. -/
  | unitStart (chan : Fin 4)
  /-- CFG_WRITE (R437): Writes a register over the bridleway for the host, unless refused with DENIED. -/
  | cfgWrite (chan : Fin 4)
  /-- CFG_READ (R437): Reads a register over the bridleway for the host. -/
  | cfgRead (chan : Fin 4)
  /-- HERD_SET (R439): Writes the herd identity, own index and roster with every port stopped. -/
  | herdSet (chan : Fin 4)
  /-- EVENT_FILTER (R440): Chooses which event classes are copied into the event rings. -/
  | eventFilter (chan : Fin 4)
  /-- APERTURE_WRITE (R441): A host write burst to the aperture writes device memory or a register in class C0, or is dropped with event 0xB003. -/
  | apertureWrite (chan : Fin 4) (unit : Fin 32768) (bytes : List (Option Byte))
  /-- RD_GO (R442): A write of RD_GO starts the reader fetching device memory into the data area. -/
  | rdGo (chan : Fin 4)
  /-- READER_DONE (R442): The reader's last line returns and STATE becomes done with its result. -/
  | readerDone (chan : Fin 4)
  /-- BOOT (R451): The tack room checks and runs its firmware, derives the identity keys and loads and releases the ostler. -/
  | boot (kat fuses : Bool)
  /-- INBOX_POLL (R461): Every 100 ms the tack room examines its inbox for a request. -/
  | inboxPoll
  /-- OWNER_SET (R462): An inbox request that sets or replaces the owner key. -/
  | ownerSet (storeOk : Bool)
  /-- KEY_ENROL (R462): An inbox request that writes a publisher key into a slot. -/
  | keyEnrol (storeOk : Bool)
  /-- KEY_REVOKE (R462): An inbox request that empties a publisher key slot. -/
  | keyRevoke (storeOk : Bool)
  /-- ROLLBACK_COMMIT (R453): An inbox request that raises the rollback counter by blowing fuses. -/
  | rollbackCommit
  /-- FW_INSTALL (R452): An inbox request that installs a firmware image as the trial primary. -/
  | fwInstall (storeOk : Bool)
  /-- TRIAL_TIMEOUT (R452): A trial ostler image has not reached READY 60 s after boot, and the tack room reverts it and resets the package. -/
  | trialTimeout (seconds : Nat)
  /-- SIGN (R458): The signer reserves indices as needed and signs a report with the next HSS index. -/
  | sign
  /-- TREE_BUILD_DONE (R460): The signer finishes building its authentication paths or next lower tree, releasing waiting requests. -/
  | treeBuildDone
  /-- POWER_ON_RESET (R468): PWR_IN rises through 42 V with the rails off, or RESET_N after a package trip, and the device starts from power-on state. -/
  | powerOnReset (keepTrip : Bool)
  /-- PACKAGE_RESET (R469): A package reset keeps rails and memory, resets registers and reruns boot and start-up. -/
  | packageReset (cause : BitVec 3)
  /-- RESET_N_LOW (R468): RESET_N held low for at least 10 µs causes a package or power-on reset. -/
  | resetNLow (micros : Nat)
  /-- PKGRESET (R468): A write of EVT_CTRL.PKGRESET with KEY 0xB5 causes a package reset. -/
  | pkgreset (req : Requester) (key : BitVec 8)
  /-- OSTLER_RESTART (R471): The ostler is restarted and reloaded while the tack room, memory and lasers run on. -/
  | ostlerRestart (cause : BitVec 2)
  /-- WATCHDOG_KICK (R471): A write of EVT_WDOG.KICK restarts the watchdog period. -/
  | watchdogKick (req : Requester)
  /-- WATCHDOG_EXPIRY (R471): A watchdog period passes with no kick and the tack room restarts the ostler. -/
  | watchdogExpiry
  /-- PHASE_OSTLER_START (R466): Start-up phase 2 reads the store, applies repairs and writes the identity page. -/
  | phaseOstlerStart
  /-- PHASE_MEMORY (R466): Start-up phase 3 trains HBM and DDR5 in parallel. -/
  | phaseMemory (hbm : BitVec 8) (d : DdrTraining)
  /-- PHASE_LIGHT (R466): Start-up phase 5 calibrates monitors, starts rein banks and the farrier, runs the light and the first farrier runs. -/
  | phaseLight (lock0 lock1 : Bool) (sweeps : List RingSweep)
  /-- PHASE_SERVICE_READY (R466): Start-up phase 6 runs known-answer tests, sets the service level, makes the mailboxes READY and raises event 0xD001. -/
  | phaseServiceReady (katStall : BitVec 16) (katShed : W64)
  /-- PHASE_OVERRUN (R467): A start-up phase runs past its worst time and event 0xD004 is raised. -/
  | phaseOverrun (phase : BitVec 3) (ms : W32)
  /-- SERVICE_LEVEL_CHANGE (R475): Ostler firmware recomputes the service level after a unit changes state and raises event 0xD002 when it changes. -/
  | serviceLevelChange (code : BitVec 16)
  /-- EVENT_POP (R478): A write of EVT_CTRL.POP removes the head record of the event queue. -/
  | eventPop
  /-- LASER_EN_FALL (R491): LASER_EN falls and the comb bias turns off within 1 ms, acting as dark and holding every stall. -/
  | laserEnFall
  /-- LASER_EN_RISE (R491): LASER_EN rises and ostler firmware writes RELIGHT within 100 ms. -/
  | laserEnRise
  /-- CONVERSION (R292): At C-cycle 50K every monitor converter samples, corrects the code under R301 and adds x into its accumulator sum, count and trackers under R294 and R295. -/
  | conversion (raw : List (BitVec 12))
  /-- PBUDGET_SAMPLE (R361): The power stage samples the PBUDGET contact every 1 µs and, in pulse mode, enters each period's budget into the 10 ms filter when the period ends. -/
  | pbudgetSample (sample : PbSample)
  /-- HOST_CHANNEL_TRAINING (R416): The host runs the LPDDR5X training procedures on a channel, which moves HPT_STATUS.STATE through TRAINING to ACTIVE and raises event 0xB001. -/
  | hostChannelTraining (chan : Fin 4) (rate : Fin 16384) (bank16 fsp : Bool)
  /-- SELF_REFRESH_ENTRY (R416): A host self-refresh (or deep-sleep) entry command puts the channel in SELF_REFRESH with the porch retained, raising event 0xB001. -/
  | selfRefreshEntry (chan : Fin 4)
  /-- SELF_REFRESH_EXIT (R416): A host self-refresh exit command returns the channel from SELF_REFRESH to ACTIVE, raising event 0xB001. -/
  | selfRefreshExit (chan : Fin 4)
  /-- POWER_DOWN_ENTRY (R416): A host power-down entry command puts the channel in POWER_DOWN with the porch retained, raising event 0xB001. -/
  | powerDownEntry (chan : Fin 4)
  /-- POWER_DOWN_EXIT (R416): A host power-down exit command returns the channel from POWER_DOWN to ACTIVE, raising event 0xB001. -/
  | powerDownExit (chan : Fin 4)
  /-- HOST_CK_START (R419): CK begins to arrive on a host channel that read ABSENT, so the channel leaves ABSENT and becomes trainable. -/
  | hostCkStart (ck : CkChange)
  /-- ROW_ACTIVATE (R418): A host ACTIVATE or PRECHARGE command selects the row that later column commands of that bank address in the porch map. -/
  | rowActivate (chan : Fin 4) (bg : Fin 4) (ba : Fin 16) (row : W16) (activate : Bool)
  deriving DecidableEq, Repr

end Sys2Proof
end

