-- ==== Sys2Proof/Decode.lean ====
section
/-! DEFINITION. The commands that a word of the command table's bits spells. -/
namespace Sys2Proof

/-- No row of spec/opcode_table.json gives bits: a word spells no command. -/
def decodeTableWord (_nbits _w : Nat) : Option Instr := none

end Sys2Proof
end

