-- ==== Sys2Proof/Machine/Integrity.lean ====
section
/-! DEFINITION. The codes of chapter 08 as pure functions: the byte-guard code of the mangers (R217 to R220) and the
Reed–Solomon line codes of HBM and DDR5 (R221 to R224). -/
namespace Sys2Proof.Machine

/-- R217: the address fold F(a). -/
def addrFold (a : Nat) : Nat :=
  ((List.range 7).foldl (fun f i => f ^^^ (a / 2 ^ (4 * i) % 16)) 0) ^^^ (a / 2 ^ 28 % 4)

/-- Exclusive-or of the columns whose bit is set. -/
def xorColumns : List Nat → Nat → Nat
  | [], _ => 0
  | c :: t, v => (if v % 2 = 1 then c else 0) ^^^ xorColumns t (v / 2)

/-- Table 8.1: the data columns d0 to d7 and the fold columns f0 to f3. -/
def guardData : List Nat := [0x0B, 0x0D, 0x0E, 0x13, 0x15, 0x16, 0x1A, 0x1C]
def guardFold : List Nat := [0x03, 0x06, 0x0C, 0x18]

/-- R218: the check bits of data `d` at address `a`. -/
def guardCheck (d a : Nat) : Nat := xorColumns guardData d ^^^ xorColumns guardFold (addrFold a)

/-- Table 8.2: what a syndrome means. -/
inductive GuardRead
  | ok
  | fixData (bit : Nat)
  | fixCheck
  | poison
  | bad
  deriving DecidableEq, Repr

/-- Table 8.2. -/
def guardAct (syn : Nat) : GuardRead :=
  if syn = 0 then .ok
  else if syn = 0x1F then .poison
  else if syn = 1 ∨ syn = 2 ∨ syn = 4 ∨ syn = 8 ∨ syn = 16 then .fixCheck
  else
    let i := guardData.findIdx (· == syn)
    if i < 8 then .fixData i else .bad

/-- Which line code: HBM or DDR5 (R222). -/
inductive Line
  | hbm | ddr
  deriving DecidableEq, Repr

/-- R222: the number of bits of a symbol, and the field polynomial. -/
def Line.m : Line → Nat
  | .hbm => 8
  | .ddr => 16
def Line.poly : Line → Nat
  | .hbm => 0x11D
  | .ddr => 0x1100B

/-- R222: address symbols, data symbols. -/
def Line.nAddr : Line → Nat
  | .hbm => 4
  | .ddr => 3
def Line.nData : Line → Nat
  | .hbm => 64
  | .ddr => 32

/-- The length of a codeword. -/
def Line.len (c : Line) : Nat := c.nAddr + c.nData + 8

/-- Multiplication by α. -/
def Line.xtime (c : Line) (a : Nat) : Nat :=
  let b := a * 2
  if 2 ^ c.m ≤ b then b ^^^ c.poly else b

/-- Multiplication in the field, over the bits of `b`. -/
def Line.mulN (c : Line) : Nat → Nat → Nat → Nat
  | 0, _, _ => 0
  | n + 1, a, b => (if b % 2 = 1 then a else 0) ^^^ c.mulN n (c.xtime a) (b / 2)

def Line.mul (c : Line) (a b : Nat) : Nat := c.mulN c.m a b

/-- The power `a^n`. -/
def Line.powN (c : Line) (a : Nat) : Nat → Nat
  | 0 => 1
  | n + 1 => c.mul a (c.powN a n)

/-- α^n. -/
def Line.alpha (c : Line) : Nat → Nat
  | 0 => 1
  | n + 1 => c.xtime (c.alpha n)

/-- The inverse a^(2^m − 2): the product of a^(2^i), i = 1 … m − 1. -/
def Line.invN (c : Line) : Nat → Nat → Nat
  | 0, _ => 1
  | n + 1, a => let q := c.mul a a; c.mul q (c.invN n q)
def Line.inv (c : Line) (a : Nat) : Nat := c.invN (c.m - 1) a

/-- Polynomials are coefficient lists, lowest degree first. -/
def polyAdd : List Nat → List Nat → List Nat
  | [], q => q
  | p, [] => p
  | a :: p, b :: q => (a ^^^ b) :: polyAdd p q
def Line.polyScale (c : Line) (k : Nat) (p : List Nat) : List Nat := p.map (c.mul k)
def Line.polyMul (c : Line) : List Nat → List Nat → List Nat
  | [], _ => []
  | a :: p, q => polyAdd (c.polyScale a q) (0 :: c.polyMul p q)
def Line.eval (c : Line) (x : Nat) : List Nat → Nat
  | [] => 0
  | a :: p => a ^^^ c.mul x (c.eval x p)

/-- R221: the generator (x + α^0) … (x + α^7). -/
def Line.gen (c : Line) : List Nat :=
  (List.range 8).foldl (fun g i => c.polyMul [c.alpha i, 1] g) [1]

/-- One step of the division by g: the 8-symbol remainder register, highest degree first, takes the next message symbol. -/
def Line.encStep (c : Line) (g : List Nat) (r : List Nat) (sym : Nat) : List Nat :=
  let f := sym ^^^ r.headD 0
  (List.zip (r.drop 1 ++ [0]) (((g.take 8).reverse).map (c.mul f))).map (fun x => x.1 ^^^ x.2)

/-- R221: the check symbols of a message, given with the symbol of highest degree first; so are the check symbols. -/
def Line.encode (c : Line) (msg : List Nat) : List Nat :=
  msg.foldl (c.encStep c.gen) (List.replicate 8 0)

/-- Bit `l` mod 8 of byte 4t + l/8 of a burst (R221): what data lane `l` carries in beat `t`. -/
def laneBit (burst : List Nat) (l t : Nat) : Nat := burst.getD (4 * t + l / 8) 0 / 2 ^ (l % 8) % 2

/-- The bits given, least significant first, as a number. -/
def ofBits : List Nat → Nat
  | [] => 0
  | b :: t => b + 2 * ofBits t

/-- R222: data symbol `j` (in index order) of a burst's 64 bytes. -/
def Line.dataSym (c : Line) (burst : List Nat) (j : Nat) : Nat :=
  match c with
  | .hbm => ofBits ((List.range 8).map (fun b => laneBit burst (j % 32) (8 * (j / 32) + b)))
  | .ddr => ofBits ((List.range 16).map (fun b => laneBit burst (4 * (j % 8) + b % 4) (4 * (j / 8) + b / 4)))

/-- R222: the data symbols of a burst. -/
def Line.dataSyms (c : Line) (burst : List Nat) : List Nat := (List.range c.nData).map (c.dataSym burst)

/-- R222: the bytes that data symbols spell. -/
def Line.symBytes (c : Line) (syms : List Nat) : List Nat :=
  (List.range 64).map (fun n =>
    ofBits ((List.range 8).map (fun b =>
      let t := n / 4
      let l := 8 * (n % 4) + b
      match c with
      | .hbm => syms.getD (32 * (t / 8) + l) 0 / 2 ^ (t % 8) % 2
      | .ddr => syms.getD (8 * (t / 4) + l / 4) 0 / 2 ^ (4 * (t % 4) + l % 4) % 2)))

/-- R222: the address symbols of the burst at offset `o` of its stack, or of the tier. -/
def Line.addrSyms (c : Line) (o : Nat) : List Nat :=
  (List.range c.nAddr).map (fun i => o / 64 / 2 ^ (c.m * i) % 2 ^ c.m)

/-- R222: a stored symbol of index `k` as a codeword degree: the data symbols first, then the check symbols (DEDUCED: log entry 55). -/
def Line.symDegree (c : Line) (k : Nat) : Nat :=
  match c with
  | .hbm => if k % 36 < 32 then 71 - (32 * (k / 36) + k % 36) else 7 - (4 * (k / 36) + (k % 36 - 32))
  | .ddr => if k % 10 < 8 then 39 - (8 * (k / 10) + k % 10) else 7 - (2 * (k / 10) + (k % 10 - 8))

/-- R222: whether symbol index `k` is stored. -/
def Line.nStored : Line → Nat
  | .hbm => 72
  | .ddr => 40

/-- The DDR5 device g of a stored symbol's degree. -/
def ddrDevice (deg : Nat) : Nat :=
  if deg < 8 then 8 + (7 - deg) % 2 else (39 - deg) % 8

/-- A stored deviation: the eight check symbols, highest degree first, packed 16 bits each with the first lowest. -/
def packDev (l : List Nat) : Nat := l.foldr (fun a r => a + 65536 * r) 0
def unpackDev (v : Nat) : List Nat := (List.range 8).map (fun i => v / 65536 ^ i % 65536)

/-- R224: the deviation of stored poison. -/
def Line.poisonDev (c : Line) : Nat :=
  packDev (List.replicate 8 (match c with
    | .hbm => 0x5A
    | .ddr => 0x5A5A))

/-- The eight syndromes of a deviation polynomial (R223). -/
def Line.syndromes (c : Line) (dev : List Nat) : List Nat :=
  (List.range 8).map (fun j => c.eval (c.alpha j) dev.reverse)

/-- A state of the Berlekamp–Massey iteration. -/
structure BmState where
  lam : List Nat
  b : List Nat
  l : Nat

/-- One iteration, at syndrome `r`. -/
def Line.bmStep (c : Line) (s : List Nat) (st : BmState) (r : Nat) : BmState :=
  let d := (List.range (st.l + 1)).foldl (fun a i => a ^^^ c.mul (st.lam.getD i 0) (s.getD (r - i) 0)) 0
  let xb := 0 :: st.b
  if d = 0 then { st with b := xb }
  else
    let lam' := polyAdd st.lam (c.polyScale d xb)
    if 2 * st.l ≤ r then ⟨lam', c.polyScale (c.inv d) st.lam, r + 1 - st.l⟩
    else ⟨lam', xb, st.l⟩

/-- The error locator of a syndrome list, and its degree. -/
def Line.locator (c : Line) (s : List Nat) : BmState :=
  (List.range 8).foldl (c.bmStep s) ⟨[1], [1], 0⟩

/-- The formal derivative. -/
def polyDeriv (p : List Nat) : List Nat :=
  (List.range (p.length - 1)).map (fun i => if i % 2 = 0 then p.getD (i + 1) 0 else 0)

/-- Located errors: degree and value; none when the errors cannot be located. -/
def Line.locate (c : Line) (dev : List Nat) : Option (List (Nat × Nat)) :=
  let s := c.syndromes dev
  let st := c.locator s
  let roots := (List.range c.len).filter (fun i => c.eval (c.inv (c.alpha i)) st.lam == 0)
  if st.l = 0 ∨ 4 < st.l ∨ roots.length ≠ st.l then none
  else
    let om := (c.polyMul s st.lam).take 8
    let dl := polyDeriv st.lam
    some (roots.map (fun i =>
      let xi := c.inv (c.alpha i)
      (i, c.mul (c.alpha i) (c.mul (c.eval xi om) (c.inv (c.eval xi dl))))))

/-- R223: how a burst reads. -/
inductive LineRead
  | ok
  /-- the located data symbols' degrees and the values to exclusive-or -/
  | fixed (errs : List (Nat × Nat))
  | poison
  /-- symbols located (none: not located), the lowest address symbol located, the DDR5 device of the first -/
  | bad (nsym : Option Nat) (addrSym : Option Nat) (device : Nat)
  deriving DecidableEq, Repr

/-- R223: the decoding of a burst whose stored check symbols deviate by `dev` from those of its data at its address. -/
def Line.decode (c : Line) (dev : Nat) : LineRead :=
  if dev = 0 then .ok
  else if dev = c.poisonDev then .poison
  else
    match c.locate (unpackDev dev) with
    | none => .bad none none 0
    | some errs =>
      let stored := errs.all (fun e => decide (e.1 < c.len - c.nAddr))
      let fix :=
        match c with
        | .hbm => decide (errs.length ≤ 2)
        | .ddr => decide (errs.length ≤ 2) ||
            (match errs with
             | [] => false
             | e :: t => t.all (fun x => ddrDevice x.1 == ddrDevice e.1))
      if stored && fix then .fixed errs
      else
        let addrs := (errs.filter (fun e => decide (c.len - c.nAddr ≤ e.1))).map (fun e => c.len - 1 - e.1)
        let dev0 := match c, errs.reverse with
          | .ddr, e :: _ => if e.1 < 40 then ddrDevice e.1 else 0
          | _, _ => 0
        .bad (some errs.length) (addrs.foldl (fun a i => match a with
          | none => some i
          | some j => some (min i j)) none) dev0

/-- R223: the bytes of a burst after a correction. -/
def Line.correct (c : Line) (burst : List Nat) (errs : List (Nat × Nat)) : List Nat :=
  let syms := c.dataSyms burst
  c.symBytes ((List.range c.nData).map (fun j =>
    syms.getD j 0 ^^^ (((errs.find? (fun e => e.1 == c.nData + 7 - j)).map (·.2)).getD 0)))

/-- The deviation that an error word leaves: errors in check symbols as they are, errors in message symbols re-encoded.
`addrErr`, `dataErr`: the message symbols' errors; `checkErr`: the check symbols', highest degree first. -/
def Line.devOf (c : Line) (addrErr dataErr checkErr : List Nat) : Nat :=
  packDev ((List.zip (c.encode (addrErr ++ dataErr)) checkErr).map (fun x => x.1 ^^^ x.2))

end Sys2Proof.Machine
end

