-- ==== Sys2Proof/Config.lean ====
section
/-! DEFINITION. The free values: what the spec leaves open and the machine goes on with. None has a body, so no proof can
lean on a value. Each is applied to the counter `freeCtr` of the state (a fresh value at each draw) or to operands. -/
namespace Sys2Proof

/-- The analogue error of a column result, in units of 2^−34 of S (R89, R91; log entry 5): draw, lane, vector. -/
opaque Config.analogError : Nat → Nat → Nat → Int
/-- How many further vectors' windows close before a cut takes effect (R118; timing, log entry 6). -/
opaque Config.cutPoint : Nat → Nat
/-- Sign and payload of a NaN that an operation makes and the spec does not state (log entry 7): draw, lane. -/
opaque Config.nanBits : Nat → Nat → Nat
/-- The bits above the value loaded, of a load or 32-bit atomic narrower than its register (log entry 12): size in bytes, value. -/
opaque Config.loadUpper : Nat → Nat → Nat
/-- Whether a class of Table 5.5 has a function that the table does not name (log entry 190): class, function code. -/
opaque Config.funcDefined : Nat → Nat → Bool
/-- The result of a scalar compare that holds, and of one that does not (log entry 13). -/
opaque Config.compareResult : Bool → W64
/-- The result of a scalar function whose operation the spec does not name (log entry 13): function code, operands. -/
opaque Config.aluOther : Nat → W64 → W64 → W64
/-- The result of a shift by 64 or more (log entry 13): which shift, operands. -/
opaque Config.shiftOver : Nat → W64 → W64 → W64
/-- The quotient where signed and unsigned division differ (log entry 13). -/
opaque Config.divOpen : W64 → W64 → W64
/-- A vector lane of a function, or of an integer result outside its range, that the spec does not state (log entry 14):
function code, lane type, operands. -/
opaque Config.vecOther : Nat → Nat → Nat → Nat → Nat
/-- A special function's result on a lane (log entry 15): function code, operand. -/
opaque Config.sfuResult : Nat → Nat → Nat
/-- The flags a special function raises (log entry 15): function code, operand. -/
opaque Config.sfuFlags : Nat → Nat → Nat
/-- Whether the underflow flag rises where a tiny value rounds up to the smallest normal number (log entry 16). -/
opaque Config.tinyBefore : Bool
/-- Which line an instruction-cache fill replaces when the cache is full (log entry 11). -/
opaque Config.icacheVictim : Nat → Nat
/-- The alignment of the H-cycle count to the 1 GHz count, 0 or 1 (R6, R27; log entry 10). -/
opaque Config.cycleAlign : Nat → Nat
/-- What a CSR number without a register reads as (log entry 17): number, draw. -/
opaque Config.csrOther : Nat → Nat → W64
/-- Where ostler firmware places a band, chunk or cache that has several free places (R256, log entry 18): draw. -/
opaque Config.place : Nat → Nat
/-- How many bytes of ostler memory are corrected between two ticks of TIME (log entry 8): draw. -/
opaque Config.oceCorrected : Nat → Nat
/-- Which die's general shunter carries a burst that ostler firmware copies (log entry 198): draw. -/
opaque Config.copyDie : Nat → Nat
/-- The first of the accumulators that ostler firmware gives the rings of a converter (R279; log entry 208): converter. -/
opaque Config.ringAccBase : Nat → Nat
/-- SHA-384 of a byte string, as the number whose bytes, least significant first, are the digest (log entry 19). -/
opaque Config.sha384Bits : List Nat → BitVec 384
/-- The digest as a number. -/
def Config.sha384 (bs : List Nat) : Nat := (Config.sha384Bits bs).toNat
/-- Whether an ECDSA P-384 signature verifies: key, signed bytes, signature (log entry 19). -/
opaque Config.ecdsaOk : List Nat → List Nat → List Nat → Bool
/-- Whether an HSS signature verifies: key, signed bytes, signature (log entry 19). -/
opaque Config.hssOk : List Nat → List Nat → List Nat → Bool
/-- Whether a measured ratio that the spec gives in coarser units, with no rounding stated, is rounded up (log entry 20): numerator,
denominator. -/
opaque Config.roundUp : Nat → Nat → Bool
/-- The last unit of what the 10 ms filter of PBUDGET holds after a sample (R361, DESIGN CHOICE: log entry 21), by what it held and what the
sample decodes to; its lowest bit is used. -/
opaque Config.budgetFilter : Nat → Nat → Nat
/-- The mean of a latched period that holds no conversion, as a loop word (R320, log entry 22): draw. -/
opaque Config.emptyMean : Nat → W32
/-- What a byte of memory that cannot be read (uncorrectable, poisoned, unreachable) is sent as over the Droveway (log entry 23): address,
draw. -/
opaque Config.lostByte : Nat → Nat → Byte
/-- What an LPDDR5X mode register reads beside Table 16.2 before a host writes it, and the standard's codes of MR4 and MR8 (log entry 24):
register number. -/
opaque Config.mrStandard : Nat → Byte
/-- An entry of SLOT_LIST (log entry 25): bytes of bay, slot, whether it is in use, draw; the spec states no layout. -/
opaque Config.slotEntry : Nat → Nat → Option Bool → Nat → Nat
/-- The bits of a mode register that enable features Table 16.1 does not support (log entry 24): register number. -/
opaque Config.mrUnsupported : Nat → Byte
/-- R473: whether ostler firmware's shed test program uses a manger bank: die, bank (log entry 251). -/
opaque Config.programUses : Nat → Nat → Bool
/-- R444: whether a batch uses a stall (kind 0) or a shed (1): batch, kind, number (log entry 249). -/
opaque Config.batchUses : Nat → Nat → Nat → Bool
/-- What a read of the write-only aperture returns once the host has written there (log entry 26): porch offset, draw. -/
opaque Config.apertureRead : Nat → Nat → Byte
/-- Which number firmware gives a new session, where it is not 0 and not in use (R434, log entry 27): draw. -/
opaque Config.sessionId : Nat → W32
/-- The uncompressed P-384 point (97 bytes) of a private key (R448, log entry 19). -/
opaque Config.ecPublic : Nat → List Nat
/-- The HSS public key (60 bytes) of a seed and an identifier (R448, log entry 19). -/
opaque Config.hssPublic : List Nat → List Nat → List Nat
/-- An ECDSA signature (96 bytes): private key, signed bytes, draw (log entry 19). -/
opaque Config.signEc : Nat → List Nat → Nat → List Nat
/-- An HSS signature (3,284 bytes): seed, identifier, index, signed bytes (log entry 19). -/
opaque Config.signHss : List Nat → List Nat → Nat → List Nat → List Nat
/-- The repair and core maps of the fuse map, whose size and layout the spec does not state (R447, log entry 19). -/
opaque Config.repairFuses : List Nat
/-- R455: the Yelvas manufacturing public keys, 157 bytes, and their signatures over a certificate's body (log entry 250). -/
opaque Config.mfgKey : List Nat
opaque Config.mfgSignEc : List Nat → List Nat
opaque Config.mfgSignHss : List Nat → List Nat
/-- R453: how many fuses of a commit a loss of power finds blown; and whether the store takes what a commit writes (R462); draw (log entry 165). -/
opaque Config.fusesBlown : Nat → Nat
opaque Config.commitStored : Nat → Bool
/-- R403: the ephemeral ECDH public key (97 bytes) of an admission; draw (log entry 225). -/
opaque Config.ephKey : Nat → List Nat
/-- How many of the M-cycles since a shunter's last M-cycle a channel has waited, where its wait began among them (R191, log entry 192): draw. -/
opaque Config.waitBegan : Nat → Nat
/-- What a light sequence that a plain write of LTE_CTRL starts finds (log entry 74): whether comb dies 0 and 1 lock, or have passed their
start-up, and the rings' sweeps; draw. -/
opaque Config.lightSeen : Nat → Bool × Bool × List RingSweep

/-- Whether the request that draws this value took a non-zero t_ref (R206): a matter of timing, left free (UNVERIFIED: log entry 197). -/
opaque Config.tookRef : Nat → Bool

/-- The amplitude of a ring's dither where LTE_DITHER holds none of 1 to 64 (DESIGN CHOICE: log entry 206). -/
opaque Config.ditherAmp : Nat → BitVec 7
/-- Whether OFFSET takes the next larger sixteenth of an LSB where the ground mean lies between two (DESIGN CHOICE: log entry 207). -/
opaque Config.calRoundsUp : Nat → Bool
/-- R334: what ostler firmware places in the registers of a loop's entry that Table 12.7 does not state, by loop and offset (DESIGN CHOICE: log
entry 208). -/
opaque Config.loopEntry : Nat → Nat → W32
/-- R352: whether the check of a stored set fails as it is read, by stall, or by 16 and port; draw (DESIGN CHOICE: log entry 212). -/
opaque Config.setFails : Nat → Nat → Bool
/-- R344: a swept phase set-point before the attempt's end tells it, by loop of the stall; draw (DEDUCED: log entry 244). -/
opaque Config.sweptSetPoint : Nat → Nat → W32
/-- R387: AES-256-GCM: what a payload is encrypted to, and the tag over header and payload; by key and nonce (DESIGN CHOICE: log entry 126). -/
opaque Config.gcmCipher : W256 → List Nat → List Nat → List Nat
opaque Config.gcmTag : W256 → List Nat → List Nat → List Nat → List Nat
/-- R388, R403: the herd key that a leader makes for a new epoch; draw. And a key wrapped under another. -/
opaque Config.herdKey : Nat → W256
opaque Config.keyWrap : W256 → W256 → List Nat
/-- R403: the 48 bytes of a challenge that a joiner or a leader offers; draw. And the key derived from the ECDH secret with a joiner's ephemeral
public key (DESIGN CHOICE: log entry 225). -/
opaque Config.challenge : Nat → List Nat
opaque Config.admitKey : List Nat → Nat → W256
/-- R395: the reason that event 0xA002 gives for a port that cannot keep time (DESIGN CHOICE: log entry 219). -/
opaque Config.lateReason : BitVec 3

end Sys2Proof
end

