-- ==== Sys2Proof/Machine/Float.lean ====
section
/-! DEFINITION. Exact dyadic numbers, the FP32 and BF16 encodings, and rounding into them (R51, R53, R58, R143). -/
namespace Sys2Proof.Machine

/-- The number `m × 2^e`. -/
structure Dy where
  m : Int
  e : Int
  deriving DecidableEq, Repr

/-- The exact sum. -/
def Dy.add (a b : Dy) : Dy :=
  if a.e ≤ b.e then ⟨a.m + b.m * 2 ^ (b.e - a.e).toNat, a.e⟩
  else ⟨a.m * 2 ^ (a.e - b.e).toNat + b.m, b.e⟩

/-- The exact product. -/
def Dy.mul (a b : Dy) : Dy := ⟨a.m * b.m, a.e + b.e⟩

/-- Whether `a ≤ b`. -/
def Dy.le (a b : Dy) : Bool :=
  if a.e ≤ b.e then decide (a.m ≤ b.m * 2 ^ (b.e - a.e).toNat)
  else decide (a.m * 2 ^ (a.e - b.e).toNat ≤ b.m)

/-- The magnitude. -/
def Dy.abs (a : Dy) : Dy := ⟨a.m.natAbs, a.e⟩

/-- Table 2.3: the rounding modes. -/
inductive Rnd
  | rne | rtz | rs
  deriving DecidableEq, Repr

/-- Table 2.3: `m × 2^s` rounded to an integer; `draw` is the 16-bit draw of the stochastic mode. -/
def roundInt (mode : Rnd) (draw : Nat) (m s : Int) : Int :=
  if 0 ≤ s then m * 2 ^ s.toNat
  else
    let d : Int := 2 ^ (-s).toNat
    let q := m / d
    let r := m - q * d
    match mode with
    | .rne => if 2 * r < d then q else if d < 2 * r then q + 1 else if q % 2 = 0 then q else q + 1
    | .rtz => if m < 0 ∧ r ≠ 0 then q + 1 else q
    | .rs => if (draw : Int) < r * 65536 / d then q + 1 else q

/-- A floating-point datum, read from its encoding. -/
inductive Fp
  | fin (neg : Bool) (m : Nat) (e : Int)
  | inf (neg : Bool)
  | nan (signalling : Bool)
  deriving DecidableEq, Repr

/-- The datum encoded by `bits`, with one sign bit, eight exponent bits of bias 127 and `p - 1` fraction bits
(p = 24: FP32; p = 8: BF16). A zero has `m = 0`. -/
def fpDecode (p bits : Nat) : Fp :=
  let fr := bits % 2 ^ (p - 1)
  let ex := bits / 2 ^ (p - 1) % 256
  let neg := bits / 2 ^ (p + 7) % 2 == 1
  if ex = 255 then (if fr = 0 then .inf neg else .nan (fr < 2 ^ (p - 2)))
  else if ex = 0 then .fin neg fr (-126 - ((p : Int) - 1))
  else .fin neg (fr + 2 ^ (p - 1)) ((ex : Int) - 127 - ((p : Int) - 1))

/-- The sign bit placed above `p + 7` bits. -/
def signBit (p : Nat) (neg : Bool) : Nat := if neg then 2 ^ (p + 7) else 0

/-- The encoding of an infinity. -/
def fpInf (p : Nat) (neg : Bool) : Nat := signBit p neg + 255 * 2 ^ (p - 1)

/-- The quiet NaN 0x7FC0_0000 (p = 24) or 0x7FC0 (p = 8) of R37 and R58. -/
def fpQNaN (p : Nat) : Nat := 255 * 2 ^ (p - 1) + 2 ^ (p - 2)

/-- The result of rounding: the encoding, and what the rounding met. -/
structure Rounded where
  bits : Nat
  inexact : Bool
  overflow : Bool
  tiny : Bool
  deriving DecidableEq, Repr

/-- The magnitude `m × 2^e` rounded into the encoding, subnormals kept, with its sign: to nearest even, or toward zero. A result is tiny where
it is so before rounding and after rounding with the exponent unbounded; where only before, the spec does not say (log entry 16). -/
def fpRoundM (mode : Rnd) (p : Nat) (neg : Bool) (m : Nat) (e : Int) : Rounded :=
  if m = 0 then ⟨signBit p neg, false, false, false⟩
  else
    let q : Int := max ((m.log2 : Int) + e - ((p : Int) - 1)) (-126 - ((p : Int) - 1))
    let mant := (roundInt mode 0 (m : Int) (e - q)).toNat
    let exact : Bool := e ≥ q || (m % 2 ^ (q - e).toNat == 0)
    let eb := (q + (p : Int) - 1 + 127).toNat
    let bits := eb * 2 ^ (p - 1) + mant - 2 ^ (p - 1)
    let top : Int := (m.log2 : Int) + e
    let whole := roundInt mode 0 (m : Int) (e - (top - ((p : Int) - 1)))
    let normal : Bool := decide (top = -127) && decide (whole = 2 ^ p)
    let tiny : Bool := decide (top < -126) && (!normal || Config.tinyBefore)
    if 255 * 2 ^ (p - 1) ≤ bits then
      ⟨(if mode = .rtz then signBit p neg + 255 * 2 ^ (p - 1) - 1 else fpInf p neg), true, true, false⟩
    else ⟨signBit p neg + bits, !exact, false, tiny⟩

/-- Rounding to nearest even (DESIGN CHOICE: log entry 16). -/
def fpRound (p : Nat) (neg : Bool) (m : Nat) (e : Int) : Rounded := fpRoundM .rne p neg m e

/-- A dyadic number rounded; a zero takes the sign given. -/
def fpRoundDyM (mode : Rnd) (p : Nat) (zeroNeg : Bool) (d : Dy) : Rounded :=
  if d.m = 0 then fpRoundM mode p zeroNeg 0 0 else fpRoundM mode p (decide (d.m < 0)) d.m.natAbs d.e

/-- A dyadic number rounded to nearest even. -/
def fpRoundDy (p : Nat) (zeroNeg : Bool) (d : Dy) : Rounded := fpRoundDyM .rne p zeroNeg d

/-- The exact value of a finite datum. -/
def Fp.dy : Fp → Dy
  | .fin neg m e => ⟨if neg then -(m : Int) else m, e⟩
  | _ => ⟨0, 0⟩

/-- Whether a datum is a NaN. -/
def Fp.isNaN : Fp → Bool
  | .nan _ => true
  | _ => false

/-- Whether a datum is a signalling NaN. -/
def Fp.isSNaN : Fp → Bool
  | .nan s => s
  | _ => false

/-- Whether a datum is an infinity. -/
def Fp.isInf : Fp → Bool
  | .inf _ => true
  | _ => false

/-- Whether a datum is a zero. -/
def Fp.isZero : Fp → Bool
  | .fin _ m _ => m == 0
  | _ => false

/-- The sign of a datum. -/
def Fp.neg : Fp → Bool
  | .fin n _ _ => n
  | .inf n => n
  | .nan _ => false

/-- R58: FP32 rounded into BF16: nearest even, subnormals kept, any NaN as 0x7FC0. -/
def f32ToBf16 (bits : Nat) : Rounded :=
  match fpDecode 24 bits with
  | .nan _ => ⟨0x7FC0, false, false, false⟩
  | .inf n => ⟨fpInf 8 n, false, false, false⟩
  | .fin n m e => fpRound 8 n m e

/-- R58: BF16 to FP32 is exact: the encoding gains sixteen zero fraction bits. -/
def bf16ToF32 (bits : Nat) : Nat := bits % 65536 * 65536

end Sys2Proof.Machine
end

