-- ==== Sys2Proof/Machine/Block.lean ====
section
/-! DEFINITION. The block formats (R33 to R40), scale lines and their CRC (R41 to R48), the conversions (R51 to R59) and
the stochastic generator (R54, R55). -/
namespace Sys2Proof.Machine

/-- Table 2.1 and R34: the seven data formats of the FMT field. -/
inductive Fmt
  | bx4 | bx6 | bx8 | bx12 | bx16 | bf16 | fp32
  deriving DecidableEq, Repr

/-- The FMT code of R34; code 7 is reserved. -/
def fmtOfCode : Nat → Option Fmt
  | 0 => some .bx4
  | 1 => some .bx6
  | 2 => some .bx8
  | 3 => some .bx12
  | 4 => some .bx16
  | 5 => some .bf16
  | 6 => some .fp32
  | _ => none

/-- The FMT code of a format. -/
def Fmt.code : Fmt → Nat
  | .bx4 => 0 | .bx6 => 1 | .bx8 => 2 | .bx12 => 3 | .bx16 => 4 | .bf16 => 5 | .fp32 => 6

/-- The width of an element in bits: the mantissa width w of a block format. -/
def Fmt.width : Fmt → Nat
  | .bx4 => 4 | .bx6 => 6 | .bx8 => 8 | .bx12 => 12 | .bx16 => 16 | .bf16 => 16 | .fp32 => 32

/-- Whether a format is a block format, with a scale array. -/
def Fmt.isBlock : Fmt → Bool
  | .bf16 => false
  | .fp32 => false
  | _ => true

/-- A block (R33): its exponent field and its 32 mantissas. -/
structure Block where
  e : Nat
  m : List Int
  deriving DecidableEq, Repr

/-- R35: the zero block, with every mantissa bit 0. -/
def zeroBlock : Block := ⟨0, List.replicate 32 0⟩

/-- R35: a poisoned block, with every mantissa bit 0. -/
def poisonBlock : Block := ⟨255, List.replicate 32 0⟩

/-- R38: the mantissas of a block held in `4w` bytes, taken as one little-endian number. -/
def mantissas (w : Nat) : Nat → Nat → List Int
  | 0, _ => []
  | n + 1, v => sext w v :: mantissas w n (v / 2 ^ w)

/-- R38: the data bits of a block as one number. -/
def packMantissas (w : Nat) : List Int → Nat
  | [] => 0
  | x :: t => wrapTo w x + 2 ^ w * packMantissas w t

/-- R33, R35: the exact value of an element of a block that is not poisoned. -/
def elemValue (w e : Nat) (m : Int) : Dy :=
  if e = 0 then ⟨0, 0⟩ else ⟨m, (e : Int) - 127 - ((w : Int) - 2)⟩

/-- What a conversion reads: an exact value, or a NaN, an infinity or a poisoned element (R52). -/
abbrev Src := Option Dy

/-- The sources of a block's elements. -/
def blockSrcs (w : Nat) (b : Block) : List Src :=
  if b.e = 255 then b.m.map (fun _ => none) else b.m.map (fun m => some (elemValue w b.e m))

/-- The source that an FP32 (p = 24) or BF16 (p = 8) encoding is: exact, subnormals not flushed; −0 counts as 0. -/
def fpSrc (p bits : Nat) : Src :=
  match fpDecode p bits with
  | .fin n m e => some (Fp.fin n m e).dy
  | _ => none

/-- R51 step 1: the largest magnitude. -/
def maxAbs : List Dy → Dy
  | [] => ⟨0, 0⟩
  | d :: t => let r := maxAbs t; if (d.abs).le r then r else d.abs

/-- R51 step 2: the smallest e with M × 2^(w−2−e) ≤ 2^(w−1) − 1, for M > 0. -/
def fitExp (w : Nat) (mx : Dy) : Int :=
  let k : Int := (mx.m.natAbs.log2 : Int) + mx.e
  if (Dy.mk mx.m (mx.e + (w : Int) - 2 - k)).le ⟨2 ^ (w - 1) - 1, 0⟩ then k else k + 1

/-- A conversion's result: the block, whether it overflowed (step 4), whether it is poisoned (R52), whether some mantissa was inexact. -/
structure Conv where
  blk : Block
  overflow : Bool
  poison : Bool
  inexact : Bool
  deriving DecidableEq, Repr

/-- All sources finite, or none. -/
def allFinite : List Src → Option (List Dy)
  | [] => some []
  | none :: _ => none
  | some d :: t => (allFinite t).map (d :: ·)

/-- R51 step 5: the mantissas, element by element, each with its own draw. -/
def roundAll (mode : Rnd) (w : Nat) (e : Int) (sat : Bool) : List Dy → List Nat → List Int
  | [], _ => []
  | d :: t, draws =>
    let m := roundInt mode (draws.headD 0) d.m (d.e + (w : Int) - 2 - e)
    let lim : Int := 2 ^ (w - 1) - 1
    (if sat then clampI (-lim) lim m else m) :: roundAll mode w e sat t draws.tail

/-- R51, R52: the conversion into a block format of width `w`. `draws` holds one draw per element (used in mode RS only). -/
def convert (mode : Rnd) (w : Nat) (srcs : List Src) (draws : List Nat) : Conv :=
  match allFinite srcs with
  | none => ⟨poisonBlock, false, true, false⟩
  | some ds =>
    let mx := maxAbs ds
    if mx.m = 0 then ⟨zeroBlock, false, false, false⟩
    else
      let e0 := fitExp w mx
      let e := if e0 < -126 then -126 else if 127 < e0 then 127 else e0
      let ovr := decide (127 < e0)
      let ms := roundAll mode w e ovr ds draws
      let inex := (List.zip ms ds).any (fun x => !((Dy.mk x.1 (e - (w : Int) + 2)).le x.2 && x.2.le ⟨x.1, e - (w : Int) + 2⟩))
      if ms.all (· == 0) then ⟨zeroBlock, ovr, false, inex⟩
      else ⟨⟨(e + 127).toNat, ms⟩, ovr, false, inex⟩

/-- R57: widening from width `w` to `w'` keeps E; zero and poisoned blocks stay what they are (R35: with mantissa bits 0). -/
def widen (w w' : Nat) (b : Block) : Block :=
  if b.e = 0 then zeroBlock else if b.e = 255 then poisonBlock
  else ⟨b.e, b.m.map (· * 2 ^ (w' - w))⟩

/-- R58: an element of a block of width `w` converted to FP32 (p = 24) or BF16 (p = 8). The value −2^128 of R36 gives −∞. -/
def elemToFp (p w e : Nat) (m : Int) : Rounded :=
  if e = 255 then ⟨fpQNaN p, false, false, false⟩
  else if e = 0 then ⟨0, false, false, false⟩
  else fpRoundDy p false (elemValue w e m)

/-- R54: one update of the generator. -/
def genNext (s : W64) : W64 :=
  let a := s ^^^ (s <<< 13)
  let b := a ^^^ (a >>> 7)
  b ^^^ (b <<< 17)

/-- R54: the draw a state returns. -/
def genDraw (s : W64) : Nat := s.toNat / 2 ^ 48

/-- R54, R56: `n` draws in order, and the state they leave. -/
def genDraws : Nat → W64 → List Nat × W64
  | 0, s => ([], s)
  | n + 1, s =>
    let s' := genNext s
    let r := genDraws n s'
    (genDraw s' :: r.1, r.2)

/-- R55: the constant that a seed of 0 loads, and the state after power-on reset. -/
def seedDefault : W64 := 0x9E3779B97F4A7C15#64

/-- R55: the generator state that a seed loads. -/
def seedLoad (v : W64) : W64 := if v = 0 then seedDefault else v

/-- R43: the CRC register after one message bit. -/
def crcBit (r : Nat) (b : Bool) : Nat :=
  let f := xor (bitOf r 15) b
  let s := r * 2 % 65536
  if f then s ^^^ 0x1021 else s

/-- R43: a byte, most significant bit first. -/
def crcByte (r byte : Nat) : Nat :=
  [7, 6, 5, 4, 3, 2, 1, 0].foldl (fun r i => crcBit r (bitOf byte i)) r

/-- R43: the CRC-16 of a byte string. -/
def crc16 (bs : List Nat) : Nat := bs.foldl crcByte 0xFFFF

/-- A scale line, as its 64 bytes (Table 2.2). -/
def scaleFirst (line : List Nat) : Nat := ofBytes (line.take 5)

/-- Table 2.2: the FMT of a line's header. -/
def scaleFmt (line : List Nat) : Nat := line.getD 5 0 % 8

/-- Table 2.2: the reserved header bits [47:43]. -/
def scaleRsvd (line : List Nat) : Nat := line.getD 5 0 / 8

/-- Table 2.2: the CRC the header carries. -/
def scaleCrc (line : List Nat) : Nat := ofBytes ((line.drop 6).take 2)

/-- R42: the CRC over bytes [5:0] and then bytes [63:8]. -/
def scaleCrcOf (line : List Nat) : Nat := crc16 (line.take 6 ++ line.drop 8)

/-- R45: the first check that a fetched line fails; 0 when it passes. -/
def scaleCheck (line : List Nat) (expect : Nat) (fmt : Fmt) : Nat :=
  if scaleFirst line ≠ expect % 2 ^ 40 then 1
  else if scaleFmt line ≠ fmt.code then 2
  else if scaleRsvd line ≠ 0 then 3
  else if scaleCrc line ≠ scaleCrcOf line then 4
  else 0

/-- R48: the line a shunter builds; an exponent it did not produce is 255. -/
def buildScaleLine (first : Nat) (fmt : Fmt) (exps : List Nat) : List Nat :=
  let hdr := toBytes 5 first ++ [fmt.code]
  let es := (exps ++ List.replicate 56 255).take 56
  hdr ++ toBytes 2 (crc16 (hdr ++ es)) ++ es

/-- R41 to R45: the scale line of block `n`, the byte that holds its exponent, and the FIRST_BLOCK expected there. -/
def scaleLineAddr (base n : Nat) : Nat := base + 64 * (n / 56)
def scaleByteAddr (base n : Nat) : Nat := scaleLineAddr base n + 8 + n % 56
def scaleExpect (ib0 n : Nat) : Nat := ib0 + 56 * (n / 56)

end Sys2Proof.Machine
end

