-- ==== Sys2Proof/Machine/RegDesc.lean ====
section
/-! DEFINITION. The description of a control-block register (R8, R9, the columns of the register maps, R11), of a
field, and the reset values that the spec gives by formula. -/
namespace Sys2Proof.Machine

/-- One row of a register map. `n1`, `s1`, `n2`, `s2`: count and byte stride of the outer and inner array
dimension (1 and 0 where there is none). `rw`, `wo`, `w1c`, `rc`: the bits with that access code; `rw` may depend on the outer
index. `reset w i`: the Reset column for window `w` (counted from the register's first window) and outer index `i`. -/
structure RegDesc where
  name : String
  blk : Nat
  lo : Nat
  cnt : Nat
  off : Nat
  bytes : Nat
  bridleOnly : Bool
  n1 : Nat
  s1 : Nat
  n2 : Nat
  s2 : Nat
  rw : Nat → Nat
  wo : Nat
  w1c : Nat
  rc : Nat
  reset : Nat → Nat → Nat
  winOk : Nat → Bool

/-- A field: its register, lowest bit and number of bits. -/
structure Field where
  reg : RegDesc
  lo : Nat
  len : Nat

/-- R8: the address of the register in window `w` (counted from its first), at indices `i`, `k`. -/
def RegDesc.addr (d : RegDesc) (w i k : Nat) : Nat :=
  0x80000000 + d.blk * 0x1000000 + (d.lo + w) * 0x10000 + d.off + i * d.s1 + k * d.s2

/-- R70: the transfer table after power-on reset, round(511 × (2/π) × arcsin(i/512)). -/
def nominalTransfer : List (List Nat) :=
  [[0, 1, 1, 2, 3, 3, 4, 4, 5, 6, 6, 7, 8, 8, 9, 10],
   [10, 11, 11, 12, 13, 13, 14, 15, 15, 16, 17, 17, 18, 18, 19, 20],
   [20, 21, 22, 22, 23, 24, 24, 25, 25, 26, 27, 27, 28, 29, 29, 30],
   [31, 31, 32, 32, 33, 34, 34, 35, 36, 36, 37, 38, 38, 39, 39, 40]] ++
  [[41, 41, 42, 43, 43, 44, 45, 45, 46, 47, 47, 48, 48, 49, 50, 50],
   [51, 52, 52, 53, 54, 54, 55, 56, 56, 57, 57, 58, 59, 59, 60, 61],
   [61, 62, 63, 63, 64, 65, 65, 66, 67, 67, 68, 68, 69, 70, 70, 71],
   [72, 72, 73, 74, 74, 75, 76, 76, 77, 78, 78, 79, 80, 80, 81, 82]] ++
  [[82, 83, 84, 84, 85, 85, 86, 87, 87, 88, 89, 89, 90, 91, 91, 92],
   [93, 93, 94, 95, 95, 96, 97, 97, 98, 99, 99, 100, 101, 101, 102, 103],
   [103, 104, 105, 105, 106, 107, 107, 108, 109, 109, 110, 111, 111, 112, 113, 113],
   [114, 115, 116, 116, 117, 118, 118, 119, 120, 120, 121, 122, 122, 123, 124, 124]] ++
  [[125, 126, 126, 127, 128, 128, 129, 130, 131, 131, 132, 133, 133, 134, 135, 135],
   [136, 137, 137, 138, 139, 140, 140, 141, 142, 142, 143, 144, 144, 145, 146, 147],
   [147, 148, 149, 149, 150, 151, 152, 152, 153, 154, 154, 155, 156, 157, 157, 158],
   [159, 159, 160, 161, 162, 162, 163, 164, 164, 165, 166, 167, 167, 168, 169, 170]] ++
  [[170, 171, 172, 173, 173, 174, 175, 175, 176, 177, 178, 178, 179, 180, 181, 181],
   [182, 183, 184, 184, 185, 186, 187, 187, 188, 189, 190, 191, 191, 192, 193, 194],
   [194, 195, 196, 197, 197, 198, 199, 200, 201, 201, 202, 203, 204, 204, 205, 206],
   [207, 208, 208, 209, 210, 211, 212, 212, 213, 214, 215, 216, 216, 217, 218, 219]] ++
  [[220, 220, 221, 222, 223, 224, 225, 225, 226, 227, 228, 229, 230, 230, 231, 232],
   [233, 234, 235, 235, 236, 237, 238, 239, 240, 241, 241, 242, 243, 244, 245, 246],
   [247, 247, 248, 249, 250, 251, 252, 253, 254, 255, 255, 256, 257, 258, 259, 260],
   [261, 262, 263, 264, 265, 266, 266, 267, 268, 269, 270, 271, 272, 273, 274, 275]] ++
  [[276, 277, 278, 279, 280, 281, 282, 283, 284, 285, 286, 287, 288, 289, 290, 291],
   [292, 293, 294, 295, 296, 297, 298, 299, 300, 301, 302, 303, 304, 305, 306, 307],
   [309, 310, 311, 312, 313, 314, 315, 316, 317, 319, 320, 321, 322, 323, 324, 326],
   [327, 328, 329, 330, 331, 333, 334, 335, 336, 338, 339, 340, 341, 343, 344, 345]] ++
  [[347, 348, 349, 351, 352, 353, 355, 356, 357, 359, 360, 362, 363, 365, 366, 368],
   [369, 371, 372, 374, 375, 377, 378, 380, 382, 383, 385, 387, 388, 390, 392, 394],
   [395, 397, 399, 401, 403, 405, 407, 409, 411, 413, 415, 418, 420, 422, 424, 427],
   [429, 432, 435, 438, 440, 443, 447, 450, 453, 457, 461, 465, 470, 476, 482, 491]]

/-- Entry `i` of the nominal transfer table (entry 0 reads 0). -/
def nominalTransferAt (i : Nat) : Nat := (nominalTransfer.getD (i / 16) []).getD (i % 16) 0

/-- R70, Table 3.2: transfer-table word `i` after reset, entries 2i and 2i + 1. -/
def xferReset (i : Nat) : Nat := nominalTransferAt (2 * i) + nominalTransferAt (2 * i + 1) * 65536

/-- SHD_COREDIS resets to the fuse map: DESIGN CHOICE, no core failed test (log entry 2). -/
def fuseCoreMap (_w : Nat) : Nat := 0

/-- MGR_SPARE.FROWS and FCOLS reset to the fuse map: DESIGN CHOICE, no fuse repair (log entry 2). -/
def fuseSpares (_w _i : Nat) : Nat := 0

/-- R155: the identity word of shunter window `w`. -/
def shuIdReset (w : Nat) : Nat :=
  let j := w % 24
  let stall := if j < 8 then 1 else 0
  let k := if j < 8 then j / 2 else 0
  let role := if j < 8 then j % 2 else 0
  let tile := if j < 8 then 4 * (j / 2) + 1 + j % 2 else j - 8
  j + (w / 24) * 32 + stall * 128 + k * 256 + role * 1024 + tile * 2048

end Sys2Proof.Machine
end

