-- ==== Sys2Proof/Machine/RegMapA.lean ====
section
/-! DEFINITION. The registers of the control blocks, transcribed from the register tables of spec/ (one
description per register, one constant per named field). Blocks: 0x00 stalls; 0x01 sheds; 0x02 shunters and signal boxes; 0x03 mangers and integrity. -/
namespace Sys2Proof.Machine

/-! Block 0x00: stalls. -/

def Reg.STL_ID : RegDesc := ⟨"STL_ID", 0, 0, 16, 0x0, 4, false, 1, 0x0, 1, 0x0,
  fun _ => 0x0, 0x0, 0x0, 0x0, fun w _ => w + (w/4)*16 + (w/8)*64, fun _ => true⟩
def Fld.STL_ID_STALL : Field := ⟨Reg.STL_ID, 0, 4⟩
def Fld.STL_ID_DIE : Field := ⟨Reg.STL_ID, 4, 2⟩
def Fld.STL_ID_COMB : Field := ⟨Reg.STL_ID, 6, 1⟩
def Fld.STL_ID_LINE : Field := ⟨Reg.STL_ID, 7, 6⟩
def Reg.STL_CTRL : RegDesc := ⟨"STL_CTRL", 0, 0, 16, 0x4, 4, false, 1, 0x0, 1, 0x0,
  fun _ => 0x0, 0x7, 0x0, 0x0, fun _ _ => 0, fun _ => true⟩
def Fld.STL_CTRL_START : Field := ⟨Reg.STL_CTRL, 0, 1⟩
def Fld.STL_CTRL_STOP : Field := ⟨Reg.STL_CTRL, 1, 1⟩
def Fld.STL_CTRL_CUT : Field := ⟨Reg.STL_CTRL, 2, 1⟩
def Reg.STL_STATUS : RegDesc := ⟨"STL_STATUS", 0, 0, 16, 0x8, 4, false, 1, 0x0, 1, 0x0,
  fun _ => 0x0, 0x0, 0x0, 0x0, fun _ _ => 0x2, fun _ => true⟩
def Fld.STL_STATUS_STATE : Field := ⟨Reg.STL_STATUS, 0, 2⟩
def Fld.STL_STATUS_RANGE : Field := ⟨Reg.STL_STATUS, 2, 1⟩
def Fld.STL_STATUS_HOLD_THM : Field := ⟨Reg.STL_STATUS, 3, 1⟩
def Fld.STL_STATUS_HOLD_LTE : Field := ⟨Reg.STL_STATUS, 4, 1⟩
def Fld.STL_STATUS_HOLD_FAR : Field := ⟨Reg.STL_STATUS, 5, 1⟩
def Fld.STL_STATUS_TILE_VALID : Field := ⟨Reg.STL_STATUS, 7, 1⟩
def Fld.STL_STATUS_LOAD_PEND : Field := ⟨Reg.STL_STATUS, 8, 1⟩
def Fld.STL_STATUS_STAGED : Field := ⟨Reg.STL_STATUS, 9, 1⟩
def Fld.STL_STATUS_ISSUE_DEPTH : Field := ⟨Reg.STL_STATUS, 10, 3⟩
def Fld.STL_STATUS_RETRY_PEND : Field := ⟨Reg.STL_STATUS, 13, 2⟩
def Fld.STL_STATUS_REMAINDER : Field := ⟨Reg.STL_STATUS, 15, 1⟩
def Fld.STL_STATUS_LASTDIR : Field := ⟨Reg.STL_STATUS, 16, 1⟩
def Reg.STL_CFG : RegDesc := ⟨"STL_CFG", 0, 0, 16, 0xC, 4, true, 1, 0x0, 1, 0x0,
  fun _ => 0x3, 0x0, 0x0, 0x0, fun _ _ => 0, fun _ => true⟩
def Fld.STL_CFG_RANGE : Field := ⟨Reg.STL_CFG, 0, 1⟩
def Fld.STL_CFG_OFFLINE : Field := ⟨Reg.STL_CFG, 1, 1⟩
def Reg.STL_RESET : RegDesc := ⟨"STL_RESET", 0, 0, 16, 0x10, 4, true, 1, 0x0, 1, 0x0,
  fun _ => 0x0, 0x1, 0x0, 0x0, fun _ _ => 0, fun _ => true⟩
def Fld.STL_RESET_RESET : Field := ⟨Reg.STL_RESET, 0, 1⟩
def Reg.STL_ERR : RegDesc := ⟨"STL_ERR", 0, 0, 16, 0x14, 4, false, 1, 0x0, 1, 0x0,
  fun _ => 0x0, 0x0, 0xF, 0x0, fun _ _ => 0, fun _ => true⟩
def Fld.STL_ERR_CFG_REFUSED : Field := ⟨Reg.STL_ERR, 0, 1⟩
def Fld.STL_ERR_VOID : Field := ⟨Reg.STL_ERR, 1, 1⟩
def Fld.STL_ERR_MISS2 : Field := ⟨Reg.STL_ERR, 2, 1⟩
def Fld.STL_ERR_POISON_OUT : Field := ⟨Reg.STL_ERR, 3, 1⟩
def Reg.STL_TILE : RegDesc := ⟨"STL_TILE", 0, 0, 16, 0x18, 4, false, 1, 0x0, 1, 0x0,
  fun _ => 0x0, 0x0, 0x0, 0x0, fun _ _ => 0, fun _ => true⟩
def Fld.STL_TILE_ET_ACT : Field := ⟨Reg.STL_TILE, 0, 8⟩
def Fld.STL_TILE_WFMT_ACT : Field := ⟨Reg.STL_TILE, 8, 3⟩
def Fld.STL_TILE_POIS_ACT : Field := ⟨Reg.STL_TILE, 11, 1⟩
def Fld.STL_TILE_ET_IDLE : Field := ⟨Reg.STL_TILE, 12, 8⟩
def Fld.STL_TILE_WFMT_IDLE : Field := ⟨Reg.STL_TILE, 20, 3⟩
def Fld.STL_TILE_POIS_IDLE : Field := ⟨Reg.STL_TILE, 23, 1⟩
def Reg.STL_OPS : RegDesc := ⟨"STL_OPS", 0, 0, 16, 0x20, 8, false, 1, 0x0, 1, 0x0,
  fun _ => 0x0, 0x0, 0x0, 0x0, fun _ _ => 0, fun _ => true⟩
def Fld.STL_OPS_OPS : Field := ⟨Reg.STL_OPS, 0, 64⟩
def Reg.STL_CLIP : RegDesc := ⟨"STL_CLIP", 0, 0, 16, 0x28, 4, false, 1, 0x0, 1, 0x0,
  fun _ => 0x0, 0x0, 0x0, 0xFFFFFFFF, fun _ _ => 0, fun _ => true⟩
def Fld.STL_CLIP_COUNT : Field := ⟨Reg.STL_CLIP, 0, 32⟩
def Reg.STL_SMISS : RegDesc := ⟨"STL_SMISS", 0, 0, 16, 0x30, 4, false, 1, 0x0, 1, 0x0,
  fun _ => 0x0, 0x0, 0x0, 0xFFFFFFFF, fun _ _ => 0, fun _ => true⟩
def Fld.STL_SMISS_COUNT : Field := ⟨Reg.STL_SMISS, 0, 32⟩
def Reg.STL_SMISS2 : RegDesc := ⟨"STL_SMISS2", 0, 0, 16, 0x34, 4, false, 1, 0x0, 1, 0x0,
  fun _ => 0x0, 0x0, 0x0, 0xFFFFFFFF, fun _ _ => 0, fun _ => true⟩
def Fld.STL_SMISS2_COUNT : Field := ⟨Reg.STL_SMISS2, 0, 32⟩
def Reg.STL_WUFL : RegDesc := ⟨"STL_WUFL", 0, 0, 16, 0x38, 4, false, 1, 0x0, 1, 0x0,
  fun _ => 0x0, 0x0, 0x0, 0xFFFFFFFF, fun _ _ => 0, fun _ => true⟩
def Fld.STL_WUFL_COUNT : Field := ⟨Reg.STL_WUFL, 0, 32⟩
def Reg.STL_XUFL : RegDesc := ⟨"STL_XUFL", 0, 0, 16, 0x3C, 4, false, 1, 0x0, 1, 0x0,
  fun _ => 0x0, 0x0, 0x0, 0xFFFFFFFF, fun _ _ => 0, fun _ => true⟩
def Fld.STL_XUFL_COUNT : Field := ⟨Reg.STL_XUFL, 0, 32⟩
def Reg.STL_VOID : RegDesc := ⟨"STL_VOID", 0, 0, 16, 0x40, 4, false, 1, 0x0, 1, 0x0,
  fun _ => 0x0, 0x0, 0x0, 0xFFFFFFFF, fun _ _ => 0, fun _ => true⟩
def Fld.STL_VOID_COUNT : Field := ⟨Reg.STL_VOID, 0, 32⟩
def Reg.STL_PEAK : RegDesc := ⟨"STL_PEAK", 0, 0, 16, 0x2C, 4, false, 1, 0x0, 1, 0x0,
  fun _ => 0x0, 0x0, 0x0, 0x3FF, fun _ _ => 0, fun _ => true⟩
def Fld.STL_PEAK_PEAK : Field := ⟨Reg.STL_PEAK, 0, 10⟩
def Reg.STL_LASTVOID : RegDesc := ⟨"STL_LASTVOID", 0, 0, 16, 0x44, 4, false, 1, 0x0, 1, 0x0,
  fun _ => 0x0, 0x0, 0x0, 0x0, fun _ _ => 0, fun _ => true⟩
def Fld.STL_LASTVOID_TAG : Field := ⟨Reg.STL_LASTVOID, 0, 16⟩
def Fld.STL_LASTVOID_CAUSE : Field := ⟨Reg.STL_LASTVOID, 16, 3⟩
def Reg.STL_LASTMISS : RegDesc := ⟨"STL_LASTMISS", 0, 0, 16, 0x48, 4, false, 1, 0x0, 1, 0x0,
  fun _ => 0x0, 0x0, 0x0, 0x0, fun _ _ => 0, fun _ => true⟩
def Fld.STL_LASTMISS_TAG : Field := ⟨Reg.STL_LASTMISS, 0, 16⟩
def Fld.STL_LASTMISS_PASS : Field := ⟨Reg.STL_LASTMISS, 16, 1⟩
def Fld.STL_LASTMISS_G : Field := ⟨Reg.STL_LASTMISS, 17, 3⟩
def Fld.STL_LASTMISS_G_RETRY : Field := ⟨Reg.STL_LASTMISS, 20, 3⟩
def Fld.STL_LASTMISS_KIND : Field := ⟨Reg.STL_LASTMISS, 23, 1⟩
def Fld.STL_LASTMISS_SECOND : Field := ⟨Reg.STL_LASTMISS, 24, 1⟩
def Reg.STL_XFER : RegDesc := ⟨"STL_XFER", 0, 0, 16, 0x1000, 4, true, 256, 0x4, 1, 0x0,
  fun i => if i = 0 then 0x1FF0000 else 0x1FF01FF, 0x0, 0x0, 0x0, fun _ i => xferReset i, fun _ => true⟩
def Fld.STL_XFER_T0 : Field := ⟨Reg.STL_XFER, 0, 9⟩
def Fld.STL_XFER_T1 : Field := ⟨Reg.STL_XFER, 16, 9⟩
def Reg.STL_DLY_NEAR : RegDesc := ⟨"STL_DLY_NEAR", 0, 0, 16, 0x1400, 4, true, 32, 0x4, 1, 0x0,
  fun _ => 0x3F3F3F3F, 0x0, 0x0, 0x0, fun _ _ => 0, fun _ => true⟩
def Fld.STL_DLY_NEAR_LANES : Field := ⟨Reg.STL_DLY_NEAR, 0, 32⟩
def Reg.STL_DLY_FAR : RegDesc := ⟨"STL_DLY_FAR", 0, 0, 16, 0x1480, 4, true, 32, 0x4, 1, 0x0,
  fun _ => 0x3F3F3F3F, 0x0, 0x0, 0x0, fun _ _ => 0, fun _ => true⟩
def Fld.STL_DLY_FAR_LANES : Field := ⟨Reg.STL_DLY_FAR, 0, 32⟩
def Reg.STL_THR_NEAR : RegDesc := ⟨"STL_THR_NEAR", 0, 0, 16, 0x1500, 4, true, 32, 0x4, 1, 0x0,
  fun _ => 0xFFFFFFFF, 0x0, 0x0, 0x0, fun _ _ => 0, fun _ => true⟩
def Fld.STL_THR_NEAR_LANES : Field := ⟨Reg.STL_THR_NEAR, 0, 32⟩
def Reg.STL_THR_FAR : RegDesc := ⟨"STL_THR_FAR", 0, 0, 16, 0x1580, 4, true, 32, 0x4, 1, 0x0,
  fun _ => 0xFFFFFFFF, 0x0, 0x0, 0x0, fun _ _ => 0, fun _ => true⟩
def Fld.STL_THR_FAR_LANES : Field := ⟨Reg.STL_THR_FAR, 0, 32⟩
def Reg.STL_TRIM : RegDesc := ⟨"STL_TRIM", 0, 0, 16, 0x8000, 4, true, 8192, 0x4, 1, 0x0,
  fun _ => 0x3FFF3FFF, 0x0, 0x0, 0x0, fun _ _ => 0, fun _ => true⟩
def Fld.STL_TRIM_GAMMA0 : Field := ⟨Reg.STL_TRIM, 0, 8⟩
def Fld.STL_TRIM_DELTA0 : Field := ⟨Reg.STL_TRIM, 8, 6⟩
def Fld.STL_TRIM_GAMMA1 : Field := ⟨Reg.STL_TRIM, 16, 8⟩
def Fld.STL_TRIM_DELTA1 : Field := ⟨Reg.STL_TRIM, 24, 6⟩

/-- The registers of block 0x00. -/
def Reg.block0 : List RegDesc :=
  [Reg.STL_ID, Reg.STL_CTRL, Reg.STL_STATUS, Reg.STL_CFG, Reg.STL_RESET, Reg.STL_ERR, Reg.STL_TILE, Reg.STL_OPS] ++
  [Reg.STL_CLIP, Reg.STL_SMISS, Reg.STL_SMISS2, Reg.STL_WUFL, Reg.STL_XUFL, Reg.STL_VOID, Reg.STL_PEAK, Reg.STL_LASTVOID] ++
  [Reg.STL_LASTMISS, Reg.STL_XFER, Reg.STL_DLY_NEAR, Reg.STL_DLY_FAR, Reg.STL_THR_NEAR, Reg.STL_THR_FAR, Reg.STL_TRIM]

/-! Block 0x01: sheds. -/

def Reg.SHD_ID : RegDesc := ⟨"SHD_ID", 1, 0, 64, 0x0, 4, false, 1, 0x0, 1, 0x0,
  fun _ => 0x0, 0x0, 0x0, 0x0, fun w _ => w + (w/16)*64 + (w%16)*256, fun _ => true⟩
def Fld.SHD_ID_SHED : Field := ⟨Reg.SHD_ID, 0, 6⟩
def Fld.SHD_ID_DIE : Field := ⟨Reg.SHD_ID, 6, 2⟩
def Fld.SHD_ID_TILE : Field := ⟨Reg.SHD_ID, 8, 4⟩
def Reg.SHD_CTRL : RegDesc := ⟨"SHD_CTRL", 1, 0, 64, 0x4, 4, false, 1, 0x0, 1, 0x0,
  fun _ => 0x0, 0xF, 0x0, 0x0, fun _ _ => 0, fun _ => true⟩
def Fld.SHD_CTRL_START : Field := ⟨Reg.SHD_CTRL, 0, 1⟩
def Fld.SHD_CTRL_STOP : Field := ⟨Reg.SHD_CTRL, 1, 1⟩
def Fld.SHD_CTRL_LAUNCH : Field := ⟨Reg.SHD_CTRL, 2, 1⟩
def Fld.SHD_CTRL_ICINV : Field := ⟨Reg.SHD_CTRL, 3, 1⟩
def Reg.SHD_STATUS : RegDesc := ⟨"SHD_STATUS", 1, 0, 64, 0x8, 4, false, 1, 0x0, 1, 0x0,
  fun _ => 0x0, 0x0, 0x0, 0x0, fun _ _ => 0x2, fun _ => true⟩
def Fld.SHD_STATUS_STATE : Field := ⟨Reg.SHD_STATUS, 0, 2⟩
def Fld.SHD_STATUS_RUNNING : Field := ⟨Reg.SHD_STATUS, 2, 9⟩
def Fld.SHD_STATUS_HANDLER : Field := ⟨Reg.SHD_STATUS, 11, 9⟩
def Reg.SHD_CFG : RegDesc := ⟨"SHD_CFG", 1, 0, 64, 0xC, 4, true, 1, 0x0, 1, 0x0,
  fun _ => 0x1, 0x0, 0x0, 0x0, fun _ _ => 0, fun _ => true⟩
def Fld.SHD_CFG_OFFLINE : Field := ⟨Reg.SHD_CFG, 0, 1⟩
def Reg.SHD_ERR : RegDesc := ⟨"SHD_ERR", 1, 0, 64, 0x14, 4, false, 1, 0x0, 1, 0x0,
  fun _ => 0x0, 0x0, 0xF, 0x0, fun _ _ => 0, fun _ => true⟩
def Fld.SHD_ERR_CFG_REFUSED : Field := ⟨Reg.SHD_ERR, 0, 1⟩
def Fld.SHD_ERR_PRECISE : Field := ⟨Reg.SHD_ERR, 1, 1⟩
def Fld.SHD_ERR_BUSERR : Field := ⟨Reg.SHD_ERR, 2, 1⟩
def Fld.SHD_ERR_NESTED : Field := ⟨Reg.SHD_ERR, 3, 1⟩
def Reg.SHD_LASTTRAP_PC : RegDesc := ⟨"SHD_LASTTRAP_PC", 1, 0, 64, 0x30, 8, false, 1, 0x0, 1, 0x0,
  fun _ => 0x0, 0x0, 0x0, 0x0, fun _ _ => 0, fun _ => true⟩
def Fld.SHD_LASTTRAP_PC_TPC : Field := ⟨Reg.SHD_LASTTRAP_PC, 0, 64⟩
def Reg.SHD_LASTTRAP_VAL : RegDesc := ⟨"SHD_LASTTRAP_VAL", 1, 0, 64, 0x38, 8, false, 1, 0x0, 1, 0x0,
  fun _ => 0x0, 0x0, 0x0, 0x0, fun _ _ => 0, fun _ => true⟩
def Fld.SHD_LASTTRAP_VAL_TVAL : Field := ⟨Reg.SHD_LASTTRAP_VAL, 0, 64⟩
def Reg.SHD_RETIRED : RegDesc := ⟨"SHD_RETIRED", 1, 0, 64, 0x40, 8, false, 1, 0x0, 1, 0x0,
  fun _ => 0x0, 0x0, 0x0, 0x0, fun _ _ => 0, fun _ => true⟩
def Fld.SHD_RETIRED_COUNT : Field := ⟨Reg.SHD_RETIRED, 0, 64⟩
def Reg.SHD_HALTS : RegDesc := ⟨"SHD_HALTS", 1, 0, 64, 0x48, 4, false, 1, 0x0, 1, 0x0,
  fun _ => 0x0, 0x0, 0x0, 0xFFFFFFFF, fun _ _ => 0, fun _ => true⟩
def Fld.SHD_HALTS_COUNT : Field := ⟨Reg.SHD_HALTS, 0, 32⟩
def Reg.SHD_COREDIS : RegDesc := ⟨"SHD_COREDIS", 1, 0, 64, 0x10, 4, true, 1, 0x0, 1, 0x0,
  fun _ => 0xFFFFFFFF, 0x0, 0x0, 0x0, fun w _ => fuseCoreMap w, fun _ => true⟩
def Fld.SHD_COREDIS_DIS : Field := ⟨Reg.SHD_COREDIS, 0, 32⟩
def Reg.SHD_ENTRY : RegDesc := ⟨"SHD_ENTRY", 1, 0, 64, 0x18, 8, true, 1, 0x0, 1, 0x0,
  fun _ => 0xFFFFFFFFFFFFFFFC, 0x0, 0x0, 0x0, fun _ _ => 0, fun _ => true⟩
def Fld.SHD_ENTRY_ENTRY : Field := ⟨Reg.SHD_ENTRY, 0, 64⟩
def Reg.SHD_TRAPVEC : RegDesc := ⟨"SHD_TRAPVEC", 1, 0, 64, 0x20, 8, true, 1, 0x0, 1, 0x0,
  fun _ => 0xFFFFFFFFFFFFFFFC, 0x0, 0x0, 0x0, fun _ _ => 0, fun _ => true⟩
def Fld.SHD_TRAPVEC_VEC : Field := ⟨Reg.SHD_TRAPVEC, 0, 64⟩
def Reg.SHD_LASTTRAP : RegDesc := ⟨"SHD_LASTTRAP", 1, 0, 64, 0x28, 4, false, 1, 0x0, 1, 0x0,
  fun _ => 0x0, 0x0, 0x0, 0x0, fun _ _ => 0, fun _ => true⟩
def Fld.SHD_LASTTRAP_THREAD : Field := ⟨Reg.SHD_LASTTRAP, 0, 8⟩
def Fld.SHD_LASTTRAP_CAUSE : Field := ⟨Reg.SHD_LASTTRAP, 8, 5⟩
def Fld.SHD_LASTTRAP_DEFERRED : Field := ⟨Reg.SHD_LASTTRAP, 13, 1⟩
def Fld.SHD_LASTTRAP_NESTED : Field := ⟨Reg.SHD_LASTTRAP, 14, 1⟩
def Reg.SHD_THR_EN : RegDesc := ⟨"SHD_THR_EN", 1, 0, 64, 0x100, 4, true, 8, 0x4, 1, 0x0,
  fun _ => 0xFFFFFFFF, 0x0, 0x0, 0x0, fun _ _ => 0, fun _ => true⟩
def Fld.SHD_THR_EN_EN : Field := ⟨Reg.SHD_THR_EN, 0, 32⟩
def Reg.SHD_THR_RUN : RegDesc := ⟨"SHD_THR_RUN", 1, 0, 64, 0x120, 4, false, 8, 0x4, 1, 0x0,
  fun _ => 0x0, 0x0, 0x0, 0x0, fun _ _ => 0, fun _ => true⟩
def Fld.SHD_THR_RUN_RUN : Field := ⟨Reg.SHD_THR_RUN, 0, 32⟩

/-- The registers of block 0x01. -/
def Reg.block1 : List RegDesc :=
  [Reg.SHD_ID, Reg.SHD_CTRL, Reg.SHD_STATUS, Reg.SHD_CFG, Reg.SHD_ERR, Reg.SHD_LASTTRAP_PC, Reg.SHD_LASTTRAP_VAL, Reg.SHD_RETIRED] ++
  [Reg.SHD_HALTS, Reg.SHD_COREDIS, Reg.SHD_ENTRY, Reg.SHD_TRAPVEC, Reg.SHD_LASTTRAP, Reg.SHD_THR_EN, Reg.SHD_THR_RUN]

/-! Block 0x02: shunters and signal boxes. -/

def Reg.SHU_ID : RegDesc := ⟨"SHU_ID", 2, 0, 96, 0x0, 4, false, 1, 0x0, 1, 0x0,
  fun _ => 0x0, 0x0, 0x0, 0x0, fun w _ => shuIdReset w, fun _ => true⟩
def Fld.SHU_ID_J : Field := ⟨Reg.SHU_ID, 0, 5⟩
def Fld.SHU_ID_DIE : Field := ⟨Reg.SHU_ID, 5, 2⟩
def Fld.SHU_ID_STALL : Field := ⟨Reg.SHU_ID, 7, 1⟩
def Fld.SHU_ID_STALL_K : Field := ⟨Reg.SHU_ID, 8, 2⟩
def Fld.SHU_ID_ROLE : Field := ⟨Reg.SHU_ID, 10, 1⟩
def Fld.SHU_ID_TILE : Field := ⟨Reg.SHU_ID, 11, 4⟩
def Reg.SHU_CTRL : RegDesc := ⟨"SHU_CTRL", 2, 0, 96, 0x4, 4, false, 1, 0x0, 1, 0x0,
  fun _ => 0x0, 0x3, 0x0, 0x0, fun _ _ => 0, fun _ => true⟩
def Fld.SHU_CTRL_START : Field := ⟨Reg.SHU_CTRL, 0, 1⟩
def Fld.SHU_CTRL_STOP : Field := ⟨Reg.SHU_CTRL, 1, 1⟩
def Reg.SHU_STATUS : RegDesc := ⟨"SHU_STATUS", 2, 0, 96, 0x8, 4, false, 1, 0x0, 1, 0x0,
  fun _ => 0x0, 0x0, 0x0, 0x0, fun _ _ => 0, fun _ => true⟩
def Fld.SHU_STATUS_STATE : Field := ⟨Reg.SHU_STATUS, 0, 2⟩
def Fld.SHU_STATUS_OUTSTANDING : Field := ⟨Reg.SHU_STATUS, 2, 10⟩
def Fld.SHU_STATUS_BUSY : Field := ⟨Reg.SHU_STATUS, 12, 8⟩
def Reg.SHU_ERR : RegDesc := ⟨"SHU_ERR", 2, 0, 96, 0xC, 4, false, 1, 0x0, 1, 0x0,
  fun _ => 0x0, 0x0, 0xF, 0x0, fun _ _ => 0, fun _ => true⟩
def Fld.SHU_ERR_CFG_REFUSED : Field := ⟨Reg.SHU_ERR, 0, 1⟩
def Fld.SHU_ERR_SKEW : Field := ⟨Reg.SHU_ERR, 1, 1⟩
def Fld.SHU_ERR_DEADLOCK : Field := ⟨Reg.SHU_ERR, 2, 1⟩
def Fld.SHU_ERR_UNREACH : Field := ⟨Reg.SHU_ERR, 3, 1⟩
def Reg.SHU_SEED : RegDesc := ⟨"SHU_SEED", 2, 0, 96, 0x10, 8, false, 1, 0x0, 1, 0x0,
  fun _ => 0xFFFFFFFFFFFFFFFF, 0x0, 0x0, 0x0, fun _ _ => 0, fun _ => true⟩
def Fld.SHU_SEED_SEED : Field := ⟨Reg.SHU_SEED, 0, 64⟩
def Reg.SHU_CONV_OVF : RegDesc := ⟨"SHU_CONV_OVF", 2, 0, 96, 0x18, 4, false, 1, 0x0, 1, 0x0,
  fun _ => 0x0, 0x0, 0x0, 0xFFFFFFFF, fun _ _ => 0, fun _ => true⟩
def Fld.SHU_CONV_OVF_COUNT : Field := ⟨Reg.SHU_CONV_OVF, 0, 32⟩
def Reg.SHU_CONV_POIS : RegDesc := ⟨"SHU_CONV_POIS", 2, 0, 96, 0x1C, 4, false, 1, 0x0, 1, 0x0,
  fun _ => 0x0, 0x0, 0x0, 0xFFFFFFFF, fun _ _ => 0, fun _ => true⟩
def Fld.SHU_CONV_POIS_COUNT : Field := ⟨Reg.SHU_CONV_POIS, 0, 32⟩
def Reg.SHU_BYTES : RegDesc := ⟨"SHU_BYTES", 2, 0, 96, 0x20, 8, false, 1, 0x0, 1, 0x0,
  fun _ => 0x0, 0x0, 0x0, 0x0, fun _ _ => 0, fun _ => true⟩
def Fld.SHU_BYTES_COUNT : Field := ⟨Reg.SHU_BYTES, 0, 64⟩
def Reg.SHU_CLASS : RegDesc := ⟨"SHU_CLASS", 2, 0, 96, 0x30, 4, true, 3, 0x4, 1, 0x0,
  fun _ => 0xFFFFFFFF, 0x0, 0x0, 0x0, fun _ _ => 0x800000, fun _ => true⟩
def Fld.SHU_CLASS_RATE : Field := ⟨Reg.SHU_CLASS, 0, 16⟩
def Fld.SHU_CLASS_DEPTH : Field := ⟨Reg.SHU_CLASS, 16, 16⟩
def Reg.SHU_TQ_ARM : RegDesc := ⟨"SHU_TQ_ARM", 2, 0, 96, 0x40, 8, false, 1, 0x0, 1, 0x0,
  fun _ => 0x0, 0xFFFFFFFFFFFF, 0x0, 0x0, fun _ _ => 0, fun w => w % 24 < 8 && w % 2 == 0⟩
def Fld.SHU_TQ_ARM_ADDR : Field := ⟨Reg.SHU_TQ_ARM, 0, 48⟩
def Reg.SHU_TQ_STATUS : RegDesc := ⟨"SHU_TQ_STATUS", 2, 0, 96, 0x48, 4, false, 1, 0x0, 1, 0x0,
  fun _ => 0x0, 0x0, 0x0, 0x0, fun _ _ => 0, fun w => w % 24 < 8 && w % 2 == 0⟩
def Fld.SHU_TQ_STATUS_DEPTH : Field := ⟨Reg.SHU_TQ_STATUS, 0, 5⟩
def Fld.SHU_TQ_STATUS_FULL : Field := ⟨Reg.SHU_TQ_STATUS, 5, 1⟩
def Fld.SHU_TQ_STATUS_STATUS : Field := ⟨Reg.SHU_TQ_STATUS, 8, 8⟩
def Fld.SHU_TQ_STATUS_SEQ : Field := ⟨Reg.SHU_TQ_STATUS, 16, 8⟩
def Reg.SHU_CH_ARM : RegDesc := ⟨"SHU_CH_ARM", 2, 0, 96, 0x100, 8, false, 8, 0x40, 1, 0x0,
  fun _ => 0x0, 0xFFFFFFFFFFFF, 0x0, 0x0, fun _ _ => 0, fun _ => true⟩
def Fld.SHU_CH_ARM_ADDR : Field := ⟨Reg.SHU_CH_ARM, 0, 48⟩
def Reg.SHU_CH_CTRL : RegDesc := ⟨"SHU_CH_CTRL", 2, 0, 96, 0x108, 4, false, 8, 0x40, 1, 0x0,
  fun _ => 0x0, 0x3, 0x0, 0x0, fun _ _ => 0, fun _ => true⟩
def Fld.SHU_CH_CTRL_CLEAR : Field := ⟨Reg.SHU_CH_CTRL, 0, 1⟩
def Fld.SHU_CH_CTRL_DROP_SHADOW : Field := ⟨Reg.SHU_CH_CTRL, 1, 1⟩
def Reg.SHU_CH_STATUS : RegDesc := ⟨"SHU_CH_STATUS", 2, 0, 96, 0x10C, 4, false, 8, 0x40, 1, 0x0,
  fun _ => 0x0, 0x0, 0x0, 0x0, fun _ _ => 0, fun _ => true⟩
def Fld.SHU_CH_STATUS_STATE : Field := ⟨Reg.SHU_CH_STATUS, 0, 2⟩
def Fld.SHU_CH_STATUS_SHADOW : Field := ⟨Reg.SHU_CH_STATUS, 2, 1⟩
def Fld.SHU_CH_STATUS_HCAUSE : Field := ⟨Reg.SHU_CH_STATUS, 3, 2⟩
def Fld.SHU_CH_STATUS_WAITING : Field := ⟨Reg.SHU_CH_STATUS, 5, 2⟩
def Fld.SHU_CH_STATUS_WAIT_SID : Field := ⟨Reg.SHU_CH_STATUS, 8, 8⟩
def Fld.SHU_CH_STATUS_OUTSTANDING : Field := ⟨Reg.SHU_CH_STATUS, 16, 10⟩
def Reg.SHU_CH_ARMST : RegDesc := ⟨"SHU_CH_ARMST", 2, 0, 96, 0x110, 4, false, 8, 0x40, 1, 0x0,
  fun _ => 0x0, 0x0, 0x0, 0x0, fun _ _ => 0, fun _ => true⟩
def Fld.SHU_CH_ARMST_STATUS : Field := ⟨Reg.SHU_CH_ARMST, 0, 8⟩
def Fld.SHU_CH_ARMST_SEQ : Field := ⟨Reg.SHU_CH_ARMST, 8, 8⟩
def Reg.SHU_CH_DONE : RegDesc := ⟨"SHU_CH_DONE", 2, 0, 96, 0x118, 8, false, 8, 0x40, 1, 0x0,
  fun _ => 0x0, 0x0, 0x0, 0x0, fun _ _ => 0, fun _ => true⟩
def Fld.SHU_CH_DONE_POS : Field := ⟨Reg.SHU_CH_DONE, 0, 64⟩
def Reg.SHU_CH_DESC : RegDesc := ⟨"SHU_CH_DESC", 2, 0, 96, 0x120, 8, false, 8, 0x40, 1, 0x0,
  fun _ => 0x0, 0x0, 0x0, 0x0, fun _ _ => 0, fun _ => true⟩
def Fld.SHU_CH_DESC_ADDR : Field := ⟨Reg.SHU_CH_DESC, 0, 48⟩
def Reg.SHU_CH_WAITCNT : RegDesc := ⟨"SHU_CH_WAITCNT", 2, 0, 96, 0x128, 4, false, 8, 0x40, 1, 0x0,
  fun _ => 0x0, 0x0, 0x0, 0x0, fun _ _ => 0, fun _ => true⟩
def Fld.SHU_CH_WAITCNT_COUNT : Field := ⟨Reg.SHU_CH_WAITCNT, 0, 32⟩
def Reg.SBX_CNT : RegDesc := ⟨"SBX_CNT", 2, 128, 4, 0x0, 4, false, 1024, 0x4, 1, 0x0,
  fun _ => 0xFFFFFFFF, 0x0, 0x0, 0x0, fun _ _ => 0, fun _ => true⟩
def Fld.SBX_CNT_COUNT : Field := ⟨Reg.SBX_CNT, 0, 32⟩
def Reg.SBX_INC : RegDesc := ⟨"SBX_INC", 2, 128, 4, 0x1000, 4, false, 1024, 0x4, 1, 0x0,
  fun _ => 0x0, 0xFFFFFFFF, 0x0, 0x0, fun _ _ => 0, fun _ => true⟩
def Fld.SBX_INC_INC : Field := ⟨Reg.SBX_INC, 0, 32⟩
def Reg.SID_BASE : RegDesc := ⟨"SID_BASE", 2, 132, 4, 0x0, 8, true, 256, 0x40, 1, 0x0,
  fun _ => 0xFFFFFFFFFFC0, 0x0, 0x0, 0x0, fun _ _ => 0, fun _ => true⟩
def Fld.SID_BASE_BASE : Field := ⟨Reg.SID_BASE, 0, 48⟩
def Reg.SID_CFG : RegDesc := ⟨"SID_CFG", 2, 132, 4, 0x8, 4, true, 256, 0x40, 1, 0x0,
  fun _ => 0x1FFFFFF, 0x0, 0x0, 0x0, fun _ _ => 0, fun _ => true⟩
def Fld.SID_CFG_SLOTS : Field := ⟨Reg.SID_CFG, 0, 7⟩
def Fld.SID_CFG_SLOT_UNITS : Field := ⟨Reg.SID_CFG, 7, 18⟩
def Reg.SID_ELEMS : RegDesc := ⟨"SID_ELEMS", 2, 132, 4, 0xC, 4, true, 256, 0x40, 1, 0x0,
  fun _ => 0xFFFFFFFF, 0x0, 0x0, 0x0, fun _ _ => 0, fun _ => true⟩
def Fld.SID_ELEMS_ELEMS : Field := ⟨Reg.SID_ELEMS, 0, 32⟩
def Reg.SID_PTR : RegDesc := ⟨"SID_PTR", 2, 132, 4, 0x10, 4, false, 256, 0x40, 1, 0x0,
  fun _ => 0x0, 0x0, 0x0, 0x0, fun _ _ => 0, fun _ => true⟩
def Fld.SID_PTR_HEAD : Field := ⟨Reg.SID_PTR, 0, 6⟩
def Fld.SID_PTR_TAIL : Field := ⟨Reg.SID_PTR, 8, 6⟩
def Fld.SID_PTR_FILL : Field := ⟨Reg.SID_PTR, 16, 7⟩
def Reg.SID_SEQ : RegDesc := ⟨"SID_SEQ", 2, 132, 4, 0x14, 4, false, 256, 0x40, 1, 0x0,
  fun _ => 0x0, 0x0, 0x0, 0x0, fun _ _ => 0, fun _ => true⟩
def Fld.SID_SEQ_SEQ : Field := ⟨Reg.SID_SEQ, 0, 32⟩
def Reg.SID_PUB : RegDesc := ⟨"SID_PUB", 2, 132, 4, 0x18, 4, false, 256, 0x40, 1, 0x0,
  fun _ => 0x0, 0x7F, 0x0, 0x0, fun _ _ => 0, fun _ => true⟩
def Fld.SID_PUB_N : Field := ⟨Reg.SID_PUB, 0, 7⟩
def Reg.SID_REL : RegDesc := ⟨"SID_REL", 2, 132, 4, 0x1C, 4, false, 256, 0x40, 1, 0x0,
  fun _ => 0x0, 0x7F, 0x0, 0x0, fun _ _ => 0, fun _ => true⟩
def Fld.SID_REL_N : Field := ⟨Reg.SID_REL, 0, 7⟩
def Reg.SID_SBX : RegDesc := ⟨"SID_SBX", 2, 132, 4, 0x20, 4, true, 256, 0x40, 1, 0x0,
  fun _ => 0x13FF13FF, 0x0, 0x0, 0x0, fun _ _ => 0, fun _ => true⟩
def Fld.SID_SBX_PUB_SBX : Field := ⟨Reg.SID_SBX, 0, 10⟩
def Fld.SID_SBX_PUB_EN : Field := ⟨Reg.SID_SBX, 12, 1⟩
def Fld.SID_SBX_REL_SBX : Field := ⟨Reg.SID_SBX, 16, 10⟩
def Fld.SID_SBX_REL_EN : Field := ⟨Reg.SID_SBX, 28, 1⟩
def Reg.SID_PARTY : RegDesc := ⟨"SID_PARTY", 2, 132, 4, 0x24, 4, false, 256, 0x40, 1, 0x0,
  fun _ => 0x0, 0x0, 0x0, 0x0, fun _ _ => 0xFFFF, fun _ => true⟩
def Fld.SID_PARTY_PROD : Field := ⟨Reg.SID_PARTY, 0, 8⟩
def Fld.SID_PARTY_CONS : Field := ⟨Reg.SID_PARTY, 8, 8⟩
def Reg.SID_ERR : RegDesc := ⟨"SID_ERR", 2, 132, 4, 0x28, 4, false, 256, 0x40, 1, 0x0,
  fun _ => 0x0, 0x0, 0x7, 0x0, fun _ _ => 0, fun _ => true⟩
def Fld.SID_ERR_PUB_OVER : Field := ⟨Reg.SID_ERR, 0, 1⟩
def Fld.SID_ERR_REL_OVER : Field := ⟨Reg.SID_ERR, 1, 1⟩
def Fld.SID_ERR_PARTY : Field := ⟨Reg.SID_ERR, 2, 1⟩
def Reg.SID_CTRL : RegDesc := ⟨"SID_CTRL", 2, 132, 4, 0x2C, 4, true, 256, 0x40, 1, 0x0,
  fun _ => 0x0, 0x1, 0x0, 0x0, fun _ _ => 0, fun _ => true⟩
def Fld.SID_CTRL_RESET : Field := ⟨Reg.SID_CTRL, 0, 1⟩
def Reg.SID_DLWIN : RegDesc := ⟨"SID_DLWIN", 2, 132, 4, 0x8000, 4, true, 1, 0x0, 1, 0x0,
  fun _ => 0x1F, 0x0, 0x0, 0x0, fun _ _ => 0x14, fun _ => true⟩
def Fld.SID_DLWIN_LOG2 : Field := ⟨Reg.SID_DLWIN, 0, 5⟩

/-- The registers of block 0x02. -/
def Reg.block2 : List RegDesc :=
  [Reg.SHU_ID, Reg.SHU_CTRL, Reg.SHU_STATUS, Reg.SHU_ERR, Reg.SHU_SEED, Reg.SHU_CONV_OVF, Reg.SHU_CONV_POIS, Reg.SHU_BYTES] ++
  [Reg.SHU_CLASS, Reg.SHU_TQ_ARM, Reg.SHU_TQ_STATUS, Reg.SHU_CH_ARM, Reg.SHU_CH_CTRL, Reg.SHU_CH_STATUS, Reg.SHU_CH_ARMST, Reg.SHU_CH_DONE] ++
  [Reg.SHU_CH_DESC, Reg.SHU_CH_WAITCNT, Reg.SBX_CNT, Reg.SBX_INC, Reg.SID_BASE, Reg.SID_CFG, Reg.SID_ELEMS, Reg.SID_PTR] ++
  [Reg.SID_SEQ, Reg.SID_PUB, Reg.SID_REL, Reg.SID_SBX, Reg.SID_PARTY, Reg.SID_ERR, Reg.SID_CTRL, Reg.SID_DLWIN]

/-! Block 0x03: mangers and integrity. -/

def Reg.MGR_CE : RegDesc := ⟨"MGR_CE", 3, 0, 4, 0x0, 4, false, 1, 0x0, 1, 0x0,
  fun _ => 0x0, 0x0, 0x0, 0xFFFFFFFF, fun _ _ => 0, fun _ => true⟩
def Fld.MGR_CE_COUNT : Field := ⟨Reg.MGR_CE, 0, 32⟩
def Reg.MGR_UE : RegDesc := ⟨"MGR_UE", 3, 0, 4, 0x4, 4, false, 1, 0x0, 1, 0x0,
  fun _ => 0x0, 0x0, 0x0, 0xFFFFFFFF, fun _ _ => 0, fun _ => true⟩
def Fld.MGR_UE_COUNT : Field := ⟨Reg.MGR_UE, 0, 32⟩
def Reg.MGR_POISRD : RegDesc := ⟨"MGR_POISRD", 3, 0, 4, 0x8, 4, false, 1, 0x0, 1, 0x0,
  fun _ => 0x0, 0x0, 0x0, 0xFFFFFFFF, fun _ _ => 0, fun _ => true⟩
def Fld.MGR_POISRD_COUNT : Field := ⟨Reg.MGR_POISRD, 0, 32⟩
def Reg.MGR_LASTUE : RegDesc := ⟨"MGR_LASTUE", 3, 0, 4, 0x10, 8, false, 1, 0x0, 1, 0x0,
  fun _ => 0x0, 0x0, 0x0, 0x0, fun _ _ => 0, fun _ => true⟩
def Fld.MGR_LASTUE_ADDR : Field := ⟨Reg.MGR_LASTUE, 0, 48⟩
def Reg.MGR_LASTSYN : RegDesc := ⟨"MGR_LASTSYN", 3, 0, 4, 0x18, 4, false, 1, 0x0, 1, 0x0,
  fun _ => 0x0, 0x0, 0x0, 0x0, fun _ _ => 0, fun _ => true⟩
def Fld.MGR_LASTSYN_SYN : Field := ⟨Reg.MGR_LASTSYN, 0, 5⟩
def Fld.MGR_LASTSYN_GROOM : Field := ⟨Reg.MGR_LASTSYN, 5, 1⟩
def Reg.MGR_HND : RegDesc := ⟨"MGR_HND", 3, 0, 4, 0x20, 8, true, 1, 0x0, 1, 0x0,
  fun _ => 0x0, 0x0, 0xFFFFFFFFFFFFFFFF, 0x0, fun _ _ => 0, fun _ => true⟩
def Fld.MGR_HND_HND : Field := ⟨Reg.MGR_HND, 0, 64⟩
def Reg.MGR_OFFLINE : RegDesc := ⟨"MGR_OFFLINE", 3, 0, 4, 0x28, 8, false, 1, 0x0, 1, 0x0,
  fun _ => 0x0, 0x0, 0x0, 0x0, fun _ _ => 0, fun _ => true⟩
def Fld.MGR_OFFLINE_OFF : Field := ⟨Reg.MGR_OFFLINE, 0, 64⟩
def Reg.MGR_HWIN : RegDesc := ⟨"MGR_HWIN", 3, 0, 4, 0x30, 4, true, 1, 0x0, 1, 0x0,
  fun _ => 0xFFFF, 0x0, 0x0, 0x0, fun _ _ => 0x64, fun _ => true⟩
def Fld.MGR_HWIN_MS : Field := ⟨Reg.MGR_HWIN, 0, 16⟩
def Reg.MGR_CETHR : RegDesc := ⟨"MGR_CETHR", 3, 0, 4, 0x34, 4, true, 1, 0x0, 1, 0x0,
  fun _ => 0xFFFFFFFF, 0x0, 0x0, 0x0, fun _ _ => 64, fun _ => true⟩
def Fld.MGR_CETHR_COUNT : Field := ⟨Reg.MGR_CETHR, 0, 32⟩
def Reg.MGR_SOFTREP : RegDesc := ⟨"MGR_SOFTREP", 3, 0, 4, 0x38, 4, true, 1, 0x0, 1, 0x0,
  fun _ => 0x0, 0x7FFFF, 0x0, 0x0, fun _ _ => 0, fun _ => true⟩
def Fld.MGR_SOFTREP_BANK : Field := ⟨Reg.MGR_SOFTREP, 0, 6⟩
def Fld.MGR_SOFTREP_ROW : Field := ⟨Reg.MGR_SOFTREP, 6, 13⟩
def Reg.MGR_REPST : RegDesc := ⟨"MGR_REPST", 3, 0, 4, 0x3C, 4, false, 1, 0x0, 1, 0x0,
  fun _ => 0x0, 0x0, 0x0, 0x0, fun _ _ => 0, fun _ => true⟩
def Fld.MGR_REPST_RES : Field := ⟨Reg.MGR_REPST, 0, 2⟩
def Fld.MGR_REPST_SEQ : Field := ⟨Reg.MGR_REPST, 2, 8⟩
def Reg.MGR_SPARE : RegDesc := ⟨"MGR_SPARE", 3, 0, 4, 0x100, 4, false, 64, 0x4, 1, 0x0,
  fun _ => 0x0, 0x0, 0x0, 0x0, fun w i => fuseSpares w i, fun _ => true⟩
def Fld.MGR_SPARE_FROWS : Field := ⟨Reg.MGR_SPARE, 0, 5⟩
def Fld.MGR_SPARE_FCOLS : Field := ⟨Reg.MGR_SPARE, 5, 4⟩
def Fld.MGR_SPARE_SROWS : Field := ⟨Reg.MGR_SPARE, 9, 3⟩
def Reg.MGR_SOFTMAP : RegDesc := ⟨"MGR_SOFTMAP", 3, 0, 4, 0x200, 8, false, 64, 0x8, 1, 0x0,
  fun _ => 0x0, 0x0, 0x0, 0x0, fun _ _ => 0, fun _ => true⟩
def Fld.MGR_SOFTMAP_ROW0 : Field := ⟨Reg.MGR_SOFTMAP, 0, 13⟩
def Fld.MGR_SOFTMAP_ROW1 : Field := ⟨Reg.MGR_SOFTMAP, 16, 13⟩
def Fld.MGR_SOFTMAP_ROW2 : Field := ⟨Reg.MGR_SOFTMAP, 32, 13⟩
def Fld.MGR_SOFTMAP_ROW3 : Field := ⟨Reg.MGR_SOFTMAP, 48, 13⟩
def Fld.MGR_SOFTMAP_VALID0 : Field := ⟨Reg.MGR_SOFTMAP, 15, 1⟩
def Fld.MGR_SOFTMAP_VALID1 : Field := ⟨Reg.MGR_SOFTMAP, 31, 1⟩
def Fld.MGR_SOFTMAP_VALID2 : Field := ⟨Reg.MGR_SOFTMAP, 47, 1⟩
def Fld.MGR_SOFTMAP_VALID3 : Field := ⟨Reg.MGR_SOFTMAP, 63, 1⟩
def Reg.ECC_CE : RegDesc := ⟨"ECC_CE", 3, 4, 20, 0x0, 4, false, 1, 0x0, 1, 0x0,
  fun _ => 0x0, 0x0, 0x0, 0xFFFFFFFF, fun _ _ => 0, fun _ => true⟩
def Fld.ECC_CE_COUNT : Field := ⟨Reg.ECC_CE, 0, 32⟩
def Reg.ECC_UE : RegDesc := ⟨"ECC_UE", 3, 4, 20, 0x4, 4, false, 1, 0x0, 1, 0x0,
  fun _ => 0x0, 0x0, 0x0, 0xFFFFFFFF, fun _ _ => 0, fun _ => true⟩
def Fld.ECC_UE_COUNT : Field := ⟨Reg.ECC_UE, 0, 32⟩
def Reg.ECC_AE : RegDesc := ⟨"ECC_AE", 3, 4, 20, 0x8, 4, false, 1, 0x0, 1, 0x0,
  fun _ => 0x0, 0x0, 0x0, 0xFFFFFFFF, fun _ _ => 0, fun _ => true⟩
def Fld.ECC_AE_COUNT : Field := ⟨Reg.ECC_AE, 0, 32⟩
def Reg.ECC_POISRD : RegDesc := ⟨"ECC_POISRD", 3, 4, 20, 0xC, 4, false, 1, 0x0, 1, 0x0,
  fun _ => 0x0, 0x0, 0x0, 0xFFFFFFFF, fun _ _ => 0, fun _ => true⟩
def Fld.ECC_POISRD_COUNT : Field := ⟨Reg.ECC_POISRD, 0, 32⟩
def Reg.ECC_LASTUE : RegDesc := ⟨"ECC_LASTUE", 3, 4, 20, 0x10, 8, false, 1, 0x0, 1, 0x0,
  fun _ => 0x0, 0x0, 0x0, 0x0, fun _ _ => 0, fun _ => true⟩
def Fld.ECC_LASTUE_ADDR : Field := ⟨Reg.ECC_LASTUE, 0, 48⟩
def Reg.ECC_LASTINFO : RegDesc := ⟨"ECC_LASTINFO", 3, 4, 20, 0x18, 4, false, 1, 0x0, 1, 0x0,
  fun _ => 0x0, 0x0, 0x0, 0x0, fun _ _ => 0, fun _ => true⟩
def Fld.ECC_LASTINFO_NSYM : Field := ⟨Reg.ECC_LASTINFO, 0, 8⟩
def Fld.ECC_LASTINFO_ADDRF : Field := ⟨Reg.ECC_LASTINFO, 8, 1⟩
def Fld.ECC_LASTINFO_GROOM : Field := ⟨Reg.ECC_LASTINFO, 9, 1⟩
def Fld.ECC_LASTINFO_DEVICE : Field := ⟨Reg.ECC_LASTINFO, 10, 4⟩
def Reg.ECC_HND : RegDesc := ⟨"ECC_HND", 3, 4, 20, 0x1C, 4, true, 1, 0x0, 1, 0x0,
  fun _ => 0x0, 0x0, 0x1, 0x0, fun _ _ => 0, fun _ => true⟩
def Fld.ECC_HND_HND : Field := ⟨Reg.ECC_HND, 0, 1⟩
def Reg.ECC_HWIN : RegDesc := ⟨"ECC_HWIN", 3, 4, 20, 0x20, 4, true, 1, 0x0, 1, 0x0,
  fun _ => 0xFFFF, 0x0, 0x0, 0x0, fun _ _ => 0x64, fun _ => true⟩
def Fld.ECC_HWIN_MS : Field := ⟨Reg.ECC_HWIN, 0, 16⟩
def Reg.ECC_CETHR : RegDesc := ⟨"ECC_CETHR", 3, 4, 20, 0x24, 4, true, 1, 0x0, 1, 0x0,
  fun _ => 0xFFFFFFFF, 0x0, 0x0, 0x0, fun _ _ => 4096, fun _ => true⟩
def Fld.ECC_CETHR_COUNT : Field := ⟨Reg.ECC_CETHR, 0, 32⟩
def Reg.ECC_REPCNT : RegDesc := ⟨"ECC_REPCNT", 3, 4, 20, 0x28, 4, false, 1, 0x0, 1, 0x0,
  fun _ => 0x0, 0x0, 0x0, 0x0, fun _ _ => 0, fun _ => true⟩
def Fld.ECC_REPCNT_REPAIRS : Field := ⟨Reg.ECC_REPCNT, 0, 8⟩
def Reg.GRM_CTRL : RegDesc := ⟨"GRM_CTRL", 3, 24, 1, 0x0, 4, true, 1, 0x0, 1, 0x0,
  fun _ => 0x7, 0x0, 0x0, 0x0, fun _ _ => 0x7, fun _ => true⟩
def Fld.GRM_CTRL_EN_MGR : Field := ⟨Reg.GRM_CTRL, 0, 1⟩
def Fld.GRM_CTRL_EN_HBM : Field := ⟨Reg.GRM_CTRL, 1, 1⟩
def Fld.GRM_CTRL_EN_DDR : Field := ⟨Reg.GRM_CTRL, 2, 1⟩
def Reg.GRM_PACE : RegDesc := ⟨"GRM_PACE", 3, 24, 1, 0x4, 4, true, 1, 0x0, 1, 0x0,
  fun _ => 0xFFF, 0x0, 0x0, 0x0, fun _ _ => 0xA8C, fun _ => true⟩
def Fld.GRM_PACE_MGR : Field := ⟨Reg.GRM_PACE, 0, 4⟩
def Fld.GRM_PACE_HBM : Field := ⟨Reg.GRM_PACE, 4, 4⟩
def Fld.GRM_PACE_DDR : Field := ⟨Reg.GRM_PACE, 8, 4⟩
def Reg.GRM_LAPMAX_MGR : RegDesc := ⟨"GRM_LAPMAX_MGR", 3, 24, 1, 0x8, 4, true, 1, 0x0, 1, 0x0,
  fun _ => 0xFFFFFFFF, 0x0, 0x0, 0x0, fun _ _ => 1000, fun _ => true⟩
def Fld.GRM_LAPMAX_MGR_MS : Field := ⟨Reg.GRM_LAPMAX_MGR, 0, 32⟩
def Reg.GRM_LAPMAX_HBM : RegDesc := ⟨"GRM_LAPMAX_HBM", 3, 24, 1, 0xC, 4, true, 1, 0x0, 1, 0x0,
  fun _ => 0xFFFFFFFF, 0x0, 0x0, 0x0, fun _ _ => 60000, fun _ => true⟩
def Fld.GRM_LAPMAX_HBM_MS : Field := ⟨Reg.GRM_LAPMAX_HBM, 0, 32⟩
def Reg.GRM_LAPMAX_DDR : RegDesc := ⟨"GRM_LAPMAX_DDR", 3, 24, 1, 0x10, 4, true, 1, 0x0, 1, 0x0,
  fun _ => 0xFFFFFFFF, 0x0, 0x0, 0x0, fun _ _ => 3600000, fun _ => true⟩
def Fld.GRM_LAPMAX_DDR_MS : Field := ⟨Reg.GRM_LAPMAX_DDR, 0, 32⟩
def Reg.GRM_ALARM : RegDesc := ⟨"GRM_ALARM", 3, 24, 1, 0x14, 4, true, 1, 0x0, 1, 0x0,
  fun _ => 0x0, 0x0, 0xFFFFFF, 0x0, fun _ _ => 0, fun _ => true⟩
def Fld.GRM_ALARM_ALARM : Field := ⟨Reg.GRM_ALARM, 0, 24⟩
def Reg.GRM_LAP : RegDesc := ⟨"GRM_LAP", 3, 24, 1, 0x100, 4, false, 24, 0x4, 1, 0x0,
  fun _ => 0x0, 0x0, 0x0, 0x0, fun _ _ => 0, fun _ => true⟩
def Fld.GRM_LAP_MS : Field := ⟨Reg.GRM_LAP, 0, 32⟩
def Reg.GRM_CUR : RegDesc := ⟨"GRM_CUR", 3, 24, 1, 0x180, 4, false, 24, 0x4, 1, 0x0,
  fun _ => 0x0, 0x0, 0x0, 0x0, fun _ _ => 0, fun _ => true⟩
def Fld.GRM_CUR_MS : Field := ⟨Reg.GRM_CUR, 0, 32⟩
def Reg.ECC_FLIP_ADDR : RegDesc := ⟨"ECC_FLIP_ADDR", 3, 25, 1, 0x0, 8, true, 1, 0x0, 1, 0x0,
  fun _ => 0xFFFFFFFFFFFF, 0x0, 0x0, 0x0, fun _ _ => 0, fun _ => true⟩
def Fld.ECC_FLIP_ADDR_ADDR : Field := ⟨Reg.ECC_FLIP_ADDR, 0, 48⟩
def Reg.ECC_FLIP_DATA : RegDesc := ⟨"ECC_FLIP_DATA", 3, 25, 1, 0x8, 4, true, 1, 0x0, 1, 0x0,
  fun _ => 0x7FFFFF, 0x0, 0x0, 0x0, fun _ _ => 0, fun _ => true⟩
def Fld.ECC_FLIP_DATA_MASK : Field := ⟨Reg.ECC_FLIP_DATA, 0, 16⟩
def Fld.ECC_FLIP_DATA_SYM : Field := ⟨Reg.ECC_FLIP_DATA, 16, 7⟩
def Reg.ECC_FLIP_CTRL : RegDesc := ⟨"ECC_FLIP_CTRL", 3, 25, 1, 0xC, 4, true, 1, 0x0, 1, 0x0,
  fun _ => 0x0, 0x3, 0x0, 0x0, fun _ _ => 0, fun _ => true⟩
def Fld.ECC_FLIP_CTRL_ARM : Field := ⟨Reg.ECC_FLIP_CTRL, 0, 1⟩
def Fld.ECC_FLIP_CTRL_DISARM : Field := ⟨Reg.ECC_FLIP_CTRL, 1, 1⟩
def Reg.ECC_FLIP_XOR : RegDesc := ⟨"ECC_FLIP_XOR", 3, 25, 1, 0x10, 8, true, 1, 0x0, 1, 0x0,
  fun _ => 0xFFFFFFFFFFFF, 0x0, 0x0, 0x0, fun _ _ => 0, fun _ => true⟩
def Fld.ECC_FLIP_XOR_XOR : Field := ⟨Reg.ECC_FLIP_XOR, 0, 48⟩
def Reg.ECC_FLIP_STATUS : RegDesc := ⟨"ECC_FLIP_STATUS", 3, 25, 1, 0x18, 4, true, 1, 0x0, 1, 0x0,
  fun _ => 0x0, 0x0, 0x0, 0x2, fun _ _ => 0, fun _ => true⟩
def Fld.ECC_FLIP_STATUS_ARMED : Field := ⟨Reg.ECC_FLIP_STATUS, 0, 1⟩
def Fld.ECC_FLIP_STATUS_FIRED : Field := ⟨Reg.ECC_FLIP_STATUS, 1, 1⟩
def Reg.ECC_OHOLD : RegDesc := ⟨"ECC_OHOLD", 3, 25, 1, 0x1C, 4, true, 1, 0x0, 1, 0x0,
  fun _ => 0x0, 0x0, 0x1, 0x0, fun _ _ => 0, fun _ => true⟩
def Fld.ECC_OHOLD_HOLD : Field := ⟨Reg.ECC_OHOLD, 0, 1⟩
def Reg.ECC_FILLST : RegDesc := ⟨"ECC_FILLST", 3, 25, 1, 0x20, 4, false, 1, 0x0, 1, 0x0,
  fun _ => 0x0, 0x0, 0x0, 0x0, fun _ _ => 0, fun _ => true⟩
def Fld.ECC_FILLST_PASS : Field := ⟨Reg.ECC_FILLST, 0, 24⟩
def Reg.ECC_OCE : RegDesc := ⟨"ECC_OCE", 3, 25, 1, 0x24, 4, false, 1, 0x0, 1, 0x0,
  fun _ => 0x0, 0x0, 0x0, 0xFFFFFFFF, fun _ _ => 0, fun _ => true⟩
def Fld.ECC_OCE_COUNT : Field := ⟨Reg.ECC_OCE, 0, 32⟩

/-- The registers of block 0x03. -/
def Reg.block3 : List RegDesc :=
  [Reg.MGR_CE, Reg.MGR_UE, Reg.MGR_POISRD, Reg.MGR_LASTUE, Reg.MGR_LASTSYN, Reg.MGR_HND, Reg.MGR_OFFLINE, Reg.MGR_HWIN] ++
  [Reg.MGR_CETHR, Reg.MGR_SOFTREP, Reg.MGR_REPST, Reg.MGR_SPARE, Reg.MGR_SOFTMAP, Reg.ECC_CE, Reg.ECC_UE, Reg.ECC_AE] ++
  [Reg.ECC_POISRD, Reg.ECC_LASTUE, Reg.ECC_LASTINFO, Reg.ECC_HND, Reg.ECC_HWIN, Reg.ECC_CETHR, Reg.ECC_REPCNT, Reg.GRM_CTRL] ++
  [Reg.GRM_PACE, Reg.GRM_LAPMAX_MGR, Reg.GRM_LAPMAX_HBM, Reg.GRM_LAPMAX_DDR, Reg.GRM_ALARM, Reg.GRM_LAP, Reg.GRM_CUR, Reg.ECC_FLIP_ADDR] ++
  [Reg.ECC_FLIP_DATA, Reg.ECC_FLIP_CTRL, Reg.ECC_FLIP_XOR, Reg.ECC_FLIP_STATUS, Reg.ECC_OHOLD, Reg.ECC_FILLST, Reg.ECC_OCE]

end Sys2Proof.Machine
end

