-- ==== Sys2Proof/Machine/RegMapB.lean ====
section
/-! DEFINITION. The registers of the control blocks, transcribed from the register tables of spec/ (one
description per register, one constant per named field). Blocks: 0x04 memory tiers; 0x05 loft; 0x06 light; 0x07 monitor converters and trim DACs; 0x08 rein engine. -/
namespace Sys2Proof.Machine

/-! Block 0x04: memory tiers. -/

def Reg.HBM_ID : RegDesc := ⟨"HBM_ID", 4, 0, 8, 0x0, 4, false, 1, 0x0, 1, 0x0,
  fun _ => 0x0, 0x0, 0x0, 0x0, fun w _ => w + (w/2)*8 + (w%2)*32, fun _ => true⟩
def Fld.HBM_ID_STACK : Field := ⟨Reg.HBM_ID, 0, 3⟩
def Fld.HBM_ID_DIE : Field := ⟨Reg.HBM_ID, 3, 2⟩
def Fld.HBM_ID_TILE12 : Field := ⟨Reg.HBM_ID, 5, 1⟩
def Reg.HBM_STATUS : RegDesc := ⟨"HBM_STATUS", 4, 0, 8, 0x4, 4, false, 1, 0x0, 1, 0x0,
  fun _ => 0x0, 0x0, 0x0, 0x0, fun _ _ => 0x1, fun _ => true⟩
def Fld.HBM_STATUS_STATE : Field := ⟨Reg.HBM_STATUS, 0, 2⟩
def Fld.HBM_STATUS_BAND : Field := ⟨Reg.HBM_STATUS, 2, 3⟩
def Fld.HBM_STATUS_TEMP : Field := ⟨Reg.HBM_STATUS, 5, 8⟩
def Fld.HBM_STATUS_REF2X : Field := ⟨Reg.HBM_STATUS, 13, 1⟩
def Fld.HBM_STATUS_SPEED : Field := ⟨Reg.HBM_STATUS, 14, 2⟩
def Reg.HBM_TIMING : RegDesc := ⟨"HBM_TIMING", 4, 0, 8, 0x8, 4, false, 1, 0x0, 1, 0x0,
  fun _ => 0x0, 0x0, 0x0, 0x0, fun _ _ => 0xE0 + 0xE0*512 + 0xE0*262144 + 0x14*134217728, fun _ => true⟩
def Fld.HBM_TIMING_TRCD : Field := ⟨Reg.HBM_TIMING, 0, 9⟩
def Fld.HBM_TIMING_TRP : Field := ⟨Reg.HBM_TIMING, 9, 9⟩
def Fld.HBM_TIMING_TRL : Field := ⟨Reg.HBM_TIMING, 18, 9⟩
def Fld.HBM_TIMING_TRFC : Field := ⟨Reg.HBM_TIMING, 27, 5⟩
def Reg.HBM_CFG : RegDesc := ⟨"HBM_CFG", 4, 0, 8, 0xC, 4, true, 1, 0x0, 1, 0x0,
  fun _ => 0x1, 0x0, 0x0, 0x0, fun _ _ => 0, fun _ => true⟩
def Fld.HBM_CFG_OFFLINE : Field := ⟨Reg.HBM_CFG, 0, 1⟩
def Reg.HBM_RDBYTES : RegDesc := ⟨"HBM_RDBYTES", 4, 0, 8, 0x10, 8, false, 1, 0x0, 1, 0x0,
  fun _ => 0x0, 0x0, 0x0, 0x0, fun _ _ => 0, fun _ => true⟩
def Fld.HBM_RDBYTES_COUNT : Field := ⟨Reg.HBM_RDBYTES, 0, 64⟩
def Reg.HBM_WRBYTES : RegDesc := ⟨"HBM_WRBYTES", 4, 0, 8, 0x18, 8, false, 1, 0x0, 1, 0x0,
  fun _ => 0x0, 0x0, 0x0, 0x0, fun _ _ => 0, fun _ => true⟩
def Fld.HBM_WRBYTES_COUNT : Field := ⟨Reg.HBM_WRBYTES, 0, 64⟩
def Reg.HBM_REFCOLL : RegDesc := ⟨"HBM_REFCOLL", 4, 0, 8, 0x20, 4, false, 1, 0x0, 1, 0x0,
  fun _ => 0x0, 0x0, 0x0, 0xFFFFFFFF, fun _ _ => 0, fun _ => true⟩
def Fld.HBM_REFCOLL_COUNT : Field := ⟨Reg.HBM_REFCOLL, 0, 32⟩
def Reg.DDR_ID : RegDesc := ⟨"DDR_ID", 4, 8, 12, 0x0, 4, false, 1, 0x0, 1, 0x0,
  fun _ => 0x0, 0x0, 0x0, 0x0, fun w _ => w, fun _ => true⟩
def Fld.DDR_ID_CHANNEL : Field := ⟨Reg.DDR_ID, 0, 4⟩
def Fld.DDR_ID_MODULES : Field := ⟨Reg.DDR_ID, 4, 2⟩
def Fld.DDR_ID_MODGIB : Field := ⟨Reg.DDR_ID, 6, 8⟩
def Reg.DDR_STATUS : RegDesc := ⟨"DDR_STATUS", 4, 8, 12, 0x4, 4, false, 1, 0x0, 1, 0x0,
  fun _ => 0x0, 0x0, 0x0, 0x0, fun _ _ => 0x1, fun _ => true⟩
def Fld.DDR_STATUS_STATE : Field := ⟨Reg.DDR_STATUS, 0, 2⟩
def Fld.DDR_STATUS_BAND : Field := ⟨Reg.DDR_STATUS, 2, 3⟩
def Fld.DDR_STATUS_TEMP : Field := ⟨Reg.DDR_STATUS, 5, 8⟩
def Fld.DDR_STATUS_REF2X : Field := ⟨Reg.DDR_STATUS, 13, 1⟩
def Fld.DDR_STATUS_SPEED : Field := ⟨Reg.DDR_STATUS, 14, 2⟩
def Reg.DDR_TIMING : RegDesc := ⟨"DDR_TIMING", 4, 8, 12, 0x8, 4, false, 1, 0x0, 1, 0x0,
  fun _ => 0x0, 0x0, 0x0, 0x0, fun _ _ => 0x104 + 0x104*512 + 0x104*262144 + 0x0D*134217728, fun _ => true⟩
def Fld.DDR_TIMING_TRCD : Field := ⟨Reg.DDR_TIMING, 0, 9⟩
def Fld.DDR_TIMING_TRP : Field := ⟨Reg.DDR_TIMING, 9, 9⟩
def Fld.DDR_TIMING_TRL : Field := ⟨Reg.DDR_TIMING, 18, 9⟩
def Fld.DDR_TIMING_TRFC : Field := ⟨Reg.DDR_TIMING, 27, 5⟩
def Reg.DDR_CFG : RegDesc := ⟨"DDR_CFG", 4, 8, 12, 0xC, 4, true, 1, 0x0, 1, 0x0,
  fun _ => 0x1, 0x0, 0x0, 0x0, fun _ _ => 0, fun _ => true⟩
def Fld.DDR_CFG_OFFLINE : Field := ⟨Reg.DDR_CFG, 0, 1⟩
def Reg.DDR_RDBYTES : RegDesc := ⟨"DDR_RDBYTES", 4, 8, 12, 0x10, 8, false, 1, 0x0, 1, 0x0,
  fun _ => 0x0, 0x0, 0x0, 0x0, fun _ _ => 0, fun _ => true⟩
def Fld.DDR_RDBYTES_COUNT : Field := ⟨Reg.DDR_RDBYTES, 0, 64⟩
def Reg.DDR_WRBYTES : RegDesc := ⟨"DDR_WRBYTES", 4, 8, 12, 0x18, 8, false, 1, 0x0, 1, 0x0,
  fun _ => 0x0, 0x0, 0x0, 0x0, fun _ _ => 0, fun _ => true⟩
def Fld.DDR_WRBYTES_COUNT : Field := ⟨Reg.DDR_WRBYTES, 0, 64⟩
def Reg.DDR_REFCOLL : RegDesc := ⟨"DDR_REFCOLL", 4, 8, 12, 0x20, 4, false, 1, 0x0, 1, 0x0,
  fun _ => 0x0, 0x0, 0x0, 0xFFFFFFFF, fun _ _ => 0, fun _ => true⟩
def Fld.DDR_REFCOLL_COUNT : Field := ⟨Reg.DDR_REFCOLL, 0, 32⟩
def Reg.DDR_TOP : RegDesc := ⟨"DDR_TOP", 4, 20, 1, 0x0, 8, false, 1, 0x0, 1, 0x0,
  fun _ => 0x0, 0x0, 0x0, 0x0, fun _ _ => 0x10000000000, fun _ => true⟩
def Fld.DDR_TOP_TOP : Field := ⟨Reg.DDR_TOP, 0, 48⟩

/-- The registers of block 0x04. -/
def Reg.block4 : List RegDesc :=
  [Reg.HBM_ID, Reg.HBM_STATUS, Reg.HBM_TIMING, Reg.HBM_CFG, Reg.HBM_RDBYTES, Reg.HBM_WRBYTES, Reg.HBM_REFCOLL, Reg.DDR_ID] ++
  [Reg.DDR_STATUS, Reg.DDR_TIMING, Reg.DDR_CFG, Reg.DDR_RDBYTES, Reg.DDR_WRBYTES, Reg.DDR_REFCOLL, Reg.DDR_TOP]

/-! Block 0x05: loft. -/

def Reg.LFT_ACTIVE : RegDesc := ⟨"LFT_ACTIVE", 5, 0, 1, 0x0, 4, false, 1, 0x0, 1, 0x0,
  fun _ => 0x0, 0x0, 0x0, 0x0, fun _ _ => 0, fun _ => true⟩
def Fld.LFT_ACTIVE_BAY : Field := ⟨Reg.LFT_ACTIVE, 0, 1⟩
def Fld.LFT_ACTIVE_VALID : Field := ⟨Reg.LFT_ACTIVE, 1, 1⟩
def Reg.LFT_GEN : RegDesc := ⟨"LFT_GEN", 5, 0, 1, 0x8, 8, false, 1, 0x0, 1, 0x0,
  fun _ => 0x0, 0x0, 0x0, 0x0, fun _ _ => 0, fun _ => true⟩
def Fld.LFT_GEN_GEN : Field := ⟨Reg.LFT_GEN, 0, 64⟩
def Reg.LFT_SWITCH : RegDesc := ⟨"LFT_SWITCH", 5, 0, 1, 0x10, 4, true, 1, 0x0, 1, 0x0,
  fun _ => 0x0, 0x1, 0x0, 0x0, fun _ _ => 0, fun _ => true⟩
def Fld.LFT_SWITCH_BAY : Field := ⟨Reg.LFT_SWITCH, 0, 1⟩
def Reg.LFT_REFOP : RegDesc := ⟨"LFT_REFOP", 5, 0, 1, 0x14, 4, true, 1, 0x0, 1, 0x0,
  fun _ => 0x0, 0x3FFFF, 0x0, 0x0, fun _ _ => 0, fun _ => true⟩
def Fld.LFT_REFOP_BAY : Field := ⟨Reg.LFT_REFOP, 0, 1⟩
def Fld.LFT_REFOP_DEC : Field := ⟨Reg.LFT_REFOP, 1, 1⟩
def Fld.LFT_REFOP_N : Field := ⟨Reg.LFT_REFOP, 2, 16⟩
def Reg.LFT_ERR : RegDesc := ⟨"LFT_ERR", 5, 0, 1, 0x18, 4, false, 1, 0x0, 1, 0x0,
  fun _ => 0x0, 0x0, 0x7, 0x0, fun _ _ => 0, fun _ => true⟩
def Fld.LFT_ERR_SWITCH_REFUSED : Field := ⟨Reg.LFT_ERR, 0, 1⟩
def Fld.LFT_ERR_SET_REFUSED : Field := ⟨Reg.LFT_ERR, 1, 1⟩
def Fld.LFT_ERR_REF_REFUSED : Field := ⟨Reg.LFT_ERR, 2, 1⟩
def Reg.LFT_STAGE_SIZE : RegDesc := ⟨"LFT_STAGE_SIZE", 5, 0, 1, 0x28, 4, true, 1, 0x0, 1, 0x0,
  fun _ => 0xFFFFFFFF, 0x0, 0x0, 0x0, fun _ _ => 0x200, fun _ => true⟩
def Fld.LFT_STAGE_SIZE_MIB : Field := ⟨Reg.LFT_STAGE_SIZE, 0, 32⟩
def Reg.LFT_BTIMEOUT : RegDesc := ⟨"LFT_BTIMEOUT", 5, 0, 1, 0x2C, 4, true, 1, 0x0, 1, 0x0,
  fun _ => 0xFFFFFFFF, 0x0, 0x0, 0x0, fun _ _ => 0x258, fun _ => true⟩
def Fld.LFT_BTIMEOUT_S : Field := ⟨Reg.LFT_BTIMEOUT, 0, 32⟩
def Reg.LFT_BUILD : RegDesc := ⟨"LFT_BUILD", 5, 0, 1, 0x30, 4, false, 1, 0x0, 1, 0x0,
  fun _ => 0x0, 0x0, 0x0, 0x0, fun _ _ => 0, fun _ => true⟩
def Fld.LFT_BUILD_BAY : Field := ⟨Reg.LFT_BUILD, 0, 1⟩
def Fld.LFT_BUILD_BUSY : Field := ⟨Reg.LFT_BUILD, 1, 1⟩
def Fld.LFT_BUILD_CAUSE : Field := ⟨Reg.LFT_BUILD, 2, 4⟩
def Reg.LFT_BCHUNKS : RegDesc := ⟨"LFT_BCHUNKS", 5, 0, 1, 0x34, 4, false, 1, 0x0, 1, 0x0,
  fun _ => 0x0, 0x0, 0x0, 0x0, fun _ _ => 0, fun _ => true⟩
def Fld.LFT_BCHUNKS_DONE : Field := ⟨Reg.LFT_BCHUNKS, 0, 32⟩
def Reg.LFT_STAGE_BASE : RegDesc := ⟨"LFT_STAGE_BASE", 5, 0, 1, 0x20, 8, true, 1, 0x0, 1, 0x0,
  fun _ => 0xFFFFFFFFFE00, 0x0, 0x0, 0x0, fun _ _ => 0x6FE0000000, fun _ => true⟩
def Fld.LFT_STAGE_BASE_BASE : Field := ⟨Reg.LFT_STAGE_BASE, 0, 48⟩
def Reg.LFT_BAY_STATUS : RegDesc := ⟨"LFT_BAY_STATUS", 5, 0, 1, 0x100, 4, false, 2, 0x40, 1, 0x0,
  fun _ => 0x0, 0x0, 0x0, 0x0, fun _ _ => 0, fun _ => true⟩
def Fld.LFT_BAY_STATUS_STATE : Field := ⟨Reg.LFT_BAY_STATUS, 0, 3⟩
def Reg.LFT_BAY_SET : RegDesc := ⟨"LFT_BAY_SET", 5, 0, 1, 0x104, 4, true, 2, 0x40, 1, 0x0,
  fun _ => 0x0, 0x7, 0x0, 0x0, fun _ _ => 0, fun _ => true⟩
def Fld.LFT_BAY_SET_STATE : Field := ⟨Reg.LFT_BAY_SET, 0, 3⟩
def Reg.LFT_BAY_GEN : RegDesc := ⟨"LFT_BAY_GEN", 5, 0, 1, 0x108, 8, false, 2, 0x40, 1, 0x0,
  fun _ => 0x0, 0x0, 0x0, 0x0, fun _ _ => 0, fun _ => true⟩
def Fld.LFT_BAY_GEN_GEN : Field := ⟨Reg.LFT_BAY_GEN, 0, 64⟩
def Reg.LFT_BAY_REFS : RegDesc := ⟨"LFT_BAY_REFS", 5, 0, 1, 0x110, 4, false, 2, 0x40, 1, 0x0,
  fun _ => 0x0, 0x0, 0x0, 0x0, fun _ _ => 0, fun _ => true⟩
def Fld.LFT_BAY_REFS_REFS : Field := ⟨Reg.LFT_BAY_REFS, 0, 32⟩
def Reg.LFT_BAY_DESC : RegDesc := ⟨"LFT_BAY_DESC", 5, 0, 1, 0x118, 8, true, 2, 0x40, 1, 0x0,
  fun _ => 0xFFFFFFFFFFFF, 0x0, 0x0, 0x0, fun _ _ => 0, fun _ => true⟩
def Fld.LFT_BAY_DESC_ADDR : Field := ⟨Reg.LFT_BAY_DESC, 0, 48⟩
def Reg.LFT_BAY_VERSION : RegDesc := ⟨"LFT_BAY_VERSION", 5, 0, 1, 0x120, 8, true, 2, 0x40, 1, 0x0,
  fun _ => 0xFFFFFFFFFFFFFFFF, 0x0, 0x0, 0x0, fun _ _ => 0, fun _ => true⟩
def Fld.LFT_BAY_VERSION_VERSION : Field := ⟨Reg.LFT_BAY_VERSION, 0, 64⟩
def Reg.LFT_BAY_HBM : RegDesc := ⟨"LFT_BAY_HBM", 5, 0, 1, 0x128, 8, true, 2, 0x40, 1, 0x0,
  fun _ => 0xFFFFFFFFFFFFFFFF, 0x0, 0x0, 0x0, fun _ _ => 0, fun _ => true⟩
def Fld.LFT_BAY_HBM_BYTES : Field := ⟨Reg.LFT_BAY_HBM, 0, 64⟩
def Reg.LFT_BAY_DDR : RegDesc := ⟨"LFT_BAY_DDR", 5, 0, 1, 0x130, 8, true, 2, 0x40, 1, 0x0,
  fun _ => 0xFFFFFFFFFFFFFFFF, 0x0, 0x0, 0x0, fun _ _ => 0, fun _ => true⟩
def Fld.LFT_BAY_DDR_BYTES : Field := ⟨Reg.LFT_BAY_DDR, 0, 64⟩

/-- The registers of block 0x05. -/
def Reg.block5 : List RegDesc :=
  [Reg.LFT_ACTIVE, Reg.LFT_GEN, Reg.LFT_SWITCH, Reg.LFT_REFOP, Reg.LFT_ERR, Reg.LFT_STAGE_SIZE, Reg.LFT_BTIMEOUT, Reg.LFT_BUILD] ++
  [Reg.LFT_BCHUNKS, Reg.LFT_STAGE_BASE, Reg.LFT_BAY_STATUS, Reg.LFT_BAY_SET, Reg.LFT_BAY_GEN, Reg.LFT_BAY_REFS, Reg.LFT_BAY_DESC, Reg.LFT_BAY_VERSION] ++
  [Reg.LFT_BAY_HBM, Reg.LFT_BAY_DDR]

/-! Block 0x06: light. -/

def Reg.LTE_STATUS : RegDesc := ⟨"LTE_STATUS", 6, 0, 1, 0x0, 4, false, 1, 0x0, 1, 0x0,
  fun _ => 0x0, 0x0, 0x0, 0x0, fun _ _ => 0, fun _ => true⟩
def Fld.LTE_STATUS_COMB0 : Field := ⟨Reg.LTE_STATUS, 0, 2⟩
def Fld.LTE_STATUS_COMB1 : Field := ⟨Reg.LTE_STATUS, 2, 2⟩
def Fld.LTE_STATUS_REDIST : Field := ⟨Reg.LTE_STATUS, 4, 2⟩
def Fld.LTE_STATUS_ASSIGNED : Field := ⟨Reg.LTE_STATUS, 6, 1⟩
def Fld.LTE_STATUS_LOCKED : Field := ⟨Reg.LTE_STATUS, 7, 10⟩
def Reg.LTE_CTRL : RegDesc := ⟨"LTE_CTRL", 6, 0, 1, 0x4, 4, true, 1, 0x0, 1, 0x0,
  fun _ => 0x0, 0xF, 0x0, 0x0, fun _ _ => 0, fun _ => true⟩
def Fld.LTE_CTRL_ASSIGN : Field := ⟨Reg.LTE_CTRL, 0, 1⟩
def Fld.LTE_CTRL_RESTORE : Field := ⟨Reg.LTE_CTRL, 1, 1⟩
def Fld.LTE_CTRL_DARK : Field := ⟨Reg.LTE_CTRL, 2, 1⟩
def Fld.LTE_CTRL_RELIGHT : Field := ⟨Reg.LTE_CTRL, 3, 1⟩
def Reg.LTE_CFG : RegDesc := ⟨"LTE_CFG", 6, 0, 1, 0x8, 4, true, 1, 0x0, 1, 0x0,
  fun _ => 0x3, 0x0, 0x0, 0x0, fun _ _ => 0x3, fun _ => true⟩
def Fld.LTE_CFG_AUTO_SPARE : Field := ⟨Reg.LTE_CFG, 0, 1⟩
def Fld.LTE_CFG_AUTO_REDIST : Field := ⟨Reg.LTE_CFG, 1, 1⟩
def Reg.LTE_PCHK : RegDesc := ⟨"LTE_PCHK", 6, 0, 1, 0xC, 4, true, 1, 0x0, 1, 0x0,
  fun _ => 0xFFFFF, 0x0, 0x0, 0x0, fun _ _ => 0x203E8, fun _ => true⟩
def Fld.LTE_PCHK_PERIOD : Field := ⟨Reg.LTE_PCHK, 0, 16⟩
def Fld.LTE_PCHK_WINDOW : Field := ⟨Reg.LTE_PCHK, 16, 4⟩
def Reg.LTE_DITHER : RegDesc := ⟨"LTE_DITHER", 6, 0, 1, 0x10, 4, true, 1, 0x0, 1, 0x0,
  fun _ => 0xFFFF, 0x0, 0x0, 0x0, fun _ _ => 0x1004, fun _ => true⟩
def Fld.LTE_DITHER_AMP : Field := ⟨Reg.LTE_DITHER, 0, 8⟩
def Fld.LTE_DITHER_WIDE_AMP : Field := ⟨Reg.LTE_DITHER, 8, 8⟩
def Reg.LTE_THRESH : RegDesc := ⟨"LTE_THRESH", 6, 0, 1, 0x14, 4, true, 1, 0x0, 1, 0x0,
  fun _ => 0xFFFF, 0x0, 0x0, 0x0, fun _ _ => 0x4080, fun _ => true⟩
def Fld.LTE_THRESH_MIN_REL : Field := ⟨Reg.LTE_THRESH, 0, 8⟩
def Fld.LTE_THRESH_NEIGH : Field := ⟨Reg.LTE_THRESH, 8, 8⟩
def Reg.LTE_SPARES : RegDesc := ⟨"LTE_SPARES", 6, 0, 1, 0x18, 4, false, 1, 0x0, 1, 0x0,
  fun _ => 0x0, 0x0, 0x0, 0x0, fun _ _ => 0xFFFF, fun _ => true⟩
def Fld.LTE_SPARES_FREE0 : Field := ⟨Reg.LTE_SPARES, 0, 8⟩
def Fld.LTE_SPARES_FREE1 : Field := ⟨Reg.LTE_SPARES, 8, 8⟩
def Reg.LTE_WIDE : RegDesc := ⟨"LTE_WIDE", 6, 0, 1, 0x1C, 4, true, 1, 0x0, 1, 0x0,
  fun _ => 0xF, 0x0, 0x0, 0x0, fun _ _ => 0, fun _ => true⟩
def Fld.LTE_WIDE_WIDE : Field := ⟨Reg.LTE_WIDE, 0, 4⟩
def Reg.LTE_ERR : RegDesc := ⟨"LTE_ERR", 6, 0, 1, 0x30, 4, false, 1, 0x0, 1, 0x0,
  fun _ => 0x0, 0x0, 0x1, 0x0, fun _ _ => 0, fun _ => true⟩
def Fld.LTE_ERR_CFG_REFUSED : Field := ⟨Reg.LTE_ERR, 0, 1⟩
def Reg.LTE_WRONG : RegDesc := ⟨"LTE_WRONG", 6, 0, 1, 0x20, 4, false, 1, 0x0, 1, 0x0,
  fun _ => 0x0, 0x0, 0x0, 0xFFFFFFFF, fun _ _ => 0, fun _ => true⟩
def Fld.LTE_WRONG_COUNT : Field := ⟨Reg.LTE_WRONG, 0, 32⟩
def Reg.LTE_RECOV : RegDesc := ⟨"LTE_RECOV", 6, 0, 1, 0x24, 4, false, 1, 0x0, 1, 0x0,
  fun _ => 0x0, 0x0, 0x0, 0xFFFFFFFF, fun _ _ => 0, fun _ => true⟩
def Fld.LTE_RECOV_COUNT : Field := ⟨Reg.LTE_RECOV, 0, 32⟩
def Reg.LTE_RINGFAIL : RegDesc := ⟨"LTE_RINGFAIL", 6, 0, 1, 0x28, 4, false, 1, 0x0, 1, 0x0,
  fun _ => 0x0, 0x0, 0x0, 0xFFFFFFFF, fun _ _ => 0, fun _ => true⟩
def Fld.LTE_RINGFAIL_COUNT : Field := ⟨Reg.LTE_RINGFAIL, 0, 32⟩
def Reg.LTE_LOST : RegDesc := ⟨"LTE_LOST", 6, 0, 1, 0x2C, 4, false, 1, 0x0, 1, 0x0,
  fun _ => 0x0, 0x0, 0x0, 0xFFFFFFFF, fun _ _ => 0, fun _ => true⟩
def Fld.LTE_LOST_COUNT : Field := ⟨Reg.LTE_LOST, 0, 32⟩
def Reg.LTE_RING_CFG : RegDesc := ⟨"LTE_RING_CFG", 6, 1, 1, 0x0, 4, true, 528, 0x40, 1, 0x0,
  fun _ => 0x3F, 0x0, 0x0, 0x0, fun _ _ => 0, fun _ => true⟩
def Fld.LTE_RING_CFG_LINE : Field := ⟨Reg.LTE_RING_CFG, 0, 6⟩
def Reg.LTE_RING_STATUS : RegDesc := ⟨"LTE_RING_STATUS", 6, 1, 1, 0x4, 4, false, 528, 0x40, 1, 0x0,
  fun _ => 0x0, 0x0, 0x0, 0x0, fun _ _ => 0x3F8, fun _ => true⟩
def Fld.LTE_RING_STATUS_STATE : Field := ⟨Reg.LTE_RING_STATUS, 0, 3⟩
def Fld.LTE_RING_STATUS_SEEN : Field := ⟨Reg.LTE_RING_STATUS, 3, 6⟩
def Fld.LTE_RING_STATUS_OOS : Field := ⟨Reg.LTE_RING_STATUS, 9, 1⟩
def Fld.LTE_RING_STATUS_ATTEMPTS : Field := ⟨Reg.LTE_RING_STATUS, 10, 2⟩
def Fld.LTE_RING_STATUS_CODE : Field := ⟨Reg.LTE_RING_STATUS, 12, 12⟩
def Fld.LTE_RING_STATUS_LAST : Field := ⟨Reg.LTE_RING_STATUS, 24, 2⟩
def Reg.LTE_RING_PILOT : RegDesc := ⟨"LTE_RING_PILOT", 6, 1, 1, 0x8, 4, false, 528, 0x40, 1, 0x0,
  fun _ => 0x0, 0x0, 0x0, 0x0, fun _ _ => 0, fun _ => true⟩
def Fld.LTE_RING_PILOT_A_N : Field := ⟨Reg.LTE_RING_PILOT, 0, 16⟩
def Fld.LTE_RING_PILOT_A_MAX : Field := ⟨Reg.LTE_RING_PILOT, 16, 16⟩
def Reg.LTE_RING_CTRL : RegDesc := ⟨"LTE_RING_CTRL", 6, 1, 1, 0xC, 4, true, 528, 0x40, 1, 0x0,
  fun _ => 0x0, 0x7, 0x0, 0x0, fun _ _ => 0, fun _ => true⟩
def Fld.LTE_RING_CTRL_STOP : Field := ⟨Reg.LTE_RING_CTRL, 0, 1⟩
def Fld.LTE_RING_CTRL_START : Field := ⟨Reg.LTE_RING_CTRL, 1, 1⟩
def Fld.LTE_RING_CTRL_RECHECK : Field := ⟨Reg.LTE_RING_CTRL, 2, 1⟩
def Reg.LTE_RING_PWR : RegDesc := ⟨"LTE_RING_PWR", 6, 1, 1, 0x10, 4, false, 528, 0x40, 1, 0x0,
  fun _ => 0x0, 0x0, 0x0, 0x0, fun _ _ => 0, fun _ => true⟩
def Fld.LTE_RING_PWR_PREL : Field := ⟨Reg.LTE_RING_PWR, 0, 16⟩
def Reg.LTE_PEAK : RegDesc := ⟨"LTE_PEAK", 6, 2, 1, 0x0, 4, false, 528, 0x60, 24, 0x4,
  fun _ => 0x0, 0x0, 0x0, 0x0, fun _ _ => 0, fun _ => true⟩
def Fld.LTE_PEAK_CODE0 : Field := ⟨Reg.LTE_PEAK, 0, 12⟩
def Fld.LTE_PEAK_CODE1 : Field := ⟨Reg.LTE_PEAK, 16, 12⟩
def Reg.LTE_RING_LAST : RegDesc := ⟨"LTE_RING_LAST", 6, 2, 1, 0xC600, 4, false, 528, 0x4, 1, 0x0,
  fun _ => 0x0, 0x0, 0x0, 0x0, fun _ _ => 0, fun _ => true⟩
def Fld.LTE_RING_LAST_CODE : Field := ⟨Reg.LTE_RING_LAST, 0, 12⟩

/-- The registers of block 0x06. -/
def Reg.block6 : List RegDesc :=
  [Reg.LTE_STATUS, Reg.LTE_CTRL, Reg.LTE_CFG, Reg.LTE_PCHK, Reg.LTE_DITHER, Reg.LTE_THRESH, Reg.LTE_SPARES, Reg.LTE_WIDE] ++
  [Reg.LTE_ERR, Reg.LTE_WRONG, Reg.LTE_RECOV, Reg.LTE_RINGFAIL, Reg.LTE_LOST, Reg.LTE_RING_CFG, Reg.LTE_RING_STATUS, Reg.LTE_RING_PILOT] ++
  [Reg.LTE_RING_CTRL, Reg.LTE_RING_PWR, Reg.LTE_PEAK, Reg.LTE_RING_LAST]

/-! Block 0x07: monitor converters and trim DACs. -/

def Reg.MON_ID : RegDesc := ⟨"MON_ID", 7, 0, 48, 0x0, 4, false, 1, 0x0, 1, 0x0,
  fun _ => 0x0, 0x0, 0x0, 0x0, fun w _ => w + (w/12)*64, fun _ => true⟩
def Fld.MON_ID_CONV : Field := ⟨Reg.MON_ID, 0, 6⟩
def Fld.MON_ID_DIE : Field := ⟨Reg.MON_ID, 6, 2⟩
def Reg.MON_CTRL : RegDesc := ⟨"MON_CTRL", 7, 0, 48, 0x4, 4, true, 1, 0x0, 1, 0x0,
  fun _ => 0x0, 0x7, 0x0, 0x0, fun _ _ => 0, fun _ => true⟩
def Fld.MON_CTRL_START : Field := ⟨Reg.MON_CTRL, 0, 1⟩
def Fld.MON_CTRL_STOP : Field := ⟨Reg.MON_CTRL, 1, 1⟩
def Fld.MON_CTRL_CAL : Field := ⟨Reg.MON_CTRL, 2, 1⟩
def Reg.MON_STATUS : RegDesc := ⟨"MON_STATUS", 7, 0, 48, 0x8, 4, false, 1, 0x0, 1, 0x0,
  fun _ => 0x0, 0x0, 0x0, 0x0, fun _ _ => 0x1, fun _ => true⟩
def Fld.MON_STATUS_STATE : Field := ⟨Reg.MON_STATUS, 0, 2⟩
def Fld.MON_STATUS_CALBAD : Field := ⟨Reg.MON_STATUS, 2, 1⟩
def Fld.MON_STATUS_CALS : Field := ⟨Reg.MON_STATUS, 3, 8⟩
def Reg.MON_CALF : RegDesc := ⟨"MON_CALF", 7, 0, 48, 0xC, 4, true, 1, 0x0, 1, 0x0,
  fun _ => 0xFFFFFFFF, 0x0, 0x0, 0x0, fun _ _ => 0, fun _ => true⟩
def Fld.MON_CALF_OFFSET : Field := ⟨Reg.MON_CALF, 0, 16⟩
def Fld.MON_CALF_GAIN : Field := ⟨Reg.MON_CALF, 16, 16⟩
def Reg.MON_ERR : RegDesc := ⟨"MON_ERR", 7, 0, 48, 0x10, 4, false, 1, 0x0, 1, 0x0,
  fun _ => 0x0, 0x0, 0x1, 0x0, fun _ _ => 0, fun _ => true⟩
def Fld.MON_ERR_CFG_REFUSED : Field := ⟨Reg.MON_ERR, 0, 1⟩
def Reg.MON_SEQ : RegDesc := ⟨"MON_SEQ", 7, 0, 48, 0x1000, 4, true, 400, 0x4, 1, 0x0,
  fun _ => 0xFFFF, 0x0, 0x0, 0x0, fun _ _ => 0xF0, fun _ => true⟩
def Fld.MON_SEQ_CH : Field := ⟨Reg.MON_SEQ, 0, 8⟩
def Fld.MON_SEQ_ACC : Field := ⟨Reg.MON_SEQ, 8, 7⟩
def Fld.MON_SEQ_EN : Field := ⟨Reg.MON_SEQ, 15, 1⟩
def Reg.ACC_CFG : RegDesc := ⟨"ACC_CFG", 7, 0, 48, 0x4000, 4, true, 128, 0x20, 1, 0x0,
  fun _ => 0x3FFFFF, 0x0, 0x0, 0x0, fun _ _ => 0x10, fun _ => true⟩
def Fld.ACC_CFG_MODE : Field := ⟨Reg.ACC_CFG, 0, 2⟩
def Fld.ACC_CFG_RUN : Field := ⟨Reg.ACC_CFG, 2, 2⟩
def Fld.ACC_CFG_PERIOD : Field := ⟨Reg.ACC_CFG, 4, 10⟩
def Fld.ACC_CFG_TAP : Field := ⟨Reg.ACC_CFG, 14, 1⟩
def Fld.ACC_CFG_SRC : Field := ⟨Reg.ACC_CFG, 15, 7⟩
def Reg.ACC_REF : RegDesc := ⟨"ACC_REF", 7, 0, 48, 0x4004, 4, true, 128, 0x20, 1, 0x0,
  fun _ => 0xFFFFF, 0x0, 0x0, 0x0, fun _ _ => 0, fun _ => true⟩
def Fld.ACC_REF_FREQ : Field := ⟨Reg.ACC_REF, 0, 20⟩
def Reg.ACC_PHASE : RegDesc := ⟨"ACC_PHASE", 7, 0, 48, 0x4008, 4, true, 128, 0x20, 1, 0x0,
  fun _ => 0x1FFFFF, 0x0, 0x0, 0x0, fun _ _ => 0, fun _ => true⟩
def Fld.ACC_PHASE_PHASE : Field := ⟨Reg.ACC_PHASE, 0, 21⟩
def Reg.ACC_SUM : RegDesc := ⟨"ACC_SUM", 7, 0, 48, 0x4010, 8, false, 128, 0x20, 1, 0x0,
  fun _ => 0x0, 0x0, 0x0, 0x0, fun _ _ => 0, fun _ => true⟩
def Fld.ACC_SUM_SUM : Field := ⟨Reg.ACC_SUM, 0, 48⟩
def Reg.ACC_STAT : RegDesc := ⟨"ACC_STAT", 7, 0, 48, 0x4018, 4, false, 128, 0x20, 1, 0x0,
  fun _ => 0x0, 0x0, 0x0, 0x0, fun _ _ => 0xFFF, fun _ => true⟩
def Fld.ACC_STAT_MIN : Field := ⟨Reg.ACC_STAT, 0, 12⟩
def Fld.ACC_STAT_MAX : Field := ⟨Reg.ACC_STAT, 12, 12⟩
def Fld.ACC_STAT_VALID : Field := ⟨Reg.ACC_STAT, 24, 1⟩
def Fld.ACC_STAT_PSEQ : Field := ⟨Reg.ACC_STAT, 26, 6⟩
def Reg.ACC_COUNT : RegDesc := ⟨"ACC_COUNT", 7, 0, 48, 0x401C, 4, false, 128, 0x20, 1, 0x0,
  fun _ => 0x0, 0x0, 0x0, 0x0, fun _ _ => 0, fun _ => true⟩
def Fld.ACC_COUNT_COUNT : Field := ⟨Reg.ACC_COUNT, 0, 19⟩
def Fld.ACC_COUNT_PSEQ : Field := ⟨Reg.ACC_COUNT, 26, 6⟩
def Reg.TRM_CODE : RegDesc := ⟨"TRM_CODE", 7, 64, 4, 0x0, 4, true, 256, 0x8, 1, 0x0,
  fun _ => 0x3FFF, 0x0, 0x0, 0x0, fun _ _ => 0, fun _ => true⟩
def Fld.TRM_CODE_CODE : Field := ⟨Reg.TRM_CODE, 0, 12⟩
def Fld.TRM_CODE_RANGE : Field := ⟨Reg.TRM_CODE, 12, 1⟩
def Fld.TRM_CODE_EN : Field := ⟨Reg.TRM_CODE, 13, 1⟩
def Reg.TRM_DITH : RegDesc := ⟨"TRM_DITH", 7, 64, 4, 0x4, 4, true, 256, 0x8, 1, 0x0,
  fun _ => 0xFFFFFFF, 0x0, 0x0, 0x0, fun _ _ => 0, fun _ => true⟩
def Fld.TRM_DITH_DFREQ : Field := ⟨Reg.TRM_DITH, 0, 20⟩
def Fld.TRM_DITH_AMP : Field := ⟨Reg.TRM_DITH, 20, 7⟩
def Fld.TRM_DITH_DEN : Field := ⟨Reg.TRM_DITH, 27, 1⟩
def Reg.TRM_STATUS : RegDesc := ⟨"TRM_STATUS", 7, 64, 4, 0x1000, 4, false, 256, 0x4, 1, 0x0,
  fun _ => 0x0, 0x0, 0x0, 0x0, fun _ _ => 0x2000, fun _ => true⟩
def Fld.TRM_STATUS_TAP : Field := ⟨Reg.TRM_STATUS, 0, 12⟩
def Fld.TRM_STATUS_RANGE : Field := ⟨Reg.TRM_STATUS, 12, 1⟩
def Fld.TRM_STATUS_PARKED : Field := ⟨Reg.TRM_STATUS, 13, 1⟩
def Fld.TRM_STATUS_HOLD : Field := ⟨Reg.TRM_STATUS, 14, 1⟩
def Fld.TRM_STATUS_CLAMP : Field := ⟨Reg.TRM_STATUS, 15, 1⟩
def Reg.TRM_ERR : RegDesc := ⟨"TRM_ERR", 7, 64, 4, 0x1400, 4, false, 1, 0x0, 1, 0x0,
  fun _ => 0x0, 0x0, 0x1, 0x0, fun _ _ => 0, fun _ => true⟩
def Fld.TRM_ERR_CFG_REFUSED : Field := ⟨Reg.TRM_ERR, 0, 1⟩
def Reg.MON_FRAME : RegDesc := ⟨"MON_FRAME", 7, 96, 1, 0x0, 8, false, 1, 0x0, 1, 0x0,
  fun _ => 0x0, 0x0, 0x0, 0x0, fun _ _ => 0, fun _ => true⟩
def Fld.MON_FRAME_F : Field := ⟨Reg.MON_FRAME, 0, 64⟩

/-- The registers of block 0x07. -/
def Reg.block7 : List RegDesc :=
  [Reg.MON_ID, Reg.MON_CTRL, Reg.MON_STATUS, Reg.MON_CALF, Reg.MON_ERR, Reg.MON_SEQ, Reg.ACC_CFG, Reg.ACC_REF] ++
  [Reg.ACC_PHASE, Reg.ACC_SUM, Reg.ACC_STAT, Reg.ACC_COUNT, Reg.TRM_CODE, Reg.TRM_DITH, Reg.TRM_STATUS, Reg.TRM_ERR] ++
  [Reg.MON_FRAME]

/-! Block 0x08: rein engine. -/

def Reg.RN_STATUS : RegDesc := ⟨"RN_STATUS", 8, 0, 1, 0x0, 4, false, 1, 0x0, 1, 0x0,
  fun _ => 0x0, 0x0, 0x0, 0x0, fun _ _ => 0, fun _ => true⟩
def Fld.RN_STATUS_RUN : Field := ⟨Reg.RN_STATUS, 0, 24⟩
def Reg.RN_ERR : RegDesc := ⟨"RN_ERR", 8, 0, 1, 0x4, 4, false, 1, 0x0, 1, 0x0,
  fun _ => 0x0, 0x0, 0x3, 0x0, fun _ _ => 0, fun _ => true⟩
def Fld.RN_ERR_CFG_REFUSED : Field := ⟨Reg.RN_ERR, 0, 1⟩
def Fld.RN_ERR_START_REFUSED : Field := ⟨Reg.RN_ERR, 1, 1⟩
def Reg.RN_PBUDGET : RegDesc := ⟨"RN_PBUDGET", 8, 0, 1, 0x8, 4, false, 1, 0x0, 1, 0x0,
  fun _ => 0x0, 0x0, 0x0, 0x0, fun _ _ => 0, fun _ => true⟩
def Fld.RN_PBUDGET_BUDGET : Field := ⟨Reg.RN_PBUDGET, 0, 32⟩
def Reg.RN_FAULTS : RegDesc := ⟨"RN_FAULTS", 8, 0, 1, 0xC, 4, false, 1, 0x0, 1, 0x0,
  fun _ => 0x0, 0x0, 0x0, 0xFFFFFFFF, fun _ _ => 0, fun _ => true⟩
def Fld.RN_FAULTS_COUNT : Field := ⟨Reg.RN_FAULTS, 0, 32⟩
def Reg.RN_OVF : RegDesc := ⟨"RN_OVF", 8, 0, 1, 0x10, 4, false, 1, 0x0, 1, 0x0,
  fun _ => 0x0, 0x0, 0x0, 0xFFFFFFFF, fun _ _ => 0, fun _ => true⟩
def Fld.RN_OVF_COUNT : Field := ⟨Reg.RN_OVF, 0, 32⟩
def Reg.RN_BANK_CTRL : RegDesc := ⟨"RN_BANK_CTRL", 8, 0, 1, 0x100, 4, true, 24, 0x4, 1, 0x0,
  fun _ => 0x0, 0x3, 0x0, 0x0, fun _ _ => 0, fun _ => true⟩
def Fld.RN_BANK_CTRL_START : Field := ⟨Reg.RN_BANK_CTRL, 0, 1⟩
def Fld.RN_BANK_CTRL_STOP : Field := ⟨Reg.RN_BANK_CTRL, 1, 1⟩
def Reg.RN_BANK_STATUS : RegDesc := ⟨"RN_BANK_STATUS", 8, 0, 1, 0x200, 4, false, 24, 0x4, 1, 0x0,
  fun _ => 0x0, 0x0, 0x0, 0x0, fun _ _ => 0x2, fun _ => true⟩
def Fld.RN_BANK_STATUS_STATE : Field := ⟨Reg.RN_BANK_STATUS, 0, 2⟩
def Fld.RN_BANK_STATUS_LOOP : Field := ⟨Reg.RN_BANK_STATUS, 2, 8⟩
def Fld.RN_BANK_STATUS_REASON : Field := ⟨Reg.RN_BANK_STATUS, 10, 3⟩
def Reg.RN_FEMAP : RegDesc := ⟨"RN_FEMAP", 8, 0, 1, 0x1000, 4, false, 192, 0x4, 1, 0x0,
  fun _ => 0x0, 0x0, 0x0, 0x0, fun _ _ => 0, fun _ => true⟩
def Fld.RN_FEMAP_FAULT : Field := ⟨Reg.RN_FEMAP, 0, 32⟩
def Reg.RN_LP_CTRL : RegDesc := ⟨"RN_LP_CTRL", 8, 16, 24, 0x0, 4, true, 256, 0x100, 1, 0x0,
  fun _ => 0xFFFFFFFF, 0x0, 0x0, 0x0, fun _ _ => 0, fun _ => true⟩
def Fld.RN_LP_CTRL_EN : Field := ⟨Reg.RN_LP_CTRL, 0, 1⟩
def Fld.RN_LP_CTRL_CLASS : Field := ⟨Reg.RN_LP_CTRL, 1, 2⟩
def Fld.RN_LP_CTRL_FOFF : Field := ⟨Reg.RN_LP_CTRL, 3, 9⟩
def Fld.RN_LP_CTRL_FEACT : Field := ⟨Reg.RN_LP_CTRL, 12, 2⟩
def Fld.RN_LP_CTRL_OWNER : Field := ⟨Reg.RN_LP_CTRL, 14, 2⟩
def Fld.RN_LP_CTRL_OWNER_IDX : Field := ⟨Reg.RN_LP_CTRL, 16, 10⟩
def Fld.RN_LP_CTRL_BUMPLESS : Field := ⟨Reg.RN_LP_CTRL, 26, 1⟩
def Fld.RN_LP_CTRL_WDIE : Field := ⟨Reg.RN_LP_CTRL, 27, 2⟩
def Fld.RN_LP_CTRL_WEN : Field := ⟨Reg.RN_LP_CTRL, 29, 1⟩
def Fld.RN_LP_CTRL_WSHIFT : Field := ⟨Reg.RN_LP_CTRL, 30, 2⟩
def Reg.RN_LP_INA : RegDesc := ⟨"RN_LP_INA", 8, 16, 24, 0x4, 4, true, 256, 0x100, 1, 0x0,
  fun _ => 0x1FFFF, 0x0, 0x0, 0x0, fun _ _ => 0, fun _ => true⟩
def Fld.RN_LP_INA_KIND : Field := ⟨Reg.RN_LP_INA, 0, 4⟩
def Fld.RN_LP_INA_INDEX : Field := ⟨Reg.RN_LP_INA, 4, 13⟩
def Reg.RN_LP_DEST : RegDesc := ⟨"RN_LP_DEST", 8, 16, 24, 0x10, 4, true, 256, 0x100, 1, 0x0,
  fun _ => 0xFFFF, 0x0, 0x0, 0x0, fun _ _ => 0, fun _ => true⟩
def Fld.RN_LP_DEST_DKIND : Field := ⟨Reg.RN_LP_DEST, 0, 3⟩
def Fld.RN_LP_DEST_INDEX : Field := ⟨Reg.RN_LP_DEST, 3, 13⟩
def Reg.RN_LP_SPK : RegDesc := ⟨"RN_LP_SPK", 8, 16, 24, 0x14, 4, true, 256, 0x100, 1, 0x0,
  fun _ => 0xFFFFFFFF, 0x0, 0x0, 0x0, fun _ _ => 0, fun _ => true⟩
def Fld.RN_LP_SPK_SPK : Field := ⟨Reg.RN_LP_SPK, 0, 32⟩
def Reg.RN_LP_SLEW : RegDesc := ⟨"RN_LP_SLEW", 8, 16, 24, 0x18, 4, true, 256, 0x100, 1, 0x0,
  fun _ => 0xFFFFFFFF, 0x0, 0x0, 0x0, fun _ _ => 0, fun _ => true⟩
def Fld.RN_LP_SLEW_SLEW : Field := ⟨Reg.RN_LP_SLEW, 0, 32⟩
def Reg.RN_LP_FELIM : RegDesc := ⟨"RN_LP_FELIM", 8, 16, 24, 0x1C, 4, true, 256, 0x100, 1, 0x0,
  fun _ => 0xFFFFFFFF, 0x0, 0x0, 0x0, fun _ _ => 0, fun _ => true⟩
def Fld.RN_LP_FELIM_FELIM : Field := ⟨Reg.RN_LP_FELIM, 0, 32⟩
def Reg.RN_LP_FETIME : RegDesc := ⟨"RN_LP_FETIME", 8, 16, 24, 0x20, 4, true, 256, 0x100, 1, 0x0,
  fun _ => 0xFFFF, 0x0, 0x0, 0x0, fun _ _ => 0, fun _ => true⟩
def Fld.RN_LP_FETIME_FETIME : Field := ⟨Reg.RN_LP_FETIME, 0, 16⟩
def Reg.RN_LP_SAFE : RegDesc := ⟨"RN_LP_SAFE", 8, 16, 24, 0x24, 4, true, 256, 0x100, 1, 0x0,
  fun _ => 0xFFFFFFFF, 0x0, 0x0, 0x0, fun _ _ => 0, fun _ => true⟩
def Fld.RN_LP_SAFE_SAFE : Field := ⟨Reg.RN_LP_SAFE, 0, 32⟩
def Reg.RN_LP_RUN : RegDesc := ⟨"RN_LP_RUN", 8, 16, 24, 0x28, 4, true, 256, 0x100, 1, 0x0,
  fun _ => 0x1, 0x0, 0x0, 0x0, fun _ _ => 0, fun _ => true⟩
def Fld.RN_LP_RUN_FREEZE : Field := ⟨Reg.RN_LP_RUN, 0, 1⟩
def Reg.RN_LP_SPCUR : RegDesc := ⟨"RN_LP_SPCUR", 8, 16, 24, 0x2C, 4, false, 256, 0x100, 1, 0x0,
  fun _ => 0xFFFFFFFF, 0x0, 0x0, 0x0, fun _ _ => 0, fun _ => true⟩
def Fld.RN_LP_SPCUR_SPCUR : Field := ⟨Reg.RN_LP_SPCUR, 0, 32⟩
def Reg.RN_LP_OUT : RegDesc := ⟨"RN_LP_OUT", 8, 16, 24, 0x30, 4, false, 256, 0x100, 1, 0x0,
  fun _ => 0x0, 0x0, 0x0, 0x0, fun _ _ => 0, fun _ => true⟩
def Fld.RN_LP_OUT_OUT : Field := ⟨Reg.RN_LP_OUT, 0, 32⟩
def Reg.RN_LP_STAT : RegDesc := ⟨"RN_LP_STAT", 8, 16, 24, 0x34, 4, false, 256, 0x100, 1, 0x0,
  fun _ => 0x0, 0x0, 0x410000, 0x0, fun _ _ => 0, fun _ => true⟩
def Fld.RN_LP_STAT_FECNT : Field := ⟨Reg.RN_LP_STAT, 0, 16⟩
def Fld.RN_LP_STAT_FAULT : Field := ⟨Reg.RN_LP_STAT, 16, 1⟩
def Fld.RN_LP_STAT_SATHI : Field := ⟨Reg.RN_LP_STAT, 17, 1⟩
def Fld.RN_LP_STAT_SATLO : Field := ⟨Reg.RN_LP_STAT, 18, 1⟩
def Fld.RN_LP_STAT_IFROZEN : Field := ⟨Reg.RN_LP_STAT, 19, 1⟩
def Fld.RN_LP_STAT_INVALID : Field := ⟨Reg.RN_LP_STAT, 20, 1⟩
def Fld.RN_LP_STAT_STALE : Field := ⟨Reg.RN_LP_STAT, 21, 1⟩
def Fld.RN_LP_STAT_OVF : Field := ⟨Reg.RN_LP_STAT, 22, 1⟩
def Fld.RN_LP_STAT_FROZEN : Field := ⟨Reg.RN_LP_STAT, 23, 1⟩
def Reg.RN_LP_INVCNT : RegDesc := ⟨"RN_LP_INVCNT", 8, 16, 24, 0x38, 4, false, 256, 0x100, 1, 0x0,
  fun _ => 0x0, 0x0, 0x0, 0xFFFFFFFF, fun _ _ => 0, fun _ => true⟩
def Fld.RN_LP_INVCNT_COUNT : Field := ⟨Reg.RN_LP_INVCNT, 0, 32⟩
def Reg.RN_LP_INB : RegDesc := ⟨"RN_LP_INB", 8, 16, 24, 0x8, 4, true, 256, 0x100, 1, 0x0,
  fun _ => 0x1FFFF, 0x0, 0x0, 0x0, fun _ _ => 0, fun _ => true⟩
def Fld.RN_LP_INB_KIND : Field := ⟨Reg.RN_LP_INB, 0, 4⟩
def Fld.RN_LP_INB_INDEX : Field := ⟨Reg.RN_LP_INB, 4, 13⟩
def Reg.RN_LP_SPSRC : RegDesc := ⟨"RN_LP_SPSRC", 8, 16, 24, 0xC, 4, true, 256, 0x100, 1, 0x0,
  fun _ => 0x1FFFF, 0x0, 0x0, 0x0, fun _ _ => 0, fun _ => true⟩
def Fld.RN_LP_SPSRC_KIND : Field := ⟨Reg.RN_LP_SPSRC, 0, 4⟩
def Fld.RN_LP_SPSRC_INDEX : Field := ⟨Reg.RN_LP_SPSRC, 4, 13⟩
def Reg.RN_ST_CFG : RegDesc := ⟨"RN_ST_CFG", 8, 16, 24, 0x40, 4, true, 256, 0x100, 5, 0x20,
  fun _ => 0x1FFF, 0x0, 0x0, 0x0, fun _ _ => 0, fun _ => true⟩
def Fld.RN_ST_CFG_KIND : Field := ⟨Reg.RN_ST_CFG, 0, 4⟩
def Fld.RN_ST_CFG_CLAMPEN : Field := ⟨Reg.RN_ST_CFG, 4, 1⟩
def Fld.RN_ST_CFG_CEXP : Field := ⟨Reg.RN_ST_CFG, 5, 8⟩
def Reg.RN_ST_C0 : RegDesc := ⟨"RN_ST_C0", 8, 16, 24, 0x44, 4, true, 256, 0x100, 5, 0x20,
  fun _ => 0x3FFFF, 0x0, 0x0, 0x0, fun _ _ => 0, fun _ => true⟩
def Fld.RN_ST_C0_C : Field := ⟨Reg.RN_ST_C0, 0, 18⟩
def Reg.RN_ST_C1 : RegDesc := ⟨"RN_ST_C1", 8, 16, 24, 0x48, 4, true, 256, 0x100, 5, 0x20,
  fun _ => 0x3FFFF, 0x0, 0x0, 0x0, fun _ _ => 0, fun _ => true⟩
def Fld.RN_ST_C1_C : Field := ⟨Reg.RN_ST_C1, 0, 18⟩
def Reg.RN_ST_C2 : RegDesc := ⟨"RN_ST_C2", 8, 16, 24, 0x4C, 4, true, 256, 0x100, 5, 0x20,
  fun _ => 0x3FFFF, 0x0, 0x0, 0x0, fun _ _ => 0, fun _ => true⟩
def Fld.RN_ST_C2_C : Field := ⟨Reg.RN_ST_C2, 0, 18⟩
def Reg.RN_ST_LIMHI : RegDesc := ⟨"RN_ST_LIMHI", 8, 16, 24, 0x50, 4, true, 256, 0x100, 5, 0x20,
  fun _ => 0xFFFFFFFF, 0x0, 0x0, 0x0, fun _ _ => 0, fun _ => true⟩
def Fld.RN_ST_LIMHI_LIMHI : Field := ⟨Reg.RN_ST_LIMHI, 0, 32⟩
def Reg.RN_ST_LIMLO : RegDesc := ⟨"RN_ST_LIMLO", 8, 16, 24, 0x54, 4, true, 256, 0x100, 5, 0x20,
  fun _ => 0xFFFFFFFF, 0x0, 0x0, 0x0, fun _ _ => 0, fun _ => true⟩
def Fld.RN_ST_LIMLO_LIMLO : Field := ⟨Reg.RN_ST_LIMLO, 0, 32⟩
def Reg.RN_ST_S0 : RegDesc := ⟨"RN_ST_S0", 8, 16, 24, 0x58, 4, true, 256, 0x100, 5, 0x20,
  fun _ => 0xFFFFFFFF, 0x0, 0x0, 0x0, fun _ _ => 0, fun _ => true⟩
def Fld.RN_ST_S0_S0 : Field := ⟨Reg.RN_ST_S0, 0, 24⟩
def Fld.RN_ST_S0_SE : Field := ⟨Reg.RN_ST_S0, 24, 8⟩
def Reg.RN_ST_S1 : RegDesc := ⟨"RN_ST_S1", 8, 16, 24, 0x5C, 4, true, 256, 0x100, 5, 0x20,
  fun _ => 0xFFFFFF, 0x0, 0x0, 0x0, fun _ _ => 0, fun _ => true⟩
def Fld.RN_ST_S1_S1 : Field := ⟨Reg.RN_ST_S1, 0, 24⟩

/-- The registers of block 0x08. -/
def Reg.block8 : List RegDesc :=
  [Reg.RN_STATUS, Reg.RN_ERR, Reg.RN_PBUDGET, Reg.RN_FAULTS, Reg.RN_OVF, Reg.RN_BANK_CTRL, Reg.RN_BANK_STATUS, Reg.RN_FEMAP] ++
  [Reg.RN_LP_CTRL, Reg.RN_LP_INA, Reg.RN_LP_DEST, Reg.RN_LP_SPK, Reg.RN_LP_SLEW, Reg.RN_LP_FELIM, Reg.RN_LP_FETIME, Reg.RN_LP_SAFE] ++
  [Reg.RN_LP_RUN, Reg.RN_LP_SPCUR, Reg.RN_LP_OUT, Reg.RN_LP_STAT, Reg.RN_LP_INVCNT, Reg.RN_LP_INB, Reg.RN_LP_SPSRC, Reg.RN_ST_CFG] ++
  [Reg.RN_ST_C0, Reg.RN_ST_C1, Reg.RN_ST_C2, Reg.RN_ST_LIMHI, Reg.RN_ST_LIMLO, Reg.RN_ST_S0, Reg.RN_ST_S1]

end Sys2Proof.Machine
end

