-- ==== Sys2Proof/Machine/RegMapC.lean ====
section
/-! DEFINITION. The registers of the control blocks, transcribed from the register tables of spec/ (one
description per register, one constant per named field). Blocks: 0x09 farrier; 0x0A power and thermal; 0x0B Droveway; 0x0C host port; 0x0D tack room; 0x0E event log. -/
namespace Sys2Proof.Machine

/-! Block 0x09: farrier. -/

def Reg.FAR_CTRL : RegDesc := ⟨"FAR_CTRL", 9, 0, 1, 0x0, 4, true, 1, 0x0, 1, 0x0,
  fun _ => 0x0, 0x7, 0x0, 0x0, fun _ _ => 0, fun _ => true⟩
def Fld.FAR_CTRL_START : Field := ⟨Reg.FAR_CTRL, 0, 1⟩
def Fld.FAR_CTRL_STOP : Field := ⟨Reg.FAR_CTRL, 1, 1⟩
def Fld.FAR_CTRL_RUNALL : Field := ⟨Reg.FAR_CTRL, 2, 1⟩
def Reg.FAR_STATUS : RegDesc := ⟨"FAR_STATUS", 9, 0, 1, 0x4, 4, false, 1, 0x0, 1, 0x0,
  fun _ => 0x0, 0x0, 0x0, 0x0, fun _ _ => 0x7E, fun _ => true⟩
def Fld.FAR_STATUS_STATE : Field := ⟨Reg.FAR_STATUS, 0, 2⟩
def Fld.FAR_STATUS_STALL : Field := ⟨Reg.FAR_STATUS, 2, 5⟩
def Fld.FAR_STATUS_STEP : Field := ⟨Reg.FAR_STATUS, 7, 4⟩
def Fld.FAR_STATUS_ATTEMPT : Field := ⟨Reg.FAR_STATUS, 11, 2⟩
def Reg.FAR_TRIG : RegDesc := ⟨"FAR_TRIG", 9, 0, 1, 0x8, 4, true, 1, 0x0, 1, 0x0,
  fun _ => 0xFFFF, 0x0, 0x0, 0x0, fun _ _ => 0x1030, fun _ => true⟩
def Fld.FAR_TRIG_RUN : Field := ⟨Reg.FAR_TRIG, 0, 8⟩
def Fld.FAR_TRIG_REINT : Field := ⟨Reg.FAR_TRIG, 8, 8⟩
def Reg.FAR_MAXAGE : RegDesc := ⟨"FAR_MAXAGE", 9, 0, 1, 0xC, 4, true, 1, 0x0, 1, 0x0,
  fun _ => 0xFFFF, 0x0, 0x0, 0x0, fun _ _ => 0x18, fun _ => true⟩
def Fld.FAR_MAXAGE_HOURS : Field := ⟨Reg.FAR_MAXAGE, 0, 16⟩
def Reg.FAR_NVINT : RegDesc := ⟨"FAR_NVINT", 9, 0, 1, 0x10, 4, true, 1, 0x0, 1, 0x0,
  fun _ => 0xFFFF, 0x0, 0x0, 0x0, fun _ _ => 0xE10, fun _ => true⟩
def Fld.FAR_NVINT_S : Field := ⟨Reg.FAR_NVINT, 0, 16⟩
def Reg.FAR_DEGRADED : RegDesc := ⟨"FAR_DEGRADED", 9, 0, 1, 0x14, 4, false, 1, 0x0, 1, 0x0,
  fun _ => 0x0, 0x0, 0x0, 0x0, fun _ _ => 0, fun _ => true⟩
def Fld.FAR_DEGRADED_STALLS : Field := ⟨Reg.FAR_DEGRADED, 0, 16⟩
def Reg.FAR_ERR : RegDesc := ⟨"FAR_ERR", 9, 0, 1, 0x20, 4, false, 1, 0x0, 1, 0x0,
  fun _ => 0x0, 0x0, 0x1, 0x0, fun _ _ => 0, fun _ => true⟩
def Fld.FAR_ERR_CFG_REFUSED : Field := ⟨Reg.FAR_ERR, 0, 1⟩
def Reg.FAR_RUNS : RegDesc := ⟨"FAR_RUNS", 9, 0, 1, 0x18, 4, false, 1, 0x0, 1, 0x0,
  fun _ => 0x0, 0x0, 0x0, 0xFFFFFFFF, fun _ _ => 0, fun _ => true⟩
def Fld.FAR_RUNS_COUNT : Field := ⟨Reg.FAR_RUNS, 0, 32⟩
def Reg.FAR_REJECTS : RegDesc := ⟨"FAR_REJECTS", 9, 0, 1, 0x1C, 4, false, 1, 0x0, 1, 0x0,
  fun _ => 0x0, 0x0, 0x0, 0xFFFFFFFF, fun _ _ => 0, fun _ => true⟩
def Fld.FAR_REJECTS_COUNT : Field := ⟨Reg.FAR_REJECTS, 0, 32⟩
def Reg.FAR_STALL_CTRL : RegDesc := ⟨"FAR_STALL_CTRL", 9, 1, 16, 0x0, 4, true, 1, 0x0, 1, 0x0,
  fun _ => 0x0, 0x3, 0x0, 0x0, fun _ _ => 0, fun _ => true⟩
def Fld.FAR_STALL_CTRL_RUN : Field := ⟨Reg.FAR_STALL_CTRL, 0, 1⟩
def Fld.FAR_STALL_CTRL_RELEASE : Field := ⟨Reg.FAR_STALL_CTRL, 1, 1⟩
def Reg.FAR_STALL_STATUS : RegDesc := ⟨"FAR_STALL_STATUS", 9, 1, 16, 0x4, 4, false, 1, 0x0, 1, 0x0,
  fun _ => 0x0, 0x0, 0x0, 0x0, fun _ _ => 0, fun _ => true⟩
def Fld.FAR_STALL_STATUS_CAL : Field := ⟨Reg.FAR_STALL_STATUS, 0, 2⟩
def Fld.FAR_STALL_STATUS_QUEUED : Field := ⟨Reg.FAR_STALL_STATUS, 2, 1⟩
def Fld.FAR_STALL_STATUS_ACTIVE : Field := ⟨Reg.FAR_STALL_STATUS, 3, 1⟩
def Fld.FAR_STALL_STATUS_ATTEMPTS : Field := ⟨Reg.FAR_STALL_STATUS, 4, 2⟩
def Fld.FAR_STALL_STATUS_CAUSE : Field := ⟨Reg.FAR_STALL_STATUS, 6, 4⟩
def Reg.FAR_STALL_TEMP : RegDesc := ⟨"FAR_STALL_TEMP", 9, 1, 16, 0x8, 4, false, 1, 0x0, 1, 0x0,
  fun _ => 0x0, 0x0, 0x0, 0x0, fun _ _ => 0, fun _ => true⟩
def Fld.FAR_STALL_TEMP_TRUN : Field := ⟨Reg.FAR_STALL_TEMP, 0, 16⟩
def Fld.FAR_STALL_TEMP_TWRITE : Field := ⟨Reg.FAR_STALL_TEMP, 16, 16⟩
def Reg.FAR_STALL_TIME : RegDesc := ⟨"FAR_STALL_TIME", 9, 1, 16, 0x10, 8, false, 1, 0x0, 1, 0x0,
  fun _ => 0x0, 0x0, 0x0, 0x0, fun _ _ => 0, fun _ => true⟩
def Fld.FAR_STALL_TIME_TIME : Field := ⟨Reg.FAR_STALL_TIME, 0, 64⟩
def Reg.FAR_STALL_AGREE : RegDesc := ⟨"FAR_STALL_AGREE", 9, 1, 16, 0x18, 4, false, 1, 0x0, 1, 0x0,
  fun _ => 0x0, 0x0, 0x0, 0x0, fun _ _ => 0, fun _ => true⟩
def Fld.FAR_STALL_AGREE_RMS : Field := ⟨Reg.FAR_STALL_AGREE, 0, 8⟩
def Fld.FAR_STALL_AGREE_WORST : Field := ⟨Reg.FAR_STALL_AGREE, 8, 8⟩
def Reg.FAR_PORT_LANERUN : RegDesc := ⟨"FAR_PORT_LANERUN", 9, 32, 8, 0x0, 4, true, 1, 0x0, 1, 0x0,
  fun _ => 0x0, 0xFFFFFFFF, 0x0, 0x0, fun _ _ => 0, fun _ => true⟩
def Fld.FAR_PORT_LANERUN_LANES : Field := ⟨Reg.FAR_PORT_LANERUN, 0, 32⟩
def Reg.FAR_PORT_STATUS : RegDesc := ⟨"FAR_PORT_STATUS", 9, 32, 8, 0x4, 4, false, 1, 0x0, 1, 0x0,
  fun _ => 0x0, 0x0, 0x0, 0x0, fun _ _ => 0, fun _ => true⟩
def Fld.FAR_PORT_STATUS_LANE : Field := ⟨Reg.FAR_PORT_STATUS, 0, 5⟩
def Fld.FAR_PORT_STATUS_ACTIVE : Field := ⟨Reg.FAR_PORT_STATUS, 5, 1⟩
def Reg.FAR_PORT_VALID : RegDesc := ⟨"FAR_PORT_VALID", 9, 32, 8, 0x8, 4, false, 1, 0x0, 1, 0x0,
  fun _ => 0x0, 0x0, 0x0, 0x0, fun _ _ => 0, fun _ => true⟩
def Fld.FAR_PORT_VALID_LANES : Field := ⟨Reg.FAR_PORT_VALID, 0, 32⟩
def Reg.FAR_PORT_DEGRADED : RegDesc := ⟨"FAR_PORT_DEGRADED", 9, 32, 8, 0xC, 4, false, 1, 0x0, 1, 0x0,
  fun _ => 0x0, 0x0, 0x0, 0x0, fun _ _ => 0, fun _ => true⟩
def Fld.FAR_PORT_DEGRADED_LANES : Field := ⟨Reg.FAR_PORT_DEGRADED, 0, 32⟩

/-- The registers of block 0x09. -/
def Reg.block9 : List RegDesc :=
  [Reg.FAR_CTRL, Reg.FAR_STATUS, Reg.FAR_TRIG, Reg.FAR_MAXAGE, Reg.FAR_NVINT, Reg.FAR_DEGRADED, Reg.FAR_ERR, Reg.FAR_RUNS] ++
  [Reg.FAR_REJECTS, Reg.FAR_STALL_CTRL, Reg.FAR_STALL_STATUS, Reg.FAR_STALL_TEMP, Reg.FAR_STALL_TIME, Reg.FAR_STALL_AGREE, Reg.FAR_PORT_LANERUN, Reg.FAR_PORT_STATUS] ++
  [Reg.FAR_PORT_VALID, Reg.FAR_PORT_DEGRADED]

/-! Block 0x0A: power and thermal. -/

def Reg.PWR_STATUS : RegDesc := ⟨"PWR_STATUS", 10, 0, 1, 0x0, 4, false, 1, 0x0, 1, 0x0,
  fun _ => 0x0, 0x0, 0x0, 0x0, fun _ _ => 0, fun _ => true⟩
def Fld.PWR_STATUS_RAILS : Field := ⟨Reg.PWR_STATUS, 0, 1⟩
def Fld.PWR_STATUS_PBVALID : Field := ⟨Reg.PWR_STATUS, 1, 1⟩
def Fld.PWR_STATUS_OVERBUDGET : Field := ⟨Reg.PWR_STATUS, 2, 1⟩
def Fld.PWR_STATUS_UVWARN : Field := ⟨Reg.PWR_STATUS, 3, 1⟩
def Fld.PWR_STATUS_FORCE : Field := ⟨Reg.PWR_STATUS, 4, 2⟩
def Reg.PWR_PBCFG : RegDesc := ⟨"PWR_PBCFG", 10, 0, 1, 0x4, 4, true, 1, 0x0, 1, 0x0,
  fun _ => 0x1FFF, 0x0, 0x0, 0x0, fun _ _ => 0x960, fun _ => true⟩
def Fld.PWR_PBCFG_MODE : Field := ⟨Reg.PWR_PBCFG, 0, 2⟩
def Fld.PWR_PBCFG_FALLBACK : Field := ⟨Reg.PWR_PBCFG, 2, 11⟩
def Reg.PWR_DEMAND : RegDesc := ⟨"PWR_DEMAND", 10, 0, 1, 0x10, 4, false, 1, 0x0, 1, 0x0,
  fun _ => 0x0, 0x0, 0x0, 0x0, fun _ _ => 0x20000000, fun _ => true⟩
def Fld.PWR_DEMAND_U : Field := ⟨Reg.PWR_DEMAND, 0, 10⟩
def Fld.PWR_DEMAND_PAUSE : Field := ⟨Reg.PWR_DEMAND, 10, 8⟩
def Fld.PWR_DEMAND_NPARK : Field := ⟨Reg.PWR_DEMAND, 18, 4⟩
def Fld.PWR_DEMAND_PREL : Field := ⟨Reg.PWR_DEMAND, 22, 8⟩
def Reg.PWR_INPUT : RegDesc := ⟨"PWR_INPUT", 10, 0, 1, 0x14, 4, false, 1, 0x0, 1, 0x0,
  fun _ => 0x0, 0x0, 0x0, 0x0, fun _ _ => 0, fun _ => true⟩
def Fld.PWR_INPUT_VIN : Field := ⟨Reg.PWR_INPUT, 0, 12⟩
def Fld.PWR_INPUT_IIN : Field := ⟨Reg.PWR_INPUT, 12, 12⟩
def Reg.PWR_ERR : RegDesc := ⟨"PWR_ERR", 10, 0, 1, 0x18, 4, false, 1, 0x0, 1, 0x0,
  fun _ => 0x0, 0x0, 0x3, 0x0, fun _ _ => 0, fun _ => true⟩
def Fld.PWR_ERR_PBLOST : Field := ⟨Reg.PWR_ERR, 0, 1⟩
def Fld.PWR_ERR_INPUT : Field := ⟨Reg.PWR_ERR, 1, 1⟩
def Reg.PWR_LASTTRIP : RegDesc := ⟨"PWR_LASTTRIP", 10, 0, 1, 0x1C, 4, false, 1, 0x0, 1, 0x0,
  fun _ => 0x0, 0x0, 0x0, 0x0, fun _ _ => 0, fun _ => true⟩
def Fld.PWR_LASTTRIP_CAUSE : Field := ⟨Reg.PWR_LASTTRIP, 0, 4⟩
def Reg.PWR_ENERGY : RegDesc := ⟨"PWR_ENERGY", 10, 0, 1, 0x20, 8, false, 1, 0x0, 1, 0x0,
  fun _ => 0x0, 0x0, 0x0, 0x0, fun _ _ => 0, fun _ => true⟩
def Fld.PWR_ENERGY_MJ : Field := ⟨Reg.PWR_ENERGY, 0, 64⟩
def Reg.PWR_LIMIT : RegDesc := ⟨"PWR_LIMIT", 10, 0, 1, 0x8, 4, true, 1, 0x0, 1, 0x0,
  fun _ => 0x7FF, 0x0, 0x0, 0x0, fun _ _ => 0x76C, fun _ => true⟩
def Fld.PWR_LIMIT_W : Field := ⟨Reg.PWR_LIMIT, 0, 11⟩
def Reg.PWR_PBFIX : RegDesc := ⟨"PWR_PBFIX", 10, 0, 1, 0xC, 4, true, 1, 0x0, 1, 0x0,
  fun _ => 0x7FF, 0x0, 0x0, 0x0, fun _ _ => 0x76C, fun _ => true⟩
def Fld.PWR_PBFIX_W : Field := ⟨Reg.PWR_PBFIX, 0, 11⟩
def Reg.THM_STATUS : RegDesc := ⟨"THM_STATUS", 10, 1, 1, 0x0, 4, false, 1, 0x0, 1, 0x0,
  fun _ => 0x0, 0x0, 0x0, 0x0, fun _ _ => 0, fun _ => true⟩
def Fld.THM_STATUS_BAND : Field := ⟨Reg.THM_STATUS, 0, 18⟩
def Fld.THM_STATUS_TRIP : Field := ⟨Reg.THM_STATUS, 18, 4⟩
def Fld.THM_STATUS_HOLDOFF : Field := ⟨Reg.THM_STATUS, 22, 4⟩
def Fld.THM_STATUS_QUIET : Field := ⟨Reg.THM_STATUS, 26, 4⟩
def Reg.THM_ROR : RegDesc := ⟨"THM_ROR", 10, 1, 1, 0x4, 4, true, 1, 0x0, 1, 0x0,
  fun _ => 0xFFF, 0x0, 0x0, 0x0, fun _ _ => 0xC40, fun _ => true⟩
def Fld.THM_ROR_RATE : Field := ⟨Reg.THM_ROR, 0, 8⟩
def Fld.THM_ROR_WIN : Field := ⟨Reg.THM_ROR, 8, 4⟩
def Reg.THM_QUIET : RegDesc := ⟨"THM_QUIET", 10, 1, 1, 0x8, 4, true, 1, 0x0, 1, 0x0,
  fun _ => 0xFF, 0x0, 0x0, 0x0, fun _ _ => 0x32, fun _ => true⟩
def Fld.THM_QUIET_T : Field := ⟨Reg.THM_QUIET, 0, 8⟩
def Reg.THM_HOLDOFF : RegDesc := ⟨"THM_HOLDOFF", 10, 1, 1, 0xC, 4, true, 1, 0x0, 1, 0x0,
  fun _ => 0xFFFF, 0x0, 0x0, 0x0, fun _ _ => 0x400A, fun _ => true⟩
def Fld.THM_HOLDOFF_MS : Field := ⟨Reg.THM_HOLDOFF, 0, 8⟩
def Fld.THM_HOLDOFF_PAUSE : Field := ⟨Reg.THM_HOLDOFF, 8, 8⟩
def Reg.THM_DIETRIP : RegDesc := ⟨"THM_DIETRIP", 10, 1, 1, 0x10, 4, true, 1, 0x0, 1, 0x0,
  fun _ => 0xFF, 0x0, 0x0, 0x0, fun _ _ => 0x69, fun _ => true⟩
def Fld.THM_DIETRIP_C : Field := ⟨Reg.THM_DIETRIP, 0, 8⟩
def Reg.THM_RECMAX : RegDesc := ⟨"THM_RECMAX", 10, 1, 1, 0x14, 4, true, 1, 0x0, 1, 0x0,
  fun _ => 0xFFFF, 0x0, 0x0, 0x0, fun _ _ => 0x28, fun _ => true⟩
def Fld.THM_RECMAX_MS : Field := ⟨Reg.THM_RECMAX, 0, 16⟩
def Reg.THM_TRIPS : RegDesc := ⟨"THM_TRIPS", 10, 1, 1, 0x18, 4, false, 1, 0x0, 1, 0x0,
  fun _ => 0x0, 0x0, 0x0, 0xFFFFFFFF, fun _ _ => 0, fun _ => true⟩
def Fld.THM_TRIPS_COUNT : Field := ⟨Reg.THM_TRIPS, 0, 32⟩
def Reg.THM_REMOTE : RegDesc := ⟨"THM_REMOTE", 10, 1, 1, 0x20, 4, false, 6, 0x4, 1, 0x0,
  fun _ => 0x0, 0x0, 0x0, 0x0, fun _ _ => 0x8000, fun _ => true⟩
def Fld.THM_REMOTE_T : Field := ⟨Reg.THM_REMOTE, 0, 16⟩
def Reg.THM_SENSE : RegDesc := ⟨"THM_SENSE", 10, 2, 1, 0x0, 4, false, 4, 0x100, 32, 0x4,
  fun _ => 0x0, 0x0, 0x0, 0x0, fun _ _ => 0, fun _ => true⟩
/-- THM_SENSE of the management die, and of the I/O die (Table 14.6). -/
def Reg.THM_SENSE_M : RegDesc := ⟨"THM_SENSE", 10, 2, 1, 0x400, 4, false, 1, 0x0, 8, 0x4,
  fun _ => 0x0, 0x0, 0x0, 0x0, fun _ _ => 0, fun _ => true⟩
def Reg.THM_SENSE_IO : RegDesc := ⟨"THM_SENSE", 10, 2, 1, 0x500, 4, false, 1, 0x0, 12, 0x4,
  fun _ => 0x0, 0x0, 0x0, 0x0, fun _ _ => 0, fun _ => true⟩
def Fld.THM_SENSE_T : Field := ⟨Reg.THM_SENSE, 0, 16⟩
def Reg.THM_DIE : RegDesc := ⟨"THM_DIE", 10, 2, 1, 0x800, 4, false, 6, 0x4, 1, 0x0,
  fun _ => 0x0, 0x0, 0x0, 0x0, fun _ _ => 0, fun _ => true⟩
def Fld.THM_DIE_T : Field := ⟨Reg.THM_DIE, 0, 16⟩
def Fld.THM_DIE_RISE : Field := ⟨Reg.THM_DIE, 16, 16⟩

/-- The registers of block 0x0A. -/
def Reg.block10 : List RegDesc :=
  [Reg.PWR_STATUS, Reg.PWR_PBCFG, Reg.PWR_DEMAND, Reg.PWR_INPUT, Reg.PWR_ERR, Reg.PWR_LASTTRIP, Reg.PWR_ENERGY, Reg.PWR_LIMIT] ++
  [Reg.PWR_PBFIX, Reg.THM_STATUS, Reg.THM_ROR, Reg.THM_QUIET, Reg.THM_HOLDOFF, Reg.THM_DIETRIP, Reg.THM_RECMAX, Reg.THM_TRIPS] ++
  [Reg.THM_REMOTE, Reg.THM_SENSE, Reg.THM_SENSE_M, Reg.THM_SENSE_IO, Reg.THM_DIE]

/-! Block 0x0B: Droveway. -/

def Reg.DRV_ID : RegDesc := ⟨"DRV_ID", 11, 0, 8, 0x0, 4, false, 1, 0x0, 1, 0x0,
  fun _ => 0x0, 0x0, 0x0, 0x0, fun w _ => w + (w/4)*8, fun _ => true⟩
def Fld.DRV_ID_PORT : Field := ⟨Reg.DRV_ID, 0, 3⟩
def Fld.DRV_ID_COMB : Field := ⟨Reg.DRV_ID, 3, 1⟩
def Reg.DRV_CTRL : RegDesc := ⟨"DRV_CTRL", 11, 0, 8, 0x4, 4, true, 1, 0x0, 1, 0x0,
  fun _ => 0x0, 0x3, 0x0, 0x0, fun _ _ => 0, fun _ => true⟩
def Fld.DRV_CTRL_START : Field := ⟨Reg.DRV_CTRL, 0, 1⟩
def Fld.DRV_CTRL_STOP : Field := ⟨Reg.DRV_CTRL, 1, 1⟩
def Reg.DRV_STATUS : RegDesc := ⟨"DRV_STATUS", 11, 0, 8, 0x8, 4, false, 1, 0x0, 1, 0x0,
  fun _ => 0x0, 0x0, 0x0, 0x0, fun _ _ => 0, fun _ => true⟩
def Fld.DRV_STATUS_STATE : Field := ⟨Reg.DRV_STATUS, 0, 3⟩
def Fld.DRV_STATUS_MODE : Field := ⟨Reg.DRV_STATUS, 3, 1⟩
def Fld.DRV_STATUS_LEADER : Field := ⟨Reg.DRV_STATUS, 4, 1⟩
def Fld.DRV_STATUS_LEADIDX : Field := ⟨Reg.DRV_STATUS, 5, 4⟩
def Fld.DRV_STATUS_TXN : Field := ⟨Reg.DRV_STATUS, 9, 6⟩
def Fld.DRV_STATUS_RXN : Field := ⟨Reg.DRV_STATUS, 15, 6⟩
def Fld.DRV_STATUS_SUSP : Field := ⟨Reg.DRV_STATUS, 21, 1⟩
def Reg.DRV_CFG : RegDesc := ⟨"DRV_CFG", 11, 0, 8, 0xC, 4, true, 1, 0x0, 1, 0x0,
  fun _ => 0x7F, 0x0, 0x0, 0x0, fun _ _ => 0x40, fun _ => true⟩
def Fld.DRV_CFG_MODE : Field := ⟨Reg.DRV_CFG, 0, 1⟩
def Fld.DRV_CFG_CTLLANE : Field := ⟨Reg.DRV_CFG, 1, 5⟩
def Fld.DRV_CFG_AUTORESTART : Field := ⟨Reg.DRV_CFG, 6, 1⟩
def Reg.DRV_ERR : RegDesc := ⟨"DRV_ERR", 11, 0, 8, 0x10, 4, false, 1, 0x0, 1, 0x0,
  fun _ => 0x0, 0x0, 0x1F, 0x0, fun _ _ => 0, fun _ => true⟩
def Fld.DRV_ERR_CFG_REFUSED : Field := ⟨Reg.DRV_ERR, 0, 1⟩
def Fld.DRV_ERR_SQ_REFUSED : Field := ⟨Reg.DRV_ERR, 1, 1⟩
def Fld.DRV_ERR_XFER_FAIL : Field := ⟨Reg.DRV_ERR, 2, 1⟩
def Fld.DRV_ERR_WINVIOL : Field := ⟨Reg.DRV_ERR, 3, 1⟩
def Fld.DRV_ERR_STRANGER : Field := ⟨Reg.DRV_ERR, 4, 1⟩
def Reg.DRV_LANETHR : RegDesc := ⟨"DRV_LANETHR", 11, 0, 8, 0x1C, 4, true, 1, 0x0, 1, 0x0,
  fun _ => 0xFFFFFFFF, 0x0, 0x0, 0x0, fun _ _ => 0x1010004, fun _ => true⟩
def Fld.DRV_LANETHR_UC : Field := ⟨Reg.DRV_LANETHR, 0, 8⟩
def Fld.DRV_LANETHR_CS : Field := ⟨Reg.DRV_LANETHR, 8, 16⟩
def Fld.DRV_LANETHR_RESTORE : Field := ⟨Reg.DRV_LANETHR, 24, 8⟩
def Reg.DRV_SQ_ARM : RegDesc := ⟨"DRV_SQ_ARM", 11, 0, 8, 0x20, 8, false, 1, 0x0, 1, 0x0,
  fun _ => 0x0, 0xFFFFFFFFFFFF, 0x0, 0x0, fun _ _ => 0, fun _ => true⟩
def Fld.DRV_SQ_ARM_ADDR : Field := ⟨Reg.DRV_SQ_ARM, 0, 48⟩
def Reg.DRV_SQ_STATUS : RegDesc := ⟨"DRV_SQ_STATUS", 11, 0, 8, 0x28, 4, false, 1, 0x0, 1, 0x0,
  fun _ => 0x0, 0x0, 0x0, 0x0, fun _ _ => 0, fun _ => true⟩
def Fld.DRV_SQ_STATUS_DEPTH : Field := ⟨Reg.DRV_SQ_STATUS, 0, 7⟩
def Fld.DRV_SQ_STATUS_STATUS : Field := ⟨Reg.DRV_SQ_STATUS, 7, 5⟩
def Fld.DRV_SQ_STATUS_SEQ : Field := ⟨Reg.DRV_SQ_STATUS, 12, 8⟩
def Fld.DRV_SQ_STATUS_INFLIGHT : Field := ⟨Reg.DRV_SQ_STATUS, 20, 4⟩
def Reg.DRV_C0RX_PTR : RegDesc := ⟨"DRV_C0RX_PTR", 11, 0, 8, 0x38, 4, true, 1, 0x0, 1, 0x0,
  fun _ => 0x3F00, 0x0, 0x0, 0xFFFF0000, fun _ _ => 0, fun _ => true⟩
def Fld.DRV_C0RX_PTR_TAIL : Field := ⟨Reg.DRV_C0RX_PTR, 0, 6⟩
def Fld.DRV_C0RX_PTR_HEAD : Field := ⟨Reg.DRV_C0RX_PTR, 8, 6⟩
def Fld.DRV_C0RX_PTR_LOST : Field := ⟨Reg.DRV_C0RX_PTR, 16, 16⟩
def Reg.DRV_C0TX_ARM : RegDesc := ⟨"DRV_C0TX_ARM", 11, 0, 8, 0x40, 8, true, 1, 0x0, 1, 0x0,
  fun _ => 0x0, 0xFFFFFFFFFFFF, 0x0, 0x0, fun _ _ => 0, fun _ => true⟩
def Fld.DRV_C0TX_ARM_ADDR : Field := ⟨Reg.DRV_C0TX_ARM, 0, 48⟩
def Reg.DRV_C0TX_STATUS : RegDesc := ⟨"DRV_C0TX_STATUS", 11, 0, 8, 0x48, 4, true, 1, 0x0, 1, 0x0,
  fun _ => 0x0, 0x0, 0x0, 0x0, fun _ _ => 0, fun _ => true⟩
def Fld.DRV_C0TX_STATUS_QUEUED : Field := ⟨Reg.DRV_C0TX_STATUS, 0, 4⟩
def Fld.DRV_C0TX_STATUS_FULL : Field := ⟨Reg.DRV_C0TX_STATUS, 4, 1⟩
def Reg.DRV_EPOCH : RegDesc := ⟨"DRV_EPOCH", 11, 0, 8, 0x4C, 4, false, 1, 0x0, 1, 0x0,
  fun _ => 0x0, 0x0, 0x0, 0x0, fun _ _ => 0, fun _ => true⟩
def Fld.DRV_EPOCH_EPOCH : Field := ⟨Reg.DRV_EPOCH, 0, 32⟩
def Reg.DRV_MEMBERS : RegDesc := ⟨"DRV_MEMBERS", 11, 0, 8, 0x80, 4, false, 1, 0x0, 1, 0x0,
  fun _ => 0x0, 0x0, 0x0, 0x0, fun _ _ => 0, fun _ => true⟩
def Fld.DRV_MEMBERS_ADMITTED : Field := ⟨Reg.DRV_MEMBERS, 0, 16⟩
def Fld.DRV_MEMBERS_SUSPENDED : Field := ⟨Reg.DRV_MEMBERS, 16, 16⟩
def Reg.DRV_TXLANES : RegDesc := ⟨"DRV_TXLANES", 11, 0, 8, 0x14, 4, false, 1, 0x0, 1, 0x0,
  fun _ => 0x0, 0x0, 0x0, 0x0, fun _ _ => 0, fun _ => true⟩
def Fld.DRV_TXLANES_LANES : Field := ⟨Reg.DRV_TXLANES, 0, 32⟩
def Reg.DRV_RXLANES : RegDesc := ⟨"DRV_RXLANES", 11, 0, 8, 0x18, 4, false, 1, 0x0, 1, 0x0,
  fun _ => 0x0, 0x0, 0x0, 0x0, fun _ _ => 0, fun _ => true⟩
def Fld.DRV_RXLANES_LANES : Field := ⟨Reg.DRV_RXLANES, 0, 32⟩
def Reg.DRV_C0RX_BASE : RegDesc := ⟨"DRV_C0RX_BASE", 11, 0, 8, 0x30, 8, true, 1, 0x0, 1, 0x0,
  fun _ => 0xFFFFFFFFFFC0, 0x0, 0x0, 0x0, fun _ _ => 0, fun _ => true⟩
def Fld.DRV_C0RX_BASE_BASE : Field := ⟨Reg.DRV_C0RX_BASE, 0, 48⟩
def Reg.DRV_FRAMES_TX : RegDesc := ⟨"DRV_FRAMES_TX", 11, 0, 8, 0x50, 8, false, 1, 0x0, 1, 0x0,
  fun _ => 0x0, 0x0, 0x0, 0x0, fun _ _ => 0, fun _ => true⟩
def Fld.DRV_FRAMES_TX_COUNT : Field := ⟨Reg.DRV_FRAMES_TX, 0, 64⟩
def Reg.DRV_FRAMES_RX : RegDesc := ⟨"DRV_FRAMES_RX", 11, 0, 8, 0x58, 8, false, 1, 0x0, 1, 0x0,
  fun _ => 0x0, 0x0, 0x0, 0x0, fun _ _ => 0, fun _ => true⟩
def Fld.DRV_FRAMES_RX_COUNT : Field := ⟨Reg.DRV_FRAMES_RX, 0, 64⟩
def Reg.DRV_CSYM : RegDesc := ⟨"DRV_CSYM", 11, 0, 8, 0x78, 8, false, 1, 0x0, 1, 0x0,
  fun _ => 0x0, 0x0, 0x0, 0x0, fun _ _ => 0, fun _ => true⟩
def Fld.DRV_CSYM_COUNT : Field := ⟨Reg.DRV_CSYM, 0, 64⟩
def Reg.DRV_RETRY : RegDesc := ⟨"DRV_RETRY", 11, 0, 8, 0x60, 4, false, 1, 0x0, 1, 0x0,
  fun _ => 0x0, 0x0, 0x0, 0xFFFFFFFF, fun _ _ => 0, fun _ => true⟩
def Fld.DRV_RETRY_COUNT : Field := ⟨Reg.DRV_RETRY, 0, 32⟩
def Reg.DRV_COLL : RegDesc := ⟨"DRV_COLL", 11, 0, 8, 0x64, 4, false, 1, 0x0, 1, 0x0,
  fun _ => 0x0, 0x0, 0x0, 0xFFFFFFFF, fun _ _ => 0, fun _ => true⟩
def Fld.DRV_COLL_COUNT : Field := ⟨Reg.DRV_COLL, 0, 32⟩
def Reg.DRV_STRANGER : RegDesc := ⟨"DRV_STRANGER", 11, 0, 8, 0x68, 4, false, 1, 0x0, 1, 0x0,
  fun _ => 0x0, 0x0, 0x0, 0xFFFFFFFF, fun _ _ => 0, fun _ => true⟩
def Fld.DRV_STRANGER_COUNT : Field := ⟨Reg.DRV_STRANGER, 0, 32⟩
def Reg.DRV_WINVIOL : RegDesc := ⟨"DRV_WINVIOL", 11, 0, 8, 0x6C, 4, false, 1, 0x0, 1, 0x0,
  fun _ => 0x0, 0x0, 0x0, 0xFFFFFFFF, fun _ _ => 0, fun _ => true⟩
def Fld.DRV_WINVIOL_COUNT : Field := ⟨Reg.DRV_WINVIOL, 0, 32⟩
def Reg.DRV_UCW : RegDesc := ⟨"DRV_UCW", 11, 0, 8, 0x70, 4, false, 1, 0x0, 1, 0x0,
  fun _ => 0x0, 0x0, 0x0, 0xFFFFFFFF, fun _ _ => 0, fun _ => true⟩
def Fld.DRV_UCW_COUNT : Field := ⟨Reg.DRV_UCW, 0, 32⟩
def Reg.DRV_RXWIN_BASE : RegDesc := ⟨"DRV_RXWIN_BASE", 11, 0, 8, 0x100, 8, false, 8, 0x10, 1, 0x0,
  fun _ => 0xFFFFFFFF0000, 0x0, 0x0, 0x0, fun _ _ => 0, fun _ => true⟩
def Fld.DRV_RXWIN_BASE_BASE : Field := ⟨Reg.DRV_RXWIN_BASE, 0, 48⟩
def Reg.DRV_RXWIN_SIZE : RegDesc := ⟨"DRV_RXWIN_SIZE", 11, 0, 8, 0x108, 4, false, 8, 0x10, 1, 0x0,
  fun _ => 0xFFFFFFFF, 0x0, 0x0, 0x0, fun _ _ => 0, fun _ => true⟩
def Fld.DRV_RXWIN_SIZE_SIZE : Field := ⟨Reg.DRV_RXWIN_SIZE, 0, 32⟩
def Reg.DRV_RXWIN_CTL : RegDesc := ⟨"DRV_RXWIN_CTL", 11, 0, 8, 0x10C, 4, false, 8, 0x10, 1, 0x0,
  fun _ => 0x1FFFF, 0x0, 0x0, 0x0, fun _ _ => 0, fun _ => true⟩
def Fld.DRV_RXWIN_CTL_SENDERS : Field := ⟨Reg.DRV_RXWIN_CTL, 0, 16⟩
def Fld.DRV_RXWIN_CTL_EN : Field := ⟨Reg.DRV_RXWIN_CTL, 16, 1⟩
def Reg.DRV_LTRIM : RegDesc := ⟨"DRV_LTRIM", 11, 0, 8, 0x200, 4, true, 32, 0x8, 1, 0x0,
  fun _ => 0x3FFFFF, 0x0, 0x0, 0x0, fun _ _ => 0, fun _ => true⟩
def Fld.DRV_LTRIM_TXLVL : Field := ⟨Reg.DRV_LTRIM, 0, 8⟩
def Fld.DRV_LTRIM_RXTHR : Field := ⟨Reg.DRV_LTRIM, 8, 8⟩
def Fld.DRV_LTRIM_PHASE : Field := ⟨Reg.DRV_LTRIM, 16, 6⟩
def Reg.DRV_LSTAT : RegDesc := ⟨"DRV_LSTAT", 11, 0, 8, 0x204, 4, false, 32, 0x8, 1, 0x0,
  fun _ => 0x0, 0x0, 0x0, 0x0, fun _ _ => 0, fun _ => true⟩
def Fld.DRV_LSTAT_TXIN : Field := ⟨Reg.DRV_LSTAT, 0, 1⟩
def Fld.DRV_LSTAT_RXIN : Field := ⟨Reg.DRV_LSTAT, 1, 1⟩
def Fld.DRV_LSTAT_TXCAUSE : Field := ⟨Reg.DRV_LSTAT, 2, 3⟩
def Fld.DRV_LSTAT_RXCAUSE : Field := ⟨Reg.DRV_LSTAT, 5, 3⟩
def Fld.DRV_LSTAT_UC64 : Field := ⟨Reg.DRV_LSTAT, 8, 8⟩
def Fld.DRV_LSTAT_CSAVG : Field := ⟨Reg.DRV_LSTAT, 16, 16⟩
def Reg.DRV_HERD_ID : RegDesc := ⟨"DRV_HERD_ID", 11, 8, 1, 0x0, 8, true, 1, 0x0, 1, 0x0,
  fun _ => 0xFFFFFFFFFFFFFFFF, 0x0, 0x0, 0x0, fun _ _ => 0, fun _ => true⟩
def Fld.DRV_HERD_ID_ID : Field := ⟨Reg.DRV_HERD_ID, 0, 64⟩
def Reg.DRV_HERD_INDEX : RegDesc := ⟨"DRV_HERD_INDEX", 11, 8, 1, 0x8, 4, true, 1, 0x0, 1, 0x0,
  fun _ => 0x1F, 0x0, 0x0, 0x0, fun _ _ => 0, fun _ => true⟩
def Fld.DRV_HERD_INDEX_INDEX : Field := ⟨Reg.DRV_HERD_INDEX, 0, 4⟩
def Fld.DRV_HERD_INDEX_VALID : Field := ⟨Reg.DRV_HERD_INDEX, 4, 1⟩

/-- The registers of block 0x0B. -/
def Reg.block11 : List RegDesc :=
  [Reg.DRV_ID, Reg.DRV_CTRL, Reg.DRV_STATUS, Reg.DRV_CFG, Reg.DRV_ERR, Reg.DRV_LANETHR, Reg.DRV_SQ_ARM, Reg.DRV_SQ_STATUS] ++
  [Reg.DRV_C0RX_PTR, Reg.DRV_C0TX_ARM, Reg.DRV_C0TX_STATUS, Reg.DRV_EPOCH, Reg.DRV_MEMBERS, Reg.DRV_TXLANES, Reg.DRV_RXLANES, Reg.DRV_C0RX_BASE] ++
  [Reg.DRV_FRAMES_TX, Reg.DRV_FRAMES_RX, Reg.DRV_CSYM, Reg.DRV_RETRY, Reg.DRV_COLL, Reg.DRV_STRANGER, Reg.DRV_WINVIOL, Reg.DRV_UCW] ++
  [Reg.DRV_RXWIN_BASE, Reg.DRV_RXWIN_SIZE, Reg.DRV_RXWIN_CTL, Reg.DRV_LTRIM, Reg.DRV_LSTAT, Reg.DRV_HERD_ID, Reg.DRV_HERD_INDEX]

/-! Block 0x0C: host port. -/

def Reg.HPT_ID : RegDesc := ⟨"HPT_ID", 12, 0, 4, 0x0, 4, false, 1, 0x0, 1, 0x0,
  fun _ => 0x0, 0x0, 0x0, 0x0, fun w _ => w, fun _ => true⟩
def Fld.HPT_ID_CHANNEL : Field := ⟨Reg.HPT_ID, 0, 2⟩
def Reg.HPT_STATUS : RegDesc := ⟨"HPT_STATUS", 12, 0, 4, 0x4, 4, false, 1, 0x0, 1, 0x0,
  fun _ => 0x0, 0x0, 0x0, 0x0, fun _ _ => 0, fun _ => true⟩
def Fld.HPT_STATUS_STATE : Field := ⟨Reg.HPT_STATUS, 0, 3⟩
def Fld.HPT_STATUS_BANKMODE : Field := ⟨Reg.HPT_STATUS, 3, 1⟩
def Fld.HPT_STATUS_FSP : Field := ⟨Reg.HPT_STATUS, 4, 1⟩
def Fld.HPT_STATUS_RATE : Field := ⟨Reg.HPT_STATUS, 5, 14⟩
def Reg.HPT_ERR : RegDesc := ⟨"HPT_ERR", 12, 0, 4, 0x8, 4, false, 1, 0x0, 1, 0x0,
  fun _ => 0x0, 0x0, 0xF, 0x0, fun _ _ => 0, fun _ => true⟩
def Fld.HPT_ERR_PROTO : Field := ⟨Reg.HPT_ERR, 0, 1⟩
def Fld.HPT_ERR_WINDROP : Field := ⟨Reg.HPT_ERR, 1, 1⟩
def Fld.HPT_ERR_RDERR : Field := ⟨Reg.HPT_ERR, 2, 1⟩
def Fld.HPT_ERR_EVTLOST : Field := ⟨Reg.HPT_ERR, 3, 1⟩
def Reg.HPT_RDBYTES : RegDesc := ⟨"HPT_RDBYTES", 12, 0, 4, 0x10, 8, false, 1, 0x0, 1, 0x0,
  fun _ => 0x0, 0x0, 0x0, 0x0, fun _ _ => 0, fun _ => true⟩
def Fld.HPT_RDBYTES_COUNT : Field := ⟨Reg.HPT_RDBYTES, 0, 64⟩
def Reg.HPT_WRBYTES : RegDesc := ⟨"HPT_WRBYTES", 12, 0, 4, 0x18, 8, false, 1, 0x0, 1, 0x0,
  fun _ => 0x0, 0x0, 0x0, 0x0, fun _ _ => 0, fun _ => true⟩
def Fld.HPT_WRBYTES_COUNT : Field := ⟨Reg.HPT_WRBYTES, 0, 64⟩
def Reg.HPT_APWR : RegDesc := ⟨"HPT_APWR", 12, 0, 4, 0x20, 8, false, 1, 0x0, 1, 0x0,
  fun _ => 0x0, 0x0, 0x0, 0x0, fun _ _ => 0, fun _ => true⟩
def Fld.HPT_APWR_COUNT : Field := ⟨Reg.HPT_APWR, 0, 64⟩
def Reg.HPT_CMDS : RegDesc := ⟨"HPT_CMDS", 12, 0, 4, 0x28, 8, false, 1, 0x0, 1, 0x0,
  fun _ => 0x0, 0x0, 0x0, 0x0, fun _ _ => 0, fun _ => true⟩
def Fld.HPT_CMDS_COUNT : Field := ⟨Reg.HPT_CMDS, 0, 64⟩
def Reg.HPT_ATTN : RegDesc := ⟨"HPT_ATTN", 12, 4, 1, 0x0, 4, false, 1, 0x0, 1, 0x0,
  fun _ => 0x0, 0x0, 0x0, 0x0, fun _ _ => 0, fun _ => true⟩
def Fld.HPT_ATTN_LOW : Field := ⟨Reg.HPT_ATTN, 0, 1⟩
def Fld.HPT_ATTN_CQ : Field := ⟨Reg.HPT_ATTN, 1, 4⟩
def Fld.HPT_ATTN_EVT : Field := ⟨Reg.HPT_ATTN, 5, 4⟩
def Fld.HPT_ATTN_NOTICE : Field := ⟨Reg.HPT_ATTN, 9, 4⟩
def Reg.HPT_CFG : RegDesc := ⟨"HPT_CFG", 12, 4, 1, 0x4, 4, true, 1, 0x0, 1, 0x0,
  fun _ => 0x3, 0x0, 0x0, 0x0, fun _ _ => 0, fun _ => true⟩
def Fld.HPT_CFG_AP_ALLOW : Field := ⟨Reg.HPT_CFG, 0, 1⟩
def Fld.HPT_CFG_RD_ALLOW : Field := ⟨Reg.HPT_CFG, 1, 1⟩

/-- The registers of block 0x0C. -/
def Reg.block12 : List RegDesc :=
  [Reg.HPT_ID, Reg.HPT_STATUS, Reg.HPT_ERR, Reg.HPT_RDBYTES, Reg.HPT_WRBYTES, Reg.HPT_APWR, Reg.HPT_CMDS, Reg.HPT_ATTN] ++
  [Reg.HPT_CFG]

/-! Block 0x0D: tack room. -/

def Reg.TCK_STATUS : RegDesc := ⟨"TCK_STATUS", 13, 0, 1, 0x0, 4, false, 1, 0x0, 1, 0x0,
  fun _ => 0x0, 0x0, 0x0, 0x0, fun _ _ => 0x1, fun _ => true⟩
def Fld.TCK_STATUS_SIGNER : Field := ⟨Reg.TCK_STATUS, 0, 2⟩
def Fld.TCK_STATUS_OWNED : Field := ⟨Reg.TCK_STATUS, 2, 1⟩
def Fld.TCK_STATUS_TKF_ALT : Field := ⟨Reg.TCK_STATUS, 3, 1⟩
def Fld.TCK_STATUS_OSF_ALT : Field := ⟨Reg.TCK_STATUS, 4, 1⟩
def Fld.TCK_STATUS_TRIAL : Field := ⟨Reg.TCK_STATUS, 5, 1⟩
def Fld.TCK_STATUS_INBOX_BUSY : Field := ⟨Reg.TCK_STATUS, 6, 1⟩
def Reg.TCK_ROLLBACK : RegDesc := ⟨"TCK_ROLLBACK", 13, 0, 1, 0x4, 4, false, 1, 0x0, 1, 0x0,
  fun _ => 0x0, 0x0, 0x0, 0x0, fun _ _ => 0, fun _ => true⟩
def Fld.TCK_ROLLBACK_K : Field := ⟨Reg.TCK_ROLLBACK, 0, 8⟩
def Fld.TCK_ROLLBACK_TKF_SVN : Field := ⟨Reg.TCK_ROLLBACK, 8, 8⟩
def Fld.TCK_ROLLBACK_OSF_SVN : Field := ⟨Reg.TCK_ROLLBACK, 16, 8⟩
def Reg.TCK_BOOTS : RegDesc := ⟨"TCK_BOOTS", 13, 0, 1, 0x8, 4, false, 1, 0x0, 1, 0x0,
  fun _ => 0x0, 0x0, 0x0, 0x0, fun _ _ => 0, fun _ => true⟩
def Fld.TCK_BOOTS_COUNT : Field := ⟨Reg.TCK_BOOTS, 0, 32⟩
def Reg.TCK_LMS_Q : RegDesc := ⟨"TCK_LMS_Q", 13, 0, 1, 0x10, 8, false, 1, 0x0, 1, 0x0,
  fun _ => 0x0, 0x0, 0x0, 0x0, fun _ _ => 0, fun _ => true⟩
def Fld.TCK_LMS_Q_Q : Field := ⟨Reg.TCK_LMS_Q, 0, 30⟩
def Reg.TCK_LMS_LEFT : RegDesc := ⟨"TCK_LMS_LEFT", 13, 0, 1, 0x18, 4, false, 1, 0x0, 1, 0x0,
  fun _ => 0x0, 0x0, 0x0, 0x0, fun _ _ => 0x40000000, fun _ => true⟩
def Fld.TCK_LMS_LEFT_LEFT : Field := ⟨Reg.TCK_LMS_LEFT, 0, 31⟩
def Reg.TCK_NVWEAR : RegDesc := ⟨"TCK_NVWEAR", 13, 0, 1, 0x1C, 4, false, 1, 0x0, 1, 0x0,
  fun _ => 0x0, 0x0, 0x0, 0x0, fun _ _ => 0, fun _ => true⟩
def Fld.TCK_NVWEAR_ERASES : Field := ⟨Reg.TCK_NVWEAR, 0, 17⟩
def Reg.TCK_KEYS : RegDesc := ⟨"TCK_KEYS", 13, 0, 1, 0x20, 4, false, 1, 0x0, 1, 0x0,
  fun _ => 0x0, 0x0, 0x0, 0x0, fun _ _ => 0, fun _ => true⟩
def Fld.TCK_KEYS_SLOTS : Field := ⟨Reg.TCK_KEYS, 0, 8⟩
def Reg.TCK_HERDMIN : RegDesc := ⟨"TCK_HERDMIN", 13, 0, 1, 0x24, 4, true, 1, 0x0, 1, 0x0,
  fun _ => 0xFF, 0x0, 0x0, 0x0, fun _ _ => 0, fun _ => true⟩
def Fld.TCK_HERDMIN_MIN : Field := ⟨Reg.TCK_HERDMIN, 0, 8⟩
def Reg.TCK_ERR : RegDesc := ⟨"TCK_ERR", 13, 0, 1, 0x28, 4, true, 1, 0x0, 1, 0x0,
  fun _ => 0x0, 0x0, 0x1, 0x0, fun _ _ => 0, fun _ => true⟩
def Fld.TCK_ERR_REQ_REFUSED : Field := ⟨Reg.TCK_ERR, 0, 1⟩
def Reg.TCK_OWNSEQ : RegDesc := ⟨"TCK_OWNSEQ", 13, 0, 1, 0x30, 8, false, 1, 0x0, 1, 0x0,
  fun _ => 0x0, 0x0, 0x0, 0x0, fun _ _ => 0, fun _ => true⟩
def Fld.TCK_OWNSEQ_SEQ : Field := ⟨Reg.TCK_OWNSEQ, 0, 64⟩

/-- The registers of block 0x0D. -/
def Reg.block13 : List RegDesc :=
  [Reg.TCK_STATUS, Reg.TCK_ROLLBACK, Reg.TCK_BOOTS, Reg.TCK_LMS_Q, Reg.TCK_LMS_LEFT, Reg.TCK_NVWEAR, Reg.TCK_KEYS, Reg.TCK_HERDMIN] ++
  [Reg.TCK_ERR, Reg.TCK_OWNSEQ]

/-! Block 0x0E: event log. -/

def Reg.EVT_COUNT : RegDesc := ⟨"EVT_COUNT", 14, 0, 1, 0x0, 4, true, 1, 0x0, 1, 0x0,
  fun _ => 0x0, 0x0, 0x0, 0x0, fun _ _ => 0, fun _ => true⟩
def Fld.EVT_COUNT_COUNT : Field := ⟨Reg.EVT_COUNT, 0, 9⟩
def Reg.EVT_LOST : RegDesc := ⟨"EVT_LOST", 14, 0, 1, 0x4, 4, true, 1, 0x0, 1, 0x0,
  fun _ => 0x0, 0x0, 0x0, 0xFFFFFFFF, fun _ _ => 0, fun _ => true⟩
def Fld.EVT_LOST_COUNT : Field := ⟨Reg.EVT_LOST, 0, 32⟩
def Reg.EVT_CTRL : RegDesc := ⟨"EVT_CTRL", 14, 0, 1, 0x8, 4, true, 1, 0x0, 1, 0x0,
  fun _ => 0x0, 0x1FF01, 0x0, 0x0, fun _ _ => 0, fun _ => true⟩
def Fld.EVT_CTRL_POP : Field := ⟨Reg.EVT_CTRL, 0, 1⟩
def Fld.EVT_CTRL_KEY : Field := ⟨Reg.EVT_CTRL, 8, 8⟩
def Fld.EVT_CTRL_PKGRESET : Field := ⟨Reg.EVT_CTRL, 16, 1⟩
def Reg.EVT_SVC : RegDesc := ⟨"EVT_SVC", 14, 0, 1, 0xC, 4, true, 1, 0x0, 1, 0x0,
  fun _ => 0xF, 0x0, 0x0, 0x0, fun _ _ => 0x10, fun _ => true⟩
def Fld.EVT_SVC_LEVEL : Field := ⟨Reg.EVT_SVC, 0, 4⟩
def Fld.EVT_SVC_PHASE : Field := ⟨Reg.EVT_SVC, 4, 3⟩
def Reg.EVT_RSTCAUSE : RegDesc := ⟨"EVT_RSTCAUSE", 14, 0, 1, 0x10, 4, true, 1, 0x0, 1, 0x0,
  fun _ => 0x0, 0x0, 0x0, 0x0, fun _ _ => 0, fun _ => true⟩
def Fld.EVT_RSTCAUSE_KIND : Field := ⟨Reg.EVT_RSTCAUSE, 0, 1⟩
def Fld.EVT_RSTCAUSE_CAUSE : Field := ⟨Reg.EVT_RSTCAUSE, 1, 3⟩
def Fld.EVT_RSTCAUSE_ORESTARTS : Field := ⟨Reg.EVT_RSTCAUSE, 8, 8⟩
def Reg.EVT_WDOG : RegDesc := ⟨"EVT_WDOG", 14, 0, 1, 0x14, 4, true, 1, 0x0, 1, 0x0,
  fun _ => 0xFFFF, 0x80000000, 0x0, 0x0, fun _ _ => 0x3E8, fun _ => true⟩
def Fld.EVT_WDOG_MS : Field := ⟨Reg.EVT_WDOG, 0, 16⟩
def Fld.EVT_WDOG_KICK : Field := ⟨Reg.EVT_WDOG, 31, 1⟩
def Reg.EVT_HEAD : RegDesc := ⟨"EVT_HEAD", 14, 0, 1, 0x100, 4, true, 8, 0x4, 1, 0x0,
  fun _ => 0x0, 0x0, 0x0, 0x0, fun _ _ => 0, fun _ => true⟩
def Fld.EVT_HEAD_REC : Field := ⟨Reg.EVT_HEAD, 0, 32⟩

/-- The registers of block 0x0E. -/
def Reg.block14 : List RegDesc :=
  [Reg.EVT_COUNT, Reg.EVT_LOST, Reg.EVT_CTRL, Reg.EVT_SVC, Reg.EVT_RSTCAUSE, Reg.EVT_WDOG, Reg.EVT_HEAD]

end Sys2Proof.Machine
end

