-- ==== Sys2Proof/Machine/RegMap.lean ====
section
/-! DEFINITION. Which register a control-space address names (R8, R9, R14), and every register's reset value. -/
namespace Sys2Proof.Machine

/-- The registers of control block `b` (Table 1.3); block 0x0F is unassigned. -/
def blockRegs (b : Nat) : List RegDesc :=
  match b with
  | 0 => Reg.block0
  | 1 => Reg.block1
  | 2 => Reg.block2
  | 3 => Reg.block3
  | 4 => Reg.block4
  | 5 => Reg.block5
  | 6 => Reg.block6
  | 7 => Reg.block7
  | 8 => Reg.block8
  | 9 => Reg.block9
  | 10 => Reg.block10
  | 11 => Reg.block11
  | 12 => Reg.block12
  | 13 => Reg.block13
  | 14 => Reg.block14
  | _ => []

/-- A byte of a register: the register, its window, its two indices, and which byte of it. -/
structure RegByte where
  desc : RegDesc
  w : Nat
  i : Nat
  k : Nat
  byte : Nat

/-- The byte of `d` at offset `off` of instance window `win`, if that is one. -/
def RegDesc.hit (d : RegDesc) (win off : Nat) : Option RegByte :=
  if win < d.lo ∨ d.lo + d.cnt ≤ win ∨ off < d.off ∨ d.winOk (win - d.lo) = false then none
  else
    let x := off - d.off
    let i := if d.s1 = 0 then 0 else x / d.s1
    let x1 := if d.s1 = 0 then x else x % d.s1
    let k := if d.s2 = 0 then 0 else x1 / d.s2
    let x2 := if d.s2 = 0 then x1 else x1 % d.s2
    if i < d.n1 ∧ k < d.n2 ∧ x2 < d.bytes then some ⟨d, win - d.lo, i, k, x2⟩ else none

/-- The first register of a list that has a byte there. -/
def findReg : List RegDesc → Nat → Nat → Option RegByte
  | [], _, _ => none
  | d :: t, win, off =>
    match d.hit win off with
    | some r => some r
    | none => findReg t win off

/-- Whether an address lies in the control space (Table 0.3). -/
def inControl (addr : Nat) : Bool := decide (0x80000000 ≤ addr) && decide (addr < 0x90000000)

/-- The register byte that a control-space address names; none where the offset is unassigned (R14). -/
def regByteAt (addr : Nat) : Option RegByte :=
  if inControl addr then
    findReg (blockRegs ((addr - 0x80000000) / 0x1000000)) (addr / 0x10000 % 256) (addr % 0x10000)
  else none

/-- The Reset column of the register whose first byte is at `addr`. -/
def regReset (addr : Nat) : W64 :=
  match regByteAt addr with
  | some r => if r.byte = 0 then BitVec.ofNat 64 (r.desc.reset r.w r.i) else 0
  | none => 0

end Sys2Proof.Machine
end

