-- ==== Sys2Proof/Machine/State.lean ====
section
/-! DEFINITION. The state of the device as plain data, the reasons a step can stop, and the state after reset. -/
namespace Sys2Proof.Machine

/-- R17, Table 0.6: an event record. -/
structure EventRec where
  time : W64
  code : Nat
  unit : Nat
  nested : Bool
  afterLoss : Bool
  addr : Nat
  detail : Nat
  deriving DecidableEq, Repr

/-- R478, R501: the event log: records travelling to it, its queue (head first), and the loss episode. -/
structure EvLog where
  /-- records raised and not yet arrived, oldest first -/
  inFlight : List EventRec := []
  /-- at most 256 records, head first -/
  queue : List EventRec := []
  /-- records lost in the present episode; 0 when there is none -/
  episode : Nat := 0
  /-- a record was dropped and none has been entered since -/
  afterLoss : Bool := false
  deriving DecidableEq, Repr

/-- How a bus access ended. -/
inductive Reply
  | none
  | done
  | data (v : Nat)
  | busError
  deriving DecidableEq, Repr

/-- R10: a held low half, or a latched high half, of one requester and one 64-bit register. -/
structure HalfHold where
  req : Requester
  addr : Nat
  val : Nat
  deriving DecidableEq, Repr

/-- R10, R498: held low halves and latched high halves, and how the last register access ended. -/
structure Bus where
  held : List HalfHold := []
  latched : List HalfHold := []
  reply : Reply := .none
  deriving DecidableEq, Repr

/-- R103, Table 4.1: a tile-operation descriptor. -/
structure TileOp where
  op : Nat := 0
  next : Bool := false
  integ : Nat := 0
  gain : Nat := 0
  acc : Bool := false
  wfmt : Nat := 0
  xfmt : Nat := 0
  slice : Nat := 0
  sck : Nat := 0
  slot : Nat := 0
  vcnt : Nat := 0
  tag : Nat := 0
  doneSbx : Nat := 0
  doneEn : Bool := false
  waitSbx : Nat := 0
  waitEn : Bool := false
  waitValue : Nat := 0
  deriving DecidableEq, Repr

/-- A complete weight tile (R66): the format its scale lines carried and its 512 blocks by index t (zero blocks unlisted). -/
structure Tile where
  fmt : Nat := 0
  blocks : NMap Block := []
  deriving DecidableEq, Repr

/-- What the load front end forms from a tile (R62, R64, R67, R69): a staging slot, and what a hold node holds. -/
structure NodeTile where
  /-- position in the weight stream -/
  seq : Nat := 0
  /-- E_T, 127 for a dark tile -/
  et : Nat := 127
  dark : Bool := true
  fmt : Nat := 0
  /-- block indices t of poisoned blocks -/
  pois : List Nat := []
  /-- the non-zero grid values, by cell 128n + k -/
  q : NMap Int := []
  /-- the non-zero cell codes (Table 3.1), by cell 128n + k -/
  codes : NMap Nat := []
  deriving DecidableEq, Repr

/-- One of the two hold nodes of every cell of a stall (R76, R81). -/
structure HoldNode where
  /-- it holds a tile's codes; otherwise its cells are grounded -/
  loaded : Bool := false
  /-- its refresh has fallen due -/
  due : Bool := false
  tile : NodeTile := {}
  deriving DecidableEq, Repr

/-- What drives the resistor strings (R82). -/
inductive Strings
  | free
  | load
  | refresh (nodeB : Bool)
  deriving DecidableEq, Repr

/-- An input vector of a stall: its four blocks, BX6 already widened to BX8 (R63, R85). -/
structure InVec where
  blocks : List Block := []
  deriving DecidableEq, Repr

/-- A tile operation accepted at the issue port, or modulated and not yet complete. -/
structure OpRun where
  id : Nat := 0
  d : TileOp := {}
  /-- vectors it runs: b, or those delivered before the input stream halted -/
  n : Nat := 0
  /-- position in the weight stream of the tile it runs on -/
  tileSeq : Nat := 0
  begun : Bool := false
  /-- the pass to run or running is the low pass -/
  low : Bool := false
  /-- vectors of the present pass already run (R120) -/
  vDone : Nat := 0
  /-- it waits as a remainder (R120) -/
  remainder : Bool := false
  vecs : List InVec := []
  /-- the tile it runs on, and the lanes' thresholds, taken where it began -/
  tile : NodeTile := {}
  thr : List Int := []
  /-- voided in part under cause 2: it never completes (R119) -/
  never : Bool := false
  deriving DecidableEq, Repr

/-- A retry (R115, R117): waiting or modulating, with the codes it replaces. -/
structure Retry where
  o : OpRun := {}
  low : Bool := false
  clipMiss : Bool := false
  gStar : Nat := 0
  /-- original codes of the outputs to be replaced, by vector × 128 + lane -/
  orig : NMap Int := []
  /-- vectors it covers, and how many of them have been retried -/
  vFrom : Nat := 0
  vTo : Nat := 0
  vDone : Nat := 0
  running : Bool := false
  /-- statistics of the vectors already retried, of a retry cut by a halt: outputs, clipped, with |code| ≥ 8 -/
  nOut : Nat := 0
  nClip : Nat := 0
  nBig : Nat := 0
  deriving DecidableEq, Repr

/-- R121 and Table 4.8: the state of a stall. -/
inductive StallSt
  | run | stopping | stopped | offline
  deriving DecidableEq, Repr

/-- What holds a stall from the power and thermal block: a rate trip, a die or stack trip, or parking. -/
inductive ThmWhy
  | rateTrip | dieTrip | park
  deriving DecidableEq, Repr

/-- What holds a stall from the light block: lasers off, a comb die's failure, its carrier ring, its phase loops (R331). -/
inductive LteWhy
  | dark | comb | carrier | phase
  deriving DecidableEq, Repr

/-- A tile operation on its way to the issue port; `id` counts the operations queued for the stall. -/
structure QOp where
  id : Nat := 0
  d : TileOp := {}
  deriving DecidableEq, Repr

/-- R180: an operation whose vectors the input port fetches: how many it needs, the buffer bytes taken for it, the
vectors delivered so far. -/
structure VecFetch where
  id : Nat := 0
  /-- the operation has been voided: its space is free, and the vectors still to come for it are dropped -/
  dead : Bool := false
  need : Nat := 0
  bytes : Nat := 0
  vecs : List InVec := []
  deriving DecidableEq, Repr

/-- One stall: the crossbar, its load path, its issue port and its troughs. -/
structure Stall where
  state : StallSt := .stopped
  /-- STOPPING was entered, or continued, with CUT -/
  cutting : Bool := false
  thm : List ThmWhy := []
  lte : List LteWhy := []
  far : Bool := false
  /-- the farrier owns the strings, cells, modulators and detectors (R343) -/
  farOwns : Bool := false
  /-- R346: HOLD_FAR stays until an accepted run or RELEASE -/
  farKept : Bool := false
  /-- R348: re-interpolated since HOLD_THM last set -/
  thmDone : Bool := false
  band : Nat := 0
  /-- complete tiles in the tile input buffer, at most 2, oldest first -/
  buffer : List Tile := []
  /-- complete tiles that have entered the buffer since power-on -/
  tilesIn : Nat := 0
  /-- staging slots in use, at most 2, oldest first -/
  staged : List NodeTile := []
  strings : Strings := .free
  nodeA : HoldNode := {}
  nodeB : HoldNode := {}
  activeB : Bool := false
  /-- position in the weight stream of what the active node holds -/
  actSeq : Nat := 0
  /-- the idle node holds a tile awaiting commit -/
  awaiting : Bool := false
  cursor : Nat := 0
  lastDir : Bool := false
  /-- the shunter's descriptor queue, at most 16 -/
  tq : List QOp := []
  /-- descriptors handed over and not yet accepted -/
  entry : List QOp := []
  nextId : Nat := 0
  /-- accepted operations, at most 4, head first -/
  issue : List OpRun := []
  /-- a pass of the head of the issue port is modulating -/
  modulating : Bool := false
  retries : List Retry := []
  /-- R117: operations whose ended retry still holds its record, its last difference not yet added -/
  drain : List Nat := []
  /-- R364: TIME when the last item's modulation ended -/
  darkFrom : Option W64 := none
  /-- R371: the drive waveform in use, W0 to W2 -/
  wave : Nat := 0
  /-- R127: ostler firmware is taking the stall out of service; whether it was marked degraded -/
  retiring : Option Bool := none
  /-- operations whose passes have ended and that are not complete -/
  finishing : List OpRun := []
  /-- R119: the weight port is in its void state; an operation has been voided in it -/
  weightVoid : Bool := false
  voidHit : Bool := false
  inputVoid : Bool := false
  /-- queued operations whose vectors the input port has not begun to fetch, in queue order -/
  toFetch : List QOp := []
  /-- operations holding vector-buffer space, oldest first -/
  fetches : List VecFetch := []
  /-- R180: walk positions the input-port stream may still issue -/
  inGrant : Nat := 0
  /-- trough entries (R94), slot × 128 + column, as binary32 -/
  trough : NMap W32 := []
  deriving DecidableEq, Repr

/-- What memory holds. Mangers, HBM and DDR5 share one map of bytes; check bits are held as their deviation from those of
the byte or burst at its address, so an error-free byte lists nothing. -/
structure Mem where
  /-- by address; an unlisted byte reads 0 -/
  bytes : NMap Byte := []
  /-- manger check bits: the syndrome a read of the byte forms (R219), by byte address -/
  synd : NMap Nat := []
  /-- line check symbols: their packed deviation (R221, R223), by burst address -/
  dev : NMap Nat := []
  /-- bytes (mangers) and bursts (HBM, DDR5) about to be poisoned (R231, R236) -/
  pendPoison : List Nat := []
  /-- bytes and bursts whose correction a groom is about to write back (R231) -/
  pendFix : List Nat := []
  deriving DecidableEq, Repr

/-- R234: a manger row to be copied to a soft row; `byReg`: asked for by MGR_SOFTREP. -/
structure RepairCopy where
  die : Nat
  bank : Nat
  row : Nat
  byReg : Bool
  deriving DecidableEq, Repr

/-- R242: the settings of an armed flip, taken when it was armed. -/
structure FlipSet where
  addr : Nat
  mask : Nat
  sym : Nat
  xor : Nat
  deriving DecidableEq, Repr

/-- The integrity block's own state. Grooms are numbered 64d + b for manger banks, 256 + s for stacks, 264 + c for channels. -/
structure Integ where
  /-- R238: the row of a bank's first error in its handling state, plus 1, while not repaired since; by 64d + b -/
  firstRow : NMap Nat := []
  copies : List RepairCopy := []
  /-- R234: a held write of MGR_SOFTREP plus 1, by die -/
  softHeld : NMap Nat := []
  /-- R240: correctable errors in the present lap, by groom number; those past the threshold have raised the event -/
  ceLap : NMap Nat := []
  ceRaised : List Nat := []
  /-- windows each groom has read in the present lap, by groom number -/
  groomPos : NMap Nat := []
  /-- start of the present lap, by region; none until the region's grooms first start -/
  lapStart : NMap (Option W64) := []
  /-- regions that have raised the lap alarm in the present lap -/
  lapAlarmed : List Nat := []
  /-- R235: post-package repairs used: stack or channel, and the bank or bank group key within it -/
  repairsUsed : List (Nat × Nat) := []
  /-- R242: the armed flip -/
  flip : Option FlipSet := none
  /-- R228: regions whose power-on fill is to run, and those that have passed it since power-on -/
  fillDue : List Nat := []
  filled : List Nat := []
  /-- R235: retired 4 KiB pages, by address -/
  retired : List Nat := []
  /-- R237: TIME of the error that began a region's handling state, by groom number -/
  hndStart : NMap W64 := []
  /-- regions taken OFFLINE within the present command, whose loss the loft has yet to meet; empty between commands -/
  lost : List Nat := []
  deriving DecidableEq, Repr

/-- How a memory request ended. -/
inductive MemReply
  | data (bytes : List Nat)
  | done
  | uncorrectable
  | unreachable
  deriving DecidableEq, Repr

/-- A request accepted by a controller. -/
structure MemReq where
  addr : Nat
  cls : Nat
  kind : MemReqKind
  /-- it took a non-zero t_ref (R206) -/
  tRef : Bool := false
  deriving DecidableEq, Repr

/-- The controllers' own state; a stack is unit s, a channel unit 8 + c. -/
structure Tier where
  /-- requests accepted and not departed, oldest first -/
  queue : List MemReq := []
  /-- the end of the last request that departed -/
  reply : MemReply := .done
  /-- open rows plus 1, by bank (R205; see `bankKey`) -/
  openRow : NMap Nat := []
  /-- training has succeeded since power-up, by unit -/
  trained : List Nat := []
  /-- ranks per module, read by training (R198); the rate of the last DDR5 training, as SPEED; the tier is down under R203 -/
  ranks : Nat := 1
  speed : Nat := 0
  ddrDown : Bool := false
  /-- temperatures read last (R208), by unit -/
  temp : NMap Int := []
  /-- band of each stack's own temperature, of each channel's hottest module, by unit -/
  ownBand : NMap Nat := []
  /-- DDR5 channels that refuse C1 to C3 requests for a module above its limit (R376) -/
  overLimit : List Nat := []
  /-- R210: by pseudo-channel or subchannel (see `laneKey`), the bursts served since its last turn, twice, plus 1 where it writes -/
  served : NMap Nat := []
  deriving DecidableEq, Repr

/-- What an issued access of a thread does at its target (R139, R140). -/
inductive AccKind
  | load (size : Nat) (rd : Nat)
  | store (bytes : List Byte)
  | vload (vd : Nat)
  | vstore (bytes : List Byte)
  /-- function 0–9 of class 7 on `size` bytes (4 or 8) -/
  | atomic (func : Nat) (size : Nat) (rd : Nat) (operand expect : W64)
  deriving DecidableEq, Repr

/-- An access issued and not completed. -/
structure Access where
  addr : Nat
  kind : AccKind
  /-- R141: no later access issues until it returns -/
  acquire : Bool
  /-- the instruction's PC, and whether its thread has taken a trap since it issued (R149, R150) -/
  pc : W64
  preTrap : Bool
  deriving DecidableEq, Repr

/-- R147: a bus error that has arrived and not been taken. -/
structure DefErr where
  cause : Nat
  addr : Nat
  pc : W64
  preTrap : Bool
  deriving DecidableEq, Repr

/-- What a thread waits for. -/
inductive ThreadWait
  | none
  | sbwait (rd : Nat) (box value : Nat)
  deriving DecidableEq, Repr

/-- One hardware thread (Tables 5.1 and 5.2). -/
structure Thread where
  running : Bool := false
  handler : Bool := false
  pc : W64 := 0
  x : NMap W64 := []
  v : NMap W512 := []
  m : NMap W16 := []
  fflags : Nat := 0
  frm : Nat := 0
  twait : Nat := 0
  epc : W64 := 0
  tpc : W64 := 0
  tval : W64 := 0
  cause : Nat := 0
  /-- TIME at the last launch, and whether there was one -/
  launched : Bool := false
  launchTime : W64 := 0
  wait : ThreadWait := .none
  /-- R141: a FENCE has issued and an access before it is outstanding -/
  fence : Bool := false
  /-- accesses issued and not completed, oldest first, at most 8 -/
  out : List Access := []
  errs : List DefErr := []
  deriving DecidableEq, Repr

/-- R133: the state of a shed. -/
inductive ShedSt
  | run | stopping | stopped | offline
  deriving DecidableEq, Repr

/-- R137, R138: a 64-byte line of an instruction cache: its address, and its bytes as they were when it was filled. -/
structure ICLine where
  addr : Nat
  bytes : List Nat
  deriving DecidableEq, Repr

/-- R477: what ostler firmware does with a shed that it has stopped after a halt. -/
inductive ShedPlan
  | none | relaunch | offline
  deriving DecidableEq, Repr

/-- One shed: its state, its threads, the lines its instruction cache holds, oldest first, and what ostler firmware keeps of its halts (R477):
the times of the last ones, latest first, and what comes next. -/
structure Shed where
  state : ShedSt := .stopped
  thr : NMap Thread := []
  icache : List ICLine := []
  halts : List W64 := []
  plan : ShedPlan := .none
  deriving DecidableEq, Repr


/-- Table 6.3: one side of a stream descriptor. -/
structure Side where
  base : Nat := 0
  scale : Nat := 0
  ib0 : Nat := 0
  off : Nat := 0
  str : List Int := []
  deriving DecidableEq, Repr

/-- Table 6.2: a stream descriptor and the address it was armed from. -/
structure StreamDesc where
  addr : Nat := 0
  srck : Nat := 0
  dstk : Nat := 0
  sfmt : Nat := 0
  dfmt : Nat := 0
  rnd : Nat := 0
  reseed : Bool := false
  cls : Nat := 0
  waitEn : Bool := false
  doneEn : Bool := false
  waitSbx : Nat := 0
  doneSbx : Nat := 0
  doneDie : Nat := 0
  doneRemote : Bool := false
  waitValue : Nat := 0
  doneInc : Nat := 0
  ssid : Nat := 0
  dsid : Nat := 0
  cnt : List Nat := []
  src : Side := {}
  dst : Side := {}
  deriving DecidableEq, Repr

/-- What a transfer does (R157). -/
inductive XferKind
  /-- reads source bytes that complete `n` walk positions from `p0`, and, with `lead`, the first part of the block after them -/
  | data (p0 n : Nat) (lead : Bool)
  /-- fetches source scale line `line` of slot `slot` (0 for a memory walk), first needed at position `need` -/
  | line (slot line need expect : Nat)
  /-- writes a scale line of destination slot `slot` -/
  | lineWrite (slot : Nat)
  deriving DecidableEq, Repr

/-- An outstanding transfer: `len` source bytes from `addr`; `returned`: its read has returned; `no`: its place in the order in which the
shunter issued its transfers (R26). -/
structure Xfer where
  kind : XferKind
  addr : Nat
  len : Nat
  returned : Bool
  no : Nat := 0
  deriving DecidableEq, Repr

/-- A source scale line that has returned: its exponents; failed its check (R46), or uncorrectable (R227). -/
structure SrcLine where
  slot : Nat
  line : Nat
  exps : List Nat
  failed : Bool
  bad : Bool
  deriving DecidableEq, Repr

/-- A source element waiting for its destination block: its exact value, none where it poisons the block. -/
structure AccElem where
  fin : Bool
  m : Int
  e : Int
  deriving DecidableEq, Repr

/-- A scale line built and not yet written (R48). -/
structure LineWrite where
  slot : Nat
  addr : Nat
  bytes : List Nat
  deriving DecidableEq, Repr

/-- The current descriptor of a channel and how far its walk has come. -/
structure Run where
  d : StreamDesc := {}
  /-- next walk position to issue; the first part of its block has been read already -/
  pos : Nat := 0
  half : Bool := false
  /-- R46: the first position that needs a line that failed its check -/
  stopAt : Option Nat := none
  /-- lines fetched for the transfer issued last: slot and line -/
  issLines : List (Nat × Nat) := []
  /-- outstanding transfers, oldest first -/
  xfers : List Xfer := []
  lines : List SrcLine := []
  /-- bytes of a straddling block returned so far, and which are uncorrectable -/
  part : List (Nat × Bool) := []
  acc : List AccElem := []
  /-- walk positions whose reads have returned, and those whose writes are acknowledged (R157) -/
  conv : Nat := 0
  done : Nat := 0
  /-- exponents formed, by destination block; lines with one not yet written; lines built -/
  dstExp : NMap Nat := []
  dirty : List Nat := []
  pendLW : List LineWrite := []
  /-- sequence number of the first source and destination slot; slots reserved, and published, by this descriptor -/
  srcSeq : Nat := 0
  dstSeq : Nat := 0
  srcSlots : Nat := 0
  dstSlots : Nat := 0
  dstPub : Nat := 0
  /-- the tile being formed, complete tiles waiting for the tile input buffer, and tiles that have entered it -/
  tile : NMap Block := []
  ready : List Tile := []
  entered : Nat := 0
  /-- blocks of the input vector being formed -/
  vec : List Block := []
  deriving DecidableEq, Repr

/-- R163: the state of a channel. -/
inductive ChanSt
  | idle | wait | active | halted
  deriving DecidableEq, Repr

/-- One channel of a shunter. -/
structure Chan where
  state : ChanSt := .idle
  run : Option Run := none
  shadow : Option StreamDesc := none
  /-- descriptor addresses written to SHU_CHn_ARM whose status has not been written -/
  arms : List Nat := []
  clearing : Bool := false
  drop : Bool := false
  /-- R166: the cause the channel is to halt with; 0 none -/
  halting : Nat := 0
  hcause : Nat := 0
  /-- the stall ports the channel is bound to -/
  bindW : Bool := false
  bindI : Bool := false
  bindD : Bool := false
  /-- R191: the siding waited on, and whether as its producer; M-cycles of the wait -/
  waitOn : Option (Nat × Bool) := none
  waitCnt : Nat := 0
  deriving DecidableEq, Repr

/-- R169: the state of a shunter. -/
inductive ShuntSt
  | run | stopping | stopped
  deriving DecidableEq, Repr

/-- One shunter. Its state at reset is RUN (DEDUCED: log entry 178). -/
structure Shunter where
  state : ShuntSt := .run
  /-- R54, R55: the generator -/
  gen : W64 := seedDefault
  chans : NMap Chan := []
  /-- R189: tokens of classes C1 to C3 in 1/16 byte, by class − 1; a full bucket at the reset depth lists nothing -/
  tok : NMap Int := []
  /-- R190: the channel of each class that issued last, by class − 1 -/
  last : NMap Nat := []
  /-- R26: transfers issued so far -/
  nextNo : Nat := 0
  deriving DecidableEq, Repr

/-- A slot that a consumer channel holds: the operations whose vectors it carries (stall, id), and whether its last read has
returned (R174, R181). -/
structure HeldSlot where
  ops : List (Nat × Nat) := []
  returned : Bool := false
  deriving DecidableEq, Repr

/-- One siding (R171 to R176). -/
structure Siding where
  head : Nat := 0
  fill : Nat := 0
  /-- slots published since the last reset of the siding -/
  seq : Nat := 0
  /-- slots reserved by the producer channel and not published -/
  resv : Nat := 0
  /-- slots reserved by the consumer and not released, from the head -/
  held : List HeldSlot := []
  prod : Option Nat := none
  cons : Option Nat := none
  deriving DecidableEq, Repr

/-- A band of a weight set and where it lies (R247, R257). -/
structure BandPlace where
  tensor : Nat
  band : Nat
  kind : Nat
  layer : Nat
  hot : Nat
  /-- its format is a block format, its scale lines begin this far into it -/
  blk : Bool
  scaleOff : Nat
  ib0 : Nat
  bytes : Nat
  addr : Nat
  /-- DIEMAP and BANDS of its tensor (R256) -/
  dieMap : Nat := 0
  of_ : Nat := 1
  deriving DecidableEq, Repr

/-- A chunk table entry (Table 9.3). -/
structure ChunkRec where
  tensor : Nat
  first : Nat
  n : Nat
  bytes : Nat
  digest : Nat
  deriving DecidableEq, Repr

/-- A weight set or an adapter: what its bundle header names, its chunks, and its bands in placement-table order. -/
structure LoftSet where
  keySlot : Nat
  modelId : Nat
  version : Nat
  floor : Nat
  hdrHash : Nat
  chunks : List ChunkRec
  bands : List BandPlace
  deriving DecidableEq, Repr

/-- An adapter slot in use (R265). -/
structure AdapterSlot where
  set : LoftSet
  /-- written by on-device fine-tuning; carries no signature -/
  isLocal : Bool
  deriving DecidableEq, Repr

/-- What a bay holds. Its state, generation and references are registers. -/
structure Bay where
  set : Option LoftSet := none
  slots : NMap (Option AdapterSlot) := []
  deriving DecidableEq, Repr

/-- A chunk with bytes in staging (R252): where, and the byte ranges delivered. `repair`: of the set held by bay `bay` (R267). -/
structure StagedChunk where
  chunk : Nat
  bay : Nat
  repair : Bool
  addr : Nat
  bytes : Nat
  got : List (Nat × Nat)
  /-- the BUNDLE_PIECE command that waits for its digest check: channel and command -/
  waiter : Option (Nat × Nat) := none
  deriving DecidableEq, Repr

/-- A build in progress (R436): of a bay, or of an adapter slot of one. -/
structure Build where
  bay : Nat
  slot : Option Nat
  set : LoftSet
  mism : NMap Nat := []
  copied : List Nat := []
  deriving DecidableEq, Repr

/-- A DDR5 copy to be freed once the requests admitted before its band moved have ended (R264): batches. -/
structure FreeLater where
  addr : Nat
  bytes : Nat
  waits : List Nat
  deriving DecidableEq, Repr

/-- The loft. -/
structure Loft where
  bays : NMap Bay := []
  build : Option Build := none
  staged : List StagedChunk := []
  /-- R251: rollback floors by key slot and model -/
  floors : List (Nat × Nat × Nat) := []
  /-- R264: migration runs -/
  migrating : Bool := false
  freeLater : List FreeLater := []
  /-- R252: mismatches of a repair chunk, by bay and chunk (see `repairChunk`), until a delivery of it matches -/
  repMism : NMap Nat := []
  deriving DecidableEq, Repr

/-- An open session (R434). -/
structure Session where
  id : Nat
  maxtok : Nat
  kvtok : Nat
  kvfmt : Nat
  /-- 1 HBM, 2 DDR5 -/
  tier : Nat
  adapter : Nat
  bytes : Nat
  /-- where its cache lies, where the free space gives one place -/
  addr : Option Nat
  tokens : Nat
  /-- the generation that built its cache; 0 none -/
  gen : Nat
  /-- R444: its cache was discarded by an ostler restart, or under R263 -/
  lost : Bool
  deriving DecidableEq, Repr

/-- A request of an admitted batch: its record (Table 16.10), and the status and reason it has ended with. -/
structure Req where
  session : Nat
  rec_ : Nat
  /-- it was admitted: counted in REFS of its bay until it ends -/
  bound : Bool
  /-- R265: the adapter slot it is bound to with its bay; 0xFF none -/
  slot : Nat := 0xFF
  ended : Option (Nat × Nat)
  deriving DecidableEq, Repr

/-- An admitted batch (R435). -/
structure Batch where
  id : Nat
  chan : Nat
  cmd : Nat
  bay : Nat
  gen : Nat
  resOff : Nat
  reqs : List Req
  cancelled : Bool
  deriving DecidableEq, Repr

/-- What ostler firmware keeps for its sessions and batches. -/
structure Serve where
  sessions : List Session := []
  nextSession : Nat := 1
  batches : List Batch := []
  nextBatch : Nat := 0
  /-- commands taken from the mailboxes -/
  taken : Nat := 0
  /-- R439: bytes reserved for sessions -/
  resHbm : Nat := 0
  resDdr : Nat := 0
  deriving DecidableEq, Repr

/-- A command taken from a mailbox and not completed (R425, R426): its submission entry as a number, and, once it has ended, its
STATUS and RESULT bytes [31:16]. -/
structure SubCmd where
  id : Nat
  op : Nat
  cid : Nat
  entry : Nat
  started : Bool := false
  /-- R438: the time limit of a UNIT_STOP passes at this TIME -/
  due : Option W64 := none
  /-- R444: its place among the commands taken from all mailboxes -/
  order : Nat := 0
  /-- R428: a SWITCH that a mailbox reset found taken: it stands, and its completion is discarded -/
  silent : Bool := false
  ended : Option (Nat × Nat) := none
  deriving DecidableEq, Repr

/-- How the fetch under way of the reader will end (R442): its RESULT, the lines written as zero, and the first of them. -/
structure RdJob where
  result : Nat
  lines : Nat
  bad : Nat
  deriving DecidableEq, Repr

/-- MB_STATE.STATE (Table 16.4). -/
inductive MbSt
  | booting | ready | restarting | halted
  deriving DecidableEq, Repr

/-- One host channel: its LPDDR5X side, its porch and its mailbox. Doorbell words are fields of their own. -/
structure HChan where
  /-- porch bytes outside the doorbell page, by offset -/
  porch : NMap Byte := []
  /-- mode register values last written, plus 1, by register number -/
  mr : NMap Nat := []
  /-- the row last selected in each bank, plus 1 -/
  rows : NMap Nat := []
  /-- CK arrives -/
  ck : Bool := false
  /-- R422: the host has written to the aperture since power-on reset -/
  apWritten : Bool := false
  sqTail : Nat := 0
  cqHead : Nat := 0
  attnCfg : Nat := 0
  mbReset : Bool := false
  mbAck : Bool := false
  evtHead : Nat := 0
  winBase : Nat := 0
  winLow : Nat := 0
  winEn : Bool := false
  rdAddr : Nat := 0
  rdLow : Nat := 0
  rdLen : Nat := 0
  rdDest : Nat := 0
  sqHead : Nat := 0
  cqTail : Nat := 0
  state : MbSt := .booting
  notice : Bool := false
  restarts : Nat := 0
  evtTail : Nat := 0
  evtLost : Nat := 0
  /-- RD_STATUS -/
  rdBusy : Bool := false
  rdDone : Bool := false
  rdResult : Nat := 0
  rdSeq : Nat := 0
  rdBadLines : Nat := 0
  rdBad : Nat := 0
  rdJob : Option RdJob := none
  winDrop : Nat := 0
  /-- R426: the completion ring is in an odd lap, so PHASE is 0 -/
  oddLap : Bool := false
  cmds : List SubCmd := []
  nextCmd : Nat := 0
  /-- R440: records dropped since the last event 0xB006; the next record written carries AFTER_LOSS -/
  evtEpisode : Nat := 0
  evtAfterLoss : Bool := false
  /-- TIME of the last event 0xB006 -/
  evtAt : Option W64 := none
  deriving DecidableEq, Repr

/-- A recovery of a ring (R282) or its capture after a start: the spare line it recovers onto, if it does. -/
structure Recovery where
  ring : Nat
  spare : Bool
  /-- R282 step 3: the conversion at which the slew and the wait are over and the capture begins -/
  start : Nat
  deriving DecidableEq, Repr

/-- The light block. -/
structure Light where
  /-- the LASER_EN contact is high (R491) -/
  laserEn : Bool := false
  /-- lasers off under DARK, or by a fall of LASER_EN; and whether a fall put them off (R491) -/
  dark : Bool := false
  byFall : Bool := false
  /-- the start-up sequence runs -/
  running : Bool := false
  /-- lost lines, 48 k + n for line n of comb die k (R283) -/
  lost : List Nat := []
  /-- pilot checks due or under way, oldest first; the oldest of a converter is under way -/
  checks : List Nat := []
  recov : List Recovery := []
  /-- the redistribution switch is settling (R285) -/
  switching : Bool := false
  deriving DecidableEq, Repr

/-- A period of an accumulator: sum, count, trackers, and the conversion it began with. -/
structure AccSum where
  since : Nat := 0
  sum : Int := 0
  count : Nat := 0
  mn : Nat := 0xFFF
  mx : Nat := 0
  deriving DecidableEq, Repr

/-- A period that has ended at a frame boundary and waits for its latch; `valid`: R297. -/
structure AccEnd where
  acc : AccSum
  valid : Bool
  deriving DecidableEq, Repr

/-- An accumulator. -/
structure Acc where
  cur : AccSum := {}
  /-- a one-shot has begun, and latches at this frame -/
  until_ : Option Nat := none
  ended : Option AccEnd := none
  deriving DecidableEq, Repr

/-- A converter: requests that take effect at the next frame boundary, the state a calibration returns to, and the number after
the last conversion it did not make. -/
structure Converter where
  start : Bool := false
  stop : Bool := false
  cal : Bool := false
  back : Nat := 1
  gap : Nat := 0
  deriving DecidableEq, Repr

/-- R302 to R305: a trim channel: the code and range in force, and the range-change hold. -/
structure Trim where
  code : Nat := 0
  x2 : Bool := false
  parked : Bool := true
  /-- pending CODE, RANGE and EN during a range-change hold -/
  hold : Option (Nat × Bool × Bool) := none
  /-- the dither has been clamped in the present frame, and was in the last one -/
  clampNow : Bool := false
  clampLast : Bool := false
  deriving DecidableEq, Repr

/-- Monitor converters and trim DACs. -/
structure Mon where
  /-- conversions made since power-on reset: the next is conversion `k` -/
  k : Nat := 0
  conv : NMap Converter := []
  /-- by 128 m + a -/
  acc : NMap Acc := []
  trim : NMap Trim := []
  /-- converters that ostler firmware still has to calibrate, one at a time (R301) -/
  calQueue : List Nat := []
  deriving DecidableEq, Repr

/-- A loop's own state beside its entry. -/
structure LoopSt where
  /-- it has executed in the present frame -/
  ran : Bool := false
  /-- no execution since START, or since FREEZE cleared -/
  first : Bool := true
  /-- PSEQ used last by input A, input B and the set-point source -/
  pseq : List Nat := []
  /-- R331: executions in a row with FECNT 0 -/
  clean : Nat := 0
  /-- R331: its owner has been notified of a fault, and has not cleared it -/
  notified : Bool := false
  deriving DecidableEq, Repr

/-- The rein engine. -/
structure Rein where
  loops : NMap LoopSt := []
  /-- outputs of the present frame, by loop: the loop word, and the value for its destination -/
  buf : NMap (Nat × Nat) := []
  /-- codes of the stall phase actuators, by 256 s + q -/
  act : NMap Nat := []
  /-- banks that start at the next frame boundary -/
  starting : List Nat := []
  /-- R310: loops whose fault awaits the fault phase of the frame, with the following error as a loop word -/
  faults : List (Nat × Nat) := []
  /-- stages whose exponent would exceed 127, by loop and stage: event 0x7004 at the fault phase -/
  grown : List (Nat × Nat) := []
  deriving DecidableEq, Repr

/-- A stall's or port's calibration sets (R338): five points, and residuals in force and in the store, by field. -/
structure CalSet where
  range : Nat := 0
  points : List (NMap Int) := []
  resid : NMap Int := []
  stored : NMap Int := []
  changed : Bool := false
  /-- R352: its check failed at start-up, and it has not been written since -/
  bad : Bool := false
  /-- R352: the points as the store holds them, while a first accepted run stands in for them -/
  storedPoints : Option (List (NMap Int)) := none
  deriving DecidableEq, Repr

/-- The farrier's record of a stall. -/
structure FarStall where
  set : CalSet := {}
  /-- queued for a run, for a re-interpolation -/
  run : Bool := false
  reint : Bool := false
  /-- the run was asked for by ostler firmware -/
  asked : Bool := false
  /-- its last or present cause was temperature -/
  byTemp : Bool := false
  /-- its next run writes the string range (R350) -/
  rangeDue : Bool := true
  /-- it has taken corrections since power-on reset -/
  written : Bool := false
  deriving DecidableEq, Repr

/-- The work in progress on a stall. -/
structure FarWork where
  stall : Nat
  reint : Bool
  /-- the farrier owns the stall -/
  owns : Bool
  /-- attempt, 1 to 3, and those rejected -/
  attempt : Nat := 1
  /-- TIME at which step 2 of the attempt began -/
  began : W64 := 0
  /-- Tr, the die temperature at the start of step 4, 1/16 °C -/
  tr : Option Int := none
  /-- abandoned under R349; it begins again at step 2 -/
  abandoned : Bool := false
  /-- abandoned as temperature moved: a temperature, and the TIME since which the die has kept within 0.5 K of it -/
  calm : Option (Int × W64) := none
  /-- R344 step 3 has written swept set-points: those in force before -/
  spk : List Nat := []
  deriving DecidableEq, Repr

/-- The farrier's record of a port. -/
structure FarPort where
  /-- lanes queued -/
  queue : List Nat := []
  /-- the lane asked for or released, and its rejected attempts -/
  lane : Option Nat := none
  rejects : Nat := 0
  /-- calibration set, fields 4 j to 4 j + 2 of lane j -/
  set : CalSet := {}
  /-- temperature of each lane's last accepted run -/
  temp : NMap Int := []
  /-- R352: lanes whose first accepted run has given their five points, while the set's check stands failed -/
  redone : List Nat := []
  deriving DecidableEq, Repr

/-- The farrier. -/
structure Far where
  stall : NMap FarStall := []
  port : NMap FarPort := []
  work : Option FarWork := none
  /-- R352: the stored sets have been read since power-on reset -/
  setsRead : Bool := false
  deriving DecidableEq, Repr

/-- The rails (R357, R358, R376, R490). -/
inductive Rails
  | off | precharge | noClock | rising | valid
  deriving DecidableEq, Repr

/-- R374: where a die's trip stands. -/
inductive TripSt
  | none | quiet | checking
  deriving DecidableEq, Repr

/-- A compute die in the power and thermal block. -/
structure Die where
  rate : TripSt := .none
  /-- a die trip by the die's own sensors; stacks of the die that keep it tripped -/
  dieTrip : Bool := false
  stackTrip : List Nat := []
  /-- TIME when the trip began; 0x9004 has been raised for it -/
  since : W64 := 0
  overrun : Bool := false
  /-- stalls whose carrier ring has passed since the quiet period ended, stalls done -/
  passed : List Nat := []
  done : List Nat := []
  /-- sheds and shunters that a die trip has stopped, for ostler firmware to start again (R376) -/
  sheds : List Nat := []
  shus : List Nat := []
  deriving DecidableEq, Repr

/-- Power and thermal. -/
structure Pwr where
  rails : Rails := .precharge
  /-- shed demand of the package power loop, 1/256 -/
  u : Nat := 0
  /-- forced demand: undervoltage, overcurrent -/
  forceUv : Bool := false
  forceOc : Bool := false
  /-- R377: PWR_PBCFG, PWR_LIMIT, PWR_PBFIX and the THM_ settings in force, by address; their registers' reset values where absent -/
  held : NMap W64 := []
  /-- PBUDGET: filtered budget in units of 2^-40 W, and absence -/
  budget : Nat := 0
  absent : Bool := true
  /-- the last sample was one that counts as absent -/
  badSample : Bool := true
  /-- PWR_IN above 74.0 V has been reported -/
  ovWarn : Bool := false
  /-- THRM0 and THRM1: 0 in limits, 1 at the limit, 2 open or short -/
  inlet : Nat := 0
  outlet : Nat := 0
  /-- stalls parked by demand -/
  parked : List Nat := []
  /-- unit below 1 mJ of input energy, in 1/102400 mJ -/
  energyRem : Nat := 0
  /-- sensor readings of the last frames, newest first, by die -/
  hist : NMap (List (List Int)) := []
  die : NMap Die := []
  deriving DecidableEq, Repr

/-- Table 15.4: a send descriptor. -/
structure SendDesc where
  src : Nat := 0
  remote : Nat := 0
  dst : Nat := 0
  cls : Nat := 1
  doneEn : Bool := false
  rsbxEn : Bool := false
  len : Nat := 0
  doneBox : Nat := 0
  rsbx : Nat := 0
  tag : Nat := 0
  deriving DecidableEq, Repr

/-- A data frame sent and not accepted: its place in the transfer, where and when it was sent last, and its resends. -/
structure OutFrame where
  index : Nat
  frame : Nat
  lane : Nat
  resends : Nat
  /-- it waits to be sent again -/
  again : Bool
  deriving DecidableEq, Repr

/-- A transfer in flight at its sender. -/
structure Outgoing where
  num : Nat
  d : SendDesc
  /-- first frame not yet sent -/
  next : Nat
  out : List OutFrame
  deriving DecidableEq, Repr

/-- A transfer arriving. -/
structure Incoming where
  src : Nat
  xfer : Nat
  nframes : Nat
  got : List Nat
  rsbx : Nat
  deriving DecidableEq, Repr

/-- An answer owed to a sender. -/
structure AckOwed where
  dst : Nat
  entry : AckEntry
  deriving DecidableEq, Repr

/-- R407, R409: a lane's service in a direction changes at a lane frame. -/
structure MaskChange where
  frame : Nat
  lane : Nat
  rx : Bool
  on : Bool
  /-- why it leaves service (Table 15.9) -/
  cause : Nat
  deriving DecidableEq, Repr

/-- What a port knows of another member: when it was heard last, and its lane masks. -/
structure Heard where
  at_ : Nat := 0
  tx : Nat := 0xFFFFFFFF
  rx : Nat := 0xFFFFFFFF
  deriving DecidableEq, Repr

/-- R400: a C0 frame sent to one member and not acknowledged, the lane frame it was sent in, and its resends. -/
structure OutC0 where
  f : C0Frame
  frame : Nat
  resends : Nat
  /-- it waits to be sent again -/
  again : Bool
  deriving DecidableEq, Repr

/-- R394: a reservation record: the slot it goes in, and what it carries. -/
structure ResRecord where
  slot : Nat
  herd : Nat
  frame : Nat
  epoch : Nat
  req : ResReq
  deriving DecidableEq, Repr

/-- A Droveway port. -/
structure Port where
  sq : List SendDesc := []
  flight : List Outgoing := []
  nextXfer : Nat := 0
  incoming : List Incoming := []
  acks : List AckOwed := []
  /-- transfers received whole, newest first (R392) -/
  doneIn : List (Nat × Nat) := []
  /-- C0 frames queued by ostler firmware, those the port makes itself, and those sent and not acknowledged -/
  c0tx : List C0Frame := []
  c0hw : List C0Frame := []
  c0out : List OutC0 := []
  /-- lane frames begun (point-to-point), or the star frame number -/
  frame : Nat := 0
  /-- what the last lane frame put on the lanes -/
  air : List DataFrame := []
  c0air : List C0Frame := []
  changes : List MaskChange := []
  /-- lane released to the farrier, and whether the farrier has returned it -/
  released : Option Nat := none
  returned : Bool := false
  heard : NMap Heard := []
  /-- star lanes granted to this member: frame and lanes -/
  grants : List (Nat × List Nat) := []
  /-- as leader: requests not met, and the member served first in the last frame -/
  unmet : List ResReq := []
  served : Nat := 15
  /-- reservation: consecutive failures, and the frames of a backoff still to wait -/
  fails : Nat := 0
  backoff : Option Nat := none
  capRaised : Bool := false
  /-- a receive lane's last 64 lane frames, newest first: the frame, its uncorrectable codewords and corrected symbols (R406) -/
  laneHist : NMap (List (Nat × Nat × Nat)) := []
  /-- R408: TIME at which a lane was dropped on its errors or probed last, by 2 j, and 2 j + 1 for reception; transmit lanes being probed, and the
  frame in which each probe began -/
  probedAt : NMap W64 := []
  probing : List (Nat × Nat) := []
  /-- other members' masks announced and not yet in force: frame, index, transmit mask, receive mask (R407) -/
  maskNext : List (Nat × Nat × Nat × Nat) := []
  /-- previous epoch and the last frame it is accepted in; the frame the epoch in force began in; the next epoch, the frame it takes effect in, and
  why; the frame of the next one is set when its first KEY frame is sent -/
  oldEpoch : Option (Nat × Nat) := none
  epochAt : Nat := 0
  newEpoch : Option (Nat × Option Nat × Nat) := none
  /-- R388: why the leader opens further epochs once the one announced is in force -/
  laterEpochs : List Nat := []
  /-- R387: the herd keys that the tack room has written into the sealing engines, by epoch -/
  keys : List (Nat × W256) := []
  /-- R403: the challenges put to the other side, by its index, 16 to whoever leads; and whether the leader's report has been verified -/
  challenge : NMap (List Nat) := []
  vouched : Bool := false
  /-- R395: the loop delay measured last, in D-cycles -/
  loop : Option Nat := none
  /-- R396: the reservation records of this star frame -/
  resAir : List ResRecord := []
  /-- R399: frames for which a would-be leader stays silent -/
  silence : Nat := 0
  /-- a change of leader to come: frame and index -/
  newLeader : Option (Nat × Nat) := none
  /-- suspensions to come: frame and index -/
  suspendAt : List (Nat × Nat) := []
  /-- events 0xA008 and 0xA00A: TIME of the last one, and the strangers counted since -/
  strangerAt : Option W64 := none
  strangers : Nat := 0
  winAt : Option W64 := none
  /-- the port went down for lack of lanes or light and restarts by itself (R408) -/
  wasDown : Bool := false
  /-- receive windows in effect (R411): base, size in bytes, CTL -/
  win : NMap (Nat × Nat × Nat) := []
  deriving DecidableEq, Repr

/-- The Droveway: ports, and the herd's roster of device identities by index (R402). -/
structure Drove where
  port : NMap Port := []
  roster : NMap Nat := []
  deriving DecidableEq, Repr

/-- R450: a firmware image in a slot: header, signature block and body, as bytes. -/
structure Image where
  hdr : List Nat := []
  sig : List Nat := []
  body : List Nat := []
  deriving DecidableEq, Repr

/-- R451, R452: the two slots of a kind of image. -/
structure Slots where
  primary : Option Image := none
  second : Option Image := none
  trial : Bool := false
  deriving DecidableEq, Repr

/-- R463: a request waiting for the signer: an ATTEST command of a channel, or an admission on a port (`chan` 4 + p); its challenge, and for
an admission the ephemeral key and the other side's claimed index. -/
structure SignReq where
  chan : Nat
  cmd : Nat
  purpose : Nat
  nonce : List Nat
  eph : List Nat
  off : Nat
  idx : Nat := 0
  deriving DecidableEq, Repr

/-- The tack room: fuses, the non-volatile store's contents it keeps, and the signer. -/
structure Tack where
  secret : Nat := 0
  fwRootEc : Nat := 0
  fwRootHss : Nat := 0
  mfgRootEc : Nat := 0
  mfgRootHss : Nat := 0
  debugLock : Bool := true
  tkf : Slots := {}
  osf : Slots := {}
  owner : Option (List Nat) := none
  /-- publisher keys by slot -/
  keys : NMap (List Nat) := []
  /-- what the device certificate says beside its keys: SERIAL and ISSUED (R455) -/
  serial : Nat := 0
  issued : Nat := 0
  /-- R453: the target of a ROLLBACK_COMMIT whose fuses are being blown -/
  blowing : Option Nat := none
  /-- the two copies of Q_RES that read valid -/
  resA : Option Nat := some 0
  resB : Option Nat := some 0
  /-- the successor of the current lower tree is built -/
  nextBuilt : Bool := false
  /-- reservation writes made so far, and boots, each of which writes the store once (R459) -/
  nvWrites : Nat := 0
  signs : List SignReq := []
  /-- event 0xC006 has been raised -/
  lowRaised : Bool := false
  /-- boot: the ROM has stopped; recovery (R451) -/
  romStop : Bool := false
  recovery : Bool := false
  /-- the running images -/
  runTkf : Option Image := none
  runOsf : Option Image := none
  /-- events of a boot, raised once the event log is reachable -/
  bootEvents : List (Nat × Nat) := []
  deriving DecidableEq, Repr

/-- What outlives a reset beside memory: the ostler's store. -/
structure Store where
  /-- soft rows by 64 d + b: the rows that soft rows have taken, in order -/
  softRows : NMap (List Nat) := []
  retired : List Nat := []
  /-- the soft repairs of HBM and DDR5, as `Integ.repairsUsed` holds them -/
  repairs : List (Nat × Nat) := []
  deriving DecidableEq, Repr

/-- Start-up and resets. -/
structure Sys where
  /-- the boot has released the ostler -/
  ostlerUp : Bool := false
  /-- branches of Table 18.1 that have ended -/
  memDone : Bool := false
  lightDone : Bool := false
  /-- R301, R466: the light sequence waits for the self-calibrations of start-up: what its comb dies and sweeps will show -/
  lightDue : Option (Bool × Bool × List RingSweep) := none
  /-- TIME at rail valid, or at the last reset -/
  startTime : W64 := 0
  /-- the last reset was a package reset -/
  pkg : Bool := false
  /-- TIME of each ostler restart since the last reset of either kind -/
  restarts : List W64 := []
  /-- TIME of the last package reset caused by escalation (R472) -/
  escalated : Option W64 := none
  /-- TIME of the last write of EVT_WDOG.KICK, or of the ostler's start -/
  kick : W64 := 0
  /-- held in reset after a second escalation -/
  held : Bool := false
  /-- a package trip has the rails off -/
  tripped : Bool := false
  /-- the ostler is being restarted: its cause; the address of an ostler memory error -/
  restarting : Option Nat := none
  memErr : Nat := 0
  /-- known-answer tests passed: stalls, sheds -/
  katStall : List Nat := []
  katShed : List Nat := []
  /-- ostler firmware has started since the last reset; it has applied its store since power-on (R235) -/
  began : Bool := false
  applied : Bool := false
  /-- an ostler trial image waits for READY -/
  trialDue : Bool := false
  store : Store := {}
  deriving DecidableEq, Repr
/-- An increment on its way to a signal box (R111, R164, R175, R393). -/
structure SbxInc where
  die : Nat
  box : Nat
  inc : Nat
  deriving DecidableEq, Repr

/-- The device. Registers whose home is another field are computed when they are read (Machine/View.lean). -/
structure State where
  /-- commands waiting, first in, first out -/
  pending : List Instr := []
  /-- R17: the 64-bit count at 1 GHz -/
  time : W64 := 0
  /-- the model's own: how many free values have been drawn -/
  freeCtr : Nat := 0
  /-- register values by address; an unlisted address reads as its Reset column -/
  regs : NMap W64 := []
  bus : Bus := {}
  ev : EvLog := {}
  /-- increments on their way to signal boxes -/
  sbxFlight : List SbxInc := []
  stall : NMap Stall := []
  shed : NMap Shed := []
  /-- shunters by 24d + j -/
  shu : NMap Shunter := []
  /-- sidings by 256d + i -/
  sid : NMap Siding := []
  mem : Mem := {}
  integ : Integ := {}
  tier : Tier := {}
  loft : Loft := {}
  serve : Serve := {}
  /-- host channels -/
  host : NMap HChan := []
  light : Light := {}
  mon : Mon := {}
  rein : Rein := {}
  far : Far := {}
  pwr : Pwr := {}
  drove : Drove := {}
  tack : Tack := {}
  sys : Sys := {}
  /-- R440: event classes copied into the event rings -/
  evtFilter : Nat := 0xFFFF
  deriving DecidableEq, Repr

/-- Why a step stops with a fault. No meaning of this model raises one: the constructor is kept so that the type is
inhabited. Raised by: nothing. Safe. -/
inductive Fault
  | none
  deriving DecidableEq, Repr

/-- Why a step is refused. -/
inductive Refusal
  /-- Raised by the dispatch for a command that has no meaning yet. Safe: the machine stops. -/
  | notModelled (mnemonic : String)
  deriving DecidableEq, Repr

/-- The device after power-on reset: every register at its Reset column, no command waiting. -/
def State.reset : State := {}

end Sys2Proof.Machine
end

