-- ==== Sys2Proof/Machine/Ops.lean ====
section
/-! DEFINITION. The named operations every meaning is built from: registers and their fields, events, free values,
signal boxes, and the records of the units. -/
namespace Sys2Proof.Machine

/-- A step's ordinary end. -/
abbrev Res := Host.Outcome State Fault Refusal

/-- The value held for the register at `addr`. -/
def rdReg (s : State) (addr : Nat) : W64 := nmGet regReset s.regs addr

/-- Set the value held for the register at `addr`. -/
def wrReg (s : State) (addr : Nat) (v : W64) : State := { s with regs := nmPut regReset s.regs addr v }

/-- A value with bits `lo + len - 1 .. lo` replaced. -/
def insBits (v : W64) (lo len x : Nat) : W64 :=
  let m : W64 := (BitVec.ofNat 64 (2 ^ len - 1)) <<< lo
  (v &&& ~~~m) ||| ((BitVec.ofNat 64 x <<< lo) &&& m)

/-- A field of the register of window `w` and indices `i`, `k`. -/
def getF (s : State) (f : Field) (w : Nat := 0) (i : Nat := 0) (k : Nat := 0) : Nat :=
  bitsOf (rdReg s (f.reg.addr w i k)).toNat f.lo f.len

/-- R377: a field of a setting of the power and thermal block as it is in force. -/
def inForce (s : State) (f : Field) : Nat := bitsOf (nmGet regReset s.pwr.held (f.reg.addr 0 0 0)).toNat f.lo f.len

/-- Hardware sets a field. -/
def setF (s : State) (f : Field) (x : Nat) (w : Nat := 0) (i : Nat := 0) (k : Nat := 0) : State :=
  wrReg s (f.reg.addr w i k) (insBits (rdReg s (f.reg.addr w i k)) f.lo f.len x)

/-- Hardware adds to a counter field, which saturates. -/
def bumpF (s : State) (f : Field) (n : Nat) (w : Nat := 0) (i : Nat := 0) (k : Nat := 0) : State :=
  setF s f (min (2 ^ f.len - 1) (getF s f w i k + n)) w i k

/-- Hardware adds to a field that counts modulo its width. -/
def addF (s : State) (f : Field) (n : Nat) (w : Nat := 0) (i : Nat := 0) (k : Nat := 0) : State :=
  setF s f ((getF s f w i k + n) % 2 ^ f.len) w i k

/-- R17, R501: a unit raises an event; its record starts on its way to the event log. -/
def raiseEv (s : State) (code unit addr detail : Nat) (nested : Bool := false) : State :=
  { s with ev := { s.ev with inFlight := s.ev.inFlight ++
      [{ time := s.time, code := code, unit := unit, nested := nested, afterLoss := false, addr := addr, detail := detail }] } }

/-- R22: the UNIT of an event: block index and instance number. -/
def unitOf (blk inst : Nat) : Nat := blk * 256 + inst

/-- Draw number for a free value: the present count. -/
def drawn (s : State) : State := { s with freeCtr := s.freeCtr + 1 }

/-- A packed DETAIL: values with their lowest bits. -/
def packDetail : List (Nat × Nat) → Nat
  | [] => 0
  | (lo, v) :: t => v * 2 ^ lo + packDetail t

/-- R177: an increment starts on its way to box `box` of die `die`. -/
def sendSbx (s : State) (die box inc : Nat) : State :=
  { s with sbxFlight := s.sbxFlight ++ [⟨die, box, inc⟩] }

/-- R177: a box has reached `v` when (count − v) mod 2^32 is below 2^31. -/
def sbxAt (s : State) (die box v : Nat) : Bool :=
  decide ((getF s Fld.SBX_CNT_COUNT die box + 2 ^ 32 - v % 2 ^ 32) % 2 ^ 32 < 2 ^ 31)

/-- R241: while ECC_OHOLD.HOLD is set a wait on a signal box stays unsatisfied. -/
def sbxReached (s : State) (die box v : Nat) : Bool :=
  getF s Fld.ECC_OHOLD_HOLD == 0 && sbxAt s die box v

/-- R10: an access of a requester to a register releases its latch and discards its held half (DEDUCED: log entry 73). -/
def busForget (s : State) (req : Requester) (addr : Nat) : State :=
  let keep (h : HalfHold) : Bool := !(h.req == req && h.addr == addr)
  { s with bus := { s.bus with held := s.bus.held.filter keep, latched := s.bus.latched.filter keep } }

/-- The record of stall `k`. -/
def getStall (s : State) (k : Nat) : Stall := nmGet (fun _ => {}) s.stall k

/-- Replace the record of stall `k`. -/
def putStall (s : State) (k : Nat) (x : Stall) : State := { s with stall := nmPut (fun _ => {}) s.stall k x }

/-- Ostler firmware runs. -/
def firmwareRuns (s : State) : Bool := s.sys.ostlerUp && s.sys.restarting.isNone

end Sys2Proof.Machine
end

