-- ==== Sys2Proof/Machine/MemBase.lean ====
section
/-! DEFINITION. Where an address lies (Table 0.3, R152, R196 to R199), what memory stores there, and how a byte or burst reads
through its code (R219, R223). -/
namespace Sys2Proof.Machine

/-- Where an address lies (Table 0.3). -/
inductive Region
  | manger (die bank : Nat)
  | control
  | hbm (stack : Nat)
  | ddr (chan : Nat)
  | outside
  deriving DecidableEq, Repr

/-- Table 0.3, R152, R196, R198. -/
def regionAt (a : Nat) : Region :=
  if a < 0x40000000 then .manger (a / 0x10000000) (a / 0x400000 % 64)
  else if 0x80000000 ≤ a ∧ a < 0x90000000 then .control
  else if 0x1000000000 ≤ a ∧ a < 0x7000000000 then .hbm ((a - 0x1000000000) / 0xC00000000)
  else if 0x10000000000 ≤ a ∧ a < 0x40000000000 then .ddr ((a - 0x10000000000) / 512 % 12)
  else .outside

/-- R243: the region number of the grooms and fills. -/
def Region.number : Region → Nat
  | .manger d _ => d
  | .hbm k => 4 + k
  | .ddr c => 12 + c
  | _ => 0

/-- The groom of a region. -/
def Region.groom : Region → Nat
  | .manger d b => 64 * d + b
  | .hbm k => 256 + k
  | .ddr c => 264 + c
  | _ => 0

/-- The tier code of Table 8.8. -/
def Region.tier : Region → Nat
  | .manger _ _ => 0
  | .hbm _ => 1
  | _ => 2

/-- The manger bank of an event's DETAIL, else 0. -/
def Region.bank : Region → Nat
  | .manger _ b => b
  | _ => 0

/-- R243: UNIT of the integrity events. -/
def Region.unit (r : Region) : Nat := unitOf 3 r.number

/-- The line code of a region outside the mangers. -/
def Region.line : Region → Line
  | .ddr _ => .ddr
  | _ => .hbm

/-- The offset that the address symbols are formed from (R222). -/
def lineOffset (a : Nat) : Nat :=
  match regionAt a with
  | .hbm k => a - (0x1000000000 + k * 0xC00000000)
  | _ => a - 0x10000000000

/-- States of HBM_STATUS and DDR_STATUS (Table 7.6). -/
def tierReady : Nat := 0
def tierTraining : Nat := 1
def tierOffline : Nat := 2
def tierAbsent : Nat := 3

/-- STATE of a stack (unit 0–7) or channel (unit 8–19). -/
def unitState (s : State) (u : Nat) : Nat :=
  if u < 8 then getF s Fld.HBM_STATUS_STATE u else getF s Fld.DDR_STATUS_STATE (u - 8)

/-- Set STATE of a stack or channel. -/
def setUnitState (s : State) (u v : Nat) : State :=
  if u < 8 then setF s Fld.HBM_STATUS_STATE v u else setF s Fld.DDR_STATUS_STATE v (u - 8)

/-- R199, R229: whether an access to an address is served: its bank, stack or channel is in service and the address is populated. -/
def reachable (s : State) (a : Nat) : Bool :=
  match regionAt a with
  | .manger d b => !bitOf (getF s Fld.MGR_OFFLINE_OFF d) b
  | .hbm k => unitState s k == tierReady
  | .ddr c => unitState s (8 + c) == tierReady && decide (a < getF s Fld.DDR_TOP_TOP)
  | _ => false

/-- Table 14.10: a DDR5 channel with a module above its limit accepts no request of the classes C1 to C3. -/
def accepts (s : State) (a cls : Nat) : Bool :=
  match regionAt a with
  | .ddr c => cls == 0 || !s.tier.overLimit.contains c
  | _ => true

/-- R258, R376: whether requests of a class are accepted all over a range. -/
def rangeAccepts (s : State) (a n cls : Nat) : Bool :=
  (List.range (min 12 ((a + n - 1) / 512 - a / 512 + 1))).all (fun i => accepts s (a + 512 * i) cls)

/-- The stored data byte. -/
def rawByte (s : State) (a : Nat) : Nat := (nmGet (fun _ => 0) s.mem.bytes a).toNat

/-- Store a data byte as it is. -/
def setRawByte (s : State) (a v : Nat) : State :=
  { s with mem := { s.mem with bytes := nmPut (fun _ => 0) s.mem.bytes a (BitVec.ofNat 8 v) } }

/-- The syndrome of a manger byte. -/
def byteSynd (s : State) (a : Nat) : Nat := nmGet (fun _ => 0) s.mem.synd a
def setByteSynd (s : State) (a v : Nat) : State := { s with mem := { s.mem with synd := nmPut (fun _ => 0) s.mem.synd a v } }

/-- The deviation of a burst's check symbols. -/
def burstDev (s : State) (a : Nat) : Nat := nmGet (fun _ => 0) s.mem.dev a
def setBurstDev (s : State) (a v : Nat) : State := { s with mem := { s.mem with dev := nmPut (fun _ => 0) s.mem.dev a v } }

/-- A byte or burst is written in full: pending poison and write-back of it are cancelled (R231). -/
def cancelPending (s : State) (a : Nat) : State :=
  { s with mem := { s.mem with pendPoison := s.mem.pendPoison.filter (· != a), pendFix := s.mem.pendFix.filter (· != a) } }

/-- Write bytes as they are. -/
def setRawBytes (s : State) (a : Nat) : List Nat → State
  | [] => s
  | b :: t => setRawBytes (setRawByte s a b) (a + 1) t

/-- The stored data bytes. -/
def rawBytes (s : State) (a n : Nat) : List Nat := (List.range n).map (fun i => rawByte s (a + i))

/-- The bank of an HBM or DDR5 address, for open rows: unit, pseudo-channel or subchannel and rank, bank (R197, R198). The
module bytes follow from DDR_ID.MODGIB. -/
structure BankAddr where
  unit : Nat
  lane : Nat
  bank : Nat
  row : Nat
  deriving DecidableEq, Repr

/-- R197, R198: the bank and row of an address. For DDR5, `lane` is subchannel + 2 × (rank + nr × slot). -/
def bankAddr (s : State) (a : Nat) : BankAddr :=
  match regionAt a with
  | .hbm k =>
    let o := lineOffset a
    ⟨k, o / 512 % 64, o / 65536 % 64, o / 0x400000⟩
  | _ =>
    let n := (a - 0x10000000000) / 512
    let m := n / 12
    let w := m / 2
    let wpd := getF s Fld.DDR_ID_MODGIB (n % 12) * 0x100000
    let v := if wpd = 0 then w else w % wpd
    let dimm := if wpd = 0 then 0 else w / wpd
    let nr := s.tier.ranks
    ⟨8 + n % 12, m % 2 + 2 * (v / 32 % nr + nr * dimm), v % 8 + 8 * (v / 8 % 4), v / (512 * nr)⟩

/-- R205: a bank as a key. -/
def BankAddr.key (b : BankAddr) : Nat := (b.unit * 64 + b.lane) * 64 + b.bank

/-- R205: a request leaves its bank's row open. -/
def openRowAt (s : State) (a : Nat) : State :=
  let b := bankAddr s a
  { s with tier := { s.tier with openRow := nmPut (fun _ => 0) s.tier.openRow b.key (b.row + 1) } }

/-- R205, R230: the bank of `a` is precharged. -/
def closeRowAt (s : State) (a : Nat) : State :=
  { s with tier := { s.tier with openRow := nmPut (fun _ => 0) s.tier.openRow (bankAddr s a).key 0 } }

/-- R229, R238: whether a window of the 4 KiB page at `p` lies in region `r` (DEDUCED: log entry 235). -/
def pageIn (r : Region) (p : Nat) : Bool := (List.range 8).any (fun i => regionAt (p + 512 * i) == r)

/-- R197, R198: the first byte of the row that holds `a`: column 0 of the 1 KiB or 8 KiB row. -/
def rowFirst (s : State) (a : Nat) : Nat :=
  match regionAt a with
  | .hbm _ =>
    let o := lineOffset a
    a - o % 512 - 0x8000 * (o / 0x8000 % 2)
  | _ =>
    let n := (a - 0x10000000000) / 512
    let wpd := getF s Fld.DDR_ID_MODGIB (n % 12) * 0x100000
    let v := if wpd = 0 then n / 24 else n / 24 % wpd
    let col := v / (32 * s.tier.ranks) % 16
    a - a % 512 - 512 * 24 * (32 * s.tier.ranks * col)

/-- 64 bytes for each burst read or written on a unit's data bus (Table 7.6). -/
def countBus (s : State) (r : Region) (write : Bool) (bursts : Nat) : State :=
  match r, write with
  | .hbm k, false => addF s Fld.HBM_RDBYTES_COUNT (64 * bursts) k
  | .hbm k, true => addF s Fld.HBM_WRBYTES_COUNT (64 * bursts) k
  | .ddr c, false => addF s Fld.DDR_RDBYTES_COUNT (64 * bursts) c
  | .ddr c, true => addF s Fld.DDR_WRBYTES_COUNT (64 * bursts) c
  | _, _ => s

/-- R220, R224: stored poison is written over the byte or burst at `a`. -/
def storePoison (s : State) (a : Nat) : State :=
  match regionAt a with
  | .manger _ _ => cancelPending (setByteSynd (setRawByte s a 0) a 0x1F) a
  | r => countBus (openRowAt (cancelPending (setBurstDev (setRawBytes s a (List.replicate 64 0)) a r.line.poisonDev) a) a) r true 1

/-- How one manger byte reads: its value, and 0 good, 1 corrected, 2 poison, 3 new uncorrectable. -/
def guardByte (s : State) (a : Nat) : Nat × Nat :=
  let d := rawByte s a
  if s.mem.pendPoison.contains a then (d, 2)
  else
    match guardAct (byteSynd s a) with
    | .ok => (d, 0)
    | .fixData i => (d ^^^ 2 ^ i, 1)
    | .fixCheck => (d, 1)
    | .poison => (d, 2)
    | .bad => (d, 3)

/-- How one burst reads: its bytes after correction, its state as for a byte, and the decoder's report. -/
def lineBurst (s : State) (c : Line) (a : Nat) : List Nat × Nat × LineRead :=
  let raw := rawBytes s a 64
  if s.mem.pendPoison.contains a then (raw, 2, .poison)
  else
    let rd := c.decode (burstDev s a)
    match rd with
    | .ok => (raw, 0, rd)
    | .fixed errs => (c.correct raw errs, 1, rd)
    | .poison => (raw, 2, rd)
    | .bad _ _ _ => (raw, 3, rd)

end Sys2Proof.Machine
end

