-- ==== Sys2Proof/Machine/MemOps.lean ====
section
/-! DEFINITION. Shared operations over memory: reads and writes through the codes (R217 to R227), the responses to uncorrectable
errors (R236 to R240), repairs (R234, R235) and the flip mask (R242). -/
namespace Sys2Proof.Machine

/-! Responses to errors. -/

/-- R237: whether a region is in the handling state. -/
def handling (s : State) (r : Region) : Bool :=
  match r with
  | .manger d b => bitOf (getF s Fld.MGR_HND_HND d) b
  | r => getF s Fld.ECC_HND_HND (r.number - 4) == 1

/-- Set or clear the HND bit of a region. -/
def setHandling (s : State) (r : Region) (on : Bool) : State :=
  match r with
  | .manger d b =>
    let v := getF s Fld.MGR_HND_HND d
    setF s Fld.MGR_HND_HND (if bitOf v b = on then v else if on then v + 2 ^ b else v - 2 ^ b) d
  | r => setF s Fld.ECC_HND_HND (b01 on) (r.number - 4)

/-- R237: a region enters the handling state; its period runs from now. -/
def beginHandling (s : State) (r : Region) : State :=
  setHandling { s with integ := { s.integ with hndStart := nmPut (fun _ => 0) s.integ.hndStart r.groom s.time } } r true

/-- R244: an integrity event of a region, NESTED in the handling state (R239). -/
def integEvent (s : State) (r : Region) (code addr detail : Nat) (nested : Bool) : State :=
  raiseEv s code r.unit addr detail nested

/-- Region `r`, now OFFLINE, is noted for what follows in the loft (see `settle`); a manger holds none of it. -/
def noteLost (s : State) (r : Nat) : State :=
  if r < 4 then s else { s with integ := { s.integ with lost := s.integ.lost ++ [r] } }

/-- R238 level 3, R229: a region becomes OFFLINE, for a reason of event 0x3004. -/
def isolate (s : State) (r : Region) (reason : Nat) (nested : Bool) : State :=
  let s :=
    match r with
    | .manger d b =>
      let v := getF s Fld.MGR_OFFLINE_OFF d
      setF s Fld.MGR_OFFLINE_OFF (if bitOf v b then v else v + 2 ^ b) d
    | r => setUnitState s (r.number - 4) tierOffline
  noteLost (integEvent s r 0x3004 0 (packDetail [(0, r.tier), (2, r.bank), (8, reason)]) nested) r.number

/-- R234: whether row `row` of a bank is already redirected to a soft row. -/
def softRow (s : State) (d b row : Nat) : Bool :=
  let v := (rdReg s (Reg.MGR_SOFTMAP.addr d b 0)).toNat
  (List.range 4).any (fun i => bitOf v (16 * i + 15) && bitsOf v (16 * i) 13 == row)

/-- R234: soft rows of a bank neither in use nor promised to a copy. -/
def softLeft (s : State) (d b : Nat) : Nat :=
  4 - getF s Fld.MGR_SPARE_SROWS d b - (s.integ.copies.filter (fun c => c.die == d && c.bank == b)).length

/-- The manger row of an address (R152). -/
def rowOf (a : Nat) : Nat := a / 512 % 8192

/-- The first address of a row of a bank. -/
def rowBase (d b row : Nat) : Nat := d * 0x10000000 + b * 0x400000 + row * 512

/-- A repair copy is asked for. -/
def queueCopy (s : State) (d b row : Nat) : State :=
  { s with integ := { s.integ with copies := s.integ.copies ++ [⟨d, b, row, false⟩] } }

/-- Rows with a repair under way or done are left out (R234, R238). -/
def needsRepair (s : State) (d b row : Nat) : Bool :=
  !softRow s d b row && !s.integ.copies.any (fun c => c.die == d && c.bank == b && c.row == row)

/-- R238 for a manger bank: the level for a new error in row `row`. -/
def mangerResponse (s : State) (d b addr detail : Nat) : State :=
  let r := Region.manger d b
  let row := rowOf addr
  let g := r.groom
  if handling s r then
    let s := integEvent s r 0x3001 addr detail true
    let first := nmGet (fun _ => 0) s.integ.firstRow g
    let rows := (if first = 0 ∨ needsRepair s d b (first - 1) = false then [] else [first - 1]) ++
      (if row + 1 = first ∨ needsRepair s d b row = false then [] else [row])
    if softLeft s d b < rows.length then isolate s r 1 true
    else
      let s := rows.foldl (fun s x => queueCopy s d b x) s
      { s with integ := { s.integ with firstRow := nmPut (fun _ => 0) s.integ.firstRow g 0 } }
  else
    let s := integEvent s r 0x3001 addr detail false
    let s := beginHandling s r
    { s with integ := { s.integ with firstRow := nmPut (fun _ => 0) s.integ.firstRow g (row + 1) } }

/-- R235: the repair resource of an address: one per bank of a pseudo-channel, or per bank group of a subchannel and rank. -/
def repairKey (s : State) (a : Nat) : Nat × Nat :=
  let b := bankAddr s a
  (b.unit, b.lane * 64 + (if b.unit < 8 then b.bank else b.bank % 8))

/-- Table 7.6: requests of a unit that took a non-zero t_ref. -/
def countTRef (s : State) (r : Region) (n : Nat) : State :=
  match r with
  | .hbm k => bumpF s Fld.HBM_REFCOLL_COUNT n k
  | .ddr c => bumpF s Fld.DDR_REFCOLL_COUNT n c
  | _ => s

/-- R235: the requests that wait for the bank of `a` take the repair as t_ref; each request is counted once. -/
def repairWait (s : State) (r : Region) (a : Nat) : State :=
  let hit := fun (q : MemReq) => !q.tRef && (bankAddr s q.addr).key == (bankAddr s a).key
  let s' := countTRef s r (s.tier.queue.filter hit).length
  { s' with tier := { s'.tier with queue := s'.tier.queue.map (fun q => if hit q then { q with tRef := true } else q) } }

/-- The bursts of a row (R197, R198). -/
def rowBursts (r : Region) : Nat := if r.tier = 1 then 16 else 128

/-- R235: the row of `a` is copied to its repair and back; the repairs applied are counted, modulo 256 (DEDUCED: log entry 57;
DESIGN CHOICE: log entry 238). -/
def repairLine (s : State) (r : Region) (a : Nat) : State :=
  let n := rowBursts r
  let s := repairWait { s with integ := { s.integ with repairsUsed := s.integ.repairsUsed ++ [repairKey s a] } } r a
  addF (countBus (countBus s r false n) r true n) Fld.ECC_REPCNT_REPAIRS 1 (r.number - 4)

/-- R244: event 0x3003 for a row of a stack or channel. -/
def lineRepairEvent (s : State) (r : Region) (a : Nat) (nested : Bool) : State :=
  integEvent s r 0x3003 (rowFirst s a) (packDetail [(0, r.tier), (8, (bankAddr s a).row)]) nested

/-- R238 for a stack or channel. -/
def lineResponse (s : State) (r : Region) (addr detail : Nat) (addrFault : Bool) : State :=
  let code := if addrFault then 0x3002 else 0x3001
  if handling s r then
    let s := integEvent s r code addr detail true
    if addrFault then isolate s r 2 true
    else
      let k := repairKey s addr
      if s.integ.repairsUsed.contains k then
        let page := addr / 4096 * 4096
        let ps := if s.integ.retired.contains page then s.integ.retired else s.integ.retired ++ [page]
        let s := { s with integ := { s.integ with retired := ps } }
        if 1024 < (ps.filter (pageIn r)).length then isolate s r 4 true else s
      else
        lineRepairEvent (repairLine s r addr) r addr true
  else beginHandling (integEvent s r code addr detail false) r

/-- Pending poison over failing bytes or bursts (R236). -/
def addPoison (s : State) (as : List Nat) : State :=
  { s with mem := { s.mem with pendPoison := s.mem.pendPoison ++ as.filter (fun a => !s.mem.pendPoison.contains a) } }

/-- R240: correctable errors of a groom's region counted, with the threshold event once per lap. -/
def countCe (s : State) (r : Region) (n : Nat) : State :=
  if n = 0 then s
  else
    let g := r.groom
    let c := nmGet (fun _ => 0) s.integ.ceLap g + n
    let s := { s with integ := { s.integ with ceLap := nmPut (fun _ => 0) s.integ.ceLap g c } }
    let s := match r with
      | .manger d _ => bumpF s Fld.MGR_CE_COUNT n d
      | r => bumpF s Fld.ECC_CE_COUNT n (r.number - 4)
    let thr := match r with
      | .manger d _ => getF s Fld.MGR_CETHR_COUNT d
      | r => getF s Fld.ECC_CETHR_COUNT (r.number - 4)
    if thr ≠ 0 ∧ thr < c ∧ s.integ.ceRaised.contains g = false then
      let s := { s with integ := { s.integ with ceRaised := s.integ.ceRaised ++ [g] } }
      integEvent s r 0x3005 0 (packDetail [(0, r.tier), (2, r.bank), (8, min c (2 ^ 32 - 1))]) (handling s r)
    else s

/-! Reads. -/

/-- What a read of a reachable region returns: the bytes, and which of them are uncorrectable or poisoned. -/
structure MemRead where
  s : State
  bytes : List Nat
  bad : List Bool

/-- Whether a read failed in some byte. -/
def MemRead.failed (r : MemRead) : Bool := r.bad.any id

/-- R219, R226, R227, R236: a read of `n` bytes at `a`, all in one manger bank (DEDUCED: log entry 56). -/
def readManger (s : State) (d b a n : Nat) (groom : Bool) : MemRead :=
  let r := Region.manger d b
  let rs := (List.range n).map (fun i => (a + i, guardByte s (a + i)))
  let bytes := rs.map (fun x => x.2.1)
  let bad := rs.map (fun x => decide (2 ≤ x.2.2))
  let fixed := rs.filter (fun x => x.2.2 == 1)
  let s := countCe s r fixed.length
  let s := if groom then { s with mem := { s.mem with pendFix := s.mem.pendFix ++ fixed.map (·.1) } } else s
  let s := if rs.any (fun x => x.2.2 == 2) then bumpF s Fld.MGR_POISRD_COUNT 1 d else s
  match rs.filter (fun x => x.2.2 == 3) with
  | [] => ⟨s, bytes, bad⟩
  | f :: t =>
    let syn := byteSynd s f.1
    let s := bumpF s Fld.MGR_UE_COUNT 1 d
    let s := setF s Fld.MGR_LASTUE_ADDR f.1 d
    let s := setF (setF s Fld.MGR_LASTSYN_SYN syn d) Fld.MGR_LASTSYN_GROOM (b01 groom) d
    let s := addPoison s (f.1 :: t.map (·.1))
    ⟨mangerResponse s d b f.1 (packDetail [(0, 0), (2, b01 groom), (3, syn)]), bytes, bad⟩

/-- R236: the report of a new uncorrectable error of a stack or channel. -/
def lineUncorrectable (s : State) (r : Region) (as : List Nat) (reports : List LineRead) (groom : Bool) : State :=
  let w := r.number - 4
  let a := as.headD 0
  let af := reports.any (fun x => match x with
    | .bad _ (some _) _ => true
    | _ => false)
  let info := match reports.headD .ok with
    | .bad n sym dv => (n.getD 0xFF, sym.getD 0, dv)
    | _ => (0xFF, 0, 0)
  let lowSym := reports.foldl (fun m x => match x with
    | .bad _ (some i) _ => min m i
    | _ => m) 7
  let s := if af then bumpF s Fld.ECC_AE_COUNT 1 w else bumpF s Fld.ECC_UE_COUNT 1 w
  let s := setF s Fld.ECC_LASTUE_ADDR a w
  let s := setF (setF s Fld.ECC_LASTINFO_NSYM info.1 w) Fld.ECC_LASTINFO_ADDRF (b01 af) w
  let s := setF (setF s Fld.ECC_LASTINFO_GROOM (b01 groom) w) Fld.ECC_LASTINFO_DEVICE info.2.2 w
  let s := addPoison s as
  let detail := if af then packDetail [(0, r.tier), (2, b01 groom), (3, lowSym)]
    else packDetail [(0, r.tier), (2, b01 groom), (8, info.1), (16, if r.tier = 2 then info.2.2 else 0)]
  lineResponse s r a detail af

/-- R223, R226, R227, R236: a read of whole bursts from `a` (64-byte aligned), all in one stack or channel. -/
def readBursts (s : State) (r : Region) (a k : Nat) (groom : Bool) : MemRead :=
  let rs := (List.range k).map (fun i => (a + 64 * i, lineBurst s r.line (a + 64 * i)))
  let bytes := rs.flatMap (fun x => x.2.1)
  let bad := rs.flatMap (fun x => List.replicate 64 (decide (2 ≤ x.2.2.1)))
  let fixed := rs.filter (fun x => x.2.2.1 == 1)
  let s := countCe (countBus s r false k) r fixed.length
  let s := if groom then { s with mem := { s.mem with pendFix := s.mem.pendFix ++ fixed.map (·.1) } } else s
  let s := if rs.any (fun x => x.2.2.1 == 2) then bumpF s Fld.ECC_POISRD_COUNT 1 (r.number - 4) else s
  match rs.filter (fun x => x.2.2.1 == 3) with
  | [] => ⟨s, bytes, bad⟩
  | f :: t => ⟨lineUncorrectable s r (f.1 :: t.map (·.1)) (f.2.2.2 :: t.map (·.2.2.2)) groom, bytes, bad⟩

/-- A read of `n` bytes at `a`, within one 512-byte window of a reachable region; a groom's precharges its bank (R230). What follows in the loft where it takes a region
out of service is left to `settle`. -/
def readAt (s : State) (a n : Nat) (groom : Bool := false) : MemRead :=
  match regionAt a with
  | .manger d b => readManger s d b a n groom
  | r =>
    let base := a / 64 * 64
    let k := (a + n - 1) / 64 - a / 64 + 1
    let m := readBursts (if groom then closeRowAt s a else openRowAt s a) r base k groom
    ⟨m.s, (m.bytes.drop (a - base)).take n, (m.bad.drop (a - base)).take n⟩

/-! Writes. -/

/-- R242: the flip fires: ARMED clears and FIRED sets (DESIGN CHOICE: log entry 8). -/
def fireFlip (s : State) : State :=
  setF (setF { s with integ := { s.integ with flip := none } } Fld.ECC_FLIP_STATUS_ARMED 0) Fld.ECC_FLIP_STATUS_FIRED 1

/-- The settings of the armed flip. -/
def flipSet (s : State) : FlipSet := s.integ.flip.getD ⟨0, 0, 0, 0⟩

/-- Whether the flip is armed. -/
def flipArmed (s : State) : Bool := s.integ.flip.isSome

/-- R218, R231, R242: a manger byte is written; `flip` allows the flip mask. -/
def writeMangerByte (s : State) (a v : Nat) (flip : Bool) : State :=
  let s := cancelPending s a
  if flip && flipArmed s && (flipSet s).addr == a then
    let mask := (flipSet s).mask
    let d := v ^^^ mask % 256
    let chk := guardCheck v (a ^^^ (flipSet s).xor) ^^^ (mask / 256 % 32)
    fireFlip (setByteSynd (setRawByte s a d) a (guardCheck d a ^^^ chk))
  else setByteSynd (setRawByte s a v) a 0

/-- R221, R242: a whole burst is written; the address symbols of an altered address are formed modulo 2^48 (DESIGN CHOICE: log entry 8), and a
symbol index beyond the stored symbols alters none (DESIGN CHOICE: log entry 239). -/
def writeBurst (s : State) (r : Region) (a : Nat) (bytes : List Nat) (flip : Bool) : State :=
  let s := countBus (cancelPending s a) r true 1
  let c := r.line
  if flip && flipArmed s && (flipSet s).addr / 64 == a / 64 then
    let sym := (flipSet s).sym
    let val := (flipSet s).mask % 2 ^ c.m
    let x := a ^^^ (flipSet s).xor
    let base := match r with
      | .hbm k => 0x1000000000 + k * 0xC00000000
      | _ => 0x10000000000
    let off := fun (b : Nat) => (b + 2 ^ 48 - base) % 2 ^ 48
    let addrErr := (List.zip (c.addrSyms (off a)) (c.addrSyms (off x))).map (fun p => p.1 ^^^ p.2)
    let deg := c.symDegree sym
    let stored := decide (sym < c.nStored)
    let dataErr := (List.range c.nData).map (fun j => if stored && deg == c.nData + 7 - j then val else 0)
    let chkErr := (List.range 8).map (fun i => if stored && deg == 7 - i then val else 0)
    let syms := (List.zip (c.dataSyms bytes) dataErr).map (fun p => p.1 ^^^ p.2)
    fireFlip (setBurstDev (setRawBytes s a (c.symBytes syms)) a (c.devOf addrErr dataErr chkErr))
  else setBurstDev (setRawBytes s a bytes) a 0

/-- Bytes under a mask: a written byte replaces the old one. -/
def mergeBytes : List Nat → List (Option Nat) → List Nat
  | _ :: os, some v :: vs => v :: mergeBytes os vs
  | o :: os, none :: vs => o :: mergeBytes os vs
  | os, _ => os

/-- R225, R231: a write of some bytes of the burst at `a`; the second result says that it found the burst uncorrectable or poisoned, which
leaves an armed flip armed (DESIGN CHOICE: log entry 239). -/
def writePartial (s : State) (r : Region) (a : Nat) (vs : List (Option Nat)) : State × Bool :=
  if vs.all (·.isSome) && vs.length == 64 then (writeBurst s r a (vs.map (·.getD 0)) true, false)
  else if vs.all (·.isNone) then (s, false)
  else
    let m := readBursts s r a 1 false
    if m.failed then (addPoison m.s (if burstDev m.s a = r.line.poisonDev then [] else [a]), true)
    else (writeBurst m.s r a (mergeBytes m.bytes vs) true, false)

/-- The next `n` elements of a masked write, padded with bytes not written. -/
def padTake (n : Nat) (vs : List (Option Nat)) : List (Option Nat) := (vs ++ List.replicate n none).take n

/-- Burst by burst from the aligned address `a`. -/
def writeBursts (s : State) (r : Region) (a : Nat) : Nat → List (Option Nat) → State × Bool
  | 0, _ => (s, false)
  | k + 1, vs =>
    let x := writePartial s r a (padTake 64 vs)
    let y := writeBursts x.1 r (a + 64) k (vs.drop 64)
    (y.1, x.2 || y.2)

/-- Byte by byte into a manger. -/
def writeMangerBytes (s : State) (a : Nat) : List (Option Nat) → State
  | [] => s
  | none :: t => writeMangerBytes s (a + 1) t
  | some v :: t => writeMangerBytes (writeMangerByte s a v true) (a + 1) t

/-- A write of masked bytes from `a` up, within one 512-byte window of a reachable region. The second result says that a
partial write of a burst found it uncorrectable or poisoned and had no effect (R225). As for `readAt`, the loft is left to `settle`. -/
def writeAt (s : State) (a : Nat) (vs : List (Option Nat)) : State × Bool :=
  match regionAt a with
  | .manger _ _ => (writeMangerBytes s a vs, false)
  | r =>
    let base := a / 64 * 64
    let pad := List.replicate (a - base) none ++ vs
    writeBursts (openRowAt s a) r base (ceilDiv pad.length 64) pad

end Sys2Proof.Machine
end

