-- ==== Sys2Proof/Machine/Offline.lean ====
section
/-! DEFINITION. Free space of the tiers (R256), and what follows in the loft when a memory region leaves service (R252, R266, R267). -/
namespace Sys2Proof.Machine

/-- The record of a bay. -/
def getBay (s : State) (y : Nat) : Bay := nmGet (fun _ => {}) s.loft.bays y
def putBay (s : State) (y : Nat) (b : Bay) : State :=
  { s with loft := { s.loft with bays := nmPut (fun _ => {}) s.loft.bays y b } }

/-- Table 9.5: the state of a bay. -/
def bayState (s : State) (y : Nat) : Nat := getF s Fld.LFT_BAY_STATUS_STATE 0 y

/-- The tier of an address. -/
def addrTier (a : Nat) : Nat := if a < 0x10000000000 then 1 else 2

/-- R269: the UNIT of the loft's events. -/
def loftUnit : Nat := unitOf 5 0

/-- Event 0x5008: a loft write is refused. `kind` 1 switch, 2 set, 3 refop. -/
def loftRefuse (s : State) (kind y : Nat) : State :=
  let f := if kind = 1 then Fld.LFT_ERR_SWITCH_REFUSED else if kind = 2 then Fld.LFT_ERR_SET_REFUSED else Fld.LFT_ERR_REF_REFUSED
  raiseEv (setF s f 1) 0x5008 loftUnit 0 (packDetail [(0, kind), (2, bayState s y)])

/-- Table 9.9: LFT_BAYx_HBM and LFT_BAYx_DDR take the bytes of the bay's bands. -/
def showBytes (s : State) (y : Nat) (bands : List BandPlace) : State :=
  let sum := fun (tier : Nat) => (bands.filter (fun b => addrTier b.addr == tier)).foldl (fun a b => a + b.bytes) 0
  setF (setF s Fld.LFT_BAY_HBM_BYTES (sum 1) 0 y) Fld.LFT_BAY_DDR_BYTES (sum 2) 0 y

/-- A bay becomes EMPTY; its space is free, and its registers show a bay that holds nothing (DEDUCED: log entry 199). -/
def emptyBay (s : State) (y : Nat) : State :=
  let s := { s with loft := { s.loft with repMism := s.loft.repMism.filter (fun x => x.1 % 2 != y) } }
  putBay (setF (showBytes (setF s Fld.LFT_BAY_STATUS_STATE 0 0 y) y []) Fld.LFT_BAY_VERSION_VERSION 0 0 y) y {}

/-- R260, R261: a write of LFT_REFOP. -/
def refOp (s : State) (y : Nat) (dec : Bool) (n : Nat) : State :=
  if n = 0 then s
  else if dec then
    let r := getF s Fld.LFT_BAY_REFS_REFS 0 y
    let s' := setF s Fld.LFT_BAY_REFS_REFS (r - n) 0 y
    let s' := if r < n then loftRefuse s' 3 y else s'
    if bayState s y = 4 ∧ r ≤ n then raiseEv (emptyBay s' y) 0x5006 loftUnit 0 (packDetail [(0, y)]) else s'
  else if bayState s y = 3 then setF s Fld.LFT_BAY_REFS_REFS (getF s Fld.LFT_BAY_REFS_REFS 0 y + n) 0 y
  else loftRefuse s 3 y

/-- The bands that a bay's sets hold, its adapters' among them. -/
def Bay.bands (b : Bay) : List BandPlace :=
  ((b.set.map (·.bands)).getD []) ++ b.slots.flatMap (fun x => (x.2.map (fun a => a.set.bands)).getD [])

/-- R252: the staging area. -/
def stageBase (s : State) : Nat := getF s Fld.LFT_STAGE_BASE_BASE
def stageBytes (s : State) : Nat := getF s Fld.LFT_STAGE_SIZE_MIB * 1048576

/-- The bands that a build has placed. -/
def buildBands (s : State) : List BandPlace :=
  match s.loft.build with
  | none => []
  | some b => b.set.bands

/-- Whether two ranges share a byte. -/
def overlaps (a n b m : Nat) : Bool := decide (a < b + m) && decide (b < a + n) && n != 0 && m != 0

/-- Ranges of the tiers that bays, the build, copies to be freed, staging, the placement tables, and windows of retired pages outside all of
these take. -/
def loftRanges (s : State) : List (Nat × Nat) :=
  let bands : List BandPlace := (getBay s 0).bands ++ (getBay s 1).bands ++ buildBands s
  let a : List (Nat × Nat) := bands.map (fun b => (b.addr, b.bytes))
  let f : List (Nat × Nat) := s.loft.freeLater.map (fun f => (f.addr, f.bytes))
  let t : List (Nat × Nat) := [0, 1].map (fun y =>
    let n := if s.loft.build.any (fun b => b.bay == y && b.slot.isNone) then (buildBands s).length
      else ((getBay s y).set.map (fun (x : LoftSet) => x.bands.length)).getD 0
    (getF s Fld.LFT_BAY_DESC_ADDR 0 y, 32 * n))
  let l := a ++ f ++ [(stageBase s, stageBytes s)] ++ t
  let p := s.integ.retired.flatMap (fun p => (List.range 8).map (fun i => (p + 512 * i, 512)))
  l ++ p.filter (fun w => l.all (fun r => !overlaps w.1 w.2 r.1 r.2))

/-- All ranges of the tiers in use: those, and session caches. -/
def usedRanges (s : State) : List (Nat × Nat) :=
  let c : List (Nat × Nat) := s.serve.sessions.filterMap (fun x => x.addr.map (fun a => (a, x.bytes)))
  loftRanges s ++ c

/-- Whether a range lies wholly in a tier's space in service (1 HBM, one stack; 2 DDR5). -/
def rangeServed (s : State) (tier a n : Nat) : Bool :=
  if tier = 1 then
    match regionAt a with
    | .hbm k => regionAt (a + n - 1) == .hbm k && unitState s k == tierReady
    | _ => false
  else
    match regionAt a with
    | .ddr _ =>
      decide (a + n ≤ getF s Fld.DDR_TOP_TOP)
        && (List.range (min 12 ((a + n - 1) / 512 - a / 512 + 1))).all (fun i => reachable s (a + 512 * i))
    | _ => false

/-- Bytes of a tier in service. -/
def tierCapacity (s : State) (tier : Nat) : Nat :=
  if tier = 1 then 0xC00000000 * ((List.range 8).filter (fun k => unitState s k == tierReady)).length
  else if (List.range 12).all (fun c => unitState s (8 + c) == tierReady) then getF s Fld.DDR_TOP_TOP - 0x10000000000 else 0

/-- Bytes of a tier in service that those ranges take, session caches apart. -/
def tierUsed (s : State) (tier : Nat) : Nat :=
  (loftRanges s).foldl (fun t x => if addrTier x.1 = tier ∧ reachable s x.1 = true then t + x.2 else t) 0

/-- R256: bytes of a tier reserved for sessions. -/
def tierReserved (s : State) (tier : Nat) : Nat := if tier = 1 then s.serve.resHbm else s.serve.resDdr

/-- R256: free bytes of a tier, the session reservation left out. -/
def tierFree (s : State) (tier : Nat) : Nat :=
  tierCapacity s tier - tierUsed s tier - tierReserved s tier

/-- R256: no tier holds more than its session reservation leaves. -/
def tierHolds (s : State) (tier : Nat) : Bool := decide (tierUsed s tier + tierReserved s tier ≤ tierCapacity s tier)

/-- R256: whether `n` bytes at `a` are free in a tier; `avoid` are further ranges not to be touched. -/
def placeLegal (s : State) (avoid : List (Nat × Nat)) (tier a n : Nat) : Bool :=
  a % 512 == 0 && rangeServed s tier a n && (usedRanges s ++ avoid).all (fun r => !overlaps a n r.1 r.2)

/-- R256: a free place for `n` bytes in a tier, one of `hbms` where the tier is HBM. Which one firmware takes is open: the draw's
choice where it is legal, else the lowest (DESIGN CHOICE: log entry 18). -/
def findPlace (s : State) (avoid : List (Nat × Nat)) (tier : Nat) (hbms : List Nat) (n : Nat) : Option Nat :=
  let ok := fun a => placeLegal s avoid tier a n
      && (tier == 2 || hbms.any (fun k => regionAt a == .hbm k))
  if ok (Config.place s.freeCtr) then some (Config.place s.freeCtr)
  else
    let bases := if tier = 1 then hbms.map (fun k => 0x1000000000 + k * 0xC00000000) else [0x10000000000]
    let ends := (usedRanges s ++ avoid).map (fun r => ceilDiv (r.1 + r.2) 512 * 512)
    (bases ++ ends).foldl (fun best a =>
      if ok a then (match best with
        | none => some a
        | some b => some (min a b)) else best) none

/-- R256 step 2, R211: the stacks a band prefers, its own first; `turn` spreads KIND 1 bands. -/
def BandPlace.stacks (b : BandPlace) (turn : Nat) : List Nat :=
  if b.kind = 1 then (List.range 8).map (fun k => (k + turn) % 8)
  else
    let d := if b.dieMap = 0 then 4 * b.band / b.of_ else b.band % 4
    [2 * d + b.band % 2, 2 * d + (b.band + 1) % 2] ++ (List.range 8).filter (fun k => k / 2 != d)

/-- A place in the first of the stacks that has one. -/
def findStack (s : State) (avoid : List (Nat × Nat)) (hbms : List Nat) (n : Nat) : Option Nat :=
  hbms.findSome? (fun k => findPlace s avoid 1 [k] n)

/-- R206, Table 7.6: a request reaches the controller of `a`; whether it takes a non-zero t_ref is open (UNVERIFIED: log entry 197). -/
def askAt (s : State) (a : Nat) : State :=
  match regionAt a with
  | .manger _ _ => s
  | r => drawn (countTRef s r (b01 (Config.tookRef s.freeCtr)))

/-- R258: general shunter 15 of one die, which one is open, carries a burst of the loft's (DEDUCED: log entry 198). -/
def carryBurst (s : State) : State :=
  drawn (addF s Fld.SHU_BYTES_COUNT 64 (24 * (Config.copyDie s.freeCtr % 4) + 23))

/-- A burst is copied as a reader finds it: corrected, or as stored poison (R226, R236, R258) (DEDUCED: log entry 198). -/
def copyBurst (s : State) (src dst : Nat) : State :=
  let s := carryBurst s
  let m := readAt (askAt s src) src 64
  if m.failed then storePoison m.s dst else (writeAt (askAt m.s dst) dst (m.bytes.map some)).1

/-- A range of bursts is copied. -/
def copyBursts (s : State) (src dst : Nat) : Nat → State
  | 0 => s
  | n + 1 => copyBursts (copyBurst s src dst) (src + 64) (dst + 64) n

/-- R257: a placement table entry. -/
def placeEntry (b : BandPlace) : List Nat :=
  toBytes 6 b.addr ++ toBytes 6 (if b.blk then b.addr + b.scaleOff else 0) ++ toBytes 5 b.ib0
    ++ [if addrTier b.addr = 1 then 0 else 1] ++ List.replicate 6 0 ++ toBytes 4 b.bytes ++ List.replicate 4 0

/-- R257: entry `i` of a bay's placement table is written by one aligned 32-byte write. -/
def writeEntry (s : State) (y i : Nat) (b : BandPlace) : State :=
  let a := getF s Fld.LFT_BAY_DESC_ADDR 0 y + 32 * i
  if reachable s a then (writeAt (askAt s a) a ((placeEntry b).map some)).1 else s

/-- Requests of admitted batches end with a status and reason 3, and leave REFS of their bay (R260) (DEDUCED: log entry 203). -/
def endReqs (s : State) (hit : Batch → Req → Bool) (status : Nat) : State :=
  let gone := fun (b : Batch) (q : Req) => q.ended.isNone && hit b q
  let bs := s.serve.batches
  let s := { s with serve := { s.serve with batches := bs.map (fun b =>
      { b with reqs := b.reqs.map (fun q => if gone b q then { q with ended := some (status, 3), bound := false } else q) }) } }
  bs.foldl (fun s b => refOp s b.bay true (b.reqs.filter (fun q => gone b q && q.bound)).length) s

/-- R267: the requests bound to a bay end with UNREACHABLE (0x000B), reason 3 (R444). -/
def abortBay (s : State) (y : Nat) : State := endReqs s (fun b _ => b.bay == y) 0x000B

/-- R267: a bay becomes FAULTED. `win`: the block-0x03 window of the OFFLINE region. -/
def faultBay (s : State) (y win : Nat) : State :=
  let s := if bayState s y = 3 then setF s Fld.LFT_ACTIVE_VALID 0 else s
  let s := setF s Fld.LFT_BAY_STATUS_STATE 5 0 y
  abortBay (raiseEv s 0x5007 (unitOf 5 0) 0 (packDetail [(0, y), (8, win)])) y

/-- R254: the bay whose build is in progress; an adapter's build is none of a bay's own. -/
def buildingBay (s : State) : Option Nat := [0, 1].find? (fun y => bayState s y == 1)

/-- R266: a build fails: its bay returns to EMPTY, and what it placed and staged is freed. A bay made BUILDING by LFT_BAYx_SET, with no
bundle begun, fails as one whose bundle has begun. -/
def failBuild (s : State) (cause : Nat) (ecdsa hss : Bool) (chunk : Nat) : State :=
  let y := match s.loft.build with
    | some b => some b.bay
    | none => buildingBay s
  match y with
  | none => s
  | some y =>
    let adapter := s.loft.build.any (fun b => b.slot.isSome)
    let s := { s with loft := { s.loft with build := none, staged := s.loft.staged.filter (·.repair) } }
    let s := if adapter then s else emptyBay s y
    let s := setF (setF s Fld.LFT_BUILD_BUSY (b01 (buildingBay s).isSome)) Fld.LFT_BUILD_CAUSE cause
    raiseEv s 0x5003 loftUnit 0 (packDetail [(0, y), (1, cause), (5, b01 ecdsa), (6, b01 hss), (32, chunk)])

/-- Whether a range lies, in part, in region number `r`. -/
def rangeIn (a n r : Nat) : Bool :=
  if r < 12 then decide (regionAt a = .hbm (r - 4))
  else (List.range (min 12 ((a + n - 1) / 512 - a / 512 + 1))).any (fun i => regionAt (a + 512 * i) == .ddr (r - 12))

/-- Whether a band lies, in part, in region number `r`. -/
def bandIn (b : BandPlace) (r : Nat) : Bool := rangeIn b.addr b.bytes r

/-- R252: the highest-numbered stack that is READY. -/
def topReady (s : State) : Option Nat := [7, 6, 5, 4, 3, 2, 1, 0].find? (fun k => unitState s k == tierReady)

/-- R252, R256, R265: a free place for a band in HBM, its own stacks first, or, where it is no adapter's, in DDR5 that takes the copy
(DESIGN CHOICE: log entry 236). -/
def freePlace (s : State) (adapter : Bool) (hbmRoom ddrRoom : Bool) (b : BandPlace) : Option Nat :=
  match (if hbmRoom then findStack s [] (b.stacks 0) b.bytes else none) with
  | some a => some a
  | none => if adapter || !ddrRoom then none else (findPlace s [] 2 [] b.bytes).filter (fun a => rangeAccepts s a b.bytes 3)

/-- R252, R258: a band moves to free space, the staging area counted as taken. -/
def moveBand (s : State) (adapter : Bool) (b : BandPlace) : Option (State × BandPlace) :=
  (freePlace s adapter (tierHolds s 1) (decide (b.bytes ≤ tierFree s 2)) b).map (fun a =>
    (drawn (copyBursts s b.addr a (b.bytes / 64)), { b with addr := a }))

/-- R252: bands of a list that lie in `[base, base + n)` move; `note` records band `i`'s new place. The last result says that one found
no free space. -/
def moveList (base n : Nat) (adapter : Bool) (note : State → Nat → BandPlace → State) :
    State → Nat → List BandPlace → State × Bool
  | s, _, [] => (s, false)
  | s, i, b :: t =>
    if overlaps b.addr b.bytes base n then
      match moveBand s adapter b with
      | some x => moveList base n adapter note (note x.1 i x.2) (i + 1) t
      | none => ((moveList base n adapter note s (i + 1) t).1, true)
    else moveList base n adapter note s (i + 1) t

/-- Band `i` of a bay's set lies at a new place. -/
def noteBand (y : Nat) (s : State) (i : Nat) (b : BandPlace) : State :=
  let bay := getBay s y
  let set := bay.set.map (fun t => { t with bands := listSet t.bands i b })
  writeEntry (showBytes (putBay s y { bay with set := set }) y ((set.map (·.bands)).getD [])) y i b

/-- Band `i` of adapter slot `k` of a bay lies at a new place. -/
def noteSlot (y k : Nat) (s : State) (i : Nat) (b : BandPlace) : State :=
  let bay := getBay s y
  let slot := (nmGet (fun _ => none) bay.slots k).map (fun x => { x with set := { x.set with bands := listSet x.set.bands i b } })
  putBay s y { bay with slots := nmPut (fun _ => none) bay.slots k slot }

/-- R252: bands of a bay, its adapters' among them, that lie in `[base, base + n)` move to free space; a bay with a band that finds none
is faulted. -/
def moveBands (s : State) (y base n win : Nat) : State :=
  let bay := getBay s y
  let x := moveList base n false (noteBand y) s 0 ((bay.set.map (·.bands)).getD [])
  let x := bay.slots.foldl (fun (x : State × Bool) e =>
    let z := moveList base n true (noteSlot y e.1) x.1 0 ((e.2.map (·.set.bands)).getD [])
    (z.1, x.2 || z.2)) x
  if x.2 && [2, 3, 4].contains (bayState x.1 y) then faultBay x.1 y win else x.1

/-- R252: staging is placed at the top of the highest-numbered READY stack. -/
def placeStaging (s : State) (win : Nat) : State :=
  match topReady s with
  | none => s
  | some k =>
    let n := stageBytes s
    let base := 0x1000000000 + (k + 1) * 0xC00000000 - n
    let s := setF s Fld.LFT_STAGE_BASE_BASE base
    moveBands (moveBands s 0 base n win) 1 base n win

/-- R266: band `i` of a set being built is placed again, in HBM only where it is an adapter's (R265); its chunk is to be copied again. -/
def replaceBand (s : State) (bd : Build) (i : Nat) (band : BandPlace) : Option (State × Build) :=
  (freePlace s bd.slot.isSome (decide (band.bytes ≤ tierFree s 1)) (decide (band.bytes ≤ tierFree s 2)) band).map (fun a =>
    let b := { band with addr := a }
    let back := bd.copied.filter (fun c => (bd.set.chunks[c]?).all (fun ch =>
      !(ch.tensor == band.tensor && decide (ch.first ≤ band.band) && decide (band.band < ch.first + ch.n))))
    let bd := { bd with set := { bd.set with bands := listSet bd.set.bands i b }, copied := back }
    let s := setF (drawn { s with loft := { s.loft with build := some bd } }) Fld.LFT_BCHUNKS_DONE back.length
    (if bd.slot.isSome then s else writeEntry (showBytes s bd.bay bd.set.bands) bd.bay i b, bd))

/-- R266: bands of a set being built that lay in a region now OFFLINE are placed again, or the build fails with cause 11. -/
def replaceBuild (s : State) (r : Nat) : State :=
  match s.loft.build with
  | none => s
  | some b =>
    let step := fun (x : State × Option Build) (i : Nat) =>
      match x.2 with
      | none => x
      | some bd =>
        match bd.set.bands[i]? with
        | none => x
        | some band =>
          if !bandIn band r then x
          else
            match replaceBand x.1 bd i band with
            | some y => (y.1, some y.2)
            | none => (x.1, none)
    let x := (List.range b.set.bands.length).foldl step (s, some b)
    match x.2 with
    | none => failBuild x.1 11 false false 0
    | some _ => x.1

/-- R477 class 0x3: requests of sessions whose cache lay in the region end UNREACHABLE, and the cache is gone (DEDUCED: log entry 82). -/
def loseCaches (s : State) (r : Nat) : State :=
  let gone := fun (x : Session) => match x.addr with
    | none => false
    | some a => rangeIn a x.bytes r
  let ids := (s.serve.sessions.filter gone).map (·.id)
  endReqs { s with serve := { s.serve with
    sessions := s.serve.sessions.map (fun x => if gone x then { x with tokens := 0, gen := 0, lost := true, addr := none } else x) } }
    (fun _ q => ids.contains q.session) 0x000B

/-- R267, R252, R266: region `r` (4 + s for stacks, 12 + c for channels) has become OFFLINE. -/
def offlineHook (s : State) (r : Nat) : State :=
  let s := [0, 1].foldl (fun s y =>
    if [2, 3, 4].contains (bayState s y) && (getBay s y).bands.any (fun b => bandIn b r) then faultBay s y r else s) s
  let s := loseCaches s r
  let stageGone := decide (r < 12) && decide (regionAt (stageBase s) = .hbm (r - 4))
  if stageGone then
    let s := failBuild s 11 false false 0
    let s := { s with loft := { s.loft with staged := [] } }
    placeStaging (setF s Fld.TCK_STATUS_INBOX_BUSY 0) r
  else replaceBuild s r

/-- The regions noted are met one after the other; a copy made for one may find another to be lost. -/
def settleN : Nat → State → State
  | 0, s => s
  | n + 1, s =>
    match s.integ.lost with
    | [] => s
    | r :: t => settleN n (offlineHook { s with integ := { s.integ with lost := t } } r)

/-- What follows from the regions that a command has taken OFFLINE: at most the twenty stacks and channels. -/
def settle (s : State) : State := settleN 20 s

/-! Reads and writes as their requesters make them. -/

/-- A read of `n` bytes at `a`, within one 512-byte window of a reachable region, and what follows from it. -/
def memRead (s : State) (a n : Nat) (groom : Bool := false) : MemRead :=
  let m := if groom then readAt s a n true else readAt (askAt s a) a n
  { m with s := settle m.s }

/-- A write of masked bytes from `a` up, and what follows from it. -/
def memWrite (s : State) (a : Nat) (vs : List (Option Nat)) : State × Bool :=
  let w := writeAt (askAt s a) a vs
  (settle w.1, w.2)

/-- A write of whole bytes. -/
def memWriteBytes (s : State) (a : Nat) (bs : List Nat) : State × Bool := memWrite s a (bs.map some)

/-- A range of bursts is copied, and what follows from it. -/
def copyRange (s : State) (src dst n : Nat) : State := settle (copyBursts s src dst n)

end Sys2Proof.Machine
end

