-- ==== Sys2Proof/Machine/IntegrityOps.lean ====
section
/-! DEFINITION. Shared operations of the integrity block and the memory tiers: grooms and laps (R230 to R232), soft repairs (R234,
R235), the fill (R228, R229), and the writes of their control registers. -/
namespace Sys2Proof.Machine

/-- R243: a region by its number (`bank` counts for a manger die only). -/
def regionOf (r bank : Nat) : Region :=
  if r < 4 then .manger r bank else if r < 12 then .hbm (r - 4) else .ddr (r - 12)

/-- R243: the region number of a groom. -/
def groomRegion (g : Nat) : Nat := if g < 256 then g / 64 else g - 252

/-- The grooms of a region. -/
def regionGrooms (r : Nat) : List Nat := if r < 4 then (List.range 64).map (64 * r + ·) else [r + 252]

/-- R232: whether the grooms of a region's tier are enabled. -/
def groomEnabled (s : State) (r : Nat) : Bool :=
  (if r < 4 then getF s Fld.GRM_CTRL_EN_MGR else if r < 12 then getF s Fld.GRM_CTRL_EN_HBM else getF s Fld.GRM_CTRL_EN_DDR) == 1

/-- The windows that a groom visits in a lap (Table 8.4). -/
def groomWindows (s : State) (r : Nat) : Nat :=
  if r < 4 then 8192 else if r < 12 then 100663296 else (getF s Fld.DDR_TOP_TOP - 0x10000000000) / 512 / 12

/-- R230: the address of window `i` of a groom. -/
def groomAddr (g i : Nat) : Nat :=
  if g < 256 then g * 0x400000 + 512 * i
  else if g < 264 then 0x1000000000 + (g - 256) * 0xC00000000 + 512 * i
  else 0x10000000000 + 512 * (12 * i + (g - 264))

/-- R231: a retired bank, and a unit that is not READY, is skipped. -/
def groomSkips (s : State) (g : Nat) : Bool :=
  if g < 256 then bitOf (getF s Fld.MGR_OFFLINE_OFF (g / 64)) (g % 64) else unitState s (g - 256) != tierReady

/-- A groom's place in its lap. -/
def groomAt (s : State) (g : Nat) : Nat := nmGet (fun _ => 0) s.integ.groomPos g

/-- R232: the region's grooms start a lap together. -/
def startLap (s : State) (r : Nat) : State :=
  let gs := regionGrooms r
  { s with integ := { s.integ with
      groomPos := gs.foldl (fun m g => nmPut (fun _ => 0) m g 0) s.integ.groomPos
      ceLap := gs.foldl (fun m g => nmPut (fun _ => 0) m g 0) s.integ.ceLap
      ceRaised := s.integ.ceRaised.filter (fun g => !gs.contains g)
      lapStart := nmPut (fun _ => none) s.integ.lapStart r (some s.time)
      lapAlarmed := s.integ.lapAlarmed.filter (· != r) } }

/-- R232: the start of a region's present lap; none until its grooms first start. -/
def lapStart (s : State) (r : Nat) : Option W64 := nmGet (fun _ => none) s.integ.lapStart r

/-- R232: milliseconds since the region's lap began. -/
def lapMs (s : State) (r : Nat) : Nat :=
  match lapStart s r with
  | none => 0
  | some t => ((s.time - t).toNat / 1000000) % 2 ^ 32

/-- R232: the lap ends once every groom of the region that is not skipped has passed its highest address. -/
def endLap (s : State) (r : Nat) : State :=
  if (regionGrooms r).all (fun g => groomSkips s g || decide (groomWindows s r ≤ groomAt s g)) then
    startLap (setF s Fld.GRM_LAP_MS (lapMs s r) 0 r) r
  else s

/-- R232: the lap alarm level of a region's tier. -/
def lapMax (s : State) (r : Nat) : Nat :=
  if r < 4 then getF s Fld.GRM_LAPMAX_MGR_MS else if r < 12 then getF s Fld.GRM_LAPMAX_HBM_MS else getF s Fld.GRM_LAPMAX_DDR_MS

/-- R232: a write of GRM_CTRL. -/
def grmCtrlWrite (s : State) (v : Nat) : State :=
  let was := (List.range 24).filter (groomEnabled s)
  let s := wrReg s (Reg.GRM_CTRL.addr 0 0 0) (BitVec.ofNat 64 (v % 8))
  ((List.range 24).filter (fun r => groomEnabled s r && !was.contains r && (lapStart s r).isSome)).foldl startLap s

/-- R237: the handling period of a region in ms; 0 acts as 1. -/
def handlingMs (s : State) (r : Region) : Nat :=
  max 1 (match r with
    | .manger d _ => getF s Fld.MGR_HWIN_MS d
    | r => getF s Fld.ECC_HWIN_MS (r.number - 4))

/-- R237: whether the period has passed since the error that began the handling state. -/
def handlingOver (s : State) (r : Region) : Bool :=
  decide (handlingMs s r * 1000000 ≤ (s.time - nmGet (fun _ => 0) s.integ.hndStart r.groom).toNat)

/-- R237: a region's handling state ends. -/
def endHandling (s : State) (r : Region) : State :=
  let s := if handling s r then setHandling s r false else s
  match r with
  | .manger _ _ => { s with integ := { s.integ with firstRow := nmPut (fun _ => 0) s.integ.firstRow r.groom 0 } }
  | _ => s

/-- R237: a write of a region's HND bits. -/
def hndWrite (s : State) (r v : Nat) : State :=
  if r < 4 then ((List.range 64).filter (bitOf v)).foldl (fun s b => endHandling s (.manger r b)) s
  else if bitOf v 0 then endHandling s (regionOf r 0) else s

/-- R234: MGR_REPST takes a result. -/
def repResult (s : State) (d res : Nat) : State := addF (setF s Fld.MGR_REPST_RES res d) Fld.MGR_REPST_SEQ 1 d

/-- R234: a write of MGR_SOFTREP takes effect. -/
def softRepNow (s : State) (d b row : Nat) : State :=
  if bitOf (getF s Fld.MGR_OFFLINE_OFF d) b then repResult s d 3
  else if softRow s d b row then repResult s d 0
  else if softLeft s d b = 0 then repResult s d 2
  else
    let s := setF s Fld.MGR_REPST_RES 1 d
    { s with integ := { s.integ with copies := s.integ.copies ++ [⟨d, b, row, true⟩] } }

/-- R234: a write of MGR_SOFTREP; while RES reads 1 it is held, replacing one already held. -/
def softRepWrite (s : State) (d b row : Nat) : State :=
  if getF s Fld.MGR_REPST_RES d = 1 then
    { s with integ := { s.integ with softHeld := nmPut (fun _ => 0) s.integ.softHeld d (b + 64 * row + 1) } }
  else softRepNow s d b row

/-- A held write of MGR_SOFTREP takes effect. -/
def softRepHeld (s : State) (d : Nat) : State :=
  let h := nmGet (fun _ => 0) s.integ.softHeld d
  if h = 0 then s
  else softRepNow { s with integ := { s.integ with softHeld := nmPut (fun _ => 0) s.integ.softHeld d 0 } } d ((h - 1) % 64) ((h - 1) / 64)

/-- R234 step 2: a byte of a row as the copy writes it. -/
def repairByte (s : State) (a : Nat) : State :=
  let g := guardByte s a
  if g.2 = 1 then setByteSynd (setRawByte s a g.1) a 0 else if 2 ≤ g.2 then storePoison s a else s

/-- R234 steps 1 to 3: row `row` of a bank takes the next free soft row. -/
def takeSoftRow (s : State) (d b row : Nat) : State :=
  let i := getF s Fld.MGR_SPARE_SROWS d b
  let s := (List.range 512).foldl (fun s k => repairByte s (rowBase d b row + k)) s
  let a := Reg.MGR_SOFTMAP.addr d b 0
  let s := wrReg s a (insBits (rdReg s a) (16 * i) 16 (row + 32768))
  setF s Fld.MGR_SPARE_SROWS (i + 1) d b

/-- R244: event 0x3003 for a manger row (DEDUCED: log entry 58). -/
def softRepairEvent (s : State) (d b row : Nat) : State :=
  let r := Region.manger d b
  integEvent s r 0x3003 (rowBase d b row)
    (packDetail [(0, 0), (2, b), (8, row), (32, 4 - getF s Fld.MGR_SPARE_SROWS d b)]) (handling s r)

/-- R234: the oldest copy asked for in a bank ends. -/
def softCopy (s : State) (d b : Nat) : State :=
  match s.integ.copies.find? (fun c => c.die == d && c.bank == b) with
  | none => s
  | some c =>
    let s := { s with integ := { s.integ with copies := s.integ.copies.erase c } }
    let offline := bitOf (getF s Fld.MGR_OFFLINE_OFF d) b
    let again := softRow s d b c.row
    let full := decide (4 ≤ getF s Fld.MGR_SPARE_SROWS d b)
    let s := if offline || again || full then s else softRepairEvent (takeSoftRow s d b c.row) d b c.row
    if c.byReg then softRepHeld (repResult s d (if offline then 3 else if again then 0 else if full then 2 else 0)) d else s

/-- R242: a write of ECC_FLIP_CTRL (DEDUCED: log entry 75). -/
def flipCtrlWrite (s : State) (arm disarm : Bool) : State :=
  if disarm then setF { s with integ := { s.integ with flip := none } } Fld.ECC_FLIP_STATUS_ARMED 0
  else if arm then
    let f : FlipSet :=
      { addr := getF s Fld.ECC_FLIP_ADDR_ADDR, mask := getF s Fld.ECC_FLIP_DATA_MASK, sym := getF s Fld.ECC_FLIP_DATA_SYM,
        xor := getF s Fld.ECC_FLIP_XOR_XOR }
    setF { s with integ := { s.integ with flip := some f } } Fld.ECC_FLIP_STATUS_ARMED 1
  else s

/-- R215, R229: a write of HBM_CFG or DDR_CFG of unit `u`; back in service it is READY, or TRAINING until its fill ends (DEDUCED: log entry 76). -/
def tierCfgWrite (s : State) (u : Nat) (off : Bool) : State :=
  let s := if u < 8 then setF s Fld.HBM_CFG_OFFLINE (b01 off) u else setF s Fld.DDR_CFG_OFFLINE (b01 off) (u - 8)
  let st := unitState s u
  if off then
    if st = tierReady ∨ st = tierTraining then settle (noteLost (setUnitState s u tierOffline) (u + 4)) else s
  else if st = tierOffline ∧ s.tier.trained.contains u then
    setUnitState s u (if s.integ.fillDue.contains (u + 4) then tierTraining else tierReady)
  else s

/-! The power-on fill. -/

/-- A map without the keys that satisfy a test. -/
def dropKeys {α : Type} (p : Nat → Bool) (m : NMap α) : NMap α := m.filter (fun x => !p x.1)

/-- Whether an address lies in region number `r`. -/
def inRegion (r a : Nat) : Bool :=
  match regionAt a with
  | .control => false
  | .outside => false
  | x => x.number == r

/-- R228 pass 3: every byte of a region is 0, with sound check bits. -/
def clearRegion (s : State) (r : Nat) : State :=
  { s with mem := { s.mem with
      bytes := dropKeys (inRegion r) s.mem.bytes
      synd := dropKeys (inRegion r) s.mem.synd
      dev := dropKeys (inRegion r) s.mem.dev
      pendPoison := s.mem.pendPoison.filter (fun a => !inRegion r a)
      pendFix := s.mem.pendFix.filter (fun a => !inRegion r a) } }

/-- Table 7.6: the bursts the three passes put on a unit's data bus. -/
def countFill (s : State) (r : Nat) : State :=
  if r < 4 then s
  else
    let n := if r < 12 then 0x30000000 else (getF s Fld.DDR_TOP_TOP - 0x10000000000) / 12 / 64
    countBus (countBus s (regionOf r 0) false n) (regionOf r 0) true (2 * n)

/-- R228, R234, R235: a row in which pass 2 found a mismatch or an error is repaired and filled again, retired, or (none) cannot be. -/
def fillRepair (s : State) (a : Nat) : Option State :=
  match regionAt a with
  | .manger d b =>
    if softRow s d b (rowOf a) ∨ 4 ≤ getF s Fld.MGR_SPARE_SROWS d b then none
    else some (softRepairEvent (takeSoftRow s d b (rowOf a)) d b (rowOf a))
  | r =>
    let k := repairKey s a
    if s.integ.repairsUsed.contains k then
      let page := a / 4096 * 4096
      some (if s.integ.retired.contains page then s
        else { s with integ := { s.integ with retired := s.integ.retired ++ [page] } })
    else
      let n := rowBursts r
      let s := lineRepairEvent (repairLine s r a) r a (handling s r)
      some (countBus (countBus s r false n) r true (2 * n))

/-- The rows found are repaired in turn; the second result lists those that could not be. -/
def fillRows (s : State) : List Nat → State × List Nat
  | [] => (s, [])
  | a :: t =>
    match fillRepair s a with
    | some s' => fillRows s' t
    | none => let x := fillRows s t; (x.1, a :: x.2)

/-- R229: a region has passed its fill. -/
def fillPassed (s : State) (r : Nat) : State :=
  let s := setF s Fld.ECC_FILLST_PASS (getF s Fld.ECC_FILLST_PASS ||| 2 ^ r)
  { s with integ := { s.integ with filled := s.integ.filled ++ [r] } }

/-- R229: the fill's verdict on region `r`; `left` holds rows that still fail (DEDUCED: log entry 167). -/
def fillVerdict (s : State) (r : Nat) (left : List Nat) : State :=
  let s := startLap s r
  if r < 4 then
    let banks := (left.map (fun a => a / 0x400000 % 64)).eraseDups
    let s := banks.foldl (fun s b => isolate s (.manger r b) 3 (handling s (.manger r b))) s
    if banks.isEmpty then fillPassed s r else s
  else
    let reg := regionOf r 0
    let pages := (s.integ.retired.filter (pageIn reg)).length
    if left ≠ [] ∨ 1024 < pages then settle (isolate s reg (if left ≠ [] then 3 else 4) (handling s reg))
    else
      let s := fillPassed s r
      if unitState s (r - 4) = tierTraining then setUnitState s (r - 4) tierReady else s

end Sys2Proof.Machine
end

