-- ==== Sys2Proof/Machine/DroveBase.lean ====
section
/-! DEFINITION. What every part that takes a lane or a port of the Droveway down shares: lanes, masks, failed transfers, ports going down
(R392, R406 to R411). -/
namespace Sys2Proof.Machine

def getPort (s : State) (p : Nat) : Port := nmGet (fun _ => {}) s.drove.port p
def putPort (s : State) (p : Nat) (x : Port) : State := { s with drove := { s.drove with port := nmPut (fun _ => {}) s.drove.port p x } }

/-- Table 15.9: DRV_STATUS.STATE. -/
def portStopped : Nat := 0
def portTraining : Nat := 1
def portAdmitting : Nat := 2
def portUp : Nat := 3
def portStopping : Nat := 4
def portDownSt : Nat := 5

def portState (s : State) (p : Nat) : Nat := getF s Fld.DRV_STATUS_STATE p

/-- R381: whether port `p` is in star mode. -/
def portStar (s : State) (p : Nat) : Bool := getF s Fld.DRV_STATUS_MODE p == 1

/-- R409: whether this device is suspended on port `p`. -/
def portSuspended (s : State) (p : Nat) : Bool := getF s Fld.DRV_STATUS_SUSP p == 1

/-- The farrier's record of port `p`. -/
def getFarPort (s : State) (p : Nat) : FarPort := nmGet (fun _ => {}) s.far.port p
def putFarPort (s : State) (p : Nat) (x : FarPort) : State := { s with far := { s.far with port := nmPut (fun _ => {}) s.far.port p x } }

/-- The UNIT of a port's events. -/
def portUnit (p : Nat) : Nat := unitOf 11 p

/-- The lanes in service of a direction, as a mask. -/
def laneMask (s : State) (p : Nat) (rx : Bool) : Nat :=
  if rx then getF s Fld.DRV_RXLANES_LANES p else getF s Fld.DRV_TXLANES_LANES p

def laneOn (s : State) (p lane : Nat) (rx : Bool) : Bool := bitOf (laneMask s p rx) lane

/-- The lanes of a mask. -/
def bitList (m : Nat) : List Nat := (List.range 32).filter (bitOf m)

/-- The lanes in service are counted in DRV_STATUS. -/
def countLanes (s : State) (p : Nat) : State :=
  setF (setF s Fld.DRV_STATUS_TXN (bitList (laneMask s p false)).length p) Fld.DRV_STATUS_RXN (bitList (laneMask s p true)).length p

/-- A lane enters or leaves service in a direction, with a cause of Table 15.9 (0 none). -/
def setLane (s : State) (p lane : Nat) (rx on : Bool) (cause : Nat) : State :=
  let m := laneMask s p rx
  let m' := if on then m ||| 2 ^ lane else if bitOf m lane then m - 2 ^ lane else m
  let s := if rx then setF s Fld.DRV_RXLANES_LANES m' p else setF s Fld.DRV_TXLANES_LANES m' p
  let s := if rx then setF (setF s Fld.DRV_LSTAT_RXIN (b01 on) p lane) Fld.DRV_LSTAT_RXCAUSE cause p lane
           else setF (setF s Fld.DRV_LSTAT_TXIN (b01 on) p lane) Fld.DRV_LSTAT_TXCAUSE cause p lane
  countLanes s p

/-- Why a lane is out of service. -/
def laneCause (s : State) (p lane : Nat) (rx : Bool) : Nat :=
  if rx then getF s Fld.DRV_LSTAT_RXCAUSE p lane else getF s Fld.DRV_LSTAT_TXCAUSE p lane

/-- R392: a transfer fails with event 0xA00B, and increments no signal box. -/
def xferFailed (s : State) (p reason tag : Nat) : State :=
  raiseEv (setF s Fld.DRV_ERR_XFER_FAIL 1 p) 0xA00B (portUnit p) 0 (packDetail [(0, p), (3, reason), (32, tag)])

/-- DRV_SQ_STATUS follows the queue and the transfers in flight. -/
def countSq (s : State) (p : Nat) : State :=
  let x := getPort s p
  setF (setF s Fld.DRV_SQ_STATUS_DEPTH x.sq.length p) Fld.DRV_SQ_STATUS_INFLIGHT x.flight.length p

/-- R392: the transfers in flight that satisfy a test fail. -/
def failFlight (s : State) (p reason : Nat) (f : Outgoing → Bool) : State :=
  let x := getPort s p
  let s := putPort s p { x with flight := x.flight.filter (fun o => !f o) }
  countSq ((x.flight.filter f).foldl (fun s o => xferFailed s p reason o.d.tag) s) p

/-- R406: a lane in service leaves it, and event 0xA003 is raised. -/
def laneLeaves (s : State) (p lane : Nat) (rx : Bool) (cause : Nat) : State :=
  if laneOn s p lane rx then
    raiseEv (setLane s p lane rx false cause) 0xA003 (portUnit p) 0 (packDetail [(0, p), (3, lane), (8, b01 rx), (9, cause)])
  else s

/-- R409: lane `lane` is released to the farrier (DEDUCED: log entry 135). -/
def laneReleased (s : State) (p lane : Nat) : State :=
  setF (putPort s p { getPort s p with released := some lane, returned := false }) Fld.FAR_PORT_STATUS_ACTIVE 1 p

/-- R409: a port that stops sending has nothing to wait for on the lane that the farrier has asked for, and releases it
(DEDUCED: log entry 135). -/
def releaseAsked (s : State) (p : Nat) : State :=
  let x := getPort s p
  match (getFarPort s p).lane with
  | none => s
  | some j =>
    if x.released = some j ∧ x.returned = false then s
    else laneReleased (laneLeaves (laneLeaves s p j false 3) p j true 3) p j

/-- R408: a port goes down, for a reason of Table 15.10. -/
def portGoesDown (s : State) (p reason : Nat) : State :=
  let st := portState s p
  if st = portTraining ∨ st = portAdmitting ∨ st = portUp then
    let s := releaseAsked (failFlight s p 3 (fun _ => true)) p
    let s := setF s Fld.DRV_STATUS_STATE portDownSt p
    let s := putPort s p { getPort s p with wasDown := true, changes := [], grants := [], backoff := none }
    raiseEv s 0xA002 (portUnit p) 0 (packDetail [(0, p), (3, reason)])
  else s

/-- R408: the reason a port with its present lanes is down; 0 none. A suspended member does without its control lane, which the farrier may hold
(R409; DEDUCED: log entry 243). -/
def lanesShort (s : State) (p : Nat) : Nat :=
  let tx := laneMask s p false
  let rx := laneMask s p true
  let c := getF s Fld.DRV_CFG_CTLLANE p
  let data := (bitList (tx &&& rx)).filter (· != c)
  if (bitList tx).length < 4 ∨ (bitList rx).length < 4 then 1
  else if portStar s p then
    (if data.length < 4 then 1 else if (bitOf tx c && bitOf rx c) || portSuspended s p then 0 else 2)
  else 0

/-- R408: a port with too few lanes goes down. -/
def checkPort (s : State) (p : Nat) : State :=
  if (portState s p = portUp ∨ portState s p = portAdmitting) ∧ lanesShort s p ≠ 0 then portGoesDown s p (lanesShort s p) else s

/-- R285, R411: a comb die gives no light: every lane of a port leaves service, and the port goes down with reason 5. -/
def portDark (s : State) (p : Nat) : State :=
  let s := (List.range 32).foldl (fun s j => laneLeaves (laneLeaves s p j false 5) p j true 5) s
  portGoesDown s p 5

end Sys2Proof.Machine
end

