-- ==== Sys2Proof/Machine/LoopWord.lean ====
section
/-! DEFINITION. Loop words (R313) and exact rational rounding. -/
namespace Sys2Proof.Machine

/-- A ratio rounded to an integer, to nearest with ties to even. -/
def ratRne (num : Int) (den : Nat) : Int :=
  let d : Int := if den = 0 then 1 else den
  let q := num / d
  let r := num - q * d
  if 2 * r < d then q else if d < 2 * r then q + 1 else if q % 2 = 0 then q else q + 1

/-- A measured ratio in whole units, where the spec states no rounding (log entry 20). -/
def ratioUnits (num den : Nat) : Nat :=
  num / den + b01 (num % den != 0 && Config.roundUp num den)

/-- R313: the value of a loop word. -/
def lwVal (w : Nat) : Dy := ⟨sext 24 w, sext 8 (w / 2 ^ 24) - 22⟩

/-- R313: a loop word from its mantissa and exponent (DEDUCED: log entry 103). -/
def lwEnc (m e : Int) : Nat := wrapTo 24 m + wrapTo 8 e * 2 ^ 24

/-- The number of bits of a number. -/
def bitLen (n : Nat) : Nat := if n = 0 then 0 else Nat.log2 n + 1

/-- The ratio `num / den` times 2^s, rounded to nearest with ties to even. -/
def ratScale (num : Int) (den : Nat) (s : Int) : Int :=
  if 0 ≤ s then ratRne (num * 2 ^ s.toNat) den else ratRne num (den * 2 ^ (-s).toNat)

/-- R320: a ratio rounded as a loop word, with 2^21 ≤ |m| < 2^22; 0 gives m = 0 and e = 0. Exponents are held between −128 and 127. -/
def lwOfRat (num : Int) (den : Nat) : Nat :=
  if num = 0 then 0
  else
    let a := num.natAbs
    let e0 : Int := (bitLen a : Int) - bitLen den
    let e1 := if (a : Int) * 2 ^ (-e0).toNat < (den : Int) * 2 ^ e0.toNat then e0 else e0 + 1
    let m := ratScale num den (22 - e1)
    let x := if m.natAbs = 2 ^ 22 then (m / 2, e1 + 1) else (m, e1)
    if x.2 < -128 then lwEnc (ratScale num den 150) (-128)
    else if 127 < x.2 then lwEnc (if num < 0 then -(2 ^ 23 - 1) else 2 ^ 23 - 1) 127
    else lwEnc x.1 x.2

/-- A dyadic number rounded as a loop word. -/
def lwOf (d : Dy) : Nat := if 0 ≤ d.e then lwOfRat (d.m * 2 ^ d.e.toNat) 1 else lwOfRat d.m (2 ^ (-d.e).toNat)

/-- The difference. -/
def Dy.sub (a b : Dy) : Dy := a.add ⟨-b.m, b.e⟩

/-- Whether `a < b`. -/
def Dy.lt (a b : Dy) : Bool := !Dy.le b a

end Sys2Proof.Machine
end

