-- ==== Sys2Proof/Machine/MonOps.lean ====
section
/-! DEFINITION. Shared operations of the monitor converters and trim DACs (chapter 11): conversions, accumulators, the frame boundary, and
the trim channels. -/
namespace Sys2Proof.Machine

/-- MON_STATUS.STATE. -/
def monRun : Nat := 0
def monStopped : Nat := 1
def monCal : Nat := 2

/-- The state of converter `m`. -/
def monState (s : State) (m : Nat) : Nat := getF s Fld.MON_STATUS_STATE m

def getConv (s : State) (m : Nat) : Converter := nmGet (fun _ => {}) s.mon.conv m
def putConv (s : State) (m : Nat) (c : Converter) : State := { s with mon := { s.mon with conv := nmPut (fun _ => {}) s.mon.conv m c } }

/-- Accumulator `a` of converter `m`. -/
def getAcc (s : State) (m a : Nat) : Acc := nmGet (fun _ => {}) s.mon.acc (128 * m + a)
def putAcc (s : State) (m a : Nat) (x : Acc) : State := { s with mon := { s.mon with acc := nmPut (fun _ => {}) s.mon.acc (128 * m + a) x } }

/-- R295: COS64[j] = round(127 × cos(2π × (j + 0.5) / 64)). -/
def cos64 : List Int :=
  [127, 126, 123, 120, 115, 109, 102, 94, 85, 76, 65, 54, 43, 31, 19, 6,
   -6, -19, -31, -43, -54, -65, -76, -85, -94, -102, -109, -115, -120, -123, -126, -127] ++
  [-127, -126, -123, -120, -115, -109, -102, -94, -85, -76, -65, -54, -43, -31, -19, -6,
   6, 19, 31, 43, 54, 65, 76, 85, 94, 102, 109, 115, 120, 123, 126, 127]

/-- R301: a raw code corrected. -/
def correctCode (offset gain : Int) (raw : Nat) : Nat :=
  (clampI 0 4095 (roundInt .rne 0 ((16 * (raw : Int) - offset) * (65536 + gain)) (-20))).toNat

/-- R295: what a conversion adds to a sum: mode, φ, x. -/
def accTerm (mode phi x : Nat) : Int :=
  if mode = 0 then x
  else if mode = 1 then (if phi < 1000000 then (x : Int) else -(x : Int))
  else cos64.getD (phi * 64 / 2000000) 0 * x

/-- R296: whether accumulator `a` of converter `m` is in a period. -/
def accActive (s : State) (m a : Nat) : Bool :=
  let r := getF s Fld.ACC_CFG_RUN m a
  r == 1 || (r == 2 && (getAcc s m a).until_.isSome)

/-- R294, R295: conversion `k` reaches accumulator `a` of converter `m` as the corrected code `x`. -/
def accAdd (s : State) (m a k x : Nat) : State :=
  if accActive s m a then
    let c := getAcc s m a
    let phi := (getF s Fld.ACC_REF_FREQ m a * k + getF s Fld.ACC_PHASE_PHASE m a) % 2000000
    putAcc s m a { c with cur := { c.cur with
      sum := c.cur.sum + accTerm (getF s Fld.ACC_CFG_MODE m a) phi x
      count := c.cur.count + 1
      mn := min c.cur.mn x
      mx := max c.cur.mx x } }
  else s

/-- R294: the accumulators that receive a conversion routed to accumulator `a`. -/
def accTargets (s : State) (m a : Nat) : List Nat :=
  (List.range 128).filter (fun b =>
    if getF s Fld.ACC_CFG_TAP m b = 1 then getF s Fld.ACC_CFG_SRC m b == a else b == a)

/-- R292, R297: converter `m` makes conversion `k`, or misses it. -/
def convertOne (s : State) (k m raw : Nat) : State :=
  if monState s m = monRun then
    if getF s Fld.MON_SEQ_EN m (k % 400) = 1 then
      let x := correctCode (sext 16 (getF s Fld.MON_CALF_OFFSET m)) (sext 16 (getF s Fld.MON_CALF_GAIN m)) raw
      (accTargets s m (getF s Fld.MON_SEQ_ACC m (k % 400))).foldl (fun s a => accAdd s m a k x) s
    else s
  else putConv s m { getConv s m with gap := k + 1 }

/-- R296: an ended period is copied into the result registers. -/
def accLatch (s : State) (m a : Nat) : State :=
  let c := getAcc s m a
  match c.ended with
  | none => s
  | some e =>
    let s := putAcc s m a { c with ended := none }
    let s := setF s Fld.ACC_SUM_SUM (wrapTo 48 e.acc.sum) m a
    let s := setF (setF (setF s Fld.ACC_STAT_MIN e.acc.mn m a) Fld.ACC_STAT_MAX e.acc.mx m a) Fld.ACC_STAT_VALID (b01 e.valid) m a
    let s := setF s Fld.ACC_COUNT_COUNT e.acc.count m a
    addF (addF s Fld.ACC_STAT_PSEQ 1 m a) Fld.ACC_COUNT_PSEQ 1 m a

/-- R296, R297: accumulator `a` at the boundary of frame `f`, conversion `k` being the first of it. A latch not yet made is made first.
(DEDUCED: log entry 97). -/
def accBoundary (s : State) (m a f k : Nat) : State :=
  let s := accLatch s m a
  let c := getAcc s m a
  let fin : AccEnd := ⟨c.cur, decide ((getConv s m).gap ≤ c.cur.since)⟩
  let run := getF s Fld.ACC_CFG_RUN m a
  let per := getF s Fld.ACC_CFG_PERIOD m a
  if run = 1 then
    if f % per = 0 then putAcc s m a { c with cur := { since := k }, ended := some fin } else s
  else if run = 2 then
    match c.until_ with
    | none => putAcc s m a { c with cur := { since := k }, until_ := some (f + per) }
    | some t =>
      if t ≤ f then setF (putAcc s m a { cur := {}, until_ := none, ended := some fin }) Fld.ACC_CFG_RUN 0 m a else s
  else s

/-- R298, R299: a converter's requests take effect at a frame boundary. -/
def convBoundary (s : State) (m : Nat) : State :=
  let c := getConv s m
  let st := monState s m
  let st1 := if c.stop then monStopped else if c.start && st == monStopped then monRun else st
  let cal := c.cal && st != monCal
  let s := putConv s m { c with start := false, stop := false, cal := false, back := if cal then st1 else c.back }
  setF s Fld.MON_STATUS_STATE (if cal then monCal else st1) m

/-- A loop's own state. -/
def getLoop (s : State) (i : Nat) : LoopSt := nmGet (fun _ => {}) s.rein.loops i
def putLoop (s : State) (i : Nat) (x : LoopSt) : State := { s with rein := { s.rein with loops := nmPut (fun _ => {}) s.rein.loops i x } }

/-- RN_BANK_STATUS.STATE. -/
def bankRun : Nat := 0
def bankStopping : Nat := 1
def bankStopped : Nat := 2
def bankState (s : State) (b : Nat) : Nat := getF s Fld.RN_BANK_STATUS_STATE 0 b

/-- R327: FREEZE of a loop is set or cleared; while it is 1 FECNT is 0, and the first execution after it clears makes no stale test. -/
def setFreeze (s : State) (i : Nat) (b : Bool) : State :=
  let was := getF s Fld.RN_LP_RUN_FREEZE (i / 256) (i % 256) == 1
  let s := setF s Fld.RN_LP_RUN_FREEZE (b01 b) (i / 256) (i % 256)
  if b then putLoop (setF s Fld.RN_LP_STAT_FECNT 0 (i / 256) (i % 256)) i { getLoop s i with clean := 0 }
  else if was then putLoop s i { getLoop s i with first := true }
  else s

/-- R333, R321: a loop as its bank starts: FECNT 0, no stale test at its first execution. -/
def startLoop (s : State) (i : Nat) : State :=
  putLoop (setF s Fld.RN_LP_STAT_FECNT 0 (i / 256) (i % 256)) i { getLoop s i with first := true, clean := 0 }

/-- R333: bank `b` becomes RUN. -/
def bankStart (s : State) (b : Nat) : State :=
  (List.range 256).foldl (fun s q => startLoop s (256 * b + q)) (setF s Fld.RN_BANK_STATUS_STATE bankRun 0 b)

/-- R332, R333: a bank at a frame boundary. -/
def bankBoundary (s : State) (b : Nat) : State :=
  if bankState s b = bankStopping then setF s Fld.RN_BANK_STATUS_STATE bankStopped 0 b
  else if s.rein.starting.contains b then
    bankStart { s with rein := { s.rein with starting := s.rein.starting.filter (· != b) } } b
  else s

/-- R292, R296, R298, R299, R332, R333: the boundary of frame `f`. -/
def frameBoundary (s : State) (f : Nat) : State :=
  let k := 400 * f
  let s := setF s Fld.MON_FRAME_F f
  let s := (List.range 48).foldl (fun s m => (List.range 128).foldl (fun s a => accBoundary s m a f k) s) s
  let s := (List.range 48).foldl convBoundary s
  let s := (List.range 24).foldl bankBoundary s
  { s with rein := { s.rein with loops := nmMap (fun _ => {}) (fun _ x => { x with ran := false }) s.rein.loops } }

/-! Control and configuration. -/

/-- R298, R299: a write of MON_CTRL. -/
def monCtrlWrite (s : State) (m : Nat) (start stop cal : Bool) : State :=
  let c := getConv s m
  let st := monState s m
  let c1 : Converter :=
    if stop then (if st = monRun then { c with stop := true, start := false } else if st = monCal then { c with back := monStopped } else { c with start := false })
    else if start && st == monStopped then { c with start := true }
    else c
  putConv s m (if cal && st != monCal then { c1 with cal := true } else c1)

/-- R300: a signed value held to 16 bits. -/
def sat16 (v : Int) : Nat := wrapTo 16 (clampI (-32768) 32767 v)

/-- R299, R300: OFFSET from the sum of 32,768 ground conversions, of which 2,048 make 1/16 LSB of the mean; which way a mean between two
numbers goes is open (DESIGN CHOICE: log entry 207). -/
def calOffset (sum : Nat) : Nat := sum / 2048 + (if sum % 2048 = 0 then 0 else b01 (Config.calRoundsUp sum))

/-- R300: GAIN where the sum of 32,768 reference conversions lies `d` above that of the ground conversions; none where no bound value
exists (d = 0) (DEDUCED: log entry 99). 52,428.8 sixteenths of an LSB are 2^30 / 10 of these units. -/
def calGain (d : Int) : Option Int :=
  if d = 0 then none
  else
    let num : Int := if 0 < d then 65536 * (1073741824 - 10 * d) else -(65536 * (1073741824 - 10 * d))
    let den : Int := 10 * d.natAbs
    let q := num / den
    let r := num - q * den
    some (if 2 * r < den then q else if den < 2 * r then q + 1 else if q % 2 = 0 then q else q + 1)

/-- R299, R300: a self-calibration of converter `m` ends with the sums of its conversions of ground and reference. -/
def calEnd (s : State) (m ground ref : Nat) : State :=
  let s1 := setF s Fld.MON_STATUS_STATE (getConv s m).back m
  let g : Int := calOffset ground
  match calGain ((ref : Int) - ground) with
  | some gain =>
    if g.natAbs ≤ 512 ∧ gain.natAbs ≤ 1311 then
      let s1 := setF (setF s1 Fld.MON_CALF_OFFSET (wrapTo 16 g) m) Fld.MON_CALF_GAIN (wrapTo 16 gain) m
      addF (setF s1 Fld.MON_STATUS_CALBAD 0 m) Fld.MON_STATUS_CALS 1 m
    else
      raiseEv (setF s1 Fld.MON_STATUS_CALBAD 1 m) 0x7801 (unitOf 7 m) 0 (packDetail [(0, sat16 g), (16, sat16 gain)])
  | none => raiseEv (setF s1 Fld.MON_STATUS_CALBAD 1 m) 0x7801 (unitOf 7 m) 0 (packDetail [(0, sat16 g), (16, sat16 32767)])

/-- R299: whether a self-calibration is asked for or runs. -/
def calibrating (s : State) : Bool := (List.range 48).any (fun m => (getConv s m).cal || monState s m == monCal)

/-- R301: ostler firmware calibrates the next converter of its queue, once none is being calibrated. -/
def calNext (s : State) : State :=
  match s.mon.calQueue with
  | [] => s
  | m :: rest =>
    if calibrating s || !firmwareRuns s then s
    else monCtrlWrite { s with mon := { s.mon with calQueue := rest } } m false false true

/-- R301: a die's band has changed: its converters are to be calibrated again, one at a time. -/
def calDie (s : State) (d : Nat) : State :=
  let new := (List.range 12).map (12 * d + ·)
  calNext { s with mon := { s.mon with calQueue := s.mon.calQueue ++ new.filter (fun m => !s.mon.calQueue.contains m) } }

/-- The offset of a configuration register of a converter. -/
def monOffset : MonReg → Nat
  | .seq k => 0x1000 + 4 * k.val
  | .calf => 0xC
  | .cfg a => 0x4000 + 0x20 * a.val
  | .ref a => 0x4004 + 0x20 * a.val
  | .phase a => 0x4008 + 0x20 * a.val

/-- R298: a refused configuration write. -/
def monRefuse (s : State) (m : Nat) (r : MonReg) : State :=
  raiseEv (setF s Fld.MON_ERR_CFG_REFUSED 1 m) 0x7802 (unitOf 7 m) 0 (packDetail [(0, monOffset r), (16, monState s m)])

/-- R298: whether the write is accepted. -/
def monAccepts (s : State) (m : Nat) (v : Nat) : MonReg → Bool
  | .seq _ => monState s m == monStopped
  | .calf => monState s m == monStopped
  | .cfg a =>
    let old := (rdReg s (Reg.ACC_CFG.addr m a.val 0)).toNat
    let v := v % 2 ^ 22
    let legal := v % 4 != 3 && v / 4 % 4 != 3 && v / 16 % 1024 != 0
    let off := v == old - 4 * (old / 4 % 4)
    off || (legal && (monState s m == monStopped || old / 4 % 4 == 0))
  | .ref a => monState s m == monStopped || getF s Fld.ACC_CFG_RUN m a.val == 0
  | .phase a => monState s m == monStopped || getF s Fld.ACC_CFG_RUN m a.val == 0

/-- R298: an accepted write. A write of ACC_CFG ends the period under way with no latch (DEDUCED: log entry 96). -/
def monStore (s : State) (m : Nat) (v : Nat) : MonReg → State
  | .seq k => wrReg s (Reg.MON_SEQ.addr m k.val 0) (BitVec.ofNat 64 (v % 2 ^ 16))
  | .calf => wrReg s (Reg.MON_CALF.addr m 0 0) (BitVec.ofNat 64 (v % 2 ^ 32))
  | .cfg a =>
    let s := wrReg s (Reg.ACC_CFG.addr m a.val 0) (BitVec.ofNat 64 (v % 2 ^ 22))
    putAcc s m a.val { getAcc s m a.val with cur := { since := s.mon.k }, until_ := none }
  | .ref a => wrReg s (Reg.ACC_REF.addr m a.val 0) (BitVec.ofNat 64 (v % 2 ^ 20))
  | .phase a => wrReg s (Reg.ACC_PHASE.addr m a.val 0) (BitVec.ofNat 64 (v % 2 ^ 21))

/-- R298: a write of a configuration register of converter `m`. -/
def monCfgWrite (s : State) (m : Nat) (r : MonReg) (v : Nat) : State :=
  if monAccepts s m v r then monStore s m v r else monRefuse s m r

/-! Trim channels. -/

def getTrim (s : State) (ch : Nat) : Trim := nmGet (fun _ => {}) s.mon.trim ch
def putTrim (s : State) (ch : Nat) (t : Trim) : State := { s with mon := { s.mon with trim := nmPut (fun _ => {}) s.mon.trim ch t } }

/-- R303, R304, R305: a write of TRM_CODE of channel `ch` (DEDUCED: log entry 98). -/
def trmCodeWrite (s : State) (ch code : Nat) (x2 en : Bool) : State :=
  let t := getTrim s ch
  let a := Reg.TRM_CODE.addr (ch / 256) (ch % 256) 0
  let s := if en || t.hold.isSome then wrReg s a (BitVec.ofNat 64 (code % 4096 + b01 x2 * 4096 + b01 en * 8192))
    else setF s Fld.TRM_CODE_EN 0 (ch / 256) (ch % 256)
  putTrim s ch
    (if t.hold.isSome then { t with hold := some (code % 4096, x2, en) }
     else if !en then { t with parked := true }
     else if t.parked || t.x2 == x2 then { t with code := code % 4096, x2 := x2, parked := false }
     else { t with hold := some (code % 4096, x2, en) })

/-- R323: a write of the CODE field alone, by the rein engine or the light block. -/
def trmSetCode (s : State) (ch code : Nat) : State :=
  let s := setF s Fld.TRM_CODE_CODE (code % 4096) (ch / 256) (ch % 256)
  let t := getTrim s ch
  putTrim s ch
    (match t.hold with
     | some (_, x, e) => { t with hold := some (code % 4096, x, e) }
     | none => { t with code := code % 4096 })

/-- R305: the hold of channel `ch` ends. -/
def trmRelease (s : State) (ch : Nat) : State :=
  let t := getTrim s ch
  match t.hold with
  | none => s
  | some (c, x, e) =>
    putTrim s ch (if e then { t with code := c, x2 := x, parked := false, hold := none } else { t with parked := true, hold := none })

/-- Table 11.4: the trim channel of a ring's heater. -/
def heaterChan (r : Nat) : Nat :=
  if r < 16 then 256 * (r / 4) + r % 4 else 256 * ((r - 16) / 128) + 4 + (r - 16) % 128

/-- Table 11.2: the converter of a ring's drop monitor. -/
def ringConv (r : Nat) : Nat := 12 * (heaterChan r / 256) + heaterChan r % 256 % 12

/-- Table 11.4: the ring whose heater a trim channel drives. -/
def ringOfChan (ch : Nat) : Option Nat :=
  let d := ch / 256
  let i := ch % 256
  if i < 4 then some (4 * d + i) else if i < 132 then some (16 + 128 * d + (i - 4)) else none

/-- R279: the wide-capture bit that counts for a ring: its stall's compute die, or die 0 for a port's. -/
def wideDie (r : Nat) : Nat := if r < 16 then r / 4 else 0

/-- R282 step 3: the conversion at which the capture of a recovery begins; 0 outside a recovery. -/
def captureStart (s : State) (r : Nat) : Nat := ((s.light.recov.find? (fun x => x.ring == r)).map (·.start)).getD 0

/-- R279, R282: the amplitude of a ring's dither at conversion `k`: wide for the first 500 µs of a recovery's capture too; what the settings
outside 1 to 64 do is open (DESIGN CHOICE: log entry 206). -/
def ringAmp (s : State) (r k : Nat) : Nat :=
  let capture := getF s Fld.LTE_RING_STATUS_STATE 0 r == 4 && decide (k < captureStart s r + 10000)
  let v := if bitOf (getF s Fld.LTE_WIDE_WIDE) (wideDie r) || capture then getF s Fld.LTE_DITHER_WIDE_AMP else getF s Fld.LTE_DITHER_AMP
  if 1 ≤ v ∧ v ≤ 64 then v else (Config.ditherAmp v).toNat

/-- R279, R282: the light block dithers the heater of a ring that is captured or locked, in a recovery once its capture begins. -/
def ringDithers (s : State) (r k : Nat) : Bool :=
  let st := getF s Fld.LTE_RING_STATUS_STATE 0 r
  st == 2 || st == 3 || (st == 4 && decide (captureStart s r ≤ k))

/-- R279, R303: the dithers of a channel at conversion `k`, frequency and amplitude: its own, and the light block's, at 250 kHz
(DESIGN CHOICE: log entry 206). -/
def chanDithers (s : State) (ch k : Nat) : List (Nat × Nat) :=
  (if getF s Fld.TRM_DITH_DEN (ch / 256) (ch % 256) = 1 then
      [(getF s Fld.TRM_DITH_DFREQ (ch / 256) (ch % 256), getF s Fld.TRM_DITH_AMP (ch / 256) (ch % 256))]
    else []) ++
  (match ringOfChan ch with
   | some r => if ringDithers s r k then [(25000, ringAmp s r k)] else []
   | none => [])

/-- R303: the code of a channel with its dithers, unclamped, at floor(T / 50) = `k`. -/
def dithered (s : State) (ch k : Nat) : Int :=
  (chanDithers s ch k).foldl (fun c x => if x.1 * k % 2000000 < 1000000 then c + x.2 else c - x.2) ((getTrim s ch).code : Int)

/-- R291: floor(T / 50), the number of the last conversion. -/
def lastConv (s : State) : Nat := s.mon.k - 1

/-- R303: the tap in force on a channel. -/
def trmTap (s : State) (ch : Nat) : Nat := (clampI 0 4095 (dithered s ch (lastConv s))).toNat

/-- TRM_STATUS.CLAMP: the dither was clamped in the last frame. -/
def trmClamp (s : State) (ch : Nat) : Bool := (getTrim s ch).clampLast

/-- Table 11.8, CLAMP: each channel that is not parked notes whether its dither is clamped at conversion `k`, the first of a frame
where `start` (DEDUCED: log entry 211). -/
def noteClamps (s : State) (k : Nat) (start : Bool) : State :=
  { s with mon := { s.mon with trim := nmMap (fun _ => {}) (fun ch t =>
      let v := dithered s ch k
      let hit := !t.parked && decide (v < 0 ∨ 4095 < v)
      if start then { t with clampLast := t.clampNow, clampNow := hit } else { t with clampNow := t.clampNow || hit }) s.mon.trim } }

/-- R291, R292: conversion `mon.k` of every converter; `raw m`: the raw code of converter `m`. -/
def conversion (s : State) (raw : Nat → Nat) : State :=
  let k := s.mon.k
  let s := if k % 400 = 0 then frameBoundary s (k / 400) else s
  let s := noteClamps ((List.range 48).foldl (fun s m => convertOne s k m (raw m)) s) k (k % 400 == 0)
  { s with mon := { s.mon with k := k + 1 } }

/-- Table 11.4: the trim channel of the attenuator of line `n` of comb die `k`: channels 132 to 155 of the two dies of its half. -/
def lineChan (k n : Nat) : Nat := 256 * (2 * k + n / 24) + 132 + n % 24

end Sys2Proof.Machine
end

