-- ==== Sys2Proof/Machine/SidingOps.lean ====
section
/-! DEFINITION. Shared operations of the sidings (R171 to R176, R181, R500), and the records of the shunters. -/
namespace Sys2Proof.Machine

/-- The record of shunter `n`. -/
def getShu (s : State) (n : Nat) : Shunter := nmGet (fun _ => {}) s.shu n
def putShu (s : State) (n : Nat) (x : Shunter) : State := { s with shu := nmPut (fun _ => {}) s.shu n x }

/-- Channel `c` of shunter `n`. -/
def getChan (s : State) (n c : Nat) : Chan := nmGet (fun _ => {}) (getShu s n).chans c
def putChan (s : State) (n c : Nat) (x : Chan) : State :=
  putShu s n { getShu s n with chans := nmPut (fun _ => {}) (getShu s n).chans c x }

/-- Siding `i` of die `d`. -/
def getSid (s : State) (d i : Nat) : Siding := nmGet (fun _ => {}) s.sid (256 * d + i)
def putSid (s : State) (d i : Nat) (x : Siding) : State := { s with sid := nmPut (fun _ => {}) s.sid (256 * d + i) x }

/-- R171: the slots of a siding; 0 while it is unconfigured. -/
def sidSlots (s : State) (d i : Nat) : Nat :=
  let n := getF s Fld.SID_CFG_SLOTS d i
  if 3 ≤ n ∧ n ≤ 64 then n else 0

/-- R171: the slot size in bytes. -/
def sidSlotBytes (s : State) (d i : Nat) : Nat := 64 * getF s Fld.SID_CFG_SLOT_UNITS d i

/-- R195: the UNIT of a siding's events. -/
def sidUnit (d : Nat) : Nat := unitOf 2 (132 + d)

/-- The sequence number of the slot at HEAD. -/
def Siding.headSeq (x : Siding) : Nat := x.seq - x.fill

/-- TAIL: the next slot to publish. -/
def sidTail (s : State) (d i : Nat) : Nat :=
  let n := sidSlots s d i
  if n = 0 then 0 else ((getSid s d i).head + (getSid s d i).fill) % n

/-- R171: where the slot with sequence number `q` begins. -/
def slotBase (s : State) (d i q : Nat) : Nat :=
  let x := getSid s d i
  let n := sidSlots s d i
  let k := if n = 0 then 0 else (x.head + (q - x.headSeq)) % n
  getF s Fld.SID_BASE_BASE d i + k * sidSlotBytes s d i

/-- R174: slots that a producer may still reserve or publish. -/
def sidFree (s : State) (d i : Nat) : Nat := sidSlots s d i - ((getSid s d i).fill + (getSid s d i).resv)

/-- R174, R175: `n` slots are published. -/
def sidPublish (s : State) (d i n : Nat) : State :=
  if n = 0 then s
  else
    let x := getSid s d i
    let s := putSid s d i { x with fill := x.fill + n, seq := x.seq + n }
    if getF s Fld.SID_SBX_PUB_EN d i = 1 then sendSbx s d (getF s Fld.SID_SBX_PUB_SBX d i) n else s

/-- R174, R175: the `n` slots from HEAD are released. -/
def sidRelease (s : State) (d i n : Nat) : State :=
  if n = 0 then s
  else
    let x := getSid s d i
    let k := sidSlots s d i
    let s := putSid s d i
      { x with head := if k = 0 then 0 else (x.head + n) % k, fill := x.fill - n, held := x.held.drop n }
    if getF s Fld.SID_SBX_REL_EN d i = 1 then sendSbx s d (getF s Fld.SID_SBX_REL_SBX d i) n else s

/-- R195: a siding protocol error; `kind` 1 PUB_OVER, 2 REL_OVER, 3 PARTY. -/
def sidError (s : State) (d i kind n : Nat) : State :=
  let s := setF s (if kind = 1 then Fld.SID_ERR_PUB_OVER else if kind = 2 then Fld.SID_ERR_REL_OVER else Fld.SID_ERR_PARTY) 1 d i
  raiseEv s 0x4030 (sidUnit d) 0 (packDetail [(0, i), (8, kind), (10, n)])

/-- R176, R172: a write of SID_PUB. -/
def sidPubWrite (s : State) (d i n : Nat) : State :=
  if (getSid s d i).prod ≠ none then sidError s d i 3 n
  else
    let free := sidFree s d i
    let s := sidPublish s d i (min n free)
    if free < n then sidError s d i 1 n else s

/-- R176, R172: a write of SID_REL. -/
def sidRelWrite (s : State) (d i n : Nat) : State :=
  if (getSid s d i).cons ≠ none then sidError s d i 3 n
  else
    let fill := if sidSlots s d i = 0 then 0 else (getSid s d i).fill
    let s := sidRelease s d i (min n fill)
    if fill < n then sidError s d i 2 n else s

/-- HEAD, TAIL, FILL and SEQ to 0. -/
def sidReset (s : State) (d i : Nat) : State :=
  let x := getSid s d i
  putSid s d i { x with head := 0, fill := 0, seq := 0, resv := 0, held := [] }

/-- No channel is bound to a siding. -/
def Siding.unbound (x : Siding) : Bool := x.prod == none && x.cons == none

/-- SID_CTRL.RESET. -/
def sidCtrlWrite (s : State) (d i v : Nat) : State :=
  if bitOf v 0 && (getSid s d i).unbound then sidReset s d i else s

/-- R500: a write of SID_BASE, SID_CFG, SID_ELEMS (which reset the siding when they change) or SID_SBX. -/
def sidCfgWrite (s : State) (d i : Nat) (reg : RegDesc) (v : W64) : State :=
  if (getSid s d i).unbound then
    let v := v &&& BitVec.ofNat 64 (reg.rw i)
    let old := rdReg s (reg.addr d i 0)
    let s := wrReg s (reg.addr d i 0) v
    if old ≠ v ∧ reg.name ≠ "SID_SBX" then sidReset s d i else s
  else sidError s d i 3 0

/-- R181: whether an operation still needs its vectors: it holds vector-buffer space. -/
def opLive (s : State) (o : Nat × Nat) : Bool :=
  (getStall s o.1).fetches.any (fun f => f.id == o.2 && !f.dead)

/-- R174, R181: how many held slots, from the head, may be released. -/
def releasable (s : State) : List HeldSlot → Nat
  | [] => 0
  | h :: t => if h.returned && !h.ops.any (opLive s) then releasable s t + 1 else 0

/-- A consumer's finished slots are released in order. -/
def sidSweep (s : State) (d i : Nat) : State := sidRelease s d i (releasable s (getSid s d i).held)

/-- Every siding of a die. -/
def sidSweepDie (s : State) (d : Nat) : State :=
  (s.sid.filter (fun x => x.1 / 256 == d)).foldl (fun s x => sidSweep s d (x.1 % 256)) s

/-- R180: an operation's vectors are no longer needed: its buffer space, and its place in the fetch order, are given up. A
fetch not yet complete goes on and its vectors are dropped (DEDUCED: log entry 70). -/
def Stall.release (x : Stall) (id : Nat) : Stall :=
  { x with
    fetches := x.fetches.filterMap (fun f =>
      if f.id = id then (if f.vecs.length = f.need then none else some { f with dead := true, bytes := 0 }) else some f)
    toFetch := x.toFetch.filter (fun q => q.id != id) }

/-- R180, R181: operation `id` of stall `k` gives up its vectors; its siding slots are released. -/
def dropVectors (s : State) (k id : Nat) : State :=
  sidSweepDie (putStall s k ((getStall s k).release id)) (k / 4)

end Sys2Proof.Machine
end

