-- ==== Sys2Proof/Machine/StallOps.lean ====
section
/-! DEFINITION. Shared operations of the stalls: forming a tile's codes, the column results, the trough, the scale check and
its retry, voids, cuts, and the writes of the stall's control registers (chapters 03 and 04). -/
namespace Sys2Proof.Machine

/-- R18: the compute die above stall `k`. -/
def stallDie (k : Nat) : Nat := k / 4

/-- R129: the UNIT of a stall's events. -/
def stallUnit (k : Nat) : Nat := unitOf 0 k

/-- R62, R64: the largest E among blocks that are neither zero nor poisoned; 0 when there is none. -/
def maxExp (bs : List Block) : Nat :=
  bs.foldl (fun a b => if b.e = 0 ∨ b.e = 255 then a else max a b.e) 0

/-- R36: the most negative mantissa is replaced by its negated opposite at a stall. -/
def stallMant (w : Nat) (m : Int) : Int := if m = -(2 ^ (w - 1)) then m + 1 else m

/-- R67: the grid value of a mantissa of width `w` (4 or 8) in a block `sp` steps below E_T. -/
def gridValue (w : Nat) (sp : Nat) (m : Int) : Int :=
  roundInt .rne 0 (stallMant w m) ((if w = 4 then 6 else 2) - (sp : Int))

/-- R70, R128: entry `i` of the transfer table of stall `k`. -/
def transferAt (s : State) (k i : Nat) : Nat :=
  bitsOf (rdReg s (Reg.STL_XFER.addr k (i / 2) 0)).toNat (16 * (i % 2)) 9

/-- R71, R128: the gain and offset trims of cell `c` of stall `k`. -/
def trimAt (s : State) (k c : Nat) : Int × Int :=
  let v := (rdReg s (Reg.STL_TRIM.addr k (c / 2) 0)).toNat / 2 ^ (16 * (c % 2))
  (sext 8 v, sext 6 (v / 256))

/-- R69: the cell code for a grid value, a table entry and the cell's trims. -/
def cellCode (q : Int) (t : Nat) (gamma delta : Int) : Nat :=
  if q = 0 then 0
  else
    let mag := clampI 1 511 (roundInt .rne 0 ((t : Int) * (1024 + gamma)) (-10) + delta)
    (if q < 0 then 512 else 0) + mag.toNat

/-- The grid values of one block, by cell 128n + k; zero values unlisted. -/
def blockGrid (w et t : Nat) (b : Block) : NMap Int :=
  if b.e = 0 ∨ b.e = 255 ∨ 7 ≤ et - b.e then []
  else
    (List.zip (List.range 32) b.m).filterMap (fun x =>
      let q := gridValue w (et - b.e) x.2
      if q = 0 then none else some (128 * (t / 4) + 32 * (t % 4) + x.1, q))

/-- R62, R64, R67, R69 (Table 3.4): what the load front end forms from a tile. -/
def formTile (s : State) (k seq : Nat) (tl : Tile) : NodeTile :=
  let et := maxExp (tl.blocks.map (·.2))
  let w := if tl.fmt = 0 then 4 else 8
  let q := tl.blocks.flatMap (fun x => blockGrid w et x.1 x.2)
  { seq := seq
    et := if et = 0 then 127 else et
    dark := et == 0
    fmt := tl.fmt
    pois := (tl.blocks.filter (fun x => x.2.e == 255)).map (·.1)
    q := q
    codes := q.map (fun x =>
      let g := trimAt s k x.1
      (x.1, cellCode x.2 (transferAt s k x.2.natAbs) g.1 g.2)) }

/-- R62: how many blocks of the tile are loaded dark by underflow. -/
def weightUnderflows (tl : Tile) : Nat :=
  let et := maxExp (tl.blocks.map (·.2))
  (tl.blocks.filter (fun x => x.2.e != 0 && x.2.e != 255 && decide (7 ≤ et - x.2.e))).length

/-- R81, Table 3.5: the hold refresh interval of a band in S-cycles. -/
def refreshInterval (band : Nat) : Nat := [450000, 270000, 135000, 67500].getD band 33750

/-- The active and the idle hold node. -/
def Stall.active (x : Stall) : HoldNode := if x.activeB then x.nodeB else x.nodeA
def Stall.idle (x : Stall) : HoldNode := if x.activeB then x.nodeA else x.nodeB

/-- Replace a hold node. -/
def Stall.setNode (x : Stall) (b : Bool) (n : HoldNode) : Stall :=
  if b then { x with nodeB := n } else { x with nodeA := n }

/-- R81: a node is refreshed while it holds a tile and is active or awaits commit. -/
def Stall.refreshed (x : Stall) (b : Bool) : Bool :=
  (if b then x.nodeB else x.nodeA).loaded && (b == x.activeB || x.awaiting)

/-- R64, R80: the tile a tile operation sees under the active node; grounded cells are a dark tile. -/
def Stall.activeTile (x : Stall) : NodeTile := if x.active.loaded then x.active.tile else {}

/-- R123: issue may begin or resume work: no hold, and neither stopped nor cutting. -/
def Stall.mayIssue (x : Stall) : Bool :=
  (x.state == .run || (x.state == .stopping && !x.cutting)) && x.thm.isEmpty && x.lte.isEmpty && !x.farOwns

/-- The issue port and the load front end accept (R121, R123, Table 4.6, R343) (DEDUCED: log entry 43). -/
def Stall.accepts (x : Stall) : Bool := x.state == .run && !x.far && x.thm.isEmpty && x.lte.isEmpty

/-- R117: the retry records in use, of the two there are. -/
def Stall.recordsUsed (x : Stall) : Nat := min 2 (x.retries.length + x.drain.length)

/-- R364: the pause in force on stall `k`: the demand's, the band's minimum, the hold-off's. -/
def stallPause (s : State) (k : Nat) : Nat :=
  let d := stallDie k
  let band := bitsOf (getF s Fld.THM_STATUS_BAND) (3 * d) 3
  max (getF s Fld.PWR_DEMAND_PAUSE)
    (max (if 4 ≤ band then 32 else 0) (if bitOf (getF s Fld.THM_STATUS_HOLDOFF) d then inForce s Fld.THM_HOLDOFF_PAUSE else 0))

/-- R371, Table 14.8: the drive waveform of the band that has reached stall `k`. -/
def waveOf (s : State) (k : Nat) : Nat := [0, 0, 1].getD (getStall s k).band 2

/-- R364: the pause of stall `k` has passed since the last item's modulation ended, at 2.25 S-cycles a nanosecond of TIME
(DEDUCED: log entry 179). -/
def pauseOver (s : State) (k : Nat) : Bool :=
  match (getStall s k).darkFrom with
  | none => true
  | some t => decide (stallPause s k * 4 ≤ (s.time - t).toNat * 9)

/-- R63: E_X of a vector; 0 when every block is zero or poisoned. -/
def InVec.ex (v : InVec) : Nat := maxExp v.blocks

/-- Whether a vector holds a poisoned block (R113). -/
def InVec.poisoned (v : InVec) : Bool := v.blocks.any (·.e == 255)

/-- R63: the blocks of a vector that are modulated as zero by underflow. -/
def InVec.underflows (v : InVec) : Nat :=
  (v.blocks.filter (fun b => b.e != 0 && b.e != 255 && decide (3 ≤ v.ex - b.e))).length

/-- Which pass of an operation: a BX4 input's only pass, or the high or low pass of R108. -/
inductive Slice
  | single | high | low
  deriving DecidableEq, Repr

/-- R85, R108: the 128 modulator grid values of a vector in a pass. -/
def InVec.grid (v : InVec) (sl : Slice) : List Int :=
  v.blocks.flatMap (fun b =>
    if b.e = 0 ∨ b.e = 255 ∨ 3 ≤ v.ex - b.e then List.replicate 32 0
    else b.m.map (fun m =>
      let p := stallMant (if sl = .single then 4 else 8) m * 2 ^ (2 - (v.ex - b.e))
      let lo := (p + 16) % 32 - 16
      match sl with
      | .single => p
      | .high => (p - lo) / 32
      | .low => lo))

/-- The pass an operation runs: `low` says which of two. -/
def sliceOf (d : TileOp) (low : Bool) : Slice :=
  if d.xfmt = 0 then .single else if low then .low else .high

/-- R89: Σ q·p over the cells of lane `c`. Forward (rev = false): far lane n = c; reverse: near lane k = c. -/
def laneSum (rev : Bool) (q : NMap Int) (p : List Int) (c : Nat) : Int :=
  q.foldl (fun a x =>
    let n := x.1 / 128
    let k := x.1 % 128
    if rev then (if k = c then a + x.2 * p.getD n 0 else a)
    else if n = c then a + x.2 * p.getD k 0 else a) 0

/-- One output of a pass: poisoned (R113), exactly +0 (R64), or a column sum, in units of 2^−34 of S, with its lane's threshold. -/
inductive Out
  | poison
  | zero
  | sum (x thr : Int)
  deriving DecidableEq, Repr

/-- R89: the converted code at gain step `g`. -/
def convCode (x thr : Int) (g : Nat) : Int :=
  clampI (-512) 511 (roundInt .rne 0 (x + thr * 2 ^ (29 - g)) ((g : Int) - 32))

/-- R499: the quantity 4 × S × 2^g + thr/8 lies within ±383. -/
def withinRange (x thr : Int) (g : Nat) : Bool :=
  decide ((x + thr * 2 ^ (29 - g)).natAbs ≤ 383 * 2 ^ (32 - g))

/-- R89: a clip code. -/
def isClip (c : Int) : Bool := c == -512 || c == 511

/-- R113: whether the tile's poison map poisons lane `c`. -/
def lanePoisoned (rev : Bool) (pois : List Nat) (c : Nat) : Bool :=
  if rev then pois.any (fun t => t % 4 == c / 32) else pois.any (fun t => t / 4 == c)

/-- The output of vector `i`, lane `c` of a pass; `draw` numbers the analogue sample (DESIGN CHOICE: log entry 5). -/
def outputOf (o : OpRun) (sl : Slice) (draw i c : Nat) : Out :=
  let v := o.vecs.getD i {}
  let rev := o.d.op == 2
  if v.poisoned || lanePoisoned rev o.tile.pois c then .poison
  else if o.tile.dark || v.ex == 0 then .zero
  else .sum (laneSum rev o.tile.q (v.grid sl) c * 2 ^ 20 + Config.analogError draw c i) (o.thr.getD c 0)

/-- The outputs of vectors `v0` to `v1 − 1` of a pass, each with its vector and lane. -/
def passOutputs (o : OpRun) (sl : Slice) (draw v0 v1 : Nat) : List (Nat × Nat × Out) :=
  (List.range (v1 - v0)).flatMap (fun j =>
    (List.range 128).map (fun c => (v0 + j, c, outputOf o sl draw (v0 + j) c)))

/-- R90, R108: the exponent of a code's value in a pass at gain step `g`. -/
def outExp (o : OpRun) (sl : Slice) (i g : Nat) : Int :=
  let ex := (o.vecs.getD i {}).ex
  (o.tile.et : Int) + (ex : Int) - 254 - (g : Int) +
    (match sl with
     | .single => 0
     | .high => 1
     | .low => -4)

/-- R95: the binary32 sum of a trough entry and a contribution; `nan` gives sign and payload where ∞ − ∞ makes a NaN. -/
def troughAdd (entry contrib nan : Nat) : Nat :=
  match fpDecode 24 entry, fpDecode 24 contrib with
  | .nan _, _ => entry
  | _, .nan _ => contrib
  | .inf a, .inf b => if a = b then entry else (nan % 2 ^ 32) ||| 0x7FC00000
  | .inf _, _ => entry
  | _, .inf _ => contrib
  | a, b => (fpRoundDy 24 (a.neg && b.neg) (a.dy.add b.dy)).bits

/-- R94: the trough index of slot `v`, column `c`. -/
def troughIx (slot c : Nat) : Nat := slot * 128 + c

/-- A trough entry. -/
def Stall.troughAt (x : Stall) (ix : Nat) : W32 := nmGet (fun _ => 0) x.trough ix

/-- Store a trough entry. -/
def Stall.setTrough (x : Stall) (ix : Nat) (v : Nat) : Stall :=
  { x with trough := nmPut (fun _ => 0) x.trough ix (BitVec.ofNat 32 v) }

/-- R95: the contribution of one output in binary32. -/
def contribution (o : OpRun) (sl : Slice) (g : Nat) (i : Nat) : Out → Nat
  | .poison => 0x7FC00000
  | .zero => 0
  | .sum x thr => (fpRoundDy 24 false ⟨convCode x thr g, outExp o sl i g⟩).bits

/-- R110: one output reaches its slot; `over` overwrites. -/
def Stall.deliver (x : Stall) (o : OpRun) (sl : Slice) (g : Nat) (ovr : Bool) (draw : Nat) (e : Nat × Nat × Out) : Stall :=
  let ix := troughIx (o.d.slot + e.1) e.2.1
  let c := contribution o sl g e.1 e.2.2
  if ovr then x.setTrough ix c
  else x.setTrough ix (troughAdd (x.troughAt ix).toNat c (Config.nanBits draw ix))

/-- R115: the difference of a retried output reaches its slot. -/
def Stall.deliverDiff (x : Stall) (o : OpRun) (sl : Slice) (g gStar : Nat) (orig : NMap Int) (draw : Nat)
    (e : Nat × Nat × Out) : Stall :=
  match e.2.2, nmFind orig (e.1 * 128 + e.2.1) with
  | .sum a thr, some c0 =>
    let ix := troughIx (o.d.slot + e.1) e.2.1
    let d := (Dy.mk (convCode a thr gStar) (outExp o sl e.1 gStar)).add ⟨-c0, outExp o sl e.1 g⟩
    let c := (fpRoundDy 24 false d).bits
    x.setTrough ix (troughAdd (x.troughAt ix).toNat c (Config.nanBits draw ix))
  | _, _ => x

/-- The statistics of R114 over a list of outputs at gain step `g`. -/
structure PassStats where
  nOut : Nat := 0
  nClip : Nat := 0
  nBig : Nat := 0
  peak : Nat := 0
  poison : Bool := false
  deriving DecidableEq, Repr

/-- One output counted. -/
def PassStats.count (g : Nat) (p : PassStats) (e : Nat × Nat × Out) : PassStats :=
  match e.2.2 with
  | .poison => { p with poison := true }
  | .zero => p
  | .sum x thr =>
    let c := convCode x thr g
    { nOut := p.nOut + 1, nClip := p.nClip + b01 (isClip c), nBig := p.nBig + b01 (decide (8 ≤ c.natAbs)),
      peak := max p.peak c.natAbs, poison := p.poison }

/-- The statistics of a pass. -/
def passStats (g : Nat) (es : List (Nat × Nat × Out)) : PassStats := es.foldl (PassStats.count g) {}

/-- R114: 0 no miss, 1 clip miss, 2 low-peak miss. -/
def missKind (g nOut nClip nBig : Nat) : Nat :=
  if nOut = 0 then 0 else if nOut < nClip * 256 then 1 else if g < 7 ∧ nBig = 0 then 2 else 0

/-- R499: the highest step at which every output of the pass reads within ±383, or G0. -/
def gStarOf (es : List (Nat × Nat × Out)) : Nat :=
  (([7, 6, 5, 4, 3, 2, 1].find? (fun g => es.all (fun e =>
    match e.2.2 with
    | .sum x thr => withinRange x thr g
    | _ => true))).getD 0)

/-- R115: the original codes a retry replaces: the clipped outputs, or all of them. -/
def origCodes (g : Nat) (clipOnly : Bool) (es : List (Nat × Nat × Out)) : NMap Int :=
  es.filterMap (fun e =>
    match e.2.2 with
    | .sum x thr =>
      let c := convCode x thr g
      if clipOnly && !isClip c then none else some (e.1 * 128 + e.2.1, c)
    | _ => none)

/-- R116, Table 4.8: STL_LASTMISS. -/
def setLastMiss (s : State) (k : Nat) (d : TileOp) (low : Bool) (gRetry kind : Nat) (second : Bool) : State :=
  wrReg s (Reg.STL_LASTMISS.addr k 0 0) (BitVec.ofNat 64 (packDetail [(0, d.tag), (16, b01 low), (17, d.gain), (20, gRetry),
    (23, kind - 1), (24, b01 second)]))

/-- R116: a second miss: counted, flagged, reported. -/
def secondMiss (s : State) (k : Nat) (d : TileOp) (low : Bool) (gRetry kind clipped : Nat) : State :=
  let s := bumpF s Fld.STL_SMISS2_COUNT 1 k
  let s := setF s Fld.STL_ERR_MISS2 1 k
  let s := setLastMiss s k d low gRetry kind true
  raiseEv s 0x1001 (stallUnit k) 0 (packDetail [(0, d.tag), (16, b01 low), (17, d.gain), (20, gRetry), (23, kind - 1), (24, clipped)])

/-- STL_CLIP, STL_PEAK and STL_ERR.POISON_OUT after a pass or a retry (Table 4.9, R113). -/
def countOutputs (s : State) (k : Nat) (p : PassStats) : State :=
  let s := bumpF s Fld.STL_CLIP_COUNT p.nClip k
  let s := if getF s Fld.STL_PEAK_PEAK k < p.peak then setF s Fld.STL_PEAK_PEAK p.peak k else s
  if p.poison then setF s Fld.STL_ERR_POISON_OUT 1 k else s

/-- R119: an operation, or part of one, is voided. -/
def voidEvent (s : State) (k : Nat) (tag cause vDone : Nat) (reissued : Bool) : State :=
  let s := bumpF s Fld.STL_VOID_COUNT 1 k
  let s := setF (setF s Fld.STL_LASTVOID_TAG tag k) Fld.STL_LASTVOID_CAUSE cause k
  let s := setF s Fld.STL_ERR_VOID 1 k
  raiseEv s 0x1002 (stallUnit k) 0 (packDetail [(0, tag), (16, cause), (19, vDone), (32, b01 reissued)])

/-- An operation voided without reissue (R119): it never completes, and its vectors are given up. -/
def voidOp (s : State) (k id tag cause vDone : Nat) : State :=
  voidEvent (dropVectors s k id) k tag cause vDone false

/-- Void every operation of a list, in order (DEDUCED: log entry 39). -/
def voidOps (s : State) (k cause : Nat) (os : List (Nat × Nat × Nat)) : State :=
  os.foldl (fun s o => voidOp s k o.1 o.2.1 cause o.2.2) s

/-- R114, R116: the scale check of an original pass over outputs `es` of vectors `v0` to `v1 − 1`. -/
def checkPass (s : State) (k : Nat) (o : OpRun) (v0 v1 : Nat) (es : List (Nat × Nat × Out)) (p : PassStats) : State :=
  let kind := missKind o.d.gain p.nOut p.nClip p.nBig
  if kind = 0 ∨ 2 ≤ o.d.sck then s
  else
    let s := bumpF s Fld.STL_SMISS_COUNT 1 k
    if o.d.sck = 1 then secondMiss s k o.d o.low o.d.gain kind p.nClip
    else
      let g := gStarOf es
      let s := setLastMiss s k o.d o.low g kind false
      let x := getStall s k
      let r : Retry :=
        { o := o, low := o.low, clipMiss := kind == 1, gStar := g, orig := origCodes o.d.gain (kind == 1) es,
          vFrom := v0, vTo := v1, vDone := 0, running := false }
      putStall s k { x with retries := x.retries ++ [r] }

/-- R89 to R95, R110, R114: vectors `o.vDone` to `v1 − 1` of the running pass of operation `o` are converted and reach the trough.
(DEDUCED: log entry 41). -/
def runVectors (s : State) (k : Nat) (o : OpRun) (v1 : Nat) : State :=
  let sl := sliceOf o.d o.low
  let draw := s.freeCtr
  let es := passOutputs o sl draw o.vDone v1
  let ovr := !o.d.acc && !(o.low && o.d.slice == 0)
  let p := passStats o.d.gain es
  let x := es.foldl (fun x e => x.deliver o sl o.d.gain ovr draw e) (getStall s k)
  let s := countOutputs (putStall (drawn s) k x) k p
  checkPass s k o o.vDone v1 es p

/-- Whether an operation has a low pass still to run after its present pass. -/
def OpRun.hasLow (o : OpRun) : Bool := o.d.xfmt != 0 && o.d.slice == 0 && !o.low

/-- R120: work of the head of the issue port goes on: a retry first; then the remainder, once its pause has `ended` (R364), or the
next pass. -/
def Stall.resume (x : Stall) (ended : Bool) : Stall :=
  match x.issue with
  | [] => x
  | o :: t =>
    if x.mayIssue && x.retries.isEmpty && o.begun && !x.modulating && (ended || !o.remainder) then
      { x with modulating := true, issue := { o with remainder := false } :: t }
    else x

/-- The present pass of the head of the issue port has run all its vectors: the low pass follows, or the operation leaves the port. -/
def Stall.passDone (x : Stall) (o : OpRun) (rest : List OpRun) (hold : Bool) : Stall :=
  if o.hasLow then
    { x with modulating := false, issue := { o with low := true, vDone := 0, remainder := hold } :: rest }
  else { x with modulating := false, issue := rest, finishing := x.finishing ++ [{ o with vDone := o.n }] }

/-- The modulators of stall `k` go dark, and the records of operation `id` free: the differences of its earlier retries have been
added (R117) (DEDUCED: log entry 41). -/
def Stall.dark (x : Stall) (id : Nat) (time : W64) : Stall :=
  { x with darkFrom := some time, drain := x.drain.filter (· != id) }

/-- Work of stall `k` goes on where it may. -/
def resumeStall (s : State) (k : Nat) : State := putStall s k ((getStall s k).resume (pauseOver s k))

/-- PASS_END of an original pass (DEDUCED: log entry 40). -/
def endPass (s : State) (k : Nat) : State :=
  match (getStall s k).issue with
  | [] => s
  | o :: rest =>
    let s := runVectors s k o o.n
    resumeStall (putStall s k (((getStall s k).passDone o rest false).dark o.id s.time)) k

/-- R115, R116: vectors of a retry up to `v1` are converted at G* and their differences reach the trough. -/
def runRetry (s : State) (k : Nat) (r : Retry) (v1 : Nat) : State × Retry :=
  let sl := sliceOf r.o.d r.low
  let draw := s.freeCtr
  let es := passOutputs r.o sl draw (r.vFrom + r.vDone) v1
  let p := passStats r.gStar es
  let x := es.foldl (fun x e => x.deliverDiff r.o sl r.o.d.gain r.gStar r.orig draw e) (getStall s k)
  (countOutputs (putStall (drawn s) k x) k p,
   { r with vDone := v1 - r.vFrom, nOut := r.nOut + p.nOut, nClip := r.nClip + p.nClip, nBig := r.nBig + p.nBig })

/-- PASS_END of a retry: its own check, at the step it ran at (DEDUCED: log entry 180); its record is held until its last difference
has been added. -/
def endRetry (s : State) (k : Nat) : State :=
  match (getStall s k).retries with
  | [] => s
  | r :: rest =>
    let sr := runRetry s k r r.vTo
    let kind := missKind r.gStar sr.2.nOut sr.2.nClip sr.2.nBig
    let s := if kind = 0 then sr.1 else secondMiss sr.1 k r.o.d r.low r.gStar kind sr.2.nClip
    let x := (getStall s k).dark r.o.id s.time
    resumeStall (putStall s k { x with retries := rest, drain := x.drain ++ [r.o.id] }) k

/-- R118: a halt cuts the running pass or retry of stall `k`; `cause` is 5, 6 or 7 of Table 4.5.
(DESIGN CHOICE: log entry 6; DEDUCED: log entry 42; DEDUCED: log entry 233). -/
def haltStall (s : State) (k cause : Nat) : State :=
  let x := getStall s k
  match x.retries with
  | r :: rest =>
    if r.running then
      let v1 := r.vFrom + r.vDone + 1 + Config.cutPoint s.freeCtr % (r.vTo - r.vFrom - r.vDone)
      if r.vTo ≤ v1 then endRetry s k
      else
        let sr := runRetry s k r v1
        let x := getStall sr.1 k
        putStall sr.1 k { x with retries := { sr.2 with running := false } :: rest, darkFrom := some s.time }
    else s
  | [] =>
    match x.issue with
    | [] => s
    | o :: rest =>
      if x.modulating then
        let v1 := min o.n (o.vDone + 1 + Config.cutPoint s.freeCtr % (o.n - o.vDone))
        let s := runVectors s k o v1
        let x := { getStall s k with darkFrom := some s.time }
        if v1 < o.n then
          let s := putStall s k { x with modulating := false, issue := { o with vDone := v1, remainder := true } :: rest }
          voidEvent s k o.d.tag cause v1 true
        else
          let s := putStall s k (x.passDone o rest true)
          if o.hasLow then voidEvent s k o.d.tag cause o.n true else s
      else s

/-- R347: the farrier rewrites the nodes of stall `k` that hold a tile from its code buffers, which counts as their refresh. -/
def restoreNodes (s : State) (k : Nat) : State :=
  let x := getStall s k
  putStall s k { x with nodeA := { x.nodeA with due := false }, nodeB := { x.nodeB with due := false } }

/-- R349: a hold sets during an attempt of the farrier on stall `k`: the attempt is abandoned, and the nodes
restored. -/
def farInterrupt (s : State) (k : Nat) : State :=
  match s.far.work with
  | some w =>
    if w.stall = k ∧ w.owns ∧ w.reint = false then
      { restoreNodes s k with far := { s.far with work := some { w with abandoned := true } } }
    else s
  | none => s

/-- A hold from the power and thermal block begins (R123): a running pass is cut with cause 5. -/
def holdThm (s : State) (k : Nat) (why : ThmWhy) : State :=
  let x := getStall s k
  let s := if x.thm.contains why then s else putStall s k { x with thm := x.thm ++ [why], thmDone := false }
  farInterrupt (haltStall s k 5) k

/-- A hold from the power and thermal block ends; issue resumes under R120 when no hold is left. -/
def releaseThm (s : State) (k : Nat) (why : ThmWhy) : State :=
  let x := getStall s k
  resumeStall (putStall s k { x with thm := x.thm.filter (· != why) }) k

/-- A hold from the light block begins: a running pass is cut with cause 6. -/
def holdLte (s : State) (k : Nat) (why : LteWhy) : State :=
  let x := getStall s k
  let s := if x.lte.contains why then s else putStall s k { x with lte := x.lte ++ [why] }
  farInterrupt (haltStall s k 6) k

/-- A hold from the light block ends. -/
def releaseLte (s : State) (k : Nat) (why : LteWhy) : State :=
  let x := getStall s k
  resumeStall (putStall s k { x with lte := x.lte.filter (· != why) }) k

/-- Whether a retry or a remainder waits (R124). -/
def Stall.waits (x : Stall) : Bool := !x.retries.isEmpty || x.issue.any (·.remainder)

/-- R124: STATE is STOPPED or OFFLINE, or the farrier's hold stands for it in the farrier's own writes. -/
def Stall.still (x : Stall) (req : Requester) : Bool :=
  x.state == .stopped || x.state == .offline || (x.far && req == .farrier)

/-- R124: a refused configuration or reset write. -/
def refuseStall (s : State) (k : Nat) : State :=
  let x := getStall s k
  let s := setF s Fld.STL_ERR_CFG_REFUSED 1 k
  raiseEv s 0x1003 (stallUnit k) 0
    (packDetail [(0, b01 (x.state != .stopped)), (1, b01 (!x.issue.isEmpty)), (2, b01 x.waits)])

/-- R80, R125: both hold nodes grounded, the staging buffer discarded, the cursor on the dark cells. -/
def Stall.ground (x : Stall) : Stall :=
  { x with nodeA := {}, nodeB := {}, awaiting := false, staged := [], strings := .free,
           cursor := x.tilesIn - x.buffer.length, actSeq := x.tilesIn - x.buffer.length }

/-- R124, R125, R127, R98: a write of STL_CFG. -/
def stlCfgWrite (s : State) (req : Requester) (k v : Nat) : State :=
  let x := getStall s k
  if x.still req && x.issue.isEmpty && !x.waits then
    let range := v % 2
    let off := bitOf v 1
    let s := if getF s Fld.STL_CFG_RANGE k = range then s else putStall s k x.ground
    let s := setF (setF s Fld.STL_CFG_RANGE range k) Fld.STL_CFG_OFFLINE (b01 off) k
    let x := getStall s k
    if off then
      let s := putStall s k { x with state := .offline, entry := [] }
      voidOps s k 4 (x.entry.map (fun q => (q.id, q.d.tag, 0)))
    else if x.state = .offline then putStall s k { x with state := .stopped } else s
  else refuseStall s k

/-- R125: a write of STL_RESET. -/
def stlResetWrite (s : State) (req : Requester) (k v : Nat) : State :=
  let x := getStall s k
  if x.still req then
    if bitOf v 0 then
      let waiting := x.finishing.filter (fun o => x.retries.any (fun r => r.o.id == o.id))
      let left := x.finishing.filter (fun o => !x.retries.any (fun r => r.o.id == o.id))
      let s := putStall s k
        { x.ground with
          buffer := [], cursor := x.tilesIn, actSeq := x.tilesIn, retries := [], drain := [], issue := [],
          modulating := false, lastDir := false, finishing := left }
      voidOps s k 4 (waiting.map (fun o => (o.id, o.d.tag, o.n)) ++ x.issue.map (fun o => (o.id, o.d.tag, o.vDone)))
    else s
  else refuseStall s k

/-- R121, R122, R123: a write of STL_CTRL. -/
def stlCtrlWrite (s : State) (k : Nat) (start stop cut : Bool) : State :=
  let x := getStall s k
  if stop then
    if x.state = .run ∨ (x.state = .stopping ∧ cut) then
      let s := putStall s k { x with state := .stopping, cutting := x.cutting || cut }
      if cut then haltStall s k 7 else s
    else s
  else if start && x.state == .stopped then
    resumeStall (putStall s k { x with state := .run, cutting := false }) k
  else s

/-- R343, R346: HOLD_FAR clears, and work goes on. -/
def releaseFar (s : State) (k : Nat) : State :=
  resumeStall (putStall s k { getStall s k with far := false, farOwns := false, farKept := false }) k

/-- R346, R348: the farrier lets stall `k` go; HOLD_FAR of a stall it has marked DEGRADED stays (DEDUCED: log entry 215). -/
def letGo (s : State) (k : Nat) : State :=
  let x := getStall s k
  if x.farKept then putStall s k { x with farOwns := false } else releaseFar s k

/-- R127: ostler firmware's writes once the stall it takes out of service is STOPPED: RESET, OFFLINE, and RELEASE of a degraded one. -/
def retireEnds (s : State) (k : Nat) : State :=
  let x := getStall s k
  match x.retiring with
  | some degraded =>
    if x.state = .stopped then
      let s := stlResetWrite (putStall s k { x with retiring := none }) .ostler k 1
      let s := stlCfgWrite s .ostler k (getF s Fld.STL_CFG_RANGE k + 2)
      if degraded then releaseFar s k else s
    else s
  | none => s

/-- R127, R284: ostler firmware takes stall `k` out of service, beginning with STOP and CUT (DEDUCED: log entry 181). -/
def retireStall (s : State) (k : Nat) (degraded : Bool) : State :=
  let x := getStall s k
  if x.state = .offline then s
  else retireEnds (stlCtrlWrite (putStall s k { x with retiring := some degraded }) k false true true) k

/-- R119: the weight stream of stall `k` halts on scale skew. Operations that need a tile not complete, and all after them, are voided. -/
def weightSkew (s : State) (k : Nat) : State :=
  let x := getStall s k
  let good := x.issue.takeWhile (fun o => decide (o.tileSeq ≤ x.tilesIn))
  let bad := x.issue.drop good.length
  let s := putStall s k { x with weightVoid := true, voidHit := !bad.isEmpty, issue := good, cursor := min x.cursor x.tilesIn }
  voidOps s k 1 (bad.map (fun o => (o.id, o.d.tag, 0)))

/-- R119: the input stream of stall `k` halts on scale skew. -/
def inputSkew (s : State) (k : Nat) : State :=
  let x := getStall s k
  let full := fun (o : OpRun) => o.begun || x.fetches.any (fun f => f.id == o.id && f.vecs.length == f.need)
  let good := x.issue.takeWhile full
  let rest := x.issue.drop good.length
  match rest with
  | [] => putStall s k { x with inputVoid := true }
  | o :: more =>
    let got := ((x.fetches.find? (fun f => f.id == o.id)).map (fun f => f.vecs.length)).getD 0
    if got = 0 then
      voidOps (putStall s k { x with inputVoid := true, issue := good }) k 2 (rest.map (fun o => (o.id, o.d.tag, 0)))
    else
      let s := putStall s k
        { x with
          inputVoid := true, issue := good ++ [{ o with n := got, never := true }],
          fetches := x.fetches.map (fun f => if f.id = o.id then { f with need := got } else f) }
      voidOps (voidEvent s k o.d.tag 2 got false) k 2 (more.map (fun o => (o.id, o.d.tag, 0)))

end Sys2Proof.Machine
end

