-- ==== Sys2Proof/Machine/FarrierOps.lean ====
section
/-! DEFINITION. Shared operations of the farrier (chapter 13): fields and their interpolation, the queue, holding a stall, attempts, and the
port lanes. Fields of a stall are numbered: 0 to 255 phase set-points (loop words); 256 to 383 and 384 to 511 input delays, near and far;
512 to 639 and 640 to 767 thresholds, near and far; 768 + i transfer entry i; 2000 + 2c and 2001 + 2c gain and offset of cell c. -/
namespace Sys2Proof.Machine

/-- Every field of a stall's set (Table 13.1). -/
def stallFields : List Nat := List.range 768 ++ (List.range 511).map (· + 769) ++ (List.range 32768).map (· + 2000)

def getFar (s : State) (k : Nat) : FarStall := nmGet (fun _ => {}) s.far.stall k
def putFar (s : State) (k : Nat) (x : FarStall) : State := { s with far := { s.far with stall := nmPut (fun _ => {}) s.far.stall k x } }

/-- FAR_STATUS.STATE. -/
def farRun : Nat := 0
def farStopping : Nat := 1
def farStopped : Nat := 2
def farState (s : State) : Nat := getF s Fld.FAR_STATUS_STATE

/-- R368: the temperature of die `g` in 1/16 °C. -/
def dieTemp (s : State) (g : Nat) : Int := sext 16 (getF s Fld.THM_DIE_T 0 g)

/-- A field's value at a stored point, or its residual. -/
def fieldAt (m : NMap Int) (f : Nat) : Int := nmGet (fun _ => 0) m f

/-- Whether a field is held as a loop word. -/
def isPhase (f : Nat) : Bool := decide (f < 256)

/-- R340: a field's range. -/
def fieldClamp (f : Nat) (v : Int) : Int :=
  if f < 256 then v else if f < 512 then clampI 0 63 v else if f < 768 then clampI (-128) 127 v
  else if f < 2000 then clampI 0 511 v else if f % 2 = 0 then clampI (-128) 127 v else clampI (-32) 31 v

/-- R339: the value between two points, `n` of 240 parts of the way. -/
def lerp (phase : Bool) (a b : Int) (n : Int) : Int :=
  if phase then
    let d := ((lwVal a.toNat).mul ⟨240 - n, 0⟩).add ((lwVal b.toNat).mul ⟨n, 0⟩)
    lwOfRat (if 0 ≤ d.e then d.m * 2 ^ d.e.toNat else d.m) (240 * (if 0 ≤ d.e then 1 else 2 ^ (-d.e).toNat))
  else ratRne (a * (240 - n) + b * n) 240

/-- R339: I(t) of a field of a set, `t` in 1/16 °C. -/
def interpAt (c : CalSet) (phase : Bool) (f : Nat) (t : Int) : Int :=
  let v := fun (i : Nat) => fieldAt (c.points.getD i []) f
  if t ≤ 560 then v 0
  else if 1520 ≤ t then v 4
  else
    let i := ((t - 560) / 240).toNat
    lerp phase (v i) (v (i + 1)) (t - 560 - 240 * i)

/-- R340: the sum of a field's value and its residual, and their difference; set-points as loop words. -/
def fieldAdd (phase : Bool) (a b : Int) : Int := if phase then lwOf ((lwVal a.toNat).add (lwVal b.toNat)) else a + b
def fieldSub (phase : Bool) (a b : Int) : Int := if phase then lwOf ((lwVal a.toNat).sub (lwVal b.toNat)) else a - b

/-- R340: the correction in force of a field of a stall's set at temperature `t`. -/
def correction (c : CalSet) (f : Nat) (t : Int) : Int :=
  fieldClamp f (fieldAdd (isPhase f) (interpAt c (isPhase f) f t) (fieldAt c.resid f))

/-- Write a byte lane of a trim register of four bytes. -/
def writeLane (s : State) (addr lane : Nat) (v : Int) : State := wrReg s addr (insBits (rdReg s addr) (8 * lane) 8 (wrapTo 8 v))

/-- Table 13.1: the farrier writes a field of stall `k`. -/
def writeField (s : State) (k f : Nat) (v : Int) : State :=
  if f < 256 then setF s Fld.RN_LP_SPK_SPK v.toNat k f
  else if f < 384 then writeLane s (Reg.STL_DLY_NEAR.addr k ((f - 256) / 4) 0) ((f - 256) % 4) v
  else if f < 512 then writeLane s (Reg.STL_DLY_FAR.addr k ((f - 384) / 4) 0) ((f - 384) % 4) v
  else if f < 640 then writeLane s (Reg.STL_THR_NEAR.addr k ((f - 512) / 4) 0) ((f - 512) % 4) v
  else if f < 768 then writeLane s (Reg.STL_THR_FAR.addr k ((f - 640) / 4) 0) ((f - 640) % 4) v
  else if f < 2000 then
    let a := Reg.STL_XFER.addr k ((f - 768) / 2) 0
    wrReg s a (insBits (rdReg s a) (16 * ((f - 768) % 2)) 9 v.toNat)
  else
    let c := (f - 2000) / 2
    let a := Reg.STL_TRIM.addr k (c / 2) 0
    wrReg s a (insBits (rdReg s a) (16 * (c % 2) + (if f % 2 = 0 then 0 else 8)) (if f % 2 = 0 then 8 else 6)
      (wrapTo (if f % 2 = 0 then 8 else 6) v))

/-- R340: a transfer table made non-decreasing: entries 1 to 511 in turn. -/
def risingTable : Int → List Int → List Int
  | _, [] => []
  | hi, v :: t => max hi v :: risingTable (max hi v) t

/-- R346: no swept set-points of stall `k` are left to be taken back. -/
def sweptStands (s : State) (k : Nat) : State :=
  { s with far := { s.far with work := s.far.work.map (fun w => if w.stall = k then { w with spk := [] } else w) } }

/-- R340, R337: the corrections of stall `k` at temperature `t` are written (DEDUCED: log entry 112). -/
def writeCorrections (s : State) (k : Nat) (t : Int) : State :=
  let c := (getFar s k).set
  let s := sweptStands s k
  let plain := stallFields.filter (fun f => decide (f < 768 ∨ 2000 ≤ f))
  let s := plain.foldl (fun s f => writeField s k f (correction c f t)) s
  let tab := risingTable 0 ((List.range 511).map (fun i => correction c (769 + i) t))
  let s := (List.zip (List.range 511) tab).foldl (fun s x => writeField s k (769 + x.1) x.2) s
  setF s Fld.FAR_STALL_TEMP_TWRITE (wrapTo 16 t) k

/-! The queue and the hold. -/

/-- R341: stall `k` is queued for a run. -/
def queueRun (s : State) (k : Nat) (asked byTemp : Bool) : State :=
  let x := getFar s k
  setF (putFar s k { x with run := true, asked := x.asked || asked, byTemp := byTemp || x.byTemp }) Fld.FAR_STALL_STATUS_QUEUED 1 k

/-- R341: stall `k`, not queued for a run, is queued for a re-interpolation. -/
def queueReint (s : State) (k : Nat) : State :=
  let x := getFar s k
  if x.run then s else setF (putFar s k { x with reint := true }) Fld.FAR_STALL_STATUS_QUEUED 1 k

/-- R348: the re-interpolation of stall `k` has been made; a run queued meanwhile stays queued. -/
def reintDone (s : State) (k : Nat) : State :=
  let x := getFar s k
  setF (putFar s k { x with reint := false, byTemp := x.byTemp && x.run }) Fld.FAR_STALL_STATUS_QUEUED (b01 x.run) k

/-- The stall leaves the queue. -/
def dequeue (s : State) (k : Nat) : State :=
  setF (putFar s k { getFar s k with run := false, reint := false, asked := false, byTemp := false }) Fld.FAR_STALL_STATUS_QUEUED 0 k

/-- R341: lane `j` of port `p` is queued. -/
def queueLane (s : State) (p j : Nat) : State :=
  let x := getFarPort s p
  if x.queue.contains j then s else putFarPort s p { x with queue := x.queue ++ [j] }

/-- R343: HOLD_FAR sets. -/
def holdFar (s : State) (k : Nat) : State := putStall s k { getStall s k with far := true }

/-- R343: the accepted work of a stall has ended. -/
def Stall.quiet (x : Stall) : Bool :=
  x.issue.isEmpty && x.retries.isEmpty && x.finishing.isEmpty && !x.modulating && x.strings == .free

/-- FAR_STATUS follows the work in progress; `step` is the step of Table 13.2. -/
def showWork (s : State) (w : Option FarWork) (step : Nat) : State :=
  let s := { s with far := { s.far with work := w } }
  match w with
  | some w => setF (setF (setF s Fld.FAR_STATUS_STALL w.stall) Fld.FAR_STATUS_STEP step) Fld.FAR_STATUS_ATTEMPT w.attempt
  | none => setF (setF (setF s Fld.FAR_STATUS_STALL 0x1F) Fld.FAR_STATUS_STEP 0) Fld.FAR_STATUS_ATTEMPT 0

/-- The work on stall `k` ends. -/
def endWork (s : State) (k : Nat) : State := showWork (setF s Fld.FAR_STALL_STATUS_ACTIVE 0 k) none 0

/-- R342: whether the farrier may begin work on a queued stall. -/
def farEligible (s : State) (k : Nat) : Bool :=
  let f := getFar s k
  let x := getStall s k
  (f.run || f.reint) && x.thm.isEmpty && x.lte.isEmpty && (x.state != .offline || (f.run && f.asked))

/-- R342: how far the die of a stall has moved since its last accepted run, or its last write. -/
def farDelta (s : State) (k : Nat) : Nat :=
  let t := dieTemp s (stallDie k)
  if (getFar s k).run then (t - sext 16 (getF s Fld.FAR_STALL_TEMP_TRUN k)).natAbs
  else (t - sext 16 (getF s Fld.FAR_STALL_TEMP_TWRITE k)).natAbs

/-- The first of a list with the largest measure. -/
def argMax (f : Nat → Nat) : List Nat → Option Nat
  | [] => none
  | a :: t => match argMax f t with
    | none => some a
    | some b => if f a < f b then some b else some a

/-- R342: the stall the farrier takes next. -/
def farPick (s : State) : Option Nat :=
  let c := (List.range 16).filter (farEligible s)
  match c.find? (fun k => (getStall s k).far) with
  | some k => some k
  | none =>
    match argMax (farDelta s) (c.filter (fun k => !(getFar s k).run || (getFar s k).byTemp)) with
    | some k => some k
    | none => c.head?

/-- FAR_STATUS.STEP. -/
def farStep (s : State) : Nat := getF s Fld.FAR_STATUS_STEP

/-- R344 step 3: the phase bank of stall `k` starts with BUMPLESS. -/
def startPhaseBank (s : State) (k : Nat) : State :=
  (List.range 256).foldl (fun s q => setF s Fld.RN_LP_CTRL_BUMPLESS 1 k q) (bankStart s k)

/-- R344 step 3: swept phase set-points are written; those in force before are kept for an attempt that is not accepted
(DEDUCED: log entry 244). -/
def writeSwept (s : State) (w : FarWork) (v : Nat → Int) : State × FarWork :=
  let w := if w.spk = [] then { w with spk := (List.range 256).map (fun q => getF s Fld.RN_LP_SPK_SPK w.stall q) } else w
  ((List.range 256).foldl (fun s q => writeField s w.stall q (v q)) s, w)

/-- R346: the set-points in force before step 3 are put back (DEDUCED: log entry 244). -/
def putBack (s : State) (w : FarWork) : State :=
  (List.zip (List.range 256) w.spk).foldl (fun s x => setF s Fld.RN_LP_SPK_SPK x.2 w.stall x.1) s

/-- R344: an attempt begins at step 2, which stops the stall's phase bank (DEDUCED: log entry 217). -/
def beginAttempt (s : State) (w : FarWork) : State :=
  let s := setF s Fld.RN_BANK_STATUS_STATE bankStopped 0 w.stall
  showWork s (some { w with owns := true, abandoned := false, calm := none, tr := none, began := s.time }) 2

/-- Table 13.2: when a step of an attempt ends, in ns from the start of step 2. -/
def stepEnd (step : Nat) : Nat :=
  match step with
  | 2 => 6000000
  | 3 => 7000000
  | 4 => 9000000
  | 5 => 10000000
  | 6 => 22000000
  | 7 => 37000000
  | _ => 39500000

/-- R344: step `step` of the attempt `w` ends, and the next one begins: step 3 writes the swept set-points, which are free until ATTEMPT_END
tells them, and starts the phase bank; step 4 reads Tr (DEDUCED: log entry 109; DEDUCED: log entry 244). -/
def nextStep (s : State) (w : FarWork) (step : Nat) : State :=
  match step with
  | 2 =>
    let x := writeSwept s w (fun q => ((Config.sweptSetPoint q s.freeCtr).toNat : Int))
    drawn (showWork (startPhaseBank x.1 w.stall) (some x.2) 3)
  | 3 => showWork s (some { w with tr := some (dieTemp s (stallDie w.stall)) }) 4
  | n => showWork s (some w) (n + 1)

/-- R344, R345: an attempt that is compared has made steps 2 to 7, whatever TIME says of it, with the swept set-points of measurement `a`; Tr is
the temperature step 4 read. -/
def stepsMade (s : State) (w : FarWork) (a : NMap Int) : State × FarWork × Int :=
  let x := writeSwept s w (fun q => fieldAt a q)
  let s := if farStep s = 2 then startPhaseBank x.1 w.stall else x.1
  (s, x.2, w.tr.getD (dieTemp s (stallDie w.stall)))

/-! Attempts. -/

/-- R345: the MAG code of a cell under a measurement, for grid magnitude `q`. -/
def measMag (m : NMap Int) (c q : Nat) : Int :=
  let t := fieldAt m (768 + q)
  clampI 1 511 (roundInt .rne 0 (t * (1024 + fieldAt m (2000 + 2 * c))) (-10) + fieldAt m (2001 + 2 * c))

/-- R345: the code differences of A and B over the cells at both magnitudes: worst, and the sum of squares. -/
def cellDiffs (a b : NMap Int) : Nat × Nat :=
  (List.range 16384).foldl (fun acc c =>
    let d1 := (measMag a c 64 - measMag b c 64).natAbs
    let d2 := (measMag a c 448 - measMag b c 448).natAbs
    (max acc.1 (max d1 d2), acc.2 + d1 * d1 + d2 * d2)) (0, 0)

/-- R345: whether the lanes of A and B agree: delays within 2 steps, thresholds within 4. -/
def lanesAgree (a b : NMap Int) : Bool :=
  (List.range 256).all (fun i => decide ((fieldAt a (256 + i) - fieldAt b (256 + i)).natAbs ≤ 2)) &&
  (List.range 256).all (fun i => decide ((fieldAt a (512 + i) - fieldAt b (512 + i)).natAbs ≤ 4))

/-- FAR_STALL_AGREE.RMS: the root mean square of 32,768 differences whose squares sum to `q`, in 1/64 code, saturating. -/
def rmsUnits (q : Nat) : Nat :=
  let r := ((List.range 256).filter (fun r => decide (r * r * 8 ≤ q))).length - 1
  min 255 (r + b01 (r * r * 8 != q && Config.roundUp q 8))

/-- R346, R354: why an attempt is rejected: 4 phase, 1 cells, 2 lanes, 3 reference column; 0 accepted (DEDUCED: log entry 108). -/
def attemptCause (a b : NMap Int) (phaseOk refOk : Bool) : Nat :=
  let d := cellDiffs a b
  if phaseOk = false then 4
  else if 2 < d.1 ∨ 8192 < d.2 then 1
  else if lanesAgree a b = false then 2
  else if refOk = false then 3
  else 0

/-- R345: the measured value of a field: the mean of A and B; a phase set-point is measured once (DESIGN CHOICE: log entry 107). -/
def measured (a b : NMap Int) (f : Nat) : Int :=
  if isPhase f then fieldAt a f else ratRne (fieldAt a f + fieldAt b f) 2

/-- A map from values by field. -/
def toMap (l : List (Nat × Int)) : NMap Int := l.foldl (fun m x => nmPut (fun _ => 0) m x.1 x.2) []

/-- R340, R352: a set after an accepted run at temperature `t` (DEDUCED: log entry 110). -/
def acceptSet (c : CalSet) (fields : List Nat) (phase : Nat → Bool) (m : Nat → Int) (t : Int) : CalSet :=
  if c.bad then
    let p := toMap (fields.map (fun f => (f, m f)))
    { c with
      points := [p, p, p, p, p], resid := [], changed := true, bad := false, storedPoints := some (c.storedPoints.getD c.points) }
  else
    { c with resid := toMap (fields.map (fun f => (f, fieldSub (phase f) (m f) (interpAt c (phase f) f t)))), changed := true }

/-- R350: the first run after power-on reset, or after a spare was taken, writes the string range. -/
def writeStringRange (s : State) (k : Nat) : State :=
  let x := getFar s k
  if x.rangeDue then
    putFar (stlCfgWrite s .farrier k (x.set.range % 2 + 2 * getF s Fld.STL_CFG_OFFLINE k)) k { x with rangeDue := false }
  else s

/-- R345, R344 steps 8 and 9: an attempt is accepted. -/
def acceptAttempt (s : State) (w : FarWork) (tr : Int) (a b : NMap Int) : State :=
  let k := w.stall
  let x := getFar s k
  let s := putFar s k { x with set := acceptSet x.set stallFields isPhase (measured a b) tr, written := true }
  let s := writeStringRange s k
  let s := writeCorrections s k tr
  let s := setF (setF s Fld.FAR_STALL_STATUS_CAL 1 k) Fld.FAR_STALL_STATUS_ATTEMPTS w.attempt k
  let s := setF (setF s Fld.FAR_STALL_TEMP_TRUN (wrapTo 16 tr) k) Fld.FAR_STALL_TIME_TIME s.time.toNat k
  let d := getF s Fld.FAR_DEGRADED_STALLS
  let s := setF s Fld.FAR_DEGRADED_STALLS (if bitOf d k then d - 2 ^ k else d)
  releaseFar (restoreNodes (endWork (dequeue (bumpF s Fld.FAR_RUNS_COUNT 1) k) k) k) k

/-- R346, R127, R350: an attempt is rejected; after the third the stall is DEGRADED, its first run has been made, and ostler firmware takes it
out of service. -/
def rejectAttempt (s : State) (w : FarWork) (cause rms worst : Nat) : State :=
  let k := w.stall
  let s := bumpF (putBack s w) Fld.FAR_REJECTS_COUNT 1
  let w := { w with spk := [] }
  let s := setF (setF s Fld.FAR_STALL_STATUS_ATTEMPTS w.attempt k) Fld.FAR_STALL_STATUS_CAUSE cause k
  let s := raiseEv s 0x8001 (unitOf 9 (1 + k)) 0
    (packDetail [(0, k), (4, w.attempt), (6, cause), (10, rms), (18, worst)])
  if 3 ≤ w.attempt then
    let s := setF s Fld.FAR_STALL_STATUS_CAL 2 k
    let s := setF s Fld.FAR_DEGRADED_STALLS (getF s Fld.FAR_DEGRADED_STALLS ||| 2 ^ k)
    let s := raiseEv s 0x8002 (unitOf 9 (1 + k)) 0 (packDetail [(0, k), (4, cause)])
    let s := restoreNodes (endWork (dequeue s k) k) k
    let s := putFar s k { getFar s k with rangeDue := false }
    retireStall (putStall s k { getStall s k with farOwns := false, farKept := true }) k true
  else beginAttempt s { w with attempt := w.attempt + 1 }

/-- R349: the work in progress is given up: set-points put back, nodes restored, HOLD_FAR cleared; the run stays queued. A phase bank that step 2 stopped starts
again (DESIGN CHOICE: log entry 213). -/
def dropWork (s : State) : State :=
  match s.far.work with
  | none => s
  | some w =>
    let s := if farStep s = 2 then startPhaseBank s w.stall else s
    let s := if w.owns && !w.reint then restoreNodes (putBack s w) w.stall else s
    letGo (endWork s w.stall) w.stall

/-- R349: a lane in the farrier's hands is handed back. -/
def dropLaneWork (s : State) (p : Nat) : State :=
  let x := getFarPort s p
  let q := getPort s p
  let s := putFarPort s p { x with lane := none, rejects := 0 }
  let s := if q.released.isSome then putPort s p { q with returned := true } else s
  setF s Fld.FAR_PORT_STATUS_ACTIVE 0 p

/-- R353: R349 has been applied to the work in progress. -/
def farStops (s : State) : State := setF (dropWork s) Fld.FAR_STATUS_STATE farStopped

/-- R349, R353: the farrier is stopped: it finishes the step in progress first (DEDUCED: log entry 111). -/
def farStop (s : State) : State :=
  if farState s = farRun then
    let s := (List.range 8).foldl dropLaneWork s
    if s.far.work.any (fun w => !w.abandoned) then setF s Fld.FAR_STATUS_STATE farStopping else farStops s
  else s

/-- R344: TIME has moved on: the attempt in progress goes on to its next step, or the farrier, STOPPING, stops between the two.
(DESIGN CHOICE: log entry 107). -/
def farTick (s : State) : State :=
  match s.far.work with
  | some w =>
    if w.abandoned then (if farState s = farStopping then farStops s else s)
    else if w.owns ∧ w.reint = false ∧ 2 ≤ farStep s ∧ farStep s ≤ 8 ∧ stepEnd (farStep s) ≤ (s.time - w.began).toNat then
      if farState s = farStopping then farStops s else nextStep s w (farStep s)
    else s
  | none => s

/-- R241, Table 8.7: bytes of ostler memory corrected meanwhile, which ECC_OCE counts; how many is open (UNVERIFIED: log entry 8). -/
def oceTick (s : State) : State :=
  if s.pwr.rails = .valid then drawn (bumpF s Fld.ECC_OCE_COUNT (Config.oceCorrected s.freeCtr)) else s

/-- R17: with no command waiting, 1 ns passes (log entry 1). -/
def tick (s : State) : State := farTick (oceTick { s with time := s.time + 1 })

/-- R352: the stored set of a stall, or of a port, is read at start-up. -/
def readStallSet (s : State) (k : Nat) : State :=
  let x := getFar s k
  if x.set.bad || Config.setFails k s.freeCtr then
    raiseEv (putFar s k { x with set := { x.set with bad := true } }) 0x8004 (unitOf 9 (1 + k)) 0 (packDetail [(0, k)])
  else s

def readPortSet (s : State) (p : Nat) : State :=
  let x := getFarPort s p
  if x.set.bad || Config.setFails (16 + p) s.freeCtr then
    raiseEv (putFarPort s p { x with set := { x.set with bad := true } }) 0x8004 (unitOf 9 (32 + p)) 0 (packDetail [(0, p), (4, 1)])
  else s

/-- R352: the stored sets are read at the first start after power-on reset (DESIGN CHOICE: log entry 212). -/
def readSets (s : State) : State :=
  if s.far.setsRead then s
  else
    let s := (List.range 8).foldl readPortSet ((List.range 16).foldl readStallSet s)
    drawn { s with far := { s.far with setsRead := true } }

/-- R353, R342, R341: the farrier is started. -/
def farStart (s : State) : State :=
  if farState s = farStopped then
    let s := setF (readSets s) Fld.FAR_STATUS_STATE farRun
    let s := (List.range 16).foldl (fun s k =>
      if getF s Fld.FAR_STALL_STATUS_CAL k = 0 then queueRun (holdFar s k) k false false else s) s
    (List.range 8).foldl (fun s p =>
      (List.range 32).foldl (fun s j => if bitOf (getF s Fld.FAR_PORT_VALID_LANES p) j then s else queueLane s p j) s) s
  else s

/-- R341: every stall and lane is queued. -/
def farRunAll (s : State) : State :=
  let s := (List.range 16).foldl (fun s k => queueRun s k true false) s
  (List.range 8).foldl (fun s p => (List.range 32).foldl (fun s j => queueLane s p j) s) s

/-- R353: a write of FAR_CTRL. -/
def farCtrlWrite (s : State) (start stop runall : Bool) : State :=
  let s := if stop then farStop s else if start then farStart s else s
  if runall then farRunAll s else s

/-- R346: a write of FAR_STALL_CTRL. -/
def farStallCtrlWrite (s : State) (k : Nat) (run release : Bool) : State :=
  let s := if release && getF s Fld.FAR_STALL_STATUS_CAL k == 2 && (s.far.work.all (fun w => w.stall != k)) then releaseFar s k else s
  if run then queueRun s k true false else s

/-- R341: lanes are queued by FAR_PORT_LANERUN. -/
def farLaneRunWrite (s : State) (p lanes : Nat) : State := (bitList lanes).foldl (fun s j => queueLane s p j) s

/-- R353: a write of FAR_TRIG, FAR_MAXAGE or FAR_NVINT, at `addr`. -/
def farCfgWrite (s : State) (addr mask v : Nat) : State :=
  if farState s = farStopped then wrReg s addr (BitVec.ofNat 64 v &&& BitVec.ofNat 64 mask)
  else raiseEv (setF s Fld.FAR_ERR_CFG_REFUSED 1) 0x8005 (unitOf 9 0) 0 (packDetail [(0, farState s)])

/-- R341: the light block has put stall `k` on a spare carrier: the residual is set to 0 and the stall queued. -/
def farSpare (s : State) (k : Nat) : State :=
  let x := getFar s k
  queueRun (putFar s k { x with set := { x.set with resid := [], changed := true }, rangeDue := true }) k false false

/-- R352: a set as it stands is written to the store; its check is good from then on. -/
def CalSet.written (c : CalSet) : CalSet := { c with stored := c.resid, changed := false, bad := false, storedPoints := none }

/-- R352: a changed residual of a stall, or of a port, is written to the store. -/
def storeStall (s : State) (k : Nat) : State :=
  let x := getFar s k
  if x.set.changed then putFar s k { x with set := x.set.written } else s

def storePort (s : State) (p : Nat) : State :=
  let x := getFarPort s p
  if x.set.changed then putFarPort s p { x with set := x.set.written, redone := [] } else s

/-- R352: every changed residual is written on entry to dark standby. -/
def storeAll (s : State) : State := (List.range 8).foldl storePort ((List.range 16).foldl storeStall s)

/-! Port lanes. -/

/-- R340, R337: the fields of lane `j` of port `p` (transmit level, receive threshold, sampling phase) are written for temperature `t`. -/
def writeLaneTrims (s : State) (p j : Nat) (t : Int) : State :=
  let c := (getFarPort s p).set
  let v := fun (i : Nat) => interpAt c false (4 * j + i) t + fieldAt c.resid (4 * j + i)
  let s := setF s Fld.DRV_LTRIM_TXLVL (clampI 0 255 (v 0)).toNat p j
  let s := setF s Fld.DRV_LTRIM_RXTHR (wrapTo 8 (clampI (-128) 127 (v 1))) p j
  setF s Fld.DRV_LTRIM_PHASE (clampI 0 63 (v 2)).toNat p j

/-- R351: two measurements of a lane agree. -/
def laneAgree (a b : LaneMeas) : Bool :=
  decide (((a.txlvl : Int) - b.txlvl).natAbs ≤ 2 ∧ (a.rxthr - b.rxthr).natAbs ≤ 2 ∧ ((a.phase : Int) - b.phase).natAbs ≤ 2)

/-- R351, R340, R352: a lane run is accepted; the first one of a lane gives its five points while the set's check stands failed
(DEDUCED: log entry 110). -/
def acceptLane (s : State) (p j : Nat) (a b : LaneMeas) : State :=
  let x := getFarPort s p
  let t := dieTemp s 5
  let m := fun (f : Nat) =>
    if f % 4 = 0 then ratRne ((a.txlvl : Int) + b.txlvl) 2 else if f % 4 = 1 then ratRne (a.rxthr + b.rxthr) 2
    else ratRne ((a.phase : Int) + b.phase) 2
  let fields := [4 * j, 4 * j + 1, 4 * j + 2]
  let kept := x.set.resid.filter (fun e => !fields.contains e.1)
  let pt := fun (q : NMap Int) => fields.foldl (fun q f => nmPut (fun _ => 0) q f (m f)) q
  let c : CalSet :=
    if x.set.bad && !x.redone.contains j then
      { x.set with
        points := (List.range 5).map (fun i => pt (x.set.points.getD i [])), resid := kept, changed := true
        storedPoints := some (x.set.storedPoints.getD x.set.points) }
    else
      { x.set with
        resid := fields.foldl (fun r f => nmPut (fun _ => 0) r f (m f - interpAt x.set false f t)) x.set.resid
        changed := true }
  let s := putFarPort s p { x with
    set := c, redone := if x.set.bad then x.redone ++ [j] else x.redone, lane := none, rejects := 0, queue := x.queue.filter (· != j), temp := nmPut (fun _ => 0) x.temp j t }
  let s := writeLaneTrims s p j t
  let s := setF s Fld.FAR_PORT_VALID_LANES (getF s Fld.FAR_PORT_VALID_LANES p ||| 2 ^ j) p
  let dg := getF s Fld.FAR_PORT_DEGRADED_LANES p
  let s := setF s Fld.FAR_PORT_DEGRADED_LANES (if bitOf dg j then dg - 2 ^ j else dg) p
  let s := putPort s p { getPort s p with returned := true }
  bumpF (setF s Fld.FAR_PORT_STATUS_ACTIVE 0 p) Fld.FAR_RUNS_COUNT 1

/-- R351: an attempt on a lane is rejected; after the third the lane is degraded and stays out of service. -/
def rejectLane (s : State) (p j : Nat) : State :=
  let x := getFarPort s p
  let s := bumpF s Fld.FAR_REJECTS_COUNT 1
  if 2 ≤ x.rejects then
    let s := putFarPort s p { x with lane := none, rejects := 0, queue := x.queue.filter (· != j) }
    let s := setF s Fld.FAR_PORT_DEGRADED_LANES (getF s Fld.FAR_PORT_DEGRADED_LANES p ||| 2 ^ j) p
    let s := putPort s p { getPort s p with released := none, returned := false }
    raiseEv (setF s Fld.FAR_PORT_STATUS_ACTIVE 0 p) 0x8003 (unitOf 9 (32 + p)) 0 (packDetail [(0, p), (3, j)])
  else putFarPort s p { x with rejects := x.rejects + 1 }

end Sys2Proof.Machine
end

