-- ==== Sys2Proof/Machine/PowerBase.lean ====
section
/-! DEFINITION. A compute die's thermal record, and how a stall leaves a rate trip (R374). -/
namespace Sys2Proof.Machine

def getDie (s : State) (d : Nat) : Die := nmGet (fun _ => {}) s.pwr.die d
def putDie (s : State) (d : Nat) (x : Die) : State := { s with pwr := { s.pwr with die := nmPut (fun _ => {}) s.pwr.die d x } }

/-- R374 step 3: the carrier ring of stall `k` has passed a check while its die recovers (DEDUCED: log entry 120). -/
def carrierPassed (s : State) (k : Nat) : State :=
  let x := getDie s (stallDie k)
  if x.rate = .checking ∧ x.passed.contains k = false then putDie s (stallDie k) { x with passed := x.passed ++ [k] } else s

/-- R374 step 4: stall `k` clears HOLD_THM for its die's rate trip. -/
def tripStallDone (s : State) (k : Nat) : State :=
  let x := getDie s (stallDie k)
  if x.rate = .checking ∧ x.done.contains k = false then
    releaseThm (putDie s (stallDie k) { x with done := x.done ++ [k] }) k .rateTrip
  else s

/-- R374 step 3: the farrier may take stall `k` in its die's recovery: its carrier has passed, and no lower such stall waits. -/
def tripReady (s : State) (k : Nat) : Bool :=
  let x := getDie s (stallDie k)
  x.rate == .checking && x.passed.contains k && !x.done.contains k &&
    x.passed.all (fun j => x.done.contains j || decide (k ≤ j))

/-- R489: RAILOK is high from rail valid to a package trip; a package reset does not drive it low. -/
def railOk (s : State) : Bool := s.pwr.rails == .valid

end Sys2Proof.Machine
end

