-- ==== Sys2Proof/Machine/LightOps.lean ====
section
/-! DEFINITION. Shared operations of the light block (chapter 10): the line plan, the start-up sequence, pilot checks, recovery, spares, and
the loss of light. -/
namespace Sys2Proof.Machine

/-- Table 10.6: COMBk and ring STATE. -/
def combOff : Nat := 0
def combLocked : Nat := 2
def combFailed : Nat := 3
def ringOff : Nat := 0
def ringCapture : Nat := 2
def ringLocked : Nat := 3
def ringRecover : Nat := 4
def ringFailed : Nat := 5

def combState (s : State) (k : Nat) : Nat := if k = 0 then getF s Fld.LTE_STATUS_COMB0 else getF s Fld.LTE_STATUS_COMB1
def setComb (s : State) (k v : Nat) : State := if k = 0 then setF s Fld.LTE_STATUS_COMB0 v else setF s Fld.LTE_STATUS_COMB1 v

def ringState (s : State) (r : Nat) : Nat := getF s Fld.LTE_RING_STATUS_STATE 0 r
def ringLine (s : State) (r : Nat) : Nat := getF s Fld.LTE_RING_CFG_LINE 0 r

/-- R290: the UNIT of the light block's events. -/
def lightUnit : Nat := unitOf 6 0

/-- R272, R273: the half of the yard a ring lies in. -/
def ringHalf (r : Nat) : Nat := if r < 16 then r / 8 else (r - 16) / 256

/-- R285: the comb die that feeds a half. -/
def feedOf (s : State) (half : Nat) : Nat :=
  match getF s Fld.LTE_STATUS_REDIST with
  | 1 => 0
  | 2 => 1
  | _ => half

/-- Table 10.1: a ring's line. -/
def planLine (r : Nat) : Nat := if r < 16 then 32 + r % 8 else (r - 16) % 32

/-- R334: the rein loop of a ring. -/
def ringLoop (r : Nat) : Nat := 4096 + r

/-- The heater code in force of a ring. -/
def heaterCode (s : State) (r : Nat) : Nat := (getTrim s (heaterChan r)).code

/-- R274: a ring's heater is set, in the ×2 range (DEDUCED: log entry 242). -/
def setHeater (s : State) (r : Nat) (v : Int) : State := trmCodeWrite s (heaterChan r) (clampI 0 4095 v).toNat true true

/-- R289: the code found for a line in a ring's peak table. -/
def peakOf (s : State) (r n : Nat) : Nat :=
  if n % 2 = 0 then getF s Fld.LTE_PEAK_CODE0 0 r (n / 2) else getF s Fld.LTE_PEAK_CODE1 0 r (n / 2)
def setPeak (s : State) (r n v : Nat) : State :=
  if n % 2 = 0 then setF s Fld.LTE_PEAK_CODE0 v 0 r (n / 2) else setF s Fld.LTE_PEAK_CODE1 v 0 r (n / 2)

/-- R281: a pilot check of a ring falls due. -/
def checkRing (s : State) (r : Nat) : State :=
  if s.light.checks.contains r then s else { s with light := { s.light with checks := s.light.checks ++ [r] } }

/-- A ring's check and recovery are given up. -/
def dropRing (s : State) (r : Nat) : State :=
  { s with light := { s.light with
      checks := s.light.checks.filter (· != r), recov := s.light.recov.filter (fun x => x.ring != r) } }

/-- A ring leaves service; its stall takes HOLD_LTE. -/
def ringOut (s : State) (r : Nat) : State :=
  let s := setF s Fld.LTE_RING_STATUS_OOS 1 0 r
  if r < 16 then holdLte s r .carrier else s

/-- R277, R284: a ring takes a line. -/
def setLine (s : State) (r n : Nat) : State :=
  let s := setF s Fld.LTE_RING_CFG_LINE n 0 r
  if r < 16 then setF s Fld.STL_ID_LINE n r else s

/-- R282 steps 1 to 3: an attempt to recover a ring begins, toward a code; its loop is frozen and its heater slewed at 1 code per µs. 50 µs
later the capture begins (`chanDithers`), and the check that ends it follows (DEDUCED: log entry 206). -/
def attempt (s : State) (r : Nat) (target : Int) (spare : Bool) (n : Nat) : State :=
  let s := setFreeze (dropRing s r) (ringLoop r) true
  let s := setF (setF s Fld.LTE_RING_STATUS_STATE ringRecover 0 r) Fld.LTE_RING_STATUS_ATTEMPTS n 0 r
  let slew := (clampI 0 4095 target - heaterCode s r).natAbs
  let s := setHeater s r target
  checkRing { s with light := { s.light with recov := s.light.recov ++ [⟨r, spare, s.mon.k + 20 * slew + 1000⟩] } } r

/-- The lowest free spare of a comb die. -/
def freeSpare (s : State) (k : Nat) : Option Nat :=
  let m := if k = 0 then getF s Fld.LTE_SPARES_FREE0 else getF s Fld.LTE_SPARES_FREE1
  (List.range 8).find? (bitOf m)

/-- R284: with AUTO_SPARE 1, stall `k` takes the lowest free spare line; where there is none, ostler firmware takes it out of service
(R127). -/
def takeSpare (s : State) (k : Nat) : State :=
  let f := feedOf s (k / 8)
  if getF s Fld.LTE_CFG_AUTO_SPARE = 0 then s
  else
    match freeSpare s f with
    | none => retireStall s k false
    | some i =>
      let old := ringLine s k
      let new := 40 + i
      let s := setLine s k new
      let s := if f = 0 then setF s Fld.LTE_SPARES_FREE0 (getF s Fld.LTE_SPARES_FREE0 - 2 ^ i)
               else setF s Fld.LTE_SPARES_FREE1 (getF s Fld.LTE_SPARES_FREE1 - 2 ^ i)
      let s := raiseEv s 0x6005 lightUnit 0 (packDetail [(0, k), (4, old), (10, new)])
      let s := farSpare s k
      attempt s k ((heaterCode s k : Int) + peakOf s k new - peakOf s k old) true 1

/-- R282, R276, R277: a ring becomes FAILED; a stall takes a spare. -/
def ringFails (s : State) (r : Nat) : State :=
  let s := ringOut (dropRing s r) r
  let s := bumpF (setF s Fld.LTE_RING_STATUS_STATE ringFailed 0 r) Fld.LTE_RINGFAIL_COUNT 1
  let s := raiseEv s 0x6003 lightUnit 0 (packDetail [(0, r), (10, ringLine s r)])
  if r < 16 then takeSpare (tripStallDone s r) r else s

/-- R283: whether the line a ring is assigned to is lost. -/
def onLostLine (s : State) (r : Nat) : Bool := s.light.lost.contains (48 * feedOf s (ringHalf r) + ringLine s r)

/-- R283: rings of a lost line leave service, and their stalls take spares, in ascending order. A recovery under way goes on, with an
attempt that finds no light (DEDUCED: log entry 209). -/
def lineOut (s : State) (rs : List Nat) : State :=
  (rs.filter (· < 16)).foldl takeSpare (rs.foldl ringOut s)

/-- R283: line `n` of comb die `k` is lost; event 0x6004 is raised once for it. -/
def lineLost (s : State) (k n : Nat) : State :=
  if s.light.lost.contains (48 * k + n) then s
  else
    let s := { s with light := { s.light with lost := s.light.lost ++ [48 * k + n] } }
    let s := raiseEv (bumpF s Fld.LTE_LOST_COUNT 1) 0x6004 lightUnit 0 (packDetail [(0, n), (6, k)])
    lineOut s ((List.range 528).filter (fun r => feedOf s (ringHalf r) == k && ringLine s r == n && ringState s r != ringOff))

/-- R283, R284: whether stall `k` waits for a spare. -/
def needsSpare (s : State) (k : Nat) : Bool :=
  getF s Fld.LTE_RING_STATUS_OOS 0 k == 1 && (ringState s k == ringFailed || (onLostLine s k && ringState s k != ringOff))

/-- R284: a write of LTE_CFG; stalls that wait for a spare take one once AUTO_SPARE is 1. -/
def lteCfgWrite (s : State) (v : Nat) : State :=
  let was := getF s Fld.LTE_CFG_AUTO_SPARE
  let s := wrReg s (Reg.LTE_CFG.addr 0 0 0) (BitVec.ofNat 64 (v % 4))
  if was = 0 ∧ v % 2 = 1 then ((List.range 16).filter (needsSpare s)).foldl takeSpare s else s

/-! The pilot check. -/

/-- Table 10.3. -/
inductive PilotOut
  | pass | wrong (m : Nat) | unknown | lost
  deriving DecidableEq, Repr

/-- R280: whether an amplitude reaches MIN × E. -/
def ampReaches (s : State) (mean a : Nat) : Bool := decide (getF s Fld.LTE_THRESH_MIN_REL * mean ≤ a * 256000)

/-- R280: whether `a` lies below NB × `b`. -/
def ampBelow (s : State) (a b : Nat) : Bool := decide (a * 256 < getF s Fld.LTE_THRESH_NEIGH * b)

/-- The lines of a check window around `c` that exist, with their amplitudes. -/
def windowLines (c : Nat) (amp : List Nat) : List (Nat × Nat) :=
  (List.range 5).filterMap (fun i => if 2 ≤ c + i ∧ c + i ≤ 49 then some (c + i - 2, amp.getD i 0) else none)

/-- The entry with the larger amplitude, the first of equals. -/
def largest : List (Nat × Nat) → Option (Nat × Nat)
  | [] => none
  | a :: t => match largest t with
    | none => some a
    | some b => if a.2 < b.2 then some b else some a

/-- R280, Table 10.3: the outcome of a check of a ring assigned line `n`. -/
def pilotOutcome (s : State) (n : Nat) (p : PilotMeas) : PilotOut :=
  let w := windowLines n p.amp
  let own := ((w.find? (fun x => x.1 == n)).map (·.2)).getD 0
  let rest := w.filter (fun x => x.1 != n)
  if p.mean * 8 < p.full then .lost
  else if ampReaches s p.mean own && rest.all (fun x => ampBelow s x.2 own) then .pass
  else
    match largest (rest.filter (fun x => ampReaches s p.mean x.2 && ampBelow s own x.2)) with
    | some x => .wrong x.1
    | none => .unknown

/-- R289: LTE_RING_PILOT, LTE_RING_PWR after a check. -/
def recordCheck (s : State) (r n : Nat) (p : PilotMeas) : State :=
  let w := windowLines n p.amp
  let rel := fun (a : Nat) => if p.mean = 0 then 65535 else min 65535 (ratioUnits (a * 4096000) p.mean)
  let own := ((w.find? (fun x => x.1 == n)).map (·.2)).getD 0
  let other := ((largest (w.filter (fun x => x.1 != n))).map (·.2)).getD 0
  let s := setF (setF s Fld.LTE_RING_PILOT_A_N (rel own) 0 r) Fld.LTE_RING_PILOT_A_MAX (rel other) 0 r
  setF s Fld.LTE_RING_PWR_PREL (if p.full = 0 then 65535 else min 65535 (ratioUnits (p.mean * 4096) p.full)) 0 r

/-- R331: the loops that have notified ring `r` of a fault. -/
def ringFaults (s : State) (r : Nat) : List Nat :=
  (s.rein.loops.filter (fun x => x.2.notified && getF s Fld.RN_LP_CTRL_OWNER (x.1 / 256) (x.1 % 256) == 1
    && getF s Fld.RN_LP_CTRL_OWNER_IDX (x.1 / 256) (x.1 % 256) == r)).map (·.1)

/-- R331: the light block clears FAULT and FREEZE of a loop. -/
def clearFault (s : State) (i : Nat) : State :=
  let s := setF (setFreeze s i false) Fld.RN_LP_STAT_FAULT 0 (i / 256) (i % 256)
  putLoop s i { getLoop s i with notified := false }

/-- R331: a check or a recovery has ended in PASS: the loops that notified the ring lose FAULT, and FREEZE. -/
def passFaults (s : State) (r : Nat) : State := (ringFaults s r).foldl clearFault s

/-- R278, R282, R327, R331: a check ends in PASS: the ring is in service, the loop of one that returns runs, its stall's hold ends.
(DEDUCED: log entry 87; DEDUCED: log entry 92). -/
def pilotPass (s : State) (r n : Nat) : State :=
  let st := ringState s r
  let spare := s.light.recov.any (fun x => x.ring == r && x.spare)
  let s := setF (setF s Fld.LTE_RING_STATUS_SEEN n 0 r) Fld.LTE_RING_STATUS_LAST 0 0 r
  let s := setF s Fld.LTE_RING_LAST_CODE (heaterCode s r) 0 r
  let s := dropRing s r
  let s := passFaults (if getF s Fld.LTE_RING_STATUS_OOS 0 r = 1 then setFreeze s (ringLoop r) false else s) r
  let s := if st = ringRecover then
      raiseEv (bumpF s Fld.LTE_RECOV_COUNT 1) 0x6002 lightUnit 0
        (packDetail [(0, r), (10, n), (16, getF s Fld.LTE_RING_STATUS_ATTEMPTS 0 r)])
    else s
  let s := setF (setF s Fld.LTE_RING_STATUS_STATE ringLocked 0 r) Fld.LTE_RING_STATUS_OOS 0 0 r
  if r < 16 then carrierPassed (releaseLte (if spare then holdFar s r else s) r .carrier) r else s

/-- R282: the heater's target after WRONG or UNKNOWN (DEDUCED: log entry 88). -/
def recoveryTarget (s : State) (r n : Nat) : PilotOut → Int
  | .wrong m => (heaterCode s r : Int) + peakOf s r n - peakOf s r m
  | _ => getF s Fld.LTE_RING_LAST_CODE 0 r

/-- R282: an attempt has ended without a PASS. -/
def attemptFails (s : State) (r n : Nat) (o : PilotOut) : State :=
  let spare := s.light.recov.any (fun x => x.ring == r && x.spare)
  let n1 := getF s Fld.LTE_RING_STATUS_ATTEMPTS 0 r
  if 3 ≤ n1 then ringFails s r else attempt s r (recoveryTarget s r n o) spare (n1 + 1)

/-- R282: a check ends in WRONG or UNKNOWN (DEDUCED: log entry 86). -/
def pilotFails (s : State) (r n : Nat) (o : PilotOut) : State :=
  let found := match o with
    | .wrong m => m
    | _ => 0x3F
  let s := bumpF s Fld.LTE_WRONG_COUNT 1
  let s := match o with
    | .wrong m => setF (setF s Fld.LTE_RING_STATUS_SEEN m 0 r) Fld.LTE_RING_STATUS_LAST 1 0 r
    | _ => setF s Fld.LTE_RING_STATUS_LAST 2 0 r
  if ringState s r = ringRecover then attemptFails s r n o
  else
    let s := raiseEv (ringOut s r) 0x6001 lightUnit 0 (packDetail [(0, r), (10, n), (16, found)])
    attempt s r (recoveryTarget s r n o) false 1

/-- R283: a check ends in LOST: the line is lost, and the ring with it; an attempt to recover it has ended without a PASS (DEDUCED: log entry
209). -/
def pilotLost (s : State) (r n : Nat) : State :=
  let k := feedOf s (ringHalf r)
  let known := s.light.lost.contains (48 * k + n)
  let s := lineLost (setF s Fld.LTE_RING_STATUS_LAST 3 0 r) k n
  let s := if known then lineOut s [r] else s
  if ringState s r = ringRecover ∧ ringLine s r = n then attemptFails s r n .lost else s

/-- R283: a check passes on a line that is lost: the ring is on its line, and stays out of service (DEDUCED: log entry 209). -/
def passOnLost (s : State) (r n : Nat) : State :=
  let s := setF (setF s Fld.LTE_RING_STATUS_SEEN n 0 r) Fld.LTE_RING_STATUS_LAST 0 0 r
  setF (passFaults (dropRing s r) r) Fld.LTE_RING_STATUS_STATE ringLocked 0 r

/-- R280 to R284: a pilot check of ring `r` closes. -/
def checkResult (s : State) (r : Nat) (p : PilotMeas) : State :=
  let n := ringLine s r
  let o := pilotOutcome s n p
  let s := recordCheck { s with light := { s.light with checks := s.light.checks.filter (· != r) } } r n p
  match o with
  | .pass => if onLostLine s r then passOnLost s r n else pilotPass s r n
  | .lost => pilotLost s r n
  | o => pilotFails s r n o

/-! The start-up sequence. -/

/-- R276: the codes that are local maxima above a quarter of the largest power: `prev` the power before, `i` the code of the head.
(DEDUCED: log entry 90). -/
def peakCodes (top : Nat) : Option Nat → Nat → List Nat → List Nat
  | _, _, [] => []
  | prev, i, p :: t =>
    let up := match prev with
      | none => true
      | some q => decide (q < p)
    let down := match t with
      | [] => true
      | q :: _ => decide (q ≤ p)
    if up && down && decide (top < 4 * p) then i :: peakCodes top (some p) (i + 1) t else peakCodes top (some p) (i + 1) t

/-- R276 step 2: the peaks numbered from line `n` at code `c`; `ref`: a neighbouring interval, 0 where there is none before.
(DEDUCED: log entry 91). -/
def numberPeaks (n c ref : Nat) : List Nat → List (Nat × Nat)
  | [] => []
  | c1 :: t =>
    let gap := c1 - c
    let after := match t with
      | c2 :: _ => c2 - c1
      | [] => 0
    let r := if ref = 0 then after else ref
    if r ≠ 0 ∧ 3 * r < gap then (47, c1) :: numberPeaks 47 c1 r t
    else if n = 0 then []
    else (n - 1, c1) :: numberPeaks (n - 1) c1 gap t

/-- R276 step 1: the line of a ring's first peak, by its check windows in turn. -/
def firstLine (s : State) (ws : List PilotMeas) : Option Nat :=
  ((List.zip (List.range 10) ws).findSome? (fun x =>
    let w := windowLines (5 * x.1 + 2) x.2.amp
    match w.filter (fun m => ampReaches s x.2.mean m.2 && (w.filter (fun y => y.1 != m.1)).all (fun y => ampBelow s y.2 m.2)) with
    | m :: _ => some m.1
    | [] => none))

/-- R276: what a sweep finds: the lowest code of each line. -/
def sweepPeaks (s : State) (sw : RingSweep) : List (Nat × Nat) :=
  match peakCodes (sw.power.foldl max 0) none 0 sw.power, firstLine s sw.windows with
  | c :: t, some n => (n, c) :: numberPeaks n c 0 t
  | _, _ => []

/-- R276 step 3: the peak table of a ring. -/
def writePeaks (s : State) (r : Nat) (ps : List (Nat × Nat)) : State :=
  (List.range 48).foldl (fun s n => setPeak s r n (((ps.find? (fun x => x.1 == n)).map (·.2)).getD 0xFFF)) s

/-- R278, R285: a ring is captured under the dither lock, its loop running; the check follows (DEDUCED: log entry 210). -/
def captureRing (s : State) (r : Nat) : State :=
  let s := setFreeze s (ringLoop r) false
  checkRing (setF (setF s Fld.LTE_RING_STATUS_STATE ringCapture 0 r) Fld.LTE_RING_STATUS_ATTEMPTS 0 0 r) r

/-- R276: where a sweep leaves the heater: at the first peak's code, which step 5 holds, or, with no peak, at the end of the ramp. -/
def sweptCode (sw : Option RingSweep) : Nat :=
  let power := (sw.map (·.power)).getD []
  (peakCodes (power.foldl max 0) none 0 power).headD 4095

/-- R276, R277, R278: one ring is swept, assigned its line, and captured at its peak; one that fails stays where its sweep left it. -/
def sweepRing (s : State) (r : Nat) (sws : List RingSweep) : State :=
  let sw := sws.find? (fun x => x.ring.val == r)
  let s := setHeater s r (sweptCode sw)
  let ps := (sw.map (sweepPeaks s)).getD []
  let s := setLine (writePeaks s r ps) r (planLine r)
  if peakOf s r (planLine r) = 0xFFF then ringFails s r
  else captureRing (setHeater s r (peakOf s r (planLine r))) r

/-- Every stall is held for its carrier ring, and for nothing else of the light block but its phase loops. -/
def holdAllCarriers (s : State) : State :=
  (List.range 16).foldl (fun s k => releaseLte (releaseLte (holdLte s k .carrier) k .dark) k .comb) s

/-- Every ring is out of service, with no check or recovery. -/
def allRingsOut (s : State) : State :=
  let s := { s with light := { s.light with checks := [], recov := [] } }
  (List.range 528).foldl (fun s r =>
    setF (setF s Fld.LTE_RING_STATUS_OOS 1 0 r) Fld.LTE_RING_STATUS_ATTEMPTS 0 0 r) s

/-- R285 step 3: event 0x6006. -/
def combEvent (s : State) (k reason : Nat) (redist : Bool) : State :=
  raiseEv s 0x6006 lightUnit 0 (packDetail [(0, k), (1, reason), (3, b01 redist)])

/-- R275, Table 10.2: the start-up sequence up to the captures of step 6; `lock0`, `lock1`: the comb dies that lock in step 2.
(DESIGN CHOICE: log entry 84). -/
def startSequence (s : State) (lock0 lock1 : Bool) (sws : List RingSweep) : State :=
  let s := allRingsOut (holdAllCarriers s)
  let s := (List.range 8).foldl portDark s
  let s := { s with light := { s.light with running := true, dark := false, byFall := false, lost := [], switching := false } }
  let s := setF (setF (setF s Fld.LTE_STATUS_ASSIGNED 0) Fld.LTE_SPARES_FREE0 0xFF) Fld.LTE_SPARES_FREE1 0xFF
  let auto := getF s Fld.LTE_CFG_AUTO_REDIST == 1
  let redist := if auto && lock0 && !lock1 then 1 else if auto && lock1 && !lock0 then 2 else 0
  let s := setF s Fld.LTE_STATUS_REDIST redist
  let s := setComb (setComb s 0 (if lock0 then combLocked else combFailed)) 1 (if lock1 then combLocked else combFailed)
  let s := if lock0 then s else combEvent s 0 1 (redist == 2)
  let s := if lock1 then s else combEvent s 1 1 (redist == 1)
  (List.range 528).foldl (fun s r =>
    if combState s (feedOf s (ringHalf r)) = combLocked then sweepRing s r sws
    else setF s Fld.LTE_RING_STATUS_STATE ringOff 0 r) s

/-- R275, R491: a write of ASSIGN; with LASER_EN low nothing is started (DEDUCED: log entry 85). -/
def assignWrite (s : State) (lock0 lock1 : Bool) (sws : List RingSweep) : State :=
  if s.light.laserEn then startSequence s lock0 lock1 sws else s

/-- Both comb dies are OFF. -/
def lasersOff (s : State) : Bool := combState s 0 == combOff && combState s 1 == combOff

/-- R275, R491: a write of RELIGHT, from dark. -/
def relightWrite (s : State) (lock0 lock1 : Bool) (sws : List RingSweep) : State :=
  if s.light.laserEn && lasersOff s then startSequence s lock0 lock1 sws else s

/-- R278: rings in service, and rings FAILED. -/
def ringsInService (s : State) : Nat := ((List.range 528).filter (fun r => getF s Fld.LTE_RING_STATUS_OOS 0 r == 0)).length
def ringsFailed (s : State) : Nat := ((List.range 528).filter (fun r => ringState s r == ringFailed)).length

/-! Loss of light. -/

/-- R356, R491: the lasers go off: every stall is held, every ring and lane is out of service, changed residuals are stored (R352).
(DEDUCED: log entry 89). -/
def goDark (s : State) : State :=
  let s := (List.range 16).foldl (fun s k => holdLte s k .dark) s
  let s := allRingsOut s
  let s := (List.range 528).foldl (fun s r => setFreeze (setF s Fld.LTE_RING_STATUS_STATE ringOff 0 r) (ringLoop r) true) s
  let s := (List.range 8).foldl portDark s
  let s := setComb (setComb s 0 combOff) 1 combOff
  let s := setF (setF s Fld.LTE_STATUS_ASSIGNED 0) Fld.LTE_STATUS_REDIST 0
  storeAll { s with light := { s.light with dark := true, byFall := false, running := false, switching := false } }

/-- R285, R286: every ring of a list is captured at its code and checked, one that is OFF too (DEDUCED: log entry 210). -/
def recapture (s : State) (rs : List Nat) : State := rs.foldl captureRing s

/-- R286: a stall takes its carrier of Table 10.1 back; its heater leaves the spare's code by the step of R284 (DEDUCED: log entry 94). -/
def carrierBack (s : State) (k : Nat) : State :=
  let old := ringLine s k
  if old = planLine k then s
  else setLine (setHeater s k ((heaterCode s k : Int) + peakOf s k (planLine k) - peakOf s k old)) k (planLine k)

/-- R285: comb die `k` is failed, for reason 1 spacing lock, 2 lines lost, 3 temperature. -/
def combFails (s : State) (k reason : Nat) : State :=
  if combState s k = combLocked ∨ combState s k = 1 then
    let other := 1 - k
    let redist := getF s Fld.LTE_CFG_AUTO_REDIST == 1 && combState s other == combLocked
    let s := setComb s k combFailed
    let s := (List.range 16).foldl (fun s i => holdLte s i .comb) s
    let s := (List.range 8).foldl portDark (allRingsOut s)
    let s := combEvent s k reason redist
    let s := { s with light := { s.light with switching := redist } }
    if redist then s
    else
      let live := fun (h : Nat) => combState s (feedOf s h) == combLocked
      let s := (List.range 16).foldl (fun s i => if live (i / 8) then releaseLte (holdLte s i .carrier) i .comb else s) s
      recapture s ((List.range 528).filter (fun r => live (ringHalf r)))
  else s

/-- R285: the redistribution switch has settled (DEDUCED: log entry 93). -/
def redistSettled (s : State) : State :=
  if s.light.switching then
    let k := if combState s 0 = combLocked then 0 else 1
    let s := setF { s with light := { s.light with switching := false } } Fld.LTE_STATUS_REDIST (k + 1)
    recapture (holdAllCarriers s) (List.range 528)
  else s

/-- R286: a write of RESTORE; `passed`: the FAILED dies whose start-up sequence has passed (DEDUCED: log entry 94). -/
def restoreWrite (s : State) (pass0 pass1 : Bool) : State :=
  let b0 := pass0 && combState s 0 == combFailed
  let b1 := pass1 && combState s 1 == combFailed
  if (b0 || b1) && s.light.laserEn then
    let s := if b0 then setComb s 0 combLocked else s
    let s := if b1 then setComb s 1 combLocked else s
    let s := allRingsOut (holdAllCarriers s)
    let s := setF { s with light := { s.light with lost := [], switching := false } } Fld.LTE_STATUS_REDIST 0
    let s := setF (setF s Fld.LTE_SPARES_FREE0 0xFF) Fld.LTE_SPARES_FREE1 0xFF
    let s := (List.range 16).foldl carrierBack s
    recapture s ((List.range 528).filter (fun r => combState s (ringHalf r) == combLocked))
  else s

/-! One ring. -/

/-- R288: STOP takes a ring to OFF. -/
def ringStop (s : State) (r : Nat) : State :=
  setF (setFreeze (ringOut (dropRing s r) r) (ringLoop r) true) Fld.LTE_RING_STATUS_STATE ringOff 0 r

/-- R288: START in OFF recovers a ring toward the line assigned. -/
def ringStart (s : State) (r : Nat) : State :=
  if ringState s r = ringOff then attempt s r (peakOf s r (ringLine s r)) false 1 else s

/-- R281: RECHECK of a ring in service, or of one whose check is not already due (DEDUCED: log entry 95). -/
def ringRecheck (s : State) (r : Nat) : State := if ringState s r = ringLocked then checkRing s r else s

/-- R288: a write of LTE_RING_CTRL. -/
def ringCtrlWrite (s : State) (r : Nat) (stop start recheck : Bool) : State :=
  let s := if stop then ringStop s r else if start then ringStart s r else s
  if recheck then ringRecheck s r else s

/-- R288: a write of LTE_RING_CFG. -/
def ringCfgWrite (s : State) (r v : Nat) : State :=
  if ringState s r = ringOff then setLine s r (v % 64)
  else raiseEv (setF s Fld.LTE_ERR_CFG_REFUSED 1) 0x6008 lightUnit 0 (packDetail [(0, r), (10, ringState s r)])

/-- R281, R374: every ring of a die is checked; its stalls' carriers come first on their converters, after a check already in progress there. -/
def checkDie (s : State) (d : Nat) : State :=
  let l := s.light.checks
  let busy := l.filter (fun r => l.find? (fun x => ringConv x == ringConv r) == some r)
  let carriers := ((List.range 4).map (4 * d + ·)).filter (fun r => ringState s r == ringLocked && !busy.contains r)
  let waiting := l.filter (fun r => !busy.contains r && !carriers.contains r)
  let ports := (if d = 0 then (List.range 512).map (16 + ·) else []).filter (fun r => ringState s r == ringLocked && !l.contains r)
  { s with light := { s.light with checks := busy ++ carriers ++ waiting ++ ports } }

/-- R279, R281: a write of LTE_WIDE, or its setting by power and thermal: the rings of a die whose bit clears are checked. -/
def setWide (s : State) (v : Nat) : State :=
  let old := getF s Fld.LTE_WIDE_WIDE
  let s := setF s Fld.LTE_WIDE_WIDE v
  ((List.range 4).filter (fun d => bitOf old d && !bitOf v d)).foldl checkDie s

end Sys2Proof.Machine
end

