-- ==== Sys2Proof/Machine/LoftOps.lean ====
section
/-! DEFINITION. Shared operations of the loft: bundles and their checks (R245 to R251), bays and the switch (R254 to R262), placement
(R256, R257), chunks (R252), migration (R264), and the ends of mailbox commands (R426). -/
namespace Sys2Proof.Machine

/-- The record of a host channel. -/
def getHost (s : State) (c : Nat) : HChan := nmGet (fun _ => {}) s.host c
def putHost (s : State) (c : Nat) (x : HChan) : State := { s with host := nmPut (fun _ => {}) s.host c x }

/-- R426: a taken command has ended with a status and RESULT bytes; its completion entry is to be written, after those of the commands
that ended before it. -/
def finishCmd (s : State) (c id status result : Nat) : State :=
  let x := getHost s c
  match x.cmds.find? (fun k => k.id == id && k.ended.isNone) with
  | none => s
  | some k => putHost s c { x with cmds := x.cmds.filter (fun j => j.id != id) ++ [{ k with ended := some (status, result) }] }

/-- R424, Table 16.9: a field of a submission entry: bytes `lo` up, `n` of them. -/
def SubCmd.field (k : SubCmd) (lo n : Nat) : Nat := bitsOf k.entry (8 * lo) (8 * n)

/-- A field of a completion's RESULT: its byte number in the entry and its value. -/
def resultOf (l : List (Nat × Nat)) : Nat := l.foldl (fun a x => a + x.2 * 2 ^ (8 * (x.1 - 16))) 0

/-- Whether every chunk of the build in bay `y` is copied. -/
def buildComplete (s : State) (y : Nat) : Bool :=
  match s.loft.build with
  | none => false
  | some b => b.bay == y && b.slot.isNone && b.copied.length == b.set.chunks.length

/-- R254, Table 9.5: a write of LFT_BAYx_SET (DEDUCED: log entry 78). -/
def baySet (s : State) (y st : Nat) : State :=
  let cur := bayState s y
  if cur = 0 ∧ st = 1 ∧ bayState s (1 - y) ≠ 1 then
    setF (setF (setF s Fld.LFT_BAY_STATUS_STATE 1 0 y) Fld.LFT_BUILD_BAY y) Fld.LFT_BUILD_BUSY 1
  else if cur = 1 ∧ st = 2 ∧ buildComplete s y then
    let b := s.loft.build
    let s := putBay (setF s Fld.LFT_BAY_STATUS_STATE 2 0 y) y { getBay s y with set := b.map (·.set) }
    let s := setF { s with loft := { s.loft with build := none } } Fld.LFT_BUILD_BUSY 0
    raiseEv s 0x5002 loftUnit 0 (packDetail [(0, y)])
  else if cur = 1 ∧ st = 0 then
    let s := setF { s with loft := { s.loft with build := none, staged := s.loft.staged.filter (·.repair) } } Fld.LFT_BUILD_BUSY 0
    emptyBay s y
  else if cur = 2 ∧ st = 0 then emptyBay s y
  else if cur = 5 ∧ st = 0 ∧ getF s Fld.LFT_BAY_REFS_REFS 0 y = 0 then emptyBay s y
  else if cur ≠ 0 ∧ cur ≠ 5 ∧ st = 5 then
    let s := if cur = 1 then setF { s with loft := { s.loft with build := none } } Fld.LFT_BUILD_BUSY 0 else s
    faultBay s y 0
  else loftRefuse s 2 y

/-- R251: the rollback floor of a key slot and model. -/
def floorOf (s : State) (slot model : Nat) : Nat :=
  ((s.loft.floors.find? (fun f => f.1 == slot && f.2.1 == model)).map (·.2.2)).getD 0

/-- R251: a floor rises to at least `v`. -/
def raiseFloor (s : State) (slot model v : Nat) : State :=
  if v ≤ floorOf s slot model then s
  else { s with loft := { s.loft with
    floors := s.loft.floors.filter (fun f => !(f.1 == slot && f.2.1 == model)) ++ [(slot, model, v)] } }

/-- R259, R262, R251: a write of LFT_SWITCH; the second result says whether it was carried out (DEDUCED: log entry 79). -/
def loftSwitch (s : State) (y : Nat) : State × Bool :=
  if bayState s y = 2 ∨ bayState s y = 4 then
    let gen := (getF s Fld.LFT_GEN_GEN + 1) % 2 ^ 64
    let o := 1 - y
    let s := if bayState s o = 3 then
        (if getF s Fld.LFT_BAY_REFS_REFS 0 o = 0 then emptyBay s o else setF s Fld.LFT_BAY_STATUS_STATE 4 0 o)
      else s
    let s := setF (setF s Fld.LFT_GEN_GEN gen) Fld.LFT_BAY_GEN_GEN gen 0 y
    let s := setF (setF (setF s Fld.LFT_BAY_STATUS_STATE 3 0 y) Fld.LFT_ACTIVE_BAY y) Fld.LFT_ACTIVE_VALID 1
    let s := match (getBay s y).set with
      | some t => raiseFloor s t.keySlot t.modelId t.floor
      | none => s
    (raiseEv s 0x5005 loftUnit 0 (packDetail [(0, y), (32, gen % 2 ^ 32)]), true)
  else (loftRefuse s 1 y, false)

/-! Bundles. -/

/-- Bytes `lo` up of a byte string, `n` of them, as a little-endian number (R4). -/
def fieldOf (bs : List Nat) (lo n : Nat) : Nat := ofBytes ((bs.drop lo).take n)

/-- ASCII "YLVSLOFT" as stored. -/
def loftMagic : List Nat := [0x59, 0x4C, 0x56, 0x53, 0x4C, 0x4F, 0x46, 0x54]

/-- R249 step 1: Table 9.1's fields and ranges. -/
def bundleHeaderOk (h : List Nat) : Bool :=
  h.length == 256 && h.take 8 == loftMagic && fieldOf h 8 2 == 1 && decide (fieldOf h 10 2 < 2)
  && decide (1 ≤ fieldOf h 12 4) && decide (fieldOf h 12 4 ≤ 65536) && decide (1 ≤ fieldOf h 16 4) && decide (fieldOf h 16 4 ≤ 1048576)
  && fieldOf h 22 2 == 0 && (fieldOf h 10 2 == 1 || (fieldOf h 64 16 == 0 && fieldOf h 80 8 == 0))
  && decide (fieldOf h 88 1 < 8) && fieldOf h 89 7 == 0 && fieldOf h 192 64 == 0

/-- A tensor table entry (Table 9.2). -/
structure TensorRec where
  kind : Nat
  fmt : Nat
  diemap : Nat
  layer : Nat
  rows : Nat
  cols : Nat
  bandRows : Nat
  hot : Nat
  bands : Nat
  first : Nat
  chunks : Nat
  rsvd : Nat
  name : List Nat

/-- Table 9.2. -/
def parseTensor (e : List Nat) : TensorRec :=
  ⟨fieldOf e 0 1, fieldOf e 1 1, fieldOf e 2 1, fieldOf e 4 4, fieldOf e 8 4, fieldOf e 12 4, fieldOf e 16 2, fieldOf e 18 2,
   fieldOf e 20 4, fieldOf e 24 4, fieldOf e 28 4, fieldOf e 3 1, (e.drop 32).take 32⟩

/-- Table 9.2: a name is ASCII, padded with zero bytes. -/
def nameOk (n : List Nat) : Bool := n.all (fun c => decide (c < 128)) && (n.dropWhile (· != 0)).all (· == 0)

/-- Table 9.3. -/
def parseChunk (e : List Nat) : ChunkRec := ⟨fieldOf e 0 4, fieldOf e 4 4, fieldOf e 8 4, fieldOf e 16 8, fieldOf e 24 48⟩

/-- The entries of `n` bytes of a table. -/
def tableEntries (n : Nat) : Nat → List Nat → List (List Nat)
  | 0, _ => []
  | k + 1, bs => bs.take n :: tableEntries n k (bs.drop n)

/-- Whether FMT code `c` is a block format. -/
def fmtBlock (c : Nat) : Bool := ((fmtOfCode c).map Fmt.isBlock).getD false

/-- R247: the rows of band `i`. -/
def TensorRec.rowsOf (t : TensorRec) (i : Nat) : Nat :=
  if t.kind = 1 ∧ i + 1 = t.bands ∧ t.rows % t.bandRows ≠ 0 then t.rows % t.bandRows else t.bandRows

/-- R247: bytes of a band's data, up to its scale lines, and its scale lines. -/
def TensorRec.dataBytes (t : TensorRec) (i : Nat) : Nat :=
  ceilDiv (t.rowsOf i * t.cols * ((fmtOfCode t.fmt).getD .fp32).width / 8) 64 * 64
def TensorRec.lines (t : TensorRec) (i : Nat) : Nat := if fmtBlock t.fmt then ceilDiv (t.rowsOf i * t.cols) 1792 else 0

/-- R247: the size of band `i`. -/
def TensorRec.bandBytes (t : TensorRec) (i : Nat) : Nat := t.dataBytes i + 64 * t.lines i

/-- R246, R61: an entry of the tensor table is sound. -/
def TensorRec.ok (t : TensorRec) : Bool :=
  decide (t.kind < 2) && (fmtOfCode t.fmt).isSome && (t.kind == 1 || ((t.fmt == 0 || t.fmt == 2) && t.bandRows == 128 && decide (t.diemap < 2)))
  && decide (t.diemap < 3) && t.rsvd == 0 && decide (1 ≤ t.rows) && decide (1 ≤ t.cols) && decide (1 ≤ t.bandRows)
  && (!fmtBlock t.fmt || t.cols % 32 == 0) && t.bands == ceilDiv t.rows t.bandRows && decide (1 ≤ t.chunks)
  && nameOk t.name

/-- R248: the chunks of tensor `i` are consecutive, cover its bands in order, and hold their bands' bytes. -/
def chunksOk (i : Nat) (t : TensorRec) (all : List ChunkRec) : Bool :=
  let mine := (all.drop t.first).take t.chunks
  mine.length == t.chunks && (mine.foldl (fun a c => if a.1 && c.tensor == i && c.first == a.2 && decide (1 ≤ c.n)
      && c.bytes == ((List.range c.n).map (fun k => t.bandBytes (c.first + k))).foldl (· + ·) 0
      && decide (c.bytes ≤ 67108864) then (true, a.2 + c.n) else (false, 0)) (true, 0)) == (true, t.bands)

/-- What the checks of Table 9.4 up to step 7 give: a cause (0 none), which signatures failed, and the set with its tensors. -/
structure BundleCheck where
  cause : Nat
  ecdsa : Bool
  hss : Bool
  set : LoftSet
  tensors : List TensorRec
  isAdapter : Bool
  baseModel : Nat
  baseVersion : Nat

/-- R249 steps 1 to 7, R250, R251. `key`: the 157 bytes of the enrolled key of each slot; `fw`: the running firmware (major, minor). -/
def checkBundle (s : State) (bs : List Nat) (key : Nat → Option (List Nat)) (fw : Nat) (baseOk : Nat → Nat → Bool) : BundleCheck :=
  let h := bs.take 256
  let slot := fieldOf h 88 1
  let nT := fieldOf h 12 4
  let nC := fieldOf h 16 4
  let sig := (bs.drop 256).take 3388
  let tab := bs.drop 3644
  let ts := (tableEntries 64 nT tab).map parseTensor
  let cs := (tableEntries 96 nC (tab.drop (64 * nT))).map parseChunk
  let k := (key slot).getD []
  let e := Config.ecdsaOk (k.take 97) h ((sig.drop 8).take 96)
  let hs := Config.hssOk (k.drop 97) h (sig.drop 104)
  let sigShape := fieldOf sig 0 4 == 96 && fieldOf sig 4 4 == 3284
  let set : LoftSet :=
    { keySlot := slot, modelId := fieldOf h 32 16, version := fieldOf h 48 8, floor := fieldOf h 56 8, hdrHash := Config.sha384 h,
      chunks := cs, bands := [] }
  let isA := fieldOf h 10 2 == 1
  let mk := fun (cause : Nat) => (⟨cause, !e, !hs, set, ts, isA, fieldOf h 64 16, fieldOf h 80 8⟩ : BundleCheck)
  if !bundleHeaderOk h then { mk 1 with ecdsa := false, hss := false }
  else if k = [] ∨ Config.sha384 k ≠ fieldOf h 96 48 then { mk 2 with ecdsa := false, hss := false }
  else if !(e && hs && sigShape) then mk 3
  else if fieldOf h 48 8 < floorOf s slot (fieldOf h 32 16) then mk 4
  else if fw < fieldOf h 20 2 then mk 5
  else if isA && !baseOk (fieldOf h 64 16) (fieldOf h 80 8) then mk 6
  else if !(tab.length == 64 * nT + 96 * nC && Config.sha384 tab == fieldOf h 144 48 && ts.all TensorRec.ok
      && (List.zip (List.range nT) ts).all (fun x => chunksOk x.1 x.2 cs)
      && (ts.map (·.chunks)).foldl (· + ·) 0 == nC && (cs.map (·.bytes)).foldl (· + ·) 0 == fieldOf h 24 8) then mk 7
  else mk 0

/-- R247: L of a full band, by which IB0 rises from band to band. -/
def TensorRec.fullLines (t : TensorRec) : Nat := if fmtBlock t.fmt then ceilDiv (t.bandRows * t.cols) 1792 else 0

/-- R247: the bands of a tensor, not yet placed. -/
def tensorBands (i : Nat) (t : TensorRec) : List BandPlace :=
  (List.range t.bands).map (fun b =>
    { tensor := i, band := b, kind := t.kind, layer := t.layer, hot := t.hot, blk := fmtBlock t.fmt, scaleOff := t.dataBytes b,
      ib0 := 56 * t.fullLines * b % 2 ^ 40, bytes := t.bandBytes b, addr := 0, dieMap := t.diemap, of_ := t.bands })

/-- Bands placed one after the other, each in the tier asked for (1 HBM, 2 DDR5); none where one finds no place. `free` are bytes
of HBM and DDR5 left; `extra` are further ranges not to be touched. -/
def placeAll (s : State) (extra : List (Nat × Nat)) (tierOf : BandPlace → Nat) :
    List BandPlace → Nat → Nat × Nat → List BandPlace → Option (List BandPlace)
  | [], _, _, done => some done
  | b :: t, turn, free, done =>
    let avoid := extra ++ done.map (fun x => (x.addr, x.bytes))
    let tier := tierOf b
    let a := if tier = 1 then (if b.bytes ≤ free.1 then findStack s avoid (b.stacks turn) b.bytes else none)
      else if b.bytes ≤ free.2 then findPlace s avoid 2 [] b.bytes else none
    match a with
    | none => none
    | some a => placeAll s extra tierOf t (turn + 1) (if tier = 1 then (free.1 - b.bytes, free.2) else (free.1, free.2 - b.bytes))
        (done ++ [{ b with addr := a }])

/-- R256 step 3: with the share f = p.1 / p.2 of each layer kept in DDR5, whether band `i` of `b` is one of the last ceil(f × b). -/
def inDdr (p : Nat × Nat) (i b : Nat) : Bool := decide (b - ceilDiv (p.1 * b) p.2 ≤ i)

/-- A fraction takes its place among others in ascending order, once. -/
def insertShare (p : Nat × Nat) : List (Nat × Nat) → List (Nat × Nat)
  | [] => [p]
  | q :: t =>
    if p.1 * q.2 < q.1 * p.2 then p :: q :: t
    else if p.1 * q.2 = q.1 * p.2 then q :: t
    else q :: insertShare p t

/-- R256 step 3: the shares at which ceil(f × B) changes for some band count B, in ascending order. -/
def shareSteps (counts : List Nat) : List (Nat × Nat) :=
  counts.eraseDups.foldl (fun l n => (List.range (n + 1)).foldl (fun l k => insertShare (k, n) l) l) [(0, 1)]

/-- R256: the set placed: KIND 1 in HBM and, from the highest-numbered tensor downward, what does not fit in DDR5; KIND 0 with the
smallest share in DDR5 that fits (DEDUCED: log entry 80). `table`: the range that its placement table takes. -/
def placeSet (s : State) (bands : List BandPlace) (hbmOnly : Bool) (table : List (Nat × Nat)) : Option (List BandPlace) :=
  let kept := fun (tier : Nat) => ((table.filter (fun r => addrTier r.1 == tier)).map (·.2)).foldl (· + ·) 0
  let free := (tierFree s 1 - kept 1, tierFree s 2 - kept 2)
  let shed := bands.filter (·.kind == 1)
  let order := fun (l : Option (List BandPlace)) => l.map (fun l => bands.filterMap (fun b =>
    l.find? (fun x => x.tensor == b.tensor && x.band == b.band)))
  let stall := bands.filter (·.kind == 0)
  let tries := if hbmOnly then [(0, 1)] else shareSteps (stall.map (·.of_))
  match order (tries.findSome? (fun p =>
      placeAll s table (fun b => if b.kind = 0 ∧ inDdr p b.band b.of_ then 2 else 1) (shed ++ stall) 0 free [])) with
  | some l => some l
  | none =>
    if hbmOnly then none
    else order ((List.range (shed.length + 1)).findSome? (fun j =>
      let keep := (shed.take (shed.length - j)).map (fun b => (b.tensor, b.band))
      placeAll s table (fun b => if b.kind = 1 ∧ keep.contains (b.tensor, b.band) then 1 else 2) (shed ++ stall) 0 free []))

/-- R256, R257: a place for a placement table of `n` bytes: free HBM, else free DDR5 (DEDUCED: log entry 152). -/
def tablePlace (s : State) (n : Nat) : Option Nat :=
  match (if n ≤ tierFree s 1 then findPlace s [] 1 (List.range 8) n else none) with
  | some a => some a
  | none => if n ≤ tierFree s 2 then findPlace s [] 2 [] n else none

/-- R265: the free adapter slot a bundle loads into: its base set is the bay's. -/
def freeSlot (s : State) (y : Nat) : Option Nat :=
  (List.range 64).find? (fun i => (nmGet (fun _ => none) (getBay s y).slots i).isNone)

/-- Whether a bay holds the base set of an adapter (R249 step 6, R265). -/
def baseMatches (s : State) (y model version : Nat) : Bool :=
  (bayState s y == 2 || bayState s y == 3) &&
    (match (getBay s y).set with
     | some t => t.modelId == model && t.version == version
     | none => false)

/-- R257, Table 9.9: the placement table and the bay's registers of a build that has been placed. `desc`: where firmware keeps the table.
(DEDUCED: log entry 152). -/
def recordBuild (s : State) (y desc : Nat) (set : LoftSet) : State :=
  let s := setF (setF s Fld.LFT_BAY_DESC_ADDR desc 0 y) Fld.LFT_BAY_VERSION_VERSION set.version 0 y
  let s := showBytes s y set.bands
  settle ((List.zip (List.range set.bands.length) set.bands).foldl (fun s x => writeEntry s y x.1 x.2) s)

/-! Chunks. -/

/-- Bytes read at `a`, window by window; the second result says that some were uncorrectable. -/
def readRange (s : State) (a n : Nat) : State × List Nat × Bool :=
  let first := min n (512 - a % 512)
  let chunks := (if first = 0 then [] else [(a, first)]) ++
    (List.range (ceilDiv (n - first) 512)).map (fun i => (a + first + 512 * i, min 512 (n - first - 512 * i)))
  chunks.foldl (fun x w =>
    let m := memRead x.1 w.1 w.2
    (m.s, x.2.1 ++ m.bytes, x.2.2 || m.failed)) (s, [], false)

/-- Bytes written at `a`, window by window; the second result says that some had no effect (R225). -/
def writeRange (s : State) (a : Nat) (bs : List Nat) : State × Bool :=
  let first := min bs.length (512 - a % 512)
  let rest := bs.drop first
  let w0 := if first = 0 then (s, false) else memWriteBytes s a (bs.take first)
  (List.range (ceilDiv rest.length 512)).foldl (fun x i =>
    let w := memWriteBytes x.1 (a + first + 512 * i) ((rest.drop (512 * i)).take 512)
    (w.1, x.2 || w.2)) w0

/-- R252: a chunk in staging goes band by band to its places (DESIGN CHOICE: log entry 77). -/
def copyChunk (s : State) (src : Nat) (c : ChunkRec) (bands : List BandPlace) : State :=
  settle ((List.range c.n).foldl (fun (x : State × Nat) k =>
    match bands.find? (fun b => b.tensor == c.tensor && b.band == c.first + k) with
    | none => x
    | some b => (copyBursts x.1 x.2 b.addr (b.bytes / 64), x.2 + b.bytes)) (s, src)).1

/-- Whether a chunk's bands may be copied to their places now. -/
def chunkGoes (s : State) (c : ChunkRec) (bands : List BandPlace) : Bool :=
  bands.all (fun b => !(b.tensor == c.tensor && decide (c.first ≤ b.band) && decide (b.band < c.first + c.n)) || rangeAccepts s b.addr b.bytes 3)

/-- Whether every byte of a staged chunk has been delivered. -/
def StagedChunk.complete (x : StagedChunk) : Bool := (x.got.foldl (fun a g => a + g.2) 0) == x.bytes

/-- The set a staged chunk belongs to. -/
def StagedChunk.setOf (s : State) (x : StagedChunk) : Option LoftSet :=
  if x.repair then (getBay s x.bay).set else s.loft.build.map (·.set)

/-- The waiting BUNDLE_PIECE ends with a status, a cause and a mismatch count. -/
def endPiece (s : State) (x : StagedChunk) (status cause mism : Nat) : State :=
  match x.waiter with
  | none => s
  | some w => finishCmd s w.1 w.2 status (resultOf [(16, cause), (17, mism)])

/-- A build with every chunk copied: its bay becomes READY, or its adapter slot is loaded, where the bay still is READY or ACTIVE
(R254, R265) (DEDUCED: log entry 241). -/
def finishBuild (s : State) : State :=
  match s.loft.build with
  | none => s
  | some b =>
    if b.copied.length ≠ b.set.chunks.length then s
    else
      match b.slot with
      | none => baySet s b.bay 2
      | some i =>
        if bayState s b.bay ≠ 2 ∧ bayState s b.bay ≠ 3 then failBuild s 6 false false 0
        else
        let bay := getBay s b.bay
        let s := putBay s b.bay { bay with slots := nmPut (fun _ => none) bay.slots i (some ⟨b.set, false⟩) }
        setF { s with loft := { s.loft with build := none } } Fld.LFT_BUILD_BUSY 0

/-- R252: a repair chunk of a bay as a key of its mismatch count. -/
def repairChunk (x : StagedChunk) : Nat := 2 * x.chunk + x.bay

/-- R252: the mismatches counted of a staged chunk, those before it. -/
def mismatches (s : State) (x : StagedChunk) : Nat :=
  if x.repair then nmGet (fun _ => 0) s.loft.repMism (repairChunk x)
  else (s.loft.build.map (fun b => nmGet (fun _ => 0) b.mism x.chunk)).getD 0

/-- R252: a chunk's mismatch count is kept, with its build, or, for a repair, with the loft. -/
def setMismatches (s : State) (x : StagedChunk) (m : Nat) : State :=
  if x.repair then { s with loft := { s.loft with repMism := nmPut (fun _ => 0) s.loft.repMism (repairChunk x) m } }
  else { s with loft := { s.loft with build := s.loft.build.map (fun b => { b with mism := nmPut (fun _ => 0) b.mism x.chunk m }) } }

/-- R252, R249 step 9: the hash engines finish a complete chunk in staging; the copies of one that matches wait while a channel takes no
request of class C3. One that cannot be read does not match; its last piece then ends with DATA_ERROR or UNREACHABLE (DEDUCED: log entry 248). -/
def digestCheck (s : State) (x : StagedChunk) : State :=
  match x.setOf s with
  | none => s
  | some set =>
    match set.chunks[x.chunk]? with
    | none => s
    | some c =>
      let r := readRange s x.addr c.bytes
      let bad := if !reachable s x.addr then 0x000B else if r.2.2 then 0x0008 else 0x0009
      if !r.2.2 && Config.sha384 r.2.1 == c.digest && !chunkGoes s c set.bands then s
      else
      let s := { r.1 with loft := { r.1.loft with staged := r.1.loft.staged.erase x } }
      if !r.2.2 && Config.sha384 r.2.1 == c.digest then
        let s := endPiece (copyChunk s x.addr c set.bands) x 0 0 0
        if x.repair then setMismatches s x 0
        else
          match s.loft.build with
          | none => s
          | some b =>
            let b := { b with copied := b.copied ++ [x.chunk] }
            finishBuild (setF { s with loft := { s.loft with build := some b } } Fld.LFT_BCHUNKS_DONE b.copied.length)
      else
        let m := mismatches s x + 1
        let s := raiseEv s 0x5004 loftUnit 0 (packDetail [(0, x.bay), (1, min m 3), (32, x.chunk)])
        let s := setMismatches (endPiece s x bad (if bad = 0x0009 then 9 else 0) (min m 255)) x m
        if !x.repair && decide (3 ≤ m) then failBuild s 9 false false x.chunk else s

/-! Migration. -/

/-- R264: the DDR5 band that moves next: ascending HOT_RANK, within one rank from the last band backwards (DEDUCED: log entry 83). -/
def nextMigrant (bands : List BandPlace) : Option (Nat × BandPlace) :=
  ((List.zip (List.range bands.length) bands).filter (fun x => addrTier x.2.addr == 2)).foldl (fun best x =>
    match best with
    | none => some x
    | some y => if x.2.hot < y.2.hot ∨ (x.2.hot = y.2.hot ∧ y.1 < x.1) then some x else best) none

/-- The active bay, where there is one. -/
def activeBay (s : State) : Option Nat :=
  if getF s Fld.LFT_ACTIVE_VALID = 1 then some (getF s Fld.LFT_ACTIVE_BAY) else none

/-- R264: what migration would move next, and where to: free HBM on the band's own stacks first (R211). -/
def migrantPlace (s : State) (y : Nat) : Option (Nat × BandPlace × Nat) :=
  match (getBay s y).set with
  | none => none
  | some t =>
    match nextMigrant t.bands with
    | none => none
    | some x =>
      if tierFree s 1 < x.2.bytes then none
      else (findStack s [] (x.2.stacks x.2.band) x.2.bytes).map (fun a => (x.1, x.2, a))

/-- R264: copies whose waiting requests have ended are freed. -/
def freeMigrated (s : State) : State :=
  { s with loft := { s.loft with freeLater := s.loft.freeLater.filter (fun f =>
      s.serve.batches.any (fun b => f.waits.contains b.id)) } }

end Sys2Proof.Machine
end

