-- ==== Sys2Proof/Machine/Wire.lean ====
section
/-! DEFINITION. What the Droveway's frames are on a lane: Reed-Solomon codewords, the byte layouts, and sealing (R383 to R387, R394). -/
namespace Sys2Proof.Machine

/-! The code of R383: RS(544,514) over GF(2^10) with x^10 + x^3 + 1. -/

/-- x times an element of GF(2^10). -/
def gfDouble (a : Nat) : Nat := if a < 512 then 2 * a else (2 * a) ^^^ 0x409

/-- The product of two elements, from bit `n - 1` of `b` down. -/
def gfMulBits (a b : Nat) : Nat → Nat
  | 0 => 0
  | n + 1 => gfDouble (gfMulBits a (b / 2) n) ^^^ (if b % 2 = 1 then a else 0)

def gfMul (a b : Nat) : Nat := gfMulBits a b 10

/-- α to the `n`, with α = x. -/
def gfPow : Nat → Nat
  | 0 => 1
  | n + 1 => gfDouble (gfPow n)

/-- A polynomial, its lowest coefficient first, times x + r. -/
def timesRoot (r : Nat) (g : List Nat) : List Nat := List.zipWith (· ^^^ ·) (0 :: g) (g.map (gfMul r) ++ [0])

/-- IEEE 802.3 clause 91: the generator polynomial, with the roots α^0 to α^29; its lowest coefficient first. -/
def rsGenerator : List Nat := (List.range 30).foldl (fun g j => timesRoot (gfPow j) g) [1]

/-- One message symbol enters the encoder, whose 30 parity symbols stand highest first. -/
def rsShift (gen par : List Nat) (m : Nat) : List Nat :=
  let f := m ^^^ par.headD 0
  List.zipWith (· ^^^ ·) (par.drop 1 ++ [0]) (gen.map (gfMul f))

/-- The parity of message symbols, the first of which leads. Leading zero symbols, which a shortened codeword omits, do not change it. -/
def rsParity (msg : List Nat) : List Nat :=
  let gen := (rsGenerator.take 30).reverse
  msg.foldl (rsShift gen) (List.replicate 30 0)

/-- A codeword: message symbols, then parity. -/
def rsCodeword (msg : List Nat) : List Nat := msg ++ rsParity msg

/-- R383: symbols `0` to `n - 1` of a message whose bit `i` is bit `i` of `m`. -/
def messageSymbols (m n : Nat) : List Nat := (List.range n).map (fun k => m / 2 ^ (10 * k) % 1024)

/-- R384: the 40 codewords of a data frame's bytes: codeword `c` carries message bits 5140c to 5140c + 5139. -/
def dataCodewords (bytes : List Nat) : List (List Nat) :=
  let m := ofBytes bytes
  (List.range 40).map (fun c => rsCodeword (messageSymbols (m / 2 ^ (5140 * c) % 2 ^ 5140) 514))

/-- R384: the codeword of a C0 frame's 640 bytes; its last 20 message bits are zero. -/
def c0Codeword (bytes : List Nat) : List Nat := rsCodeword (messageSymbols (ofBytes bytes) 514)

/-- R394: the codeword of a reservation's 64 bytes, shortened to 83 symbols. -/
def reserveCodeword (bytes : List Nat) : List Nat := rsCodeword (messageSymbols (ofBytes bytes) 53)

/-! Layouts. -/

/-- Bytes of a fetched structure as a number. -/
def byteField (bs : List Nat) (lo n : Nat) : Nat := ofBytes ((bs.drop lo).take n)

/-- The first `n` of a list, with zeros after it. -/
def padNat (n : Nat) (l : List Nat) : List Nat := (l ++ List.replicate n 0).take n

/-! The identity keys (R454). -/

/-- SHA-384 as bytes. -/
def sha384Bytes (bs : List Nat) : List Nat := toBytes 48 (Config.sha384 bs)

/-- HMAC-SHA-384 with a key of at most 128 bytes. -/
def hmac384 (key msg : List Nat) : List Nat :=
  let k := padNat 128 key
  sha384Bytes (k.map (· ^^^ 0x5C) ++ sha384Bytes (k.map (· ^^^ 0x36) ++ msg))

/-- R454: HKDF-SHA-384 with an empty salt: 48 bytes of output for an info (DESIGN CHOICE: log entry 19). -/
def hkdf384 (ikm info : List Nat) : List Nat := hmac384 (hmac384 (List.replicate 48 0) ikm) (info ++ [1])

/-- The order n of the P-384 group. -/
def p384Order : Nat := 0xFFFFFFFFFFFFFFFFFFFFFFFFFFFFFFFFFFFFFFFFFFFFFFFFC7634D81F4372DDF581A0DB248B0A77AECEC196ACCC52973

/-- R454: the ECDSA identity key d: the output for "YLVS-IDK" and the first counter that gives 1 to n − 1 (DESIGN CHOICE: log entry 19). -/
def idKeyD (secret : Nat) : Nat :=
  ((List.range 256).findSome? (fun c =>
    let d := (hkdf384 (toBytes 32 secret) [0x59, 0x4C, 0x56, 0x53, 0x2D, 0x49, 0x44, 0x4B, c]).foldl (fun a b => 256 * a + b) 0
    if 1 ≤ d ∧ d < p384Order then some d else none)).getD 0

/-- R454: seed and identifier of the HSS identity key: the outputs for "YLVS-HSS-SEED" and "YLVS-HSS-I". -/
def idHssSeed (secret : Nat) : List Nat :=
  (hkdf384 (toBytes 32 secret) [0x59, 0x4C, 0x56, 0x53, 0x2D, 0x48, 0x53, 0x53, 0x2D, 0x53, 0x45, 0x45, 0x44]).take 32
def idHssI (secret : Nat) : List Nat :=
  (hkdf384 (toBytes 32 secret) [0x59, 0x4C, 0x56, 0x53, 0x2D, 0x48, 0x53, 0x53, 0x2D, 0x49]).take 16

/-- R454: the identity public keys. -/
def idKeyEc (secret : Nat) : List Nat := padNat 97 (Config.ecPublic (idKeyD secret))
/-- (DESIGN CHOICE: log entry 19). -/
def idKeyHss (secret : Nat) : List Nat := padNat 60 (Config.hssPublic (idHssSeed secret) (idHssI secret))

/-- Table 15.3: bytes 79 to 0 of a data frame, the lowest first. -/
def dataHeader (f : DataFrame) : List Nat :=
  toBytes 8 f.herd ++ toBytes 8 f.frame ++ [f.src % 16 + 16 * (f.kind % 16), f.dst % 16 + 16 * (f.cls % 4), f.lane % 32, b01 f.retry]
    ++ toBytes 4 f.epoch ++ toBytes 6 f.addr ++ toBytes 2 f.lines ++ toBytes 2 f.xfer ++ toBytes 2 f.index ++ toBytes 2 f.nframes
    ++ toBytes 2 (f.rsbx % 32768) ++ [f.renew % 32] ++ List.replicate 39 0

/-- Table 15.3: the frame that 25,700 bytes hold, once opened. -/
def dataOf (b : List Nat) : DataFrame :=
  let at_ := byteField b
  { herd := at_ 0 8, frame := at_ 8 8, src := at_ 16 1 % 16, kind := at_ 16 1 / 16, dst := at_ 17 1 % 16, cls := at_ 17 1 / 16 % 4
    lane := at_ 18 1 % 32, retry := at_ 19 1 % 2 == 1, epoch := at_ 20 4, addr := at_ 24 6, lines := at_ 30 2, xfer := at_ 32 2
    index := at_ 34 2, nframes := at_ 36 2, rsbx := at_ 38 2 % 32768, renew := at_ 40 1 % 32
    payload := (b.drop 80).take (64 * min 400 (at_ 30 2)) }

/-- R386: bytes 31 to 0 of a C0 frame. -/
def c0Header (f : C0Frame) : List Nat :=
  toBytes 8 f.herd ++ toBytes 8 f.frame ++ [f.src % 16 + 48, f.dst % 256, f.pos % 256, f.type % 256] ++ toBytes 4 f.epoch
    ++ toBytes 2 (min 592 f.payload.length) ++ List.replicate 6 0

/-- R386: the 640 bytes of an opened C0 frame. -/
def c0Bytes (f : C0Frame) : List Nat := c0Header f ++ padNat 592 f.payload ++ padNat 16 f.tag

/-- R386: the frame that 640 bytes of memory hold. -/
def c0Of (b : List Nat) : C0Frame :=
  { herd := byteField b 0 8, frame := byteField b 8 8, src := byteField b 16 1 % 16, epoch := byteField b 20 4, dst := byteField b 17 1
    pos := byteField b 18 1, type := byteField b 19 1, payload := (b.drop 32).take (min 592 (byteField b 24 2)), tag := (b.drop 624).take 16 }

/-- R394: bytes 47 to 0 of a reservation record; K stands where Table 15.3 has RENEW (DEDUCED: log entry 218). -/
def reserveHeader (r : ResRecord) : List Nat :=
  toBytes 8 r.herd ++ toBytes 8 r.frame ++ [r.req.src % 16 + 64, r.req.dst % 16 + 16 * (r.req.cls % 4), 0, 0] ++ toBytes 4 r.epoch
    ++ List.replicate 16 0 ++ [r.req.lanes % 32] ++ List.replicate 7 0

/-! Sealing (R387). -/

/-- R387: the 12 bytes of a nonce. -/
def sealNonce (frame src lane pos kind : Nat) : List Nat := toBytes 8 frame ++ [src % 16, lane % 256, pos % 256, kind % 16]

/-- R387: a payload encrypted, and the 16-byte tag over header and payload. With no key held (ADMIT and training) they travel in the clear with a
zero tag. -/
def sealWith (key : Option W256) (nonce header payload : List Nat) : List Nat × List Nat :=
  match key with
  | some k => (padNat payload.length (Config.gcmCipher k nonce payload), padNat 16 (Config.gcmTag k nonce header payload))
  | none => (payload, List.replicate 16 0)

/-- R385, R387: a sealed data frame. -/
def dataSealed (key : Option W256) (f : DataFrame) : List Nat :=
  let x := sealWith key (sealNonce f.frame f.src f.lane 0 f.kind) (dataHeader f) (padNat 25600 f.payload)
  dataHeader f ++ x.1 ++ x.2 ++ List.replicate 4 0

/-- R386, R387: a sealed C0 frame. -/
def c0Sealed (key : Option W256) (f : C0Frame) : List Nat :=
  let x := sealWith key (sealNonce f.frame f.src f.lane f.pos 3) (c0Header f) (padNat 592 f.payload)
  c0Header f ++ x.1 ++ x.2

/-- R394, R387: a sealed reservation record. -/
def reserveSealed (key : Option W256) (r : ResRecord) : List Nat :=
  reserveHeader r ++ (sealWith key (sealNonce r.frame r.req.src 255 5 4) (reserveHeader r) []).2

end Sys2Proof.Machine
end

