-- ==== Sys2Proof/Machine/DroveOps.lean ====
section
/-! DEFINITION. Shared operations of the Droveway (chapter 15): transfers, C0 frames, the herd, lanes and ports. -/
namespace Sys2Proof.Machine

def ownIndex (s : State) : Nat := getF s Fld.DRV_HERD_INDEX_INDEX
def herdId (s : State) : Nat := getF s Fld.DRV_HERD_ID_ID
def admitted (s : State) (p i : Nat) : Bool := bitOf (getF s Fld.DRV_MEMBERS_ADMITTED p) i
def memberSuspended (s : State) (p i : Nat) : Bool := bitOf (getF s Fld.DRV_MEMBERS_SUSPENDED p) i
def portLeads (s : State) (p : Nat) : Bool := getF s Fld.DRV_STATUS_LEADER p == 1
def portEpoch (s : State) (p : Nat) : Nat := getF s Fld.DRV_EPOCH_EPOCH p

/-- R380: the ring of a lane in a direction. -/
def laneRing (p lane : Nat) (rx : Bool) : Nat := 16 + 64 * p + lane + (if rx then 32 else 0)

/-- R278, R283: the ring of a lane in a direction is in service. -/
def laneRingUp (s : State) (p lane : Nat) (rx : Bool) : Bool := getF s Fld.LTE_RING_STATUS_OOS 0 (laneRing p lane rx) == 0

/-- Bit `i` of a mask set or cleared. -/
def withBit (v i : Nat) (b : Bool) : Nat := if b then v ||| 2 ^ i else if bitOf v i then v - 2 ^ i else v

/-! Send descriptors (R389). -/

/-- Bytes of memory, 64 at a time at most; a byte that cannot be read goes as a free value (DESIGN CHOICE: log entry 23). -/
def readLoose (s : State) (a n : Nat) : State × List Nat :=
  let k := if n = 0 then 0 else (a + n - 1) / 64 - a / 64 + 1
  (List.range k).foldl (fun (x : State × List Nat) i =>
    let lo := max a (64 * (a / 64 + i))
    let len := min (a + n) (64 * (a / 64 + i) + 64) - lo
    if reachable x.1 lo then
      let m := memRead x.1 lo len
      let vs := (List.zip (List.range len) (List.zip m.bytes m.bad)).map (fun y =>
        if y.2.2 then (Config.lostByte (lo + y.1) m.s.freeCtr).toNat else y.2.1)
      (if m.failed then drawn m.s else m.s, x.2 ++ vs)
    else (drawn x.1, x.2 ++ (List.range len).map (fun j => (Config.lostByte (lo + j) x.1.freeCtr).toNat))) (s, [])

/-- Table 15.4. -/
def sendOf (b : List Nat) : SendDesc :=
  { src := byteField b 0 6, remote := byteField b 8 6, dst := bitsOf (byteField b 14 1) 0 4
    cls := bitsOf (byteField b 15 1) 0 2, doneEn := bitOf (byteField b 15 1) 2, rsbxEn := bitOf (byteField b 15 1) 3
    len := byteField b 16 4, doneBox := bitsOf (byteField b 20 2) 0 14, rsbx := bitsOf (byteField b 22 2) 0 14, tag := byteField b 24 4 }

/-- Table 15.4: whether a reserved field is not 0; CLASS 0 is reserved. -/
def sendReserved (b : List Nat) : Bool :=
  byteField b 6 2 != 0 || byteField b 14 1 / 16 != 0 || byteField b 15 1 / 16 != 0 || byteField b 20 2 / 2 ^ 14 != 0
    || byteField b 22 2 / 2 ^ 14 != 0 || byteField b 28 4 != 0 || byteField b 15 1 % 4 == 0

/-- Whether a range of bytes lies in the map of Table 0.3. -/
def rangeMapped (a n : Nat) : Bool :=
  decide (a + n ≤ 0x40000000 ∨ (0x80000000 ≤ a ∧ a + n ≤ 0x90000000) ∨ (0x1000000000 ≤ a ∧ a + n ≤ 0x7000000000) ∨ (0x10000000000 ≤ a ∧ a + n ≤ 0x40000000000))

/-- R389: the status of an arm at `addr` of a descriptor whose bytes are `b` (DEDUCED: log entry 125). -/
def sendStatus (s : State) (p addr : Nat) (b : List Nat) : Nat :=
  let d := sendOf b
  if 64 ≤ (getPort s p).sq.length then 1
  else if sendReserved b then 2
  else if addr % 32 ≠ 0 ∨ 0x40000000 ≤ addr ∨ d.src % 64 ≠ 0 ∨ d.remote % 64 ≠ 0 then 3
  else if d.len % 64 ≠ 0 ∨ d.len < 64 ∨ 104857600 < d.len then 4
  else if admitted s p d.dst = false then 5
  else if portState s p ≠ portUp then 6
  else if rangeMapped d.src d.len then 0 else 7

/-- R389: a write of DRV_SQ_ARM. -/
def sqArm (s : State) (p addr : Nat) : State :=
  let r := readLoose s addr 32
  let st := sendStatus r.1 p addr r.2
  let s := addF (setF r.1 Fld.DRV_SQ_STATUS_STATUS st p) Fld.DRV_SQ_STATUS_SEQ 1 p
  if st = 0 then countSq (putPort s p { getPort s p with sq := (getPort s p).sq ++ [sendOf r.2] }) p
  else setF s Fld.DRV_ERR_SQ_REFUSED 1 p

/-! Transfers (R390 to R393). -/

def SendDesc.nframes (d : SendDesc) : Nat := ceilDiv d.len 25600

/-- R390: lines in frame `i` of a transfer. -/
def SendDesc.lines (d : SendDesc) (i : Nat) : Nat := min 400 ((d.len - 25600 * i) / 64)

/-- R390: frames of transfers in flight toward `dst`, and of those queued, that have not been sent. -/
def unsent (x : Port) (dst : Nat) : Nat :=
  ((x.flight.filter (fun o => o.d.dst == dst)).map (fun o => o.d.nframes - o.next + (o.out.filter (·.again)).length)).sum
    + ((x.sq.filter (fun d => d.dst == dst)).map SendDesc.nframes).sum

/-- What a sender puts on a lane next: a frame of the transfer at place `k` to be sent again or for the first time, or the first frame of the
queued descriptor at place `k`. -/
inductive Pick
  | again (k : Nat) (f : OutFrame)
  | fresh (k : Nat)
  | start (k : Nat)

/-- The first place whose element satisfies a test. -/
def firstPlace {α : Type} (f : α → Bool) : List α → Nat → Option (Nat × α)
  | [], _ => none
  | a :: t, k => if f a then some (k, a) else firstPlace f t (k + 1)

/-- The best of C1, C2 and C3, in place order within a class (R390). -/
def byClass {α : Type} (cls : α → Nat) (ok : α → Bool) (l : List α) : Option (Nat × α) :=
  match firstPlace (fun a => ok a && cls a == 1) l 0 with
  | some r => some r
  | none =>
    match firstPlace (fun a => ok a && cls a == 2) l 0 with
    | some r => some r
    | none => firstPlace (fun a => ok a && cls a == 3) l 0

/-- R390, R376: whether the memory that frame `i` of a transfer is read from takes requests of its class; until it does, the frame waits
(DEDUCED: log entry 245). -/
def SendDesc.readable (s : State) (d : SendDesc) (i : Nat) : Bool := rangeAccepts s (d.src + 25600 * i) (64 * d.lines i) d.cls

/-- R390, R392: what a sender puts on its next lane. Resends go first. A suspended member is sent nothing (R409).
(DEDUCED: log entry 124). -/
def pickSend (s : State) (p : Nat) : Option Pick :=
  let x := getPort s p
  let live := fun (i : Nat) => !memberSuspended s p i
  let due := fun (o : Outgoing) (g : OutFrame) => g.again && o.d.readable s g.index
  match byClass (fun (o : Outgoing) => o.d.cls) (fun o => live o.d.dst && o.out.any (due o)) x.flight with
  | some (k, o) => (o.out.find? (due o)).map (Pick.again k)
  | none =>
    match byClass (fun (o : Outgoing) => o.d.cls) (fun o => live o.d.dst && decide (o.next < o.d.nframes) && o.d.readable s o.next) x.flight with
    | some (k, _) => some (.fresh k)
    | none =>
      if 8 ≤ x.flight.length then none
      else (byClass SendDesc.cls (fun d => live d.dst && d.readable s 0) x.sq).map (fun y => .start y.1)

/-- The data frame of one lane, from frame `i` of a transfer (Table 15.3). -/
def dataFrame (s : State) (p lane : Nat) (o : Outgoing) (i : Nat) (retry : Bool) : State × DataFrame :=
  let r := readLoose s (o.d.src + 25600 * i) (64 * o.d.lines i)
  (r.1,
    { herd := herdId s, frame := (getPort s p).frame, src := ownIndex s, kind := 1, dst := o.d.dst, cls := o.d.cls, lane := lane, retry := retry,
      epoch := portEpoch s p, addr := (o.d.remote + 25600 * i) % 2 ^ 48, lines := o.d.lines i, xfer := o.num, index := i,
      nframes := o.d.nframes, rsbx := if o.d.rsbxEn then o.d.rsbx + 2 ^ 14 else o.d.rsbx, renew := 0, payload := r.2 })

/-- One lane of a lane frame: the sender places a data frame on it. -/
def placeOn (s : State) (p lane : Nat) : State :=
  let x := getPort s p
  match pickSend s p with
  | none => s
  | some k =>
    let x := match k with
      | .start j =>
        match x.sq[j]? with
        | some d => { x with sq := x.sq.eraseIdx j, flight := x.flight ++ [(⟨x.nextXfer, d, 0, []⟩ : Outgoing)], nextXfer := (x.nextXfer + 1) % 65536 }
        | none => x
      | _ => x
    let at_ := match k with
      | .again j _ => j
      | .fresh j => j
      | .start _ => x.flight.length - 1
    match x.flight[at_]? with
    | none => s
    | some o =>
      let i := match k with
        | .again _ f => f.index
        | _ => o.next
      let o' : Outgoing := match k with
        | .again _ _ => { o with out := o.out.map (fun g =>
            if g.index = i then { g with frame := x.frame, lane := lane, resends := g.resends + 1, again := false } else g) }
        | _ => { o with next := o.next + 1, out := o.out ++ [⟨i, x.frame, lane, 0, false⟩] }
      let retry := match k with
        | .again _ _ => true
        | _ => false
      let r := dataFrame s p lane o i retry
      let s := putPort r.1 p { x with flight := x.flight.set at_ o', air := x.air ++ [r.2] }
      let s := addF s Fld.DRV_FRAMES_TX_COUNT 1 p
      countSq (if retry then bumpF s Fld.DRV_RETRY_COUNT 1 p else s) p

/-- R385, R397: RENEW of the star's data frames: the lanes wanted two frames on, beyond those granted for the next one.
(DEDUCED: log entry 123). -/
def renewAir (x : Port) : Port :=
  let next := ((x.grants.filter (fun g => g.1 == x.frame + 1)).map (fun g => g.2.length)).sum
  { x with air := x.air.map (fun f => { f with renew := min 31 (unsent x f.dst - next) }) }

/-- R384: on a point-to-point link a lane in service with nothing to carry sends an idle data frame; in training every lane carries a probe
frame (R410). -/
def idleAir (s : State) (p kind lane : Nat) : State :=
  let x := getPort s p
  if x.air.any (fun f => f.lane == lane) then s
  else
    let f : DataFrame := { herd := herdId s, frame := x.frame, src := ownIndex s, kind := kind, lane := lane, epoch := portEpoch s p }
    putPort s p { x with air := x.air ++ [f] }

/-! C0 frames (R386, R392, R400). -/

def c0Ack : Nat := 1
def c0Lanemap : Nat := 2
def c0Admit : Nat := 3
def c0Key : Nat := 4
def c0Leave : Nat := 5
def c0Suspend : Nat := 6
def c0Resume : Nat := 7
def c0Handover : Nat := 8
def c0Grant : Nat := 9

/-- R392, R400: the frames that are acknowledged (DEDUCED: log entry 127). -/
def c0Answered (f : C0Frame) : Bool := f.type != c0Ack

/-- R392: an ACK entry's bytes. -/
def ackBytes (e : AckEntry) : List Nat := toBytes 4 e.frame ++ [e.lane, e.status, 0, 0]

/-- R392: the ACK frames that a port owes, 74 entries to a frame. -/
def ackFrames (acks : List AckOwed) : List C0Frame :=
  (List.range 16).flatMap (fun d =>
    let mine := (acks.filter (fun a => a.dst == d)).map (·.entry)
    (List.range (ceilDiv mine.length 74)).map (fun i =>
      { dst := d, type := c0Ack, payload := ((mine.drop (74 * i)).take 74).flatMap ackBytes }))

/-- The frames a port has to send, in order: answers owed, resends, its own, the firmware's. -/
def c0Ready (x : Port) : List C0Frame :=
  ackFrames x.acks ++ (x.c0out.filter (·.again)).map (·.f) ++ x.c0hw ++ x.c0tx

/-- The members that a frame is acknowledged by. An offer of admission is answered by whoever leads. -/
def c0Targets (s : State) (p : Nat) (f : C0Frame) : List Nat :=
  if c0Answered f = false then []
  else if f.type = c0Admit ∧ f.dst = 255 then [255]
  else if f.dst = 255 then (List.range 16).filter (fun i => admitted s p i && i != ownIndex s)
  else [f.dst]

/-- R387: the key a port holds for an epoch. -/
def keyOf (x : Port) (e : Nat) : Option W256 := (x.keys.find? (fun k => k.1 == e)).map (·.2)

/-- R388: what a KEY frame carries: the new epoch, the frame in which it takes effect, and its key wrapped under the key in force. -/
def keyPayload (s : State) (p e at_ : Nat) : List Nat :=
  let x := getPort s p
  toBytes 4 e ++ toBytes 8 at_ ++ padNat 48 (Config.keyWrap ((keyOf x (portEpoch s p)).getD 0) ((keyOf x e).getD 0))

/-- R388: a KEY frame of the port's own is filled in as it is sent; with the first one the frame in which the epoch takes effect is fixed, 64
frames on. -/
def fillKeys (s : State) (p : Nat) : State :=
  let x := getPort s p
  match x.newEpoch with
  | some (e, none, why) =>
    let at_ := x.frame + 64
    let fill := fun (f : C0Frame) => if f.type = c0Key ∧ f.payload = [] then { f with payload := keyPayload s p e at_ } else f
    putPort s p { x with newEpoch := some (e, some at_, why), c0hw := x.c0hw.map fill }
  | _ => s

/-- R392, R400: frames just sent, which their receivers are to acknowledge. -/
def c0Owed (s : State) (p : Nat) (fs : List C0Frame) : List OutC0 :=
  fs.flatMap (fun f => (c0Targets s p f).map (fun i => (⟨{ f with dst := i }, (getPort s p).frame, 0, false⟩ : OutC0)))

/-- R384, R398, R394: frames that the port forms as it sends them, the leader's grant frame and those that fill a place with nothing to carry, are
on the lanes. -/
def c0Direct (s : State) (p : Nat) (fs : List C0Frame) : State :=
  let x := getPort s p
  putPort s p { x with c0air := x.c0air ++ fs, c0out := x.c0out ++ c0Owed s p fs }

/-- R384, R398: the next C0 frames go out in slots of a lane and a POS. Every answer owed goes out in the ACK frames among them.
(DEDUCED: log entry 129). -/
def c0Send (s : State) (p : Nat) (slots : List (Nat × Nat)) : State :=
  let n := slots.length
  let ahead := (ackFrames (getPort s p).acks).length + ((getPort s p).c0out.filter (·.again)).length
  let s := if ((getPort s p).c0hw.take (n - ahead)).any (fun f => f.type == c0Key) then fillKeys s p else s
  let x := getPort s p
  let acks := ackFrames x.acks
  let again := x.c0out.filter (·.again)
  let nAck := min n acks.length
  let nAgain := min (n - nAck) again.length
  let nHw := min (n - nAck - nAgain) x.c0hw.length
  let nTx := min (n - nAck - nAgain - nHw) x.c0tx.length
  let new := x.c0hw.take nHw ++ x.c0tx.take nTx
  let sent := acks.take nAck ++ (again.take nAgain).map (·.f) ++ new
  let stamp := fun (f : C0Frame) (q : Nat × Nat) =>
    { f with herd := herdId s, frame := x.frame, src := ownIndex s, epoch := portEpoch s p, lane := q.1, pos := q.2 }
  let dropped := (acks.take nAck).map (fun f => f.dst)
  let keep := fun (d : Nat) => (x.acks.filter (fun a => a.dst == d)).drop (74 * (dropped.filter (· == d)).length)
  let firstAgain := (again.take nAgain).map (·.f)
  let out := x.c0out.map (fun o =>
    if o.again && firstAgain.contains o.f then { o with frame := x.frame, resends := o.resends + 1, again := false } else o)
  let fresh := c0Owed s p new
  let s := putPort s p { x with
    acks := (List.range 16).flatMap keep, c0hw := x.c0hw.drop nHw, c0tx := x.c0tx.drop nTx, c0out := out ++ fresh,
    c0air := x.c0air ++ (List.zip sent slots).map (fun y => stamp y.1 y.2) }
  let s := setF s Fld.DRV_C0TX_STATUS_QUEUED (getPort s p).c0tx.length p
  bumpF s Fld.DRV_RETRY_COUNT nAgain p

/-- R403: C0 frames go out in slots, either only ADMIT frames or none of them: a star has join slots for them (DEDUCED: log entry 225). -/
def c0SendOnly (s : State) (p : Nat) (adm : Bool) (slots : List (Nat × Nat)) : State :=
  let x := getPort s p
  let mine := fun (f : C0Frame) => (f.type == c0Admit) == adm
  let s := c0Send (putPort s p { x with
    acks := if adm then [] else x.acks, c0hw := x.c0hw.filter mine, c0tx := x.c0tx.filter mine, c0out := x.c0out.filter (fun o => mine o.f) }) p slots
  let y := getPort s p
  let s := putPort s p { y with
    acks := if adm then x.acks else y.acks, c0hw := y.c0hw ++ x.c0hw.filter (fun f => !mine f), c0tx := y.c0tx ++ x.c0tx.filter (fun f => !mine f)
    c0out := y.c0out ++ x.c0out.filter (fun o => !mine o.f) }
  setF s Fld.DRV_C0TX_STATUS_QUEUED (getPort s p).c0tx.length p

/-- A frame that the port makes itself joins those it has to send. -/
def c0Own (s : State) (p dst type : Nat) (payload : List Nat) : State :=
  putPort s p { getPort s p with c0hw := (getPort s p).c0hw ++ [{ dst := dst, type := type, payload := payload }] }

/-- R400: a write of DRV_C0TX_ARM. -/
def c0Arm (s : State) (p addr : Nat) : State :=
  if 8 ≤ (getPort s p).c0tx.length then setF s Fld.DRV_C0TX_STATUS_FULL 1 p
  else
    let r := readLoose s addr 640
    let s := putPort r.1 p { getPort r.1 p with c0tx := (getPort r.1 p).c0tx ++ [c0Of r.2] }
    setF (setF s Fld.DRV_C0TX_STATUS_QUEUED (getPort s p).c0tx.length p) Fld.DRV_C0TX_STATUS_FULL 0 p

/-- R400: a received frame goes into the ring of 64 frames, or is lost (DEDUCED: log entry 128). -/
def c0Ring (s : State) (p : Nat) (f : C0Frame) : State :=
  let tail := getF s Fld.DRV_C0RX_PTR_TAIL p
  if (tail + 1) % 64 = getF s Fld.DRV_C0RX_PTR_HEAD p then bumpF s Fld.DRV_C0RX_PTR_LOST 1 p
  else
    let a := getF s Fld.DRV_C0RX_BASE_BASE p / 64 * 64 + 640 * tail
    let s := if reachable s a && reachable s (a + 639) then (writeRange s a (c0Bytes f)).1 else s
    addF s Fld.DRV_C0RX_PTR_TAIL 1 p

/-- R384, R387: what the present lane frame puts on the lanes of port `p`, as symbols: lane, first codeword of Table 15.2 (on the control
wavelength the POS of R386), symbols in order. ADMIT frames travel in the clear (DEDUCED: log entry 225). -/
def onAir (s : State) (p : Nat) : List (Nat × Nat × List Nat) :=
  let x := getPort s p
  x.air.flatMap (fun f => (List.zip (List.range 40) (dataCodewords (dataSealed (keyOf x f.epoch) f))).map (fun c => (f.lane, c.1, c.2)))
    ++ x.c0air.map (fun f => (f.lane, if f.lane = 255 then f.pos else 39 + f.pos, c0Codeword (c0Sealed (if f.type = c0Admit then none else keyOf x f.epoch) f)))
    ++ x.resAir.map (fun r => (255, 5, reserveCodeword (reserveSealed (keyOf x r.epoch) r)))

/-! Strangers and windows (R391, R405). -/

/-- R388: the epochs a port accepts. -/
def epochOk (s : State) (p e : Nat) : Bool :=
  e == portEpoch s p || (match (getPort s p).oldEpoch with
    | some (o, last) => e == o && decide ((getPort s p).frame ≤ last)
    | none => false)

/-- R405: a stranger is counted, and reported at most once a second. -/
def stranger (s : State) (p : Nat) : State :=
  let s := bumpF (setF s Fld.DRV_ERR_STRANGER 1 p) Fld.DRV_STRANGER_COUNT 1 p
  let x := getPort s p
  let n := x.strangers + 1
  if (match x.strangerAt with
    | some t => decide (1000000000 ≤ (s.time - t).toNat)
    | none => true) then
    raiseEv (putPort s p { x with strangerAt := some s.time, strangers := 0 }) 0xA008 (portUnit p) 0
      (packDetail [(0, p), (3, min n (2 ^ 29 - 1))])
  else putPort s p { x with strangers := n }

/-- R383: corrected symbols of a frame's codewords, and its uncorrectable ones: more than 15 symbol errors. -/
def codewordErrors (errs : List Nat) : Nat × Nat :=
  ((errs.filter (fun e => decide (e ≤ 15))).sum, (errs.filter (fun e => decide (15 < e))).length)

/-- R406: a receive lane's last 64 lane frames, with errors of frame `fr` added: its data frame and its C0 frames count together. -/
def addHist (h : List (Nat × Nat × Nat)) (fr uc cs : Nat) : List (Nat × Nat × Nat) :=
  match h with
  | [] => [(fr, uc, cs)]
  | (f, u, c) :: t => if f = fr then (f, u + uc, c + cs) :: t else ((fr, uc, cs) :: (f, u, c) :: t).take 64

/-- R406, R414: the errors of codewords on a receive lane are counted. -/
def countErrors (s : State) (p lane : Nat) (errs : List Nat) : State :=
  let c := codewordErrors errs
  let s := bumpF (addF s Fld.DRV_CSYM_COUNT c.1 p) Fld.DRV_UCW_COUNT c.2 p
  let x := getPort s p
  let h := addHist (nmGet (fun _ => []) x.laneHist lane) x.frame c.2 c.1
  let s := putPort s p { x with laneHist := nmPut (fun _ => []) x.laneHist lane h }
  let s := setF s Fld.DRV_LSTAT_UC64 (min 255 ((h.map (·.2.1)).sum)) p lane
  setF s Fld.DRV_LSTAT_CSAVG (min 65535 ((h.map (·.2.2)).sum / 64)) p lane

/-- R406: whether a receive lane shows too many errors. -/
def laneErrors (s : State) (p lane : Nat) : Bool :=
  let h := nmGet (fun _ => []) (getPort s p).laneHist lane
  decide (getF s Fld.DRV_LANETHR_UC p ≤ (h.map (·.2.1)).sum ∨ 64 * getF s Fld.DRV_LANETHR_CS p < (h.map (·.2.2)).sum)

/-- R391: whether one window in effect takes a frame. -/
def windowTakes (x : Port) (f : DataFrame) : Bool :=
  (List.range 8).any (fun w =>
    let v := nmGet (fun _ => ((0 : Nat), (0 : Nat), (0 : Nat))) x.win w
    bitOf v.2.2 16 && bitOf v.2.2 f.src && decide (v.1 ≤ f.addr ∧ f.addr + 64 * f.lines ≤ v.1 + v.2.1))

/-- An answer to a data or C0 frame. -/
def oweAck (s : State) (p dst frame lane status : Nat) : State :=
  putPort s p { getPort s p with acks := (getPort s p).acks ++ [⟨dst, ⟨frame % 2 ^ 32, lane, status⟩⟩] }

/-- R400: an answer to a C0 frame; one answers every C0 frame of that sender in that lane frame (DEDUCED: log entry 127). -/
def oweC0Ack (s : State) (p : Nat) (f : C0Frame) : State :=
  if (getPort s p).acks.contains ⟨f.src, ⟨f.frame % 2 ^ 32, 255, 0⟩⟩ then s else oweAck s p f.src f.frame 255 0

/-- R391: a frame fails the window test. -/
def windowRefuses (s : State) (p : Nat) (f : DataFrame) : State :=
  let s := oweAck (bumpF (setF s Fld.DRV_ERR_WINVIOL 1 p) Fld.DRV_WINVIOL_COUNT 1 p) p f.src f.frame f.lane 1
  let x := getPort s p
  if (match x.winAt with
    | some t => decide (1000000000 ≤ (s.time - t).toNat)
    | none => true) then
    raiseEv (putPort s p { x with winAt := some s.time }) 0xA00A (portUnit p) f.addr (packDetail [(0, p), (3, f.src)])
  else s

/-- R392: a received frame's transfer is recorded, unless it is one received whole before. -/
def recordFrame (x : Port) (f : DataFrame) : Port :=
  if x.incoming.any (fun t => t.src == f.src && t.xfer == f.xfer) then
    { x with incoming := x.incoming.map (fun t =>
        if t.src = f.src ∧ t.xfer = f.xfer ∧ t.got.contains f.index = false then { t with got := t.got ++ [f.index] } else t) }
  else if f.retry ∧ x.doneIn.contains (f.src, f.xfer) then x
  else
    { x with
      doneIn := x.doneIn.filter (· != (f.src, f.xfer))
      incoming := x.incoming ++ [⟨f.src, f.xfer, f.nframes, [f.index], f.rsbx⟩] }

/-- The lines of a frame are written in its class, each that lies in memory in service. -/
def writeLines (s : State) (a : Nat) : Nat → List Nat → State
  | 0, _ => s
  | n + 1, bs => writeLines (if reachable s a then (memWriteBytes s a (padNat 64 bs)).1 else s) (a + 64) n (bs.drop 64)

/-- R391, R392: a data frame with a good tag, addressed to this member. One whose memory takes no request of its class (R376) is neither written
nor answered, and its sender sends it again (DEDUCED: log entry 245). -/
def takeFrame (s : State) (p : Nat) (f : DataFrame) : State :=
  let x := getPort s p
  let known := x.incoming.any (fun t => t.src == f.src && t.xfer == f.xfer) || (f.retry && x.doneIn.contains (f.src, f.xfer))
  if windowTakes x f = false then windowRefuses s p f
  else if known = false ∧ 64 ≤ x.incoming.length then oweAck s p f.src f.frame f.lane 2
  else if rangeAccepts s f.addr (64 * f.lines) f.cls = false then s
  else
    let s := writeLines s f.addr f.lines f.payload
    let s := putPort s p (recordFrame (getPort s p) f)
    addF (oweAck s p f.src f.frame f.lane 0) Fld.DRV_FRAMES_RX_COUNT 1 p

/-- R391, R405: a lane frame's data frame is received on a lane, with the symbol errors of its codewords.
(DESIGN CHOICE: log entry 126; DEDUCED: log entry 130). -/
def receiveData (s : State) (p : Nat) (f : DataFrame) (tagOk : Bool) (errs : List Nat) : State :=
  let s := countErrors s p f.lane errs
  if (codewordErrors errs).2 ≠ 0 then s
  else if f.herd ≠ herdId s ∨ admitted s p f.src = false ∨ epochOk s p f.epoch = false ∨ tagOk = false then stranger s p
  else if f.kind ≠ 1 ∨ f.lines = 0 ∨ f.dst ≠ ownIndex s ∨ f.src = ownIndex s then s
  else takeFrame s p f

/-- R392: a transfer in flight to `dst` with a frame in lane `lane` of frame `frame`. -/
def sentIn (o : Outgoing) (dst : Nat) (e : AckEntry) : Option OutFrame :=
  if o.d.dst = dst then o.out.find? (fun g => g.frame % 2 ^ 32 == e.frame && g.lane == e.lane && !g.again) else none

/-- R392: frame `i` of transfer `num` is to be sent again, or the transfer fails after 8 resends. -/
def resend (s : State) (p num i : Nat) : State :=
  let x := getPort s p
  if x.flight.any (fun o => o.num == num && o.out.any (fun g => g.index == i && decide (8 ≤ g.resends))) then
    failFlight s p 1 (fun o => o.num == num)
  else
    putPort s p { x with flight := x.flight.map (fun o =>
      if o.num = num then { o with out := o.out.map (fun g => if g.index = i then { g with again := true } else g) } else o) }

/-- R392: one entry of an ACK frame from member `src`. Entries for C0 frames carry lane 0xFF. -/
def ackEntry (src p : Nat) (s : State) (e : AckEntry) : State :=
  let x := getPort s p
  if e.lane = 255 then
    putPort s p { x with c0out := x.c0out.filter (fun o =>
      !((o.f.dst == src || (o.f.type == c0Admit && o.f.dst == 255)) && o.frame % 2 ^ 32 == e.frame)) }
  else
    match x.flight.find? (fun o => (sentIn o src e).isSome) with
    | none => s
    | some o =>
      match sentIn o src e with
      | none => s
      | some g =>
        if e.status = 0 then
          putPort s p { x with flight := x.flight.map (fun q =>
            if q.num = o.num then { q with out := q.out.filter (fun h => h.index != g.index) } else q) }
        else if e.status = 1 then failFlight s p 5 (fun q => q.num == o.num)
        else if e.status = 2 then resend s p o.num g.index
        else s

/-! The herd. -/

/-- R388: the leader begins a new epoch and sends its key; it takes effect 64 frames after the first KEY frame. While one is announced that is not
in force yet, a further one waits for it; one not announced yet serves both (DEDUCED: log entry 222). -/
def openEpoch (s : State) (p reason : Nat) : State :=
  let x := getPort s p
  match x.newEpoch with
  | some (_, some _, _) => putPort s p { x with laterEpochs := x.laterEpochs ++ [reason] }
  | some (_, none, _) => s
  | none =>
    let e := (portEpoch s p + 1) % 2 ^ 32
    let keys := x.keys.filter (fun k => k.1 != e) ++ [(e, Config.herdKey s.freeCtr)]
    c0Own (drawn (putPort s p { x with newEpoch := some (e, none, reason), keys := keys })) p 255 c0Key []

/-- R388: the next epoch that waited is opened, where this device still leads. -/
def laterEpoch (s : State) (p : Nat) : State :=
  let x := getPort s p
  match x.laterEpochs with
  | [] => s
  | r :: t => let s := putPort s p { x with laterEpochs := t }; if portLeads s p then openEpoch s p r else s

/-- R388: the epoch that is due comes into force. -/
def epochDue (s : State) (p : Nat) : State :=
  let x := getPort s p
  match x.newEpoch with
  | some (e, some at_, why) =>
    if at_ ≤ x.frame then
      let old := portEpoch s p
      let s := putPort s p { x with
        newEpoch := none, oldEpoch := some (old, x.frame + 63), epochAt := x.frame, keys := x.keys.filter (fun k => k.1 == old || k.1 == e) }
      laterEpoch (raiseEv (setF s Fld.DRV_EPOCH_EPOCH e p) 0xA00D (portUnit p) 0 (packDetail [(0, p), (3, why), (32, e)])) p
    else s
  | _ => s

/-- R399, R388: member `i` begins to lead; where it is this one, it opens a new epoch. -/
def beginLead (s : State) (p i : Nat) : State :=
  let s := setF s Fld.DRV_STATUS_LEADER (b01 (i == ownIndex s)) p
  if i = ownIndex s then openEpoch s p 2 else s

/-- R399: leadership passes to member `i`, by a HANDOVER frame that takes effect; or the member elected 8 frames ago begins its leader segments. -/
def leaderDue (s : State) (p i : Nat) : State :=
  if getF s Fld.DRV_STATUS_LEADIDX p = i then beginLead s p i
  else beginLead (raiseEv (setF s Fld.DRV_STATUS_LEADIDX i p) 0xA009 (portUnit p) 0 (packDetail [(0, p), (3, i), (7, 1)])) p i

/-- R399: the lowest index heard in owned slots over the last 4 frames, this member's own among them (DEDUCED: log entry 221). -/
def lowestHeard (s : State) (p : Nat) : Option Nat :=
  let x := getPort s p
  (List.range 16).find? (fun i => admitted s p i &&
    (i == ownIndex s || decide (x.frame ≤ (nmGet (fun _ => ({} : Heard)) x.heard i).at_ + 4)))

/-- R399: a member is taken as leader; it begins leader segments 8 frames on. -/
def electLeader (s : State) (p i : Nat) : State :=
  let s := setF (setF s Fld.DRV_STATUS_LEADIDX i p) Fld.DRV_STATUS_LEADER 0 p
  let s := raiseEv s 0xA009 (portUnit p) 0 (packDetail [(0, p), (3, i)])
  let x := getPort s p
  putPort s p { x with newLeader := some (x.frame + 8, i) }

/-- R404: a member leaves the herd (DEDUCED: log entry 131). -/
def memberLeaves (s : State) (p i reason : Nat) : State :=
  if admitted s p i then
    let s := setF s Fld.DRV_MEMBERS_ADMITTED (withBit (getF s Fld.DRV_MEMBERS_ADMITTED p) i false) p
    let s := setF s Fld.DRV_MEMBERS_SUSPENDED (withBit (getF s Fld.DRV_MEMBERS_SUSPENDED p) i false) p
    let s := raiseEv s 0xA006 (portUnit p) 0 (packDetail [(0, p), (3, i), (7, reason)])
    let s := failFlight s p 2 (fun o => o.d.dst == i)
    let x := getPort s p
    let gone := x.sq.filter (fun d => d.dst == i)
    let s := putPort s p { x with
      sq := x.sq.filter (fun d => d.dst != i), c0out := x.c0out.filter (fun o => o.f.dst != i), unmet := x.unmet.filter (fun r => r.src != i && r.dst != i),
      suspendAt := x.suspendAt.filter (fun y => y.2 != i), acks := x.acks.filter (fun a => a.dst != i) }
    let s := countSq (gone.foldl (fun s d => xferFailed s p 2 d.tag) s) p
    if portLeads s p then openEpoch s p 1 else s
  else s

/-- R404: every transfer of a stopping port fails. -/
def failAll (s : State) (p : Nat) : State :=
  let s := failFlight s p 4 (fun _ => true)
  let x := getPort s p
  countSq (x.sq.foldl (fun s d => xferFailed s p 4 d.tag) (putPort s p { x with sq := [] })) p

/-- R409: a member's suspension takes effect. -/
def suspendNow (s : State) (p i : Nat) : State :=
  let s := setF s Fld.DRV_MEMBERS_SUSPENDED (withBit (getF s Fld.DRV_MEMBERS_SUSPENDED p) i true) p
  if i = ownIndex s then setF s Fld.DRV_STATUS_SUSP 1 p else s

/-- R409: a member returns. -/
def resumeNow (s : State) (p i : Nat) : State :=
  let s := setF s Fld.DRV_MEMBERS_SUSPENDED (withBit (getF s Fld.DRV_MEMBERS_SUSPENDED p) i false) p
  let x := getPort s p
  let h : Heard := nmGet (fun _ => {}) x.heard i
  let s := putPort s p { x with
    suspendAt := x.suspendAt.filter (fun y => y.2 != i), heard := nmPut (fun _ => {}) x.heard i { h with at_ := x.frame } }
  if i = ownIndex s then setF s Fld.DRV_STATUS_SUSP 0 p else s

/-! Grants (R397). -/

/-- Whether a lane may carry a request: granted to nobody, and in the masks of both ends. -/
def laneFits (s : State) (p : Nat) (owners : NMap Nat) (r : ResReq) (j : Nat) : Bool :=
  let h := fun (i : Nat) => nmGet (fun _ => ({} : Heard)) (getPort s p).heard i
  let tx := if r.src = ownIndex s then laneMask s p false else (h r.src).tx
  let rx := if r.dst = ownIndex s then laneMask s p true else (h r.dst).rx
  j != getF s Fld.DRV_CFG_CTLLANE p && (nmFind owners j).isNone && bitOf tx j && bitOf rx j

/-- A round of grants: one lane to each request that has one it can use; the lanes granted, the requests, and the first member served. -/
def grantRound (s : State) (p : Nat) : List ResReq → NMap Nat → Option Nat → NMap Nat × List ResReq × Option Nat
  | [], o, first => (o, [], first)
  | r :: t, o, first =>
    match (List.range 32).find? (laneFits s p o r) with
    | some j =>
      if r.lanes = 0 then let x := grantRound s p t o first; (x.1, r :: x.2.1, x.2.2)
      else let x := grantRound s p t (nmInsert o j r.src) (first.or (some r.src)); (x.1, { r with lanes := r.lanes - 1 } :: x.2.1, x.2.2)
    | none => let x := grantRound s p t o first; (x.1, r :: x.2.1, x.2.2)

/-- At most `n` rounds. -/
def grantRounds (s : State) (p : Nat) : Nat → List ResReq → NMap Nat → Option Nat → NMap Nat × List ResReq × Option Nat
  | 0, rs, o, first => (o, rs, first)
  | n + 1, rs, o, first =>
    let x := grantRound s p rs o first
    grantRounds s p n x.2.1 x.1 x.2.2

/-- The order of a round: class, renewals before new requests, members in rotating order after the one served first in the last frame. -/
def grantOrder (served : Nat) (rs : List ResReq) : List ResReq :=
  [1, 2, 3].flatMap (fun c => [true, false].flatMap (fun w =>
    (List.range 16).flatMap (fun i => rs.filter (fun r => r.cls == c && r.renew == w && r.src == (served + 1 + i) % 16))))

/-- R397: a new request from a member replaces its earlier one to the same receiver. -/
def mergeReqs (old new : List ResReq) : List ResReq :=
  old.filter (fun r => !new.any (fun q => q.src == r.src && q.dst == r.dst)) ++ new

/-- R397: the leader's grants for the next frame, from the requests heard and those not met. -/
def leaderGrants (s : State) (p : Nat) (heard : List ResReq) : State × NMap Nat :=
  let x := getPort s p
  let ok := fun (r : ResReq) => admitted s p r.src && admitted s p r.dst && !memberSuspended s p r.src && !memberSuspended s p r.dst
  let rs := grantOrder x.served (mergeReqs x.unmet (heard.filter ok))
  let g := grantRounds s p 31 (rs.filter ok) [] none
  let rest := rs.filter (fun r => !ok r)
  (putPort s p { x with unmet := (g.2.1 ++ rest).filter (fun r => r.lanes != 0), served := g.2.2.getD x.served }, g.1)

/-- R394, R397: what the leader's grant frame names: the owner of each data lane in the next frame, the member mask, and a handover and an epoch
change that are pending (DEDUCED: log entry 220). -/
def grantPayload (s : State) (p : Nat) (owners : Nat → Nat) : List Nat :=
  let x := getPort s p
  (List.range 32).map owners ++ toBytes 2 (getF s Fld.DRV_MEMBERS_ADMITTED p)
    ++ (match x.newLeader with
      | some (f, i) => i :: toBytes 8 f
      | none => 255 :: List.replicate 8 0)
    ++ (match x.newEpoch with
      | some (e, some f, _) => toBytes 4 e ++ toBytes 8 f
      | _ => List.replicate 12 0)

/-- R394: the leader sends its grant frame. -/
def sendGrant (s : State) (p : Nat) (owners : Nat → Nat) : State :=
  let x := getPort s p
  let f : C0Frame := { herd := herdId s, frame := x.frame, src := ownIndex s, epoch := portEpoch s p, dst := 255, pos := 6, type := c0Grant,
                       payload := grantPayload s p owners }
  c0Direct s p [f]

/-- R397: what a heard grant tells besides the lanes. -/
def takeNews (s : State) (p : Nat) (news : GrantNews) : State :=
  let x := getPort s p
  putPort s p { x with
    newLeader := match news.leader with
      | some (i, f) => some (f, i)
      | none => x.newLeader
    newEpoch := match news.epoch with
      | some (e, f, why) => some (e, some f, why)
      | none => x.newEpoch }

/-- R396: a slot did not decode to the member's own record: it counts the failure and waits; `draw` is the generator's draw. -/
def slotLost (s : State) (p draw : Nat) : State :=
  let x := getPort s p
  let c := x.fails + 1
  let s := bumpF s Fld.DRV_COLL_COUNT 1 p
  let s := putPort s p { x with fails := c, backoff := some (draw % 2 ^ min c 6), capRaised := x.capRaised || decide (16 ≤ c) }
  if 16 ≤ c ∧ x.capRaised = false then raiseEv s 0xA00E (portUnit p) 0 (packDetail [(0, p), (3, min c 8191)]) else s

/-- R396: what a member reserves lanes for: the transfer it would send of next, and how many lanes that can use. -/
def wanted (s : State) (p : Nat) : Option ResReq :=
  let x := getPort s p
  let flying := fun (k : Nat) => (x.flight[k]?).map (fun (o : Outgoing) => o.d)
  let d : Option SendDesc := match pickSend s p with
    | some (.again k _) => flying k
    | some (.fresh k) => flying k
    | some (.start k) => x.sq[k]?
    | none => none
  d.map (fun d => { src := ownIndex s, dst := d.dst, lanes := max 1 (min 31 (unsent x d.dst)), cls := d.cls })

/-- The lanes of a grant that are this member's are its own in the next frame. -/
def ownGrant (s : State) (p : Nat) (owners : Nat → Nat) : State :=
  let x := getPort s p
  let mine := (List.range 32).filter (fun j => owners j == ownIndex s && j != getF s Fld.DRV_CFG_CTLLANE p)
  putPort s p { x with grants := x.grants.filter (fun g => decide (x.frame ≤ g.1)) ++ [(x.frame + 1, mine)] }

/-! Lanes (R406 to R409). -/

/-- A change of a lane's service, 8 frames on (R407). -/
def laneLater (s : State) (p lane : Nat) (rx on : Bool) (cause : Nat) : State :=
  let x := getPort s p
  putPort s p { x with changes := x.changes.filter (fun c => !(c.lane == lane && c.rx == rx)) ++ [⟨x.frame + 8, lane, rx, on, cause⟩] }

/-- A lane returns to service, with event 0xA004. -/
def laneReturns (s : State) (p lane : Nat) (rx : Bool) : State :=
  if laneOn s p lane rx then s
  else raiseEv (setLane s p lane rx true 0) 0xA004 (portUnit p) 0 (packDetail [(0, p), (3, lane), (8, b01 rx)])

/-- R408: a lane was dropped on its errors, or probed, at this TIME. -/
def noteProbe (s : State) (p lane : Nat) (rx : Bool) : State :=
  let x := getPort s p
  putPort s p { x with probedAt := nmPut (fun _ => 0) x.probedAt (2 * lane + b01 rx) s.time }

/-- R408: a lane dropped on its errors may be probed: DRV_LANETHR.RESTORE seconds have passed since it was dropped or probed last, and its ring is in
service. -/
def probeDue (s : State) (p lane : Nat) (rx : Bool) : Bool :=
  let t := nmGet (fun _ => 0) (getPort s p).probedAt (2 * lane + b01 rx)
  laneRingUp s p lane rx && decide (1000000000 * max 1 (getF s Fld.DRV_LANETHR_RESTORE p) ≤ (s.time - t).toNat)

/-- R408: a transmit lane of a point-to-point link that the far end has dropped carries probe frames for 64 lane frames
(DEDUCED: log entry 224). -/
def probeLane (p : Nat) (s : State) (j : Nat) : State :=
  let x := getPort s p
  if laneOn s p j false ∨ laneCause s p j false ≠ 4 then putPort s p { x with probing := x.probing.filter (fun y => y.1 != j) }
  else
    match x.probing.find? (fun y => y.1 == j) with
    | some y =>
      if x.frame < y.2 + 64 then idleAir s p 2 j
      else noteProbe (putPort s p { x with probing := x.probing.filter (fun y => y.1 != j) }) p j false
    | none =>
      if probeDue s p j false then idleAir (putPort s p { x with probing := x.probing ++ [(j, x.frame)] }) p 2 j else s

/-- A change that is due. Off: a lane the farrier asked for (cause 3), or one the far end dropped (cause 4). On: not where the lane's ring is
out of service (DEDUCED: log entry 132). -/
def laneChange (p : Nat) (s : State) (c : MaskChange) : State :=
  if c.on then
    if laneRingUp s p c.lane c.rx = false then s
    else
      let s := laneReturns s p c.lane c.rx
      let x := getPort s p
      if x.released = some c.lane ∧ x.returned then putPort s p { x with released := none, returned := false } else s
  else
    let s := noteProbe (laneLeaves s p c.lane c.rx c.cause) p c.lane c.rx
    if c.cause = 3 ∧ (getFarPort s p).lane = some c.lane then laneReleased s p c.lane else s

/-- R407, R411: what is due at a lane frame boundary: windows, lanes, masks, suspensions, the leader, the epoch. -/
def frameDue (s : State) (p : Nat) : State :=
  let x := getPort s p
  let win := (List.range 8).foldl (fun m w => nmPut (fun _ => ((0 : Nat), (0 : Nat), (0 : Nat))) m w
    (getF s Fld.DRV_RXWIN_BASE_BASE p w / 65536 * 65536, 65536 * getF s Fld.DRV_RXWIN_SIZE_SIZE p w,
      getF s Fld.DRV_RXWIN_CTL_SENDERS p w + 65536 * getF s Fld.DRV_RXWIN_CTL_EN p w)) ([] : NMap (Nat × Nat × Nat))
  let due := fun (f : Nat) => decide (f ≤ x.frame)
  let heard := (x.maskNext.filter (fun m => due m.1)).foldl (fun h m =>
    nmPut (fun _ => ({} : Heard)) h m.2.1 { nmGet (fun _ => ({} : Heard)) h m.2.1 with tx := m.2.2.1, rx := m.2.2.2 }) x.heard
  let s := putPort s p { x with
    win := win, heard := heard, maskNext := x.maskNext.filter (fun m => !due m.1),
    changes := x.changes.filter (fun c => !due c.frame), suspendAt := x.suspendAt.filter (fun y => !due y.1),
    newLeader := match x.newLeader with
      | some (f, i) => if due f then none else some (f, i)
      | none => none }
  let s := (x.changes.filter (fun c => due c.frame)).foldl (laneChange p) s
  let s := (x.suspendAt.filter (fun y => due y.1)).foldl (fun s y => suspendNow s p y.2) s
  let s := match x.newLeader with
    | some (f, i) => if due f then leaderDue s p i else s
    | none => s
  checkPort (epochDue s p) p

/-- R398: the masks as the owned slot carries them. -/
def maskBytes (s : State) (p : Nat) : List Nat := toBytes 4 (laneMask s p false) ++ toBytes 4 (laneMask s p true)

/-- R407: the mask of a direction as it stands once the changes to come have taken effect. -/
def maskSoon (s : State) (p : Nat) (rx : Bool) : Nat :=
  ((getPort s p).changes.filter (fun c => c.rx == rx)).foldl (fun m c => withBit m c.lane c.on) (laneMask s p rx)

/-- R407: a port announces its masks, which take effect 8 frames on. -/
def announce (s : State) (p : Nat) : State :=
  c0Own s p 255 c0Lanemap (toBytes 4 (maskSoon s p false) ++ toBytes 4 (maskSoon s p true))

/-- R406: a lane is dropped for a cause, the masks are announced, and a port with too few lanes goes down. -/
def dropLane (s : State) (p lane : Nat) (rx : Bool) (cause : Nat) : State :=
  if laneOn s p lane rx then checkPort (announce (noteProbe (laneLeaves s p lane rx cause) p lane rx) p) p else s

/-- R351: lanes of a port in service in both directions. -/
def lanesUp (s : State) (p : Nat) : Nat := (bitList (laneMask s p false &&& laneMask s p true)).length

/-- R351, R409: the farrier's lane sequencer asks port `p` for lane `j`. -/
def farrierAsks (s : State) (p j : Nat) : State :=
  let x := getFarPort s p
  let up := laneOn s p j false || laneOn s p j true
  let ctl := portStar s p && j == getF s Fld.DRV_CFG_CTLLANE p
  if farState s = farRun ∧ x.lane = none ∧ x.queue.contains j ∧ 5 ≤ lanesUp s p ∧ (up = false ∨ ctl = false ∨ portSuspended s p) then
    let s := putFarPort s p { x with lane := some j, rejects := 0 }
    let s := setF (putPort s p { getPort s p with released := none, returned := false }) Fld.FAR_PORT_STATUS_LANE j p
    if up then announce (laneLater (laneLater s p j false false 3) p j true false 3) p else laneReleased s p j
  else s

/-- R408, R409: a lane of this port that is out of service may return: its ring is in service again, or the farrier has returned it. -/
def mayReturn (s : State) (p j : Nat) (rx : Bool) : Bool :=
  let c := laneCause s p j rx
  !laneOn s p j rx && laneRingUp s p j rx && !bitOf (getF s Fld.FAR_PORT_DEGRADED_LANES p) j &&
    !(getPort s p).changes.any (fun d => d.lane == j && d.rx == rx && d.on) &&
    (c == 1 || c == 5 || (c == 3 && (getFarPort s p).lane != some j))

/-- R407: this port announces masks with the lanes that may return; they return 8 frames on. -/
def announceReturn (s : State) (p : Nat) : State :=
  let back := (List.range 32).flatMap (fun j => [false, true].filterMap (fun rx => if mayReturn s p j rx then some (j, rx) else none))
  if back = [] then s else announce (back.foldl (fun s y => laneLater s p y.1 y.2 true 0) s) p

/-- R407: member `i` announces its masks. On a point-to-point link this port's lanes follow them. -/
def farMasks (s : State) (p i tx rx : Nat) : State :=
  let x := getPort s p
  let s := putPort s p { x with maskNext := x.maskNext ++ [(x.frame + 8, i, tx, rx)] }
  if portStar s p then s
  else
    (List.range 32).foldl (fun s j => [(false, rx), (true, tx)].foldl (fun s y =>
      if laneOn s p j y.1 && !bitOf y.2 j then laneLater s p j y.1 false 4
      else if !laneOn s p j y.1 && bitOf y.2 j && laneCause s p j y.1 == 4 then laneLater s p j y.1 true 0
      else s) s) s

/-! Ports (R410). -/

/-- R454: DEVICE_ID. -/
def deviceId (s : State) : Nat := Config.sha384 (idKeyEc s.tack.secret)

/-- R403: a challenge is put to the other side, of index `i`, 16 to whoever leads. -/
def putChallenge (s : State) (p i : Nat) (c : List Nat) : State :=
  putPort s p { getPort s p with challenge := nmPut (fun _ => []) (getPort s p).challenge i c }

/-- R403: step 1 of an admission: the joiner offers its identity, its claimed index and a challenge (DESIGN CHOICE: log entry 225). -/
def offerAdmission (s : State) (p : Nat) : State :=
  let c := padNat 48 (Config.challenge s.freeCtr)
  let s := putChallenge (putPort s p { getPort s p with vouched := false }) p 16 c
  drawn (c0Own s p 255 c0Admit (toBytes 48 (deviceId s) ++ [ownIndex s] ++ c))

/-- R403: step 4: the leader sends the herd key and epoch, wrapped for the joiner of index `i` whose ephemeral public key is `eph`
(DESIGN CHOICE: log entry 225). -/
def sendHerdKey (s : State) (p i : Nat) (eph : List Nat) : State :=
  let e := portEpoch s p
  drawn (c0Own s p i c0Admit
    (toBytes 4 e ++ padNat 48 (Config.keyWrap (Config.admitKey eph s.freeCtr) ((keyOf (getPort s p) e).getD 0))))

/-- R408: the lanes of a direction that can return: their rings are in service, and the farrier has not marked them DEGRADED. -/
def lanesAble (s : State) (p : Nat) (rx : Bool) : List Nat :=
  (List.range 32).filter (fun j => laneRingUp s p j rx && !bitOf (getF s Fld.FAR_PORT_DEGRADED_LANES p) j)

/-- R408: whether a port that went down starts again by itself: AUTORESTART is set and enough lanes can return.
(DEDUCED: log entry 133). -/
def restarts (s : State) (p : Nat) : Bool :=
  let tx := lanesAble s p false
  let rx := lanesAble s p true
  let c := getF s Fld.DRV_CFG_CTLLANE p
  portState s p == portDownSt && (getPort s p).wasDown && getF s Fld.DRV_CFG_AUTORESTART p == 1 && decide (4 ≤ tx.length ∧ 4 ≤ rx.length) &&
    (!portStar s p || (tx.contains c && rx.contains c && decide (4 ≤ (tx.filter (fun j => j != c && rx.contains j)).length)))

/-- R410, R403: training ends with the lanes found good in each direction, but for those marked DEGRADED and the one that the farrier
works on; with enough of them the port offers itself to the herd (DEDUCED: log entry 133). -/
def trainingEnds (s : State) (p tx rx : Nat) : State :=
  let s := (List.range 32).foldl (fun s j => [(false, tx), (true, rx)].foldl (fun s y =>
    let bad := bitOf (getF s Fld.FAR_PORT_DEGRADED_LANES p) j || (getFarPort s p).lane == some j
    let on := bitOf y.2 j && laneRingUp s p j y.1 && !bad
    setLane s p j y.1 on (if on then 0 else if laneRingUp s p j y.1 then (if bad then 3 else 2) else 1)) s) s
  if lanesShort s p = 0 then
    offerAdmission (setF (putPort s p { getPort s p with wasDown := false }) Fld.DRV_STATUS_STATE portAdmitting p) p
  else
    let why := lanesShort s p
    let s := setF (putPort s p { getPort s p with wasDown := true }) Fld.DRV_STATUS_STATE portDownSt p
    raiseEv s 0xA002 (portUnit p) 0 (packDetail [(0, p), (3, why)])

/-- R410: the port is up. -/
def portComesUp (s : State) (p : Nat) : State :=
  let s := setF s Fld.DRV_STATUS_STATE portUp p
  raiseEv s 0xA001 (portUnit p) 0
    (packDetail [(0, p), (3, getF s Fld.DRV_STATUS_MODE p), (4, getF s Fld.DRV_STATUS_TXN p), (10, getF s Fld.DRV_STATUS_RXN p),
      (16, ownIndex s), (20, getF s Fld.DRV_STATUS_LEADIDX p)])

/-- R399: a port that hears no leader leads alone, and opens epoch 1 (DEDUCED: log entry 134). -/
def leadAlone (s : State) (p : Nat) : State :=
  let i := ownIndex s
  let s := setF (setF s Fld.DRV_STATUS_LEADIDX i p) Fld.DRV_STATUS_LEADER 1 p
  let s := setF (setF s Fld.DRV_EPOCH_EPOCH 1 p) Fld.DRV_MEMBERS_ADMITTED (2 ^ i) p
  let s := raiseEv s 0xA009 (portUnit p) 0 (packDetail [(0, p), (3, i)])
  let x := getPort s p
  let s := putPort s p { x with
    epochAt := x.frame, keys := [(1, Config.herdKey s.freeCtr)], c0hw := x.c0hw.filter (fun f => f.type != c0Admit)
    c0out := x.c0out.filter (fun o => o.f.type != c0Admit) }
  portComesUp (drawn s) p

/-- R410: what a port's record keeps when it has stopped: its windows, and what is between it and the farrier. -/
def Port.stopped (x : Port) : Port :=
  { nextXfer := x.nextXfer, win := x.win, released := x.released, returned := x.returned, strangerAt := x.strangerAt, strangers := x.strangers,
    winAt := x.winAt }

/-- R410: a stopping port becomes STOPPED. -/
def portStops (s : State) (p : Nat) : State :=
  let s := releaseAsked s p
  let s := (List.range 32).foldl (fun s j => setLane (setLane s p j false false 0) p j true false 0) s
  let s := setF (setF s Fld.DRV_STATUS_STATE portStopped p) Fld.DRV_STATUS_LEADER 0 p
  let s := setF (setF s Fld.DRV_STATUS_SUSP 0 p) Fld.DRV_MEMBERS_ADMITTED 0 p
  let s := setF (setF s Fld.DRV_MEMBERS_SUSPENDED 0 p) Fld.DRV_C0TX_STATUS_QUEUED 0 p
  countSq (putPort s p (getPort s p).stopped) p

/-- R410: a write of DRV_CTRL.STOP. -/
def portStop (s : State) (p : Nat) : State :=
  let st := portState s p
  if st = portStopped ∨ st = portStopping then s
  else
    let s := failAll (setF s Fld.DRV_STATUS_STATE portStopping p) p
    let s := c0Own s p 255 c0Leave []
    raiseEv s 0xA002 (portUnit p) 0 (packDetail [(0, p), (3, 3)])

/-- R410, R382: a write of DRV_CTRL. STOP wins. -/
def drvCtrlWrite (s : State) (p : Nat) (start stop : Bool) : State :=
  if stop then portStop s p
  else if start ∧ portState s p = portStopped then
    setF (setF s Fld.DRV_STATUS_STATE portTraining p) Fld.DRV_STATUS_MODE (getF s Fld.DRV_CFG_MODE p) p
  else s

/-- R410: a refused write of a configuration register. -/
def drvRefuse (s : State) (p : Nat) : State :=
  raiseEv (setF s Fld.DRV_ERR_CFG_REFUSED 1 p) 0xA00C (portUnit p) 0 (packDetail [(0, p), (3, portState s p)])

/-- The address of a configuration register. -/
def drvCfgAddr : DrvCfgReg → Nat
  | .cfg p => Reg.DRV_CFG.addr p 0 0
  | .herdId => Reg.DRV_HERD_ID.addr 0 0 0
  | .herdIndex => Reg.DRV_HERD_INDEX.addr 0 0 0

/-- R410: a write of a configuration register. -/
def drvCfgWrite (s : State) (r : DrvCfgReg) (v : W64) : State :=
  match r with
  | .cfg p =>
    if portState s p = portStopped then wrReg s (Reg.DRV_CFG.addr p 0 0) (v &&& 0x7F)
    else drvRefuse s p
  | r =>
    match (List.range 8).find? (fun p => portState s p != portStopped) with
    | some p => drvRefuse s p
    | none =>
      match r with
      | .herdIndex => wrReg s (Reg.DRV_HERD_INDEX.addr 0 0 0) (v &&& 0x1F)
      | _ => wrReg s (Reg.DRV_HERD_ID.addr 0 0 0) v

/-- R411, R25: a write of part of a receive window, in effect at the next lane frame boundary. -/
def rxwinWrite (s : State) (p w : Nat) (part : WinPart) (v : W64) : State :=
  match part with
  | .base => wrReg s (Reg.DRV_RXWIN_BASE.addr p w 0) (v &&& 0xFFFFFFFF0000)
  | .size => wrReg s (Reg.DRV_RXWIN_SIZE.addr p w 0) (v &&& 0xFFFFFFFF)
  | .ctl => wrReg s (Reg.DRV_RXWIN_CTL.addr p w 0) (v &&& 0x1FFFF)

end Sys2Proof.Machine
end

