-- ==== Sys2Proof/Machine/Cold.lean ====
section
/-! DEFINITION. What is left of the device when its rails go off: what the non-volatile store, the fuses and the contacts hold (R376,
Table 18.2). -/
namespace Sys2Proof.Machine

/-- The registers that the store, the fuses and the power stage keep. -/
def keptRegs : List Nat :=
  [Reg.TCK_STATUS.addr 0 0 0, Reg.TCK_ROLLBACK.addr 0 0 0, Reg.TCK_BOOTS.addr 0 0 0, Reg.TCK_LMS_Q.addr 0 0 0, Reg.TCK_LMS_LEFT.addr 0 0 0,
   Reg.TCK_NVWEAR.addr 0 0 0, Reg.TCK_KEYS.addr 0 0 0, Reg.TCK_OWNSEQ.addr 0 0 0, Reg.PWR_LASTTRIP.addr 0 0 0]

/-- R352: a calibration set as the store holds it. -/
def CalSet.atReset (c : CalSet) : CalSet :=
  { c with points := c.storedPoints.getD c.points, resid := c.stored, changed := false, bad := c.bad || c.storedPoints.isSome, storedPoints := none }

/-- The farrier after a reset: its sets. -/
def Far.atReset (f : Far) : Far :=
  { stall := nmMap (fun _ => {}) (fun _ x => { set := x.set.atReset }) f.stall
    port := nmMap (fun _ => {}) (fun _ x => { set := x.set.atReset }) f.port
    work := none }

/-- The tack room after a reset: fuses, slots, keys, marks. -/
def Tack.atReset (t : Tack) : Tack :=
  { t with
    signs := [], romStop := false, recovery := false, runTkf := none, runOsf := none, bootEvents := [],
    nextBuilt := false, blowing := none }

/-- R453: a reset finds some of the fuses blown that a ROLLBACK_COMMIT in progress asks for (DEDUCED: log entry 165). -/
def fusesBlown (s : State) : State :=
  match s.tack.blowing with
  | none => s
  | some t =>
    let k := getF s Fld.TCK_ROLLBACK_K
    drawn (setF s Fld.TCK_ROLLBACK_K (k + Config.fusesBlown s.freeCtr % (t - k + 1)))

/-- R235: the lists of soft repairs and retired pages as ostler firmware keeps them in its store; until it has applied them, the store's. -/
def storeNow (s : State) : Store :=
  if s.sys.applied = false then s.sys.store
  else
    let rows := fun (g : Nat) =>
      let v := (rdReg s (Reg.MGR_SOFTMAP.addr (g / 64) (g % 64) 0)).toNat
      ((List.range 4).filter (fun i => bitOf v (16 * i + 15))).map (fun i => bitsOf v (16 * i) 13)
    { softRows := (List.range 256).foldl (fun m g => nmPut (fun _ => []) m g (rows g)) [], retired := s.integ.retired,
      repairs := s.integ.repairsUsed }

/-- The device with its rails off: registers at their Reset column but for those kept. -/
def coldState (s : State) : State :=
  let s := fusesBlown s
  { pending := s.pending
    freeCtr := s.freeCtr
    regs := s.regs.filter (fun x => keptRegs.contains x.1)
    loft := { floors := s.loft.floors }
    light := { laserEn := s.light.laserEn }
    far := s.far.atReset
    tack := s.tack.atReset
    sys := { store := storeNow s } }

/-- R376, R489: a package trip: every rail off, the cause kept by the power stage (DEDUCED: log entry 119; DEDUCED: log entry 121). -/
def packageTrip (s : State) (cause : Nat) : State :=
  let s := setF (coldState s) Fld.PWR_LASTTRIP_CAUSE cause
  { s with pwr := { s.pwr with rails := .off }, sys := { s.sys with tripped := true } }

end Sys2Proof.Machine
end

