-- ==== Sys2Proof/Machine/ReinOps.lean ====
section
/-! DEFINITION. Shared operations of the rein engine (chapter 12): inputs, stages, renormalisation, windup, faults, the output phase, and the
banks. -/
namespace Sys2Proof.Machine

/-- A field of loop `i`'s entry. -/
def lpF (s : State) (f : Field) (i : Nat) : Nat := getF s f (i / 256) (i % 256)
def setLp (s : State) (f : Field) (v i : Nat) : State := setF s f v (i / 256) (i % 256)

/-- The frame in progress. -/
def frameNow (s : State) : Nat := getF s Fld.MON_FRAME_F

/-- R366: the comb power in force, in units of 1/512. -/
def combPower (s : State) : Nat := 512 - (getF s Fld.PWR_DEMAND_U - 512)

/-! Inputs (R320, R321). -/

/-- What a source gives: its value as a loop word, whether it is invalid or stale, and the PSEQ it was read with (64: not an accumulator). -/
structure SrcRead where
  lw : Nat
  invalid : Bool
  stale : Bool
  pseq : Nat

/-- A source that is always valid. -/
def plainSrc (lw : Nat) : SrcRead := ⟨lw, false, false, 64⟩

/-- R320, R321: an accumulator result; `last`: the PSEQ used before (DESIGN CHOICE: log entry 22). -/
def accSrc (s : State) (kind idx last : Nat) (first : Bool) : SrcRead :=
  let m := idx / 128
  let a := idx % 128
  let sum := sext 48 (getF s Fld.ACC_SUM_SUM m a)
  let n := getF s Fld.ACC_COUNT_COUNT m a
  let p := getF s Fld.ACC_STAT_PSEQ m a
  let lw := match kind with
    | 1 => if n = 0 then (Config.emptyMean s.freeCtr).toNat else lwOfRat sum n
    | 2 => lwOfRat sum 1
    | 3 => lwOfRat (getF s Fld.ACC_STAT_MAX m a) 1
    | _ => lwOfRat (getF s Fld.ACC_STAT_MIN m a) 1
  ⟨lw, getF s Fld.ACC_STAT_VALID m a == 0, !first && p == last, p⟩

/-- R320: a source of loop `i`, by KIND and INDEX, rounded to a loop word with 2^21 ≤ |m| < 2^22. -/
def readSrc (s : State) (i kind idx last : Nat) (first : Bool) : SrcRead :=
  if kind = 0 then plainSrc 0
  else if kind < 5 then accSrc s kind idx last first
  else if kind = 5 then plainSrc (lwOf (lwVal (lpF s Fld.RN_LP_OUT_OUT idx)))
  else if kind = 6 then plainSrc (lwOf (lwVal (lpF s Fld.RN_LP_SPK_SPK i)))
  else if kind = 7 then plainSrc (getF s Fld.RN_PBUDGET_BUDGET)
  else plainSrc 0

/-! Stages. -/

/-- A stage: its record, read at the start of an execution. -/
structure Stage where
  kind : Nat
  clampEn : Bool
  c0 : Dy
  c1 : Dy
  c2 : Dy
  limHi : Dy
  limLo : Dy
  se : Int
  s0 : Int
  s1 : Int

/-- R318, R314, R329: stage `k` of loop `i`. -/
def readStage (s : State) (i k : Nat) : Stage :=
  let b := i / 256
  let j := i % 256
  let kind := getF s Fld.RN_ST_CFG_KIND b j k
  let wide := lpF s Fld.RN_LP_CTRL_WEN i == 1 && bitOf (getF s Fld.LTE_WIDE_WIDE) (lpF s Fld.RN_LP_CTRL_WDIE i)
  let step : Int := if wide && (kind == 4 || kind == 5) then lpF s Fld.RN_LP_CTRL_WSHIFT i else 0
  let ce := sext 8 (getF s Fld.RN_ST_CFG_CEXP b j k) + step - 16
  { kind := kind
    clampEn := getF s Fld.RN_ST_CFG_CLAMPEN b j k == 1
    c0 := ⟨sext 18 (getF s Fld.RN_ST_C0_C b j k), ce⟩
    c1 := ⟨sext 18 (getF s Fld.RN_ST_C1_C b j k), ce⟩
    c2 := ⟨sext 18 (getF s Fld.RN_ST_C2_C b j k), ce⟩
    limHi := lwVal (getF s Fld.RN_ST_LIMHI_LIMHI b j k)
    limLo := lwVal (getF s Fld.RN_ST_LIMLO_LIMLO b j k)
    se := sext 8 (getF s Fld.RN_ST_S0_SE b j k)
    s0 := sext 24 (getF s Fld.RN_ST_S0_S0 b j k)
    s1 := sext 24 (getF s Fld.RN_ST_S1_S1 b j k) }

/-- R315: the value of a mantissa on a stage's grid. -/
def onGrid (se m : Int) : Dy := ⟨m, se - 22⟩

/-- R315: the bound of a mantissa. -/
def mantMax : Int := 2 ^ 23 - 1

/-- R315: a value rounded onto the grid of `se`, saturated; and whether it saturated. -/
def toGrid (se : Int) (d : Dy) : Int × Bool :=
  let m := roundInt .rne 0 d.m (d.e - (se - 22))
  (clampI (-mantMax) mantMax m, decide (m < -mantMax ∨ mantMax < m))

/-- R316: the smallest exponent at which a value's mantissa has |m| < 2^21. -/
def needExp (d : Dy) : Int :=
  let e : Int := (bitLen d.m.natAbs : Int) + d.e + 1
  if (roundInt .rne 0 d.m (d.e - (e - 22))).natAbs < 2 ^ 21 then e else e + 1

/-- A clamp of an exact value. -/
def Dy.clamp (lo hi v : Dy) : Dy := if v.lt lo then lo else if hi.lt v then hi else v

/-- The sign of a number: −1, 0 or 1. -/
def sgn (v : Int) : Int := if v < 0 then -1 else if v = 0 then 0 else 1

/-- A stage executed: its record with S0 and S1 as they stand before the integrator update, its input and output, the change asked of the
integrator, and what it met. -/
structure StageRun where
  st : Stage
  v : Dy
  y : Int
  /-- R325: the sign by which it passes a change on -/
  sign : Int
  /-- C1 · v of a PI or PID stage -/
  dInt : Dy
  hi : Bool
  lo : Bool
  /-- saturations of R315 -/
  ovf : Nat

/-- R328, R315: the exponent at which a preset value fits: the stage's, or, where it would saturate there, that of R316, 127 at most. -/
def presetExp (se : Int) (d : Dy) : Int := if (toGrid se d).2 then min 127 (max se (needExp d)) else se

/-- R328: what a PID stage's preset subtracts beside C0·v once S1, of exponent `se`, has taken `v`: C2·(v − S1). -/
def presetRest (st : Stage) (se : Int) (v : Dy) : Dy :=
  if st.kind = 5 then st.c2.mul (v.sub (onGrid se (toGrid se v).1)) else ⟨0, 0⟩

/-- R328: S0 and S1 of a PI or PID stage preset so that its output is `d`; the exponent grows where they do not fit; and how many saturate
(DEDUCED: log entry 101). -/
def presetStage (st : Stage) (v d : Dy) : Stage × Nat :=
  let s0 := fun (se : Int) => (d.sub (st.c0.mul v)).sub (presetRest st se v)
  let se1 := if st.kind = 5 then presetExp st.se v else st.se
  let se := presetExp se1 (s0 se1)
  let q0 := toGrid se (s0 se)
  let q1 := if st.kind = 5 then toGrid se v else (st.s1, false)
  ({ st with se := se, s0 := q0.1, s1 := q1.1 }, b01 q0.2 + b01 q1.2)

/-- R319, R315: one stage on input `v`, set-point `r`, input B `b`. -/
def runStage (st : Stage) (v r b : Dy) : StageRun :=
  let s0 := onGrid st.se st.s0
  let s1 := onGrid st.se st.s1
  let mk := fun (st : Stage) (y : Dy) (sign : Int) (d : Dy) (hi lo : Bool) (n : Nat) =>
    let q := toGrid st.se y
    (⟨st, v, q.1, sign, d, hi, lo, n + b01 q.2⟩ : StageRun)
  let zero : Dy := ⟨0, 0⟩
  match st.kind with
  | 1 => mk st (st.c0.mul v) (sgn st.c0.m) zero false false 0
  | 2 => mk st ((st.c0.mul v).mul b) (sgn (st.c0.m * b.m)) zero false false 0
  | 3 => mk st (r.sub v) (-1) zero false false 0
  | 4 => mk st ((st.c0.mul v).add s0) 1 (st.c1.mul v) false false 0
  | 5 => mk st (((st.c0.mul v).add s0).add (st.c2.mul (v.sub s1))) 1 (st.c1.mul v) false false 0
  | 6 =>
    let q := toGrid st.se (s0.add (st.c0.mul (v.sub s0)))
    ⟨{ st with s0 := q.1 }, v, q.1, 1, zero, false, false, b01 q.2⟩
  | 7 => mk st (Dy.clamp st.limLo st.limHi v) 1 zero (st.limHi.lt v) (v.lt st.limLo) 0
  | _ => mk st v 1 zero false false 0

/-- R319: the stages of a loop in turn; `preset`: which stage takes the value of R328. -/
def runStages (r b : Dy) (preset : Option (Nat × Dy)) : Nat → Dy → List Stage → List StageRun
  | _, _, [] => []
  | k, v, st :: t =>
    let p := match preset with
      | some (p, d) => if p = k then presetStage st v d else (st, 0)
      | none => (st, 0)
    let y := runStage p.1 v r b
    let x := { y with ovf := y.ovf + p.2 }
    x :: runStages r b preset (k + 1) (onGrid x.st.se x.y) t

/-- R328: the last PI or PID stage, if every stage after it is PASS or LIM (DEDUCED: log entry 101). -/
def presetAt (sts : List Stage) : Option Nat :=
  match (List.range sts.length).reverse.find? (fun k => ((sts[k]?).map (fun st => st.kind == 4 || st.kind == 5)).getD false) with
  | some k => if (sts.drop (k + 1)).all (fun st => st.kind == 0 || st.kind == 7) then some k else none
  | none => none

/-- R325: whether stage `k`'s integrator update is skipped; `hi`, `lo`: the destination clamp acted. -/
def windup (runs : List StageRun) (k : Nat) (hi lo : Bool) : Bool :=
  match runs[k]? with
  | none => false
  | some x =>
    let after := runs.drop (k + 1)
    let sign := fun (n : Nat) => (after.take n).foldl (fun a y => a * y.sign) 1
    let d := sgn x.dInt.m
    let stops := (List.range after.length).any (fun n =>
      match after[n]? with
      | some y => (y.hi && decide (0 < sign n * d)) || (y.lo && decide (sign n * d < 0))
      | none => false)
    stops || (hi && decide (0 < sign after.length * d)) || (lo && decide (sign after.length * d < 0))

/-- R319, R325, R326: the integrator update of a stage; whether it saturated is counted. -/
def updateInt (x : StageRun) (skip : Bool) : StageRun :=
  if x.st.kind = 4 ∨ x.st.kind = 5 then
    let q := if skip then (x.st.s0, false) else toGrid x.st.se ((onGrid x.st.se x.st.s0).add x.dInt)
    let c := if x.st.clampEn && !skip then
        toGrid x.st.se (Dy.clamp x.st.limLo x.st.limHi (onGrid x.st.se q.1))
      else (q.1, false)
    let s1 := if x.st.kind = 5 then toGrid x.st.se x.v else (x.st.s1, false)
    { x with st := { x.st with s0 := c.1, s1 := s1.1 }, ovf := x.ovf + b01 q.2 + b01 c.2 + b01 s1.2 }
  else x

/-- R316: a stage renormalised: the record, its output's mantissa, and whether the exponent would exceed 127 (DEDUCED: log entry 100). -/
def renorm (x : StageRun) : StageRun × Bool :=
  let w := fun (m : Int) => onGrid x.st.se m
  let words := match x.st.kind with
    | 4 => [x.y, x.st.s0]
    | 5 => [x.y, x.st.s0, x.st.s1]
    | 6 => [x.st.s0]
    | _ => [x.y]
  let ne := (words.filter (· != 0)).map (fun m => needExp (w m))
  match ne with
  | [] => (x, false)
  | e :: t =>
    let need := t.foldl max e
    let se := clampI (-128) 127 need
    let mv := fun (m : Int) => (toGrid se (w m)).1
    ({ x with y := mv x.y, st := { x.st with se := se, s0 := mv x.st.s0, s1 := mv x.st.s1 } }, decide (127 < need))

/-- R318: a stage's state words are left in its record. -/
def writeStage (s : State) (i k : Nat) (st : Stage) : State :=
  let b := i / 256
  let j := i % 256
  let s := setF s Fld.RN_ST_S0_S0 (wrapTo 24 st.s0) b j k
  let s := setF s Fld.RN_ST_S0_SE (wrapTo 8 st.se) b j k
  setF s Fld.RN_ST_S1_S1 (wrapTo 24 st.s1) b j k

/-! Destinations (R323). -/

/-- R323: the destination value of an output, and whether its clamp acted high or low. -/
def destValue (dkind : Nat) (y : Dy) : Nat × Bool × Bool :=
  let m := if dkind = 3 then roundInt .rne 0 (y.m * 256) y.e else roundInt .rne 0 y.m y.e
  let top : Int := if dkind = 3 then 768 else 4095
  if dkind = 0 then (0, false, false) else ((clampI 0 top m).toNat, decide (top < m), decide (m < 0))

/-- R328: the value of a loop's destination. -/
def destNow (s : State) (i : Nat) : Dy :=
  let x := lpF s Fld.RN_LP_DEST_INDEX i
  match lpF s Fld.RN_LP_DEST_DKIND i with
  | 1 => ⟨getF s Fld.TRM_CODE_CODE (x / 256) (x % 256), 0⟩
  | 2 => ⟨((nmGet (fun _ => (0 : Nat)) s.rein.act x : Nat) : Int), 0⟩
  | 3 => ⟨s.pwr.u, -8⟩
  | _ => ⟨0, 0⟩

/-- An output in the buffer: its loop word, and its destination value plus 1. -/
def putBuf (s : State) (i lw v : Nat) : State :=
  { s with rein := { s.rein with buf := nmPut (fun _ => (0, 0)) s.rein.buf i (lw, v + 1) } }

def dropBuf (s : State) (i : Nat) : State := { s with rein := { s.rein with buf := nmErase s.rein.buf i } }

/-- R311, R323: one buffered output reaches its destination. -/
def writeOut (s : State) (i lw v : Nat) : State :=
  let s := setLp s Fld.RN_LP_OUT_OUT lw i
  let x := lpF s Fld.RN_LP_DEST_INDEX i
  match lpF s Fld.RN_LP_DEST_DKIND i with
  | 1 => if x < 1024 then trmSetCode s x v else s
  | 2 => { s with rein := { s.rein with act := nmPut (fun _ => 0) s.rein.act x v } }
  | 3 => { s with pwr := { s.pwr with u := v } }
  | _ => s

/-! Faults (R330, R331). -/

/-- R367: OVERBUDGET, with event 0x9008. -/
def overBudget (s : State) : State :=
  let b := roundInt .rne 0 (lwVal (getF s Fld.RN_PBUDGET_BUDGET)).m (lwVal (getF s Fld.RN_PBUDGET_BUDGET)).e
  let draw := min 2047 (ratioUnits (getF s Fld.PWR_INPUT_VIN * getF s Fld.PWR_INPUT_IIN) 2048)
  raiseEv (setF s Fld.PWR_STATUS_OVERBUDGET 1) 0x9008 (unitOf 10 0) 0 (packDetail [(0, b.toNat % 2048), (11, draw)])

/-- R331: a loop's owner is notified of its fault. -/
def notifyOwner (s : State) (i : Nat) : State :=
  let s := putLoop s i { getLoop s i with notified := true }
  let x := lpF s Fld.RN_LP_CTRL_OWNER_IDX i
  match lpF s Fld.RN_LP_CTRL_OWNER i with
  | 1 => ringRecheck s x
  | 2 => if x < 16 then holdLte s x .phase else s
  | 3 => overBudget s
  | _ => s

/-- R330: a following-error fault of loop `i` arises in its slot; `err`: the following error as a loop word (DEDUCED: log entry 102). -/
def loopFault (s : State) (i err : Nat) : State :=
  let s := bumpF (setLp s Fld.RN_LP_STAT_FAULT 1 i) Fld.RN_FAULTS_COUNT 1
  { s with rein := { s.rein with faults := s.rein.faults ++ [(i, err)] } }

/-- R330, R331, Table 12.1: what a fault does in the fault phase of its frame: the event, FEACT, and the owner's notification. -/
def faultActs (s : State) (i err : Nat) : State :=
  let act := lpF s Fld.RN_LP_CTRL_FEACT i
  let s := raiseEv s 0x7001 (unitOf 8 0) 0 (packDetail [(0, i), (13, act), (15, lpF s Fld.RN_LP_CTRL_OWNER i),
    (17, lpF s Fld.RN_LP_CTRL_OWNER_IDX i), (32, err)])
  let s :=
    if act = 1 then dropBuf (setFreeze s i true) i
    else if act = 2 then
      let safe := lpF s Fld.RN_LP_SAFE_SAFE i
      putBuf (setFreeze s i true) i safe (destValue (lpF s Fld.RN_LP_DEST_DKIND i) (lwVal safe)).1
    else s
  notifyOwner s i

/-- R316, Table 12.1: the events of the stages whose exponent would have exceeded 127 in the frame. -/
def grownEvents (s : State) : State :=
  s.rein.grown.foldl (fun s x => raiseEv s 0x7004 (unitOf 8 0) 0 (packDetail [(0, x.1), (13, x.2)])) { s with rein := { s.rein with grown := [] } }

/-- Table 12.1: the fault phase of a frame (DEDUCED: log entry 102). -/
def faultPhase (s : State) : State :=
  let s := grownEvents s
  s.rein.faults.foldl (fun s x => faultActs s x.1 x.2) { s with rein := { s.rein with faults := [] } }

/-- R311, R324: the output phase. -/
def outputPhase (s : State) : State :=
  s.rein.buf.foldl (fun s x => writeOut s x.1 x.2.1 (x.2.2 - 1)) { s with rein := { s.rein with buf := [] } }

/-- R331: a stall's phase loop whose fault has passed, FECNT having stayed 0 for FETIME executions: FAULT clears, where software has not
cleared it, and the hold ends with the last such fault of the stall. -/
def stallLoopClean (s : State) (i : Nat) : State :=
  let k := lpF s Fld.RN_LP_CTRL_OWNER_IDX i
  if lpF s Fld.RN_LP_CTRL_OWNER i = 2 ∧ (getLoop s i).notified = true ∧ k < 16
      ∧ lpF s Fld.RN_LP_FETIME_FETIME i ≤ (getLoop s i).clean then
    let s := setLp s Fld.RN_LP_STAT_FAULT 0 i
    let s := putLoop s i { getLoop s i with notified := false }
    let more := s.rein.loops.any (fun x => x.2.notified && lpF s Fld.RN_LP_CTRL_OWNER x.1 == 2 && lpF s Fld.RN_LP_CTRL_OWNER_IDX x.1 == k)
    if more then s else releaseLte s k .phase
  else s

/-- R330: the following-error count of an execution whose first ERR stage gave `y`. -/
def superviseLoop (s : State) (i : Nat) (err : Option StageRun) : State :=
  let ft := lpF s Fld.RN_LP_FETIME_FETIME i
  match err with
  | none => s
  | some x =>
    if ft = 0 then s
    else
      let y := onGrid x.st.se x.y
      let lim := (lwVal (lpF s Fld.RN_LP_FELIM_FELIM i)).abs
      let bad := lim.lt y.abs
      let n := if bad then min 65535 (lpF s Fld.RN_LP_STAT_FECNT i + 1) else 0
      let s := setLp s Fld.RN_LP_STAT_FECNT n i
      let s := putLoop s i { getLoop s i with clean := if bad then 0 else (getLoop s i).clean + 1 }
      let s := stallLoopClean s i
      if ft ≤ n ∧ lpF s Fld.RN_LP_STAT_FAULT i = 0 then loopFault s i (lwEnc x.y x.st.se) else s

/-- R283: a line power loop reports its line below 1/8 of its target (DEDUCED: log entry 105). -/
def lineReport (s : State) (i : Nat) (v r : Dy) : State :=
  if 4624 ≤ i ∧ i < 4720 then
    let k := (i - 4624) / 48
    if combState s k = combLocked ∧ (v.mul ⟨8, 0⟩).lt r then lineLost s k ((i - 4624) % 48) else s
  else s

/-! One execution (R310). -/

/-- R322, R366: the set-point in force after the slew of this execution; `src`: the source (DEDUCED: log entry 104). -/
def slewed (s : State) (i : Nat) (src : SrcRead) : Nat :=
  let cur := lpF s Fld.RN_LP_SPCUR_SPCUR i
  if src.invalid || src.stale then cur
  else
    let t := lwVal src.lw
    let t := if 4624 ≤ i ∧ i < 4720 then t.mul ⟨combPower s, -9⟩ else t
    let lim := (lwVal (lpF s Fld.RN_LP_SLEW_SLEW i)).abs
    if lim.m = 0 then lwOf t
    else
      let c := lwVal cur
      lwOf (c.add (Dy.clamp ⟨-lim.m, lim.e⟩ lim (t.sub c)))

/-- R321: the slot is skipped. -/
def skipSlot (s : State) (i : Nat) (invalid stale : Bool) : State :=
  let s := setLp (setLp s Fld.RN_LP_STAT_INVALID (b01 invalid) i) Fld.RN_LP_STAT_STALE (b01 stale) i
  let s := setF s Fld.RN_LP_INVCNT_COUNT (min (2 ^ 32 - 1) (lpF s Fld.RN_LP_INVCNT_COUNT i + 1)) (i / 256) (i % 256)
  putLoop s i { getLoop s i with ran := true }

/-- R315, R316: the state words of the stages after an execution, and what they met. -/
def writeStages (s : State) (i : Nat) (l : List (StageRun × Bool)) : State :=
  (List.zip (List.range 5) l).foldl (fun s x =>
    let s := writeStage s i x.1 x.2.1.st
    let s := if x.2.1.ovf = 0 then s else bumpF (setLp s Fld.RN_LP_STAT_OVF 1 i) Fld.RN_OVF_COUNT x.2.1.ovf
    if x.2.2 then
      let s := setLp s Fld.RN_LP_STAT_OVF 1 i
      { s with rein := { s.rein with grown := s.rein.grown ++ [(i, x.1)] } }
    else s) s

/-- R310 to R331: loop `i` computes, with inputs A and B and its set-point source. -/
def computeLoop (s : State) (i : Nat) (a b sp : SrcRead) : State :=
  let r := slewed s i sp
  let sts := (List.range 5).map (readStage s i)
  let lp := getLoop s i
  let bump := lp.first && lpF s Fld.RN_LP_CTRL_BUMPLESS i == 1
  let preset := if bump then (presetAt sts).map (fun k => (k, destNow s i)) else none
  let runs := runStages (lwVal r) (lwVal b.lw) preset 0 (lwVal a.lw) sts
  let y := match runs.getLast? with
    | some x => onGrid x.st.se x.y
    | none => ⟨0, 0⟩
  let dk := lpF s Fld.RN_LP_DEST_DKIND i
  let raw := destValue dk y
  let skips := (List.range 5).map (fun k => windup runs k raw.2.1 raw.2.2)
  let fin := ((List.zip runs skips).map (fun x => updateInt x.1 x.2)).map renorm
  let frozen := (List.zip runs skips).any (fun x => x.2 && (x.1.st.kind == 4 || x.1.st.kind == 5))
  let out := match fin.getLast? with
    | some x => (onGrid x.1.st.se x.1.y, lwEnc x.1.y x.1.st.se)
    | none => (⟨0, 0⟩, 0)
  let dv := destValue dk out.1
  let s := setLp s Fld.RN_LP_SPCUR_SPCUR r i
  let s := putLoop (drawn s) i { lp with ran := true, first := false, pseq := [a.pseq, b.pseq, sp.pseq] }
  let s := writeStages s i fin
  let s := setLp (setLp s Fld.RN_LP_STAT_INVALID 0 i) Fld.RN_LP_STAT_STALE 0 i
  let s := setLp s Fld.RN_LP_STAT_SATHI (b01 (dv.2.1 || runs.any (·.hi))) i
  let s := setLp s Fld.RN_LP_STAT_SATLO (b01 (dv.2.2 || runs.any (·.lo))) i
  let s := setLp s Fld.RN_LP_STAT_IFROZEN (b01 frozen) i
  let s := putBuf s i out.2 dv.1
  let s := lineReport s i (lwVal a.lw) (lwVal r)
  superviseLoop s i (runs.find? (fun x => x.st.kind == 3))

/-- R312, Table 12.2: the frames between executions of a class. -/
def classFrames (c : Nat) : Nat := [1, 10, 50].getD c 500

/-- R310, R312, R321, R327: loop `i` in its slot of the frame in progress. -/
def runLoop (s : State) (i : Nat) : State :=
  let lp := getLoop s i
  let f := frameNow s
  if bankState s (i / 256) = bankStopped ∨ lpF s Fld.RN_LP_CTRL_EN i = 0 ∨ lp.ran ∨ lpF s Fld.RN_LP_RUN_FREEZE i = 1
      ∨ f % classFrames (lpF s Fld.RN_LP_CTRL_CLASS i) ≠ lpF s Fld.RN_LP_CTRL_FOFF i then s
  else
    let q := fun (j : Nat) => lp.pseq.getD j 64
    let usesB := (List.range 5).any (fun k => getF s Fld.RN_ST_CFG_KIND (i / 256) (i % 256) k == 2)
    let a := readSrc s i (lpF s Fld.RN_LP_INA_KIND i) (lpF s Fld.RN_LP_INA_INDEX i) (q 0) lp.first
    let b := if usesB then readSrc s i (lpF s Fld.RN_LP_INB_KIND i) (lpF s Fld.RN_LP_INB_INDEX i) (q 1) lp.first else plainSrc 0
    let sp := readSrc s i (lpF s Fld.RN_LP_SPSRC_KIND i) (lpF s Fld.RN_LP_SPSRC_INDEX i) (q 2) lp.first
    if a.invalid || b.invalid || a.stale || b.stale then skipSlot s i (a.invalid || b.invalid) (a.stale || b.stale)
    else computeLoop s i a b sp

/-! Banks and entries. -/

/-- R333: whether a source is named by a reserved kind; whether its index is out of range. -/
def srcReserved (w : Nat) : Bool := decide (8 ≤ w % 16) || decide (2 ^ 17 ≤ w)
def srcRange (w : Nat) : Bool :=
  let k := w % 16
  let x := w / 16 % 8192
  (decide (1 ≤ k ∧ k ≤ 4) && decide (48 ≤ x / 128)) || (k == 5 && decide (6144 ≤ x))

/-- R333: why the START of a bank is refused for loop `i`; 0 where it is not. -/
def loopRefused (s : State) (i : Nat) : Nat :=
  let b := i / 256
  let j := i % 256
  let srcs := [(rdReg s (Reg.RN_LP_INA.addr b j 0)).toNat, (rdReg s (Reg.RN_LP_INB.addr b j 0)).toNat,
    (rdReg s (Reg.RN_LP_SPSRC.addr b j 0)).toNat]
  let dk := lpF s Fld.RN_LP_DEST_DKIND i
  let dx := lpF s Fld.RN_LP_DEST_INDEX i
  let kinds := (List.range 5).map (fun k => getF s Fld.RN_ST_CFG_KIND b j k)
  let own := lpF s Fld.RN_LP_CTRL_OWNER i
  let idx := lpF s Fld.RN_LP_CTRL_OWNER_IDX i
  if lpF s Fld.RN_LP_CTRL_EN i = 0 then 0
  else if lpF s Fld.RN_LP_CTRL_FEACT i = 3 ∨ kinds.any (fun k => decide (8 ≤ k)) ∨ srcs.any srcReserved ∨ 4 ≤ dk
      ∨ (own = 1 ∧ 528 ≤ idx) ∨ (own = 2 ∧ 16 ≤ idx) then 1
  else if classFrames (lpF s Fld.RN_LP_CTRL_CLASS i) ≤ lpF s Fld.RN_LP_CTRL_FOFF i then 2
  else if srcs.any srcRange then 3
  else if (dk = 1 ∧ 1024 ≤ dx) ∨ (dk = 2 ∧ 4096 ≤ dx) ∨ (dk = 3 ∧ dx ≠ 0) then 4
  else if lpF s Fld.RN_LP_FETIME_FETIME i ≠ 0 ∧ kinds.contains 3 = false then 5
  else 0

/-- R332, R333: a write of RN_BANK_CTRL. -/
def bankCtrlWrite (s : State) (b : Nat) (start stop : Bool) : State :=
  if stop then
    (if bankState s b = bankRun then setF s Fld.RN_BANK_STATUS_STATE bankStopping 0 b
     else { s with rein := { s.rein with starting := s.rein.starting.filter (· != b) } })
  else if start && bankState s b == bankStopped then
    match (List.range 256).find? (fun q => loopRefused s (256 * b + q) != 0) with
    | some q =>
      let why := loopRefused s (256 * b + q)
      let s := setF s Fld.RN_ERR_START_REFUSED 1
      let s := setF (setF s Fld.RN_BANK_STATUS_LOOP q 0 b) Fld.RN_BANK_STATUS_REASON why 0 b
      raiseEv s 0x7003 (unitOf 8 0) 0 (packDetail [(0, b), (5, q), (13, why)])
    | none => { s with rein := { s.rein with starting := s.rein.starting.filter (· != b) ++ [b] } }
  else s

/-- R317, R318: whether the register at an offset of a loop entry accepts a write only while the bank is STOPPED. -/
def stoppedOnly (off : Nat) : Bool :=
  [0x00, 0x04, 0x08, 0x0C, 0x10, 0x20, 0x24].contains off || (decide (0x40 ≤ off) && decide (off < 0xE0))

/-- The RW bits of the register at `addr` take a written value. -/
def wrMasked (s : State) (addr v : Nat) : State :=
  match regByteAt addr with
  | none => s
  | some r =>
    let m : W64 := BitVec.ofNat 64 (r.desc.rw r.i)
    wrReg s addr ((rdReg s addr &&& ~~~m) ||| (BitVec.ofNat 64 v &&& m))

/-- R8, R335: the address of the register at an offset of loop `i`'s entry. -/
def loopAddr (i off : Nat) : Nat := Reg.RN_LP_CTRL.addr (i / 256) (i % 256) 0 + off

/-! Ostler firmware's placement (R334). -/

/-- Table 12.7: class, destination, and owner with its number, of a loop that ostler firmware places. -/
def placedLoop (i : Nat) : Nat × Nat × Nat × Nat :=
  if i < 4096 then (0, 2 + 8 * i, 2, i / 256)
  else if i < 4624 then (0, 1 + 8 * heaterChan (i - 4096), 1, i - 4096)
  else if i < 4720 then (1, 1 + 8 * lineChan ((i - 4624) / 48) ((i - 4624) % 48), 0, 0)
  else (2, 3, 3, 0)

/-- Table 12.3: RN_LP_CTRL of a placed loop: EN, CLASS and OWNER as Table 12.7 states, a legal FOFF, the other fields open. -/
def placedCtrl (i : Nat) : Nat :=
  let p := placedLoop i
  let v := (Config.loopEntry i 0).toNat
  packDetail [(0, 1), (1, p.1), (3, bitsOf v 3 9 % classFrames p.1), (12, bitsOf v 12 2 % 3), (14, p.2.2.1), (16, p.2.2.2), (26, bitsOf v 26 6)]

/-- R279: the accumulator that demodulates the drop power of ring `r`; which of its converter's it is is open (DESIGN CHOICE: log entry 208). -/
def ringAcc (r : Nat) : Nat := Config.ringAccBase (ringConv r) % 117 + heaterChan r % 256 / 12

/-- R279: ring `r`'s accumulator is set to SIGN at 250 kHz, in phase with the dither, with a result each frame; the ring's loop takes that
result as input A, its mean or its sum (DESIGN CHOICE: log entry 208). -/
def placeRingInput (s : State) (r : Nat) : State :=
  let m := ringConv r
  let a := ringAcc r
  let s := wrMasked s (Reg.ACC_CFG.addr m a 0) (packDetail [(0, 1), (2, 1), (4, 1)])
  let s := wrMasked (wrMasked s (Reg.ACC_REF.addr m a 0) 25000) (Reg.ACC_PHASE.addr m a 0) 0
  wrMasked s (loopAddr (4096 + r) 0x04) (packDetail [(0, 1 + (Config.loopEntry (4096 + r) 0x04).toNat % 2), (4, a), (11, m)])

/-- R334: loop `i`'s entry as ostler firmware places it. What Table 12.7 does not state is open (DESIGN CHOICE: log entry 208). -/
def placeLoop (s : State) (i : Nat) : State :=
  let offs := [0x04, 0x08, 0x0C, 0x14, 0x18, 0x1C, 0x20, 0x24, 0x2C] ++ (List.range 40).map (fun k => 0x40 + 4 * k)
  let s := wrMasked (wrMasked s (loopAddr i 0) (placedCtrl i)) (loopAddr i 0x10) (placedLoop i).2.1
  offs.foldl (fun s off => wrMasked s (loopAddr i off) (Config.loopEntry i off).toNat) s

/-- R334: ostler firmware places loops 0 to 4,720 and starts banks 0 to 18; what it has placed passes the checks of R333. -/
def startBanks (s : State) : State :=
  let s := (List.range 528).foldl placeRingInput ((List.range 4721).foldl placeLoop s)
  { s with rein := { s.rein with starting := s.rein.starting.filter (19 ≤ ·) ++ List.range 19 } }

/-- R317, R332: a write of the register at `off` of loop `i`'s entry (DESIGN CHOICE: log entry 106). -/
def loopFieldWrite (s : State) (i off v : Nat) : State :=
  if stoppedOnly off then
    if bankState s (i / 256) = bankStopped then wrMasked s (loopAddr i off) v
    else raiseEv (setF s Fld.RN_ERR_CFG_REFUSED 1) 0x7002 (unitOf 8 0) 0
      (packDetail [(0, i), (13, off), (21, bankState s (i / 256))])
  else if off = 0x28 then setFreeze s i (v % 2 == 1)
  else if off = 0x2C then
    (if bankState s (i / 256) = bankStopped then setLp s Fld.RN_LP_SPCUR_SPCUR (v % 2 ^ 32) i else s)
  else if off = 0x34 then
    let s := if bitOf v 16 then setLp s Fld.RN_LP_STAT_FAULT 0 i else s
    if bitOf v 22 then setLp s Fld.RN_LP_STAT_OVF 0 i else s
  else wrMasked s (loopAddr i off) v

end Sys2Proof.Machine
end

