-- ==== Sys2Proof/Machine/Flags.lean ====
section
/-! DEFINITION. FFLAGS (Table 5.2) and the IEEE 754 arithmetic that raises them: exact sums of products, rounded once. -/
namespace Sys2Proof.Machine

/-- FFLAGS bits. -/
def flInexact : Nat := 1
def flUnderflow : Nat := 2
def flOverflow : Nat := 4
def flDivZero : Nat := 8
def flInvalid : Nat := 16

/-- The flags of a rounding. -/
def Rounded.flags (r : Rounded) : Nat :=
  (if r.inexact then flInexact else 0) ||| (if r.tiny && r.inexact then flUnderflow else 0) |||
    (if r.overflow then flOverflow else 0)

/-- A result: its encoding and the flags it raises. -/
structure FpRes where
  bits : Nat
  flags : Nat
  deriving DecidableEq, Repr

/-- A quiet NaN of precision `p` whose sign and payload are free (DESIGN CHOICE: log entry 7). -/
def freeNaN (p free : Nat) : Nat := (free % 2 ^ (p + 8)) ||| fpQNaN p

/-- The exact product, and whether it is 0 × ∞, which is invalid whatever is added to it (DESIGN CHOICE: log entry 234). -/
def fpProd (a b : Fp) : Fp × Bool :=
  match a, b with
  | .nan s, .nan t => (.nan (s || t), false)
  | .nan s, _ => (.nan s, false)
  | _, .nan s => (.nan s, false)
  | .inf n, b => if b.isZero then (.nan true, true) else (.inf (xor n b.neg), false)
  | a, .inf n => if a.isZero then (.nan true, true) else (.inf (xor n a.neg), false)
  | .fin n m e, .fin n' m' e' => (.fin (xor n n') (m * m') (e + e'), false)

/-- A datum with its sign inverted. -/
def Fp.negate : Fp → Fp
  | .fin n m e => .fin (!n) m e
  | .inf n => .inf (!n)
  | .nan s => .nan s

/-- The exact sum of finite data. -/
def sumDy : List Fp → Dy
  | [] => ⟨0, 0⟩
  | a :: t => a.dy.add (sumDy t)

/-- The exact sum of the terms, rounded once under IEEE 754; an exact zero is −0 only when every term is negative. -/
def fpSum (mode : Rnd) (p : Nat) (ts : List Fp) (free : Nat) : FpRes :=
  if ts.any Fp.isNaN then ⟨freeNaN p free, if ts.any Fp.isSNaN then flInvalid else 0⟩
  else
    let infs := ts.filter Fp.isInf
    match infs with
    | i :: rest =>
      if rest.all (fun x => x.neg == i.neg) then ⟨fpInf p i.neg, 0⟩ else ⟨freeNaN p free, flInvalid⟩
    | [] =>
      let r := fpRoundDyM mode p (ts.all Fp.neg) (sumDy ts)
      ⟨r.bits, r.flags⟩

end Sys2Proof.Machine
end

