-- ==== Sys2Proof/Machine/Operands.lean ====
section
/-! DEFINITION. The operand forms of shed instructions: scalar, vector and mask registers, lanes, immediates and addresses. -/
namespace Sys2Proof.Machine

/-- Table 5.1: x0 reads 0. -/
def Thread.xr (th : Thread) (i : Nat) : W64 := if i = 0 then 0 else nmGet (fun _ => 0) th.x i

/-- Table 5.1: a write of x0 is ignored. -/
def Thread.setX (th : Thread) (i : Nat) (v : W64) : Thread :=
  if i = 0 then th else { th with x := nmPut (fun _ => 0) th.x i v }

/-- A vector register. -/
def Thread.vr (th : Thread) (i : Nat) : W512 := nmGet (fun _ => 0) th.v i
def Thread.setV (th : Thread) (i : Nat) (v : W512) : Thread := { th with v := nmPut (fun _ => 0) th.v i v }

/-- Table 5.1: m0 reads all ones. -/
def Thread.mr (th : Thread) (i : Nat) : W16 := if i = 0 then 0xFFFF#16 else nmGet (fun _ => 0) th.m i

/-- The lanes of `w` bits of a vector register, lane 0 first. -/
def lanes (w : Nat) (v : W512) : List Nat := (List.range (512 / w)).map (fun i => v.toNat / 2 ^ (w * i) % 2 ^ w)

/-- The number whose digits of `w` bits are given. -/
def ofDigits (w : Nat) : List Nat → Nat
  | [] => 0
  | d :: t => d % 2 ^ w + 2 ^ w * ofDigits w t

/-- A vector register from its lanes. -/
def ofLanes (w : Nat) (l : List Nat) : W512 := BitVec.ofNat 512 (ofDigits w l)

/-- The bytes of a vector register. -/
def vecBytes (v : W512) : List Byte := (toBytes 64 v.toNat).map (BitVec.ofNat 8)

/-- A signed 12-bit immediate as 64 bits. -/
def imm64 (imm : BitVec 12) : W64 := imm.signExtend 64

/-- Masked result lanes: an inactive 32-bit lane keeps its old value; `w` is the element width (DEDUCED: log entry 47). -/
def maskLanes (w : Nat) (mask : W16) (old new : List Nat) : List Nat :=
  (List.zip (List.range old.length) (List.zip old new)).map (fun x =>
    if mask.toNat / 2 ^ (x.1 * w / 32) % 2 = 1 then x.2.2 else x.2.1)

/-- The flags of active lanes. -/
def maskFlags (w : Nat) (mask : W16) (fl : List Nat) : Nat :=
  (List.zip (List.range fl.length) fl).foldl (fun a x =>
    if mask.toNat / 2 ^ (x.1 * w / 32) % 2 = 1 then a ||| x.2 else a) 0

/-- FRM as a rounding mode. -/
def Thread.mode (th : Thread) : Rnd := if th.frm = 1 then .rtz else .rne

/-- Flags are sticky. -/
def Thread.raiseFlags (th : Thread) (f : Nat) : Thread := { th with fflags := th.fflags ||| f }

end Sys2Proof.Machine
end

