-- ==== Sys2Proof/Machine/ShedOps.lean ====
section
/-! DEFINITION. Shared operations of the sheds: issuing an instruction, fetching it, ordering (R141), traps (R147 to R150), and the
writes of the shed's control registers (chapter 05). -/
namespace Sys2Proof.Machine

/-- R130: the compute die of shed `i`. -/
def shedDie (i : Nat) : Nat := i / 16

/-- The record of shed `i`, and of its thread `t`. -/
def getShed (s : State) (i : Nat) : Shed := nmGet (fun _ => {}) s.shed i
def putShed (s : State) (i : Nat) (x : Shed) : State := { s with shed := nmPut (fun _ => {}) s.shed i x }
def getThread (s : State) (i t : Nat) : Thread := nmGet (fun _ => {}) (getShed s i).thr t
def putThread (s : State) (i t : Nat) (th : Thread) : State :=
  putShed s i { getShed s i with thr := nmPut (fun _ => {}) (getShed s i).thr t th }

/-- A register an instruction reads or writes. -/
inductive RegRef
  | x (n : Nat)
  | v (n : Nat)
  deriving DecidableEq, Repr

/-- A scalar register that takes a result; x0 takes none (Table 5.1). -/
def xDest (rd : Nat) : Option RegRef := if rd = 0 then none else some (.x rd)

/-- The register that the result of an outstanding access is still to be written to (R131). -/
def Access.dest (a : Access) : Option RegRef :=
  match a.kind with
  | .load _ rd => xDest rd
  | .vload vd => some (.v vd)
  | .atomic _ _ rd _ _ => xDest rd
  | _ => none

/-- R131: the sources hold their values and no result is pending for the destination. -/
def Thread.ready (th : Thread) (rs : List RegRef) : Bool :=
  !th.out.any (fun a => match a.dest with
    | some r => rs.contains r
    | none => false)

/-- Whether an address lies where a thread may reach it (Table 0.3). -/
def inMap (a : Nat) : Bool := regionAt a != .outside

/-- R150, R151: a thread halts on a trap (DEDUCED: log entry 50). -/
def haltOnTrap (s : State) (i t cause : Nat) (deferred nested : Bool) (tval tpc : W64) : State :=
  let th := getThread s i t
  let s := putThread s i t { th with running := false, handler := false }
  let s := bumpF s Fld.SHD_HALTS_COUNT 1 i
  let s := setF s (if deferred then Fld.SHD_ERR_BUSERR else Fld.SHD_ERR_PRECISE) 1 i
  let s := if nested then setF s Fld.SHD_ERR_NESTED 1 i else s
  let s := wrReg s (Reg.SHD_LASTTRAP.addr i 0 0)
    (BitVec.ofNat 64 (packDetail [(0, t), (8, cause), (13, b01 deferred), (14, b01 nested)]))
  let s := wrReg s (Reg.SHD_LASTTRAP_PC.addr i 0 0) tpc
  let s := wrReg s (Reg.SHD_LASTTRAP_VAL.addr i 0 0) tval
  let addr := if cause = 1 ∨ cause = 5 ∨ cause = 6 ∨ cause = 7 then 0 else tval.toNat
  raiseEv s (if nested then 0x2002 else 0x2001) (unitOf 1 i) addr
    (packDetail [(0, t), (8, cause), (13, b01 deferred), (16, tpc.toNat % 2 ^ 48)]) nested

/-- R149, R150: the access was issued before the trap that is being taken. -/
def Access.before_ (a : Access) : Access := { a with preTrap := true }
def DefErr.before_ (e : DefErr) : DefErr := { e with preTrap := true }

/-- R149, R150: a thread takes a trap. `epc` is where ERET resumes (DESIGN CHOICE: log entry 185). -/
def takeTrap (s : State) (i t cause : Nat) (deferred : Bool) (tval tpc epc : W64) : State :=
  let th := getThread s i t
  let vec := rdReg s (Reg.SHD_TRAPVEC.addr i 0 0)
  if vec = 0 then haltOnTrap s i t cause deferred false tval tpc
  else if th.handler then haltOnTrap s i t cause deferred true tval tpc
  else
    putThread s i t
      { th with
        handler := true, pc := vec, cause := cause + (if deferred then 32 else 0), tval := tval, tpc := tpc, epc := epc
        out := th.out.map Access.before_, errs := th.errs.map DefErr.before_ }

/-- How an instruction ends: it does not issue yet, it traps precisely, or it has issued with this state and thread. -/
inductive IssueEnd
  | wait
  | trap (cause : Nat) (tval : W64)
  | done (s : State) (th : Thread)

/-- What a fetch gives. -/
inductive Fetch
  | ok (s : State)
  | trap (s : State) (cause : Nat) (deferred : Bool)
  | wait

/-- R143, Tables 5.4 to 5.7: a word that no instruction has: a class of 11 to 15, a function that Tables 5.6 and 5.7 and class 7 do not give, a
MASK in a scalar class, a SIZE or ORD not allowed. Which functions classes 9 and 10 have no table gives (DESIGN CHOICE: log entry 190). -/
def illegalWord (w : Nat) : Bool :=
  let func := bitsOf w 22 6
  let mask := bitsOf w 4 3 != 0
  let mem := bitsOf w 22 2 == 3
  match bitsOf w 28 4 with
  | 0 => mask
  | 3 => mem || decide (3 < bitsOf w 25 3)
  | 5 => mem || bitsOf w 25 3 != 4
  | 6 => bitsOf w 24 4 == 1 || decide (9 < bitsOf w 24 4)
  | 7 => mask || !(decide (func < 10) || func == 0x10)
  | 8 => mask || !([0, 1, 3, 4].contains func)
  | 9 => !Config.funcDefined 9 func
  | 10 => !Config.funcDefined 10 func
  | c => decide (10 < c)

/-- R143: the instruction at `a`, of a line's bytes, is fetched. -/
def fetchWord (s : State) (a : Nat) (bytes : List Nat) : Fetch :=
  if illegalWord (ofBytes ((bytes.drop (a % 64)).take 4)) then .trap s 1 false else .ok s

/-- R137, R138, R227, Table 5.8: the instruction at `pc` comes from the cache, or from memory by a fill of its line, in class C1.
(DESIGN CHOICE: log entry 11; DEDUCED: log entry 52). -/
def fetchInstr (s : State) (i : Nat) (pc : W64) : Fetch :=
  let a := pc.toNat
  if a % 4 ≠ 0 then .trap s 2 false
  else if inMap a = false ∨ regionAt a = .control then .trap s 3 false
  else
    let sh := getShed s i
    let line := a / 64 * 64
    match sh.icache.find? (fun l => l.addr == line) with
    | some l => fetchWord s a l.bytes
    | none =>
    if reachable s a = false then .trap s 18 true
    else if accepts s a 1 = false then .wait
    else
      let m := memRead s line 64
      if m.failed then .trap m.s 8 false
      else
        let sh := getShed m.s i
        let kept := if sh.icache.length < 1024 then sh.icache
          else sh.icache.eraseIdx (Config.icacheVictim m.s.freeCtr % 1024)
        fetchWord (putShed (drawn m.s) i { sh with icache := kept ++ [⟨line, m.bytes⟩] }) a m.bytes

/-- R131, R135, R147: a thread may issue: its shed runs, it is not halted or waiting, and no deferred error is to be taken first.
(DESIGN CHOICE: log entry 191). -/
def mayIssueThread (s : State) (i t : Nat) : Bool :=
  let th := getThread s i t
  (getShed s i).state == .run && th.running && th.wait == .none && th.errs.isEmpty

/-- One instruction of thread `t` of shed `i` that reads and writes `rs`. The body gives the thread with its PC already past the instruction.
(DEDUCED: log entry 49; DEDUCED: log entry 51; DESIGN CHOICE: log entry 175). -/
def issue (s : State) (i t : Nat) (rs : List RegRef) (body : State → Thread → IssueEnd) : State :=
  let th := getThread s i t
  if mayIssueThread s i t && th.ready rs then
    match fetchInstr s i th.pc with
    | .wait => s
    | .trap s' cause deferred => takeTrap s' i t cause deferred (if cause = 1 then 0 else th.pc) th.pc th.pc
    | .ok s' =>
      match body s' { th with pc := th.pc + 4 } with
      | .wait => s
      | .trap cause tval => takeTrap s' i t cause false tval th.pc th.pc
      | .done s'' th' => addF (putThread s'' i t th') Fld.SHD_RETIRED_COUNT 1 i
  else s

/-- R143: a scalar class instruction whose MASK is not 0, or whose function its class does not have, is illegal.
(DESIGN CHOICE: log entry 190). -/
def scalarOp (s : State) (i t : Nat) (mask : Nat) (rs : List RegRef) (f : Thread → Thread) (known : Bool := true) : State :=
  issue s i t rs (fun s th => if mask ≠ 0 ∨ known = false then .trap 1 0 else .done s (f th))

/-- R141: an access may issue: no acquire and no FENCE is outstanding, and fewer than eight accesses are. -/
def Thread.mayAccess (th : Thread) : Bool :=
  !th.out.any (·.acquire) && !th.fence && decide (th.out.length < 8)

/-- R141: an access issues now; a release waits for every earlier access. -/
def Thread.accessIssues (th : Thread) (release : Bool) : Bool := th.mayAccess && (!release || th.out.isEmpty)

/-- R147, R140: an access of `size` bytes issues, or traps at its issue (DEDUCED: log entry 186). -/
def issueAccess (s : State) (th : Thread) (addr : W64) (size : Nat) (kind : AccKind) (acquire release : Bool) : IssueEnd :=
  if th.accessIssues release = false then .wait
  else if addr.toNat % size ≠ 0 then .trap 2 addr
  else if inMap addr.toNat = false then .trap 3 addr
  else
    .done s { th with
      out := th.out ++ [{ addr := addr.toNat, kind := kind, acquire := acquire, pc := th.pc - 4, preTrap := false }] }

/-- R143: whether class `c` has the function (DESIGN CHOICE: log entry 190). -/
def logicKnown (c : Nat) : LogicFn → Bool
  | .other f => Config.funcDefined c f
  | _ => true
def cmpKnown (c : Nat) : CmpFn → Bool
  | .other f => Config.funcDefined c f
  | _ => true
def immKnown : ImmFn → Bool
  | .logic g => logicKnown 1 g
  | .cmp g => cmpKnown 1 g
  | .other f => Config.funcDefined 1 f
  | _ => true
def vecKnown : VecFn → Bool
  | .other f => Config.funcDefined 4 f
  | _ => true

/-- Table 5.5 class 0: a logic function (DESIGN CHOICE: log entry 13). -/
def logicFn (f : LogicFn) (a b : W64) : W64 :=
  match f with
  | .and => a &&& b
  | .or => a ||| b
  | .xor => a ^^^ b
  | .other c => Config.aluOther c a b

/-- A shift; by 64 or more the spec states no result. -/
def shiftFn (f : ShiftFn) (a b : W64) : W64 :=
  if 64 ≤ b.toNat then Config.shiftOver (match f with
    | .left => 0
    | .right => 1
    | .rightArith => 2) a b
  else
    match f with
    | .left => a <<< b.toNat
    | .right => a >>> b.toNat
    | .rightArith => a.sshiftRight b.toNat

/-- A comparison (DESIGN CHOICE: log entry 13). -/
def cmpFn (f : CmpFn) (a b : W64) : W64 :=
  match f with
  | .eq => Config.compareResult (decide (a = b))
  | .lt => Config.compareResult (a.slt b)
  | .ltu => Config.compareResult (a.ult b)
  | .other c => Config.aluOther c a b

/-- Class 1. -/
def immFn (f : ImmFn) (a b : W64) : W64 :=
  match f with
  | .add => a + b
  | .logic g => logicFn g a b
  | .shift g => shiftFn g a b
  | .cmp g => cmpFn g a b
  | .other c => Config.aluOther c a b

/-- R143: division; by zero all ones; where signed and unsigned division differ the quotient is free (DESIGN CHOICE: log entry 13). -/
def divFn (a b : W64) : W64 :=
  if b = 0 then BitVec.allOnes 64
  else if a.udiv b = a.sdiv b then a.udiv b else Config.divOpen a b

/-- R134: what a launch leaves in a thread (DESIGN CHOICE: log entry 29). -/
def launchThread (s : State) (i : Nat) : Thread :=
  { running := true, pc := rdReg s (Reg.SHD_ENTRY.addr i 0 0), launched := true, launchTime := s.time }

/-- R134: whether thread `t` launches: enabled, its core not disabled (DEDUCED: log entry 53). -/
def launches (s : State) (i t : Nat) : Bool :=
  bitOf (getF s Fld.SHD_THR_EN_EN i (t / 32)) (t % 32) && !bitOf (getF s Fld.SHD_COREDIS_DIS i) (t / 8)

/-- R134, R135, R137: a write of SHD_CTRL. -/
def shdCtrlWrite (s : State) (i : Nat) (start stop launch icinv : Bool) : State :=
  let sh := getShed s i
  let s := if icinv && sh.state == .stopped then putShed s i { sh with icache := [] } else s
  let sh := getShed s i
  if stop then
    if sh.state = .run then
      putShed s i { sh with
        state := .stopping
        thr := nmMap (fun _ => {}) (fun _ th => { th with wait := .none }) sh.thr }
    else s
  else if start && sh.state == .stopped then
    if launch then
      let old := nmMap (fun _ => {}) (fun _ (th : Thread) => { th with running := false, handler := false }) sh.thr
      putShed s i ((List.range 256).foldl (fun h t =>
        if launches s i t then { h with thr := nmPut (fun _ => {}) h.thr t (launchThread s i) } else h)
        { sh with state := .run, thr := old })
    else putShed s i { sh with state := .run }
  else s

/-- The number that SHD_STATUS.STATE gives a state. -/
def ShedSt.code : ShedSt → Nat
  | .run => 0
  | .stopping => 1
  | .stopped => 2
  | .offline => 3

/-- R136: a shed configuration register is written. `addr` is the register's, `v` its new value. -/
def shdCfgWrite (s : State) (i addr : Nat) (v : Nat) : State :=
  let sh := getShed s i
  let isCfg := addr == Reg.SHD_CFG.addr i 0 0
  -- a write of OFFLINE = 0 returns an OFFLINE shed to STOPPED
  if sh.state = .stopped ∨ (sh.state = .offline ∧ isCfg ∧ bitOf v 0 = false) then
    let s := wrReg s addr (BitVec.ofNat 64 v)
    if isCfg then putShed s i { sh with state := if bitOf v 0 then .offline else .stopped } else s
  else
    let s := setF s Fld.SHD_ERR_CFG_REFUSED 1 i
    raiseEv s 0x2003 (unitOf 1 i) 0 sh.state.code

/-- R477, R134, R136: what ostler firmware does with a shed once it has stopped. -/
def carryPlan (s : State) (i : Nat) : State :=
  let sh := getShed s i
  if sh.state = .stopped then
    let t := putShed s i { sh with plan := .none }
    match sh.plan with
    | .none => s
    | .relaunch => shdCtrlWrite (shdCtrlWrite t i false false false true) i true false true false
    | .offline => shdCfgWrite t i (Reg.SHD_CFG.addr i 0 0) 1
  else s

/-- R477: ostler firmware learns of a halt of a shed: it stops the shed to launch it again; after a fourth halt within 60 s, to set it OFFLINE
(DEDUCED: log entry 226). -/
def shedHalted (s : State) (i : Nat) : State :=
  let sh := getShed s i
  let recent := s.time :: (sh.halts.filter (fun t => decide ((s.time - t).toNat < 60000000000))).take 3
  let out := decide (4 ≤ recent.length)
  if sh.state = .offline then s
  else
    let plan : ShedPlan := if out then .offline else if sh.state = .run then .relaunch else sh.plan
    let s := putShed s i { sh with halts := recent, plan := plan }
    if sh.state = .run then shdCtrlWrite s i false true false false else carryPlan s i

end Sys2Proof.Machine
end

