-- ==== Sys2Proof/Machine/ShunterOps.lean ====
section
/-! DEFINITION. Shared operations of the shunters: descriptors and the checks of an arm (R158 to R162, R104), the walk (R159), what a
channel can issue next (R157, R174, R179, R180, R190), halts and completion (R164 to R168), the tile-operation queue (R185). -/
namespace Sys2Proof.Machine

/-- R155: the compute die of shunter `n`, its index within it, and the stall it serves. -/
def shuDie (n : Nat) : Nat := n / 24
def shuJ (n : Nat) : Nat := n % 24
def shuStall (n : Nat) : Nat := 4 * shuDie n + shuJ n / 2

/-- R155: the shunter that owns stall `k`'s weight port and queue, and the one that owns its input and drain ports. -/
def evenShu (k : Nat) : Nat := 24 * (k / 4) + 2 * (k % 4)
def oddShu (k : Nat) : Nat := evenShu k + 1

/-- R156: the channel number of channel `c` of shunter `n` within its die. -/
def chanNo (n c : Nat) : Nat := 8 * shuJ n + c

/-- R195: the UNIT of a shunter's events. -/
def shuUnit (n : Nat) : Nat := unitOf 2 n

/-! Descriptors. -/

/-- Table 6.3. -/
def parseSide (v : Nat) : Side :=
  { base := bitsOf v 0 48, scale := bitsOf v 48 48, ib0 := bitsOf v 96 40, off := bitsOf v 136 48,
    str := [sext 40 (v / 2 ^ 184), sext 40 (v / 2 ^ 224), sext 40 (v / 2 ^ 264), sext 40 (v / 2 ^ 304), sext 40 (v / 2 ^ 344)] }

/-- Table 6.2. -/
def parseStream (addr : Nat) (bs : List Nat) : StreamDesc :=
  let v := ofBytes bs
  { addr := addr, srck := bitsOf v 0 3, dstk := bitsOf v 3 3, sfmt := bitsOf v 6 3, dfmt := bitsOf v 9 3,
    rnd := bitsOf v 12 2, reseed := bitOf v 14, cls := bitsOf v 15 2, waitEn := bitOf v 17, doneEn := bitOf v 18,
    waitSbx := bitsOf v 32 12, doneSbx := bitsOf v 48 12, doneDie := bitsOf v 60 2, doneRemote := bitOf v 62,
    waitValue := bitsOf v 64 32, doneInc := bitsOf v 96 16, ssid := bitsOf v 112 8, dsid := bitsOf v 120 8,
    cnt := [bitsOf v 128 32, bitsOf v 160 24, bitsOf v 184 24, bitsOf v 208 24, bitsOf v 232 24],
    src := parseSide (v / 2 ^ 256 % 2 ^ 384), dst := parseSide (v / 2 ^ 640) }

/-- Table 6.2: reserved bits [31:19] of bytes [3:0], [15:12] of [5:4] and [15] of [7:6] are 0. -/
def streamRsvdOk (bs : List Nat) : Bool :=
  let v := ofBytes bs
  bitsOf v 19 13 == 0 && bitsOf v 44 4 == 0 && bitsOf v 63 1 == 0

/-- Table 4.1. -/
def parseTileOp (bs : List Nat) : TileOp :=
  let v := ofBytes bs
  { op := bitsOf v 0 4, next := bitOf v 4, integ := bitsOf v 5 3, gain := bitsOf v 8 3, acc := bitOf v 11,
    wfmt := bitsOf v 12 3, xfmt := bitsOf v 15 3, slice := bitsOf v 18 2, sck := bitsOf v 20 2, slot := bitsOf v 24 12,
    vcnt := bitsOf v 36 12, tag := bitsOf v 48 16, doneSbx := bitsOf v 64 12, doneEn := bitOf v 76,
    waitSbx := bitsOf v 80 12, waitEn := bitOf v 92, waitValue := bitsOf v 96 32 }

/-- The format of a descriptor's FMT field. -/
def fmtOf (code : Nat) : Fmt := (fmtOfCode code).getD .fp32

/-- R159: the element index of walk position `p`. -/
def walkIdx (sd : Side) (cnt : List Nat) (p : Nat) : Int :=
  ((List.zip cnt sd.str).foldl (fun a x => (a.1 + ((a.2 % x.1 : Nat) : Int) * x.2, a.2 / x.1)) ((sd.off : Int), p)).1

/-- The number of walk positions. -/
def StreamDesc.total (d : StreamDesc) : Nat := d.cnt.foldl (· * ·) 1

/-- R160: the smallest and the largest element index of a side. -/
def sideSpan (sd : Side) (cnt : List Nat) : Int × Int :=
  (List.zip cnt sd.str).foldl (fun a x =>
    let t := ((x.1 : Int) - 1) * x.2
    if t < 0 then (a.1 + t, a.2) else (a.1, a.2 + t)) ((sd.off : Int), (sd.off : Int))

/-- Bytes of an element, or of a block (R38). -/
def unitBytes (f : Fmt) : Nat :=
  match f with
  | .bf16 => 2
  | .fp32 => 4
  | f => 4 * f.width

/-- Walk positions in one such unit. -/
def unitPos (f : Fmt) : Nat := if f.isBlock then 32 else 1

/-- R159: where element `idx` of a memory side lies, or its block. -/
def elemAddr (f : Fmt) (base idx : Nat) : Nat := base + idx / unitPos f * unitBytes f

/-- Table 0.3: whether a byte lies inside the map; which region of it. -/
def mapRegion (a : Nat) : Nat :=
  match regionAt a with
  | .manger _ _ => 1
  | .control => 2
  | .hbm _ => 3
  | .ddr _ => 4
  | .outside => 0

/-- R160, R162 check 8: every byte and scale line that a memory side's walk reaches lies inside the map. The ends settle it when they
lie in one region; otherwise every position is looked at, those of a negative index apart, which check 9 refuses (DEDUCED: log entry 66). -/
def walkInMap (f : Fmt) (sd : Side) (cnt : List Nat) : Bool :=
  let sp := sideSpan sd cnt
  let total := cnt.foldl (· * ·) 1
  let ok := fun (first last : Nat → Nat) =>
    let a := mapRegion (first sp.1.toNat)
    if a ≠ 0 ∧ a = mapRegion (last sp.2.toNat) then true
    else (List.range total).all (fun p =>
      let i := walkIdx sd cnt p
      decide (i < 0) || (mapRegion (first i.toNat) != 0 && mapRegion (last i.toNat) != 0))
  ok (fun i => elemAddr f sd.base i) (fun i => elemAddr f sd.base i + unitBytes f - 1)
    && (!f.isBlock || ok (fun i => scaleLineAddr sd.scale (i / 32)) (fun i => scaleLineAddr sd.scale (i / 32) + 63))

/-- What a side is. -/
inductive SideKind
  | mem | siding | drain | weight | input | reserved
  deriving DecidableEq, Repr

def StreamDesc.srcKind (d : StreamDesc) : SideKind :=
  match d.srck with
  | 0 => .mem
  | 1 => .siding
  | 2 => .drain
  | _ => .reserved

def StreamDesc.dstKind (d : StreamDesc) : SideKind :=
  match d.dstk with
  | 0 => .mem
  | 1 => .siding
  | 2 => .weight
  | 3 => .input
  | _ => .reserved

def StreamDesc.sf (d : StreamDesc) : Fmt := fmtOf d.sfmt
def StreamDesc.df (d : StreamDesc) : Fmt := fmtOf d.dfmt

/-- R162: the unused fields of a side are 0. -/
def sideUnusedOk (k : SideKind) (f : Fmt) (sd : Side) : Bool :=
  let strs := sd.str.all (· == 0)
  match k with
  | .mem => f.isBlock || (sd.scale == 0 && sd.ib0 == 0)
  | .siding => sd.base == 0 && sd.scale == 0 && sd.off == 0 && strs && (f.isBlock || sd.ib0 == 0)
  | .drain => sd.base == 0 && sd.scale == 0 && sd.ib0 == 0
  | .weight => sd.base == 0 && sd.scale == 0 && sd.ib0 == 0 && sd.off == 0 && strs
  | .input => sd.base == 0 && sd.scale == 0 && sd.ib0 == 0 && sd.off == 0 && strs
  | .reserved => true

/-- R162 check 5, but for the reserved bits (DEDUCED: log entry 67). -/
def streamReservedOk (d : StreamDesc) : Bool :=
  d.srcKind != .reserved && d.dstKind != .reserved && d.sfmt != 7 && d.dfmt != 7 && d.rnd != 3 && d.cls != 0
  && (d.waitEn || (d.waitSbx == 0 && d.waitValue == 0))
  && (if d.doneEn then d.doneInc != 0 else d.doneSbx == 0 && d.doneInc == 0 && d.doneDie == 0 && !d.doneRemote)
  && (d.doneRemote || d.doneDie == 0) && (d.srck == 1 || d.ssid == 0) && (d.dstk == 1 || d.dsid == 0)
  && sideUnusedOk d.srcKind d.sf d.src && sideUnusedOk d.dstKind d.df d.dst

/-- R162 check 6: R179, R180, R184. -/
def streamFormatOk (d : StreamDesc) : Bool :=
  (d.dstKind != .weight || d.dfmt == 0 || d.dfmt == 2)
  && (d.dstKind != .input || (d.sfmt == 0 && d.dfmt == 0) || ((d.sfmt == 1 || d.sfmt == 2) && d.dfmt == 2))
  && (d.srcKind != .drain || d.sfmt == 6)

/-- R162 check 7: R39, R160. -/
def sideAlignOk (k : SideKind) (sd : Side) : Bool :=
  k != .mem || (sd.base % 64 == 0 && sd.scale % 64 == 0)

/-- R162 check 8. -/
def sideMapOk (k : SideKind) (f : Fmt) (sd : Side) (cnt : List Nat) : Bool :=
  k != .mem || cnt.any (· == 0) || walkInMap f sd cnt

/-- R162 check 9 for one side: R160, R173, R184 (DEDUCED: log entry 66). -/
def sideShapeOk (k : SideKind) (f : Fmt) (sd : Side) (cnt : List Nat) : Bool :=
  match k with
  | .mem =>
    decide (0 ≤ (sideSpan sd cnt).1)
      && (!f.isBlock || (sd.str.headD 0 == 1 && sd.off % 32 == 0 && cnt.headD 0 % 32 == 0 && sd.ib0 % 56 == 0
            && sd.str.tail.all (fun x => x % 32 == 0)))
  | .siding => !f.isBlock || sd.ib0 % 56 == 0
  | .drain =>
    sd.str.headD 0 == 1 && cnt.headD 0 == 128 && sd.off % 128 == 0 && sd.str.tail.all (fun x => x % 128 == 0)
      && decide (0 ≤ (sideSpan sd cnt).1) && decide ((sideSpan sd cnt).2 < 524288)
  | _ => true

/-- R173: the positions of a descriptor fill whole slots. -/
def sidTotalOk (s : State) (d i total : Nat) : Bool :=
  let e := getF s Fld.SID_ELEMS_ELEMS d i
  e == 0 || total % e == 0

/-- R162 check 9. -/
def streamShapeOk (s : State) (die : Nat) (d : StreamDesc) : Bool :=
  d.cnt.all (· != 0)
  && sideShapeOk d.srcKind d.sf d.src d.cnt && sideShapeOk d.dstKind d.df d.dst d.cnt
  && (d.dstKind != .weight || d.total % 16384 == 0) && (d.dstKind != .input || d.total % 128 == 0)
  && (d.srcKind != .siding || sidTotalOk s die d.ssid d.total) && (d.dstKind != .siding || sidTotalOk s die d.dsid d.total)

/-- R173: the bytes of a slot's data, up to its first scale line, and its scale lines. -/
def slotDataBytes (f : Fmt) (elems : Nat) : Nat := ceilDiv (elems / 32 * unitBytes f) 64 * 64
def slotLines (elems : Nat) : Nat := ceilDiv elems 1792

/-- R173: the bytes a slot's layout takes. -/
def slotNeeds (f : Fmt) (elems : Nat) : Nat :=
  if f.isBlock then slotDataBytes f elems + 64 * slotLines elems else elems * unitBytes f

/-- R162 check 11: R172, R173. -/
def sidingOk (s : State) (die i : Nat) (f : Fmt) (me : Nat) (bound : Option Nat) : Bool :=
  let e := getF s Fld.SID_ELEMS_ELEMS die i
  sidSlots s die i != 0 && (bound == none || bound == some me) && e != 0 && (!f.isBlock || e % 32 == 0)
    && decide (slotNeeds f e ≤ sidSlotBytes s die i)

/-- Which stall port. -/
inductive PortKind
  | weight | input | drain
  deriving DecidableEq, Repr

/-- Whether a channel is bound to a port of its stall. -/
def Chan.bound (x : Chan) : PortKind → Bool
  | .weight => x.bindW
  | .input => x.bindI
  | .drain => x.bindD

/-- The ports a descriptor names. -/
def StreamDesc.ports (d : StreamDesc) : List PortKind :=
  (if d.dstKind = .weight then [.weight] else []) ++ (if d.dstKind = .input then [.input] else []) ++
    (if d.srcKind = .drain then [.drain] else [])

/-- R155: the shunter that owns a port of stall `k`. -/
def portShu (k : Nat) : PortKind → Nat
  | .weight => evenShu k
  | _ => oddShu k

/-- R156: the channel bound to a port. -/
def portChan (s : State) (k : Nat) (p : PortKind) : Option Nat :=
  (List.range 8).find? (fun c => (getChan s (portShu k p) c).bound p)

/-- R162 check 12. -/
def portOk (s : State) (n c : Nat) (p : PortKind) : Bool :=
  decide (shuJ n < 8) && portShu (shuStall n) p == n
    && (portChan s (shuStall n) p == none || portChan s (shuStall n) p == some c)

/-- R183: the DFMT of the channel bound to a stall's input port. -/
def inputFmt (s : State) (k : Nat) : Option Nat :=
  match portChan s k .input with
  | none => none
  | some c =>
    match (getChan s (oddShu k) c).run with
    | some r => if r.d.dstKind = .input then some r.d.dfmt
      else ((getChan s (oddShu k) c).shadow.filter (fun d => d.dstKind == .input)).map (·.dfmt)
    | none => none

/-- R183: whether an operation's XFMT and an input stream's DFMT disagree. -/
def xfmtDisagrees (xfmt dfmt : Nat) : Bool := (xfmt == 0) == (dfmt == 2)

/-- R162 check 14 for a stream. -/
def streamXfmtOk (s : State) (n : Nat) (d : StreamDesc) : Bool :=
  d.dstKind != .input || (portChan s (shuStall n) .input).isSome
    || !(getStall s (shuStall n)).tq.any (fun q => xfmtDisagrees q.d.xfmt d.dfmt)

/-- R162 checks 5 (its values) to 14: the status of the first that fails, else 0. -/
def streamStatus (s : State) (n c : Nat) (d : StreamDesc) : Nat :=
  let die := shuDie n
  if !streamReservedOk d then 3
  else if !streamFormatOk d then 4
  else if !(sideAlignOk d.srcKind d.src && sideAlignOk d.dstKind d.dst) then 5
  else if !(sideMapOk d.srcKind d.sf d.src d.cnt && sideMapOk d.dstKind d.df d.dst d.cnt) then 12
  else if !streamShapeOk s die d then 6
  else if (d.waitEn && decide (1024 ≤ d.waitSbx)) || (d.doneEn && decide (1024 ≤ d.doneSbx)) then 7
  else if (d.srcKind == .siding && !sidingOk s die d.ssid d.sf (chanNo n c) (getSid s die d.ssid).cons)
      || (d.dstKind == .siding && !sidingOk s die d.dsid d.df (chanNo n c) (getSid s die d.dsid).prod) then 8
  else if d.ports.any (fun p => !portOk s n c p) then 9
  else if d.ports != [] && (getStall s (shuStall n)).state == .offline then 11
  else if !streamXfmtOk s n d then 13
  else 0

/-- R162 checks 1 to 4, made before the fetch. -/
def armPreStatus (s : State) (n c addr : Nat) : Nat :=
  if addr % 128 ≠ 0 then 5
  else if shuDie n ≠ addr / 0x10000000 ∨ reachable s addr = false then 12
  else if (getChan s n c).state = .halted then 10
  else if (getChan s n c).shadow.isSome then 2
  else 0

/-- R104, R162: the arm status of a tile-operation descriptor for stall `k`. -/
def tileOpStatus (s : State) (k : Nat) (bs : List Nat) : Nat :=
  let v := ofBytes bs
  let d := parseTileOp bs
  let rsvd := bitsOf v 22 2 == 0 && bitsOf v 77 3 == 0 && bitsOf v 93 3 == 0
  let unused := (d.doneEn || d.doneSbx == 0) && (d.waitEn || (d.waitSbx == 0 && d.waitValue == 0))
  if !(rsvd && unused && (d.op == 1 || d.op == 2) && d.integ != 7 && d.slice != 3 && d.sck != 3 && d.wfmt != 7 && d.xfmt != 7) then 3
  else if !((d.wfmt == 0 || d.wfmt == 2) && d.xfmt ≤ 2) || (d.xfmt == 0 && d.slice != 0) then 4
  else if 4096 < d.slot + d.vcnt + 1 then 6
  else if (d.doneEn && decide (1024 ≤ d.doneSbx)) || (d.waitEn && decide (1024 ≤ d.waitSbx)) then 7
  else if (getStall s k).state = .offline then 11
  else
    match inputFmt s k with
    | some f => if xfmtDisagrees d.xfmt f then 13 else 0
    | none => 0

/-- R185: a tile-operation descriptor is checked and queued for stall `k`; its arm status. The queue has space. -/
def queueTileOp (s : State) (k : Nat) (bs : List Nat) : State × Nat :=
  let st := tileOpStatus s k bs
  if st ≠ 0 then (s, st)
  else
    let x := getStall s k
    let q : QOp := { id := x.nextId, d := parseTileOp bs }
    (putStall s k { x with nextId := x.nextId + 1, tq := x.tq ++ [q], toFetch := x.toFetch ++ [q] }, 0)

/-- R185: whether the queue of stall `k` is full. -/
def tqFull (s : State) (k : Nat) : Bool := decide (16 ≤ (getStall s k).tq.length)

/-- R185, R161: a write of SHU_TQ_ARM of stall `k`'s even shunter (DEDUCED: log entry 65). -/
def tqArmWrite (s : State) (k addr : Nat) : State :=
  let n := evenShu k
  let s := addF s Fld.SHU_TQ_STATUS_SEQ 1 n
  if tqFull s k then setF (setF s Fld.SHU_TQ_STATUS_FULL 1 n) Fld.SHU_TQ_STATUS_STATUS 0 n
  else
    let s := setF s Fld.SHU_TQ_STATUS_FULL 0 n
    let r :=
      if addr % 16 ≠ 0 then (s, 5)
      else if shuDie n ≠ addr / 0x10000000 ∨ reachable s addr = false then (s, 12)
      else
        let m := memRead s addr 16
        if m.failed then (m.s, 3) else queueTileOp m.s k m.bytes
    setF r.1 Fld.SHU_TQ_STATUS_STATUS r.2 n

/-! Channels: taking effect, binding, completion. -/

/-- R161: the arm status is written (DEDUCED: log entry 64). -/
def armResult (s : State) (n c st : Nat) : State :=
  addF (setF s Fld.SHU_CH_ARMST_STATUS st n c) Fld.SHU_CH_ARMST_SEQ 1 n c

/-- R172, R156: an armed descriptor binds its channel to the sidings and ports it names. -/
def bindDesc (s : State) (n c : Nat) (d : StreamDesc) : State :=
  let die := shuDie n
  let s := if d.srcKind = .siding then putSid s die d.ssid { getSid s die d.ssid with cons := some (chanNo n c) } else s
  let s := if d.dstKind = .siding then putSid s die d.dsid { getSid s die d.dsid with prod := some (chanNo n c) } else s
  let x := getChan s n c
  putChan s n c { x with
    bindW := x.bindW || d.dstKind == .weight, bindI := x.bindI || d.dstKind == .input, bindD := x.bindD || d.srcKind == .drain }

/-- R172: a channel that becomes IDLE, or is cleared, unbinds. A cleared one gives its slots back (R168). -/
def unbindChan (s : State) (n c : Nat) (clear : Bool) : State :=
  let me := chanNo n c
  let s := { s with sid := nmMap (fun _ => {}) (fun k x =>
    if k / 256 ≠ shuDie n then x
    else
      let x := if x.prod = some me then { x with prod := none, resv := if clear then 0 else x.resv } else x
      if x.cons = some me then { x with cons := none, held := if clear then [] else x.held } else x) s.sid }
  putChan s n c { getChan s n c with bindW := false, bindI := false, bindD := false }

/-- R163, R165: a descriptor becomes current. -/
def startDesc (s : State) (n c : Nat) (d : StreamDesc) : State :=
  let x := getChan s n c
  let s := putChan s n c
    { x with state := if d.waitEn then .wait else .active, run := some { d := d }, halting := 0, hcause := 0, waitOn := none, waitCnt := 0 }
  setF (setF s Fld.SHU_CH_DONE_POS 0 n c) Fld.SHU_CH_DESC_ADDR d.addr n c

/-- R161, R165: a descriptor that has passed its checks takes effect or is shadowed; its arm status. -/
def acceptDesc (s : State) (n c : Nat) (d : StreamDesc) : State × Nat :=
  let s := bindDesc s n c d
  let s := if d.reseed then putShu s n { getShu s n with gen := seedLoad (rdReg s (Reg.SHU_SEED.addr n 0 0)) } else s
  let x := getChan s n c
  if x.state = .idle then (startDesc s n c d, 0) else (putChan s n c { x with shadow := some d }, 1)

/-- R161, R162: the arm of the descriptor at `addr` ends with its status. -/
def armDesc (s : State) (n c addr : Nat) : State :=
  let pre := armPreStatus s n c addr
  if pre ≠ 0 then armResult s n c pre
  else
    let m := memRead s addr 128
    if m.failed || !streamRsvdOk m.bytes then armResult m.s n c 3
    else
      let d := parseStream addr m.bytes
      let st := streamStatus m.s n c d
      if st ≠ 0 then armResult m.s n c st
      else
        let r := acceptDesc m.s n c d
        armResult r.1 n c r.2

/-- R164, R165: the current descriptor completes. -/
def completeDesc (s : State) (n c : Nat) (d : StreamDesc) : State :=
  let s := if d.doneEn then sendSbx s (if d.doneRemote then d.doneDie else shuDie n) d.doneSbx d.doneInc else s
  let x := getChan s n c
  match x.shadow with
  | some d' => startDesc (putChan s n c { x with shadow := none }) n c d'
  | none => putChan (unbindChan s n c false) n c
      { getChan (unbindChan s n c false) n c with state := .idle, run := none, waitOn := none, waitCnt := 0 }

/-- R166: a channel is to halt with `cause` once its outstanding transfers are acknowledged; one that is already stopping keeps its first cause
(DEDUCED: log entry 63; DEDUCED: log entry 230). -/
def haltChan (s : State) (n c cause : Nat) : State :=
  let x := getChan s n c
  if x.halting = 0 then putChan s n c { x with halting := cause } else s

/-- R166, Table 6.13: a walk reaches a target that is offline or not populated. A channel already stopping does not halt for it
(DEDUCED: log entry 230). -/
def unreachTarget (s : State) (n c addr : Nat) (dst : Bool) : State :=
  if (getChan s n c).halting ≠ 0 then s
  else raiseEv (haltChan s n c 3) 0x4014 (shuUnit n) addr (packDetail [(0, c), (3, b01 dst)])

/-- Transfers a channel has outstanding. -/
def Chan.outstanding (x : Chan) : Nat := (x.run.map (fun r => r.xfers.length)).getD 0

/-- Transfers a shunter has outstanding. -/
def Shunter.outstanding (x : Shunter) : Nat := (x.chans.map (fun c => c.2.outstanding)).foldl (· + ·) 0

/-- R168: a write of SHU_CHn_CTRL. -/
def chanCtrlWrite (s : State) (n c : Nat) (clear drop : Bool) : State :=
  if !clear then s
  else
    let x := getChan s n c
    let k := shuStall n
    let st := getStall s k
    if (x.bindW || x.bindI || x.bindD) && !(st.state == .stopped && st.issue.isEmpty) then setF s Fld.SHU_ERR_CFG_REFUSED 1 n
    else putChan s n c { x with clearing := true, drop := drop }

/-- R180: an input-port stream is cleared: operations still queued fetch their vectors afresh. -/
def Stall.refetch (x : Stall) : Stall :=
  let queued := (x.entry ++ x.tq).filter (fun q =>
    x.fetches.any (fun f => f.id == q.id && !f.dead) || x.toFetch.any (fun y => y.id == q.id))
  { x with
    fetches := x.fetches.filter (fun f => !f.dead && !queued.any (fun q => q.id == f.id))
    toFetch := queued, inGrant := 0 }

/-- R168 steps 3 to 6: a clearing channel with nothing outstanding. -/
def clearChan (s : State) (n c : Nat) : State :=
  let x := getChan s n c
  let k := shuStall n
  let s := if x.bindW then putStall s k { getStall s k with weightVoid := false, voidHit := false } else s
  let s := if x.bindI then putStall s k { (getStall s k).refetch with inputVoid := false } else s
  let s := unbindChan s n c true
  let s := putChan s n c { getChan s n c with
    state := .idle, run := none, shadow := none, clearing := false, drop := false, halting := 0, hcause := 0, waitOn := none, waitCnt := 0 }
  match x.shadow, x.drop with
  | some d, false =>
    let pre := armPreStatus s n c d.addr
    let st := if pre ≠ 0 then pre else streamStatus s n c d
    if st ≠ 0 then armResult s n c st
    else
      let r := acceptDesc s n c d
      armResult r.1 n c r.2
  | _, _ => s

/-- R169, R189: a write of SHU_CTRL. -/
def shuCtrlWrite (s : State) (n : Nat) (start stop : Bool) : State :=
  let x := getShu s n
  if stop then (if x.state = .run then putShu s n { x with state := .stopping } else s)
  else if start && x.state == .stopped then
    putShu s n { x with
      state := .run
      tok := [0, 1, 2].foldl (fun m i =>
        nmPut (fun _ => 131072) m i ((getF s Fld.SHU_CLASS_DEPTH n i * 1024 : Nat) : Int)) x.tok }
  else s

/-- The code of SHU_STATUS.STATE. -/
def ShuntSt.code : ShuntSt → Nat
  | .run => 0
  | .stopping => 1
  | .stopped => 2

/-- R170: a write of SHU_CLASS1 to SHU_CLASS3 (`i` = 0 to 2). -/
def shuClassWrite (s : State) (n i v : Nat) : State :=
  let x := getShu s n
  if x.state = .stopped then wrReg s (Reg.SHU_CLASS.addr n i 0) (BitVec.ofNat 64 (v % 2 ^ 32))
  else raiseEv (setF s Fld.SHU_ERR_CFG_REFUSED 1 n) 0x4040 (shuUnit n) 0 (packDetail [(0, x.state.code)])

/-- R55: a write of SHU_SEED. -/
def shuSeedWrite (s : State) (n : Nat) (v : W64) : State :=
  let s := wrReg s (Reg.SHU_SEED.addr n 0 0) v
  putShu s n { getShu s n with gen := seedLoad v }

/-! What a channel can issue. -/

/-- A unit of a walk (an element, a block, or a trough row): its first byte and how many. -/
structure Loc where
  addr : Nat
  len : Nat
  deriving DecidableEq, Repr

/-- Walk positions of a source unit. -/
def srcUnit (d : StreamDesc) : Nat := if d.srcKind = .drain then 128 else unitPos d.sf

/-- R159, R173: where the source unit at position `p` lies; a trough row `r` stands at 512r. -/
def srcLoc (s : State) (n : Nat) (r : Run) (p : Nat) : Loc :=
  match r.d.srcKind with
  | .siding =>
    let e := getF s Fld.SID_ELEMS_ELEMS (shuDie n) r.d.ssid
    ⟨elemAddr r.d.sf (slotBase s (shuDie n) r.d.ssid (r.srcSeq + p / e)) (p % e), unitBytes r.d.sf⟩
  | .drain => ⟨(walkIdx r.d.src r.d.cnt p).toNat * 4, 512⟩
  | _ => ⟨elemAddr r.d.sf r.d.src.base (walkIdx r.d.src r.d.cnt p).toNat, unitBytes r.d.sf⟩

/-- The slot (0 for a memory walk), the scale line, its address and its expected FIRST_BLOCK, of a block of a side. -/
structure LineRef where
  slot : Nat
  line : Nat
  addr : Nat
  expect : Nat
  deriving DecidableEq, Repr

/-- R41, R173: the scale line of the block at walk position `p` of a side. `seq0`: the sequence number of its first slot. -/
def lineRef (s : State) (die : Nat) (k : SideKind) (sid : Nat) (f : Fmt) (sd : Side) (cnt : List Nat) (seq0 p : Nat) : LineRef :=
  match k with
  | .siding =>
    let e := getF s Fld.SID_ELEMS_ELEMS die sid
    let q := seq0 + p / e
    let j := p % e / 32 / 56
    ⟨p / e, j, slotBase s die sid q + slotDataBytes f e + 64 * j, (sd.ib0 + 56 * slotLines e * q + 56 * j) % 2 ^ 40⟩
  | _ =>
    let j := (walkIdx sd cnt p).toNat / 32 / 56
    ⟨0, j, sd.scale + 64 * j, (sd.ib0 + 56 * j) % 2 ^ 40⟩

/-- The source scale line of position `p`. -/
def srcLine (s : State) (n : Nat) (r : Run) (p : Nat) : LineRef :=
  lineRef s (shuDie n) r.d.srcKind r.d.ssid r.d.sf r.d.src r.d.cnt r.srcSeq p

/-- The elements per slot of a siding side; 0 for another. -/
def slotElems (s : State) (die : Nat) (k : SideKind) (sid : Nat) : Nat :=
  if k = .siding then getF s Fld.SID_ELEMS_ELEMS die sid else 0

/-- What a channel would issue. -/
inductive Next
  /-- nothing is ready: stopped, waiting for returns, or at its end -/
  | idle
  /-- R174: waiting for a siding, as its producer or its consumer -/
  | waitSid (sid : Nat) (asProd : Bool)
  /-- R179, R180: waiting for a port or the vector buffer -/
  | waitPort
  | lineWrite (w : LineWrite)
  | line (l : LineRef) (need : Nat)
  /-- `count` positions completed, the straddling first part of one more, bytes read, slots newly reserved on each side, lines used -/
  | data (count : Nat) (lead : Bool) (loc : Loc) (srcNew dstNew : Nat) (keys : List (Nat × Nat))
  | unreach (addr : Nat)
  deriving DecidableEq, Repr

/-- A data transfer being put together. -/
structure Scan where
  count : Nat := 0
  lead : Bool := false
  lo : Nat := 0
  hi : Nat := 0
  srcNew : Nat := 0
  dstNew : Nat := 0
  keys : List LineRef := []
  firstNeed : List Nat := []
  /-- why the walk stopped before its first position -/
  stop : Next := .idle

/-- Bytes `lo` to `hi − 1` join the transfer's read. -/
def Scan.cover (x : Scan) (lo hi : Nat) : Scan :=
  if x.lo = x.hi then { x with lo := lo, hi := hi } else { x with lo := min x.lo lo, hi := max x.hi hi }

/-- Whether position `p` may be issued into and from its slots, ports and limits; the slots it needs beyond those reserved.
(DEDUCED: log entry 68; DESIGN CHOICE: log entry 193). -/
def slotGate (s : State) (n : Nat) (r : Run) (p : Nat) (x : Scan) : Except Next (Nat × Nat) :=
  let die := shuDie n
  let se := slotElems s die r.d.srcKind r.d.ssid
  let de := slotElems s die r.d.dstKind r.d.dsid
  let sNeed := if se = 0 then 0 else p / se + 1 - r.srcSlots
  let dNeed := if de = 0 then 0 else (p + srcUnit r.d - 1) / de + 1 - r.dstSlots
  if de ≠ 0 ∧ sidFree s die r.d.dsid < dNeed then .error (.waitSid r.d.dsid true)
  else if se ≠ 0 ∧ (getSid s die r.d.ssid).fill - (getSid s die r.d.ssid).held.length < sNeed then .error (.waitSid r.d.ssid false)
  else if r.d.dstKind = .weight ∧ r.entered + 2 ≤ p / 16384 + (getStall s (shuStall n)).buffer.length then .error .waitPort
  else if r.d.dstKind = .input ∧ r.pos + (getStall s (shuStall n)).inGrant < p + srcUnit r.d then .error .waitPort
  else .ok (max x.srcNew sNeed, max x.dstNew dNeed)

/-- R157, R159: positions from `p` join the transfer of source window `w` while they lie in it and may issue. `half`: the first part
of the unit at `p` was read by the transfer before (DEDUCED: log entry 61). -/
def scanFrom (s : State) (n : Nat) (r : Run) (w : Nat) : Nat → Nat → Bool → Scan → Scan
  | 0, _, _, x => x
  | fuel + 1, p, half, x =>
    let stopped := match r.stopAt with
      | some q => decide (q ≤ p)
      | none => false
    if r.d.total ≤ p || stopped then x
    else
      let l := srcLoc s n r p
      let first := l.addr / 512
      let last := (l.addr + l.len - 1) / 512
      if (if half then last else first) ≠ w then x
      else
        match slotGate s n r p x with
        | .error e => if x.count = 0 ∧ x.lead = false then { x with stop := e } else x
        | .ok (sn, dn) =>
          let x := { x with srcNew := sn, dstNew := dn }
          if last = w then
            let x := x.cover (if half then max l.addr (512 * w) else l.addr) (l.addr + l.len)
            let x := { x with
              count := x.count + srcUnit r.d
              keys := if r.d.sf.isBlock && r.d.srcKind != .drain then x.keys ++ [srcLine s n r p] else x.keys
              firstNeed := x.firstNeed ++ [p] }
            scanFrom s n r w fuel (p + srcUnit r.d) false x
          else { x.cover l.addr (512 * (w + 1)) with lead := true }

/-- The first line of a transfer that has not been fetched for it or for the transfer before, and the position that needs it. -/
def firstMissing (have_ : List (Nat × Nat)) : List LineRef → List Nat → Option (LineRef × Nat)
  | l :: ls, p :: ps => if have_.contains (l.slot, l.line) then firstMissing have_ ls ps else some (l, p)
  | _, _ => none

/-- The slot sequence numbers a descriptor's first slots have, or will have when it reserves its first. -/
def seqFix (s : State) (n : Nat) (r : Run) : Run :=
  let die := shuDie n
  let r := if r.srcSlots = 0 ∧ r.d.srcKind = .siding then
      { r with srcSeq := (getSid s die r.d.ssid).headSeq + (getSid s die r.d.ssid).held.length } else r
  if r.dstSlots = 0 ∧ r.d.dstKind = .siding then
    { r with dstSeq := (getSid s die r.d.dsid).seq + (getSid s die r.d.dsid).resv } else r

/-- Whether a source read can be served: the trough of a stall always can. -/
def srcServed (s : State) (k : SideKind) (a : Nat) : Bool :=
  k == .drain || regionAt a == .control || reachable s a

/-- R159, R173: where the destination element at position `p` lies, or its block. -/
def dstAddr (s : State) (n : Nat) (r : Run) (p : Nat) : Nat :=
  match r.d.dstKind with
  | .siding =>
    let e := getF s Fld.SID_ELEMS_ELEMS (shuDie n) r.d.dsid
    elemAddr r.d.df (slotBase s (shuDie n) r.d.dsid (r.dstSeq + p / e)) (p % e)
  | _ => elemAddr r.d.df r.d.dst.base (walkIdx r.d.dst r.d.cnt p).toNat

/-- The units of positions `p`, `p + u`, … below `q`. -/
def unitStarts (u : Nat) : Nat → Nat → Nat → List Nat
  | 0, _, _ => []
  | fuel + 1, p, q => if q ≤ p then [] else p :: unitStarts u fuel (p + u) q

/-- Addresses that a transfer has still to reach when its read returns: of its source, and of its writes into a memory walk. -/
def Xfer.reaches (s : State) (n : Nat) (r : Run) (x : Xfer) : List Nat :=
  match x.kind with
  | .data p0 cnt _ =>
    (if r.d.srcKind = .drain then [] else [x.addr]) ++
      (if r.d.dstKind = .mem then (unitStarts (srcUnit r.d) cnt p0 (p0 + cnt)).map (dstAddr s n r) else [])
  | .line _ _ _ _ => [x.addr]
  | .lineWrite _ => []

/-- The control blocks (R8) of those addresses. -/
def Xfer.blocks (s : State) (n : Nat) (r : Run) (x : Xfer) : List Nat := ((x.reaches s n r).filter inControl).map (· / 0x1000000)

/-- R26: an access to one of the control blocks `bs` must wait: a transfer of the shunter issued before number `no` has one of its own to make
there. -/
def controlBusy (s : State) (n no : Nat) (bs : List Nat) : Bool :=
  !bs.isEmpty && (List.range 8).any (fun c =>
    match (getChan s n c).run with
    | none => false
    | some r => r.xfers.any (fun y => !y.returned && decide (y.no < no) && (y.blocks s n r).any bs.contains))

/-- Whether a scale line may be written now: its channel takes the request (Table 14.10), and no earlier access to its control block is
outstanding (R26). -/
def lineMayGo (s : State) (n : Nat) (a : Nat) : Bool :=
  accepts s a 1 && !controlBusy s n (getShu s n).nextNo (if inControl a then [a / 0x1000000] else [])

/-- What channel `c` of shunter `n` would issue now. -/
def chanNext (s : State) (n c : Nat) : Next :=
  let x := getChan s n c
  match x.run with
  | none => .idle
  | some r =>
    if x.state ≠ .active ∨ x.clearing ∨ 2 ≤ x.halting then .idle
    else
      match r.pendLW with
      | lw :: _ => if lineMayGo s n lw.addr then .lineWrite lw else .idle
      | [] =>
        if r.d.total ≤ r.pos then .idle
        else
          let r := seqFix s n r
          let l := srcLoc s n r r.pos
          let w := if r.half then (l.addr + l.len - 1) / 512 else l.addr / 512
          let sc := scanFrom s n r w (r.d.total - r.pos) r.pos r.half {}
          if sc.count = 0 ∧ sc.lead = false then sc.stop
          else
            match firstMissing r.issLines sc.keys sc.firstNeed with
            | some (l, p) => if srcServed s r.d.srcKind l.addr then .line l p else .unreach l.addr
            | none =>
              if srcServed s r.d.srcKind sc.lo then
                .data sc.count sc.lead ⟨sc.lo, sc.hi - sc.lo⟩ sc.srcNew sc.dstNew (sc.keys.map (fun l => (l.slot, l.line))).eraseDups
              else .unreach sc.lo

/-- R174: `k` further source slots are reserved by the consumer channel. -/
def reserveSrc (s : State) (n c : Nat) (r : Run) (k : Nat) : State × Run :=
  if k = 0 then (s, r)
  else
    let die := shuDie n
    let x := getSid s die r.d.ssid
    (putSid s die r.d.ssid { x with held := x.held ++ List.replicate k {}, cons := some (chanNo n c) },
     { r with srcSlots := r.srcSlots + k })

/-- R174: `k` further destination slots are reserved by the producer channel. -/
def reserveDst (s : State) (n : Nat) (r : Run) (k : Nat) : State × Run :=
  if k = 0 then (s, r)
  else
    let die := shuDie n
    let x := getSid s die r.d.dsid
    (putSid s die r.d.dsid { x with resv := x.resv + k }, { r with dstSlots := r.dstSlots + k })

/-- R189: tokens of a class of shunter `n` (`i` = class − 1), in 1/16 byte (DESIGN CHOICE: log entry 33). -/
def tokens (x : Shunter) (i : Nat) : Int := nmGet (fun _ => 131072) x.tok i

/-- R189: whether a class may issue. -/
def bucketPermits (s : State) (n cls : Nat) : Bool :=
  getF s Fld.SHU_CLASS_RATE n (cls - 1) == 0 || decide (0 < tokens (getShu s n) (cls - 1))

/-- R189: `m` M-cycles of tokens. -/
def addTokens (s : State) (n m : Nat) : State :=
  let x := getShu s n
  putShu s n { x with tok := [0, 1, 2].foldl (fun t i =>
    let depth : Int := ((getF s Fld.SHU_CLASS_DEPTH n i * 1024 : Nat) : Int)
    let v := min depth (tokens x i + ((getF s Fld.SHU_CLASS_RATE n i * m : Nat) : Int))
    if getF s Fld.SHU_CLASS_RATE n i = 0 then t else nmPut (fun _ => 131072) t i v) x.tok }

/-- R189: a transfer of a regulated class takes its source bytes. -/
def takeTokens (s : State) (n cls bytes : Nat) : State :=
  let x := getShu s n
  if getF s Fld.SHU_CLASS_RATE n (cls - 1) = 0 then s
  else putShu s n { x with tok := nmPut (fun _ => 131072) x.tok (cls - 1) (tokens x (cls - 1) - 16 * (bytes : Int)) }

/-- Whether a channel has a transfer ready (R190). -/
def Next.ready : Next → Bool
  | .lineWrite _ => true
  | .line _ _ => true
  | .data _ _ _ _ _ _ => true
  | _ => false

/-- R26, R186: the class a transfer travels in: its descriptor's, or C1 for a control-space access. -/
def Next.cls (d : StreamDesc) : Next → Nat
  | .lineWrite w => if inControl w.addr then 1 else d.cls
  | .line l _ => if inControl l.addr then 1 else d.cls
  | .data _ _ loc _ _ _ => if d.srcKind ≠ .drain ∧ inControl loc.addr then 1 else d.cls
  | _ => d.cls

/-- The class of the transfer a channel would issue. -/
def nextCls (s : State) (n c : Nat) : Nat := (((getChan s n c).run.map (fun r => (chanNext s n c).cls r.d))).getD 0

/-- R190: the channel that issues: the highest class first (C1 before C2 before C3), within a class round robin. -/
def pickChan (s : State) (n : Nat) : Option Nat :=
  [1, 2, 3].findSome? (fun cls =>
    let after := nmGet (fun _ => 7) (getShu s n).last (cls - 1) + 1
    if bucketPermits s n cls then
      ((List.range 8).map (fun i => (after + i) % 8)).find? (fun c =>
        nextCls s n c == cls && (chanNext s n c).ready)
    else none)

end Sys2Proof.Machine
end

