-- ==== Sys2Proof/Machine/PowerOps.lean ====
section
/-! DEFINITION. Shared operations of the power and thermal block (chapter 14): the budget, shed demand, bands, the rate test and the trips. -/
namespace Sys2Proof.Machine

def pwrUnit : Nat := unitOf 10 0
def thmUnit : Nat := unitOf 10 1
def senseUnit : Nat := unitOf 10 2

/-- One bit of a status field that holds a bit per die. -/
def setBitF (s : State) (f : Field) (d : Nat) (b : Bool) : State :=
  let v := getF s f
  setF s f (if b then v ||| 2 ^ d else if bitOf v d then v - 2 ^ d else v)

/-! The budget. -/

/-- A field in watts, which acts as its default outside 200 to 1,900 (Table 14.12). -/
def wattsOr (v dflt : Nat) : Nat := if 200 ≤ v ∧ v ≤ 1900 then v else dflt

/-- R377: the settings that a write reaches at the next frame boundary. -/
def heldSettings : List Nat :=
  [Reg.PWR_PBCFG, Reg.PWR_LIMIT, Reg.PWR_PBFIX, Reg.THM_ROR, Reg.THM_QUIET, Reg.THM_HOLDOFF, Reg.THM_DIETRIP, Reg.THM_RECMAX].map
    (fun d => d.addr 0 0 0)

/-- R377: a frame boundary: what was written to the settings is in force (DEDUCED: log entry 113). -/
def takeSettings (s : State) : State :=
  { s with pwr := { s.pwr with held := heldSettings.foldl (fun m a => nmPut regReset m a (rdReg s a)) s.pwr.held } }

/-- R361: the budget of the source in force, in 1/1024 W. -/
def sourceBudget (s : State) : Nat :=
  if 2 ≤ inForce s Fld.PWR_PBCFG_MODE then 1024 * wattsOr (inForce s Fld.PWR_PBFIX_W) 1900
  else if s.pwr.absent then 1024 * wattsOr (inForce s Fld.PWR_PBCFG_FALLBACK) 600
  else s.pwr.budget / 2 ^ 30

/-- R369: the limit that the coolant sensors put on the budget, in W. -/
def coolantLimit (s : State) : Nat :=
  if s.pwr.outlet = 1 then 600 else if s.pwr.inlet = 2 ∨ s.pwr.outlet = 2 then 1000 else 1900

/-- R360: the budget B in 1/1024 W, for an input of `vin` in 1/32 V. -/
def budgetOf (s : State) (vin : Nat) : Nat :=
  let b := min (min (sourceBudget s) (1024 * wattsOr (inForce s Fld.PWR_LIMIT_W) 1900)) (min (46 * 32 * vin) (1024 * coolantLimit s))
  max (1024 * 200) (min (1024 * 1900) b)

/-- R360, Table 14.12: a frame's settings, budget, input readings and energy (DEDUCED: log entry 113; DEDUCED: log entry 114). -/
def budgetUpdate (s : State) (vin iin : Nat) : State :=
  let s := setF (setF (takeSettings s) Fld.PWR_INPUT_VIN vin) Fld.PWR_INPUT_IIN iin
  let s := setF s Fld.RN_PBUDGET_BUDGET (lwOfRat (budgetOf s vin) 1024)
  let e := s.pwr.energyRem + vin * iin
  addF { s with pwr := { s.pwr with energyRem := e % 102400 } } Fld.PWR_ENERGY_MJ (e / 102400)

/-- The terms `n` on of the series of exp(-t / 10 ms), t in ns: the one just made, with its sign, and the sum. -/
def decayTerms (t : Nat) : Nat → Nat → Int → Int → Int
  | 0, _, _, sum => sum
  | k + 1, n, term, sum => decayTerms t k (n + 1) (-(term * t) / (10000000 * ((n : Int) + 1))) (sum + term)

/-- R361: exp(-t / 10 ms) in units of 2^-80, t in ns and at most 10 ms (DESIGN CHOICE: log entry 21). -/
def decay (t : Nat) : Nat := (decayTerms (min t 10000000) 28 0 (2 ^ 80) 0).toNat

/-- R361: what a first-order filter with a time constant of 10 ms yields when `new` has stood at its input for `t` ns; the last unit of 2^-40 W
is open (DESIGN CHOICE: log entry 21). -/
def filterBudget (old new t : Nat) : Nat :=
  min (max old new) ((old * decay t + new * (2 ^ 80 - decay t)) / 2 ^ 80 + Config.budgetFilter old new % 2)

/-- R361, Table 14.4: a sample at PBUDGET: what it decodes to in 2^-40 W, and for how many ns it stands at the filter, where it decodes; and
whether it counts toward absence. -/
def decodeSample (mode : Nat) : PbSample → Option (Nat × Nat) × Bool
  | .volts mv =>
    if mode = 0 then
      (some (2 ^ 40 * 200 + 1700 * 2 ^ 40 * (max 500 (min 10000 mv) - 500) / 9500, 1000), decide (mv < 250 ∨ 10500 < mv))
    else (none, true)
  | .pulse h t =>
    if mode = 1 ∧ t ≠ 0 then
      let high := max t (min (19 * t) (20 * h))
      (some (2 ^ 40 * 200 + 1700 * 2 ^ 40 * (high - t) / (18 * t), t), decide (h * 100 < 2 * t ∨ 98 * t < h * 100))
    else (none, true)
  | .noEdge => (none, true)

/-- R361: a sample at PBUDGET (DEDUCED: log entry 122). -/
def pbSample (s : State) (p : PbSample) : State :=
  let m := inForce s Fld.PWR_PBCFG_MODE
  if 2 ≤ m then s
  else
    let x := decodeSample m p
    let b := match x.1 with
      | some v => filterBudget s.pwr.budget v.1 v.2
      | none => s.pwr.budget
    { s with pwr := { s.pwr with budget := b, badSample := x.2 } }

/-! Shed demand. -/

/-- R365: the order in which stalls are parked. -/
def parkOrder : List Nat := [15, 11, 7, 3, 14, 10, 6, 2, 13, 9, 5, 1]

/-- R363, R365: the demand in force, forced floor included, in 1/256. -/
def demandInForce (s : State) : Nat := if s.pwr.forceUv || s.pwr.forceOc then max 768 s.pwr.u else s.pwr.u

/-- Table 14.5: pause, stalls parked, comb power in 1/128. -/
def pauseOf (u : Nat) : Nat := if u ≤ 256 then (ratRne (255 * u) 256).toNat else 255
def parkOf (u : Nat) : Nat := if u ≤ 256 then 0 else if u ≤ 512 then 12 * (u - 256) / 256 else 12
def prelOf (u : Nat) : Nat := if u ≤ 512 then 128 else ratioUnits (1024 - u) 4

/-- R363, R365: the demand in force is applied. Stalls to be unparked clear HOLD_THM later. -/
def applyDemand (s : State) : State :=
  let u := demandInForce s
  let s := setF (setF s Fld.PWR_DEMAND_U u) Fld.PWR_DEMAND_PAUSE (pauseOf u)
  let s := setF (setF s Fld.PWR_DEMAND_NPARK (parkOf u)) Fld.PWR_DEMAND_PREL (prelOf u)
  let new := (parkOrder.take (parkOf u)).filter (fun k => !s.pwr.parked.contains k)
  new.foldl (fun s k => holdThm s k .park) { s with pwr := { s.pwr with parked := s.pwr.parked ++ new } }

/-- R359: FORCE shows the cause of a forced demand (DEDUCED: log entry 115). -/
def showForce (s : State) : State :=
  setF s Fld.PWR_STATUS_FORCE (if s.pwr.forceUv then 1 else if s.pwr.forceOc then 2 else 0)

/-- R379: event 0x9007 for a row of Table 14.3. -/
def inputEvent (s : State) (set : Bool) (row vin iin : Nat) : State :=
  raiseEv s 0x9007 pwrUnit 0 (packDetail [(0, b01 set), (1, row), (4, vin), (16, iin)])

/-! Bands. -/

/-- Table 14.8: the band of a temperature in 1/16 °C. -/
def bandOf (t : Int) : Nat := if t < 640 then 0 else if t < 960 then 1 else if t < 1200 then 2 else if t < 1408 then 3 else 4

/-- Table 14.8: the lower edge of a band, in 1/16 °C. -/
def bandEdge (b : Nat) : Int := [(-100000 : Int), 640, 960, 1200].getD b 1408

/-- R371: the band after a reading: it rises at an edge, and falls 2 K below the lower edge of the band in force.
(DEDUCED: log entry 117). -/
def nextBand (old : Nat) (t : Int) : Nat :=
  let n := bandOf t
  if old < n then n else if t ≤ bandEdge old - 32 then n else old

/-- Table 7.3: tRCD and tRP in units of 0.0625 ns. -/
def hbmTrcd (b : Nat) : Nat := if b < 3 then 224 else if b = 3 then 240 else 256
def ddrTrcd (b : Nat) : Nat := if b < 3 then 260 else if b = 3 then 275 else 290

/-- R208: the band of compute die `d`. -/
def dieBand (s : State) (d : Nat) : Nat := bitsOf (getF s Fld.THM_STATUS_BAND) (3 * d) 3

/-- R208, R216: the band in force of a stack or channel, with its timing. -/
def applyTierBand (s : State) (u : Nat) : State :=
  let own := nmGet (fun _ => (0 : Nat)) s.tier.ownBand u
  if u < 8 then
    let b := max own (dieBand s (u / 2))
    let s := setF (setF s Fld.HBM_STATUS_BAND b u) Fld.HBM_STATUS_REF2X (b01 (decide (3 ≤ b))) u
    setF (setF s Fld.HBM_TIMING_TRCD (hbmTrcd b) u) Fld.HBM_TIMING_TRP (hbmTrcd b) u
  else
    let c := u - 8
    let s := setF (setF s Fld.DDR_STATUS_BAND own c) Fld.DDR_STATUS_REF2X (b01 (decide (3 ≤ own))) c
    setF (setF s Fld.DDR_TIMING_TRCD (ddrTrcd own) c) Fld.DDR_TIMING_TRP (ddrTrcd own) c

/-- R371: die `g` takes band `b`. A compute die's stacks follow, and ostler firmware calibrates its converters again (R301). -/
def setDieBand (s : State) (g b : Nat) : State :=
  let old := dieBand s g
  if old = b then s
  else
    let v := getF s Fld.THM_STATUS_BAND
    let s := setF s Fld.THM_STATUS_BAND (v - old * 2 ^ (3 * g) + b * 2 ^ (3 * g))
    let s := raiseEv s 0x9001 thmUnit 0 (packDetail [(0, g), (3, b), (6, old)])
    if g < 4 then calDie (applyTierBand (applyTierBand s (2 * g)) (2 * g + 1)) g else s

/-! Trips. -/

/-- The TRIP bit of die `d`. -/
def showTrip (s : State) (d : Nat) : State :=
  let x := getDie s d
  setBitF s Fld.THM_STATUS_TRIP d (x.rate != .none || x.dieTrip || !x.stackTrip.isEmpty)

/-- R376, R377: a die trip of die `d` stands, so its quiet period does not run. -/
def dieTripped (s : State) (d : Nat) : Bool := (getDie s d).dieTrip || !(getDie s d).stackTrip.isEmpty

/-- Every stall of a die takes HOLD_THM. -/
def holdDie (s : State) (d : Nat) (why : ThmWhy) : State :=
  (List.range 4).foldl (fun s i => holdThm s (4 * d + i) why) s

/-- R373, R377: die `d` fails the rate test, at sensor `k` with a rise in 1/16 K. -/
def rateFails (s : State) (d k : Nat) (rise : Int) : State :=
  let x := getDie s d
  match x.rate with
  | .none =>
    let any := x.dieTrip || !x.stackTrip.isEmpty
    let s := putDie s d { x with rate := .quiet, since := if any then x.since else s.time, overrun := false, passed := [], done := [] }
    let s := setWide (holdDie s d .rateTrip) (getF s Fld.LTE_WIDE_WIDE ||| 2 ^ d)
    let s := bumpF (showTrip s d) Fld.THM_TRIPS_COUNT 1
    raiseEv s 0x9002 thmUnit 0 (packDetail [(0, d), (2, k), (7, wrapTo 16 rise)])
  | .quiet => s
  | .checking =>
    let s := putDie s d { x with rate := .quiet, passed := [], done := [] }
    setWide (holdDie s d .rateTrip) (getF s Fld.LTE_WIDE_WIDE ||| 2 ^ d)

/-- R376: a die trip of compute die `d`, by its own sensors or by stack `stk` (8: none), at a temperature in 1/16 °C.
(DEDUCED: log entry 118). -/
def dieTrips (s : State) (d stk : Nat) (t : Int) : State :=
  let x := getDie s d
  let mine := if stk < 8 then x.stackTrip.contains stk else x.dieTrip
  if mine then s
  else
    let first := !x.dieTrip && x.stackTrip.isEmpty
    let sheds := (List.range 16).map (16 * d + ·)
    let shus := (List.range 24).map (24 * d + ·)
    let x := { x with
      dieTrip := x.dieTrip || decide (8 ≤ stk)
      stackTrip := if stk < 8 then x.stackTrip ++ [stk] else x.stackTrip
      since := if first && x.rate == .none then s.time else x.since
      sheds := x.sheds ++ sheds.filter (fun i => (getShed s i).state == .run && !x.sheds.contains i)
      shus := x.shus ++ shus.filter (fun i => (getShu s i).state == .run && !x.shus.contains i) }
    let s := holdDie (putDie s d x) d .dieTrip
    let s := sheds.foldl (fun s i => shdCtrlWrite s i false true false false) s
    let s := shus.foldl (fun s i => shuCtrlWrite s i false true) s
    let s := setBitF (bumpF (showTrip s d) Fld.THM_TRIPS_COUNT 1) Fld.THM_STATUS_QUIET d false
    raiseEv s 0x9005 thmUnit 0
      (packDetail [(0, d), (3, b01 (decide (stk < 8))), (4, if stk < 8 then stk else 0), (7, wrapTo 16 t)])

/-- R376: a cause of a die trip has ended; with the last one the stalls are released and ostler firmware starts the sheds and shunters. -/
def dieTripEnds (s : State) (d : Nat) : State :=
  let x := getDie s d
  if x.dieTrip || !x.stackTrip.isEmpty then s
  else
    let s := (List.range 4).foldl (fun s i => releaseThm s (4 * d + i) .dieTrip) (showTrip s d)
    let s := x.sheds.foldl (fun s i => shdCtrlWrite s i true false false false) s
    let s := x.shus.foldl (fun s i => shuCtrlWrite s i true false) s
    putDie s d { getDie s d with sheds := [], shus := [] }

/-- R374 step 2: the quiet period of die `d` ends: wide capture clears and the rings are checked. A stall whose ring is OFF or FAILED does not
wait. -/
def quietEnds (s : State) (d : Nat) : State :=
  let x := getDie s d
  if x.rate = .quiet ∧ x.dieTrip = false ∧ x.stackTrip = [] then
    let s := setBitF (putDie s d { x with rate := .checking, passed := [], done := [] }) Fld.THM_STATUS_QUIET d false
    let w := getF s Fld.LTE_WIDE_WIDE
    let s := setWide s (if bitOf w d then w - 2 ^ d else w)
    (List.range 4).foldl (fun s i =>
      if ringState s (4 * d + i) = ringFailed ∨ ringState s (4 * d + i) = ringOff then tripStallDone s (4 * d + i) else s) s
  else s

/-- R374 steps 5 and 6: the trip of die `d` ends, and its hold-off begins. -/
def tripEnds (s : State) (d : Nat) : State :=
  let x := getDie s d
  let held := (List.range 4).any (fun i => (getStall s (4 * d + i)).thm.contains .rateTrip)
  if x.rate = .checking ∧ held = false then
    let us := ((s.time - x.since).toNat / 1000) % 2 ^ 32
    let s := showTrip (putDie s d { x with rate := .none }) d
    raiseEv (setBitF s Fld.THM_STATUS_HOLDOFF d true) 0x9003 thmUnit 0 (packDetail [(0, d), (2, us)])
  else s

/-! Sensors. -/

/-- Table 14.6: the sensors of a die. -/
def sensorCount (g : Nat) : Nat := if g < 4 then 32 else if g = 4 then 8 else 12

/-- The largest of a list of temperatures. -/
def maxTemp : List Int → Int
  | [] => 0
  | [a] => a
  | a :: t => max a (maxTemp t)

/-- R372: the rises of a die's sensors over the window, if there is a reading that old. -/
def rises (hist : List (List Int)) (win : Nat) : List Int :=
  match hist.head?, hist[win]? with
  | some a, some b => (List.zip a b).map (fun x => x.1 - x.2)
  | _, _ => []

/-- R349: a temperature reading of the die of an attempt. Abandoned as it moved, the attempt waits until the die keeps within 0.5 K (DEDUCED: log
entry 214); between steps 4 and 8 a move by more than `rein` abandons it (DEDUCED: log entry 214). -/
def FarWork.drift (w : FarWork) (rein : Nat) (t : Int) (now : W64) (step : Nat) : FarWork :=
  match w.calm, w.tr with
  | some c, _ => if 8 ≤ (t - c.1).natAbs then { w with calm := some (t, now) } else w
  | none, some tr =>
    if w.abandoned = false ∧ 4 ≤ step ∧ step ≤ 8 ∧ rein < (t - tr).natAbs then { w with abandoned := true, calm := some (t, now) } else w
  | none, none => w

/-- R341: a die's stalls are queued by its temperature; R349: an attempt on a die that has drifted is abandoned. -/
def farrierTemp (s : State) (g : Nat) (t : Int) : State :=
  let trig := let v := getF s Fld.FAR_TRIG_RUN; if v < 16 then 48 else v
  let rein := let v := getF s Fld.FAR_TRIG_REINT; if v = 0 then 16 else v
  let s := (List.range 4).foldl (fun s i =>
    let k := 4 * g + i
    if getF s Fld.FAR_STALL_STATUS_CAL k = 0 then s
    else if trig ≤ (t - sext 16 (getF s Fld.FAR_STALL_TEMP_TRUN k)).natAbs then queueRun s k false true
    else if rein ≤ (t - sext 16 (getF s Fld.FAR_STALL_TEMP_TWRITE k)).natAbs then queueReint s k
    else s) s
  match s.far.work with
  | some w =>
    if stallDie w.stall = g ∧ w.owns ∧ w.reint = false then
      let v := w.drift rein t s.time (farStep s)
      let s := if v.abandoned && !w.abandoned then restoreNodes s w.stall else s
      { s with far := { s.far with work := some v } }
    else s
  | none => s

/-- R341: port lanes are queued by the temperature of the I/O die. -/
def farrierLaneTemp (s : State) (t : Int) : State :=
  let trig := let v := getF s Fld.FAR_TRIG_RUN; if v < 16 then 48 else v
  (List.range 8).foldl (fun s p =>
    (List.range 32).foldl (fun s j =>
      if bitOf (getF s Fld.FAR_PORT_VALID_LANES p) j ∧ trig ≤ (t - nmGet (fun _ => 0) (getFarPort s p).temp j).natAbs then queueLane s p j
      else s) s) s

/-- R376: the die-trip temperature, in 1/16 °C. -/
def dieTripAt (s : State) : Int :=
  let c := inForce s Fld.THM_DIETRIP_C
  if 85 ≤ c ∧ c ≤ 105 then 16 * (c : Int) else 1680

/-- The sensor with the largest rise (DEDUCED: log entry 116). -/
def topRise : Nat → List Int → Nat × Int
  | k, [] => (k, 0)
  | k, [a] => (k, a)
  | k, a :: t =>
    let x := topRise (k + 1) t
    if a < x.2 then x else (k, a)

/-- R368, R371, R372, R373, R376, R341: a frame's readings of die `g`, in 1/16 °C. -/
def sensorReading (s : State) (g : Nat) (rd : List Int) : State :=
  let rd := (List.range (sensorCount g)).map (fun k => rd.getD k 0)
  let t := maxTemp rd
  let win := let v := inForce s Fld.THM_ROR_WIN; if v < 4 then 12 else v
  let rate := let v := inForce s Fld.THM_ROR_RATE; if v < 16 then 64 else v
  let hist := (rd :: nmGet (fun _ => ([] : List (List Int))) s.pwr.hist g).take 16
  let s := { s with pwr := { s.pwr with hist := nmPut (fun _ => []) s.pwr.hist g hist } }
  let s := (List.zip (List.range (sensorCount g)) rd).foldl (fun s x => setF s Fld.THM_SENSE_T (wrapTo 16 x.2) 0 g x.1) s
  let rs := rises hist win
  let top := topRise 0 rs
  let s := setF (setF s Fld.THM_DIE_T (wrapTo 16 t) 0 g) Fld.THM_DIE_RISE (wrapTo 16 top.2) 0 g
  let s := setDieBand s g (nextBand (dieBand s g) t)
  if rd.any (fun v => decide (1840 ≤ v)) then packageTrip s 5
  else if 4 ≤ g ∧ 1680 ≤ t then packageTrip s 7
  else if g < 4 then
    let s := farrierTemp s g t
    let fails := decide ((rate * win : Nat) < top.2 * 50)
    let s := if fails then rateFails s g top.1 top.2 else s
    let s := setBitF s Fld.THM_STATUS_QUIET g ((getDie s g).rate == .quiet && !fails && !dieTripped s g)
    if dieTripAt s ≤ t then dieTrips s g 8 t else s
  else if g = 5 then farrierLaneTemp s t
  else s

/-- R369: the state of a coolant sensor. -/
def coolantState (limit : Int) : Option Int → Nat
  | none => 2
  | some t => if limit ≤ t then 1 else 0

/-- R379: event 0x900A when a coolant sensor leaves its limits. -/
def coolantEvent (s : State) (n was now : Nat) (t : Option Int) : State :=
  if now ≠ 0 ∧ now ≠ was then
    raiseEv s 0x900A pwrUnit 0
      (packDetail [(0, n), (1, b01 (now == 2)), (2, match t with | some v => wrapTo 16 v | none => 0x8000)])
  else s

/-- R369: the power stage's readings of TSNS0 to TSNS3, THRM0 and THRM1, in 1/16 °C; none: open or short. -/
def contactReading (s : State) (rd : List (Option Int)) : State :=
  let v := fun (n : Nat) => rd.getD n none
  let s := (List.range 6).foldl (fun s n =>
    setF s Fld.THM_REMOTE_T (match v n with | some t => wrapTo 16 t | none => 0x8000) 0 n) s
  let hot := fun (n : Nat) (limit : Int) => match v n with
    | some t => decide (limit ≤ t)
    | none => true
  let i0 := coolantState 720 (v 4)
  let i1 := coolantState 1040 (v 5)
  let s := coolantEvent (coolantEvent s 0 s.pwr.inlet i0 (v 4)) 1 s.pwr.outlet i1 (v 5)
  let s := { s with pwr := { s.pwr with inlet := i0, outlet := i1 } }
  let s := if hot 0 1120 then combFails s 0 3 else s
  let s := if hot 1 1120 then combFails s 1 3 else s
  if hot 2 2000 then packageTrip s 4 else s

/-- R208, R376: the controller's reading of a stack (its one sensor) or of a channel's modules; TEMP is two's complement below 0 °C
(DESIGN CHOICE: log entry 205). After a failed reading the band falls from B4 (DEDUCED: log entry 240). -/
def memTempRead (s : State) (u : Nat) (rd : List MemTemp) : State :=
  let temps := rd.filterMap (·.temp)
  let top := maxTemp temps
  let old := nmGet (fun _ => (0 : Nat)) s.tier.ownBand u
  let unread := rd.any (fun m => m.temp.isNone)
  let b := if unread then 4 else if temps = [] then old else nextBand old (16 * top)
  let s := { s with tier := { s.tier with
    ownBand := nmPut (fun _ => 0) s.tier.ownBand u b
    temp := if temps = [] then s.tier.temp else nmPut (fun _ => 0) s.tier.temp u top } }
  let s := applyTierBand s u
  if u < 8 then
    let s := if temps = [] then s else setF s Fld.HBM_STATUS_TEMP (wrapTo 8 top) u
    if temps ≠ [] ∧ 100 ≤ top then dieTrips s (u / 2) u (16 * top) else s
  else
    let c := u - 8
    let s := if temps = [] then s else setF s Fld.DDR_STATUS_TEMP (wrapTo 8 top) c
    let ovr := (List.zip (List.range 2) rd).find? (fun x => match x.2.temp with
      | some t => decide (x.2.limit < t)
      | none => false)
    let cool := rd.all (fun m => match m.temp with
      | some t => decide (t ≤ m.limit - 5)
      | none => false)
    match ovr with
    | some (k, m) =>
      if s.tier.overLimit.contains c then s
      else
        let s := { s with tier := { s.tier with overLimit := s.tier.overLimit ++ [c] } }
        raiseEv s 0x900C pwrUnit 0 (packDetail [(0, c), (4, k), (5, wrapTo 16 (16 * (m.temp.getD 0)))])
    | none => if cool then { s with tier := { s.tier with overLimit := s.tier.overLimit.filter (· != c) } } else s

/-- R362: the code of a PDEMAND output for a power in W. -/
def pdemandCode (p : Nat) : Nat := min 4095 (ratRne (16384 * (p : Int)) 10000).toNat

end Sys2Proof.Machine
end

