-- ==== Sys2Proof/Machine/HostOps.lean ====
section
/-! DEFINITION. The host port and the mailboxes (chapter 16): the porch, the event rings, and the commands of Table 16.9. What writes
registers or fetches for a host stands in HostBus.lean. -/
namespace Sys2Proof.Machine

/-- R445: the UNIT of a channel's events. -/
def hptUnit (c : Nat) : Nat := unitOf 12 c

/-! R421: Table 16.3. -/
def doorBase : Nat := 0x1000
def submitBase : Nat := 0x10000
def completeBase : Nat := 0x90000
def eventBase : Nat := 0xB0000
def dataBase : Nat := 0x100000
def apertureBase : Nat := 0x1F00000

/-- R433: whether `n` bytes at a porch offset lie in the data area, 64-byte aligned (DEDUCED: log entry 156). -/
def inData (off n : Nat) : Bool := off % 64 == 0 && decide (dataBase ≤ off) && decide (off + n ≤ apertureBase)

/-- Bytes of the porch outside the doorbell page, as stored. -/
def porchRaw (x : HChan) (off n : Nat) : List Nat := (List.range n).map (fun i => (nmGet (fun _ => (0 : Byte)) x.porch (off + i)).toNat)

/-- Bytes are stored in the porch. -/
def porchPut (x : HChan) (off : Nat) (bs : List Nat) : HChan :=
  { x with porch := (List.zip (List.range bs.length) bs).foldl (fun m b => nmPut (fun _ => (0 : Byte)) m (off + b.1) (BitVec.ofNat 8 b.2)) x.porch }

def MbSt.code : MbSt → Nat
  | .booting => 0
  | .ready => 1
  | .restarting => 2
  | .halted => 3

/-- R423, Table 16.4: the word at an offset of the doorbell page. -/
def doorWord (x : HChan) (w : Nat) : Nat :=
  match w with
  | 0x00 => x.sqTail
  | 0x04 => x.cqHead
  | 0x08 => x.attnCfg
  | 0x0C => b01 x.mbReset + 2 * b01 x.mbAck
  | 0x10 => x.evtHead
  | 0x20 => x.winLow
  | 0x24 => x.winBase / 2 ^ 32
  | 0x28 => b01 x.winEn
  | 0x30 => x.rdLow
  | 0x34 => x.rdAddr / 2 ^ 32
  | 0x38 => x.rdLen
  | 0x3C => x.rdDest
  | 0x80 => x.sqHead
  | 0x84 => x.cqTail
  | 0x88 => packDetail [(0, x.state.code), (2, b01 x.notice), (8, x.restarts)]
  | 0x8C => x.evtTail
  | 0x90 => x.evtLost
  | 0x94 => packDetail [(0, if x.rdBusy then 1 else if x.rdDone then 2 else 0), (2, x.rdResult), (8, x.rdSeq), (16, x.rdBadLines)]
  | 0x98 => x.rdBad % 2 ^ 32
  | 0x9C => x.rdBad / 2 ^ 32
  | 0xA0 => x.winDrop
  | _ => 0

/-- R420: the offset of column unit `col` of row `row`, bank `b` (DEDUCED: log entry 138; DEDUCED: log entry 142). -/
def porchOffset (row b col : Nat) : Nat := (row % 1024 * 16 + b) * 2048 + col * 32

/-- R420: the bank number of a column access. -/
def porchBank (s : State) (c bg ba : Nat) : Nat := if getF s Fld.HPT_STATUS_BANKMODE c = 0 then 4 * bg + ba % 4 else ba

/-- R421, R422: a byte of the porch as the host reads it; `draw` numbers a byte of the aperture, which is write only.
(DESIGN CHOICE: log entry 26). -/
def porchByte (x : HChan) (draw off : Nat) : Nat :=
  if doorBase ≤ off ∧ off < doorBase + 0x100 then doorWord x ((off - doorBase) / 4 * 4) / 256 ^ (off % 4) % 256
  else if off < 0x1000 ∨ (submitBase ≤ off ∧ off < 0xC0000) ∨ (dataBase ≤ off ∧ off < apertureBase) then
    (nmGet (fun _ => (0 : Byte)) x.porch off).toNat
  else if apertureBase ≤ off then (if x.apWritten then (Config.apertureRead off draw).toNat else 0)
  else 0

/-- R421: whether the host writes a byte of the porch that is held as it is written. -/
def hostOwns (off : Nat) : Bool :=
  (decide (submitBase ≤ off) && decide (off < completeBase)) || (decide (dataBase ≤ off) && decide (off < apertureBase))

/-! R416 to R419: the LPDDR5X side. -/

def hostAbsent : Nat := 0
def hostTraining : Nat := 1
def hostActive : Nat := 2
def hostSelfRefresh : Nat := 3
def hostPowerDown : Nat := 4

def hostState (s : State) (c : Nat) : Nat := getF s Fld.HPT_STATUS_STATE c

/-- A channel changes its state, with event 0xB001. -/
def setHostState (s : State) (c v : Nat) : State :=
  raiseEv (setF s Fld.HPT_STATUS_STATE v c) 0xB001 (hptUnit c) 0 (packDetail [(0, c), (2, v), (5, getF s Fld.HPT_STATUS_RATE c)])

/-- R417, Table 16.2: what a mode register reads (DESIGN CHOICE: log entry 24). -/
def modeRead (x : HChan) (n : Nat) : Nat :=
  match n with
  | 4 => (Config.mrStandard 4).toNat % 128
  | 5 => 0
  | 6 => 1
  | 7 => 0
  | 8 => (Config.mrStandard 8).toNat
  | _ =>
    match nmGet (fun _ => 0) x.mr n with
    | 0 => (Config.mrStandard n &&& ~~~Config.mrUnsupported n).toNat
    | v + 1 => v

/-! Mailboxes. -/

/-- MB_STATE.STATE changes, and NOTICE sets. -/
def setMb (s : State) (c : Nat) (st : MbSt) : State := putHost s c { getHost s c with state := st, notice := true }

/-- R427: a protocol error halts a mailbox; `which` 0 SQ_TAIL, 1 CQ_HEAD, written `v` (DEDUCED: log entry 144). -/
def haltMailbox (s : State) (c which v : Nat) : State :=
  let st := (getHost s c).state
  if st = .ready ∨ st = .restarting then
    raiseEv (setF (setMb s c .halted) Fld.HPT_ERR_PROTO 1 c) 0xB002 (hptUnit c) 0 (packDetail [(0, c), (2, which), (3, v)])
  else s

/-- R425, R427: a write of SQ_TAIL. -/
def sqTailWrite (s : State) (c v : Nat) : State :=
  let x := getHost s c
  let s := putHost s c { x with sqTail := v }
  if (v + 4096 - x.sqHead) % 4096 < (x.sqTail + 4096 - x.sqHead) % 4096 then haltMailbox s c 0 v else s

/-- R427: a write of CQ_HEAD. -/
def cqHeadWrite (s : State) (c v : Nat) : State :=
  let x := getHost s c
  let s := putHost s c { x with cqHead := v }
  if (x.cqTail + 4096 - x.cqHead) % 4096 < (v + 4096 - x.cqHead) % 4096 then haltMailbox s c 1 v else s

/-- A batch is cancelled (R435). -/
def cancelBatches (s : State) (f : Batch → Bool) : State :=
  { s with serve := { s.serve with batches := s.serve.batches.map (fun b => if f b then { b with cancelled := true } else b) } }

/-- R444: the pieces whose commands have been cancelled are given up. -/
def dropPieces (s : State) (c : Nat) : State :=
  { s with loft := { s.loft with staged := s.loft.staged.map (fun x =>
      match x.waiter with
      | some w => if w.1 = c then { x with waiter := none, got := x.got.dropLast } else x
      | none => x) } }

/-- R428: a mailbox reset. A SWITCH that has been taken stands, and takes effect in its turn. -/
def mailboxReset (s : State) (c : Nat) : State :=
  let x := getHost s c
  let switching := x.cmds.filter (fun k => k.op == 0x0305 && k.ended.isNone)
  let n := (x.cmds.filter (fun k => k.ended.isNone)).length - switching.length
  let s := dropPieces (cancelBatches s (fun b => b.chan == c)) c
  let s := { s with tack := { s.tack with signs := s.tack.signs.filter (fun r => r.chan != c) } }
  let s := putHost s c { x with
    cmds := switching.map (fun k => { k with silent := true }), sqTail := 0, sqHead := 0, cqHead := 0, cqTail := 0, oddLap := false, state := .ready, notice := true, mbReset := false }
  raiseEv s 0xB005 (hptUnit c) 0 (packDetail [(0, c), (2, n)])

/-- R428: a write of MB_CTRL.RESET: performed by ostler firmware, which otherwise finds it when the mailbox opens. -/
def mbResetWrite (s : State) (c : Nat) : State :=
  let x := getHost s c
  if firmwareRuns s && (x.state == .ready || x.state == .halted) then mailboxReset s c
  else putHost s c { x with mbReset := true }

/-- A mailbox opens: STATE becomes READY, and a reset asked for meanwhile is performed. -/
def openMailbox (s : State) (c : Nat) : State :=
  let s := setMb s c .ready
  if (getHost s c).mbReset then mailboxReset s c else s

/-- Table 16.9: the PARAM fields of a command: first byte and number of bytes; none where the opcode is not in the table. -/
def cmdFields : Nat → Option (List (Nat × Nat))
  | 0x0001 => some []
  | 0x0002 => some []
  | 0x0003 => some [(16, 48), (64, 4)]
  | 0x0101 => some [(16, 4), (20, 4), (24, 1), (25, 1), (26, 1)]
  | 0x0102 => some [(16, 4)]
  | 0x0103 => some [(16, 4)]
  | 0x0201 => some [(16, 4), (20, 2), (24, 4)]
  | 0x0202 => some [(16, 4)]
  | 0x0301 => some [(16, 1), (20, 4), (24, 4)]
  | 0x0302 => some [(16, 4), (20, 4), (24, 4), (28, 4), (32, 1)]
  | 0x0303 => some []
  | 0x0304 => some [(16, 1)]
  | 0x0305 => some [(16, 1)]
  | 0x0306 => some [(16, 1), (20, 4)]
  | 0x0401 => some [(16, 2), (18, 1), (32, 32)]
  | 0x0402 => some []
  | 0x0501 => some [(16, 1), (17, 1), (18, 2), (20, 2), (22, 2)]
  | 0x0502 => some [(16, 8), (24, 8)]
  | 0x0503 => some [(16, 1)]
  | 0x0601 => some [(16, 1), (18, 2), (20, 1), (22, 2)]
  | 0x0602 => some [(16, 1), (18, 2), (20, 1)]
  | 0x0603 => some [(16, 8), (24, 8), (32, 1)]
  | 0x0604 => some [(16, 8), (24, 1)]
  | 0x0701 => some [(16, 8), (24, 1), (25, 1), (28, 4)]
  | 0x0801 => some [(16, 2)]
  | _ => none

/-- R433: every byte of an entry that Tables 16.5 and 16.9 do not name is 0. -/
def reservedOk (k : SubCmd) : Bool :=
  let named := [(0, 2), (4, 4)] ++ (cmdFields k.op).getD []
  (List.range 128).all (fun b => named.any (fun f => decide (f.1 ≤ b) && decide (b < f.1 + f.2)) || k.field b 1 == 0)

/-- The submission entry at SQ_HEAD. -/
def nextEntry (x : HChan) : Nat := ofBytes (porchRaw x (submitBase + 128 * x.sqHead) 128)

/-- R434: batches admitted, and BATCH commands taken and not yet started. -/
def batchLoad (s : State) : Nat :=
  s.serve.batches.length + ([0, 1, 2, 3].foldl (fun n c =>
    n + ((getHost s c).cmds.filter (fun k => k.op == 0x0201 && !k.started && k.ended.isNone)).length) 0)

/-- R425, R427: whether ostler firmware may take the next entry of a mailbox. -/
def mayTake (s : State) (c : Nat) : Bool :=
  let x := getHost s c
  firmwareRuns s && x.state == .ready && x.sqHead != x.sqTail
    && decide (x.cmds.length + (x.cqTail + 4096 - x.cqHead) % 4096 < 4095)
    && !(nextEntry x % 65536 == 0x0201 && decide (64 ≤ batchLoad s))

/-- R425, R426: the next entry is taken. An opcode outside Table 16.9 ends at once. -/
def takeEntry (s : State) (c : Nat) : State :=
  let x := getHost s c
  let e := nextEntry x
  let k : SubCmd := { id := x.nextCmd, op := e % 65536, cid := bitsOf e 32 32, entry := e, order := s.serve.taken }
  let s := { s with serve := { s.serve with taken := s.serve.taken + 1 } }
  let s := putHost s c { x with sqHead := (x.sqHead + 1) % 4096, cmds := x.cmds ++ [k], nextCmd := x.nextCmd + 1 }
  if (cmdFields k.op).isNone then finishCmd s c k.id 0x0002 0 else s

/-- R426: commands start in the order in which they are taken. -/
def frontCmd (x : HChan) : Option SubCmd := x.cmds.find? (fun k => !k.started && k.ended.isNone)

/-- R444: SWITCH commands of different mailboxes take effect in the order in which they were taken. -/
def switchTurn (s : State) (c : Nat) : Bool :=
  (frontCmd (getHost s c)).all (fun k => [0, 1, 2, 3].all (fun d =>
    (getHost s d).cmds.all (fun j => !(j.op == 0x0305 && j.ended.isNone && decide (j.order < k.order)))))

/-- HPT_WRBYTES: the host writes a word of the doorbell page. -/
def wordWritten (s : State) (c : Nat) : State := addF s Fld.HPT_WRBYTES_COUNT 4 c

/-- R475: the commands that work under service level NONE. -/
def worksUnderNone (op : Nat) : Bool := [0x0001, 0x0002, 0x0003, 0x0603, 0x0604].contains op

/-- The next command of a channel starts, where its opcode is `op`. -/
def runCmd (s : State) (c op : Nat) (body : State → SubCmd → State) : State :=
  if !firmwareRuns s then s
  else
    match frontCmd (getHost s c) with
    | none => s
    | some k =>
      if k.op ≠ op then s
      else
        let x := getHost s c
        let s := putHost s c { x with cmds := x.cmds.map (fun j => if j.id = k.id then { j with started := true } else j) }
        if getF s Fld.EVT_SVC_LEVEL = 5 ∧ worksUnderNone op = false then finishCmd s c k.id 0x0005 0
        else if !reservedOk k then finishCmd s c k.id 0x0003 0
        else body s k

/-- The commands of a channel that have started and not ended, of one opcode. -/
def waitingCmds (s : State) (c op : Nat) : List SubCmd :=
  (getHost s c).cmds.filter (fun k => k.started && k.ended.isNone && k.op == op)

/-- R424, R426, R427: the oldest ended command's completion entry is written, or discarded by a halted mailbox. -/
def writeCompletion (s : State) (c : Nat) : State :=
  let x := getHost s c
  match x.cmds.find? (fun k => k.ended.isSome) with
  | none => s
  | some k =>
    let y := { x with cmds := x.cmds.filter (fun j => j.id != k.id) }
    if x.state = .halted ∨ k.silent then putHost s c y
    else
      let r := k.ended.getD (0, 0)
      let bs := toBytes 4 k.cid ++ toBytes 2 r.1 ++ [b01 (!x.oddLap), 0] ++ toBytes 2 x.sqHead ++ List.replicate 6 0 ++ toBytes 16 r.2
      let y := porchPut y (completeBase + 32 * x.cqTail) bs
      let y := { y with cqTail := (x.cqTail + 1) % 4096, oddLap := if x.cqTail = 4095 then !x.oddLap else x.oddLap }
      addF (putHost s c y) Fld.HPT_CMDS_COUNT 1 c

/-! R440: the event rings. -/

/-- Table 0.6: an event record's bytes. -/
def EventRec.bytes (r : EventRec) (loss : Bool) : List Nat :=
  toBytes 8 r.time.toNat ++ toBytes 2 r.code ++ toBytes 2 r.unit ++ toBytes 4 (b01 r.nested + 2 * b01 (r.afterLoss || loss))
    ++ toBytes 8 r.addr ++ toBytes 8 r.detail

/-- R440: a record is copied into one channel's ring, or dropped. -/
def ringCopy (r : EventRec) (s : State) (c : Nat) : State :=
  let x := getHost s c
  if !(bitOf x.attnCfg 2 && bitOf s.evtFilter (r.code / 4096)) then s
  else if (x.evtTail + 1) % 2048 = x.evtHead then
    let n := x.evtEpisode + 1
    let due := x.evtAt.all (fun t => decide (1000000000 ≤ (s.time - t).toNat))
    let y := { x with evtLost := min 0xFFFFFFFF (x.evtLost + 1), evtAfterLoss := true, evtEpisode := if due then 0 else n
                      evtAt := if due then some s.time else x.evtAt }
    let s := setF (putHost s c y) Fld.HPT_ERR_EVTLOST 1 c
    if due then raiseEv s 0xB006 (hptUnit c) 0 (packDetail [(0, c), (2, min n 0xFFFFFFFF)]) else s
  else
    let y := porchPut x (eventBase + 32 * x.evtTail) (r.bytes x.evtAfterLoss)
    putHost s c { y with evtTail := (x.evtTail + 1) % 2048, evtAfterLoss := false }

/-- R478: the head record leaves the queue; the end of a loss is reported (DEDUCED: log entry 157). -/
def popQueue (s : State) : State :=
  let q := s.ev.queue.tail
  if 0 < s.ev.episode ∧ q.length ≤ 128 then
    raiseEv { s with ev := { s.ev with queue := q, episode := 0 } } 0xD007 (unitOf 14 0) 0 (min s.ev.episode 0xFFFFFFFF)
  else { s with ev := { s.ev with queue := q } }

/-- R478, R440: ostler firmware takes the head record. -/
def takeEvent (s : State) : State :=
  match s.ev.queue with
  | [] => s
  | r :: _ => [0, 1, 2, 3].foldl (ringCopy r) (popQueue s)

/-- R478: a record reaches the queue (DEDUCED: log entry 145). -/
def enterEvent (s : State) (r : EventRec) : State :=
  if 256 ≤ s.ev.queue.length then
    bumpF { s with ev := { s.ev with episode := s.ev.episode + 1, afterLoss := true } } Fld.EVT_LOST_COUNT 1
  else { s with ev := { s.ev with queue := s.ev.queue ++ [{ r with afterLoss := s.ev.afterLoss }], afterLoss := false } }

/-! The identity page (R430, R454). -/

/-- Table 16.7: the identity record. -/
def identityRecord (s : State) : List Nat :=
  let fw := match s.tack.runOsf with
    | some i => [i.hdr.getD 12 0, i.hdr.getD 13 0, i.hdr.getD 14 0]
    | none => [0, 0, 0]
  let chans := [0, 1, 2, 3].foldl (fun m c => m + b01 (decide (2 ≤ hostState s c)) * 2 ^ c) 0
  [0x59, 0x4C, 0x56, 0x53, 0x58, 0x52, 0x31, 0x36] ++ toBytes 2 1640 ++ [0xA1] ++ fw ++ [chans, 0] ++ toBytes 48 (deviceId s)
    ++ toBytes 8 (rdReg s (Reg.DDR_TOP.addr 0 0 0)).toNat

/-- R430: the identity page of every channel is written. -/
def writeIdentity (s : State) : State :=
  let r := padNat 4096 (identityRecord s)
  [0, 1, 2, 3].foldl (fun s c => putHost s c (porchPut (getHost s c) 0 r)) s

/-! Sessions and batches (R434, R435). -/

def findSession (s : State) (id : Nat) : Option Session := s.serve.sessions.find? (fun x => x.id == id)

def putSession (s : State) (x : Session) : State :=
  { s with serve := { s.serve with sessions := s.serve.sessions.map (fun y => if y.id = x.id then x else y) } }

/-- R434: bytes that open sessions hold of a tier. -/
def sessionBytes (s : State) (tier : Nat) : Nat :=
  s.serve.sessions.foldl (fun n x => if x.tier = tier then n + x.bytes else n) 0

/-- R444: the sessions whose close waits. -/
def closingSessions (s : State) : List Nat :=
  [0, 1, 2, 3].flatMap (fun c => (waitingCmds s c 0x0102).map (fun k => k.field 16 4))

/-- R435: whether the batch at place `place` has a request to run of a session that an earlier batch holds, and waits for that batch to end. -/
def batchWaits (s : State) (place : Nat) (b : Batch) : Bool :=
  (s.serve.batches.take place).any (fun c => c.reqs.any (fun q => b.reqs.any (fun r => r.session == q.session && r.ended.isNone)))

/-- Whether an admitted batch holds a session. -/
def sessionBusy (s : State) (id : Nat) : Bool := s.serve.batches.any (fun b => b.reqs.any (fun q => q.session == id))

/-- A session number that is not 0 and not in use; which one is firmware's choice (DESIGN CHOICE: log entry 27). -/
def newSessionId (s : State) : Nat :=
  let used := s.serve.sessions.map (·.id)
  let d := (Config.sessionId s.freeCtr).toNat
  if d ≠ 0 ∧ used.contains d = false then d
  else ((List.range (used.length + 1)).find? (fun i => !used.contains (i + 1))).getD 0 + 1

/-- SESSION_OPEN (R434, R214) (DESIGN CHOICE: log entry 81; DEDUCED: log entry 146). -/
def sessionOpen (s : State) (c : Nat) (k : SubCmd) : State :=
  let maxtok := k.field 16 4
  let kvtok := k.field 20 4
  let fmt := k.field 24 1
  let tier := k.field 25 1
  let ad := k.field 26 1
  let bytes := ceilDiv (maxtok * kvtok) 2097152 * 2097152
  let room := fun (t : Nat) => decide (sessionBytes s t + bytes ≤ (if t = 1 then s.serve.resHbm else s.serve.resDdr))
  let t := if tier = 0 then (if room 1 then 1 else 2) else tier
  if !([0, 1, 2, 5].contains fmt && decide (tier ≤ 2) && (decide (ad < 64) || ad == 255)) then finishCmd s c k.id 0x0003 0
  else if 4194304 < maxtok then finishCmd s c k.id 0x0007 0
  else if 65535 ≤ s.serve.sessions.length ∨ room t = false then finishCmd s c k.id 0x0004 0
  else
    let id := newSessionId s
    let a := findPlace s [] t (List.range 8) bytes
    let x : Session :=
      { id := id, maxtok := maxtok, kvtok := kvtok, kvfmt := fmt, tier := t, adapter := ad, bytes := bytes, addr := a, tokens := 0, gen := 0
        lost := false }
    let s := drawn { s with serve := { s.serve with sessions := s.serve.sessions ++ [x] } }
    finishCmd s c k.id 0 (resultOf [(16, id), (20, t), (24, bytes)])

/-- SESSION_CLOSE: unknown and already closing sessions are not found. -/
def sessionClose (s : State) (c : Nat) (k : SubCmd) : State :=
  let id := k.field 16 4
  if (findSession s id).isNone ∨ 1 < ((closingSessions s).filter (· == id)).length then finishCmd s c k.id 0x0006 0 else s

/-- The closes that wait for no batch any more end. -/
def closeSessions (s : State) (c : Nat) : State :=
  (waitingCmds s c 0x0102).foldl (fun s k =>
    let id := k.field 16 4
    if sessionBusy s id then s
    else finishCmd { s with serve := { s.serve with sessions := s.serve.sessions.filter (fun x => x.id != id) } } c k.id 0 0) s

/-- SESSION_INFO. -/
def sessionInfo (s : State) (c : Nat) (k : SubCmd) : State :=
  match findSession s (k.field 16 4) with
  | none => finishCmd s c k.id 0x0006 0
  | some x => finishCmd s c k.id 0 (resultOf [(16, x.tokens), (20, x.gen)])

/-- R439: the device is dark, or a DARK command waits. -/
def darkOrWaiting (s : State) : Bool :=
  s.light.dark || [0, 1, 2, 3].any (fun c => (waitingCmds s c 0x0503).any (fun k => k.field 16 1 == 1))

/-- Table 16.10: a request record's fields are in range, its token ranges in the data area. -/
def requestOk (r : Nat) : Bool :=
  let f := fun lo n => bitsOf r (8 * lo) (8 * n)
  decide (f 20 1 < 4) && f 21 1 == 0 && f 30 34 == 0 && decide (1 ≤ f 24 2) && decide (f 24 2 ≤ 0x3F80)
    && (f 8 4 == 0 || inData (f 4 4) (4 * f 8 4)) && (f 12 4 == 0 || inData (f 16 4) (4 * f 12 4))

/-- R435, R263: why a request whose session is in no other batch cannot run in generation `gen`; 0 where it can. -/
def turnStatus (x : Session) (gen r : Nat) : Nat :=
  let f := fun lo n => bitsOf r (8 * lo) (8 * n)
  let ctx := bitOf r 160
  let stale := x.lost || (x.gen != 0 && x.gen != gen)
  let held := if ctx || stale then 0 else x.tokens
  if x.maxtok < held + f 8 4 + f 12 4 then 0x0007 else if stale && !ctx then 0x000C else 0

/-- R435: why a request ends at its batch's admission; 0 where it does not. One whose session is in another batch is judged when its turn
comes (see `takeTurn`). -/
def requestStatus (s : State) (gen r : Nat) : Nat :=
  if !requestOk r then 0x0003
  else
    match findSession s (bitsOf r 0 32) with
    | none => 0x0006
    | some x =>
      if (closingSessions s).contains x.id then 0x0006
      else if sessionBusy s x.id then 0
      else turnStatus x gen r

/-- R263, R435: a request that is judged discards a cache of another generation, or, with CONTEXT, the cache it replaces. -/
def discardCache (gen : Nat) (s : State) (r : Nat) : State :=
  match findSession s (bitsOf r 0 32) with
  | none => s
  | some x =>
    if bitOf r 160 then putSession s { x with tokens := 0, gen := 0, lost := false }
    else if x.gen ≠ 0 ∧ x.gen ≠ gen then putSession s { x with tokens := 0, gen := 0, lost := true }
    else s

/-- BATCH (R435, R260): admitted whole (DEDUCED: log entry 147). -/
def batchStart (s : State) (c : Nat) (k : SubCmd) : State :=
  let off := k.field 16 4
  let n := k.field 20 2
  let res := k.field 24 4
  if !(decide (1 ≤ n) && decide (n ≤ 4096) && inData off (64 * n) && inData res (16 * n)) then finishCmd s c k.id 0x0003 0
  else
    match activeBay s with
    | none => finishCmd s c k.id 0x0005 0
    | some y =>
      if darkOrWaiting s then finishCmd s c k.id 0x0005 0
      else
        let gen := getF s Fld.LFT_GEN_GEN
        let recs := (List.range n).map (fun i => ofBytes (porchRaw (getHost s c) (off + 64 * i) 64))
        let reqs := recs.map (fun r =>
          let st := requestStatus s gen r
          ({ session := bitsOf r 0 32, rec_ := r, bound := st == 0, ended := if st = 0 then none else some (st, 3)
             slot := ((findSession s (bitsOf r 0 32)).map (·.adapter)).getD 0xFF } : Req))
        let s := (recs.filter (fun r => requestOk r && !sessionBusy s (bitsOf r 0 32))).foldl (discardCache gen) s
        let s := refOp s y false (reqs.filter (·.bound)).length
        let b : Batch :=
          { id := s.serve.nextBatch, chan := c, cmd := k.id, bay := y, gen := gen, resOff := res, reqs := reqs, cancelled := false }
        { s with serve := { s.serve with batches := s.serve.batches ++ [b], nextBatch := s.serve.nextBatch + 1 } }

/-- How request `q` of a batch has ended, and its tokens. -/
def reqResult (b : Batch) (q : Req) (o : ReqOutcome) : ReqOutcome :=
  match q.ended with
  | some e => { tokens := [], status := e.1, reason := e.2 }
  | none =>
    let o := { o with tokens := o.tokens.take (bitsOf q.rec_ 96 32) }
    if b.cancelled ∧ o.status ≠ 0 then { o with status := 0x000A, reason := 2 } else o

/-- One request of a batch that ends: its tokens and result record are written, and its session's cache has grown. -/
def endRequest (b : Batch) (s : State) (e : Nat × Req × ReqOutcome) : State :=
  let r := reqResult b e.2.1 e.2.2
  let x := porchPut (getHost s b.chan) (bitsOf e.2.1.rec_ 128 32) (r.tokens.flatMap (fun t => toBytes 4 t.toNat))
  let x := porchPut x (b.resOff + 16 * e.1) (toBytes 4 r.tokens.length ++ toBytes 2 r.status ++ [r.reason, 0] ++ toBytes 8 b.gen)
  let s := putHost s b.chan x
  if e.2.1.ended.isSome ∨ r.reason = 3 then s
  else
    match findSession s e.2.1.session with
    | none => s
    | some x =>
      let held := if bitOf e.2.1.rec_ 160 || (x.gen != 0 && x.gen != b.gen) then 0 else x.tokens
      putSession s { x with tokens := min x.maxtok (held + bitsOf e.2.1.rec_ 64 32 + r.tokens.length), gen := b.gen, lost := false }

/-- R435, R263: the requests of session `id` in the first batch that holds it are judged, their turn having come. -/
def takeTurn (s : State) (id : Nat) : State :=
  match s.serve.batches.find? (fun b => b.reqs.any (fun q => q.session == id)) with
  | none => s
  | some b =>
    let mine := b.reqs.filter (fun q => q.session == id && q.ended.isNone)
    let why := fun (q : Req) => ((findSession s id).map (fun x => turnStatus x b.gen q.rec_)).getD 0x0006
    let s' := (mine.map (·.rec_)).foldl (discardCache b.gen) s
    mine.foldl (fun s q => if why q = 0 then s else endReqs s (fun c p => c.id == b.id && p == q) (why q)) s'

/-- The sessions whose turn in a later batch waits for batch `b`: those that no batch before it holds. -/
def turnsAfter (s : State) (b : Batch) : List Nat :=
  ((b.reqs.map (·.session)).eraseDups).filter (fun id =>
    (s.serve.batches.find? (fun c => c.reqs.any (fun q => q.session == id))).all (fun c => c.id == b.id))

/-- R435, R260, R264: batch `b` ends (DEDUCED: log entry 148). -/
def endBatch (s : State) (b : Batch) (aborted : Bool) (outs : List ReqOutcome) : State :=
  let outs := outs ++ List.replicate b.reqs.length ({ } : ReqOutcome)
  let es := List.zip (List.range b.reqs.length) (List.zip b.reqs outs)
  let next := turnsAfter s b
  let s := { s with serve := { s.serve with batches := s.serve.batches.filter (fun x => x.id != b.id) } }
  let s := next.foldl takeTurn (es.foldl (endRequest b) s)
  let s := freeMigrated (refOp s b.bay true (b.reqs.filter (·.bound)).length)
  let bad := (es.filter (fun e => (reqResult b e.2.1 e.2.2).status != 0)).length
  finishCmd s b.chan b.cmd (if b.cancelled || aborted then 0x000A else 0) (resultOf [(16, b.gen), (24, b.bay), (26, bad)])

/-- BATCH_CANCEL. -/
def batchCancel (s : State) (c : Nat) (k : SubCmd) : State :=
  let ids := ((getHost s c).cmds.filter (fun j => j.op == 0x0201 && j.cid == k.field 16 4)).map (·.id)
  let hit := fun (b : Batch) => b.chan == c && ids.contains b.cmd
  if s.serve.batches.any hit then finishCmd (cancelBatches s hit) c k.id 0 0 else finishCmd s c k.id 0x0006 0

/-! Bundles (R436). -/

/-- The running ostler firmware's version, as MIN_FW holds one. -/
def runningFw (s : State) : Nat :=
  match s.tack.runOsf with
  | some i => i.hdr.getD 12 0 * 256 + i.hdr.getD 13 0
  | none => 0

/-- The enrolled key of a slot. -/
def enrolledKey (s : State) (i : Nat) : Option (List Nat) := s.tack.keys.find? (fun x => x.1 == i) |>.map (·.2)

/-- BUNDLE_BEGIN: a build of bay `y` begins, or of an adapter slot of it, from the `bs` delivered (DEDUCED: log entry 150). -/
def beginBuild (s : State) (c : Nat) (k : SubCmd) (y : Nat) (slot : Option Nat) (bs : List Nat) : State :=
  let r := checkBundle s bs (enrolledKey s) (runningFw s) (baseMatches s y)
  let s := match slot with
    | none => baySet s y 1
    | some _ => setF (setF s Fld.LFT_BUILD_BAY y) Fld.LFT_BUILD_BUSY 1
  let s := setF (setF s Fld.LFT_BUILD_CAUSE 0) Fld.LFT_BCHUNKS_DONE 0
  let s := raiseEv s 0x5001 loftUnit 0 (packDetail [(0, y), (32, fieldOf bs 16 4)])
  let s := { s with loft := { s.loft with build := some { bay := y, slot := slot, set := { r.set with bands := [] } } } }
  if r.cause ≠ 0 then
    finishCmd (failBuild s r.cause r.ecdsa r.hss 0) c k.id 0x0009 (resultOf [(16, r.cause), (17, b01 r.ecdsa + 2 * b01 r.hss)])
  else
    let s := finishCmd s c k.id 0 0
    let bands := (List.zip (List.range r.tensors.length) r.tensors).flatMap (fun x => tensorBands x.1 x.2)
    let n := 32 * bands.length
    match (if slot.isSome then some 0 else tablePlace s n) with
    | none => failBuild s 8 false false 0
    | some desc =>
      let t := drawn s
      match placeSet t bands slot.isSome (if slot.isSome then [] else [(desc, n)]) with
      | none => failBuild t 8 false false 0
      | some placed =>
        let set := { r.set with bands := placed }
        let u := drawn { t with loft := { t.loft with build := some { bay := y, slot := slot, set := set } } }
        if slot.isSome then u else recordBuild u y desc set

/-- BUNDLE_BEGIN (R436, R254, R265, R461) (DEDUCED: log entry 151). -/
def bundleBegin (s : State) (c : Nat) (k : SubCmd) : State :=
  let y := k.field 16 1
  let off := k.field 20 4
  let len := k.field 24 4
  let bs := porchRaw (getHost s c) off len
  if 2 ≤ y then finishCmd s c k.id 0x0006 0
  else if !inData off len then finishCmd s c k.id 0x0003 0
  else if getF s Fld.TCK_STATUS_INBOX_BUSY = 1 then finishCmd s c k.id 0x0001 0
  else if s.loft.build.isSome ∨ bayState s 0 = 1 ∨ bayState s 1 = 1 then finishCmd s c k.id 0x0005 0
  else if fieldOf bs 10 2 = 1 then
    if bayState s y ≠ 2 ∧ bayState s y ≠ 3 then finishCmd s c k.id 0x0005 0
    else
      match freeSlot s y with
      | none => finishCmd s c k.id 0x0004 0
      | some i => beginBuild s c k y (some i) bs
  else if bayState s y ≠ 0 then finishCmd s c k.id 0x0005 0
  else beginBuild s c k y none bs

/-- R252: the lowest free place in staging for `n` bytes. -/
def stagePlace (s : State) (n : Nat) : Option Nat :=
  let used := s.loft.staged.map (fun x => (x.addr, x.bytes))
  let ok := fun a => decide (a + n ≤ stageBase s + stageBytes s) && used.all (fun r => !overlaps a n r.1 r.2)
  ([stageBase s] ++ used.map (fun r => r.1 + r.2)).foldl (fun best a =>
    if ok a then (match best with
      | none => some a
      | some b => some (min a b)) else best) none

/-- R267, R436: the bay whose set a repair piece belongs to (DEDUCED: log entry 149). -/
def repairBay (s : State) : Option Nat := [3, 4, 2].findSome? (fun st => [0, 1].find? (fun y => bayState s y == st))

/-- A piece of chunk `x` goes into staging; the last one waits for the digest check (R252, R436). -/
def stagePiece (s : State) (c : Nat) (k : SubCmd) (x : StagedChunk) (poff : Nat) (bs : List Nat) : State :=
  let n := bs.length
  if x.got.any (fun g => overlaps poff n g.1 g.2) then finishCmd s c k.id 0x0003 0
  else
    let rest := s.loft.staged.filter (fun z => !(z.chunk == x.chunk && z.repair == x.repair))
    let y := { x with got := x.got ++ [(poff, n)] }
    let y := if y.complete then { y with waiter := some (c, k.id) } else y
    let w := writeRange s (x.addr + poff) bs
    let s := { w.1 with loft := { w.1.loft with staged := rest ++ [y] } }
    if y.complete then s else finishCmd s c k.id 0 0

/-- BUNDLE_PIECE (R436, R252, R253, R267). -/
def bundlePiece (s : State) (c : Nat) (k : SubCmd) : State :=
  let chunk := k.field 16 4
  let poff := k.field 20 4
  let len := k.field 24 4
  let off := k.field 28 4
  let rep := k.field 32 1 == 1
  let src := if rep then repairBay s else s.loft.build.map (·.bay)
  match src with
  | none => finishCmd s c k.id 0x0005 0
  | some y =>
    let set := if rep then (getBay s y).set else s.loft.build.map (·.set)
    match set.bind (fun t => t.chunks[chunk]?) with
    | none => finishCmd s c k.id 0x0003 0
    | some ch =>
      if rep && s.loft.build.any (fun b => b.bay == y) then finishCmd s c k.id 0x0005 0
      else if !(decide (k.field 32 1 < 2) && inData off len && decide (len ≤ 16777216) && decide (poff + len ≤ ch.bytes))
          || (!rep && s.loft.build.any (fun b => b.copied.contains chunk)) then finishCmd s c k.id 0x0003 0
      else
        let bs := porchRaw (getHost s c) off len
        match s.loft.staged.find? (fun x => x.chunk == chunk && x.repair == rep) with
        | some x => stagePiece s c k x poff bs
        | none =>
          match stagePlace s ch.bytes with
          | none => finishCmd s c k.id 0x0001 0
          | some a => stagePiece s c k { chunk := chunk, bay := y, repair := rep, addr := a, bytes := ch.bytes, got := [] } poff bs

/-- SLOT_LIST (DESIGN CHOICE: log entry 25). -/
def slotList (s : State) (c : Nat) (k : SubCmd) : State :=
  let y := k.field 16 1
  let off := k.field 20 4
  if 2 ≤ y then finishCmd s c k.id 0x0006 0
  else if !inData off 2048 then finishCmd s c k.id 0x0003 0
  else
    let slot := fun (i : Nat) => (nmGet (fun _ => none) (getBay s y).slots i).map (·.isLocal)
    let bs := (List.range 64).flatMap (fun i => toBytes 32 (Config.slotEntry y i (slot i) s.freeCtr))
    let s := drawn (putHost s c (porchPut (getHost s c) off bs))
    finishCmd s c k.id 0 (resultOf [(16, ((List.range 64).filter (fun i => (slot i).isSome)).length)])

/-! Units (R438, Table 16.12). -/

def StallSt.code : StallSt → Nat
  | .run => 0
  | .stopping => 1
  | .stopped => 2
  | .offline => 3

/-- How many units a kind has. -/
def unitCount : Nat → Nat
  | 0 => 16
  | 1 => 64
  | 2 => 96
  | 3 => 24
  | 4 => 1
  | 5 => 48
  | 6 => 8
  | 7 => 528
  | _ => 0

/-- The state that a unit reads. -/
def unitCode (s : State) (kind i : Nat) : Nat :=
  match kind with
  | 0 => (getStall s i).state.code
  | 1 => (getShed s i).state.code
  | 2 => (getShu s i).state.code
  | 3 => bankState s i
  | 4 => farState s
  | 5 => monState s i
  | 6 => portState s i
  | _ => ringState s i

/-- The state of a kind that is STOPPED; OFF for a ring. -/
def unitStoppedCode (kind : Nat) : Nat :=
  match kind with
  | 0 => StallSt.stopped.code
  | 1 => ShedSt.stopped.code
  | 2 => ShuntSt.stopped.code
  | 3 => bankStopped
  | 4 => farStopped
  | 5 => monStopped
  | 6 => portStopped
  | _ => ringOff

/-- STOP of a unit is written. -/
def unitStopWrite (s : State) (kind i : Nat) (cut : Bool) : State :=
  match kind with
  | 0 => stlCtrlWrite s i false true cut
  | 1 => shdCtrlWrite s i false true false false
  | 2 => shuCtrlWrite s i false true
  | 3 => bankCtrlWrite s i false true
  | 4 => farCtrlWrite s false true false
  | 5 => monCtrlWrite s i false true false
  | 6 => drvCtrlWrite s i false true
  | _ => ringCtrlWrite s i true false false

/-- START of a unit is written. -/
def unitStartWrite (s : State) (kind i : Nat) (launch : Bool) : State :=
  match kind with
  | 0 => stlCtrlWrite s i true false false
  | 1 => shdCtrlWrite s i true false launch false
  | 2 => shuCtrlWrite s i true false
  | 3 => bankCtrlWrite s i true false
  | 4 => farCtrlWrite s true false false
  | 5 => monCtrlWrite s i true false false
  | 6 => drvCtrlWrite s i true false
  | _ => ringCtrlWrite s i false true false

/-- Why a unit command is refused: its KIND, its INDEX, a bank other than 19 to 23 (R438); 0 where it is not. -/
def unitRefused (kind i flag : Nat) : Nat :=
  if 8 ≤ kind ∨ 2 ≤ flag then 0x0003 else if kind = 3 ∧ (i < 19 ∨ 24 ≤ i) then 0x000E else if unitCount kind ≤ i then 0x0006 else 0

/-- UNIT_STOP begins (DEDUCED: log entry 154). -/
def unitStop (s : State) (c : Nat) (k : SubCmd) : State :=
  let kind := k.field 16 1
  let i := k.field 18 2
  let why := unitRefused kind i (k.field 20 1)
  if why ≠ 0 then finishCmd s c k.id why 0
  else
    let ms := if k.field 22 2 = 0 then 1000 else k.field 22 2
    let s := unitStopWrite s kind i (k.field 20 1 == 1)
    let x := getHost s c
    putHost s c { x with cmds := x.cmds.map (fun j =>
      if j.id = k.id then { j with due := some (s.time + BitVec.ofNat 64 (1000000 * ms)) } else j) }

/-- The UNIT_STOP commands whose unit reads STOPPED, or whose time is up, end. A batch that uses the stall or shed is aborted (R444; DESIGN CHOICE: log
entry 249) (DESIGN CHOICE: log entry 249). -/
def unitStops (s : State) (c : Nat) : State :=
  (waitingCmds s c 0x0601).foldl (fun s k =>
    let st := unitCode s (k.field 16 1) (k.field 18 2)
    if st = unitStoppedCode (k.field 16 1) then
      let s := cancelBatches s (fun b => k.field 16 1 < 2 && Config.batchUses b.id (k.field 16 1) (k.field 18 2))
      finishCmd s c k.id 0 (resultOf [(16, st)])
    else if k.due.any (fun t => decide (t.toNat ≤ s.time.toNat)) then finishCmd s c k.id 0x000F (resultOf [(16, st)])
    else s) s

/-- UNIT_START. -/
def unitStart (s : State) (c : Nat) (k : SubCmd) : State :=
  let kind := k.field 16 1
  let i := k.field 18 2
  let why := unitRefused kind i (k.field 20 1)
  if why ≠ 0 then finishCmd s c k.id why 0
  else if unitCode s kind i ≠ unitStoppedCode kind then finishCmd s c k.id 0x0005 0
  else
    let s := unitStartWrite s kind i (k.field 20 1 == 1)
    finishCmd s c k.id 0 (resultOf [(16, unitCode s kind i)])

/-! Calibration, power and capacity (R439). -/

/-- A 16-bit mask of the stalls that satisfy a test. -/
def stallMask (f : Nat → Bool) : Nat := (List.range 16).foldl (fun m i => m + b01 (f i) * 2 ^ i) 0

/-- CAL_RUN. -/
def calRun (s : State) (c : Nat) (k : SubCmd) : State :=
  if 2 ≤ k.field 18 1 then finishCmd s c k.id 0x0003 0
  else
    let s := ((List.range 16).filter (fun i => bitOf (k.field 16 2) i)).foldl (fun s i => queueRun s i true false) s
    let s := if k.field 18 1 = 1 then farRunAll s else s
    let s := (List.range 8).foldl (fun s p => farLaneRunWrite s p (k.field (32 + 4 * p) 4)) s
    finishCmd s c k.id 0 0

/-- CAL_STATUS. -/
def calStatus (s : State) (c : Nat) (k : SubCmd) : State :=
  let cal := fun (v : Nat) => stallMask (fun i => getF s Fld.FAR_STALL_STATUS_CAL i == v)
  finishCmd s c k.id 0 (resultOf [(16, cal 1), (18, cal 2), (20, farState s)])

/-- POWER_SET. -/
def powerSet (s : State) (c : Nat) (k : SubCmd) : State :=
  let g := k.field 17 1
  if 16 ≤ g ∨ 4 ≤ k.field 16 1 ∨ 2048 ≤ k.field 18 2 ∨ 2048 ≤ k.field 20 2 ∨ 2048 ≤ k.field 22 2 then finishCmd s c k.id 0x0003 0
  else
    let s := if bitOf g 0 then setF s Fld.PWR_PBCFG_MODE (k.field 16 1) else s
    let s := if bitOf g 1 then setF s Fld.PWR_PBCFG_FALLBACK (k.field 18 2) else s
    let s := if bitOf g 2 then setF s Fld.PWR_LIMIT_W (k.field 20 2) else s
    let s := if bitOf g 3 then setF s Fld.PWR_PBFIX_W (k.field 22 2) else s
    finishCmd s c k.id 0 0

/-- CAPACITY_SET. -/
def capacitySet (s : State) (c : Nat) (k : SubCmd) : State :=
  let h := k.field 16 8
  let d := k.field 24 8
  if tierCapacity s 1 - tierUsed s 1 < h ∨ tierCapacity s 2 - tierUsed s 2 < d then finishCmd s c k.id 0x0004 0
  else if h < sessionBytes s 1 ∨ d < sessionBytes s 2 then finishCmd s c k.id 0x0005 0
  else finishCmd { s with serve := { s.serve with resHbm := h, resDdr := d } } c k.id 0 0

/-- DARK begins: leaving writes RELIGHT (DEDUCED: log entry 153). -/
def darkStart (lock0 lock1 : Bool) (sws : List RingSweep) (s : State) (c : Nat) (k : SubCmd) : State :=
  if 2 ≤ k.field 16 1 then finishCmd s c k.id 0x0003 0
  else if k.field 16 1 = 1 then s
  else if s.light.laserEn && lasersOff s then relightWrite s lock0 lock1 sws
  else finishCmd s c k.id 0x0005 0

/-- DARK commands end: with the lasers off once no batch is admitted, or with the start-up sequence. -/
def darkEnds (s : State) (c : Nat) : State :=
  (waitingCmds s c 0x0503).foldl (fun s k =>
    if k.field 16 1 = 1 then
      if s.serve.batches = [] then
        let s := goDark s
        finishCmd s c k.id 0 (resultOf [(16, ringsFailed s)])
      else s
    else if s.light.running then s
    else if s.light.dark then finishCmd s c k.id 0x0005 0
    else finishCmd s c k.id 0 (resultOf [(16, ringsFailed s)])) s

/-- HERD_SET (R439, R402). -/
def herdSet (s : State) (c : Nat) (k : SubCmd) : State :=
  let n := k.field 25 1
  let off := k.field 28 4
  if !(decide (1 ≤ n) && decide (n ≤ 16) && decide (k.field 24 1 < n) && inData off (48 * n)) then finishCmd s c k.id 0x0003 0
  else if !(List.range 8).all (fun p => portState s p == portStopped) then finishCmd s c k.id 0x0005 0
  else
    let s := setF (setF s Fld.DRV_HERD_ID_ID (k.field 16 8)) Fld.DRV_HERD_INDEX_INDEX (k.field 24 1)
    let s := setF s Fld.DRV_HERD_INDEX_VALID 1
    let ids := (List.range n).map (fun i => ofBytes (porchRaw (getHost s c) (off + 48 * i) 48))
    let roster := (List.zip (List.range n) ids).foldl (fun m x => nmPut (fun _ => 0) m x.1 x.2) []
    finishCmd { s with drove := { s.drove with roster := roster } } c k.id 0 0

end Sys2Proof.Machine
end

