-- ==== Sys2Proof/Machine/TackOps.lean ====
section
/-! DEFINITION. Shared operations of the tack room (chapter 17): image checks, the signer, the report, the inbox. -/
namespace Sys2Proof.Machine

/-- R464: the UNIT of the tack room's events. -/
def tackUnit : Nat := unitOf 13 0

/-- The rollback counter k. -/
def rollbackK (s : State) : Nat := getF s Fld.TCK_ROLLBACK_K

def isZero (bs : List Nat) : Bool := bs.all (· == 0)

/-- R449: a signature block over a header: its lengths, and whether each signature verifies under a key pair. -/
def sigShape (sig : List Nat) : Bool := fieldOf sig 0 4 == 96 && fieldOf sig 4 4 == 3284
def sigEc (key msg sig : List Nat) : Bool := Config.ecdsaOk (key.take 97) msg ((sig.drop 8).take 96)
def sigHss (key msg sig : List Nat) : Bool := Config.hssOk (key.drop 97) msg ((sig.drop 104).take 3284)

/-- Table 17.3A: an image header of a kind (1 tack room, 2 ostler firmware). -/
def imageHeaderOk (kind : Nat) (i : Image) : Bool :=
  let h := i.hdr
  h.length == 256 && h.take 8 == [0x59, 0x4C, 0x56, 0x53, 0x46, 0x57, 0x49, 0x4D] && fieldOf h 8 2 == 1 && fieldOf h 10 1 == kind
    && decide (fieldOf h 11 1 ≤ 128) && fieldOf h 15 1 == 0 && fieldOf h 16 4 % 64 == 0
    && decide (fieldOf h 16 4 ≤ if kind = 1 then 4194304 else 29360128) && isZero ((h.drop 20).take 12) && isZero (h.drop 237)
    && i.body.length == fieldOf h 16 4

/-- R450: the first check that an image fails, in their order from 1; 0 where it passes (DEDUCED: log entry 166). -/
def imageFails (s : State) (kind : Nat) (i : Image) : Nat :=
  let h := i.hdr
  let key := (h.drop 80).take 157
  if !imageHeaderOk kind i then 1
  else if Config.sha384 (key.take 97) ≠ s.tack.fwRootEc then 2
  else if Config.sha384 (key.drop 97) ≠ s.tack.fwRootHss then 3
  else if !(sigShape i.sig && sigEc key h i.sig && sigHss key h i.sig) then 4
  else if fieldOf h 11 1 < rollbackK s then 5
  else if Config.sha384 i.body ≠ fieldOf h 32 48 then 6
  else 0

/-- R451: the image that a kind boots from: whether it is the second, and the check that the primary failed. -/
def pickImage (s : State) (kind : Nat) (x : Slots) : Option (Image × Bool × Nat) :=
  let fails := fun (i : Option Image) => match i with
    | none => 1
    | some i => imageFails s kind i
  match x.primary, x.second with
  | some i, _ => if imageFails s kind i = 0 then some (i, false, 0) else
    match x.second with
    | some j => if imageFails s kind j = 0 then some (j, true, fails x.primary) else none
    | none => none
  | none, some j => if imageFails s kind j = 0 then some (j, true, 1) else none
  | none, none => none

/-- The measurement of a running image (R450), its SVN and its version. -/
def imageMeas (i : Option Image) : List Nat := match i with
  | some i => toBytes 48 (Config.sha384 i.hdr)
  | none => List.replicate 48 0
def imageSvn (i : Option Image) : Nat := ((i.map (·.hdr)).getD []).getD 11 0
def imageVersion (i : Option Image) : List Nat := padNat 3 ((((i.map (·.hdr)).getD []).drop 12).take 3)

/-- The registers that follow what the store holds: OWNED, TRIAL, the key slots. -/
def showTack (s : State) : State :=
  let s := setF s Fld.TCK_STATUS_OWNED (b01 s.tack.owner.isSome)
  let s := setF s Fld.TCK_STATUS_TRIAL (b01 (s.tack.tkf.trial || s.tack.osf.trial))
  setF s Fld.TCK_KEYS_SLOTS ((List.range 8).foldl (fun m i => m + b01 (enrolledKey s i).isSome * 2 ^ i) 0)

/-! The signer (R458 to R460). -/

def signerReady : Nat := 0
def signerBuilding : Nat := 1
def signerDisabled : Nat := 2
def signerExhausted : Nat := 3

/-- R458: the larger valid copy of Q_RES. -/
def resMark (t : Tack) : Option Nat :=
  match t.resA, t.resB with
  | some a, some b => some (max a b)
  | some a, none => some a
  | none, b => b

/-- R458: the copy that does not hold the mark in force is written. -/
def writeMark (t : Tack) (q : Nat) : Tack :=
  if t.resA = resMark t then { t with resB := some q } else { t with resA := some q }

/-- R459: one more write of the reservation sectors; the highest erasure count of the 64 (DEDUCED: log entry 163). -/
def countWrite (s : State) : State :=
  let n := s.tack.nvWrites + 1
  setF { s with tack := { s.tack with nvWrites := n } } Fld.TCK_NVWEAR_ERASES (min (2 ^ 17 - 1) (ceilDiv n 64))

/-- TCK_LMS_Q and TCK_LMS_LEFT take the next index; event 0xC006 is raised once, and the last index leaves the signer EXHAUSTED (R459). -/
def setIndex (s : State) (q : Nat) : State :=
  let left := 2 ^ 30 - q
  let s := setF (setF s Fld.TCK_LMS_Q_Q (q % 2 ^ 30)) Fld.TCK_LMS_LEFT_LEFT left
  let s := if left < 2 ^ 20 ∧ s.tack.lowRaised = false then
      raiseEv { s with tack := { s.tack with lowRaised := true } } 0xC006 tackUnit 0 left
    else s
  if left = 0 then setF s Fld.TCK_STATUS_SIGNER signerExhausted else s

/-- The next index. -/
def nextIndex (s : State) : Nat := 2 ^ 30 - getF s Fld.TCK_LMS_LEFT_LEFT

/-- R460: the next signature is the first of a lower tree that is not built yet. -/
def treeMissing (s : State) : Bool := nextIndex s % 32768 == 0 && nextIndex s != 0 && !s.tack.nextBuilt

/-- Table 17.1: the fuse map in the order of the table, DEVICE_SECRET replaced by zeros (DESIGN CHOICE: log entry 19). -/
def fuseMap (s : State) : List Nat :=
  List.replicate 32 0 ++ toBytes 48 s.tack.fwRootEc ++ toBytes 48 s.tack.fwRootHss ++ toBytes 48 s.tack.mfgRootEc ++ toBytes 48 s.tack.mfgRootHss
    ++ toBytes 16 (2 ^ rollbackK s - 1) ++ [b01 s.tack.debugLock] ++ Config.repairFuses

/-- R447, R456: the fuse digest. -/
def fuseDigest (s : State) : List Nat := sha384Bytes (fuseMap s)

/-- Table 17.4: the body of the device certificate (DESIGN CHOICE: log entry 250). -/
def certBody (s : State) : List Nat :=
  padNat 256 ([0x59, 0x4C, 0x56, 0x53, 0x44, 0x43, 0x52, 0x54] ++ toBytes 2 1 ++ toBytes 2 1640 ++ [0xA1, 0, 0, 0] ++ toBytes 16 s.tack.serial
    ++ toBytes 48 (deviceId s) ++ idKeyEc s.tack.secret ++ idKeyHss s.tack.secret ++ toBytes 8 s.tack.issued)

/-- R455: the device certificate, as it was written at manufacture (DESIGN CHOICE: log entry 250). -/
def deviceCert (s : State) : List Nat :=
  let b := certBody s
  b ++ toBytes 4 96 ++ toBytes 4 3284 ++ padNat 96 (Config.mfgSignEc b) ++ padNat 3284 (Config.mfgSignHss b)

/-- R456: the hashes of the publisher keys, in slot order. -/
def keysDigest (s : State) : Nat :=
  Config.sha384 ((List.range 8).flatMap (fun i => match enrolledKey s i with
    | some k => toBytes 48 (Config.sha384 k)
    | none => List.replicate 48 0))

/-- Table 17.5: a bay's model, version and header hash. -/
def bayIdentity (s : State) (y : Nat) : List Nat :=
  match (getBay s y).set with
  | some t => toBytes 16 t.modelId ++ toBytes 8 t.version ++ toBytes 48 t.hdrHash
  | none => List.replicate 72 0

/-- Table 17.5: the body of a report. -/
def reportBody (s : State) (r : SignReq) (q : Nat) : List Nat :=
  let alt := getF s Fld.TCK_STATUS_TKF_ALT * 2 + getF s Fld.TCK_STATUS_OSF_ALT * 4
  let flags := b01 (!s.tack.debugLock) + alt + getF s Fld.TCK_STATUS_OWNED * 8 + getF s Fld.TCK_STATUS_TRIAL * 16
  let bs := [0x59, 0x4C, 0x56, 0x53, 0x41, 0x54, 0x53, 0x54] ++ toBytes 2 1 ++ toBytes 2 r.purpose ++ toBytes 4 8056
    ++ toBytes 48 (deviceId s) ++ padNat 48 r.nonce ++ toBytes 8 s.time.toNat ++ toBytes 8 q ++ toBytes 4 (getF s Fld.TCK_BOOTS_COUNT)
    ++ [rollbackK s, imageSvn s.tack.runTkf, imageSvn s.tack.runOsf, flags]
    ++ imageVersion s.tack.runTkf ++ imageVersion s.tack.runOsf ++ [0, 0] ++ imageMeas s.tack.runTkf ++ imageMeas s.tack.runOsf
  let ts := fuseDigest s ++ toBytes 48 (keysDigest s)
    ++ (match s.tack.owner with
        | some k => toBytes 48 (Config.sha384 k)
        | none => List.replicate 48 0)
    ++ toBytes 8 (getF s Fld.LFT_GEN_GEN) ++ [getF s Fld.LFT_ACTIVE_BAY + 2 * getF s Fld.LFT_ACTIVE_VALID, bayState s 0 + 8 * bayState s 1]
    ++ List.replicate 6 0 ++ bayIdentity s 0 ++ bayIdentity s 1 ++ (if r.purpose = 2 then padNat 97 r.eph else List.replicate 97 0)
  padNat 1024 (bs ++ ts)

/-- R456: a whole report. -/
def report (s : State) (r : SignReq) (q : Nat) : List Nat :=
  let b := reportBody s r q
  b ++ toBytes 4 96 ++ toBytes 4 3284 ++ padNat 96 (Config.signEc (idKeyD s.tack.secret) b s.freeCtr)
    ++ padNat 3284 (Config.signHss (idHssSeed s.tack.secret) (idHssI s.tack.secret) q b) ++ deviceCert s

/-- R448: a pair verifies over the signed bytes under a key pair. -/
def pairOk (key msg sig : List Nat) : Bool := sigShape sig && sigEc key msg sig && sigHss key msg sig

/-- R457: checks 1 to 4 of a report, `nonce` the verifier's challenge, for an admission. -/
def reportOk (s : State) (nonce rep : List Nat) : Bool :=
  let body := rep.take 1024
  let cert := rep.drop 4412
  let cb := cert.take 256
  let key := Config.mfgKey
  let idKeys := (cb.drop 80).take 157
  rep.length == 8056 && Config.sha384 (key.take 97) == s.tack.mfgRootEc && Config.sha384 (key.drop 97) == s.tack.mfgRootHss
    && pairOk key cb (cert.drop 256)
    && Config.sha384 (idKeys.take 97) == fieldOf cb 32 48 && fieldOf cb 32 48 == fieldOf body 16 48
    && pairOk idKeys body ((rep.drop 1024).take 3388)
    && (body.drop 64).take 48 == padNat 48 nonce && fieldOf body 10 2 == 2

/-- R403, R457: why a step of an admission is refused, 0 where it is not: 1 the identity is not the roster's, 2 the report's checks fail, 3 DEBUG or
ROLLBACK, 4 the key exchange. -/
def admitRefused (s : State) (p : Nat) (m : AdmitMsg) : Nat :=
  let i := m.idx % 16
  let body := m.report.take 1024
  let reports := m.step = 2 ∨ m.step = 3
  let who := if m.step = 1 then m.identity else fieldOf body 16 48
  let nonce := nmGet (fun _ => []) (getPort s p).challenge (if m.step = 2 then 16 else i)
  if (m.step = 1 ∨ reports) ∧ nmFind s.drove.roster i ≠ some who then 1
  else if reports ∧ reportOk s nonce m.report = false then 2
  else if reports ∧ (bitOf (fieldOf body 135 1) 0 ∨ fieldOf body 132 1 < getF s Fld.TCK_HERDMIN_MIN) then 3
  else if (m.step = 3 ∨ m.step = 4) ∧ m.exchanged = false then 4 else 0

/-- R463, R403: a report goes to what asked for it: the porch of an ATTEST still in progress, or the ADMIT frames of a port, a leader's with a
challenge of its own (DEDUCED: log entries 164 and 225) (DEDUCED: log entry 164). -/
def deliverReport (s : State) (r : SignReq) (bs : List Nat) : State :=
  if r.chan < 4 then
    if firmwareRuns s && (getHost s r.chan).cmds.any (fun k => k.id == r.cmd && k.ended.isNone) then
      finishCmd (putHost s r.chan (porchPut (getHost s r.chan) r.off bs)) r.chan r.cmd 0 (resultOf [(16, 8056)])
    else s
  else
    let p := r.chan - 4
    let c := padNat 48 (Config.challenge s.freeCtr)
    let bs := if portLeads s p then bs ++ c else bs
    let s := if portLeads s p then putChallenge s p r.idx c else s
    (List.range 14).foldl (fun s i => c0Own s p 255 c0Admit ((bs.drop (592 * i)).take 592)) (drawn s)

/-- R458: what asked for a report is refused: NO_RESOURCE, or reason 4 of an admission. -/
def refuseReport (s : State) (r : SignReq) : State :=
  if r.chan < 4 then (if firmwareRuns s then finishCmd s r.chan r.cmd 0x0004 0 else s)
  else raiseEv s 0xA007 (portUnit (r.chan - 4)) 0 (packDetail [(0, r.chan - 4), (3, r.idx), (7, 4)])

/-- R458, R460, R463: the signer serves the oldest request. -/
def signNext (s : State) : State :=
  match s.tack.signs with
  | [] => s
  | r :: rest =>
    let st := getF s Fld.TCK_STATUS_SIGNER
    let pop := { s with tack := { s.tack with signs := rest } }
    if st = signerDisabled ∨ st = signerExhausted then refuseReport pop r
    else if st = signerBuilding ∨ treeMissing s then s
    else
      let q := nextIndex s
      let s := if (resMark pop.tack).all (fun m => decide (m ≤ q)) then countWrite { pop with tack := writeMark pop.tack (q + 1024) } else pop
      let s := if q % 32768 = 0 then { s with tack := { s.tack with nextBuilt := false } } else s
      let bs := report s r q
      deliverReport (drawn (setIndex s (q + 1))) r bs

/-- R460: the signer's trees are built: the paths after a boot, or the next lower tree. -/
def treeBuilt (s : State) : State :=
  if getF s Fld.TCK_STATUS_SIGNER = signerBuilding then
    let s := if treeMissing s then { s with tack := { s.tack with nextBuilt := true } } else s
    setF s Fld.TCK_STATUS_SIGNER signerReady
  else if getF s Fld.TCK_STATUS_SIGNER = signerReady ∧ 32768 - 4096 < nextIndex s % 32768 ∨ treeMissing s then
    { s with tack := { s.tack with nextBuilt := true } }
  else s

/-- ATTEST (R456, R458): the request joins the signer's queue. -/
def attestStart (s : State) (c : Nat) (k : SubCmd) : State :=
  let off := k.field 64 4
  let r : SignReq :=
    { chan := c, cmd := k.id, purpose := 1, nonce := toBytes 48 (k.field 16 48), eph := [], off := off }
  let st := getF s Fld.TCK_STATUS_SIGNER
  if !inData off 8056 then finishCmd s c k.id 0x0003 0
  else if st = signerDisabled ∨ st = signerExhausted then finishCmd s c k.id 0x0004 0
  else { s with tack := { s.tack with signs := s.tack.signs ++ [r] } }

/-! The inbox (R461, R462). -/

/-- R451, R461: bytes of the inbox: in staging, or in recovery in porch channel 0. The second result: they could not be read.
(DEDUCED: log entry 161). -/
def inboxRead (s : State) (off n : Nat) : State × List Nat × Bool :=
  if s.tack.recovery then (s, porchRaw (getHost s 0) (dataBase + off) n, false) else readRange s (stageBase s + off) n

def inboxWrite (s : State) (off : Nat) (bs : List Nat) : State :=
  if s.tack.recovery then putHost s 0 (porchPut (getHost s 0) (dataBase + off) bs) else (writeRange s (stageBase s + off) bs).1

/-- R461: the inbox can be reached: in normal operation once staging is placed and while no build runs. -/
def inboxOpen (s : State) : Bool :=
  s.tack.runTkf.isSome
    && (s.tack.recovery
      || (getF s Fld.LFT_BUILD_BUSY == 0 && getF s Fld.EVT_SVC_PHASE == 7 && reachable s (stageBase s)))

/-- ASCII "YLVSTKRQ" and "YLVSTKRS". -/
def inboxMagic : List Nat := [0x59, 0x4C, 0x56, 0x53, 0x54, 0x4B, 0x52, 0x51]
def resultMagic : List Nat := [0x59, 0x4C, 0x56, 0x53, 0x54, 0x4B, 0x52, 0x53]

/-- R462: a request ends: its result record, TCK_OWNSEQ or REQ_REFUSED, event 0xC003. -/
def endRequestInbox (s : State) (h : List Nat) (status sigs : Nat) : State :=
  let s := inboxWrite s 0x0F00 (padNat 64 (resultMagic ++ (h.drop 16).take 8 ++ [fieldOf h 10 1, status, sigs]))
  let s := setF (inboxWrite s 0 (List.replicate 8 0)) Fld.TCK_STATUS_INBOX_BUSY 0
  let s := { s with tack := { s.tack with blowing := none } }
  let s := if status = 0 then setF s Fld.TCK_OWNSEQ_SEQ (fieldOf h 16 8) else setF s Fld.TCK_ERR_REQ_REFUSED 1
  raiseEv s 0xC003 tackUnit 0 (packDetail [(0, fieldOf h 10 1 % 8), (3, status), (7, sigs)])

/-- Table 17.6: a request header's fields. -/
def requestFormatOk (h : List Nat) : Bool :=
  let kind := fieldOf h 10 1
  let arg := fieldOf h 11 1
  fieldOf h 8 2 == 1 && decide (1 ≤ kind) && decide (kind ≤ 5)
    && (if kind = 2 ∨ kind = 3 then decide (arg < 8) else kind == 4 || arg == 0)
    && isZero ((h.drop 12).take 4) && (kind == 1 || kind == 2 || isZero ((h.drop 72).take 157))
    && (kind == 5 || fieldOf h 229 4 == 0) && isZero (h.drop 233)

/-- The image that a FW_INSTALL request carries (R461). -/
def inboxImage (s : State) (h : List Nat) : State × Image :=
  let r := inboxRead s 0x1000 (fieldOf h 229 4)
  (r.1, { hdr := r.2.1.take 256, sig := (r.2.1.drop 256).take 3388, body := r.2.1.drop 3644 })

/-- R462: the first of checks 2 to 6 that a request fails, with the failed signatures; 0 where none does. -/
def requestRefused (s : State) (h sig : List Nat) : Nat × Nat :=
  let kind := fieldOf h 10 1
  let key := s.tack.owner.getD []
  let e := sigShape sig && sigEc key h sig
  let x := sigShape sig && sigHss key h sig
  let t := fieldOf h 11 1
  let trial := s.tack.tkf.trial || s.tack.osf.trial
  if fieldOf h 24 48 ≠ deviceId s then (2, 0)
  else if fieldOf h 16 8 ≤ getF s Fld.TCK_OWNSEQ_SEQ then (3, 0)
  else if s.tack.owner.isSome && !(e && x) then (4, b01 (!e) + 2 * b01 (!x))
  else if (s.tack.recovery && kind != 5) || (s.tack.owner.isNone && (kind == 2 || kind == 3 || kind == 4)) || (kind == 4 && trial) then (5, 0)
  else if kind = 4 ∧ ¬ (rollbackK s < t ∧ t ≤ 128 ∧ t ≤ imageSvn s.tack.runTkf ∧ t ≤ imageSvn s.tack.runOsf) then (6, 0)
  else (0, 0)

/-- R453: a ROLLBACK_COMMIT that passes its checks begins to blow fuses (DEDUCED: log entry 165). -/
def beginBlowing (s : State) (h : List Nat) : State :=
  if fieldOf h 10 1 = 4 ∧ requestRefused s h (inboxRead s 0x100 3388).2.1 = (0, 0) then
    { s with tack := { s.tack with blowing := some (fieldOf h 11 1) } }
  else s

/-- R461: the tack room finds a request and takes it up. -/
def inboxPoll (s : State) : State :=
  if !inboxOpen s || getF s Fld.TCK_STATUS_INBOX_BUSY == 1 then s
  else
    let r := inboxRead s 0 256
    let s := r.1
    if r.2.2 || r.2.1.take 8 != inboxMagic then s
    else
      let s := setF s Fld.TCK_STATUS_INBOX_BUSY 1
      if requestFormatOk r.2.1 then beginBlowing s r.2.1 else endRequestInbox s r.2.1 1 0

/-- R461, R462: the request in process, of kind `kind`, is checked and carried out by `act`, which answers none where check 7 fails.
`storeOk`: the store write completes (check 8) (DEDUCED: log entry 165). -/
def inboxRequest (s : State) (kind : Nat) (storeOk : Bool) (act : State → List Nat → Option State) : State :=
  if !inboxOpen s || getF s Fld.TCK_STATUS_INBOX_BUSY != 1 then s
  else
    let r := inboxRead s 0 256
    let h := r.2.1
    if fieldOf h 10 1 ≠ kind then s
    else
      let g := inboxRead r.1 0x100 3388
      let s := g.1
      let why := requestRefused s h g.2.1
      if why.1 ≠ 0 then endRequestInbox s h why.1 why.2
      else
        match act s h with
        | none => endRequestInbox s h 7 0
        | some t => if storeOk then endRequestInbox (showTack t) h 0 0 else endRequestInbox s h 8 0

/-- FW_INSTALL (R452): an image that passes becomes the trial primary of its kind. -/
def installImage (s : State) (h : List Nat) : Option State :=
  let x := inboxImage s h
  let i := x.2
  let kind := fieldOf i.hdr 10 1
  if (kind = 1 ∨ kind = 2) ∧ imageFails s kind i = 0 then
    let s := x.1
    if kind = 1 then some { s with tack := { s.tack with tkf := { primary := some i, second := s.tack.tkf.primary, trial := true } } }
    else some { s with tack := { s.tack with osf := { primary := some i, second := s.tack.osf.primary, trial := true } } }
  else none

end Sys2Proof.Machine
end

