-- ==== Sys2Proof/Machine/SysOps.lean ====
section
/-! DEFINITION. Start-up, the resets, the ostler's restarts and the service level (chapter 18, with the boot of chapter 17). -/
namespace Sys2Proof.Machine

/-- R480: the UNIT of the event log's events. -/
def evtUnit : Nat := unitOf 14 0

/-- EVT_SVC.PHASE as held: 1, 2, 3 for phases 3 to 6 (see `phaseNow`), 7. -/
def phaseHeld (s : State) : Nat := getF s Fld.EVT_SVC_PHASE

/-- The light branch of Table 18.1 has ended: the sequence has run, and no farrier run of its stalls is left to make; or LASER_EN kept the lasers off
(R491). -/
def lightEnded (s : State) : Bool :=
  s.sys.lightDone && !s.light.running && s.mon.calQueue.isEmpty && (lasersOff s || (s.far.work.isNone && (farPick s).isNone))

/-- Table 18.1: the phase in progress; of phases that run at once, the lowest (DEDUCED: log entry 169). -/
def phaseNow (s : State) : Nat :=
  if phaseHeld s ≠ 3 then phaseHeld s
  else if !s.sys.memDone then 3
  else if !s.integ.fillDue.isEmpty then 4
  else if !lightEnded s then 5
  else 6

/-- Whether phase `n` is in progress. -/
def inPhase (s : State) (n : Nat) : Bool :=
  if phaseHeld s ≠ 3 then phaseHeld s == n
  else match n with
    | 3 => !s.sys.memDone
    | 4 => !s.integ.fillDue.isEmpty
    | 5 => !lightEnded s
    | 6 => s.sys.memDone && s.integ.fillDue.isEmpty && lightEnded s
    | _ => false

/-- Table 18.1, R470: the worst time of a phase in ms; after a package reset DDR5 trains at its last rate alone. -/
def phaseWorst (pkg : Bool) : Nat → Nat
  | 1 => 127
  | 2 => 1000
  | 3 => if pkg then 12000 else 36000
  | 4 => 22480
  | 5 => 9890
  | _ => 330

/-! Resets (R468 to R470). -/

/-- Addresses of MGR_SPARE and MGR_SOFTMAP. -/
def isSoftMap (a : Nat) : Bool :=
  decide (0x83000000 ≤ a) && decide (a < 0x83040000) && decide (0x100 ≤ a % 0x10000) && decide (a % 0x10000 < 0x400)

/-- R470: the registers that a package reset keeps or reads again. -/
def keptByPackage (a : Nat) : Bool :=
  keptRegs.contains a || isSoftMap a || a == Reg.MON_FRAME.addr 0 0 0 || a == Reg.EVT_RSTCAUSE.addr 0 0 0

/-- R468 to R470: a package reset, with its cause (DEDUCED: log entry 170). An ostler held in reset stays so but after RESET_N (R472). It clears RDBYTES,
WRBYTES and SHU_BYTES (DESIGN CHOICE: log entry 196). -/
def packageReset (s : State) (cause : Nat) : State :=
  let s := fusesBlown s
  let hosts := (List.range 4).foldl (fun m c => nmPut (fun _ => {}) m c { ck := (getHost s c).ck }) []
  let t : State :=
    { pending := s.pending
      time := s.time
      freeCtr := s.freeCtr
      regs := s.regs.filter (fun x => keptByPackage x.1)
      mem := { s.mem with pendPoison := [], pendFix := [] }
      integ :=
        { filled := s.integ.filled, repairsUsed := s.integ.repairsUsed, retired := s.integ.retired
          lapStart := nmMap (fun _ => none) (fun _ _ => some s.time) (s.integ.lapStart.filter (fun x => decide (x.1 < 4))) }
      tier := { ranks := s.tier.ranks, speed := s.tier.speed }
      loft := { floors := s.loft.floors }
      host := hosts
      light := { laserEn := s.light.laserEn }
      mon := { k := s.mon.k }
      far := s.far.atReset
      pwr := { rails := s.pwr.rails }
      tack := s.tack.atReset
      sys := { startTime := s.time, pkg := true, escalated := s.sys.escalated, held := s.sys.held && cause != 1, applied := s.sys.applied, store := storeNow s } }
  let t := (List.range 4).foldl (fun t c => if (getHost t c).ck then setF t Fld.HPT_STATUS_STATE hostTraining c else t) t
  let t := setF (setF t Fld.PWR_STATUS_RAILS 1) Fld.TCK_STATUS_SIGNER signerBuilding
  let t := setF (setF (setF t Fld.TCK_STATUS_TKF_ALT 0) Fld.TCK_STATUS_OSF_ALT 0) Fld.TCK_STATUS_INBOX_BUSY 0
  setF (setF (setF t Fld.EVT_RSTCAUSE_KIND 1) Fld.EVT_RSTCAUSE_CAUSE cause) Fld.EVT_RSTCAUSE_ORESTARTS 0

/-- R468: a package reset, where the rails are up. -/
def packageResetUp (s : State) (cause : Nat) : State := if s.pwr.rails = .valid then packageReset s cause else s

/-- R468, R469, R357: a power-on reset, with the rails off. `keepTrip`: PWR_IN has stayed above 20 V. -/
def powerOnReset (s : State) (keepTrip : Bool) : State :=
  if s.pwr.rails = .off then
    let t := coldState s
    let t := setF (setF (setF (setF t Fld.TCK_STATUS_SIGNER signerBuilding) Fld.TCK_STATUS_TKF_ALT 0) Fld.TCK_STATUS_OSF_ALT 0) Fld.TCK_STATUS_INBOX_BUSY 0
    if keepTrip then t else setF t Fld.PWR_LASTTRIP_CAUSE 0
  else s

/-! Boot (R451 to R454). -/

/-- R451: recovery begins. -/
def enterRecovery (s : State) : State :=
  let s := writeIdentity { s with tack := { s.tack with recovery := true, runOsf := none } }
  [0, 1, 2, 3].foldl (fun s c => setMb s c .halted) s

/-- R458: the signer takes up its stored state. -/
def signerBoot (s : State) : State :=
  match resMark s.tack with
  | none =>
    let s := setF s Fld.TCK_STATUS_SIGNER signerDisabled
    { s with tack := { s.tack with bootEvents := s.tack.bootEvents ++ [(0xC008, 0)] } }
  | some q =>
    let n := min q (2 ^ 30)
    let low := 2 ^ 30 - n < 2 ^ 20 && !s.tack.lowRaised
    let s := if low then { s with tack := { s.tack with lowRaised := true, bootEvents := s.tack.bootEvents ++ [(0xC006, 2 ^ 30 - n)] } } else s
    countWrite (setIndex (setF s Fld.TCK_STATUS_SIGNER signerBuilding) n)

/-- A boot event of a second slot (R451). -/
def altEvent (s : State) (kind fails : Nat) : State :=
  { s with tack := { s.tack with bootEvents := s.tack.bootEvents ++ [(0xC001, packDetail [(0, kind), (2, fails)])] } }

/-- Table 17.3 steps 5 and 6: ostler firmware is checked, loaded and released, or recovery begins. -/
def bootOstler (s : State) : State :=
  match pickImage s 2 s.tack.osf with
  | none => enterRecovery (showTack s)
  | some (i, alt, fails) =>
    if s.sys.held then enterRecovery (showTack s)
    else
      let s := if alt then setF (altEvent s 2 fails) Fld.TCK_STATUS_OSF_ALT 1 else s
      let s := { s with tack := { s.tack with runOsf := some i } }
      let s := if s.tack.tkf.trial ∧ getF s Fld.TCK_STATUS_TKF_ALT = 0 then
          { s with tack := { s.tack with tkf := { s.tack.tkf with trial := false } } } else s
      let s := setF (setF s Fld.TCK_ROLLBACK_OSF_SVN (imageSvn (some i))) Fld.EVT_SVC_PHASE 2
      showTack { s with sys := { s.sys with ostlerUp := true, kick := s.time, trialDue := s.tack.osf.trial && !alt } }

/-- R451, R487: the boot. `kat`: the known-answer tests pass and no TEST contact is high; `fuses`: no fuse word reads uncorrectable (R447)
(DEDUCED: log entry 228). -/
def boot (s : State) (kat fuses : Bool) : State :=
  if s.pwr.rails ≠ .valid ∨ s.sys.ostlerUp ∨ phaseHeld s ≠ 1 ∨ s.tack.romStop ∨ s.tack.runTkf.isSome then s
  else
    let stop := { s with tack := { s.tack with romStop := true } }
    if !(kat && fuses) then stop
    else
      match pickImage s 1 s.tack.tkf with
      | none => stop
      | some (i, alt, fails) =>
        let s := if alt then setF (altEvent s 1 fails) Fld.TCK_STATUS_TKF_ALT 1 else s
        let s := { s with tack := { s.tack with runTkf := some i } }
        let s := addF (setF s Fld.TCK_ROLLBACK_TKF_SVN (imageSvn (some i))) Fld.TCK_BOOTS_COUNT 1
        bootOstler (signerBoot s)

/-! The ostler's restart (R241, R444, R471, R472). -/

/-- The ostler is restarted, for a cause of event 0xD005. The third restart within 600 s escalates to a package reset.
(DEDUCED: log entry 171). -/
def ostlerRestart (s : State) (cause : Nat) : State :=
  if !firmwareRuns s then s
  else
    let s := setF s Fld.ECC_OHOLD_HOLD 1
    let s := farStop s
    let s := addF s Fld.EVT_RSTCAUSE_ORESTARTS 1
    let s := [0, 1, 2, 3].foldl (fun s c =>
      let x := getHost s c
      let s := putHost s c { x with restarts := (x.restarts + 1) % 256 }
      if phaseHeld s = 7 then setMb s c .restarting else s) s
    let recent := (s.time :: s.sys.restarts).filter (fun t => decide ((s.time - t).toNat < 600000000000))
    let s := failBuild (failBuild s 12 false false 0) 12 false false 0
    let s := { s with loft := { s.loft with migrating := false } }
    let s := { s with sys := { s.sys with ostlerUp := false, restarting := some cause, restarts := recent } }
    if 3 ≤ recent.length then
      let again := s.sys.escalated.any (fun t => decide ((s.time - t).toNat < 3600000000000))
      let now := s.time
      let t := packageResetUp s 3
      { t with sys := { t.sys with escalated := some now, held := again } }
    else if phaseHeld s ≠ 7 then setF s Fld.EVT_SVC_PHASE 2
    else s

/-- R471: the watchdog's period has passed with no kick. -/
def watchdogExpired (s : State) : Bool :=
  let ms := getF s Fld.EVT_WDOG_MS
  firmwareRuns s && decide ((if ms = 0 then 1000 else ms) * 1000000 ≤ (s.time - s.sys.kick).toNat)

/-- R444: every command taken and not completed ends with RESTARTED. -/
def endCommands (s : State) : State :=
  [0, 1, 2, 3].foldl (fun s c => ((getHost s c).cmds.filter (fun k => k.ended.isNone)).foldl (fun s k => finishCmd s c k.id 0x000D 0) s) s

/-- R444, R260: admitted batches are aborted and their references released. -/
def abortBatches (s : State) : State :=
  let s := s.serve.batches.foldl (fun s b => refOp s b.bay true (b.reqs.filter (·.bound)).length) s
  freeMigrated { s with serve := { s.serve with batches := [] } }

/-- R444: every session's cache is discarded; the sessions stay open. -/
def discardCaches (s : State) : State :=
  { s with serve := { s.serve with sessions := s.serve.sessions.map (fun x => { x with tokens := 0, gen := 0, lost := true }) } }

/-- R471, Table 17.3 step 5: in an ostler restart the ostler image is checked and loaded again, from the second slot where the primary
fails; none where neither passes (DEDUCED: log entry 168). -/
def reloadOstler (s : State) : Option State :=
  match pickImage s 2 s.tack.osf with
  | none => none
  | some (i, alt, fails) =>
    let s := if alt then raiseEv s 0xC001 tackUnit 0 (packDetail [(0, 2), (2, fails)]) else s
    let s := setF (setF s Fld.TCK_STATUS_OSF_ALT (b01 alt)) Fld.TCK_ROLLBACK_OSF_SVN (imageSvn (some i))
    some { s with tack := { s.tack with runOsf := some i }, sys := { s.sys with trialDue := s.tack.osf.trial && !alt } }

/-- R452: MB_STATE reaches READY under a TRIAL ostler image. -/
def trialAccepted (s : State) : State :=
  if s.sys.trialDue then
    showTack { s with sys := { s.sys with trialDue := false }, tack := { s.tack with osf := { s.tack.osf with trial := false } } }
  else s

/-- R444, R471: ostler firmware runs again. -/
def restartEnds (s : State) (cause : Nat) : State :=
  let s := { s with sys := { s.sys with restarting := none, ostlerUp := true, kick := s.time } }
  let s := { s with loft := { s.loft with staged := s.loft.staged.map (fun x => { x with waiter := none }) } }
  let s := discardCaches (abortBatches (endCommands s))
  let s := raiseEv s 0xD005 evtUnit 0 (packDetail [(0, cause), (2, min s.sys.restarts.length 255)])
  let s := if cause = 1 then raiseEv s 0x3007 (unitOf 3 25) s.sys.memErr 0 else s
  let s := calNext (if phaseHeld s = 7 then trialAccepted s else s)
  [0, 1, 2, 3].foldl (fun s c => if (getHost s c).state = .restarting then openMailbox s c else s) s

/-! Start-up (R466). -/

/-- R235: ostler firmware applies the soft repairs and retired pages that its store lists, once after power-on: a package reset keeps what has
been applied. Each repair applied counts in ECC_REPCNT (DEDUCED: log entry 202). -/
def applyStore (s : State) : State :=
  if s.sys.applied then s
  else
    let s := { s with
      integ := { s.integ with retired := s.sys.store.retired, repairsUsed := s.sys.store.repairs }, sys := { s.sys with applied := true } }
    let s := s.sys.store.repairs.foldl (fun s x => addF s Fld.ECC_REPCNT_REPAIRS 1 x.1) s
    s.sys.store.softRows.foldl (fun s x =>
      let a := Reg.MGR_SOFTMAP.addr (x.1 / 64) (x.1 % 64) 0
      let v := (List.zip (List.range 4) x.2).foldl (fun v r => v + (r.2 + 32768) * 2 ^ (16 * r.1)) 0
      setF (wrReg s a (BitVec.ofNat 64 v)) Fld.MGR_SPARE_SROWS (min 4 x.2.length) (x.1 / 64) (x.1 % 64)) s

/-- R465: the events that the boot has kept are raised, the event log being reachable. -/
def raiseBoot (s : State) : State :=
  let s := s.tack.bootEvents.foldl (fun s e => raiseEv s e.1 tackUnit 0 e.2) s
  { s with tack := { s.tack with bootEvents := [] } }

/-- R235, R466 phase 2, R376, R228: what ostler firmware does at its first start after a reset, whatever restarts come before it (R479). -/
def firstStart (s : State) : State :=
  if s.sys.began then s
  else
    let s := applyStore { s with sys := { s.sys with began := true } }
    let s := if s.sys.pkg then raiseEv s 0xD006 evtUnit 0 (getF s Fld.EVT_RSTCAUSE_CAUSE) else s
    let trip := getF s Fld.PWR_LASTTRIP_CAUSE
    let s := if trip ≠ 0 ∧ s.sys.pkg = false then raiseEv s 0x9006 pwrUnit 0 trip else s
    { s with integ := { s.integ with fillDue := s.integ.fillDue ++ [0, 1, 2, 3].filter (fun d => !s.integ.filled.contains d) } }

/-- R466 phase 2, R479: ostler firmware starts, or start-up resumes there after a restart (DEDUCED: log entry 162). -/
def ostlerStart (s : State) : State :=
  let resumed := s.sys.restarting
  let s := raiseBoot { s with sys := { s.sys with restarting := none, ostlerUp := true, kick := s.time } }
  let s := match resumed with
    | some c => restartEnds s c
    | none => s
  setF (writeIdentity (firstStart s)) Fld.EVT_SVC_PHASE 3

/-- R229, R466, R470: a unit that has trained begins its fill, or is READY where it passed one since power-on, whatever OFFLINE holds
(DESIGN CHOICE: log entry 237). -/
def unitTrained (s : State) (u : Nat) : State :=
  let s := { s with tier := { s.tier with trained := s.tier.trained ++ [u] } }
  if s.integ.filled.contains (u + 4) then startLap (setUnitState s u tierReady) (u + 4)
  else { setUnitState s u tierTraining with integ := { s.integ with fillDue := s.integ.fillDue ++ [u + 4] } }

/-- R202: whether a DDR5 population is one of the three. -/
def ddrSound (d : DdrTraining) : Bool :=
  d.sound && decide (d.modules ≤ 2) && (d.modules == 0 || [32, 48, 64, 96, 128].contains d.gib) && (d.ranks == 1 || d.ranks == 2)

/-- The DDR5 tier comes up with every channel ABSENT. -/
def ddrAbsent (s : State) (down : Bool) : State :=
  let s := (List.range 12).foldl (fun s c => setUnitState s (8 + c) tierAbsent) s
  { setF s Fld.DDR_TOP_TOP 0x10000000000 with tier := { s.tier with ddrDown := down } }

/-- R204: the first rate, from `n`, at which every channel trains; and the channels that failed at the last one tried. -/
def trainRates : Nat → Nat → List DdrTry → Option Nat × Nat
  | 0, _, _ => (none, 0)
  | k + 1, n, l =>
    let f := l.headD []
    if f.isEmpty then (some n, 0)
    else if k = 0 then (none, (List.range 12).foldl (fun m c => m + b01 (f.any (fun x => x.val == c)) * 2 ^ c) 0)
    else trainRates k (n + 1) l.tail

/-- R203, R204: DDR5 training; after a package reset at the last rate only. -/
def trainDdr (s : State) (d : DdrTraining) : State :=
  if !ddrSound d then raiseEv (ddrAbsent s true) 0xD003 evtUnit 0 1
  else if d.modules = 0 then ddrAbsent s false
  else
    let r := if s.sys.pkg then trainRates 1 s.tier.speed d.fails else trainRates 3 0 d.fails
    match r.1 with
    | none => raiseEv (ddrAbsent s true) 0xD003 evtUnit 0 (packDetail [(0, 2), (2, r.2)])
    | some rate =>
      let s := { s with tier := { s.tier with ranks := d.ranks, speed := rate, ddrDown := false } }
      let s := setF s Fld.DDR_TOP_TOP (0x10000000000 + 12 * d.modules * d.gib * 0x40000000)
      (List.range 12).foldl (fun s c =>
        let s := setF (setF (setF s Fld.DDR_ID_MODULES d.modules c) Fld.DDR_ID_MODGIB d.gib c) Fld.DDR_STATUS_SPEED rate c
        unitTrained s (8 + c)) s

/-- R466 phase 3: the stacks of `hbm` train, and the DDR5 tier as `d` says. -/
def trainMemory (s : State) (hbm : Nat) (d : DdrTraining) : State :=
  let s := (List.range 8).foldl (fun s k => if bitOf hbm k then unitTrained s k else setUnitState s k tierAbsent) s
  let s := trainDdr s d
  { s with sys := { s.sys with memDone := true } }

/-- R301, R334, R466: the self-calibrations of start-up have ended: banks 0 to 18 start, and the farrier, and then the light sequence. -/
def lightGoes (s : State) : State :=
  match s.sys.lightDue with
  | some (lock0, lock1, sws) =>
    if calibrating s || !firmwareRuns s then s
    else
      let s := startBanks { s with sys := { s.sys with lightDue := none, lightDone := true } }
      assignWrite (farCtrlWrite s true false false) lock0 lock1 sws
  | none => s

/-- R466 phase 5, R301: every converter calibrates itself, all at once, and what follows waits for them. -/
def lightPhase (s : State) (lock0 lock1 : Bool) (sws : List RingSweep) : State :=
  let s := (List.range 48).foldl (fun s m => monCtrlWrite s m false false true) s
  { s with sys := { s.sys with lightDue := some (lock0, lock1, sws) } }

/-! The fault ladder (R477). -/

/-- R477, R168: ostler firmware clears the channels of shunter `n` that have halted, with DROP_SHADOW, where a CLEAR is accepted
(DEDUCED: log entry 226). -/
def clearHalted (s : State) (n : Nat) : State :=
  let k := shuStall n
  (List.range 8).foldl (fun s c =>
    let x := getChan s n c
    let idle := (getStall s k).state == .stopped && (getStall s k).issue.isEmpty
    if (x.state == .halted || x.halting != 0) && (idle || !(x.bindW || x.bindI || x.bindD)) then chanCtrlWrite s n c true true else s) s

/-- R477: what ostler firmware does when it takes an event of a shed or a stream. -/
def firmwareActs (s : State) (r : EventRec) : State :=
  if r.code = 0x2001 ∨ r.code = 0x2002 then shedHalted s (r.unit % 256 % 64)
  else if r.code = 0x4012 ∨ r.code = 0x4014 then clearHalted s (r.unit % 256 % 96)
  else if r.code = 0x4020 then
    let n := r.unit % 256 % 96
    clearHalted (clearHalted s n) (24 * (n / 24) + bitsOf r.detail 24 8 / 8 % 24)
  else s

/-- R478, R440, R477: ostler firmware takes the head record, copies it to the event rings, and acts on it (DEDUCED: log entry 226). -/
def popEvent (s : State) : State :=
  match s.ev.queue with
  | [] => s
  | r :: _ => firmwareActs (takeEvent s) r

/-! Service levels (R473 to R475). -/

/-- R473: the digital set. The M islands of the compute dies run while the rails are valid; which banks the shed program uses is free (DESIGN CHOICE: log
entry 251) (DESIGN CHOICE: log entry 251). -/
def digitalSet (s : State) : Bool :=
  s.pwr.rails == .valid && firmwareRuns s && s.tack.runTkf.isSome && decide (2 ≤ hostState s 0)
    && (List.range 8).any (fun k => unitState s k == tierReady && s.integ.filled.contains (4 + k))
    && (List.range 4).any (fun d => (List.range 16).any (fun j => (getShed s (16 * d + j)).state != .offline)
        && (List.range 64).any (fun b => !bitOf (getF s Fld.MGR_OFFLINE_OFF d) b)
        && (List.range 64).all (fun b => !bitOf (getF s Fld.MGR_OFFLINE_OFF d) b || !Config.programUses d b))

/-- R474: whether stall `k` gives optical service. -/
def stallServes (s : State) (k : Nat) : Bool :=
  let m := 12 * (k / 4)
  combState s (feedOf s (k / 8)) == combLocked && bankState s k == bankRun && bankState s (ringLoop k / 256) == bankRun
    && lpF s Fld.RN_LP_RUN_FREEZE (ringLoop k) == 0
    && (List.range 12).all (fun i => monState s (m + i) != monStopped)
    && (getStall s k).state != .offline && getF s Fld.LTE_RING_STATUS_OOS 0 k == 0 && getF s Fld.FAR_STALL_STATUS_CAL k == 1
    && s.sys.katStall.contains k

/-- Table 18.3: the units of the row FULL (DEDUCED: log entry 172). -/
def fullSet (s : State) : Bool :=
  (List.range 16).all (stallServes s) && (List.range 64).all (fun i => (getShed s i).state != .offline && s.sys.katShed.contains i)
    && (List.range 8).all (fun k => unitState s k == tierReady) && combState s 0 == combLocked && combState s 1 == combLocked
    && !s.tier.ddrDown && (List.range 12).all (fun c => unitState s (8 + c) == tierReady || getF s Fld.DDR_ID_MODULES c == 0)

/-- R475, R491, Table 18.3: the service level, after service ready. -/
def serviceLevel (s : State) : Nat :=
  if !digitalSet s then 5
  else if s.light.dark && !s.light.byFall then 4
  else if s.light.dark || !(List.range 16).any (stallServes s) then 3
  else if fullSet s then 1
  else 2

/-- R475: the level is recomputed after an event; `code` caused it. -/
def levelChange (s : State) (code : Nat) : State :=
  let old := getF s Fld.EVT_SVC_LEVEL
  let new := serviceLevel s
  if phaseHeld s = 7 ∧ firmwareRuns s ∧ new ≠ old then
    raiseEv (setF s Fld.EVT_SVC_LEVEL new) 0xD002 evtUnit 0 (packDetail [(0, new), (4, old), (8, code)])
  else s

/-- R477, R466: ostler firmware sets a shed OFFLINE, a running one once it has stopped. -/
def retireShed (s : State) (i : Nat) : State :=
  let sh := getShed s i
  if sh.state = .offline then s
  else
    let s := putShed s i { sh with plan := .offline }
    if sh.state = .run then shdCtrlWrite s i false true false false else carryPlan s i

/-- R466: a stall whose known-answer operation failed, and a shed whose test program failed, are left OFFLINE. A stall that a hold keeps from its operation
has not failed it (DESIGN CHOICE: log entry 252). -/
def retireFailed (s : State) : State :=
  let sheds := (List.range 64).filter (fun i => !s.sys.katShed.contains i)
  let stalls := (List.range 16).filter (fun k => !s.sys.katStall.contains k && (getStall s k).lte.isEmpty && (getStall s k).thm.isEmpty && !(getStall s k).far)
  stalls.foldl (fun s k => retireStall s k false) (sheds.foldl retireShed s)

/-- R466 phase 6, R252, R452: service ready. `katStall`, `katShed`: the known-answer operations and test programs that passed.
(DESIGN CHOICE: log entry 252). -/
def serviceReady (s : State) (katStall katShed : Nat) : State :=
  if phaseNow s ≠ 6 ∨ !firmwareRuns s then s
  else
    let s := placeStaging s 0
    let s := { s with sys := { s.sys with
      katStall := (List.range 16).filter (bitOf katStall), katShed := (List.range 64).filter (bitOf katShed) } }
    let s := retireFailed s
    let level := serviceLevel s
    let s := setF (setF s Fld.EVT_SVC_LEVEL level) Fld.EVT_SVC_PHASE 7
    let s := setF (setF s Fld.HPT_CFG_AP_ALLOW 1) Fld.HPT_CFG_RD_ALLOW 1
    let s := trialAccepted s
    let s := [0, 1, 2, 3].foldl (fun s c => if (getHost s c).state = .booting then openMailbox s c else s) s
    raiseEv s 0xD001 evtUnit 0 (packDetail [(0, level), (4, b01 s.sys.pkg), (5, (s.time - s.sys.startTime).toNat / 1000000 % 2 ^ 32)])

/-- R452: a trial ostler image is reverted. The event is raised by the boot that follows, the log being emptied. -/
def revertTrial (s : State) : State :=
  let o := s.tack.osf
  let s := { s with tack := { s.tack with osf := { primary := o.second, second := o.primary, trial := false } } }
  let s := packageResetUp (showTack s) 2
  { s with tack := { s.tack with bootEvents := s.tack.bootEvents ++ [(0xC007, 2)] } }

end Sys2Proof.Machine
end

