-- ==== Sys2Proof/Machine/View.lean ====
section
/-! DEFINITION. What the registers read: most read the value held for them; some read state that has another home. -/
namespace Sys2Proof.Machine

/-- Whether two descriptions are of one register. -/
def RegDesc.is (d e : RegDesc) : Bool := d.blk == e.blk && d.lo == e.lo && d.off == e.off

/-- Table 4.8: STL_STATUS. -/
def stlStatus (s : State) (k : Nat) : Nat :=
  let x := getStall s k
  let unbegun := if x.strings = .load then x.staged.length - 1 else x.staged.length
  packDetail [(0, x.state.code), (2, getF s Fld.STL_CFG_RANGE k), (3, b01 (!x.thm.isEmpty)), (4, b01 (!x.lte.isEmpty)),
    (5, b01 x.far), (7, b01 x.active.loaded), (8, b01 x.awaiting), (9, b01 (decide (0 < unbegun))),
    (10, x.issue.length), (13, x.recordsUsed), (15, b01 (x.issue.any (·.remainder))), (16, b01 x.lastDir)]

/-- Table 4.8: STL_TILE. -/
def stlTile (s : State) (k : Nat) : Nat :=
  let x := getStall s k
  let one (loaded : Bool) (t : NodeTile) : Nat :=
    if loaded then packDetail [(0, if t.dark then 0 else t.et), (8, t.fmt), (11, b01 (!t.pois.isEmpty))] else 0
  packDetail [(0, one x.active.loaded x.active.tile), (12, one x.awaiting x.idle.tile)]

/-- Table 5.10: the threads of a shed that satisfy a test. -/
def threadsWhere (s : State) (i : Nat) (p : Thread → Bool) : Nat := ((getShed s i).thr.filter (fun x => p x.2)).length

/-- Table 5.10: SHD_STATUS; a thread in handler mode is counted in HANDLER only (DEDUCED: log entry 28). -/
def shdStatus (s : State) (i : Nat) : Nat :=
  packDetail [(0, (getShed s i).state.code), (2, threadsWhere s i (fun t => t.running && !t.handler)), (11, threadsWhere s i (·.handler))]

/-- Table 5.10: SHD_THR_RUN `j`. -/
def shdThrRun (s : State) (i j : Nat) : Nat :=
  packDetail ((List.range 32).map (fun b => (b, b01 (getThread s i (32 * j + b)).running)))

/-- Table 6.10: SHU_STATUS. -/
def shuStatus (s : State) (n : Nat) : Nat :=
  packDetail ([(0, (getShu s n).state.code), (2, (getShu s n).outstanding)] ++
    (List.range 8).map (fun c => (12 + c, b01 ((getChan s n c).state == .wait || (getChan s n c).state == .active))))

/-- Table 6.11: the number that SHU_CHn_STATUS.STATE gives a state. -/
def ChanSt.code : ChanSt → Nat
  | .idle => 0
  | .wait => 1
  | .active => 2
  | .halted => 3

/-- R174, R191: WAITING and WAIT_SID of a channel. -/
def chanWaiting (s : State) (n c : Nat) : Nat × Nat :=
  match chanNext s n c with
  | .waitSid i asProd => (if asProd then 1 else 2, i)
  | .waitPort => (3, 0)
  | _ => (0, 0)

/-- Table 6.11: SHU_CHn_STATUS. -/
def shuChStatus (s : State) (n c : Nat) : Nat :=
  let x := getChan s n c
  let w := chanWaiting s n c
  packDetail [(0, x.state.code), (2, b01 x.shadow.isSome), (3, x.hcause), (5, w.1), (8, w.2), (16, x.outstanding)]

/-- R191: SHU_CHn_WAITCNT. -/
def shuChWaitcnt (s : State) (n c : Nat) : Nat :=
  let x := getChan s n c
  match chanNext s n c with
  | .waitSid i asProd => if x.waitOn = some (i, asProd) then x.waitCnt else 0
  | _ => 0

/-- Table 6.12: SID_PTR and SID_PARTY. -/
def sidPtrReg (s : State) (d i : Nat) : Nat :=
  packDetail [(0, (getSid s d i).head), (8, sidTail s d i), (16, (getSid s d i).fill)]
def sidPartyReg (s : State) (d i : Nat) : Nat :=
  packDetail [(0, (getSid s d i).prod.getD 0xFF), (8, (getSid s d i).cons.getD 0xFF)]

/-- Table 11.8: TRM_STATUS of channel `ch`. -/
def trmStatus (s : State) (ch : Nat) : Nat :=
  let t := getTrim s ch
  packDetail [(0, trmTap s ch), (12, b01 t.x2), (13, b01 t.parked), (14, b01 t.hold.isSome), (15, b01 (trmClamp s ch))]

/-- R431: the conditions that a channel puts on ATTN_N: completions, records, notice. -/
def attnCq (x : HChan) : Bool := bitOf x.attnCfg 0 && x.cqTail != x.cqHead
def attnEvt (x : HChan) : Bool := bitOf x.attnCfg 1 && x.evtTail != x.evtHead

/-- R431: ATTN_N is low. -/
def attnLow (s : State) : Bool :=
  (List.range 4).any (fun c => attnCq (getHost s c) || attnEvt (getHost s c) || (getHost s c).notice)

/-- Table 16.15: HPT_ATTN. -/
def hptAttn (s : State) : Nat :=
  packDetail ([(0, b01 (attnLow s))] ++ (List.range 4).flatMap (fun c => let x := getHost s c
    [(1 + c, b01 (attnCq x)), (5 + c, b01 (attnEvt x)), (9 + c, b01 x.notice)]))

/-- Table 18.7: the word `j` of the head record. -/
def evtHead (s : State) (j : Nat) : Nat :=
  match s.ev.queue with
  | [] => 0
  | r :: _ => ofBytes (((r.bytes false).drop (4 * j)).take 4)

/-- The registers with bits that have another home: what those bits read, by window and indices. -/
def viewList : List (RegDesc × (State → Nat → Nat → Nat → Nat)) :=
  [(Reg.STL_STATUS, fun s w _ _ => stlStatus s w),
   (Reg.STL_TILE, fun s w _ _ => stlTile s w),
   (Reg.SHD_STATUS, fun s w _ _ => shdStatus s w),
   (Reg.SHD_THR_RUN, fun s w i _ => shdThrRun s w i),
   (Reg.SHU_STATUS, fun s w _ _ => shuStatus s w),
   (Reg.SHU_CH_STATUS, fun s w i _ => shuChStatus s w i),
   (Reg.SHU_CH_WAITCNT, fun s w i _ => shuChWaitcnt s w i),
   (Reg.SHU_TQ_STATUS, fun s w _ _ => (getStall s (shuStall w)).tq.length),
   (Reg.SID_PTR, fun s w i _ => sidPtrReg s w i),
   (Reg.SID_SEQ, fun s w i _ => (getSid s w i).seq % 2 ^ 32),
   (Reg.SID_PARTY, fun s w i _ => sidPartyReg s w i)] ++
  [(Reg.GRM_CUR, fun s _ i _ => min (lapMs s i) (2 ^ 32 - 1)),
   (Reg.LTE_STATUS, fun s _ _ _ => ringsInService s * 128),
   (Reg.LTE_RING_STATUS, fun s _ i _ => heaterCode s i * 4096),
   (Reg.TRM_STATUS, fun s w i _ => trmStatus s (256 * w + i)),
   (Reg.RN_STATUS, fun s _ _ _ => packDetail ((List.range 24).map (fun b => (b, b01 (bankState s b == bankRun))))),
   (Reg.RN_FEMAP, fun s _ i _ => packDetail ((List.range 32).map (fun b =>
      (b, getF s Fld.RN_LP_STAT_FAULT ((32 * i + b) / 256) ((32 * i + b) % 256))))),
   (Reg.RN_LP_STAT, fun s w i _ => getF s Fld.RN_LP_RUN_FREEZE w i * 2 ^ 23),
   (Reg.HPT_ATTN, fun s _ _ _ => hptAttn s),
   (Reg.EVT_COUNT, fun s _ _ _ => s.ev.queue.length),
   (Reg.EVT_SVC, fun s _ _ _ => phaseNow s * 16),
   (Reg.EVT_HEAD, fun s _ i _ => evtHead s i)]

/-- Registers that hold no bits of their own: all they read is computed. -/
def viewOnly (d : RegDesc) : Bool :=
  !(d.is Reg.SHU_TQ_STATUS || d.is Reg.LTE_STATUS || d.is Reg.LTE_RING_STATUS || d.is Reg.RN_LP_STAT || d.is Reg.EVT_SVC)

/-- The value a register reads (R11; the read-clear effect apart). -/
def regValue (s : State) (d : RegDesc) (w i k : Nat) : Nat :=
  match viewList.find? (fun v => v.1.is d) with
  | some v => if viewOnly d then v.2 s w i k else
      (rdReg s (d.addr w i k) &&& ~~~(if d.is Reg.EVT_SVC then (0x70 : W64) else 0)).toNat + v.2 s w i k
  | none => (rdReg s (d.addr w i k)).toNat

end Sys2Proof.Machine
end

