-- ==== Sys2Proof/Machine/Bus.lean ====
section
/-! DEFINITION. Register accesses (R8 to R15, R25, R498): which register an access reaches, what a read returns, what a write does. -/
namespace Sys2Proof.Machine

/-- R15: the register byte at an address, as a requester sees it. -/
def visibleAt (req : Requester) (addr : Nat) : Option RegByte :=
  match regByteAt addr with
  | none => none
  | some r => if r.desc.bridleOnly && !req.bridle then none else some r

/-- What an access of `width` bytes reaches (R9, R10, R14). -/
inductive Target
  | unassigned
  | whole (r : RegByte)
  | half (r : RegByte) (high : Bool)
  | bad

/-- R9, R10, R14: what an access reaches. -/
def busTarget (req : Requester) (addr width : Nat) : Target :=
  let hits := (List.range width).filterMap (fun j => visibleAt req (addr + j))
  match hits with
  | [] => .unassigned
  | r :: _ =>
    if hits.length ≠ width ∨ (visibleAt req addr).isNone then .bad
    else if r.byte = 0 ∧ width = r.desc.bytes then .whole r
    else if r.desc.bytes = 8 ∧ width = 4 ∧ (r.byte = 0 ∨ r.byte = 4) then .half r (r.byte == 4)
    else .bad

/-- The address of the register a byte belongs to. -/
def RegByte.addr (r : RegByte) : Nat := r.desc.addr r.w r.i r.k

/-- The bits with an access code RW, W1C, WO or RC of a register. -/
def RegByte.rwBits (r : RegByte) : W64 := BitVec.ofNat 64 (r.desc.rw r.i)

/-- R10: what a requester holds for a register. -/
def halfOf (l : List HalfHold) (req : Requester) (addr : Nat) : Option Nat :=
  (l.find? (fun h => h.req == req && h.addr == addr)).map (·.val)

/-- R9: an access that ends in a bus error is an access to each register it touches. -/
def busTouch (s : State) (req : Requester) (addr width : Nat) : State :=
  ((List.range width).filterMap (fun j => visibleAt req (addr + j))).foldl (fun s r => busForget s req r.addr) s

/-- How an access ended. -/
def setReply (s : State) (r : Reply) : State := { s with bus := { s.bus with reply := r } }

/-- R11, R12: a read clears the RC fields of a register. -/
def readClear (s : State) (r : RegByte) : State :=
  if r.desc.rc = 0 then s else wrReg s r.addr (rdReg s r.addr &&& ~~~(BitVec.ofNat 64 r.desc.rc))

/-- R9 to R11, R14: a read of `width` bytes. -/
def busRead (s : State) (req : Requester) (addr width : Nat) : State :=
  match busTarget req addr width with
  | .unassigned => setReply s (.data 0)
  | .bad => setReply (busTouch s req addr width) .busError
  | .whole r => setReply (readClear (busForget s req r.addr) r) (.data (regValue s r.desc r.w r.i r.k))
  | .half r high =>
    let v := regValue s r.desc r.w r.i r.k
    let t := busForget s req r.addr
    if high then
      setReply t (.data ((halfOf s.bus.latched req r.addr).getD (v / 2 ^ 32)))
    else
      let t := readClear t r
      let t := { t with bus := { t.bus with latched := t.bus.latched ++ [⟨req, r.addr, v / 2 ^ 32⟩] } }
      setReply t (.data (v % 2 ^ 32))

/-- R11, R13: the fields of a register by their access codes. -/
def writeFields (s : State) (r : RegByte) (v : W64) : State :=
  let old := rdReg s r.addr
  let kept := old &&& ~~~r.rwBits &&& ~~~(v &&& BitVec.ofNat 64 r.desc.w1c)
  wrReg s r.addr (kept ||| (v &&& r.rwBits))

/-- R471: a write of EVT_WDOG.KICK. -/
def kickWrite (s : State) : State := { s with sys := { s.sys with kick := s.time } }

/-- A write of EVT_CTRL: POP (R478), PKGRESET with its key (R468). -/
def evtCtrlWrite (s : State) (v : Nat) : State :=
  let s := if bitOf v 0 then popQueue s else s
  if bitOf v 16 ∧ bitsOf v 8 8 = 0xB5 then packageResetUp s 4 else s

/-- A write of EVT_WDOG: MS, and KICK (R471). -/
def evtWdogWrite (s : State) (v : Nat) : State :=
  let s := setF s Fld.EVT_WDOG_MS (v % 65536)
  if bitOf v 31 then kickWrite s else s

/-- SID_DLWIN: values outside 16 to 30 read and act as 20 (Table 6.12). -/
def dlwinWrite (s : State) (d v : Nat) : State :=
  let l := v % 32
  setF s Fld.SID_DLWIN_LOG2 (if 16 ≤ l ∧ l ≤ 30 then l else 20) d

/-- SHU_CHn_ARM: the address waits for its arm result (R161). -/
def chanArmWrite (s : State) (n c addr : Nat) : State :=
  let x := getChan s n c
  putChan s n c { x with arms := x.arms ++ [addr % 2 ^ 48] }

/-- The configuration register of a converter that index `i` of an array names. -/
def seqReg (i : Nat) : MonReg := if h : i < 400 then .seq ⟨i, h⟩ else .calf
def accReg (f : Fin 128 → MonReg) (i : Nat) : MonReg := if h : i < 128 then f ⟨i, h⟩ else .calf

/-- The window of an outer index of DRV_RXWIN. -/
def portReg (p : Nat) : DrvCfgReg := if h : p < 8 then .cfg ⟨p, h⟩ else .herdIndex

/-- What a write does beyond its fields: by requester, window, index and the value written. -/
abbrev WriteAct := State → Requester → Nat → Nat → Nat → State

/-- Blocks 0x00 to 0x03: registers whose writes act. -/
def writeActsA : List (RegDesc × WriteAct) :=
  [(Reg.STL_CTRL, fun s _ w _ v => stlCtrlWrite s w (bitOf v 0) (bitOf v 1) (bitOf v 2)),
   (Reg.STL_CFG, fun s req w _ v => stlCfgWrite s req w (v % 4)),
   (Reg.STL_RESET, fun s req w _ v => stlResetWrite s req w (v % 2)),
   (Reg.SHD_CTRL, fun s _ w _ v => shdCtrlWrite s w (bitOf v 0) (bitOf v 1) (bitOf v 2) (bitOf v 3)),
   (Reg.SHD_CFG, fun s _ w _ v => shdCfgWrite s w (Reg.SHD_CFG.addr w 0 0) (v % 2)),
   (Reg.SHD_COREDIS, fun s _ w _ v => shdCfgWrite s w (Reg.SHD_COREDIS.addr w 0 0) (v % 2 ^ 32)),
   (Reg.SHD_ENTRY, fun s _ w _ v => shdCfgWrite s w (Reg.SHD_ENTRY.addr w 0 0) (v / 4 * 4)),
   (Reg.SHD_TRAPVEC, fun s _ w _ v => shdCfgWrite s w (Reg.SHD_TRAPVEC.addr w 0 0) (v / 4 * 4)),
   (Reg.SHD_THR_EN, fun s _ w i v => shdCfgWrite s w (Reg.SHD_THR_EN.addr w i 0) (v % 2 ^ 32))] ++
  [(Reg.SHU_CTRL, fun s _ w _ v => shuCtrlWrite s w (bitOf v 0) (bitOf v 1)),
   (Reg.SHU_SEED, fun s _ w _ v => shuSeedWrite s w (BitVec.ofNat 64 v)),
   (Reg.SHU_CLASS, fun s _ w i v => shuClassWrite s w i (v % 2 ^ 32)),
   (Reg.SHU_TQ_ARM, fun s _ w _ v => tqArmWrite s (shuStall w) (v % 2 ^ 48)),
   (Reg.SHU_CH_ARM, fun s _ w i v => chanArmWrite s w i v),
   (Reg.SHU_CH_CTRL, fun s _ w i v => if bitOf v 0 then chanCtrlWrite s w i true (bitOf v 1) else s),
   (Reg.SBX_INC, fun s _ w i v => addF s Fld.SBX_CNT_COUNT (v % 2 ^ 32) w i),
   (Reg.SID_BASE, fun s _ w i v => sidCfgWrite s w i Reg.SID_BASE (BitVec.ofNat 64 v)),
   (Reg.SID_CFG, fun s _ w i v => sidCfgWrite s w i Reg.SID_CFG (BitVec.ofNat 64 v)),
   (Reg.SID_ELEMS, fun s _ w i v => sidCfgWrite s w i Reg.SID_ELEMS (BitVec.ofNat 64 v)),
   (Reg.SID_SBX, fun s _ w i v => sidCfgWrite s w i Reg.SID_SBX (BitVec.ofNat 64 v))] ++
  [(Reg.SID_PUB, fun s _ w i v => sidPubWrite s w i (v % 128)),
   (Reg.SID_REL, fun s _ w i v => sidRelWrite s w i (v % 128)),
   (Reg.SID_CTRL, fun s _ w i v => sidCtrlWrite s w i (v % 2)),
   (Reg.SID_DLWIN, fun s _ w _ v => dlwinWrite s w v),
   (Reg.MGR_HND, fun s _ w _ v => hndWrite s w v),
   (Reg.MGR_SOFTREP, fun s _ w _ v => softRepWrite s w (bitsOf v 0 6) (bitsOf v 6 13)),
   (Reg.ECC_HND, fun s _ w _ v => hndWrite s (4 + w) v),
   (Reg.GRM_CTRL, fun s _ _ _ v => grmCtrlWrite s v),
   (Reg.ECC_FLIP_CTRL, fun s _ _ _ v => flipCtrlWrite s (bitOf v 0) (bitOf v 1))]

/-- A write of LTE_CTRL: DARK, ASSIGN, RESTORE and RELIGHT (R275, R286, R356). What the sequence measures, which the rows of ASSIGN, RESTORE
and RELIGHT carry, is free (log entry 74). -/
def lteCtrlWrite (s : State) (v : Nat) : State :=
  let f := Config.lightSeen s.freeCtr
  let s := drawn s
  let s := if bitOf v 2 then goDark s else s
  let s := if bitOf v 0 then assignWrite s f.1 f.2.1 f.2.2 else if bitOf v 3 then relightWrite s f.1 f.2.1 f.2.2 else s
  if bitOf v 1 then restoreWrite s f.1 f.2.1 else s

/-- Blocks 0x04 to 0x08. -/
def writeActsB : List (RegDesc × WriteAct) :=
  [(Reg.HBM_CFG, fun s _ w _ v => tierCfgWrite s w (bitOf v 0)),
   (Reg.DDR_CFG, fun s _ w _ v => tierCfgWrite s (8 + w) (bitOf v 0)),
   (Reg.LFT_SWITCH, fun s _ _ _ v => (loftSwitch s (v % 2)).1),
   (Reg.LFT_REFOP, fun s _ _ _ v => refOp s (v % 2) (bitOf v 1) (bitsOf v 2 16)),
   (Reg.LFT_BAY_SET, fun s _ _ i v => baySet s i (v % 8)),
   (Reg.LTE_CTRL, fun s _ _ _ v => lteCtrlWrite s v),
   (Reg.LTE_CFG, fun s _ _ _ v => lteCfgWrite s v),
   (Reg.LTE_WIDE, fun s _ _ _ v => setWide s (v % 16)),
   (Reg.LTE_RING_CFG, fun s _ _ i v => ringCfgWrite s i v),
   (Reg.LTE_RING_CTRL, fun s _ _ i v => ringCtrlWrite s i (bitOf v 0) (bitOf v 1) (bitOf v 2))] ++
  [(Reg.MON_CTRL, fun s _ w _ v => monCtrlWrite s w (bitOf v 0) (bitOf v 1) (bitOf v 2)),
   (Reg.MON_CALF, fun s _ w _ v => monCfgWrite s w .calf v),
   (Reg.MON_SEQ, fun s _ w i v => monCfgWrite s w (seqReg i) v),
   (Reg.ACC_CFG, fun s _ w i v => monCfgWrite s w (accReg .cfg i) v),
   (Reg.ACC_REF, fun s _ w i v => monCfgWrite s w (accReg .ref i) v),
   (Reg.ACC_PHASE, fun s _ w i v => monCfgWrite s w (accReg .phase i) v),
   (Reg.TRM_CODE, fun s _ w i v => trmCodeWrite s (256 * w + i) (v % 4096) (bitOf v 12) (bitOf v 13)),
   (Reg.RN_BANK_CTRL, fun s _ _ i v => bankCtrlWrite s i (bitOf v 0) (bitOf v 1))]

/-- Blocks 0x09, 0x0B, 0x0D and 0x0E. -/
def writeActsC : List (RegDesc × WriteAct) :=
  [(Reg.FAR_CTRL, fun s _ _ _ v => farCtrlWrite s (bitOf v 0) (bitOf v 1) (bitOf v 2)),
   (Reg.FAR_TRIG, fun s _ _ _ v => farCfgWrite s (Reg.FAR_TRIG.addr 0 0 0) 0xFFFF v),
   (Reg.FAR_MAXAGE, fun s _ _ _ v => farCfgWrite s (Reg.FAR_MAXAGE.addr 0 0 0) 0xFFFF v),
   (Reg.FAR_NVINT, fun s _ _ _ v => farCfgWrite s (Reg.FAR_NVINT.addr 0 0 0) 0xFFFF v),
   (Reg.FAR_STALL_CTRL, fun s _ w _ v => farStallCtrlWrite s w (bitOf v 0) (bitOf v 1)),
   (Reg.FAR_PORT_LANERUN, fun s _ w _ v => farLaneRunWrite s w v)] ++
  [(Reg.DRV_CTRL, fun s _ w _ v => drvCtrlWrite s w (bitOf v 0) (bitOf v 1)),
   (Reg.DRV_CFG, fun s _ w _ v => drvCfgWrite s (portReg w) (BitVec.ofNat 64 v)),
   (Reg.DRV_HERD_ID, fun s _ _ _ v => drvCfgWrite s .herdId (BitVec.ofNat 64 v)),
   (Reg.DRV_HERD_INDEX, fun s _ _ _ v => drvCfgWrite s .herdIndex (BitVec.ofNat 64 v)),
   (Reg.DRV_SQ_ARM, fun s _ w _ v => sqArm s w (v % 2 ^ 48)),
   (Reg.DRV_C0TX_ARM, fun s _ w _ v => c0Arm s w (v % 2 ^ 48)),
   (Reg.TCK_HERDMIN, fun s req _ _ v => if req = .ostler then setF s Fld.TCK_HERDMIN_MIN (v % 256) else s),
   (Reg.TCK_ERR, fun s req _ _ v =>
      if req = .ostler then wrReg s (Reg.TCK_ERR.addr 0 0 0) (rdReg s (Reg.TCK_ERR.addr 0 0 0) &&& ~~~(BitVec.ofNat 64 (v % 2))) else s),
   (Reg.EVT_CTRL, fun s _ _ _ v => evtCtrlWrite s v),
   (Reg.EVT_WDOG, fun s _ _ _ v => evtWdogWrite s v)]

/-- The action of a register's write, if it has one of its own (DESIGN CHOICE: log entry 74). -/
def writeAct (d : RegDesc) : Option WriteAct :=
  ((if d.blk < 4 then writeActsA else if d.blk < 9 then writeActsB else writeActsC).find? (fun a => a.1.is d)).map (·.2)

/-- A whole register is written with `v` by a requester that may write any register it reaches. -/
def regWriteAny (s : State) (req : Requester) (r : RegByte) (v : Nat) : State :=
  if r.desc.blk = 8 ∧ 16 ≤ r.desc.lo then loopFieldWrite s (256 * r.w + r.i) (r.addr % 256) v
  else
    match writeAct r.desc with
    | some f => f s req r.w r.i v
    | none => writeFields s r (BitVec.ofNat 64 v)

/-- R24, Table 13.1: the registers the farrier sequencer writes: the correction targets, the set-points of the stalls' phase loops among them,
and its own. -/
def farrierTarget (r : RegByte) : Bool :=
  r.desc.blk == 9 || (r.desc.is Reg.RN_LP_SPK && decide (r.w < 16)) || [Reg.STL_CFG, Reg.STL_DLY_NEAR, Reg.STL_DLY_FAR, Reg.STL_THR_NEAR,
    Reg.STL_THR_FAR, Reg.STL_XFER, Reg.STL_TRIM, Reg.DRV_LTRIM].any r.desc.is

/-- Table 13.1: of STL_CFG the farrier writes RANGE. -/
def farrierValue (s : State) (r : RegByte) (v : Nat) : Nat :=
  if r.desc.is Reg.STL_CFG then v % 2 + 2 * getF s Fld.STL_CFG_OFFLINE r.w else v

/-- R24, R277, R284: the fields the sequencer of the light block writes, in whatever state the ring is. -/
def lightWrite (s : State) (r : RegByte) (v : Nat) : State :=
  if r.desc.is Reg.STL_ID then setF s Fld.STL_ID_LINE (bitsOf v Fld.STL_ID_LINE.lo Fld.STL_ID_LINE.len) r.w
  else if r.desc.is Reg.LTE_RING_CFG then setF s Fld.LTE_RING_CFG_LINE (v % 64) 0 r.i
  else if r.desc.is Reg.LTE_SPARES then wrReg s r.addr (BitVec.ofNat 64 (v % 2 ^ 16))
  else s

/-- R24: a whole register is written with `v`. A write that the farrier or the light block never makes changes nothing
(DESIGN CHOICE: log entry 184). -/
def regWrite (s : State) (req : Requester) (r : RegByte) (v : Nat) : State :=
  match req with
  | .light => lightWrite s r v
  | .farrier => if farrierTarget r then regWriteAny s .farrier r (farrierValue s r v) else s
  | req => regWriteAny s req r v

/-- R9 to R11, R13, R14: a write of `width` bytes. -/
def busWrite (s : State) (req : Requester) (addr width v : Nat) : State :=
  match busTarget req addr width with
  | .unassigned => setReply s .done
  | .bad => setReply (busTouch s req addr width) .busError
  | .whole r => setReply (regWrite (busForget s req r.addr) req r v) .done
  | .half r high =>
    let t := busForget s req r.addr
    if high then
      match halfOf s.bus.held req r.addr with
      | none => setReply t .busError
      | some lo => setReply (regWrite t req r (lo + v % 2 ^ 32 * 2 ^ 32)) .done
    else setReply { t with bus := { t.bus with held := t.bus.held ++ [⟨req, r.addr, v % 2 ^ 32⟩] } } .done

end Sys2Proof.Machine
end

