-- ==== Sys2Proof/Machine/CmdBus.lean ====
section
/-! DEFINITION. Register access commands (chapter 0), the arrival of event records, and the return of a thread's accesses. -/
namespace Sys2Proof.Machine

/-- R9, R11, R13, R14: a write of `width` bytes at a control-space address. -/
def execRegisterWrite (req : Requester) (addr : BitVec 48) (width : Fin 65) (value : W64) (s : State) : Res :=
  .next (busWrite s req addr.toNat width value.toNat)

/-- R10: the low half of the register at `addr` is written. -/
def execLowHalfWrite (req : Requester) (addr : BitVec 48) (value : W32) (s : State) : Res :=
  .next (busWrite s req addr.toNat 4 value.toNat)

/-- R10: the high half of the register at `addr` is written. -/
def execHighHalfWrite (req : Requester) (addr : BitVec 48) (value : W32) (s : State) : Res :=
  .next (busWrite s req (addr.toNat + 4) 4 value.toNat)

/-- R10: the low half of the register at `addr` is read. -/
def execLowHalfRead (req : Requester) (addr : BitVec 48) (s : State) : Res := .next (busRead s req addr.toNat 4)

/-- R10: the high half of the register at `addr` is read. -/
def execHighHalfRead (req : Requester) (addr : BitVec 48) (s : State) : Res := .next (busRead s req (addr.toNat + 4) 4)

/-- R11, R12: a register is read whole. -/
def execRcRead (req : Requester) (addr : BitVec 48) (width : Fin 65) (s : State) : Res :=
  .next (busRead s req addr.toNat width)

/-- R55: a write of SHU_SEED. -/
def execSeedWrite (reg : ShuAt) (value : W64) (s : State) : Res :=
  .next (shuSeedWrite (busForget s reg.req (Reg.SHU_SEED.addr reg.shu 0 0)) reg.shu value)

/-- R501, R478: the records in flight at the places `idx` arrive in one O-cycle and are entered in ascending UNIT order. -/
def execEventRecordArrival (idx : List Nat) (s : State) : Res :=
  let f := s.ev.inFlight
  let come := (List.range f.length).filterMap (fun i => if idx.contains i then f[i]? else none)
  let stay := (List.range f.length).filterMap (fun i => if idx.contains i then none else f[i]?)
  let sorted := come.mergeSort (fun a b => decide (a.unit ≤ b.unit))
  .next (sorted.foldl enterEvent { s with ev := { s.ev with inFlight := stay } })

/-! Accesses of threads (R139 to R142, R147, R148). -/

/-- The bytes an access reads or writes. -/
def Access.size (a : Access) : Nat :=
  match a.kind with
  | .load n _ => n
  | .store bs => bs.length
  | .vload _ => 64
  | .vstore bs => bs.length
  | .atomic _ n _ _ _ => n

/-- R140, R26: accesses of one thread that share a byte, or a control block, take effect in program order. -/
def Access.before (a b : Access) : Bool :=
  overlaps a.addr a.size b.addr b.size ||
    (inControl a.addr && inControl b.addr && a.addr / 0x1000000 == b.addr / 0x1000000)

/-- R142: what an atomic leaves at its target: function, size, old value, operand, expected value. -/
def atomicFn (func size : Nat) (old operand expect : Nat) : Nat :=
  let w := 8 * size
  let x := operand % 2 ^ w
  match func with
  | 0 => (old + x) % 2 ^ w
  | 1 => Nat.land old x
  | 2 => Nat.lor old x
  | 3 => Nat.xor old x
  | 4 => x
  | 5 => if old = expect % 2 ^ w then x else old
  | 6 => if sext w x < sext w old then x else old
  | 7 => if sext w old < sext w x then x else old
  | 8 => min old x
  | _ => max old x

/-- How the target answers: the state after, the bytes returned, and the cause of an error (Table 5.8), 0 where there is none. -/
structure AccessEnd where
  s : State
  bytes : List Nat
  cause : Nat

/-- R9, R14, R15: an access to control space. -/
def controlAccess (s : State) (req : Requester) (a : Access) : AccessEnd :=
  let wr (bs : List Byte) : AccessEnd :=
    let t := busWrite s req a.addr bs.length (ofBytes (bs.map (·.toNat)))
    ⟨t, [], if t.bus.reply = .busError then 16 else 0⟩
  let rd (n : Nat) : AccessEnd :=
    let t := busRead s req a.addr n
    match t.bus.reply with
    | .data v => ⟨t, toBytes n v, 0⟩
    | _ => ⟨t, [], 16⟩
  match a.kind with
  | .load n _ => rd n
  | .vload _ => rd 64
  | .store bs => wr bs
  | .vstore bs => wr bs
  | .atomic .. => ⟨s, [], 16⟩

/-- R225: the end of a store; one of part of a burst that cannot be read has no effect. -/
def storeEnd (w : State × Bool) (bytes : List Nat) : AccessEnd := ⟨w.1, bytes, if w.2 then 17 else 0⟩

/-- R140, R142, R225, R227: an access to memory. -/
def memoryAccess (s : State) (a : Access) : AccessEnd :=
  if !reachable s a.addr then ⟨s, [], 18⟩
  else
    match a.kind with
    | .store bs => storeEnd (memWriteBytes s a.addr (bs.map (·.toNat))) []
    | .vstore bs => storeEnd (memWriteBytes s a.addr (bs.map (·.toNat))) []
    | .atomic func n _ operand expect =>
      let m := memRead s a.addr n
      if m.failed then ⟨m.s, [], 17⟩
      else
        let v := atomicFn func n (ofBytes m.bytes) operand.toNat expect.toNat
        storeEnd (memWriteBytes m.s a.addr (toBytes n v)) m.bytes
    | _ =>
      let m := memRead s a.addr a.size
      ⟨m.s, m.bytes, if m.failed then 17 else 0⟩

/-- A value narrower than its register: the bits above it are free (log entry 12). -/
def loadValue (n v : Nat) : W64 :=
  BitVec.ofNat 64 (v + (if n < 8 then Config.loadUpper n v % 2 ^ (64 - 8 * n) * 2 ^ (8 * n) else 0))

/-- R148: the destination of an access is written with what came back, or with NaN words. -/
def accessWrite (th : Thread) (a : Access) (e : AccessEnd) : Thread :=
  let bad := e.cause ≠ 0
  match a.kind with
  | .load n rd => th.setX rd (if bad then 0x7FC000007FC00000 else loadValue n (ofBytes e.bytes))
  | .atomic _ n rd _ _ => th.setX rd (if bad then 0x7FC000007FC00000 else loadValue n (ofBytes e.bytes))
  | .vload vd => th.setV vd (if bad then BitVec.ofNat 512 (ofBytes ((List.range 16).flatMap (fun _ => [0, 0, 0xC0, 0x7F])))
      else BitVec.ofNat 512 (ofBytes e.bytes))
  | _ => th

/-- R139, R140, R147, R148: the access at place `idx` of those a thread has outstanding takes effect at its target and returns. A channel above
its limit takes none of class C1 (R138, Table 14.10). -/
def execLoadResultReturn (shed : Fin 64) (thread : Fin 256) (idx : Nat) (s : State) : Res :=
  let th := getThread s shed thread
  match th.out[idx]? with
  | none => .next s
  | some a =>
    if (th.out.take idx).any (fun b => b.before a) ∨ (reachable s a.addr ∧ accepts s a.addr 1 = false) then .next s
    else
      let e := if inControl a.addr then controlAccess s (.shedThread shed thread) a else memoryAccess s a
      let t := accessWrite (getThread e.s shed thread) a e
      let out := t.out.eraseIdx idx
      let errs := if e.cause = 0 then t.errs
        else t.errs ++ [{ cause := e.cause, addr := a.addr, pc := a.pc, preTrap := a.preTrap }]
      .next (putThread e.s shed thread { t with out := out, errs := errs, fence := t.fence && !out.isEmpty })

end Sys2Proof.Machine
end

