-- ==== Sys2Proof/Machine/CmdDrove.lean ====
section
/-! DEFINITION. The commands of the Droveway (chapter 15). -/
namespace Sys2Proof.Machine

/-- R389: a write of DRV_SQ_ARM. -/
def execSendArm (reg : PortAt) (addr : BitVec 48) (s : State) : Res :=
  .next (sqArm (busForget s reg.req (Reg.DRV_SQ_ARM.addr reg.port 0 0)) reg.port addr.toNat)

/-- R384, R390, R403, R407, R408, R411: port `port` begins a lane frame: what is due at the boundary, then data frames and C0 frames on its
lanes; on a star ADMIT frames go in join slots, and lanes that the far end of a link dropped are probed. A port that went down trains again once enough lanes can return.
(DEDUCED: log entry 224). -/
def execLaneFrameStart (port : Fin 8) (s : State) : Res :=
  let p := port.val
  let st := portState s p
  if restarts s p then .next (setF s Fld.DRV_STATUS_STATE portTraining p)
  else if st = portStopped ∨ st = portDownSt then .next s
  else
    let x := getPort s p
    let s := putPort s p { x with
      frame := (x.frame + 1) % 2 ^ 64, air := [], c0air := [], resAir := [], silence := x.silence - 1, backoff := x.backoff.map (· - 1), grants := x.grants.filter (fun g => decide (x.frame < g.1)) }
    let s := frameDue s p
    let x := getPort s p
    let star := portStar s p
    let tx := bitList (laneMask s p false)
    let granted := ((x.grants.filter (fun g => g.1 == x.frame)).flatMap (·.2)).filter (laneOn s p · false)
    let lanes := if star then granted else tx
    if portSuspended s p ∨ portState s p = portDownSt ∨ 0 < (getPort s p).silence then .next s
    else if portState s p = portTraining then
      .next (((List.range 32).filter (fun j => laneRingUp s p j false)).foldl (fun s j => idleAir s p 2 j) s)
    else
      let s := if portState s p = portUp then lanes.foldl (fun s j => placeOn s p j) s else s
      let s := if star then putPort s p (renewAir (getPort s p)) else (List.range 32).foldl (probeLane p) (lanes.foldl (fun s j => idleAir s p 1 j) s)
      let joins := star && (portState s p == portUp || (portState s p == portAdmitting && (getPort s p).backoff.isNone))
      let slots := lanes.flatMap (fun j => [(j, 1), (j, 2)])
      let s := c0Send s p slots
      let s := if joins then c0SendOnly s p true [(255, 4)] else s
      let x := getPort s p
      let idle := fun (q : Nat × Nat) =>
        ({ herd := herdId s, frame := x.frame, src := ownIndex s, epoch := portEpoch s p, dst := 255, lane := q.1, pos := q.2 } : C0Frame)
      .next (if star then s else c0Direct s p ((slots.drop x.c0air.length).map idle))

/-- R391, R405: a lane's data frame is received; `errs`: the symbol errors of its codewords. -/
def execDataFrameReceive (port : Fin 8) (frame : DataFrame) (tagOk : Bool) (errs : List Nat) (s : State) : Res :=
  .next (receiveData s port frame tagOk errs)

/-- R392: an ACK frame from member `src`. -/
def execAckReceive (port : Fin 8) (src : Fin 16) (entries : List AckEntry) (s : State) : Res :=
  .next (entries.foldl (ackEntry src port) s)

/-- R392, R400: a frame has not been accepted within 4 lane frames. Toward a suspended member the timers stop (R409). -/
def execFrameResendTimeout (port : Fin 8) (key : ResendKey) (s : State) : Res :=
  let p := port.val
  let x := getPort s p
  match key with
  | .data num i =>
    let due := x.flight.any (fun o => o.num == num.toNat && !memberSuspended s p o.d.dst &&
      o.out.any (fun g => g.index == i.val && !g.again && decide (g.frame + 4 ≤ x.frame)))
    if due then .next (resend s p num.toNat i) else .next s
  | .c0 k =>
    match x.c0out[k]? with
    | none => .next s
    | some o =>
      if o.again ∨ memberSuspended s p o.f.dst ∨ x.frame < o.frame + 4 then .next s
      else if 8 ≤ o.resends then .next (putPort s p { x with c0out := x.c0out.eraseIdx k })
      else .next (putPort s p { x with c0out := x.c0out.set k { o with again := true } })

/-- R393: every frame of a transfer has been written and acknowledged by memory. -/
def execTransferReceived (port : Fin 8) (src : Fin 16) (xfer : W16) (s : State) : Res :=
  let p := port.val
  let x := getPort s p
  match x.incoming.find? (fun t => t.src == src.val && t.xfer == xfer.toNat) with
  | none => .next s
  | some t =>
    if (List.range t.nframes).all (fun i => t.got.contains i) then
      let s := putPort s p { x with
        incoming := x.incoming.filter (fun u => !(u.src == src.val && u.xfer == xfer.toNat))
        doneIn := ((src.val, xfer.toNat) :: x.doneIn).take 64 }
      .next (if bitOf t.rsbx 14 then sendSbx s (bitsOf t.rsbx 12 2) (bitsOf t.rsbx 0 12) 1 else s)
    else .next s

/-- R393: every frame of a transfer has been accepted. -/
def execTransferDone (port : Fin 8) (xfer : W16) (s : State) : Res :=
  let p := port.val
  let x := getPort s p
  match x.flight.find? (fun o => o.num == xfer.toNat) with
  | none => .next s
  | some o =>
    if o.out = [] ∧ o.next = o.d.nframes then
      let s := countSq (putPort s p { x with flight := x.flight.filter (fun q => q.num != o.num) }) p
      .next (if o.d.doneEn then sendSbx s (bitsOf o.d.doneBox 12 2) (bitsOf o.d.doneBox 0 12) 1 else s)
    else .next s

/-- R403, R396: a join slot is lost: its ADMIT frame is sent again after the backoff. -/
def joinLost (s : State) (p draw : Nat) : State :=
  let s := slotLost s p draw
  let x := getPort s p
  putPort s p { x with c0out := x.c0out.map (fun o => if o.f.type = c0Admit ∧ o.frame = x.frame then { o with again := true } else o) }

/-- R394, R396: a member reserves in a slot and hears its own record back, or does not; `draw` is the generator's draw for the backoff. A leader
counts its own reservation among those it hears (R397). The join slot of a port in ADMITTING has the same backoff (R403). -/
def execReservation (port : Fin 8) (slot : Fin 32) (heard : Bool) (draw : Nat) (s : State) : Res :=
  let p := port.val
  let x := getPort s p
  if portStar s p ∧ portState s p = portAdmitting ∧ x.backoff = none then
    .next (if heard then putPort s p { x with fails := 0, capRaised := false } else joinLost s p draw)
  else
  match wanted s p with
  | none => .next s
  | some r =>
  if portStar s p ∧ portState s p = portUp ∧ portSuspended s p = false ∧ x.silence = 0 ∧ x.backoff = none then
    let x := { x with resAir := x.resAir ++ [({ slot := slot, herd := herdId s, frame := x.frame, epoch := portEpoch s p, req := r } : ResRecord)] }
    if heard then
      .next (putPort s p { x with fails := 0, capRaised := false, unmet := if portLeads s p then mergeReqs x.unmet [r] else x.unmet })
    else .next (slotLost (putPort s p x) p draw)
  else .next s

/-- R396: the frames of a backoff have passed. -/
def execReservationBackoffEnd (port : Fin 8) (s : State) : Res :=
  let x := getPort s port
  if x.backoff = some 0 then .next (putPort s port { x with backoff := none }) else .next s

/-- R394, R397, R399, R405: reservations of strangers are counted. The leader grants the data lanes of the next frame, from the requests it has heard, and sends its grant frame; one that
hears its segment garbled goes silent for 64 to 1,023 frames. Any other member hears the grant: an owner for each lane (255 none), the member
mask, and what is pending (DEDUCED: log entry 223). -/
def execGrant (port : Fin 8) (heard : List ResReq) (owners : List Nat) (news : GrantNews) (s : State) : Res :=
  let p := port.val
  if portStar s p ∧ portState s p = portUp ∧ (getPort s p).silence = 0 then
    let s := (heard.filter (fun r => !admitted s p r.src)).foldl (fun s _ => stranger s p) s
    if portLeads s p then
      let g := leaderGrants s p heard
      let own := fun (j : Nat) => (nmFind g.2 j).getD 255
      let s := sendGrant g.1 p own
      match news.garbled with
      | none => .next (ownGrant s p own)
      | some d => .next (putPort (setF s Fld.DRV_STATUS_LEADER 0 p) p { getPort s p with silence := 64 + d % 960 })
    else .next (ownGrant (takeNews (setF s Fld.DRV_MEMBERS_ADMITTED news.members.toNat p) p news) p (fun j => owners.getD j 255))
  else .next s

/-- R398: a member's C0 frame for its owned slot; with nothing to send, one with its masks. -/
def ownSlotSend (s : State) (p : Nat) : State :=
  let x := getPort s p
  if (c0Ready x).all (fun f => f.type == c0Admit) then
    let f : C0Frame := { herd := herdId s, frame := x.frame, src := ownIndex s, epoch := portEpoch s p, dst := 255, pos := 3, payload := maskBytes s p }
    c0Direct s p [f]
  else c0SendOnly s p false [(255, 3)]

/-- R395: the loop delay measured from an owned slot, in D-cycles; above 14,000 the port goes down, and does not start again by itself
(DESIGN CHOICE: log entry 219). -/
def loopMeasured (s : State) (p delay : Nat) : State :=
  let s := putPort s p { getPort s p with loop := some delay }
  if 14000 < delay ∧ portState s p = portUp then
    let s := portGoesDown s p Config.lateReason.toNat
    putPort s p { getPort s p with wasDown := false }
  else s

/-- R395, R398: a member sends its C0 frame in its owned slot, and hears it after its slot's delay, or does not. -/
def execOwnedSlot (slot : OwnSlot) (s : State) : Res :=
  let p := slot.port.val
  if portStar s p ∧ (portState s p = portUp ∨ portState s p = portStopping) ∧ portSuspended s p = false ∧ (getPort s p).silence = 0 then
    match slot.delay with
    | some d => .next (loopMeasured (ownSlotSend s p) p d)
    | none => .next (ownSlotSend s p)
  else .next s

/-- R398: a member has not been heard in its owned slot for 256 frames. -/
def execMemberSilent (port : Fin 8) (idx : Fin 16) (s : State) : Res :=
  let p := port.val
  let x := getPort s p
  let h : Heard := nmGet (fun _ => {}) x.heard idx
  if portStar s p ∧ portState s p = portUp ∧ idx.val ≠ ownIndex s ∧ memberSuspended s p idx = false ∧ h.at_ + 256 ≤ x.frame then
    .next (memberLeaves s p idx 2)
  else .next s

/-- R399: no leader segment has been heard: for 4 frames, and `idx` is the lowest index heard; or for 64 frames by a port that comes up. -/
def execLeaderElection (port : Fin 8) (idx : Fin 16) (s : State) : Res :=
  let p := port.val
  if portState s p = portAdmitting then (if idx.val = ownIndex s then .next (leadAlone s p) else .next s)
  else if portState s p = portUp ∧ portStar s p ∧ lowestHeard s p = some idx.val then .next (electLeader s p idx)
  else .next s

/-- R399: a HANDOVER frame names the next leader, 8 frames on. -/
def execHandover (port : Fin 8) (idx : Fin 16) (s : State) : Res :=
  let p := port.val
  if portState s p = portUp ∧ admitted s p idx then
    let x := getPort s p
    let s := putPort s p { x with newLeader := some (x.frame + 8, idx.val) }
    .next (if portLeads s p then c0Own s p 255 c0Handover [idx.val] else s)
  else .next s

/-- R400: a write of DRV_C0TX_ARM. -/
def execC0TxArm (req : Requester) (port : Fin 8) (addr : BitVec 48) (s : State) : Res :=
  if req.bridle then .next (c0Arm (busForget s req (Reg.DRV_C0TX_ARM.addr port 0 0)) port addr.toNat) else .next s

/-- R405: an ADMIT frame that is no stranger's whoever sends it: one in a join slot or a tail; and any, to a port that is being admitted and knows
neither members nor key (DEDUCED: log entry 225). -/
def admitOpen (s : State) (p : Nat) (f : C0Frame) : Bool :=
  f.type == c0Admit && (f.pos == 1 || f.pos == 2 || f.pos == 4 || portState s p == portAdmitting)

/-- R406: the lane whose codewords carry a C0 frame. -/
def c0Lane (s : State) (p : Nat) (f : C0Frame) : Nat := if f.lane = 255 then getF s Fld.DRV_CFG_CTLLANE p else f.lane

/-- R398, R400, R405, R406: a C0 frame is received; `errs`: the symbol errors of its codeword. -/
def execC0FrameReceive (port : Fin 8) (frame : C0Frame) (tagOk : Bool) (errs : Nat) (s : State) : Res :=
  let p := port.val
  let s := countErrors s p (c0Lane s p frame) [errs]
  if (codewordErrors [errs]).2 ≠ 0 then .next s
  else if admitOpen s p frame then
    let s := c0Ring s p frame
    .next (if frame.dst = 255 ∨ frame.dst = ownIndex s then oweC0Ack s p frame else s)
  else if frame.herd ≠ herdId s ∨ admitted s p frame.src = false ∨ epochOk s p frame.epoch = false ∨ tagOk = false then .next (stranger s p)
  else if frame.src = ownIndex s then .next s
  else
    let x := getPort s p
    let h : Heard := nmGet (fun _ => {}) x.heard frame.src
    let h := if frame.pos = 3 then { h with at_ := x.frame } else h
    let h := if frame.pos = 3 ∧ frame.type = 0 ∧ 8 ≤ frame.payload.length then
        { h with tx := byteField frame.payload 0 4, rx := byteField frame.payload 4 4 } else h
    let s := putPort s p { x with heard := nmPut (fun _ => {}) x.heard frame.src h }
    if frame.dst = 255 ∨ frame.dst = ownIndex s then
      let s := c0Ring s p frame
      .next (if c0Answered frame then oweC0Ack s p frame else s)
    else .next s

/-- R388: a new epoch is announced: by the leader, whose epoch has lasted 2^30 frames; or to a member, by a KEY frame that names the epoch, the
frame it begins in, its key and the reason. -/
def execEpochChange (port : Fin 8) (reason : Fin 4) (epoch : W32) (starts : KeyStart) (s : State) : Res :=
  let p := port.val
  let x := getPort s p
  if portState s p ≠ portUp then .next s
  else if portLeads s p then
    if reason.val = 3 ∧ x.newEpoch = none ∧ x.epochAt + 2 ^ 30 ≤ x.frame then .next (openEpoch s p 3) else .next s
  else
    .next (putPort s p { x with
      newEpoch := some (epoch.toNat, some starts.frame.toNat, reason.val), keys := x.keys.filter (fun k => k.1 != epoch.toNat) ++ [(epoch.toNat, starts.key)] })

/-- R403, R457: a step of an admission. -/
def execAdmit (port : Fin 8) (msg : AdmitMsg) (s : State) : Res :=
  let p := port.val
  let idx := msg.idx % 16
  let leads := portState s p = portUp ∧ portLeads s p
  let joins := portState s p = portAdmitting
  let turn := if msg.step = 1 ∨ msg.step = 3 then leads else (msg.step = 2 ∨ (msg.step = 4 ∧ (getPort s p).vouched = true)) ∧ joins
  let sign := fun (s : State) => drawn { s with tack := { s.tack with
    signs := s.tack.signs ++ [⟨4 + p, 0, 2, msg.nonce, padNat 97 (Config.ephKey s.freeCtr), 0, idx⟩] } }
  let why := admitRefused s p msg
  if ¬turn then .next s
  else if why ≠ 0 then .next (raiseEv s 0xA007 (portUnit p) 0 (packDetail [(0, p), (3, idx), (7, why)]))
  else
    match msg.step with
    | 1 => .next (sign s)
    | 2 => .next (sign (putPort s p { getPort s p with vouched := true }))
    | 3 =>
      let s := setF s Fld.DRV_MEMBERS_ADMITTED (withBit (getF s Fld.DRV_MEMBERS_ADMITTED p) idx true) p
      let x := getPort s p
      let s := putPort s p { x with heard := nmPut (fun _ => {}) x.heard idx { at_ := x.frame } }
      .next (sendHerdKey (raiseEv s 0xA005 (portUnit p) 0 (packDetail [(0, p), (3, idx)])) p idx (((msg.report.take 1024).drop 544).take 97))
    | _ =>
      let own := ownIndex s
      let s := setF (setF s Fld.DRV_EPOCH_EPOCH (msg.epoch % 2 ^ 32) p) Fld.DRV_STATUS_LEADIDX (msg.leader % 16) p
      let s := setF s Fld.DRV_MEMBERS_ADMITTED (withBit (msg.members % 65536) own true) p
      let x := getPort s p
      let s := putPort s p { x with frame := if portStar s p then msg.frame else x.frame, keys := [(msg.epoch % 2 ^ 32, msg.key)] }
      .next (portComesUp (raiseEv s 0xA005 (portUnit p) 0 (packDetail [(0, p), (3, own), (7, 1)])) p)

/-- R404: a member leaves: by a LEAVE frame, or because the leader's roster no longer names it. -/
def execLeave (port : Fin 8) (idx : Fin 16) (removed : Bool) (s : State) : Res :=
  if idx.val = ownIndex s then .next s
  else if removed ∧ (nmFind s.drove.roster idx).isSome then .next s
  else .next (memberLeaves s port idx (if removed then 3 else 1))

/-- R406, R409, R411: a lane of a port leaves service in a direction: 1 its ring, 2 its errors, 3 the farrier, 4 the far end. -/
def execLaneDrop (port : Fin 8) (lane : Fin 32) (rx : Bool) (cause : Fin 5) (s : State) : Res :=
  let p := port.val
  match cause.val with
  | 1 => if laneRingUp s p lane rx then .next s else .next (dropLane s p lane rx 1)
  | 2 =>
    if rx ∧ laneErrors s p lane then
      if laneOn s p lane true then .next (dropLane s p lane true 2)
      else if laneCause s p lane true = 3 then .next (setF s Fld.DRV_LSTAT_RXCAUSE 2 p lane)
      else .next s
    else .next s
  | 3 => .next (farrierAsks s p lane)
  | 4 => .next (dropLane s p lane rx 4)
  | _ => .next s

/-- R407: a LANEMAP frame of member `src` with its masks; this port's own announces the lanes that return. -/
def execLanemap (port : Fin 8) (src : Fin 16) (tx rx : W32) (s : State) : Res :=
  let p := port.val
  if portState s p ≠ portUp ∧ portState s p ≠ portAdmitting then .next s
  else if src.val = ownIndex s then .next (announceReturn s p)
  else .next (farMasks s p src tx.toNat rx.toNat)

/-- R408: a lane dropped on its errors has been probed for 64 lane frames, with `ucw` uncorrectable codewords; DRV_LANETHR.RESTORE seconds apart. -/
def execLaneProbe (port : Fin 8) (lane : Fin 32) (rx : Bool) (ucw : Nat) (s : State) : Res :=
  let p := port.val
  if laneOn s p lane rx = false ∧ laneCause s p lane rx = 2 ∧ probeDue s p lane rx then
    let s := noteProbe (bumpF s Fld.DRV_UCW_COUNT ucw p) p lane rx
    if ucw = 0 then
      let x := getPort s p
      .next (announce (laneLater (putPort s p { x with laneHist := nmPut (fun _ => []) x.laneHist lane [] }) p lane rx true 0) p)
    else .next s
  else .next s

/-- R409: a SUSPEND frame of member `idx` takes effect 8 frames on; a leader hands over first. -/
def execSuspend (port : Fin 8) (idx : Fin 16) (s : State) : Res :=
  let p := port.val
  if portStar s p ∧ portState s p = portUp ∧ admitted s p idx ∧ getF s Fld.DRV_STATUS_LEADIDX p ≠ idx.val then
    let x := getPort s p
    let s := putPort s p { x with suspendAt := x.suspendAt ++ [(x.frame + 8, idx.val)] }
    .next (if idx.val = ownIndex s then c0Own s p 255 c0Suspend [] else s)
  else .next s

/-- R409: a RESUME frame of member `idx`; this device sends its own once it has its control lane back (DEDUCED: log entry 243). -/
def execResume (port : Fin 8) (idx : Fin 16) (s : State) : Res :=
  let p := port.val
  let c := getF s Fld.DRV_CFG_CTLLANE p
  if memberSuspended s p idx ∧ (idx.val = ownIndex s → laneOn s p c false = true ∧ laneOn s p c true = true) then
    let s := resumeNow s p idx
    .next (if idx.val = ownIndex s then c0Own s p 255 c0Resume [] else s)
  else .next s

/-- R409: a member has been suspended for `us` µs. -/
def execSuspensionTimeout (port : Fin 8) (idx : Fin 16) (us : Nat) (s : State) : Res :=
  if memberSuspended s port idx ∧ idx.val ≠ ownIndex s ∧ 16000 < us then .next (memberLeaves s port idx 4) else .next s

/-- R410: a write of DRV_CTRL.START. -/
def execPortStart (req : Requester) (port : Fin 8) (s : State) : Res :=
  if req.bridle then .next (drvCtrlWrite s port true false) else .next s

/-- R408, R410: both ends have probed every lane for 64 lane frames; `tx`, `rx`: the lanes found good. A port that is down for want of lanes or
light trains again under AUTORESTART, from its next lane frame on (LANE_FRAME_START). -/
def execPortTrainingEnd (port : Fin 8) (tx rx : W32) (s : State) : Res :=
  if portState s port = portTraining then .next (trainingEnds s port tx.toNat rx.toNat) else .next s

/-- R410: an admission has not completed within 10 s. -/
def execAdmissionTimeout (port : Fin 8) (s : State) : Res :=
  if portState s port = portAdmitting then
    let s := setF s Fld.DRV_STATUS_STATE portDownSt port
    .next (raiseEv s 0xA002 (portUnit port) 0 (packDetail [(0, port), (3, 4)]))
  else .next s

/-- R410: a write of DRV_CTRL.STOP. -/
def execPortStop (req : Requester) (port : Fin 8) (s : State) : Res :=
  if req.bridle then .next (drvCtrlWrite s port false true) else .next s

/-- R410: the last lane frame of a stopping port ends. -/
def execPortStopped (port : Fin 8) (s : State) : Res :=
  if portState s port = portStopping then .next (portStops s port) else .next s

/-- R410: a write of DRV_CFG, DRV_HERD_ID or DRV_HERD_INDEX. -/
def execDrvConfigWrite (req : Requester) (reg : DrvCfgReg) (value : W64) (s : State) : Res :=
  if req.bridle then .next (drvCfgWrite (busForget s req (drvCfgAddr reg)) reg value) else .next s

/-- R411: a write of a receive window. -/
def execRxwinWrite (reg : PortAt) (window : Fin 8) (part : WinPart) (value : W64) (s : State) : Res :=
  let s := match part with
    | .base => busForget s reg.req (Reg.DRV_RXWIN_BASE.addr reg.port window 0)
    | _ => s
  .next (rxwinWrite s reg.port window part value)

end Sys2Proof.Machine
end

