-- ==== Sys2Proof/Machine/CmdFarrier.lean ====
section
/-! DEFINITION. The commands of the farrier (chapter 13). -/
namespace Sys2Proof.Machine

/-- R353: a write of FAR_CTRL.START. -/
def execFarrierStart (req : Requester) (s : State) : Res :=
  if req.bridle then .next (farCtrlWrite s true false false) else .next s

/-- R349, R353: a write of FAR_CTRL.STOP. -/
def execFarrierStop (req : Requester) (s : State) : Res :=
  if req.bridle then .next (farCtrlWrite s false true false) else .next s

/-- R341: a write of FAR_CTRL.RUNALL. -/
def execRunall (req : Requester) (s : State) : Res :=
  if req.bridle then .next (farCtrlWrite s false false true) else .next s

/-- R341: a write of FAR_STALL_CTRL.RUN. -/
def execFarStallRun (req : Requester) (stall : Fin 16) (s : State) : Res :=
  if req.bridle then .next (farStallCtrlWrite s stall true false) else .next s

/-- R346: a write of FAR_STALL_CTRL.RELEASE. -/
def execFarStallRelease (req : Requester) (stall : Fin 16) (s : State) : Res :=
  if req.bridle then .next (farStallCtrlWrite s stall false true) else .next s

/-- R341: a write of FAR_PORT_LANERUN. -/
def execFarPortLanerun (req : Requester) (port : Fin 8) (lanes : W32) (s : State) : Res :=
  if req.bridle then .next (farLaneRunWrite s port lanes.toNat) else .next s

/-- R341: `hours` have passed since the last accepted run of a stall or lane. -/
def execCalibrationAgeExpiry (unit : FarUnit) (hours : Nat) (s : State) : Res :=
  let h := getF s Fld.FAR_MAXAGE_HOURS
  if h = 0 ∨ hours < h then .next s
  else
    match unit with
    | .stall k => if getF s Fld.FAR_STALL_STATUS_CAL k.val = 0 then .next s else .next (queueRun s k false false)
    | .lane p j => if bitOf (getF s Fld.FAR_PORT_VALID_LANES p.val) j then .next (queueLane s p j) else .next s

/-- R342, R344 step 1: the farrier takes the next queued stall. -/
def execStallRunStart (s : State) : Res :=
  if farState s = farRun ∧ s.far.work = none then
    match farPick s with
    | none => .next s
    | some k =>
      let w : FarWork := { stall := k, reint := !(getFar s k).run, owns := false }
      let s := setF (holdFar s k) Fld.FAR_STALL_STATUS_ACTIVE 1 k
      .next (showWork s (some w) 1)
  else .next s

/-- R349: an attempt abandoned as temperature moved may begin again: over 100 ms it has moved by less than 0.5 K. -/
def FarWork.steady (w : FarWork) (now : W64) : Bool :=
  match w.calm with
  | some c => decide (100000000 ≤ (now - c.2).toNat)
  | none => true

/-- R343: a held stall has finished its accepted work. An attempt does not begin under HOLD_THM or HOLD_LTE (R342). -/
def takeStall (s : State) (w : FarWork) : State :=
  let x := getStall s w.stall
  let s := putStall s w.stall { x with farOwns := true }
  if farState s = farStopping then farStops s
  else if w.reint then showWork s (some { w with owns := true }) 10
  else if x.thm.isEmpty && x.lte.isEmpty then beginAttempt s w
  else showWork s (some { w with owns := true, abandoned := true }) 1

/-- R343, R349: a held stall has finished its accepted work; or an abandoned attempt begins again. -/
def execFarrierQuiesced (stall : Fin 16) (s : State) : Res :=
  match s.far.work with
  | none => .next s
  | some w =>
    let x := getStall s stall
    if w.stall = stall.val then
      if w.owns = false ∧ x.quiet = true then .next (takeStall s w)
      else if w.abandoned ∧ farState s = farStopping then .next (farStops s)
      else if w.abandoned ∧ x.thm = [] ∧ x.lte = [] ∧ w.steady s.time = true then .next (beginAttempt s w)
      else .next s
    else .next s

/-- R345, R346: the attempt in progress ends with measurements A and B; `phaseOk`: every phase actuator found its maximum; `refOk`: the
reference column verified. -/
def execAttemptEnd (a b : StallMeas) (phaseOk refOk : Bool) (s : State) : Res :=
  match s.far.work with
  | none => .next s
  | some w =>
    if w.owns ∧ ¬ w.reint ∧ ¬ w.abandoned ∧ farState s = farStopping then .next (farStops s)
    else if w.owns ∧ ¬ w.reint ∧ ¬ w.abandoned ∧ farState s = farRun then
      let ma := toMap a.field
      let mb := toMap b.field
      let m := stepsMade s w ma
      let s := m.1
      let w := m.2.1
      let d := cellDiffs ma mb
      let rms := rmsUnits d.2
      let worst := min 255 d.1
      let cause := attemptCause ma mb phaseOk refOk
      let s := if phaseOk then setF (setF s Fld.FAR_STALL_AGREE_RMS rms w.stall) Fld.FAR_STALL_AGREE_WORST worst w.stall else s
      if cause = 0 then .next (acceptAttempt s w m.2.2 ma mb)
      else .next (rejectAttempt s w cause (getF s Fld.FAR_STALL_AGREE_RMS w.stall) (getF s Fld.FAR_STALL_AGREE_WORST w.stall))
    else .next s

/-- R348, R374: whether a thermally held stall may be re-interpolated: under a rate trip, once its die's recovery has come to it.
(DEDUCED: log entry 216). -/
def heldReady (s : State) (k : Nat) : Bool :=
  let x := getStall s k
  !x.thm.isEmpty && (!x.thm.contains .rateTrip || tripReady s k)

/-- R348: the thermally held stalls are taken in stall number order. -/
def heldTurn (s : State) (k : Nat) : Bool :=
  heldReady s k && (List.range k).all (fun j => !heldReady s j || (getStall s j).thmDone)

/-- R348, R374: the corrections of a stall are written for its present temperature: of the stall being re-interpolated, or of a stall under
HOLD_THM, which is then verified against its reference column. -/
def execReinterpolation (stall : Fin 16) (verified : Bool) (s : State) : Res :=
  let k := stall.val
  let t := dieTemp s (stallDie k)
  let mine := match s.far.work with
    | some w => w.stall == k && w.reint && w.owns
    | none => false
  if mine = true ∧ farState s ≠ farStopped then
    let s := letGo (endWork (reintDone (writeCorrections s k t) k) k) k
    .next (if farState s = farStopping then farStops s else s)
  else if farState s ≠ farRun then .next s
  else if heldTurn s k = false then .next s
  else
    let ready := tripReady s k
    let s := writeCorrections s k t
    let s := putStall s k { getStall s k with thmDone := true }
    let s := if verified then s else queueRun s k false false
    if ready then .next (tripStallDone (if verified then s else holdFar s k) k) else .next s

/-- R351: the lane that a port has released is measured twice; the measurements are compared, and written or rejected. -/
def execPortLaneRun (port : Fin 8) (a b : LaneMeas) (s : State) : Res :=
  let p := port.val
  match (getFarPort s p).lane with
  | none => .next s
  | some j =>
    if (getPort s p).released = some j ∧ (getPort s p).returned = false ∧ farState s = farRun then
      if laneAgree a b then .next (acceptLane s p j a b) else .next (rejectLane s p j)
    else .next s

/-- R352: a changed residual is written to the store, `elapsed` seconds after the last such write of its stall or port. -/
def execResidualStoreWrite (unit : FarUnit) (elapsed : Nat) (s : State) : Res :=
  let n := getF s Fld.FAR_NVINT_S
  if elapsed < (if n = 0 then 3600 else n) then .next s
  else
    match unit with
    | .stall k => .next (storeStall s k)
    | .lane p _ => .next (storePort s p)

end Sys2Proof.Machine
end

