-- ==== Sys2Proof/Machine/HostBus.lean ====
section
/-! DEFINITION. What reaches the device through a porch: doorbell words (R423), the aperture (R441), the reader (R442), and register accesses
that ostler firmware makes for the host (R437). -/
namespace Sys2Proof.Machine

/-- The requester a channel's porch is (R498). -/
def porchReq (c : Nat) : Requester := if h : c < 4 then .porch ⟨c, h⟩ else .porch 0

/-! The aperture. -/

/-- R441: why an aperture burst is dropped: 1 outside the map, 2 unreachable, 3 a refused block, 4 a width; 0 where it is not. `ws`: its
unmasked bytes, in ascending order (DEDUCED: log entry 160). -/
def apertureDrop (s : State) (req : Requester) (ws : List (Nat × Nat)) : Nat :=
  let lo := (ws.head?.map (·.1)).getD 0
  let hi := (ws.getLast?.map (·.1)).getD 0
  if ws.any (fun x => regionAt x.1 == .outside) then 1
  else if ws.any (fun x => inControl x.1 && (x.1 / 0x1000000 % 256 == 0x8D || x.1 / 0x1000000 % 256 == 0x8E)) then 3
  else if ws.any (fun x => !(inControl x.1) && !(reachable s x.1)) then 2
  else if ws.any (fun x => inControl x.1 && (visibleAt req x.1).isSome) then
    (if hi + 1 - lo ≠ ws.length then 4 else
      match busTarget req lo ws.length with
      | .bad => 4
      | _ => 0)
  else 0

/-- The unmasked bytes of one 512-byte window are written. -/
def apertureWindow (ws : List (Nat × Nat)) (s : State) (w : Nat) : State :=
  match ws.filter (fun x => x.1 / 512 == w) with
  | [] => s
  | x :: t =>
    let hi := ((x :: t).getLast?.map (·.1)).getD x.1
    (memWrite s x.1 ((List.range (hi + 1 - x.1)).map (fun i => nmFind (x :: t) (x.1 + i)))).1

/-- R441: a write burst to aperture offset `off`. -/
def apertureWrite (s : State) (c off : Nat) (bs : List (Option Byte)) : State :=
  let s := putHost s c { getHost s c with apWritten := true }
  let x := getHost s c
  if !x.winEn || getF s Fld.HPT_CFG_AP_ALLOW == 0 then s
  else
    let base := x.winBase + off
    let ws := (List.zip (List.range bs.length) bs).filterMap (fun y => y.2.map (fun b => (base + y.1, b.toNat)))
    match ws with
    | [] => s
    | y :: _ =>
      let why := apertureDrop s (porchReq c) ws
      if why ≠ 0 then
        let s := putHost s c { x with winDrop := min (x.winDrop + 1) 0xFFFFFFFF }
        raiseEv (setF s Fld.HPT_ERR_WINDROP 1 c) 0xB003 (hptUnit c) base (packDetail [(0, c), (2, why)])
      else
        let s := addF s Fld.HPT_APWR_COUNT ws.length c
        if inControl y.1 then busWrite s (porchReq c) y.1 ws.length (ofBytes (ws.map (·.2)))
        else (ws.map (fun z => z.1 / 512)).eraseDups.foldl (apertureWindow ws) s

/-! The reader. -/

/-- R442: the line at `a` as the reader fetches it; none where it is lost. -/
def readerLine (s : State) (c a : Nat) : State × Option (List Nat) :=
  if inControl a then
    let t := busRead s (porchReq c) a 64
    (t, match t.bus.reply with
      | .data v => some (toBytes 64 v)
      | _ => none)
  else
    let m := memRead s a 64
    (m.s, if m.failed then none else some m.bytes)

/-- R442: `n` lines from `a` into the porch at `off`: those lost, and the first of them. -/
def readerLines (c : Nat) : Nat → Nat → Nat → State × RdJob → State × RdJob
  | 0, _, _, x => x
  | n + 1, a, off, x =>
    let r := readerLine x.1 c a
    let bs := r.2.getD (List.replicate 64 0)
    let s := putHost r.1 c (porchPut (getHost r.1 c) off bs)
    let j := if r.2.isSome then x.2
      else { x.2 with result := 1, lines := min 0xFFFF (x.2.lines + 1), bad := if x.2.lines = 0 then a else x.2.bad }
    readerLines c n (a + 64) (off + 64) (s, j)

/-- R442: a write of RD_GO = 1 (DESIGN CHOICE: log entry 158). -/
def rdGo (s : State) (c : Nat) : State :=
  let x := getHost s c
  if x.rdBusy || getF s Fld.HPT_CFG_RD_ALLOW == 0 then s
  else
    let s := putHost s c { x with rdBusy := true, rdDone := false, rdSeq := (x.rdSeq + 1) % 256 }
    let lines := (List.range (x.rdLen / 64)).map (fun i => x.rdAddr + 64 * i)
    let ok := x.rdAddr % 64 == 0 && x.rdLen % 64 == 0 && decide (64 ≤ x.rdLen) && decide (x.rdLen ≤ 65536) && inData x.rdDest x.rdLen
    let r : State × RdJob :=
      if !ok then (s, ⟨4, 0, 0⟩)
      else if lines.any (fun a => regionAt a == .outside) then (s, ⟨3, 0, 0⟩)
      else if lines.any (fun a => !(inControl a) && !(reachable s a)) then (s, ⟨2, 0, 0⟩)
      else readerLines c (x.rdLen / 64) x.rdAddr x.rdDest (s, ⟨0, 0, 0⟩)
    putHost r.1 c { getHost r.1 c with rdJob := some r.2 }

/-- R442: the reader's last line has returned (DEDUCED: log entry 159). -/
def readerDone (s : State) (c : Nat) : State :=
  let x := getHost s c
  match x.rdJob with
  | none => s
  | some j =>
    let s := putHost s c { x with
      rdBusy := false, rdDone := true, rdJob := none, rdResult := j.result, rdBadLines := j.lines, rdBad := j.bad }
    if j.result = 0 then s
    else raiseEv (setF s Fld.HPT_ERR_RDERR 1 c) 0xB004 (hptUnit c) j.bad (packDetail [(0, c), (2, j.result), (6, j.lines)])

/-! Doorbell words (R423). -/

/-- R428, R423: a write of MB_CTRL: ACK clears NOTICE, RESET resets the mailbox (DEDUCED: log entry 143). -/
def mbCtrlWrite (s : State) (c v : Nat) : State :=
  let s := if bitOf v 1 then putHost s c { getHost s c with notice := false } else s
  if bitOf v 0 then mbResetWrite s c else s

/-- R423: the word at an offset of the doorbell page is written; words that the host does not own are unchanged. -/
def doorWrite (s : State) (c w v : Nat) : State :=
  let x := getHost s c
  match w with
  | 0x00 => sqTailWrite s c (v % 4096)
  | 0x04 => cqHeadWrite s c (v % 4096)
  | 0x08 => putHost s c { x with attnCfg := v % 8 }
  | 0x0C => mbCtrlWrite s c v
  | 0x10 => putHost s c { x with evtHead := v % 2048 }
  | 0x20 => putHost s c { x with winLow := v % 2 ^ 32 / 2 ^ 20 * 2 ^ 20 }
  | 0x24 => putHost s c { x with winBase := x.winLow + v % 65536 * 2 ^ 32 }
  | 0x28 => putHost s c { x with winEn := v % 2 == 1 }
  | 0x30 => putHost s c { x with rdLow := v % 2 ^ 32 }
  | 0x34 => putHost s c { x with rdAddr := x.rdLow + v % 65536 * 2 ^ 32 }
  | 0x38 => putHost s c { x with rdLen := v % 2 ^ 17 }
  | 0x3C => putHost s c { x with rdDest := v % 2 ^ 25 }
  | 0x40 => if v % 2 = 1 then rdGo s c else s
  | _ => s

/-- R422, R423: the unmasked bytes of a burst at porch offset `off` that the host writes as they are (DEDUCED: log entry 137). -/
def porchStore (x : HChan) (ws : List (Nat × Nat)) : HChan :=
  { x with porch := (ws.filter (fun w => hostOwns w.1)).foldl (fun m w => nmPut (fun _ => (0 : Byte)) m w.1 (BitVec.ofNat 8 w.2)) x.porch }

/-- R423: the doorbell words that a burst writes take effect when it ends, in ascending order. -/
def doorBurst (s : State) (c : Nat) (ws : List (Nat × Nat)) : State :=
  let ds := ws.filter (fun w => decide (doorBase ≤ w.1) && decide (w.1 < doorBase + 0x100))
  (ds.map (fun w => (w.1 - doorBase) / 4 * 4)).eraseDups.foldl (fun s w =>
    let old := toBytes 4 (doorWord (getHost s c) w)
    let v := ofBytes ((List.range 4).map (fun i => (nmFind ds (doorBase + w + i)).getD (old.getD i 0)))
    doorWrite s c w v) s

/-- R421, R441: the units of a burst that lie in the aperture are an aperture write; two that adjoin are one burst. -/
def apertureUnits (s : State) (c : Nat) (units : List (Nat × List (Option Byte))) : State :=
  match units.filter (fun u => decide (apertureBase ≤ u.1)) with
  | [] => s
  | [u] => apertureWrite s c (u.1 - apertureBase) u.2
  | u :: v :: _ =>
    if v.1 = u.1 + 32 then apertureWrite s c (u.1 - apertureBase) (u.2 ++ v.2)
    else apertureWrite (apertureWrite s c (u.1 - apertureBase) u.2) c (v.1 - apertureBase) v.2

/-- R420 to R423, R441: a burst of one or two units: the offset of each, with its bytes (DEDUCED: log entry 139). -/
def porchBurst (s : State) (c : Nat) (units : List (Nat × List (Option Byte))) : State :=
  let ws := units.flatMap (fun u =>
    (List.zip (List.range u.2.length) u.2).filterMap (fun y => y.2.map (fun b => (u.1 + y.1, b.toNat))))
  let s := addF s Fld.HPT_WRBYTES_COUNT ws.length c
  apertureUnits (doorBurst (putHost s c (porchStore (getHost s c) ws)) c ws) c units

/-! CFG_WRITE and CFG_READ (R437). -/

/-- R437: whether CFG_WRITE of a value at an address is refused with DENIED. -/
def cfgDenied (addr width v : Nat) : Bool :=
  decide ((addr / 0x1000000) % 256 = 0x8D ∧ inControl addr = true) ||
  (List.range width).any (fun j =>
    match regByteAt (addr + j) with
    | none => false
    | some r =>
      r.desc.is Reg.LFT_SWITCH || r.desc.is Reg.LFT_REFOP || r.desc.is Reg.LFT_BAY_SET ||
      (r.desc.blk == 8 && r.desc.lo == 16 && decide (r.w < 19)) ||
      (r.desc.is Reg.RN_BANK_CTRL && decide (r.i < 19)) ||
      (r.desc.is Reg.FAR_STALL_CTRL && bitOf v 1))

/-- R437: CFG_WRITE (DEDUCED: log entry 155). -/
def cfgWrite (s : State) (c : Nat) (k : SubCmd) : State :=
  let a := k.field 16 8
  let v := k.field 24 8
  let w := k.field 32 1
  if (w ≠ 4 ∧ w ≠ 8) ∨ inControl a = false then finishCmd s c k.id 0x0003 0
  else if cfgDenied a w v then finishCmd s c k.id 0x000E 0
  else
    let t := busWrite s .ostler a w (v % 256 ^ w)
    finishCmd t c k.id (if t.bus.reply = .busError then 0x0003 else 0) 0

/-- R437: CFG_READ. -/
def cfgRead (s : State) (c : Nat) (k : SubCmd) : State :=
  let a := k.field 16 8
  let w := k.field 24 1
  if (w ≠ 4 ∧ w ≠ 8) ∨ inControl a = false then finishCmd s c k.id 0x0003 0
  else
    let t := busRead s .ostler a w
    match t.bus.reply with
    | .data v => finishCmd t c k.id 0 v
    | _ => finishCmd t c k.id 0x0003 0

end Sys2Proof.Machine
end

