-- ==== Sys2Proof/Machine/CmdHost.lean ====
section
/-! DEFINITION. The commands of the host port and the ostler mailboxes (chapter 16). -/
namespace Sys2Proof.Machine

/-! The channels. -/

/-- R420: where the units of a column access lie: the row selected in its bank, none where none is. -/
def burstOffset (s : State) (c bg ba col i : Nat) : Option Nat :=
  let b := porchBank s c bg ba
  match nmGet (fun _ => 0) (getHost s c).rows b with
  | 0 => none
  | row + 1 => some (porchOffset row b ((col + i) % 64))

/-- R420 to R423: a write burst of one or two units, `none` for a masked byte. -/
def execPorchWrite (chan : Fin 4) (bg : Fin 4) (ba : Fin 16) (col : Fin 64) (bytes : List (Option Byte)) (s : State) : Res :=
  let c := chan.val
  match burstOffset s c bg ba col 0, burstOffset s c bg ba col 1 with
  | some o0, some o1 =>
    if hostState s c = hostActive ∧ (bytes.length = 32 ∨ bytes.length = 64) then
      .next (porchBurst s c (if bytes.length = 32 then [(o0, bytes)] else [(o0, bytes.take 32), (o1, bytes.drop 32)]))
    else .next s
  | _, _ => .next s

/-- R420 to R422: a read burst of one unit, or of two (`long`). -/
def execPorchRead (chan : Fin 4) (bg : Fin 4) (ba : Fin 16) (col : Fin 64) (long : Bool) (s : State) : Res :=
  let c := chan.val
  match burstOffset s c bg ba col 0, burstOffset s c bg ba col 1 with
  | some o0, some o1 =>
    if hostState s c = hostActive then
      let x := getHost s c
      let unit (o : Nat) : List Nat := (List.range 32).map (fun i => porchByte x s.freeCtr (o + i))
      let bs := if long then unit o0 ++ unit o1 else unit o0
      .next (setReply (addF (drawn s) Fld.HPT_RDBYTES_COUNT bs.length c) (.data (ofBytes bs)))
    else .next s
  | _, _ => .next s

/-- R418: ACTIVATE selects a row of a bank; PRECHARGE leaves none selected. -/
def execRowActivate (chan : Fin 4) (bg : Fin 4) (ba : Fin 16) (row : W16) (activate : Bool) (s : State) : Res :=
  let c := chan.val
  if hostState s c = hostActive then
    let x := getHost s c
    .next (putHost s c { x with
      rows := nmPut (fun _ => 0) x.rows (porchBank s c bg ba) (if activate then row.toNat + 1 else 0) })
  else .next s

/-- R417: a mode register is written; `unsupported`: its enable bits of features that Table 16.1 does not support (DEDUCED: log entry 141). MR16
selects the frequency set point (R416; PRESUMED: log entry 246). -/
def execModeRegisterWrite (chan : Fin 4) (reg : Byte) (value unsupported : Byte) (s : State) : Res :=
  let c := chan.val
  if hostState s c = hostTraining ∨ hostState s c = hostActive then
    let x := getHost s c
    let v := (value &&& ~~~unsupported).toNat
    let s := putHost s c { x with mr := nmPut (fun _ => 0) x.mr reg.toNat (v + 1) }
    .next (if reg.toNat = 16 ∧ v / 4 % 4 < 2 then setF s Fld.HPT_STATUS_FSP (v / 4 % 4) c else s)
  else .next s

/-- R417: a mode register is read. -/
def execModeRegisterRead (chan : Fin 4) (reg : Byte) (s : State) : Res :=
  let c := chan.val
  if hostState s c = hostTraining ∨ hostState s c = hostActive then
    .next (setReply s (.data (modeRead (getHost s c) reg.toNat)))
  else .next s

/-- R418: REF and RFM are accepted and ignored. -/
def execHostRefresh (_chan : Fin 4) (s : State) : Res := .next s

/-- R419: the channel's reset contact: mode registers and training return to their reset; the porch and the mailbox stay.
(DEDUCED: log entry 140). -/
def execHostChannelReset (chan : Fin 4) (s : State) : Res :=
  let c := chan.val
  let x := getHost s c
  let s := putHost s c { x with mr := [], rows := [] }
  let s := setF (setF (setF s Fld.HPT_STATUS_RATE 0 c) Fld.HPT_STATUS_BANKMODE 0 c) Fld.HPT_STATUS_FSP 0 c
  .next (if x.ck ∧ hostState s c ≠ hostTraining then setHostState s c hostTraining else s)

/-- R416: training at a data rate, bank mode and set point moves the channel through TRAINING to ACTIVE. -/
def execHostChannelTraining (chan : Fin 4) (rate : Fin 16384) (bank16 fsp : Bool) (s : State) : Res :=
  let c := chan.val
  if (hostState s c = hostTraining ∨ hostState s c = hostActive) ∧ 1600 ≤ rate.val ∧ rate.val ≤ 8533
      ∧ (bank16 = false ∨ rate.val ≤ 3200) then
    let s := if hostState s c = hostActive then setHostState s c hostTraining else s
    let s := setF (setF (setF s Fld.HPT_STATUS_RATE rate c) Fld.HPT_STATUS_BANKMODE (b01 bank16) c) Fld.HPT_STATUS_FSP (b01 fsp) c
    .next (setHostState s c hostActive)
  else .next s

/-- R416: the channel goes from one state into another. -/
def hostMove (s : State) (c frm to_ : Nat) : State := if hostState s c = frm then setHostState s c to_ else s

/-- R416: a self-refresh entry command. -/
def execSelfRefreshEntry (chan : Fin 4) (s : State) : Res := .next (hostMove s chan hostActive hostSelfRefresh)

/-- R416: a self-refresh exit command. -/
def execSelfRefreshExit (chan : Fin 4) (s : State) : Res := .next (hostMove s chan hostSelfRefresh hostActive)

/-- R416: a power-down entry command. -/
def execPowerDownEntry (chan : Fin 4) (s : State) : Res := .next (hostMove s chan hostActive hostPowerDown)

/-- R416: a power-down exit command. -/
def execPowerDownExit (chan : Fin 4) (s : State) : Res := .next (hostMove s chan hostPowerDown hostActive)

/-- R419: CK begins to arrive; a channel that receives none reads ABSENT (DESIGN CHOICE: log entry 247). -/
def execHostCkStart (ck : CkChange) (s : State) : Res :=
  let c := ck.chan.val
  let s := putHost s c { getHost s c with ck := !ck.stops }
  .next (if ck.stops then (if hostState s c = hostAbsent then s else setHostState s c hostAbsent) else hostMove s c hostAbsent hostTraining)

/-! Doorbell words, entries and completions. -/

/-- R425, R427: a host write of SQ_TAIL. -/
def execSqTailWrite (chan : Fin 4) (tail : Fin 4096) (s : State) : Res := .next (sqTailWrite (wordWritten s chan) chan tail)

/-- R427: a host write of CQ_HEAD. -/
def execCqHeadWrite (chan : Fin 4) (head : Fin 4096) (s : State) : Res := .next (cqHeadWrite (wordWritten s chan) chan head)

/-- R428: a host write of MB_CTRL.RESET. -/
def execMailboxReset (chan : Fin 4) (s : State) : Res := .next (mbResetWrite (wordWritten s chan) chan)

/-- R423: a host write of MB_CTRL.ACK. -/
def execNoticeAck (chan : Fin 4) (s : State) : Res := .next (mbCtrlWrite (wordWritten s chan) chan 2)

/-- R425, R426: the next submission entry is taken. -/
def execSubmissionTake (chan : Fin 4) (s : State) : Res := .next (if mayTake s chan then takeEntry s chan else s)

/-- R424, R426, R427: the completion entry of the command that ended first is written. -/
def execCompletionWrite (chan : Fin 4) (s : State) : Res := .next (if firmwareRuns s then writeCompletion s chan else s)

/-! Commands (Table 16.9): each starts the front command of a channel where that is of its kind. -/

/-- IDENTIFY (R430). -/
def execIdentify (chan : Fin 4) (s : State) : Res :=
  .next (runCmd s chan 0x0001 (fun s k => finishCmd (writeIdentity s) chan k.id 0 (ofBytes ((identityRecord s).take 16))))

/-- STATUS. -/
def execStatus (chan : Fin 4) (s : State) : Res :=
  .next (runCmd s chan 0x0002 (fun s k => finishCmd s chan k.id 0 (resultOf
    [(16, getF s Fld.EVT_SVC_LEVEL), (17, getF s Fld.LFT_ACTIVE_BAY + 2 * getF s Fld.LFT_ACTIVE_VALID), (18, bayState s 0), (19, bayState s 1),
     (20, s.serve.sessions.length), (22, s.serve.batches.length), (24, getF s Fld.LFT_GEN_GEN)])))

/-- ATTEST (R456, R458, R463). -/
def execAttest (chan : Fin 4) (s : State) : Res := .next (runCmd s chan 0x0003 (fun s k => attestStart s chan k))

/-- SESSION_OPEN (R434). -/
def execSessionOpen (chan : Fin 4) (s : State) : Res := .next (runCmd s chan 0x0101 (fun s k => sessionOpen s chan k))

/-- SESSION_CLOSE (R434, R444): it starts, and the closes that wait for no batch end. -/
def execSessionClose (chan : Fin 4) (s : State) : Res :=
  .next (closeSessions (runCmd s chan 0x0102 (fun s k => sessionClose s chan k)) chan)

/-- SESSION_INFO. -/
def execSessionInfo (chan : Fin 4) (s : State) : Res := .next (runCmd s chan 0x0103 (fun s k => sessionInfo s chan k))

/-- BATCH (R435). -/
def execBatch (chan : Fin 4) (s : State) : Res := .next (runCmd s chan 0x0201 (fun s k => batchStart s chan k))

/-- R434: a BATCH that has waited in its mailbox is taken, and starts. -/
def execBatchAdmit (chan : Fin 4) (s : State) : Res :=
  let c := chan.val
  if nextEntry (getHost s c) % 65536 = 0x0201 ∧ mayTake s c = true then
    .next (runCmd (takeEntry s c) c 0x0201 (fun s k => batchStart s c k))
  else .next s

/-- R435: the batch at place `place` of those admitted ends with the outcomes of its requests, or aborted; not while a request of it waits for an
earlier batch. -/
def execBatchEnd (place : Nat) (aborted : Bool) (outcomes : List ReqOutcome) (s : State) : Res :=
  match s.serve.batches[place]? with
  | none => .next s
  | some b => .next (if firmwareRuns s ∧ (b.cancelled ∨ aborted ∨ ¬ batchWaits s place b) then endBatch s b aborted outcomes else s)

/-- BATCH_CANCEL (R435). -/
def execBatchCancel (chan : Fin 4) (s : State) : Res := .next (runCmd s chan 0x0202 (fun s k => batchCancel s chan k))

/-- BUNDLE_BEGIN (R436). -/
def execBundleBegin (chan : Fin 4) (s : State) : Res := .next (runCmd s chan 0x0301 (fun s k => bundleBegin s chan k))

/-- BUNDLE_PIECE (R436). -/
def execBundlePiece (chan : Fin 4) (s : State) : Res := .next (runCmd s chan 0x0302 (fun s k => bundlePiece s chan k))

/-- BUNDLE_ABORT: the build fails with cause 13 (R266). -/
def execBundleAbort (chan : Fin 4) (s : State) : Res :=
  .next (runCmd s chan 0x0303 (fun s k =>
    if s.loft.build.isNone then finishCmd s chan k.id 0x0005 0 else finishCmd (failBuild s 13 false false 0) chan k.id 0 0))

/-- BAY_DISCARD: a READY bay becomes EMPTY. -/
def execBayDiscard (chan : Fin 4) (s : State) : Res :=
  .next (runCmd s chan 0x0304 (fun s k =>
    let y := k.field 16 1
    if 2 ≤ y then finishCmd s chan k.id 0x0006 0
    else if bayState s y ≠ 2 then finishCmd s chan k.id 0x0005 0
    else finishCmd (baySet s y 0) chan k.id 0 0))

/-- SWITCH (R259, R444). -/
def execSwitch (chan : Fin 4) (s : State) : Res :=
  if switchTurn s chan = false then .next s
  else .next (runCmd s chan 0x0305 (fun s k =>
    let y := k.field 16 1
    if 2 ≤ y then finishCmd s chan k.id 0x0006 0
    else
      let r := loftSwitch s y
      if r.2 then finishCmd r.1 chan k.id 0 (getF r.1 Fld.LFT_GEN_GEN) else finishCmd r.1 chan k.id 0x0005 0))

/-- SLOT_LIST (R265). -/
def execSlotList (chan : Fin 4) (s : State) : Res := .next (runCmd s chan 0x0306 (fun s k => slotList s chan k))

/-- CAL_RUN (R341). -/
def execCalRun (chan : Fin 4) (s : State) : Res := .next (runCmd s chan 0x0401 (fun s k => calRun s chan k))

/-- CAL_STATUS. -/
def execCalStatus (chan : Fin 4) (s : State) : Res := .next (runCmd s chan 0x0402 (fun s k => calStatus s chan k))

/-- POWER_SET (R439). -/
def execPowerSet (chan : Fin 4) (s : State) : Res := .next (runCmd s chan 0x0501 (fun s k => powerSet s chan k))

/-- CAPACITY_SET (R439). -/
def execCapacitySet (chan : Fin 4) (s : State) : Res := .next (runCmd s chan 0x0502 (fun s k => capacitySet s chan k))

/-- DARK (R439): it starts, and DARK commands whose end has come end. `lock0`, `lock1`, `sweeps`: what the start-up sequence finds, as in
LTE_RELIGHT. -/
def execDark (chan : Fin 4) (lock0 lock1 : Bool) (sweeps : List RingSweep) (s : State) : Res :=
  .next (darkEnds (runCmd s chan 0x0503 (fun s k => darkStart lock0 lock1 sweeps s chan k)) chan)

/-- UNIT_STOP (R438): it starts, and those whose unit has stopped, or whose time is up, end. -/
def execUnitStop (chan : Fin 4) (s : State) : Res := .next (unitStops (runCmd s chan 0x0601 (fun s k => unitStop s chan k)) chan)

/-- UNIT_START (R438). -/
def execUnitStart (chan : Fin 4) (s : State) : Res := .next (runCmd s chan 0x0602 (fun s k => unitStart s chan k))

/-- CFG_WRITE (R437). -/
def execCfgWrite (chan : Fin 4) (s : State) : Res := .next (runCmd s chan 0x0603 (fun s k => cfgWrite s chan k))

/-- CFG_READ (R437). -/
def execCfgRead (chan : Fin 4) (s : State) : Res := .next (runCmd s chan 0x0604 (fun s k => cfgRead s chan k))

/-- HERD_SET (R439). -/
def execHerdSet (chan : Fin 4) (s : State) : Res := .next (runCmd s chan 0x0701 (fun s k => herdSet s chan k))

/-- EVENT_FILTER (R440). -/
def execEventFilter (chan : Fin 4) (s : State) : Res :=
  .next (runCmd s chan 0x0801 (fun s k => finishCmd { s with evtFilter := k.field 16 2 } chan k.id 0 0))

/-! The aperture and the reader. -/

/-- R441: a write burst of one or two units to aperture unit `unit` (of 32 bytes). -/
def execApertureWrite (chan : Fin 4) (unit : Fin 32768) (bytes : List (Option Byte)) (s : State) : Res :=
  let c := chan.val
  if hostState s c = hostActive ∧ (bytes.length = 32 ∨ bytes.length = 64) then
    let s := addF s Fld.HPT_WRBYTES_COUNT (bytes.filter Option.isSome).length c
    .next (apertureWrite s c (32 * unit) bytes)
  else .next s

/-- R442: a write of RD_GO = 1. -/
def execRdGo (chan : Fin 4) (s : State) : Res := .next (rdGo (wordWritten s chan) chan)

/-- R442: the reader's last line has returned. -/
def execReaderDone (chan : Fin 4) (s : State) : Res := .next (readerDone s chan)

end Sys2Proof.Machine
end

