-- ==== Sys2Proof/Machine/CmdLight.lean ====
section
/-! DEFINITION. The commands of the light block (chapter 10, R491). -/
namespace Sys2Proof.Machine

/-- R275: a write of LTE_CTRL.ASSIGN. `lock0`, `lock1`: whether each comb die locks in step 2; `sweeps`: what the rings' sweeps show. -/
def execLteAssign (req : Requester) (lock0 lock1 : Bool) (sweeps : List RingSweep) (s : State) : Res :=
  if req.bridle then .next (assignWrite s lock0 lock1 sweeps) else .next s

/-- R275: a write of LTE_CTRL.RELIGHT, in dark. -/
def execLteRelight (req : Requester) (lock0 lock1 : Bool) (sweeps : List RingSweep) (s : State) : Res :=
  if req.bridle then .next (relightWrite s lock0 lock1 sweeps) else .next s

/-- R356: a write of LTE_CTRL.DARK. -/
def execLteDark (req : Requester) (s : State) : Res :=
  if req.bridle then .next (goDark s) else .next s

/-- R286: a write of LTE_CTRL.RESTORE; `pass0`, `pass1`: the start-up sequence of that die has passed. -/
def execLteRestore (req : Requester) (pass0 pass1 : Bool) (s : State) : Res :=
  if req.bridle then .next (restoreWrite s pass0 pass1) else .next s

/-- R278: step 6 of the start-up ends. -/
def execLightSequenceEnd (s : State) : Res :=
  if s.light.running then
    let s := setF { s with light := { s.light with running := false } } Fld.LTE_STATUS_ASSIGNED 1
    .next (raiseEv s 0x6007 lightUnit 0 (packDetail [(0, ringsInService s), (10, ringsFailed s)]))
  else .next s

/-- R281, R287: a check falls due on a locked ring; in a recovery it is skipped. -/
def execPilotCheckDue (ring : Fin 528) (s : State) : Res :=
  if ringState s ring = ringLocked then .next (checkRing s ring) else .next s

/-- R280: the check under way on a ring's converter closes. -/
def execPilotCheckResult (ring : Fin 528) (meas : PilotMeas) (s : State) : Res :=
  let r := ring.val
  if s.light.checks.find? (fun x => ringConv x == ringConv r) = some r then .next (checkResult s r meas) else .next s

/-- R285: a comb die fails: 1 spacing lock lost for 10 ms, 2 more than 8 lines lost, 3 too hot. -/
def execCombDieFailure (die : Fin 2) (reason : Fin 4) (s : State) : Res :=
  let t := getF s Fld.THM_REMOTE_T 0 die.val
  let holds := match reason.val with
    | 1 => true
    | 2 => decide (8 < (s.light.lost.filter (fun x => x / 48 == die.val)).length)
    | 3 => t == 0x8000 || decide (1120 ≤ sext 16 t)
    | _ => false
  if holds then .next (combFails s die reason) else .next s

/-- R285: the redistribution switch settles. -/
def execRedistributionSettled (s : State) : Res := .next (redistSettled s)

/-- R288: a write of LTE_RING_CTRL.STOP. -/
def execRingStop (req : Requester) (ring : Fin 528) (s : State) : Res :=
  if req.bridle then .next (ringStop s ring) else .next s

/-- R288: a write of LTE_RING_CTRL.START. -/
def execRingStart (req : Requester) (ring : Fin 528) (s : State) : Res :=
  if req.bridle then .next (ringStart s ring) else .next s

/-- R281: a write of LTE_RING_CTRL.RECHECK. -/
def execRingRecheck (req : Requester) (ring : Fin 528) (s : State) : Res :=
  if req.bridle then .next (ringRecheck s ring) else .next s

/-- R288: a write of LTE_RING_CFG. -/
def execRingCfgWrite (req : Requester) (ring : Fin 528) (value : W32) (s : State) : Res :=
  if req.bridle then .next (ringCfgWrite s ring value.toNat) else .next s

/-- R491: LASER_EN falls: as a write of LTE_CTRL.DARK, where the lasers are on. -/
def execLaserEnFall (s : State) : Res :=
  let s := { s with light := { s.light with laserEn := false } }
  if lasersOff s then .next s
  else
    let s := goDark s
    .next { s with light := { s.light with byFall := true } }

/-- R491: LASER_EN rises, which changes nothing by itself. -/
def execLaserEnRise (s : State) : Res := .next { s with light := { s.light with laserEn := true } }

end Sys2Proof.Machine
end

