-- ==== Sys2Proof/Machine/CmdLoft.lean ====
section
/-! DEFINITION. The commands of the loft (chapter 09). -/
namespace Sys2Proof.Machine

/-- R252: the hash engines finish chunk `chunk` of the build, or of a repair. -/
def execChunkDigestCheck (chunk : Nat) (repair : Bool) (s : State) : Res :=
  match s.loft.staged.find? (fun x => x.chunk == chunk && x.repair == repair && x.complete) with
  | none => .next s
  | some x => .next (digestCheck s x)

/-- R254: a write of LFT_BAYx_SET. -/
def execBaySet (req : Requester) (bay : Fin 2) (state : Fin 8) (s : State) : Res :=
  if req.bridle then .next (baySet s bay state) else .next s

/-- R259, R262: a write of LFT_SWITCH. -/
def execLoftSwitch (req : Requester) (bay : Fin 2) (s : State) : Res :=
  if req.bridle then .next (loftSwitch s bay).1 else .next s

/-- R260: a write of LFT_REFOP with DEC = 0. -/
def execRefopIncrement (req : Requester) (bay : Fin 2) (n : W16) (s : State) : Res :=
  if req.bridle then .next (refOp s bay false n.toNat) else .next s

/-- R261: a write of LFT_REFOP with DEC = 1. -/
def execRefopDecrement (req : Requester) (bay : Fin 2) (n : W16) (s : State) : Res :=
  if req.bridle then .next (refOp s bay true n.toNat) else .next s

/-- R264: migration begins when the active bay holds DDR5 bands and free HBM exists. -/
def execMigrationStart (s : State) : Res :=
  match activeBay s with
  | none => .next s
  | some y =>
    if s.loft.migrating = false ∧ (migrantPlace s y).isSome then .next { s with loft := { s.loft with migrating := true } } else .next s

/-- R264: the next band's copy ends, or migration ends; a copy waits while a channel takes no request of class C3 (R258, R376). -/
def execBandMigrated (s : State) : Res :=
  match s.loft.migrating, activeBay s with
  | true, some y =>
    match migrantPlace s y with
    | none => .next (raiseEv { s with loft := { s.loft with migrating := false } } 0x5009 loftUnit 0 (packDetail [(0, y)]))
    | some (i, b, a) =>
      if rangeAccepts s b.addr b.bytes 3 = false then .next s
      else
      let s := drawn (copyRange s b.addr a (b.bytes / 64))
      let nb := { b with addr := a }
      let bay := getBay s y
      let s := putBay s y { bay with set := bay.set.map (fun t => { t with bands := listSet t.bands i nb }) }
      let s := settle (writeEntry s y i nb)
      let s := setF (setF s Fld.LFT_BAY_HBM_BYTES (getF s Fld.LFT_BAY_HBM_BYTES 0 y + b.bytes) 0 y) Fld.LFT_BAY_DDR_BYTES
        (getF s Fld.LFT_BAY_DDR_BYTES 0 y - b.bytes) 0 y
      .next (freeMigrated { s with loft := { s.loft with
        freeLater := s.loft.freeLater ++ [⟨b.addr, b.bytes, s.serve.batches.map (·.id)⟩] } })
  | _, _ => .next { s with loft := { s.loft with migrating := false } }

/-- R266: no chunk has arrived for LFT_BTIMEOUT seconds. -/
def execBuildTimeout (s : State) : Res :=
  if s.loft.build.isSome ∧ getF s Fld.LFT_BTIMEOUT_S ≠ 0 then .next (failBuild s 10 false false 0) else .next s

end Sys2Proof.Machine
end

