-- ==== Sys2Proof/Machine/CmdMon.lean ====
section
/-! DEFINITION. The commands of the monitor converters and trim DACs (chapter 11). -/
namespace Sys2Proof.Machine

/-- R296: the period of an accumulator that ended at the frame boundary is latched. -/
def execAccumulatorLatch (conv : Fin 48) (acc : Fin 128) (s : State) : Res := .next (accLatch s conv acc)

/-- R298: a write of MON_CTRL.START. -/
def execMonitorStart (req : Requester) (conv : Fin 48) (s : State) : Res :=
  if req.bridle then .next (monCtrlWrite s conv true false false) else .next s

/-- R298: a write of MON_CTRL.STOP. -/
def execMonitorStop (req : Requester) (conv : Fin 48) (s : State) : Res :=
  if req.bridle then .next (monCtrlWrite s conv false true false) else .next s

/-- R299: a write of MON_CTRL.CAL. -/
def execMonitorCal (req : Requester) (conv : Fin 48) (s : State) : Res :=
  if req.bridle then .next (monCtrlWrite s conv false false true) else .next s

/-- R299, R300, R301: a self-calibration ends; `ground`, `ref`: the sums of its 32,768 conversions of each.
The last of start-up lets the light sequence begin. -/
def execCalibrationEnd (conv : Fin 48) (ground ref : Nat) (s : State) : Res :=
  if monState s conv = monCal then .next (lightGoes (calNext (calEnd s conv ground ref))) else .next s

/-- R298: a write of a configuration register of a converter or its accumulators. -/
def execAccConfigWrite (req : Requester) (conv : Fin 48) (reg : MonReg) (value : W32) (s : State) : Res :=
  if req.bridle then .next (monCfgWrite s conv reg value.toNat) else .next s

/-- R303 to R305: a write of TRM_CODE. -/
def execTrmCodeWrite (req : Requester) (chan : Fin 1024) (code : BitVec 12) (x2 en : Bool) (s : State) : Res :=
  if req.bridle then .next (trmCodeWrite s chan code.toNat x2 en) else .next s

/-- R305: the range-change hold of a channel ends. -/
def execRangeHoldRelease (chan : Fin 1024) (s : State) : Res := .next (trmRelease s chan)

/-- R291, R292, R370: every converter makes its next conversion; `raw`: the raw codes, converter 0 first (DEDUCED: log entry 227). -/
def execConversion (raw : List (BitVec 12)) (s : State) : Res := .next (conversion s (fun m => (raw.getD m 0).toNat))

end Sys2Proof.Machine
end

