-- ==== Sys2Proof/Machine/CmdPower.lean ====
section
/-! DEFINITION. The commands of the power and thermal block (chapter 14). -/
namespace Sys2Proof.Machine

/-- R357, R490: the precharge ends; without a reference clock the stage holds rail 2 off. -/
def execPrechargeComplete (refclk : Bool) (s : State) : Res :=
  if s.pwr.rails = .precharge then
    .next { s with pwr := { s.pwr with rails := if refclk then .rising else .noClock } }
  else .next s

/-- R358, R466, R489: rail valid: RAILOK goes high and start-up begins. -/
def execRailValid (s : State) : Res :=
  if s.pwr.rails = .rising then
    .next (setF { s with pwr := { s.pwr with rails := .valid }, sys := { s.sys with startTime := s.time } } Fld.PWR_STATUS_RAILS 1)
  else .next s

/-- R490: 100 ms later the power stage looks for the reference clock again. -/
def execRefclkRetry (refclk : Bool) (s : State) : Res :=
  if s.pwr.rails = .noClock ∧ refclk then .next { s with pwr := { s.pwr with rails := .rising } } else .next s

/-- R359: PWR_IN has held beyond a warning threshold of Table 14.3 (row 1, or row 4 where `over`), or has come back within it. -/
def execInputWarning (ovr set : Bool) (vin iin : Fin 4096) (s : State) : Res :=
  if ovr then
    if (s.pwr.ovWarn = !set) ∧ (if set then 74 * 32 < vin.val else 2 * vin.val < 147 * 32) then
      let s := { s with pwr := { s.pwr with ovWarn := set } }
      let s := if set then setF s Fld.PWR_ERR_INPUT 1 else s
      .next (inputEvent s set 4 vin iin)
    else .next s
  else if (getF s Fld.PWR_STATUS_UVWARN = b01 (!set)) ∧ (if set then vin.val < 44 * 32 else 89 * 32 < 2 * vin.val) then
    let s := setF s Fld.PWR_STATUS_UVWARN (b01 set)
    let s := if set then setF s Fld.PWR_ERR_INPUT 1 else s
    .next (inputEvent s set 1 vin iin)
  else .next s

/-- R359, R365: a forced demand begins or ends: by overcurrent, or by undervoltage. -/
def execForcedDemand (overcurrent begins : Bool) (vin iin : Fin 4096) (s : State) : Res :=
  if overcurrent then
    if (s.pwr.forceOc = !begins) ∧ (if begins then 52 * 64 < iin.val else iin.val < 46 * 64) then
      let s := { s with pwr := { s.pwr with forceOc := begins } }
      let s := if begins then setF s Fld.PWR_ERR_INPUT 1 else s
      .next (applyDemand (showForce (inputEvent s begins 6 vin iin)))
    else .next s
  else if (s.pwr.forceUv = !begins) ∧ (if begins then vin.val < 40 * 32 else 42 * 32 < vin.val) then
    let s := { s with pwr := { s.pwr with forceUv := begins } }
    let s := if begins then setF s Fld.PWR_ERR_INPUT 1 else s
    .next (applyDemand (showForce s))
  else .next s

/-- Whether the condition of a package trip of Table 14.10 stands; the input readings are those of Table 14.3. -/
def tripCondition (s : State) (cause vin iin : Nat) : Bool :=
  match cause with
  | 1 => vin < 36 * 32
  | 2 => 76 * 32 < vin
  | 3 => 60 * 64 < iin
  | 4 => let t := getF s Fld.THM_REMOTE_T 0 2
         t == 0x8000 || decide (2000 ≤ sext 16 t)
  | 5 => (List.range 6).any (fun g => (List.range (sensorCount g)).any (fun k => decide (1840 ≤ sext 16 (getF s Fld.THM_SENSE_T 0 g k))))
  | 6 => (List.range 4).any (fun d => (getDie s d).dieTrip || !(getDie s d).stackTrip.isEmpty)
  | 7 => (List.range 2).any (fun g => decide (1680 ≤ sext 16 (getF s Fld.THM_DIE_T 0 (4 + g))))
  | _ => false

/-- R359, R376: a package trip. -/
def execPackageTrip (cause : Fin 8) (vin iin : Fin 4096) (s : State) : Res :=
  if s.pwr.rails ≠ .off ∧ tripCondition s cause vin iin then .next (packageTrip s cause) else .next s

/-- R360: the budget of a frame. -/
def execBudgetUpdate (vin iin : Fin 4096) (s : State) : Res := .next (budgetUpdate s vin iin)

/-- R361: PBUDGET has been absent for 10 ms. -/
def execPbudgetAbsent (s : State) : Res :=
  let m := inForce s Fld.PWR_PBCFG_MODE
  if m < 2 ∧ s.pwr.absent = false ∧ s.pwr.badSample = true then
    let s := setF (setF { s with pwr := { s.pwr with absent := true } } Fld.PWR_STATUS_PBVALID 0) Fld.PWR_ERR_PBLOST 1
    .next (raiseEv s 0x9009 pwrUnit 0 (packDetail [(1, m)]))
  else .next s

/-- R361: PBUDGET has been valid again for 100 ms. -/
def execPbudgetRestored (s : State) : Res :=
  let m := inForce s Fld.PWR_PBCFG_MODE
  if m < 2 ∧ s.pwr.absent = true ∧ s.pwr.badSample = false then
    let s := setF { s with pwr := { s.pwr with absent := false } } Fld.PWR_STATUS_PBVALID 1
    .next (raiseEv s 0x9009 pwrUnit 0 (packDetail [(0, 1), (1, m)]))
  else .next s

/-- R361: a sample of PBUDGET, or the end of a period of it. -/
def execPbudgetSample (sample : PbSample) (s : State) : Res := .next (pbSample s sample)

/-- R362: ostler firmware writes the PDEMAND outputs with two powers in W; in dark standby they carry no request. -/
def execPdemandUpdate (p0 p1 : Nat) (s : State) : Res :=
  if s.sys.ostlerUp = false then .next s
  else
    let code := fun p => if s.light.dark then 0 else pdemandCode p
    .next (trmCodeWrite (trmCodeWrite s 254 (code p0) true true) 255 (code p1) true true)

/-- R363: the demand of the last output phase reaches the stall issue logic. -/
def execShedDemandApply (s : State) : Res := .next (applyDemand s)

/-- R365: a stall that is no longer parked clears HOLD_THM. -/
def execStallUnpark (stall : Fin 16) (s : State) : Res :=
  if s.pwr.parked.contains stall.val ∧ (parkOrder.take (parkOf (demandInForce s))).contains stall.val = false then
    .next (releaseThm { s with pwr := { s.pwr with parked := s.pwr.parked.filter (· != stall.val) } } stall .park)
  else .next s

/-- R367: the package power loop's output has stayed below 3 for 1 s. -/
def execOverbudgetClear (s : State) : Res :=
  if getF s Fld.PWR_STATUS_OVERBUDGET = 1 ∧ s.pwr.u < 768 then
    let s := setF s Fld.PWR_STATUS_OVERBUDGET 0
    .next ((List.range 6144).foldl (fun s i => if lpF s Fld.RN_LP_CTRL_OWNER i = 3 then setLp s Fld.RN_LP_STAT_FAULT 0 i else s) s)
  else .next s

/-- R368: the sensors of a die are converted, once a frame. -/
def execSensorReading (die : Fin 6) (readings : List Int) (s : State) : Res := .next (sensorReading s die readings)

/-- R369: the power stage measures the contact sensors. -/
def execContactSensorRead (readings : List (Option Int)) (s : State) : Res := .next (contactReading s readings)

/-- R208, R376: a controller reads the temperature of its stack or of its modules. -/
def execMemoryTempRead (unit : Fin 20) (readings : List MemTemp) (s : State) : Res := .next (memTempRead s unit readings)

/-- R374: the rate test has passed for THM_QUIET. -/
def execQuietPeriodEnd (die : Fin 4) (s : State) : Res := .next (quietEnds s die)

/-- R374: no stall of the die holds HOLD_THM for its trip. -/
def execTripEnd (die : Fin 4) (s : State) : Res := .next (tripEnds s die)

/-- R374: the hold-off of a die ends. -/
def execHoldoffEnd (die : Fin 4) (s : State) : Res := .next (setBitF s Fld.THM_STATUS_HOLDOFF die false)

/-- R375: a trip has not ended `ms` ms after it began. -/
def execRecoveryOverrun (die : Fin 4) (ms : Nat) (s : State) : Res :=
  let x := getDie s die
  let lim := let v := inForce s Fld.THM_RECMAX_MS; if v = 0 then 40 else v
  if x.rate ≠ .none ∧ x.overrun = false ∧ lim ≤ ms then
    let held := (List.range 4).filter (fun i => (getStall s (4 * die + i)).thm.contains .rateTrip)
    let mask := (held.map (2 ^ ·)).sum
    .next (raiseEv (putDie s die { x with overrun := true }) 0x9004 thmUnit 0 (packDetail [(0, die), (2, mask)]))
  else .next s

/-- R376: the tripped die, or a stack that tripped it (8: the die itself), has stayed below 95 °C for 100 ms. -/
def execDieTripEnd (die : Fin 4) (stack : Fin 9) (s : State) : Res :=
  let x := getDie s die
  if stack.val = 8 then
    if x.dieTrip ∧ sext 16 (getF s Fld.THM_DIE_T 0 die) < 1520 then
      .next (dieTripEnds (putDie s die { x with dieTrip := false }) die)
    else .next s
  else if x.stackTrip.contains stack.val ∧ sext 8 (getF s Fld.HBM_STATUS_TEMP stack) < 95 then
    .next (dieTripEnds (putDie s die { x with stackTrip := x.stackTrip.filter (· != stack.val) }) die)
  else .next s

end Sys2Proof.Machine
end

