-- ==== Sys2Proof/Machine/CmdRein.lean ====
section
/-! DEFINITION. The commands of the rein engine (chapter 12). -/
namespace Sys2Proof.Machine

/-- R310: a loop executes in its slot of the frame in progress. -/
def execLoopExecution (loop : Fin 6144) (s : State) : Res := .next (runLoop s loop)

/-- R310, R311: the fault phase of the frame, and its output phase. -/
def execOutputPhase (s : State) : Res := .next (outputPhase (faultPhase s))

/-- R332: a write of RN_BANK_CTRL.STOP. -/
def execBankStop (req : Requester) (bank : Fin 24) (s : State) : Res :=
  if req.bridle then .next (bankCtrlWrite s bank false true) else .next s

/-- R333: a write of RN_BANK_CTRL.START. -/
def execBankStart (req : Requester) (bank : Fin 24) (s : State) : Res :=
  if req.bridle then .next (bankCtrlWrite s bank true false) else .next s

/-- R332: a write of a register of a loop's entry, by its word offset. -/
def execLoopFieldWrite (req : Requester) (loop : Fin 6144) (word : LoopOffset) (value : W32) (s : State) : Res :=
  if req.bridle then .next (loopFieldWrite s loop (4 * word.val) value.toNat) else .next s

/-- R327: a write of RN_LP_RUN.FREEZE. -/
def execFreezeWrite (req : Requester) (loop : Fin 6144) (freeze : Bool) (s : State) : Res :=
  if req.bridle then .next (setFreeze s loop freeze) else .next s

end Sys2Proof.Machine
end

