-- ==== Sys2Proof/Machine/Vector.lean ====
section
/-! DEFINITION. What the vector classes compute: class 4 lanes (Table 5.5), class 6 block formats (Table 5.6, R144) and the
special functions of class 10. -/
namespace Sys2Proof.Machine

/-- The element width of a class 4 type. -/
def vecWidth : VecTy → Nat
  | .fp32 => 32
  | .bf16 => 16
  | .int32 => 32
  | .int16 => 16

/-- The precision of a floating type; 0 for an integer one. -/
def vecPrec : VecTy → Nat
  | .fp32 => 24
  | .bf16 => 8
  | _ => 0

/-- The code of a type in MOD [1:0]. -/
def vecTyCode : VecTy → Nat
  | .fp32 => 0
  | .bf16 => 1
  | .int32 => 2
  | .int16 => 3

/-- The number a function is known by to the free values. -/
def vecFnCode : VecFn → Nat
  | .add => 64
  | .sub => 65
  | .mul => 66
  | .other c => c

/-- An exact integer result of `w` bits; outside the signed range the spec states no value (DESIGN CHOICE: log entry 14). -/
def intLane (w code : Nat) (v : Int) (a b : Nat) : FpRes :=
  if -(2 ^ (w - 1)) ≤ v ∧ v < 2 ^ (w - 1) then ⟨wrapTo w v, 0⟩
  else ⟨Config.vecOther code w a b % 2 ^ w, 0⟩

/-- Class 4 arithmetic on one lane; `free` numbers the NaN a floating operation may make. -/
def vecLane (fn : VecFn) (ty : VecTy) (mode : Rnd) (free a b : Nat) : FpRes :=
  let w := vecWidth ty
  let p := vecPrec ty
  match fn with
  | .other c => ⟨Config.vecOther c (vecTyCode ty) a b % 2 ^ w, Config.sfuFlags (64 + c) (a + 2 ^ w * b) % 32⟩
  | .add =>
    if p = 0 then intLane w (vecFnCode fn) (sext w a + sext w b) a b
    else fpSum mode p [fpDecode p a, fpDecode p b] free
  | .sub =>
    if p = 0 then intLane w (vecFnCode fn) (sext w a - sext w b) a b
    else fpSum mode p [fpDecode p a, (fpDecode p b).negate] free
  | .mul =>
    if p = 0 then intLane w (vecFnCode fn) (sext w a * sext w b) a b
    else
      let x := fpProd (fpDecode p a) (fpDecode p b)
      fpSum mode p [x.1] free

/-- vd + va × vb, rounded once. -/
def fmaLane (ty : FmaTy) (mode : Rnd) (free d a b : Nat) : FpRes :=
  match ty with
  | .fp32 => fpSum mode 24 [(fpProd (fpDecode 24 a) (fpDecode 24 b)).1, fpDecode 24 d] free
  | .int32 => intLane 32 67 (sext 32 d + sext 32 a * sext 32 b) a (b + 2 ^ 32 * d)
  | .int16 => intLane 16 67 (sext 16 d + sext 16 a * sext 16 b) a (b + 2 ^ 16 * d)

/-- VDOT2: d + a₀·b₀ + a₁·b₁ with BF16 pairs, formed exactly and rounded once. -/
def dot2Lane (mode : Rnd) (free d a b : Nat) : FpRes :=
  fpSum mode 24 [(fpProd (fpDecode 8 (a % 65536)) (fpDecode 8 (b % 65536))).1,
    (fpProd (fpDecode 8 (a / 65536)) (fpDecode 8 (b / 65536))).1, fpDecode 24 d] free

/-- Three lists together. -/
def zip3 : List Nat → List Nat → List Nat → List (Nat × Nat × Nat)
  | a :: as, b :: bs, c :: cs => (a, b, c) :: zip3 as bs cs
  | _, _, _ => []

/-- A masked lane-wise operation of element width `w` into vd: `f i d a b`. -/
def laneOp (w : Nat) (th : Thread) (vd va vb mask : Nat) (f : Nat → Nat → Nat → Nat → FpRes) : Thread :=
  let old := lanes w (th.vr vd)
  let rs := (List.zip (List.range old.length) (zip3 old (lanes w (th.vr va)) (lanes w (th.vr vb)))).map
    (fun x => f x.1 x.2.1 x.2.2.1 x.2.2.2)
  let mk := th.mr mask
  (th.setV vd (ofLanes w (maskLanes w mk old (rs.map (·.bits))))).raiseFlags (maskFlags w mk (rs.map (·.flags)))

/-- A result of FP32 with its flags: an infinity, a zero, one. -/
def sfuInf (neg : Bool) (flags : Nat) : FpRes := ⟨fpInf 24 neg, flags⟩
def sfuZero (neg : Bool) : FpRes := ⟨signBit 24 neg, 0⟩
def sfuOne (neg : Bool) : FpRes := ⟨0x3F800000 + signBit 24 neg, 0⟩

/-- The special functions at a zero: the default results of IEEE 754 (DESIGN CHOICE: log entry 15). -/
def sfuAtZero (func : Nat) (neg : Bool) : FpRes :=
  match func with
  | 0 => sfuOne false
  | 1 => sfuInf true flDivZero
  | 2 => sfuInf neg flDivZero
  | 3 => sfuInf neg flDivZero
  | _ => sfuZero neg

/-- The special functions at an infinity (DESIGN CHOICE: log entry 15). -/
def sfuAtInf (func free : Nat) (neg : Bool) : FpRes :=
  match func with
  | 0 => if neg then sfuZero false else sfuInf false 0
  | 1 => if neg then ⟨freeNaN 24 free, flInvalid⟩ else sfuInf false 0
  | 2 => sfuZero neg
  | 3 => if neg then ⟨freeNaN 24 free, flInvalid⟩ else sfuZero false
  | 4 => ⟨freeNaN 24 free, flInvalid⟩
  | _ => sfuOne neg

/-- A special function on one lane (0 EXP2, 1 LOG2, 2 RCP, 3 RSQRT, 4 SIN, 5 TANH): the default results of IEEE 754 at a NaN, a zero, an
infinity, and for LOG2 and RSQRT of a negative number; other results are not stated (DESIGN CHOICE: log entry 15). -/
def sfuLane (func free a : Nat) : FpRes :=
  match fpDecode 24 a with
  | .nan s => ⟨freeNaN 24 free, if s then flInvalid else 0⟩
  | .inf neg => sfuAtInf func free neg
  | .fin neg 0 _ => sfuAtZero func neg
  | .fin neg _ _ =>
    if neg ∧ (func = 1 ∨ func = 3) then ⟨freeNaN 24 free, flInvalid⟩
    else ⟨Config.sfuResult func a % 2 ^ 32, Config.sfuFlags func a % 32⟩

/-- A masked special function of va into vd. -/
def sfuOp (func : Nat) (s : State) (th : Thread) (vd va mask : Nat) : Thread :=
  laneOp 32 th vd va va mask (fun i _ a _ => sfuLane func (Config.nanBits s.freeCtr i) a)

/-- The mantissas of block `j` of a vector register holding blocks of width `w`. -/
def regBlock (w : Nat) (v : W512) (j : Nat) : List Int := mantissas w 32 (v.toNat / 2 ^ (32 * w * j))

/-- Byte `j` of a scalar register. -/
def byteOf (x : W64) (j : Nat) : Nat := x.toNat / 2 ^ (8 * j) % 256

/-- A scalar register with byte `j` replaced. -/
def setByte (x : W64) (j b : Nat) : W64 := insBits x (8 * j) 8 b

/-- Table 5.6, R144: lane `j` of BXDOT8. -/
def bxdotLane (free lane : Nat) (a b : List Int) (ea eb : Nat) : FpRes :=
  if ea = 255 ∨ eb = 255 then ⟨0x7FC00000, 0⟩
  else
    let p : Int := ((List.zip a b).map (fun x => x.1 * x.2)).foldl (· + ·) 0
    let pv : Dy := if ea = 0 ∨ eb = 0 then ⟨0, 0⟩ else ⟨p, (ea : Int) + (eb : Int) - 266⟩
    let prod : Fp := .fin (decide (pv.m < 0)) pv.m.natAbs pv.e
    fpSum .rne 24 [fpDecode 24 lane, prod] free

/-- BXDOT8 into lanes 0 and 1 of vd. -/
def bxdotOp (s : State) (th : Thread) (vd va vb xs : Nat) : Thread :=
  let x := th.xr xs
  let old := lanes 32 (th.vr vd)
  let r := fun (j : Nat) => bxdotLane (Config.nanBits s.freeCtr j) (old.getD j 0) (regBlock 8 (th.vr va) j) (regBlock 8 (th.vr vb) j)
    (byteOf x j) (byteOf x (2 + j))
  (th.setV vd (ofLanes 32 (listSet (listSet old 0 (r 0).bits) 1 (r 1).bits))).raiseFlags ((r 0).flags ||| (r 1).flags)

/-- TOBX: the 32 FP32 elements of va and va + 1 into block slot `slot` of vd and byte `slot` of xs (DEDUCED: log entry 54). -/
def tobxOp (w : Nat) (mode : Rnd) (th : Thread) (vd va xs slot : Nat) : Thread :=
  let srcs := (lanes 32 (th.vr va) ++ lanes 32 (th.vr (va + 1))).map (fpSrc 24)
  let c := convert mode w srcs []
  let lo := 32 * w * slot
  let v := (th.vr vd).toNat
  let keep := v - v / 2 ^ lo % 2 ^ (32 * w) * 2 ^ lo
  (th.setV vd (BitVec.ofNat 512 (keep + packMantissas w c.blk.m * 2 ^ lo))).setX xs (setByte (th.xr xs) slot c.blk.e)

/-- Whether TOBX is legal: a rounding code 0 or 1, a slot the register holds, an even va (R53, R144). -/
def tobxLegal (w rnd slot va : Nat) : Bool := decide (rnd < 2) && decide (slot < 16 / w) && va % 2 == 0

/-- FROMBX: elements 16g to 16g + 15 of va's packed blocks into FP32 lanes of vd. -/
def frombxOp (w : Nat) (th : Thread) (vd va xs g : Nat) : Thread :=
  let blk := g / 2
  let e := byteOf (th.xr xs) blk
  let ms := ((regBlock w (th.vr va) blk).drop (16 * (g % 2))).take 16
  let rs := ms.map (elemToFp 24 w e)
  (th.setV vd (ofLanes 32 (rs.map (·.bits)))).raiseFlags (rs.foldl (fun a r => a ||| r.flags) 0)

/-- Whether FROMBX's group lies within the blocks the register holds (R144). -/
def frombxLegal (w g : Nat) : Bool := decide (g < 32 / w)

/-- F32TOBF16: 32 FP32 lanes of va and va + 1 into BF16, to nearest even. -/
def f32tobf16Op (th : Thread) (vd va : Nat) : Thread :=
  let rs := (lanes 32 (th.vr va) ++ lanes 32 (th.vr (va + 1))).map (fun b =>
    let r := f32ToBf16 b
    (r.bits, r.flags ||| (if (fpDecode 24 b).isSNaN then flInvalid else 0)))
  (th.setV vd (ofLanes 16 (rs.map (·.1)))).raiseFlags (rs.foldl (fun a r => a ||| r.2) 0)

/-- BF16TOF32: half `h` of va's BF16 lanes into 16 FP32 lanes; a NaN keeps its bits and raises no flag (DESIGN CHOICE: log entry 189). -/
def bf16tof32Op (th : Thread) (vd va h : Nat) : Thread :=
  th.setV vd (ofLanes 32 ((((lanes 16 (th.vr va)).drop (16 * h)).take 16).map bf16ToF32))

end Sys2Proof.Machine
end

