-- ==== Sys2Proof/Machine/CmdShed.lean ====
section
/-! DEFINITION. The commands of the sheds: the instructions of classes 0 to 10 (Tables 5.5 to 5.7) and the launch, stop and
configuration of a shed (chapter 05). An instruction command names the thread and the decoded operands. -/
namespace Sys2Proof.Machine

/-- Class 0: the 64-bit sum (DEDUCED: log entry 48). -/
def execScalarAdd (shed : Fin 64) (thread : Fin 256) (rd ra rb : Fin 32) (mask : Fin 8) (s : State) : Res :=
  .next (scalarOp s shed thread mask [.x rd, .x ra, .x rb] (fun th => th.setX rd (th.xr ra + th.xr rb)))

/-- Class 0: the 64-bit difference. -/
def execScalarSub (shed : Fin 64) (thread : Fin 256) (rd ra rb : Fin 32) (mask : Fin 8) (s : State) : Res :=
  .next (scalarOp s shed thread mask [.x rd, .x ra, .x rb] (fun th => th.setX rd (th.xr ra - th.xr rb)))

/-- Class 0: a logic function. -/
def execScalarLogic (shed : Fin 64) (thread : Fin 256) (fn : LogicFn) (rd ra rb : Fin 32) (mask : Fin 8) (s : State) : Res :=
  .next (scalarOp s shed thread mask [.x rd, .x ra, .x rb] (fun th => th.setX rd (logicFn fn (th.xr ra) (th.xr rb))) (logicKnown 0 fn))

/-- Class 0: a shift. -/
def execScalarShift (shed : Fin 64) (thread : Fin 256) (fn : ShiftFn) (rd ra rb : Fin 32) (mask : Fin 8) (s : State) : Res :=
  .next (scalarOp s shed thread mask [.x rd, .x ra, .x rb] (fun th => th.setX rd (shiftFn fn (th.xr ra) (th.xr rb))))

/-- Class 0: a comparison. -/
def execScalarCompare (shed : Fin 64) (thread : Fin 256) (fn : CmpFn) (rd ra rb : Fin 32) (mask : Fin 8) (s : State) : Res :=
  .next (scalarOp s shed thread mask [.x rd, .x ra, .x rb] (fun th => th.setX rd (cmpFn fn (th.xr ra) (th.xr rb))) (cmpKnown 0 fn))

/-- Class 0: the low 64 bits of the product. -/
def execMul (shed : Fin 64) (thread : Fin 256) (rd ra rb : Fin 32) (mask : Fin 8) (s : State) : Res :=
  .next (scalarOp s shed thread mask [.x rd, .x ra, .x rb] (fun th => th.setX rd (th.xr ra * th.xr rb)))

/-- Class 0: division; by zero all ones, and no flag. -/
def execDiv (shed : Fin 64) (thread : Fin 256) (rd ra rb : Fin 32) (mask : Fin 8) (s : State) : Res :=
  .next (scalarOp s shed thread mask [.x rd, .x ra, .x rb] (fun th => th.setX rd (divFn (th.xr ra) (th.xr rb))))

/-- Class 1: an operation with a signed immediate. -/
def execScalarImmediate (shed : Fin 64) (thread : Fin 256) (fn : ImmFn) (rd ra : Fin 32) (imm : BitVec 12) (s : State) : Res :=
  .next (scalarOp s shed thread 0 [.x rd, .x ra] (fun th => th.setX rd (immFn fn (th.xr ra) (imm64 imm))) (immKnown fn))

/-- Class 1: the immediate into bits [63:52], the other bits 0 (DEDUCED: log entry 46). -/
def execLui (shed : Fin 64) (thread : Fin 256) (rd : Fin 32) (imm : BitVec 12) (s : State) : Res :=
  .next (scalarOp s shed thread 0 [.x rd] (fun th => th.setX rd (imm.zeroExtend 64 <<< 52)))

/-- Class 2: the thread's next PC is `t` when a branch is taken; its own PC is 4 less than the PC held (DEDUCED: log entry 44). -/
def branchTo (th : Thread) (off : W64) : Thread := { th with pc := th.pc - 4 + off <<< 2 }

/-- Class 2: a conditional branch by a signed offset in instructions. -/
def branchOp (s : State) (i t : Nat) (ra rb : Nat) (off : BitVec 15) (cond : W64 → W64 → Bool) : State :=
  scalarOp s i t 0 [.x ra, .x rb] (fun th => if cond (th.xr ra) (th.xr rb) then branchTo th (off.signExtend 64) else th)

/-- Class 2: branch when equal. -/
def execBranchEq (shed : Fin 64) (thread : Fin 256) (ra rb : Fin 32) (off : BitVec 15) (s : State) : Res :=
  .next (branchOp s shed thread ra rb off (fun a b => a == b))

/-- Class 2: branch when not equal. -/
def execBranchNe (shed : Fin 64) (thread : Fin 256) (ra rb : Fin 32) (off : BitVec 15) (s : State) : Res :=
  .next (branchOp s shed thread ra rb off (fun a b => a != b))

/-- Class 2: branch when signed less than. -/
def execBranchLt (shed : Fin 64) (thread : Fin 256) (ra rb : Fin 32) (off : BitVec 15) (s : State) : Res :=
  .next (branchOp s shed thread ra rb off (fun a b => a.slt b))

/-- Class 2: branch when signed greater or equal. -/
def execBranchGe (shed : Fin 64) (thread : Fin 256) (ra rb : Fin 32) (off : BitVec 15) (s : State) : Res :=
  .next (branchOp s shed thread ra rb off (fun a b => !a.slt b))

/-- Class 2: branch when unsigned less than. -/
def execBranchLtu (shed : Fin 64) (thread : Fin 256) (ra rb : Fin 32) (off : BitVec 15) (s : State) : Res :=
  .next (branchOp s shed thread ra rb off (fun a b => a.ult b))

/-- Class 2: branch when unsigned greater or equal. -/
def execBranchGeu (shed : Fin 64) (thread : Fin 256) (ra rb : Fin 32) (off : BitVec 15) (s : State) : Res :=
  .next (branchOp s shed thread ra rb off (fun a b => !a.ult b))

/-- Class 2 COND 6: jump to the address in a register. -/
def execJumpToRegister (shed : Fin 64) (thread : Fin 256) (ra : Fin 32) (s : State) : Res :=
  .next (scalarOp s shed thread 0 [.x ra] (fun th => { th with pc := th.xr ra }))

/-- Class 2 COND 7: jump by an offset; the link register takes the next PC. -/
def execJumpAndLink (shed : Fin 64) (thread : Fin 256) (rd : Fin 32) (off : BitVec 20) (s : State) : Res :=
  .next (scalarOp s shed thread 0 [.x rd] (fun th => (branchTo th (off.signExtend 64)).setX rd th.pc))

/-- Class 3 load (R139, R141, R143, R147). -/
def execScalarLoad (shed : Fin 64) (thread : Fin 256) (size : Fin 8) (ord : Fin 4) (rd ra : Fin 32) (off : BitVec 12) (s : State) : Res :=
  .next (issue s shed thread [.x rd, .x ra] (fun s th =>
    if 3 < size.val ∨ ord = 3 then .trap 1 0
    else issueAccess s th (th.xr ra + imm64 off) (2 ^ size.val) (.load (2 ^ size.val) rd) (ord == 1) false))

/-- Class 3 store (R140, R141, R143, R147). -/
def execScalarStore (shed : Fin 64) (thread : Fin 256) (size : Fin 8) (ord : Fin 4) (rs ra : Fin 32) (off : BitVec 12) (s : State) : Res :=
  .next (issue s shed thread [.x rs, .x ra] (fun s th =>
    if 3 < size.val ∨ ord = 3 then .trap 1 0
    else issueAccess s th (th.xr ra + imm64 off) (2 ^ size.val)
      (.store ((toBytes (2 ^ size.val) (th.xr rs).toNat).map (BitVec.ofNat 8))) false (ord == 2)))

/-- Class 5 load of 64 bytes. -/
def execVectorLoad (shed : Fin 64) (thread : Fin 256) (size : Fin 8) (ord : Fin 4) (vd ra : Fin 32) (off : BitVec 12) (s : State) : Res :=
  .next (issue s shed thread [.v vd, .x ra] (fun s th =>
    if size ≠ 4 ∨ ord = 3 then .trap 1 0
    else issueAccess s th (th.xr ra + imm64 off) 64 (.vload vd) (ord == 1) false))

/-- Class 5 store of 64 bytes. -/
def execVectorStore (shed : Fin 64) (thread : Fin 256) (size : Fin 8) (ord : Fin 4) (vs ra : Fin 32) (off : BitVec 12) (s : State) : Res :=
  .next (issue s shed thread [.v vs, .x ra] (fun s th =>
    if size ≠ 4 ∨ ord = 3 then .trap 1 0
    else issueAccess s th (th.xr ra + imm64 off) 64 (.vstore (vecBytes (th.vr vs))) false (ord == 2)))

/-- Class 4: masked lane arithmetic. -/
def execVectorArith (shed : Fin 64) (thread : Fin 256) (fn : VecFn) (ty : VecTy) (vd va vb : Fin 32) (mask : Fin 8) (s : State) : Res :=
  .next (issue s shed thread [.v vd, .v va, .v vb] (fun s th =>
    if vecKnown fn then
      .done (drawn s) (laneOp (vecWidth ty) th vd va vb mask (fun i _ a b => vecLane fn ty th.mode (Config.nanBits s.freeCtr i) a b))
    else .trap 1 0))

/-- Class 4 FUNC 0x02: vd + va × vb, rounded once. -/
def execVfma (shed : Fin 64) (thread : Fin 256) (ty : FmaTy) (vd va vb : Fin 32) (mask : Fin 8) (s : State) : Res :=
  let w := if ty = .int16 then 16 else 32
  .next (issue s shed thread [.v vd, .v va, .v vb] (fun s th =>
    .done (drawn s) (laneOp w th vd va vb mask (fun i d a b => fmaLane ty th.mode (Config.nanBits s.freeCtr i) d a b))))

/-- Class 4 FUNC 0x02 type BF16: pair dot products into FP32 lanes. -/
def execVdot2 (shed : Fin 64) (thread : Fin 256) (vd va vb : Fin 32) (mask : Fin 8) (s : State) : Res :=
  .next (issue s shed thread [.v vd, .v va, .v vb] (fun s th =>
    .done (drawn s) (laneOp 32 th vd va vb mask (fun i d a b => dot2Lane th.mode (Config.nanBits s.freeCtr i) d a b))))

/-- Class 6: BX8 block dot products into lanes 0 and 1. -/
def execBxdot8 (shed : Fin 64) (thread : Fin 256) (vd va vb : Fin 32) (xs : Fin 32) (s : State) : Res :=
  .next (issue s shed thread [.v vd, .v va, .v vb, .x xs] (fun s th => .done (drawn s) (bxdotOp s th vd va vb xs)))

/-- Class 6: 32 FP32 elements into one BX4 block (R51, R144). -/
def execTobx4 (shed : Fin 64) (thread : Fin 256) (vd va xs : Fin 32) (slot rnd : Fin 4) (s : State) : Res :=
  .next (issue s shed thread [.v vd, .v va, .v (va + 1), .x xs] (fun s th =>
    if tobxLegal 4 rnd slot va then .done s (tobxOp 4 (if rnd = 1 then .rtz else .rne) th vd va xs slot) else .trap 1 0))

/-- Class 6: 32 FP32 elements into one BX8 block (R51, R144). -/
def execTobx8 (shed : Fin 64) (thread : Fin 256) (vd va xs : Fin 32) (slot rnd : Fin 4) (s : State) : Res :=
  .next (issue s shed thread [.v vd, .v va, .v (va + 1), .x xs] (fun s th =>
    if tobxLegal 8 rnd slot va then .done s (tobxOp 8 (if rnd = 1 then .rtz else .rne) th vd va xs slot) else .trap 1 0))

/-- Class 6: 32 FP32 elements into one BX16 block (R51, R144). -/
def execTobx16 (shed : Fin 64) (thread : Fin 256) (vd va xs : Fin 32) (slot rnd : Fin 4) (s : State) : Res :=
  .next (issue s shed thread [.v vd, .v va, .v (va + 1), .x xs] (fun s th =>
    if tobxLegal 16 rnd slot va then .done s (tobxOp 16 (if rnd = 1 then .rtz else .rne) th vd va xs slot) else .trap 1 0))

/-- Class 6: 16 BX4 elements into FP32 lanes (R58, R144). -/
def execFrombx4 (shed : Fin 64) (thread : Fin 256) (vd va xs : Fin 32) (group : Fin 8) (s : State) : Res :=
  .next (issue s shed thread [.v vd, .v va, .x xs] (fun s th =>
    if frombxLegal 4 group then .done s (frombxOp 4 th vd va xs group) else .trap 1 0))

/-- Class 6: 16 BX8 elements into FP32 lanes (R58, R144). -/
def execFrombx8 (shed : Fin 64) (thread : Fin 256) (vd va xs : Fin 32) (group : Fin 8) (s : State) : Res :=
  .next (issue s shed thread [.v vd, .v va, .x xs] (fun s th =>
    if frombxLegal 8 group then .done s (frombxOp 8 th vd va xs group) else .trap 1 0))

/-- Class 6: 16 BX16 elements into FP32 lanes (R58, R144). -/
def execFrombx16 (shed : Fin 64) (thread : Fin 256) (vd va xs : Fin 32) (group : Fin 8) (s : State) : Res :=
  .next (issue s shed thread [.v vd, .v va, .x xs] (fun s th =>
    if frombxLegal 16 group then .done s (frombxOp 16 th vd va xs group) else .trap 1 0))

/-- Class 6: 32 FP32 lanes into BF16 (R58, R144). -/
def execF32tobf16 (shed : Fin 64) (thread : Fin 256) (vd va : Fin 32) (s : State) : Res :=
  .next (issue s shed thread [.v vd, .v va, .v (va + 1)] (fun s th =>
    if va.val % 2 = 0 then .done s (f32tobf16Op th vd va) else .trap 1 0))

/-- Class 6: 16 BF16 lanes into FP32. -/
def execBf16tof32 (shed : Fin 64) (thread : Fin 256) (vd va : Fin 32) (half : Fin 2) (s : State) : Res :=
  .next (issue s shed thread [.v vd, .v va] (fun s th => .done s (bf16tof32Op th vd va half)))

/-- Class 7: an atomic issues (R142). MOD [1:0] is 2 for 32 bits or 3 for 64, MOD [3:2] the ORD code; a MOD [1:0] of 0 or 1 is taken as illegal
(DESIGN CHOICE: log entry 187). -/
def atomicOp (s : State) (i t : Nat) (func : Nat) (rd ra rb : Nat) (mask mod : Nat) : State :=
  issue s i t [.x rd, .x ra, .x rb] (fun s th =>
    let size := if mod % 4 = 2 then 4 else 8
    let a := th.xr ra
    if mask ≠ 0 ∨ mod % 4 < 2 then .trap 1 0
    else
      match issueAccess s th a size (.atomic func size rd (th.xr rb) (th.xr rd)) (mod / 4 % 2 == 1) (mod / 8 == 1) with
      | .done s th' => if 0x40000000 ≤ a.toNat then .trap 4 a else .done s th'
      | e => e)

/-- Class 7 FUNC 0x00. -/
def execAtomicAdd (shed : Fin 64) (thread : Fin 256) (rd ra rb : Fin 32) (mask : Fin 8) (mod : Fin 16) (s : State) : Res :=
  .next (atomicOp s shed thread 0 rd ra rb mask mod)

/-- Class 7 FUNC 0x01. -/
def execAtomicAnd (shed : Fin 64) (thread : Fin 256) (rd ra rb : Fin 32) (mask : Fin 8) (mod : Fin 16) (s : State) : Res :=
  .next (atomicOp s shed thread 1 rd ra rb mask mod)

/-- Class 7 FUNC 0x02. -/
def execAtomicOr (shed : Fin 64) (thread : Fin 256) (rd ra rb : Fin 32) (mask : Fin 8) (mod : Fin 16) (s : State) : Res :=
  .next (atomicOp s shed thread 2 rd ra rb mask mod)

/-- Class 7 FUNC 0x03. -/
def execAtomicXor (shed : Fin 64) (thread : Fin 256) (rd ra rb : Fin 32) (mask : Fin 8) (mod : Fin 16) (s : State) : Res :=
  .next (atomicOp s shed thread 3 rd ra rb mask mod)

/-- Class 7 FUNC 0x04. -/
def execAtomicSwap (shed : Fin 64) (thread : Fin 256) (rd ra rb : Fin 32) (mask : Fin 8) (mod : Fin 16) (s : State) : Res :=
  .next (atomicOp s shed thread 4 rd ra rb mask mod)

/-- Class 7 FUNC 0x05. -/
def execAtomicCas (shed : Fin 64) (thread : Fin 256) (rd ra rb : Fin 32) (mask : Fin 8) (mod : Fin 16) (s : State) : Res :=
  .next (atomicOp s shed thread 5 rd ra rb mask mod)

/-- Class 7 FUNC 0x06. -/
def execAtomicMins (shed : Fin 64) (thread : Fin 256) (rd ra rb : Fin 32) (mask : Fin 8) (mod : Fin 16) (s : State) : Res :=
  .next (atomicOp s shed thread 6 rd ra rb mask mod)

/-- Class 7 FUNC 0x07. -/
def execAtomicMaxs (shed : Fin 64) (thread : Fin 256) (rd ra rb : Fin 32) (mask : Fin 8) (mod : Fin 16) (s : State) : Res :=
  .next (atomicOp s shed thread 7 rd ra rb mask mod)

/-- Class 7 FUNC 0x08. -/
def execAtomicMinu (shed : Fin 64) (thread : Fin 256) (rd ra rb : Fin 32) (mask : Fin 8) (mod : Fin 16) (s : State) : Res :=
  .next (atomicOp s shed thread 8 rd ra rb mask mod)

/-- Class 7 FUNC 0x09. -/
def execAtomicMaxu (shed : Fin 64) (thread : Fin 256) (rd ra rb : Fin 32) (mask : Fin 8) (mod : Fin 16) (s : State) : Res :=
  .next (atomicOp s shed thread 9 rd ra rb mask mod)

/-- Class 7 FUNC 0x10: later accesses wait for every earlier one (R141). -/
def execFence (shed : Fin 64) (thread : Fin 256) (mask : Fin 8) (s : State) : Res :=
  .next (issue s shed thread [] (fun s th =>
    if mask ≠ 0 then .trap 1 0 else .done s { th with fence := !th.out.isEmpty }))

/-- Class 8 FUNC 0x00: release; the increment starts on its way to the box (R141, R146). -/
def execSbinc (shed : Fin 64) (thread : Fin 256) (ra rb : Fin 32) (mask : Fin 8) (s : State) : Res :=
  .next (issue s shed thread [.x ra, .x rb] (fun s th =>
    if mask ≠ 0 then .trap 1 0
    else if th.out.isEmpty && !th.fence then
      if 1024 ≤ (th.xr ra).toNat then .trap 7 (th.xr ra)
      else .done (sendSbx s (shedDie shed) (th.xr ra).toNat ((th.xr rb).toNat % 2 ^ 32)) th
    else .wait))

/-- Class 8 FUNC 0x01: the thread sleeps; its PC stays at the instruction until the wait ends (R135, R146). -/
def execSbwait (shed : Fin 64) (thread : Fin 256) (rd ra rb : Fin 32) (mask : Fin 8) (s : State) : Res :=
  .next (issue s shed thread [.x rd, .x ra, .x rb] (fun s th =>
    if mask ≠ 0 then .trap 1 0
    else if 1024 ≤ (th.xr ra).toNat then .trap 7 (th.xr ra)
    else .done s { th with pc := th.pc - 4, wait := .sbwait rd (th.xr ra).toNat ((th.xr rb).toNat % 2 ^ 32) }))

/-- The end of an SBWAIT: the status into rd, and the next instruction. -/
def endWait (th : Thread) (rd : Nat) (status : W64) : Thread :=
  ({ th with wait := .none, pc := th.pc + 4 } : Thread).setX rd status

/-- R146: the box has reached the value; the thread becomes ready with status 0. -/
def execSbwaitWake (shed : Fin 64) (thread : Fin 256) (s : State) : Res :=
  let th := getThread s shed thread
  match th.wait with
  | .sbwait rd box v =>
    if (getShed s shed).state = .run ∧ sbxReached s (shedDie shed) box v then
      .next (putThread s shed thread (endWait th rd 0))
    else .next s
  | .none => .next s

/-- R146: TWAIT H-cycles have passed since the wait began; status 1. -/
def execSbwaitTimeout (shed : Fin 64) (thread : Fin 256) (elapsed : Nat) (s : State) : Res :=
  let th := getThread s shed thread
  match th.wait with
  | .sbwait rd _ _ =>
    if (getShed s shed).state = .run ∧ th.twait ≠ 0 ∧ th.twait ≤ elapsed then
      .next (putThread s shed thread (endWait th rd 1))
    else .next s
  | .none => .next s

/-- Class 8 FUNC 0x03: the thread stops. -/
def execHalt (shed : Fin 64) (thread : Fin 256) (mask : Fin 8) (s : State) : Res :=
  .next (issue s shed thread [] (fun s th => if mask ≠ 0 then .trap 1 0 else .done s { th with running := false, handler := false }))

/-- Table 5.2: the value of a CSR. -/
def csrRead (s : State) (i t : Nat) (th : Thread) (n : Nat) : W64 :=
  match n with
  | 0x000 => BitVec.ofNat 64 (256 * i + t)
  | 0x001 => if th.launched then 2 * (s.time - th.launchTime) + BitVec.ofNat 64 (Config.cycleAlign s.freeCtr % 2) else 0
  | 0x002 => s.time
  | 0x010 => BitVec.ofNat 64 th.fflags
  | 0x011 => BitVec.ofNat 64 th.frm
  | 0x020 => BitVec.ofNat 64 th.twait
  | 0x040 => th.epc
  | 0x041 => th.tpc
  | 0x042 => th.tval
  | 0x043 => BitVec.ofNat 64 th.cause
  | n => Config.csrOther n s.freeCtr

/-- Table 5.2: a write of a CSR; read-only and unlisted CSRs are unchanged. -/
def csrWrite (th : Thread) (n : Nat) (v : W64) : Thread :=
  match n with
  | 0x010 => { th with fflags := v.toNat % 32 }
  | 0x011 => { th with frm := if v.toNat % 4 < 2 then v.toNat % 4 else 0 }
  | 0x020 => { th with twait := v.toNat % 2 ^ 32 }
  | 0x040 => { th with epc := v }
  | 0x041 => { th with tpc := v }
  | 0x042 => { th with tval := v }
  | 0x043 => { th with cause := v.toNat % 128 }
  | _ => th

/-- Class 9: a CSR into rd (R132) (DESIGN CHOICE: log entry 10; DESIGN CHOICE: log entry 17). -/
def execCsrr (shed : Fin 64) (thread : Fin 256) (rd : Fin 32) (csr : BitVec 12) (s : State) : Res :=
  .next (issue s shed thread [.x rd] (fun s th => .done (drawn s) (th.setX rd (csrRead s shed thread th csr.toNat))))

/-- Class 9: ra into a CSR; a handler CSR outside handler mode traps with cause 5 (R132). -/
def execCsrw (shed : Fin 64) (thread : Fin 256) (ra : Fin 32) (csr : BitVec 12) (s : State) : Res :=
  .next (issue s shed thread [.x ra] (fun s th =>
    if 0x040 ≤ csr.toNat ∧ csr.toNat ≤ 0x043 ∧ th.handler = false then .trap 5 0
    else .done s (csrWrite th csr.toNat (th.xr ra))))

/-- Class 9: return from handler mode to EPC (R149). -/
def execEret (shed : Fin 64) (thread : Fin 256) (s : State) : Res :=
  .next (issue s shed thread [] (fun s th =>
    if th.handler then .done s { th with handler := false, pc := th.epc } else .trap 5 0))

/-- Class 9: a precise trap of cause 6 with IMM in TVAL (R147) (DEDUCED: log entry 45). -/
def execTrap (shed : Fin 64) (thread : Fin 256) (imm : BitVec 12) (s : State) : Res :=
  .next (issue s shed thread [] (fun _ _ => .trap 6 (imm.zeroExtend 64)))

/-- Class 10: a special function on FP32 lanes. -/
def execExp2 (shed : Fin 64) (thread : Fin 256) (vd va : Fin 32) (mask : Fin 8) (s : State) : Res :=
  .next (issue s shed thread [.v vd, .v va] (fun s th => .done (drawn s) (sfuOp 0 s th vd va mask)))

/-- Class 10: a special function on FP32 lanes. -/
def execLog2 (shed : Fin 64) (thread : Fin 256) (vd va : Fin 32) (mask : Fin 8) (s : State) : Res :=
  .next (issue s shed thread [.v vd, .v va] (fun s th => .done (drawn s) (sfuOp 1 s th vd va mask)))

/-- Class 10: a special function on FP32 lanes. -/
def execRcp (shed : Fin 64) (thread : Fin 256) (vd va : Fin 32) (mask : Fin 8) (s : State) : Res :=
  .next (issue s shed thread [.v vd, .v va] (fun s th => .done (drawn s) (sfuOp 2 s th vd va mask)))

/-- Class 10: a special function on FP32 lanes. -/
def execRsqrt (shed : Fin 64) (thread : Fin 256) (vd va : Fin 32) (mask : Fin 8) (s : State) : Res :=
  .next (issue s shed thread [.v vd, .v va] (fun s th => .done (drawn s) (sfuOp 3 s th vd va mask)))

/-- Class 10: a special function on FP32 lanes. -/
def execSin (shed : Fin 64) (thread : Fin 256) (vd va : Fin 32) (mask : Fin 8) (s : State) : Res :=
  .next (issue s shed thread [.v vd, .v va] (fun s th => .done (drawn s) (sfuOp 4 s th vd va mask)))

/-- Class 10: a special function on FP32 lanes. -/
def execTanh (shed : Fin 64) (thread : Fin 256) (vd va : Fin 32) (mask : Fin 8) (s : State) : Res :=
  .next (issue s shed thread [.v vd, .v va] (fun s th => .done (drawn s) (sfuOp 5 s th vd va mask)))

/-- R147 to R150: the oldest error that has arrived is taken at the instruction boundary; an SBWAIT not yet satisfied has not reached it. The
error of an access issued before its thread took a trap only sets MULTI, also once the thread has left the handler.
(DEDUCED: log entry 188). -/
def execDeferredBusError (shed : Fin 64) (thread : Fin 256) (s : State) : Res :=
  let sh := getShed s shed
  let th := getThread s shed thread
  match th.errs with
  | [] => .next s
  | e :: rest =>
    if (sh.state = .run ∨ sh.state = .stopping) ∧ th.wait = .none then
      let s := putThread s shed thread { th with errs := rest }
      if th.running = false then .next s
      else if e.preTrap then
        .next (putThread s shed thread { th with errs := rest, cause := if bitOf th.cause 6 then th.cause else th.cause + 64 })
      else .next (takeTrap s shed thread e.cause true (BitVec.ofNat 64 e.addr) e.pc th.pc)
    else .next s

/-- R134: a write of SHD_CTRL.START with LAUNCH = 1. -/
def execShedLaunch (shed : Fin 64) (s : State) : Res :=
  .next (shdCtrlWrite s shed true false true false)

/-- R134: a write of SHD_CTRL.START with LAUNCH = 0. -/
def execShedResume (shed : Fin 64) (s : State) : Res :=
  .next (shdCtrlWrite s shed true false false false)

/-- R135: a write of SHD_CTRL.STOP. -/
def execShedStop (shed : Fin 64) (s : State) : Res :=
  .next (shdCtrlWrite s shed false true false false)

/-- R135, R477: the last issued access has completed, and its errors are recorded. A shed that ostler firmware has stopped after a halt goes on to
what firmware means to do with it. -/
def execShedStopped (shed : Fin 64) (s : State) : Res :=
  let sh := getShed s shed
  if sh.state = .stopping ∧ sh.thr.all (fun x => x.2.out.isEmpty && x.2.errs.isEmpty) then
    .next (carryPlan (putShed s shed { sh with state := .stopped }) shed)
  else .next s

/-- R137: a write of SHD_CTRL.ICINV. -/
def execIcinv (shed : Fin 64) (s : State) : Res :=
  .next (shdCtrlWrite s shed false false false true)

/-- The address of a shed configuration register. -/
def shedCfgAddr (r : ShedCfgReg) (i : Nat) : Nat :=
  match r with
  | .cfg => Reg.SHD_CFG.addr i 0 0
  | .coredis => Reg.SHD_COREDIS.addr i 0 0
  | .entry => Reg.SHD_ENTRY.addr i 0 0
  | .trapvec => Reg.SHD_TRAPVEC.addr i 0 0
  | .thrEn j => Reg.SHD_THR_EN.addr i j 0

/-- The bits of a value that the register holds. -/
def shedCfgKeep (r : ShedCfgReg) (v : Nat) : Nat :=
  match r with
  | .cfg => v % 2
  | .coredis => v % 2 ^ 32
  | .entry => v / 4 * 4
  | .trapvec => v / 4 * 4
  | .thrEn _ => v % 2 ^ 32

/-- R136: a write of a shed configuration register, all of them reached over the bridleway only. -/
def execShedCfgWrite (req : Requester) (shed : Fin 64) (reg : ShedCfgReg) (value : W64) (s : State) : Res :=
  let a := shedCfgAddr reg shed
  if req.bridle then .next (shdCfgWrite (busForget s req a) shed a (shedCfgKeep reg value.toNat)) else .next s

end Sys2Proof.Machine
end

