-- ==== Sys2Proof/Machine/CmdShunter.lean ====
section
/-! DEFINITION. The commands of the shunters, sidings, signal boxes and stall ports (chapter 06), but for the transfers. -/
namespace Sys2Proof.Machine

/-- Class 8 FUNC 0x04, R145, R146: a thread queues a tile operation for a stall of its die; rd takes the arm status and FULL. -/
def execTileop (shed : Fin 64) (thread : Fin 256) (w : Bool) (rd ra rb : Fin 32) (mask : Fin 8) (s : State) : Res :=
  .next (issue s shed thread [.x rd, .x ra, .v rb] (fun s th =>
    let k := 4 * shedDie shed + (th.xr ra).toNat
    if mask ≠ 0 then .trap 1 0
    else if th.fence then .wait
    else if 3 < (th.xr ra).toNat then .trap 7 (th.xr ra)
    else if tqFull s k then (if w then .wait else .done s (th.setX rd 0x100))
    else
      let r := queueTileOp s k (toBytes 16 (th.vr rb).toNat)
      .done r.1 (th.setX rd (BitVec.ofNat 64 r.2))))

/-- R161: a write of SHU_CHn_ARM; a write before the status of an earlier one waits for it. -/
def execChannelArm (reg : ShuAt) (chan : Fin 8) (addr : BitVec 48) (s : State) : Res :=
  let s := busForget s reg.req (Reg.SHU_CH_ARM.addr reg.shu chan 0)
  let x := getChan s reg.shu chan
  .next (putChan s reg.shu chan { x with arms := x.arms ++ [addr.toNat] })

/-- R161, R162: the oldest arm is fetched, checked and given its status. -/
def execArmResult (shu : Fin 96) (chan : Fin 8) (s : State) : Res :=
  let x := getChan s shu chan
  match x.arms with
  | [] => .next s
  | a :: t => .next (armDesc (putChan s shu chan { x with arms := t }) shu chan a)

/-- R163, R169: a waiting channel's box has reached its value; while the shunter is STOPPED channels keep their states. -/
def execChannelWaitSatisfied (shu : Fin 96) (chan : Fin 8) (s : State) : Res :=
  let x := getChan s shu chan
  match x.run with
  | none => .next s
  | some r =>
    if x.state = .wait ∧ (getShu s shu).state ≠ .stopped ∧ sbxReached s (shuDie shu) r.d.waitSbx r.d.waitValue then
      .next (putChan s shu chan { x with state := .active })
    else .next s

/-- R166: the last outstanding transfer of a stopping channel is acknowledged. A halt on scale skew voids tile operations (R119). -/
def execChannelHalted (shu : Fin 96) (chan : Fin 8) (s : State) : Res :=
  let x := getChan s shu chan
  if x.halting ≠ 0 ∧ x.state ≠ .halted ∧ x.outstanding = 0 ∧ (chanNext s shu chan).ready = false then
    let s := putChan s shu chan { x with state := .halted, hcause := x.halting, waitOn := none, waitCnt := 0 }
    let s := setF s (if x.halting = 1 then Fld.SHU_ERR_SKEW else if x.halting = 2 then Fld.SHU_ERR_DEADLOCK else Fld.SHU_ERR_UNREACH) 1 shu
    match x.run, x.halting with
    | some r, 1 =>
      if r.d.dstKind = .weight then .next (weightSkew s (shuStall shu))
      else if r.d.dstKind = .input then .next (inputSkew s (shuStall shu))
      else .next s
    | _, _ => .next s
  else .next s

/-- R168: a write of SHU_CHn_CTRL.CLEAR = 1. -/
def execChannelClear (shu : Fin 96) (chan : Fin 8) (drop : Bool) (s : State) : Res :=
  .next (chanCtrlWrite s shu chan true drop)

/-- R168 steps 2 to 6. -/
def execChannelClearComplete (shu : Fin 96) (chan : Fin 8) (s : State) : Res :=
  let x := getChan s shu chan
  if x.clearing ∧ x.outstanding = 0 then .next (clearChan s shu chan) else .next s

/-- R169: a write of SHU_CTRL.STOP. -/
def execShunterStop (shu : Fin 96) (s : State) : Res := .next (shuCtrlWrite s shu false true)

/-- R169: the last outstanding transfer of a stopping shunter is acknowledged. -/
def execShunterStopped (shu : Fin 96) (s : State) : Res :=
  let x := getShu s shu
  if x.state = .stopping ∧ x.outstanding = 0 then .next (putShu s shu { x with state := .stopped }) else .next s

/-- R169: a write of SHU_CTRL.START. -/
def execShunterStart (shu : Fin 96) (s : State) : Res := .next (shuCtrlWrite s shu true false)

/-- R170: a write of SHU_CLASS1 to SHU_CLASS3 (`cls` 0 to 2). -/
def execShuClassWrite (req : Requester) (shu : Fin 96) (cls : Fin 3) (value : W32) (s : State) : Res :=
  if req.bridle then .next (shuClassWrite s shu cls value.toNat) else .next s

/-- R176: a write of SID_PUB. -/
def execSidPub (die : Fin 4) (sid : Fin 256) (n : Fin 128) (s : State) : Res := .next (sidPubWrite s die sid n)

/-- R176: a write of SID_REL. -/
def execSidRel (die : Fin 4) (sid : Fin 256) (n : Fin 128) (s : State) : Res := .next (sidRelWrite s die sid n)

/-- R500, Table 6.12: a write of SID_CTRL.RESET. -/
def execSidCtrlReset (req : Requester) (die : Fin 4) (sid : Fin 256) (s : State) : Res :=
  if req.bridle then .next (sidCtrlWrite s die sid 1) else .next s

/-- R500: a write of a configuration register of a siding. -/
def execSidingConfigWrite (req : Requester) (die : Fin 4) (sid : Fin 256) (reg : SidReg) (value : W64) (s : State) : Res :=
  let d := match reg with
    | .base => Reg.SID_BASE
    | .cfg => Reg.SID_CFG
    | .elems => Reg.SID_ELEMS
    | .sbx => Reg.SID_SBX
  if req.bridle then .next (sidCfgWrite (busForget s req (d.addr die sid 0)) die sid d value)
  else .next s

/-- R192, Table 6.12: the deadlock window in M-cycles. -/
def deadlockWindow (s : State) (die : Nat) : Nat :=
  let v := getF s Fld.SID_DLWIN_LOG2 die
  2 ^ (if 16 ≤ v ∧ v ≤ 30 then v else 20)

/-- R191: the channel of the other role of a siding: shunter and channel. -/
def sidParty (s : State) (die sid : Nat) (asProd : Bool) : Option (Nat × Nat) :=
  ((if asProd then (getSid s die sid).cons else (getSid s die sid).prod)).map (fun no => (24 * die + no / 8, no % 8))

/-- R191, R192: channel A's wait reaches the window while its party waits on a siding whose party is A (DEDUCED: log entry 230;
DESIGN CHOICE: log entry 231). -/
def execSidingDeadlock (shu : Fin 96) (chan : Fin 8) (s : State) : Res :=
  let die := shuDie shu
  let a := getChan s shu chan
  match chanNext s shu chan with
  | .waitSid sa pa =>
    if a.waitOn = some (sa, pa) ∧ deadlockWindow s die ≤ a.waitCnt then
      match sidParty s die sa pa with
      | none => .next s
      | some (n2, c2) =>
        let b := getChan s n2 c2
        match chanNext s n2 c2 with
        | .waitSid sb pb =>
          if sidParty s die sb pb = some (shu.val, chan.val) ∧ (a.halting = 0 ∨ b.halting = 0) then
            let noA := chanNo shu chan
            let noB := chanNo n2 c2
            let side := fun (no sid : Nat) (p : Bool) => (no, sid, b01 (!p))
            let swap := decide (a.waitCnt = b.waitCnt) && decide (b.waitOn = some (sb, pb)) && decide (noB < noA)
            let x := if swap then side noB sb pb else side noA sa pa
            let y := if swap then side noA sa pa else side noB sb pb
            let s := haltChan (haltChan s shu chan 2) n2 c2 2
            .next (raiseEv s 0x4020 (shuUnit (24 * die + x.1 / 8)) 0
              (packDetail [(0, x.1), (8, x.2.1), (16, x.2.2), (24, y.1), (32, y.2.1), (40, y.2.2)]))
          else .next s
        | _ => .next s
    else .next s
  | _ => .next s

/-- R177: the increment at place `idx` of those on their way reaches its box. -/
def execSignalBoxIncrement (idx : Nat) (s : State) : Res :=
  match s.sbxFlight[idx]? with
  | none => .next s
  | some x => .next (addF { s with sbxFlight := s.sbxFlight.eraseIdx idx } Fld.SBX_CNT_COUNT x.inc x.die x.box)

/-- R177: a write of SBX_CNT. -/
def execSbxCntWrite (die : Fin 4) (box : Fin 1024) (value : W32) (s : State) : Res :=
  .next (setF s Fld.SBX_CNT_COUNT value.toNat die box)

/-- R178: a write of SBX_INC. -/
def execSbxIncWrite (die : Fin 4) (box : Fin 1024) (value : W32) (s : State) : Res :=
  .next (addF s Fld.SBX_CNT_COUNT value.toNat die box)

/-- R185: a write of SHU_TQ_ARM. -/
def execTqArm (reg : StallAt) (addr : BitVec 48) (s : State) : Res :=
  .next (tqArmWrite (busForget s reg.req (Reg.SHU_TQ_ARM.addr (evenShu reg.stall) 0 0)) reg.stall addr.toNat)

/-- R179: a complete tile of the weight port enters the tile input buffer. -/
def execTileBufferEntry (stall : Fin 16) (s : State) : Res :=
  let x := getStall s stall
  match portChan s stall .weight with
  | none => .next s
  | some c =>
    let ch := getChan s (evenShu stall) c
    match ch.run with
    | none => .next s
    | some r =>
      match r.ready with
      | [] => .next s
      | tl :: rest =>
        if x.buffer.length < 2 then
          let s := putStall s stall { x with buffer := x.buffer ++ [tl], tilesIn := x.tilesIn + 1 }
          .next (putChan s (evenShu stall) c { ch with run := some { r with ready := rest, entered := r.entered + 1 } })
        else .next s

/-- R180: the input-port stream begins the vectors of the next operation of the queue; the buffer holds 1 MiB (DEDUCED: log entry 69). -/
def execInputVectorFetch (stall : Fin 16) (s : State) : Res :=
  let x := getStall s stall
  match x.toFetch, portChan s stall .input with
  | q :: rest, some c =>
    let ch := getChan s (oddShu stall) c
    match ch.run with
    | none => .next s
    | some r =>
      let b := q.d.vcnt + 1
      let bytes := b * (if q.d.xfmt = 0 then 64 else 128)
      let used := (x.fetches.map (·.bytes)).foldl (· + ·) 0
      if r.d.dstKind = .input ∧ ch.state = .active ∧ ch.halting = 0 ∧ ch.clearing = false ∧ (getShu s (oddShu stall)).state = .run
          ∧ (q.d.waitEn = false ∨ sbxReached s (stallDie stall) q.d.waitSbx q.d.waitValue)
          ∧ r.pos + x.inGrant < r.d.total ∧ used + bytes ≤ 1048576 then
        .next (putStall s stall
          { x with toFetch := rest, fetches := x.fetches ++ [{ id := q.id, need := b, bytes := bytes }], inGrant := x.inGrant + 128 * b })
      else .next s
  | _, _ => .next s

end Sys2Proof.Machine
end

