-- ==== Sys2Proof/Machine/CmdStall.lean ====
section
/-! DEFINITION. The commands of the stalls: loads, commits, refreshes, tile operations, stops and restarts (chapters 03, 04). -/
namespace Sys2Proof.Machine

/-- R75: the load front end accepts the oldest complete tile. -/
def execLoadAccept (stall : Fin 16) (s : State) : Res :=
  let x := getStall s stall
  match x.buffer with
  | [] => .next s
  | tl :: rest =>
    if x.accepts ∧ x.staged.length < 2 then
      let nt := formTile s stall (x.tilesIn - rest.length) tl
      let s := bumpF s Fld.STL_WUFL_COUNT (weightUnderflows tl) stall
      .next (putStall s stall { x with buffer := rest, staged := x.staged ++ [nt] })
    else .next s

/-- R76, R82: string cycle 0 of the oldest staged load; the idle node's old tile is overwritten (R78). -/
def execStringCyclesStart (stall : Fin 16) (s : State) : Res :=
  let x := getStall s stall
  if x.accepts ∧ ¬ x.farOwns ∧ x.strings = .free ∧ ¬ x.awaiting ∧ ¬ x.active.due ∧ x.staged ≠ [] then
    .next (putStall s stall (({ x with strings := .load } : Stall).setNode (!x.activeB) {}))
  else .next s

/-- R75: the last string cycle ends; the idle node holds the tile and its staging slot frees. -/
def execLoadComplete (stall : Fin 16) (s : State) : Res :=
  let x := getStall s stall
  match x.strings, x.staged with
  | .load, nt :: rest =>
    .next (putStall s stall
      (({ x with strings := .free, staged := rest, awaiting := true } : Stall).setNode (!x.activeB) { loaded := true, tile := nt }))
  | _, _ => .next s

/-- R77: a commit swaps the nodes once every operation on the old tile has left the modulators and one on the new tile has been
accepted, which is what moves the cursor to it (R101) (DEDUCED: log entry 39). -/
def execCommit (stall : Fin 16) (s : State) : Res :=
  let x := getStall s stall
  let seq := x.idle.tile.seq
  if x.awaiting ∧ seq ≤ x.cursor ∧ x.issue.all (fun o => decide (seq ≤ o.tileSeq)) ∧ x.retries = [] ∧ ¬ x.modulating ∧ ¬ x.farOwns
      ∧ (x.state = .run ∨ x.state = .stopping) then
    .next (putStall s stall { x with activeB := !x.activeB, awaiting := false, actSeq := seq })
  else .next s

/-- R81: the refresh of a node falls due, `elapsed` S-cycles after its last write, 48 before its interval ends. -/
def execHoldRefreshDue (stall : Fin 16) (nodeB : Bool) (elapsed : Nat) (s : State) : Res :=
  let x := getStall s stall
  let n := if nodeB then x.nodeB else x.nodeA
  if x.refreshed nodeB ∧ refreshInterval x.band ≤ elapsed + 48 then
    .next (putStall s stall (x.setNode nodeB { n with due := true }))
  else .next s

/-- R82: a due refresh takes the strings, the active node's first. -/
def execHoldRefreshStart (stall : Fin 16) (s : State) : Res :=
  let x := getStall s stall
  if x.strings = .free ∧ ¬ x.farOwns then
    if x.active.due ∧ x.refreshed x.activeB then .next (putStall s stall { x with strings := .refresh x.activeB })
    else if x.idle.due ∧ x.refreshed (!x.activeB) then .next (putStall s stall { x with strings := .refresh (!x.activeB) })
    else .next s
  else .next s

/-- R81: a refresh ends; it counts as a write of its node. -/
def execHoldRefreshEnd (stall : Fin 16) (s : State) : Res :=
  let x := getStall s stall
  match x.strings with
  | .refresh b =>
    let n := if b then x.nodeB else x.nodeA
    .next (putStall s stall (({ x with strings := .free } : Stall).setNode b { n with due := false }))
  | _ => .next s

/-- R84: the die's band reaches the stall; a node whose refresh time under the new interval has passed falls due at once.
`elapsedA`, `elapsedB`: S-cycles since each node's last write. -/
def execBandChangeAtStall (stall : Fin 16) (elapsedA elapsedB : Nat) (s : State) : Res :=
  let x := getStall s stall
  let band := bitsOf (getF s Fld.THM_STATUS_BAND) (3 * stallDie stall) 3
  let due := fun (b : Bool) (e : Nat) => x.refreshed b && decide (refreshInterval band ≤ e + 48)
  .next (putStall s stall
    { x with
      band := band
      nodeA := { x.nodeA with due := due false elapsedA }
      nodeB := { x.nodeB with due := due true elapsedB } })

/-- R105, R185, R98: the even stall shunter hands the oldest queued descriptor over, once its wait is satisfied and the port is not
full. With 3 or 4 S-cycles of hand-over at most 4 are on their way (DEDUCED: log entry 182). -/
def execTileOpHandover (stall : Fin 16) (s : State) : Res :=
  let x := getStall s stall
  match x.tq with
  | [] => .next s
  | q :: rest =>
    if x.entry.length < 4 ∧ x.accepts ∧ x.issue.length < 4
        ∧ (q.d.waitEn = false ∨ sbxReached s (stallDie stall) q.d.waitSbx q.d.waitValue) then
      .next (putStall s stall { x with tq := rest, entry := x.entry ++ [q] })
    else .next s

/-- R98, R101, R119: the waiting descriptor is accepted at the issue port, or voided in a void state, with cause 2 where both ports are void
(DESIGN CHOICE: log entry 232). -/
def execIssueAccept (stall : Fin 16) (s : State) : Res :=
  let x := getStall s stall
  match x.entry with
  | [] => .next s
  | q :: rest =>
    if x.accepts ∧ x.issue.length < 4 then
      let cur := if q.d.next then x.cursor + 1 else x.cursor
      if x.inputVoid then
        let cur := if x.weightVoid then min cur x.tilesIn else cur
        .next (voidOp (putStall s stall { x with entry := rest, cursor := cur }) stall q.id q.d.tag 2 0)
      else if x.weightVoid ∧ (x.voidHit ∨ x.tilesIn < cur) then
        .next (voidOp (putStall s stall { x with entry := rest, voidHit := true }) stall q.id q.d.tag 1 0)
      else
        let o : OpRun := { id := q.id, d := q.d, n := q.d.vcnt + 1, tileSeq := cur, low := q.d.slice == 2 }
        .next (putStall s stall { x with entry := rest, cursor := cur, issue := x.issue ++ [o] })
    else .next s

/-- R99 cycle 1, R106, R63, R182, R364: the head of the issue port reads its inputs and starts its first pass, or is voided with
cause 3; a remainder whose pause is over resumes. An operation voided here is not "the tile operation before" another (R88)
(DEDUCED: log entry 183). -/
def execTileOpBegin (stall : Fin 16) (s : State) : Res :=
  let x := getStall s stall
  match x.issue with
  | [] => .next s
  | o :: rest =>
    if o.begun then .next (resumeStall s stall)
    else if x.mayIssue ∧ ¬ x.modulating ∧ x.retries = [] ∧ o.tileSeq = x.actSeq ∧ pauseOver s stall then
      if x.active.loaded ∧ o.d.wfmt ≠ x.active.tile.fmt then
        .next (voidOp (putStall s stall { x with issue := rest }) stall o.id o.d.tag 3 0)
      else
        match x.fetches.find? (fun f => f.id == o.id) with
        | none => .next s
        | some f =>
          if f.vecs.length < o.n then .next s
          else
            let rev := o.d.op == 2
            let thr := (List.range 128).map (fun c =>
              sext 8 ((rdReg s ((if rev then Reg.STL_THR_NEAR else Reg.STL_THR_FAR).addr stall (c / 4) 0)).toNat / 2 ^ (8 * (c % 4))))
            let s := bumpF s Fld.STL_XUFL_COUNT ((f.vecs.map InVec.underflows).foldl (· + ·) 0) stall
            let o' := { o with begun := true, vecs := f.vecs, tile := x.activeTile, thr := thr }
            .next (putStall s stall { x with issue := o' :: rest, modulating := true, lastDir := rev, wave := waveOf s stall })
    else .next s

/-- R89 to R96, R109 to R116: the last window of the modulating pass or retry closes. -/
def execPassEnd (stall : Fin 16) (s : State) : Res :=
  let x := getStall s stall
  if x.retries.any (·.running) then .next (endRetry s stall)
  else if x.modulating then .next (endPass s stall)
  else .next s

/-- R115, R117: the waiting retry takes the modulators once one of the two records is free. -/
def execRetryStart (stall : Fin 16) (s : State) : Res :=
  let x := getStall s stall
  match x.retries with
  | [] => .next s
  | r :: rest =>
    if x.mayIssue ∧ ¬ x.modulating ∧ ¬ r.running ∧ x.drain.length < 2 then
      .next (putStall s stall { x with retries := { r with running := true } :: rest })
    else .next s

/-- R111, R180: the last contribution of an operation is readable. An operation voided in part never completes. -/
def execTileOpComplete (stall : Fin 16) (s : State) : Res :=
  let x := getStall s stall
  match x.finishing with
  | [] => .next s
  | o :: rest =>
    if x.retries.any (fun r => r.o.id == o.id) then .next s
    else
      let s := dropVectors (putStall s stall { x with finishing := rest, drain := x.drain.filter (· != o.id) }) stall o.id
      if o.never then .next s
      else
        let s := addF s Fld.STL_OPS_OPS 1 stall
        .next (if o.d.doneEn then sendSbx s (stallDie stall) o.d.doneSbx 1 else s)

/-- R123: a write of STL_CTRL.START. -/
def execStallStart (stall : Fin 16) (s : State) : Res := .next (stlCtrlWrite s stall true false false)

/-- R121: a write of STL_CTRL.STOP with CUT = 0. -/
def execStallStop (stall : Fin 16) (s : State) : Res := .next (stlCtrlWrite s stall false true false)

/-- R122: a write of STL_CTRL.STOP with CUT = 1. -/
def execStallStopCut (stall : Fin 16) (s : State) : Res := .next (stlCtrlWrite s stall false true true)

/-- R121, R122: the last accepted work, or the last string cycle, has ended. -/
def execStallStopped (stall : Fin 16) (s : State) : Res :=
  let x := getStall s stall
  let idle := !x.modulating && !x.retries.any (·.running)
    && x.finishing.all (fun o => x.retries.any (fun r => r.o.id == o.id))
  if x.state = .stopping ∧ x.strings ≠ .load ∧ idle = true ∧ (x.cutting ∨ (x.issue = [] ∧ x.retries = [])) then
    .next (retireEnds (putStall s stall { x with state := .stopped, cutting := false }) stall)
  else .next s

/-- R124, R125: a write of STL_CFG that sets RANGE and leaves OFFLINE as it is. -/
def execStlCfgRange (req : Requester) (stall : Fin 16) (range : Bool) (s : State) : Res :=
  if req.bridle then .next (stlCfgWrite s req stall (b01 range + 2 * getF s Fld.STL_CFG_OFFLINE stall)) else .next s

/-- R124, R127: a write of STL_CFG that sets OFFLINE and leaves RANGE as it is. -/
def execStlCfgOffline (req : Requester) (stall : Fin 16) (offline : Bool) (s : State) : Res :=
  if req.bridle then .next (stlCfgWrite s req stall (getF s Fld.STL_CFG_RANGE stall + 2 * b01 offline)) else .next s

/-- R124, R125: a write of STL_RESET.RESET. -/
def execStlReset (req : Requester) (stall : Fin 16) (s : State) : Res :=
  if req.bridle then .next (stlResetWrite s req stall 1) else .next s

end Sys2Proof.Machine
end

