-- ==== Sys2Proof/Machine/CmdSys.lean ====
section
/-! DEFINITION. Commands of start-up, reset and the fault ladder (chapter 18). -/
namespace Sys2Proof.Machine

/-- R478, R440, R477: ostler firmware pops the head record, copies it to the event rings, and acts on it. -/
def execEventPop (s : State) : Res := .next (if firmwareRuns s then popEvent s else s)

/-- R468: PWR_IN rises through 42 V with the rails off. `keepTrip`: it has stayed above 20 V (R376). -/
def execPowerOnReset (keepTrip : Bool) (s : State) : Res := .next (powerOnReset s keepTrip)

/-- R469: a package reset, with its cause of event 0xD006. -/
def execPackageReset (cause : BitVec 3) (s : State) : Res :=
  .next (if 1 ≤ cause.toNat ∧ cause.toNat ≤ 4 then packageResetUp s cause.toNat else s)

/-- R468: RESET_N has been low for `micros` µs. -/
def execResetNLow (micros : Nat) (s : State) : Res :=
  .next (if micros < 10 then s else if s.sys.tripped then powerOnReset s true else packageResetUp s 1)

/-- R468: a write of EVT_CTRL.PKGRESET. -/
def execPkgreset (req : Requester) (key : BitVec 8) (s : State) : Res :=
  .next (if req.bridle ∧ key = 0xB5 then packageResetUp s 4 else s)

/-- R241: an uncorrectable read of ostler memory at `addr`. -/
def execOstlerMemoryError (addr : BitVec 48) (s : State) : Res :=
  .next (if firmwareRuns s then ostlerRestart { s with sys := { s.sys with memErr := addr.toNat } } 1 else s)

/-- R468: the ostler is restarted: 1 memory, 2 watchdog, 3 a fatal firmware error. -/
def execOstlerRestart (cause : BitVec 2) (s : State) : Res :=
  .next (if cause = 0 then s else ostlerRestart s cause.toNat)

/-- R471: a write of EVT_WDOG.KICK. -/
def execWatchdogKick (req : Requester) (s : State) : Res := .next (if req.bridle then kickWrite s else s)

/-- R471: a watchdog period has passed with no kick. -/
def execWatchdogExpiry (s : State) : Res := .next (if watchdogExpired s then ostlerRestart s 2 else s)

/-- R466 phase 2, R471: ostler firmware starts, or runs again after a restart. -/
def execPhaseOstlerStart (s : State) : Res :=
  match s.sys.restarting with
  | some c =>
    if s.pwr.rails = .valid ∧ (phaseHeld s = 7 ∨ phaseHeld s = 2) then
      match reloadOstler s with
      | none => .next (enterRecovery { s with sys := { s.sys with restarting := none } })
      | some u => .next (if phaseHeld s = 7 then restartEnds u c else ostlerStart u)
    else .next s
  | none => .next (if s.sys.ostlerUp ∧ phaseHeld s = 2 then ostlerStart s else s)

/-- R466 phase 3: the stacks of `hbm` train, and the DDR5 tier as `d` says. -/
def execPhaseMemory (hbm : BitVec 8) (d : DdrTraining) (s : State) : Res :=
  .next (if firmwareRuns s ∧ phaseHeld s = 3 ∧ s.sys.memDone = false then trainMemory s hbm.toNat d else s)

/-- R466 phase 5: self-calibration, rein banks, the farrier's start and the light sequence. -/
def execPhaseLight (lock0 lock1 : Bool) (sweeps : List RingSweep) (s : State) : Res :=
  .next (if firmwareRuns s ∧ phaseHeld s = 3 ∧ s.sys.lightDone = false then lightPhase s lock0 lock1 sweeps else s)

/-- R466 phase 6: service ready. `katStall`, `katShed`: the known-answer operations and test programs that passed. -/
def execPhaseServiceReady (katStall : BitVec 16) (katShed : W64) (s : State) : Res :=
  .next (serviceReady s katStall.toNat katShed.toNat)

/-- R467: phase `phase` has run for `ms` ms, longer than its worst time. -/
def execPhaseOverrun (phase : BitVec 3) (ms : W32) (s : State) : Res :=
  .next (if s.pwr.rails = .valid ∧ inPhase s phase.toNat ∧ 1 ≤ phase.toNat ∧ phase.toNat ≤ 6 ∧ phaseWorst s.sys.pkg phase.toNat < ms.toNat then
      raiseEv s 0xD004 evtUnit 0 (packDetail [(0, phase.toNat), (3, ms.toNat)])
    else s)

/-- R475: the service level is recomputed after event `code`. -/
def execServiceLevelChange (code : BitVec 16) (s : State) : Res := .next (levelChange s code.toNat)

end Sys2Proof.Machine
end

