-- ==== Sys2Proof/Machine/CmdTack.lean ====
section
/-! DEFINITION. Commands of the tack room (chapter 17). -/
namespace Sys2Proof.Machine

/-- R451: the boot of Table 17.3. `kat`: the known-answer tests pass; `fuses`: every fuse word reads. -/
def execBoot (kat fuses : Bool) (s : State) : Res := .next (boot s kat fuses)

/-- R461: the tack room examines its inbox. -/
def execInboxPoll (s : State) : Res := .next (inboxPoll s)

/-- R462 KIND 1: the owner key is set, or replaced. -/
def execOwnerSet (storeOk : Bool) (s : State) : Res :=
  .next (inboxRequest s 1 storeOk (fun s h => some { s with tack := { s.tack with owner := some ((h.drop 72).take 157) } }))

/-- R462 KIND 2: a publisher key is written into its slot. -/
def execKeyEnrol (storeOk : Bool) (s : State) : Res :=
  .next (inboxRequest s 2 storeOk (fun s h => some { s with tack := { s.tack with
    keys := nmPut (fun _ => []) s.tack.keys (fieldOf h 11 1) ((h.drop 72).take 157) } }))

/-- R462 KIND 3: a publisher key slot is emptied. -/
def execKeyRevoke (storeOk : Bool) (s : State) : Res :=
  .next (inboxRequest s 3 storeOk (fun s h => some { s with tack := { s.tack with
    keys := nmPut (fun _ => []) s.tack.keys (fieldOf h 11 1) [] } }))

/-- R453 KIND 4: the fuses have been blown until k is the target; event 0xC004. Whether the store takes what it writes is free (R462; DEDUCED: log
entry 165) (DEDUCED: log entry 165). -/
def execRollbackCommit (s : State) : Res :=
  .next (inboxRequest (drawn s) 4 (Config.commitStored s.freeCtr) (fun s h =>
    let old := rollbackK s
    let new := fieldOf h 11 1
    some (raiseEv (setF s Fld.TCK_ROLLBACK_K new) 0xC004 tackUnit 0 (packDetail [(0, old), (8, new)]))))

/-- R452 KIND 5: an image that passes becomes the trial primary of its kind. -/
def execFwInstall (storeOk : Bool) (s : State) : Res := .next (inboxRequest s 5 storeOk installImage)

/-- R452: `seconds` have passed since the ostler was released under a trial image that has not reached READY. -/
def execTrialTimeout (seconds : Nat) (s : State) : Res :=
  .next (if s.sys.trialDue ∧ 60 ≤ seconds then revertTrial s else s)

/-- R458: the signer serves the oldest request. -/
def execSign (s : State) : Res := .next (signNext s)

/-- R460: the signer has built its paths, or its next lower tree. -/
def execTreeBuildDone (s : State) : Res := .next (treeBuilt s)

end Sys2Proof.Machine
end

