-- ==== Sys2Proof/Machine/CmdTier.lean ====
section
/-! DEFINITION. The commands of the memory tiers and of the integrity block (chapters 07 and 08). -/
namespace Sys2Proof.Machine

/-- The bursts that a request within one 512-byte window touches; 0 where it leaves the window. -/
def reqBursts (a : Nat) (k : MemReqKind) : Nat :=
  let n := match k with
    | .read b => 64 * b
    | .write bs => bs.length
  if n = 0 ∨ (a + n - 1) / 512 ≠ a / 512 then 0 else (a + n - 1) / 64 - a / 64 + 1

/-- R206, R199, R376: a request reaches the controller of its stack or channel, and is queued, or is not served. `tRef`: it took a
non-zero t_ref. -/
def execMemoryRequest (addr : BitVec 48) (kind : MemReqKind) (cls : Fin 4) (tRef : Bool) (s : State) : Res :=
  let a := addr.toNat
  match regionAt a with
  | .manger _ _ => .next s
  | .control => .next s
  | .outside => .next { s with tier := { s.tier with reply := .unreachable } }
  | r =>
    if reachable s a = false ∨ accepts s a cls = false then .next { s with tier := { s.tier with reply := .unreachable } }
    else if reqBursts a kind = 0 then .next s
    else
      let s := countTRef s r (b01 tRef)
      .next { s with tier := { s.tier with queue := s.tier.queue ++ [{ addr := a, cls := cls, kind := kind, tRef := tRef }] } }

/-- R210: a pseudo-channel or subchannel as a key. -/
def laneKey (s : State) (a : Nat) : Nat :=
  let b := bankAddr s a
  b.unit * 64 + (if b.unit < 8 then b.lane else b.lane % 2)

/-- Whether a request writes. -/
def MemReq.writes (q : MemReq) : Bool :=
  match q.kind with
  | .read _ => false
  | .write _ => true

/-- R210: while its lane has requests of both directions queued, a request is served in the lane's direction up to 32 bursts, and in
the other one after them. `x`: see `Tier.served`. -/
def inTurn (s : State) (q : MemReq) : Bool :=
  let k := laneKey s q.addr
  let x := nmGet (fun _ => 0) s.tier.served k
  let w := x % 2 == 1
  let other := s.tier.queue.any (fun y => laneKey s y.addr == k && y.writes != q.writes)
  x == 0 || !other || ((q.writes == w) == decide (x / 2 < 32))

/-- R210: the lane's count after a request. -/
def serveLane (s : State) (q : MemReq) : State :=
  let k := laneKey s q.addr
  let x := nmGet (fun _ => 0) s.tier.served k
  let n := reqBursts q.addr q.kind + (if x ≠ 0 ∧ (x % 2 == 1) = q.writes then x / 2 else 0)
  { s with tier := { s.tier with served := nmPut (fun _ => 0) s.tier.served k (2 * n + b01 q.writes) } }

/-- R206, R187, R210: the request at place `idx` departs. Within a class and direction the oldest of a pseudo-channel or subchannel goes
first (DEDUCED: log entry 200). -/
def execMemoryRequestComplete (idx : Nat) (s : State) : Res :=
  match s.tier.queue[idx]? with
  | none => .next s
  | some q =>
    let ahead := fun (y : MemReq) => y.cls == q.cls && y.writes == q.writes && laneKey s y.addr == laneKey s q.addr
    if (s.tier.queue.take idx).any ahead || !inTurn s q then .next s
    else
      let s := serveLane { s with tier := { s.tier with queue := s.tier.queue.eraseIdx idx } } q
      match q.kind with
      | .read n =>
        let m := readAt s q.addr (64 * n)
        let t := settle m.s
        .next { t with tier := { t.tier with reply := if m.failed then .uncorrectable else .data m.bytes } }
      | .write bs =>
        let w := writeAt s q.addr (bs.map (fun x => x.map (·.toNat)))
        let t := settle w.1
        .next { t with tier := { t.tier with reply := if w.2 then .uncorrectable else .done } }

/-- R205: a bank with no request for 64 M-cycles closes its row. -/
def execRowIdleClose (addr : BitVec 48) (s : State) : Res :=
  let b := bankAddr s addr.toNat
  if s.tier.queue.any (fun q => (bankAddr s q.addr).key == b.key) then .next s else .next (closeRowAt s addr.toNat)

/-- R209, R205: the refresh target of `addr` is refreshed; its banks are closed. A DDR5 target is the same bank of every bank group. -/
def execDramRefresh (addr : BitVec 48) (s : State) : Res :=
  let b := bankAddr s addr.toNat
  let keys := if b.unit < 8 then [b.key] else (List.range 8).map (fun g => ({ b with bank := g + 8 * (b.bank / 8) } : BankAddr).key)
  .next { s with tier := { s.tier with openRow := keys.foldl (fun m k => nmPut (fun _ => 0) m k 0) s.tier.openRow } }

/-- R215: a write of HBM_CFG.OFFLINE or DDR_CFG.OFFLINE. -/
def execTierOfflineWrite (req : Requester) (unit : Fin 20) (offline : Bool) (s : State) : Res :=
  if req.bridle then .next (tierCfgWrite s unit offline) else .next s

/-- R228, R229: the three passes over a region. `bad`: rows in which pass 2 found a mismatch or an error; `again`: those of them that fail
after their repair too. -/
def execPowerOnFill (region : Fin 24) (bad again : List (BitVec 48)) (s : State) : Res :=
  let r := region.val
  if s.integ.fillDue.contains r then
    let mine := fun (l : List (BitVec 48)) => (l.map (·.toNat)).filter (inRegion r)
    let s := { s with integ := { s.integ with fillDue := s.integ.fillDue.filter (· != r) } }
    let x := fillRows (countFill (clearRegion s r) r) (mine bad)
    let y := fillRows x.1 ((mine again).filter (fun a => (mine bad).contains a && !x.2.contains a))
    .next (fillVerdict y.1 r (x.2 ++ y.2))
  else .next s

/-- R237: the HWIN period of a region has passed. -/
def execHandlingPeriodEnd (region : Fin 24) (bank : Fin 64) (s : State) : Res :=
  let r := regionOf region bank
  .next (if handlingOver s r then endHandling s r else s)

/-- R237: a write of MGR_HND or ECC_HND. -/
def execHndWrite (req : Requester) (region : Fin 24) (value : W64) (s : State) : Res :=
  let a := if region.val < 4 then Reg.MGR_HND.addr region 0 0 else Reg.ECC_HND.addr (region - 4) 0 0
  if req.bridle then .next (hndWrite (busForget s req a) region value.toNat) else .next s

/-- R230, R231: no request is queued for the bank of `a`, or, in HBM, for its pseudo-channel (DEDUCED: log entry 201). -/
def bankIdle (s : State) (a : Nat) : Bool :=
  let b := bankAddr s a
  match regionAt a with
  | .hbm _ => s.tier.queue.all (fun q => laneKey s q.addr != laneKey s a)
  | .ddr _ => s.tier.queue.all (fun q => (bankAddr s q.addr).key != b.key)
  | _ => true

/-- R231, R236: the pending poison write at place `idx` is made on an idle bank, unless its region is out of service. -/
def execPoisonWrite (idx : Nat) (s : State) : Res :=
  match s.mem.pendPoison[idx]? with
  | none => .next s
  | some a => if reachable s a && bankIdle s a then .next (storePoison s a) else .next s

/-- R230, R231: a groom reads its next window, where the bank is idle. -/
def execGroomRead (groom : Fin 276) (s : State) : Res :=
  let g := groom.val
  let r := groomRegion g
  let i := groomAt s g
  if groomEnabled s r = false ∨ (lapStart s r).isNone then .next s
  else if groomSkips s g then .next (endLap s r)
  else if groomWindows s r ≤ i then .next (endLap s r)
  else if bankIdle s (groomAddr g i) = false then .next s
  else
    let s := (memRead s (groomAddr g i) 512 true).s
    let s := { s with integ := { s.integ with groomPos := nmPut (fun _ => 0) s.integ.groomPos g (i + 1) } }
    .next (endLap s r)

/-- R231: the pending write-back at place `idx` of a corrected byte or burst is made on an idle bank. -/
def execGroomWriteBack (idx : Nat) (s : State) : Res :=
  match s.mem.pendFix[idx]? with
  | none => .next s
  | some a =>
    let t := { s with mem := { s.mem with pendFix := s.mem.pendFix.eraseIdx idx } }
    if reachable s a = false then .next t
    else if bankIdle s a = false then .next s
    else
      let s := t
      match regionAt a with
      | .manger _ _ => if (guardByte s a).2 = 1 then .next (writeMangerByte s a (guardByte s a).1 false) else .next s
      | r =>
        let b := lineBurst s r.line a
        if b.2.1 = 1 then .next (writeBurst (openRowAt s a) r a b.1 false) else .next s

/-- R232: a region's current lap reaches its tier's GRM_LAPMAX; once for the lap. -/
def execGroomLapAlarm (region : Fin 24) (s : State) : Res :=
  let r := region.val
  if groomEnabled s r ∧ lapMax s r ≤ lapMs s r ∧ s.integ.lapAlarmed.contains r = false then
    let s := { s with integ := { s.integ with lapAlarmed := s.integ.lapAlarmed ++ [r] } }
    let s := setF s Fld.GRM_ALARM_ALARM (getF s Fld.GRM_ALARM_ALARM ||| 2 ^ r)
    .next (raiseEv s 0x3006 (unitOf 3 24) 0 (packDetail [(0, r), (5, lapMs s r)]))
  else .next s

/-- R232: a write of GRM_CTRL. -/
def execGroomEnableWrite (req : Requester) (value : W32) (s : State) : Res :=
  if req.bridle then .next (grmCtrlWrite s value.toNat) else .next s

/-- R234: a write of MGR_SOFTREP. -/
def execMgrSoftrep (req : Requester) (die : Fin 4) (bank : Fin 64) (row : Fin 8192) (s : State) : Res :=
  if req.bridle then .next (softRepWrite s die bank row) else .next s

/-- R234: the oldest copy asked for in a bank ends. -/
def execSoftRepairCopy (die : Fin 4) (bank : Fin 64) (s : State) : Res := .next (softCopy s die bank)

/-- R242: a write of ECC_FLIP_CTRL.ARM. -/
def execFlipArm (req : Requester) (s : State) : Res :=
  if req.bridle then .next (flipCtrlWrite s true false) else .next s

/-- R242: a write of ECC_FLIP_CTRL.DISARM. -/
def execFlipDisarm (req : Requester) (s : State) : Res :=
  if req.bridle then .next (flipCtrlWrite s false true) else .next s

/-- R241: a write of 1 to ECC_OHOLD.HOLD. -/
def execOholdRelease (req : Requester) (s : State) : Res :=
  if req.bridle then .next (setF s Fld.ECC_OHOLD_HOLD 0) else .next s

end Sys2Proof.Machine
end

