-- ==== Sys2Proof/Machine/Transfer.lean ====
section
/-! DEFINITION. The transfers of the shunters (R157, R164, R167, R174, R179 to R181, R184, R189 to R191): their issue, the return of their
reads with the conversion of the data, and their acknowledgement. -/
namespace Sys2Proof.Machine

/-- The requester a shunter is on the bus (R498). -/
def shuReq (n : Nat) : Requester := if h : n < 96 then .shunter ⟨n, h⟩ else .rein

/-- Replace the run of a channel. -/
def putRun (s : State) (n c : Nat) (r : Run) : State := putChan s n c { getChan s n c with run := some r }

/-! Issue. -/

/-- R191: the wait timers of a shunter's channels after `m` further M-cycles; of a wait that began among them, a free part has passed
(DESIGN CHOICE: log entry 192). -/
def waitTimers (s : State) (n m : Nat) : State :=
  (List.range 8).foldl (fun s c =>
    let x := getChan s n c
    match chanNext s n c with
    | .waitSid i p =>
      if x.waitOn = some (i, p) then putChan s n c { x with waitCnt := min (x.waitCnt + m) (2 ^ 32 - 1) }
      else putChan (drawn s) n c { x with waitOn := some (i, p), waitCnt := min (Config.waitBegan s.freeCtr) (min m (2 ^ 32 - 1)) }
    | _ => putChan s n c { x with waitOn := none, waitCnt := 0 }) s

/-- R191: waits that begin with what a shunter has just issued count from 0. -/
def waitMarks (s : State) (n : Nat) : State :=
  (List.range 8).foldl (fun s c =>
    let x := getChan s n c
    match chanNext s n c with
    | .waitSid i p => if x.waitOn = some (i, p) then s else putChan s n c { x with waitOn := some (i, p), waitCnt := 0 }
    | _ => putChan s n c { x with waitOn := none, waitCnt := 0 }) s

/-- R166: channels whose next read has no target in service halt. -/
def haltUnreached (s : State) (n : Nat) : State :=
  (List.range 8).foldl (fun s c =>
    match chanNext s n c with
    | .unreach a => unreachTarget s n c a false
    | _ => s) s

/-- SHU_BYTES counts a control-space write that has not ended in a bus error. -/
def countControl (s : State) (n len : Nat) : State := if s.bus.reply = .busError then s else addF s Fld.SHU_BYTES_COUNT len n

/-- A scale line is written in one 64-byte write (R48). -/
def writeLine (s : State) (n c : Nat) (w : LineWrite) : State :=
  if reachable s w.addr then addF (memWriteBytes s w.addr w.bytes).1 Fld.SHU_BYTES_COUNT 64 n
  else if inControl w.addr then countControl (busWrite s (shuReq n) w.addr 64 (ofBytes w.bytes)) n 64
  else unreachTarget s n c w.addr true

/-- R157, R174, R180, R189: the next transfer of channel `c` issues. -/
def issueTransfer (s : State) (n c : Nat) : State :=
  let x := getChan s n c
  match x.run with
  | none => s
  | some r0 =>
    let r := seqFix s n r0
    let cls := nextCls s n c
    let no := (getShu s n).nextNo
    match chanNext s n c with
    | .lineWrite w =>
      let s := writeLine s n c w
      takeTokens (putRun s n c { r with
        pendLW := r.pendLW.drop 1, xfers := r.xfers ++ [⟨.lineWrite w.slot, w.addr, 0, true, no⟩] }) n cls 0
    | .line l need =>
      let more := if r.d.srcKind = .siding then l.slot + 1 - r.srcSlots else 0
      let a := reserveSrc s n c r more
      takeTokens (putRun a.1 n c { a.2 with
        issLines := a.2.issLines ++ [(l.slot, l.line)], xfers := a.2.xfers ++ [⟨.line l.slot l.line need l.expect, l.addr, 64, false, no⟩] }) n cls 64
    | .data count lead loc sn dn keys =>
      let a := reserveSrc s n c r sn
      let b := reserveDst a.1 n a.2 dn
      let s := putRun b.1 n c { b.2 with
        pos := b.2.pos + count, half := lead, issLines := keys, xfers := b.2.xfers ++ [⟨.data b.2.pos count lead, loc.addr, loc.len, false, no⟩] }
      let k := shuStall n
      let s := if r.d.dstKind = .input then putStall s k { getStall s k with inGrant := (getStall s k).inGrant - count } else s
      takeTokens s n cls loc.len
    | _ => s

/-- R190: one issue of an M-cycle. -/
def issueOne (s : State) (n : Nat) : State :=
  let s := haltUnreached s n
  if 512 ≤ (getShu s n).outstanding then s
  else
    match pickChan s n with
    | none => s
    | some c =>
      let cls := nextCls s n c
      let s := issueTransfer s n c
      putShu s n { getShu s n with last := nmPut (fun _ => 7) (getShu s n).last (cls - 1) c, nextNo := (getShu s n).nextNo + 1 }

/-! What a source unit holds, and what the destination takes. -/

/-- A source unit: a block, poisoned where its data or its line is uncorrectable, or elements, none where uncorrectable. -/
inductive SrcUnit
  | blk (b : Block)
  | elems (bits : List (Option Nat))

/-- Elements of `w` bytes, each lost if one of its bytes is. -/
def elemsOf (w : Nat) : Nat → List (Nat × Bool) → List (Option Nat)
  | 0, _ => []
  | k + 1, bs =>
    let h := bs.take w
    (if h.any (·.2) then none else some (ofBytes (h.map (·.1)))) :: elemsOf w k (bs.drop w)

/-- R33, R38, R167: the bytes of a source unit, and its exponent where the format has one. -/
def unitOfBytes (d : StreamDesc) (bs : List (Nat × Bool)) (e : Option Nat) : SrcUnit :=
  if d.sf.isBlock && d.srcKind != .drain then
    match e with
    | none => .blk poisonBlock
    | some e => .blk (if bs.any (·.2) then poisonBlock else ⟨e, mantissas d.sf.width 32 (ofBytes (bs.map (·.1)))⟩)
  else .elems (elemsOf (d.sf.width / 8) (srcUnit d) bs)

/-- Data on its way through a shunter: the state, the run, the bytes to be written, and where the poisons among them begin. -/
structure Flow where
  s : State
  r : Run
  w : List (Nat × Nat)
  poisons : List Nat := []

/-- Bytes for the destination. A control-space destination is written as they come. -/
def Flow.put (f : Flow) (n : Nat) (a : Nat) (bs : List Nat) : Flow :=
  if inControl a then { f with s := countControl (busWrite f.s (shuReq n) a bs.length (ofBytes bs)) n bs.length }
  else { f with w := f.w ++ List.zip ((List.range bs.length).map (a + ·)) bs }

/-- R52: the block or element just put at `a` is a poison, counted once it is written: one for control space unless its write ended in a bus
error, one for memory by `writeWindow`. -/
def Flow.poison (f : Flow) (n a : Nat) : Flow :=
  if inControl a then
    if f.s.bus.reply = .busError then f else { f with s := bumpF f.s Fld.SHU_CONV_POIS_COUNT 1 n }
  else { f with poisons := f.poisons ++ [a] }

/-- The destination scale line of position `p`. -/
def dstLine (s : State) (n : Nat) (r : Run) (p : Nat) : LineRef :=
  lineRef s (shuDie n) r.d.dstKind r.d.dsid r.d.df r.d.dst r.d.cnt r.dstSeq p

/-- A destination line as a number. -/
def lineKey (l : LineRef) : Nat := l.slot * 2 ^ 40 + l.line

/-- R48: a destination line is built from the exponents formed so far. -/
def buildLine (f : Flow) (key : Nat) (l : LineRef) : Flow :=
  let exps := (List.range 56).map (fun j => nmGet (fun _ => 255) f.r.dstExp (56 * key + j))
  { f with r := { f.r with
      dirty := f.r.dirty.filter (fun x => x != key)
      pendLW := f.r.pendLW ++ [⟨l.slot, l.addr, buildScaleLine l.expect f.r.d.df exps⟩] } }

/-- The block within its line, and within its slot or array. -/
def dstBlockNo (s : State) (n : Nat) (r : Run) (p : Nat) : Nat :=
  match r.d.dstKind with
  | .siding => p % getF s Fld.SID_ELEMS_ELEMS (shuDie n) r.d.dsid / 32
  | _ => (walkIdx r.d.dst r.d.cnt p).toNat / 32

/-- R48, R51: a block for a block-format array or siding. Its line is written after the block of index 55, or the last of a slot
(DEDUCED: log entry 229). -/
def Flow.arrayBlock (f : Flow) (n p : Nat) (b : Block) : Flow :=
  let l := dstLine f.s n f.r p
  let key := lineKey l
  let j := dstBlockNo f.s n f.r p
  let se := slotElems f.s (shuDie n) f.r.d.dstKind f.r.d.dsid
  let a := dstAddr f.s n f.r p
  let f := f.put n a (toBytes (4 * f.r.d.df.width) (packMantissas f.r.d.df.width b.m))
  let f := if b.e = 255 then f.poison n a else f
  let f := { f with r := { f.r with
      dstExp := nmPut (fun _ => 255) f.r.dstExp (56 * key + j % 56) b.e
      dirty := f.r.dirty.filter (fun x => x != key) ++ [key] } }
  if j % 56 = 55 ∨ (se ≠ 0 ∧ (p + 32) % se = 0) then buildLine f key l else f

/-- R180: a vector enters the vector buffer, for the first operation that still needs one. -/
def vectorIn (x : Stall) (v : InVec) : Stall :=
  match x.fetches.find? (fun q => decide (q.vecs.length < q.need)) with
  | none => x
  | some q =>
    let q' : VecFetch := { q with vecs := q.vecs ++ [v] }
    let fs := x.fetches.map (fun y => if y.id = q.id then q' else y)
    { x with fetches := fs.filter (fun y => !(y.dead && decide (y.need ≤ y.vecs.length))) }

/-- R181: a slot of the source siding, by its number within the descriptor, carries an operation's vector. -/
def carries (s : State) (n : Nat) (r : Run) (slot : Nat) (op : Nat × Nat) : State :=
  let x := getSid s (shuDie n) r.d.ssid
  let at_ (i : Nat) : Nat := i + r.srcSlots - x.held.length
  putSid s (shuDie n) r.d.ssid { x with
    held := ((List.range x.held.length).zip x.held).map (fun h =>
      if x.held.length ≤ h.1 + r.srcSlots ∧ slot = at_ h.1 then
        { h.2 with ops := if h.2.ops.contains op then h.2.ops else h.2.ops ++ [op] } else h.2) }

/-- R180, R181: a block for the input port. Its slot carries the operation the vector is for; the fourth block completes the vector. -/
def Flow.inputBlock (f : Flow) (n p : Nat) (b : Block) : Flow :=
  let k := shuStall n
  let se := slotElems f.s (shuDie n) f.r.d.srcKind f.r.d.ssid
  let s := match (getStall f.s k).fetches.find? (fun q => decide (q.vecs.length < q.need)) with
    | none => f.s
    | some q => if se = 0 ∨ q.dead then f.s else carries f.s n f.r (p / se) (k, q.id)
  let v := f.r.vec ++ [b]
  if v.length < 4 then { f with s := s, r := { f.r with vec := v } }
  else { f with s := putStall s k (vectorIn (getStall s k) ⟨v⟩), r := { f.r with vec := [] } }

/-- R66, R179: a block for the weight port; 512 of them form a tile. -/
def Flow.weightBlock (f : Flow) (p : Nat) (b : Block) : Flow :=
  let t := nmPut (fun _ => zeroBlock) f.r.tile (p / 32 % 512) b
  if (p + 32) % 16384 = 0 then
    { f with r := { f.r with tile := [], ready := f.r.ready ++ [{ fmt := f.r.d.df.code, blocks := t }] } }
  else { f with r := { f.r with tile := t } }

/-- R52: a block written to a stall port is counted at once. -/
def Flow.portCount (f : Flow) (n : Nat) (b : Block) : Flow :=
  let s := addF f.s Fld.SHU_BYTES_COUNT (4 * f.r.d.df.width) n
  { f with s := if b.e = 255 then bumpF s Fld.SHU_CONV_POIS_COUNT 1 n else s }

/-- R52: a block for the destination, at positions `p` to `p + 31`. -/
def Flow.block (f : Flow) (n p : Nat) (b : Block) : Flow :=
  match f.r.d.dstKind with
  | .weight => (f.portCount n b).weightBlock p b
  | .input => (f.portCount n b).inputBlock n p b
  | _ => f.arrayBlock n p b

/-- Table 2.3: the mode of a rounding code. -/
def rndOf (code : Nat) : Rnd := if code = 0 then .rne else if code = 1 then .rtz else .rs

/-- R51, R56: 32 sources become a block. In mode RS it takes 32 draws. -/
def Flow.convert (f : Flow) (n p : Nat) (srcs : List Src) : Flow :=
  let x := getShu f.s n
  let g := if f.r.d.rnd = 2 then genDraws 32 x.gen else ([], x.gen)
  let c := Machine.convert (rndOf f.r.d.rnd) f.r.d.df.width srcs g.1
  let s := putShu f.s n { x with gen := g.2 }
  let s := if c.overflow then bumpF s Fld.SHU_CONV_OVF_COUNT 1 n else s
  { f with s := s }.block n p c.blk

/-- R52, R58, R167: an element for a BF16 or FP32 destination; `lost`: it counts as a poison. -/
def Flow.elem (f : Flow) (n p bits : Nat) (lost : Bool) : Flow :=
  let a := dstAddr f.s n f.r p
  let f := f.put n a (toBytes (f.r.d.df.width / 8) bits)
  if lost then f.poison n a else f

/-- The precision of a floating format. -/
def fmtPrec (f : Fmt) : Nat := if f = .bf16 then 8 else 24

/-- R58: an element from one floating format into another. -/
def fpConv (sf df : Fmt) (bits : Nat) : Nat :=
  if sf = df then bits else if sf = .fp32 then (f32ToBf16 bits).bits else bf16ToF32 bits

/-- An exact source, waiting for its block. -/
def accOf : Src → AccElem
  | none => ⟨false, 0, 0⟩
  | some d => ⟨true, d.m, d.e⟩
def AccElem.src (a : AccElem) : Src := if a.fin then some ⟨a.m, a.e⟩ else none

/-- A floating element on its way into a block. -/
def Flow.gather (f : Flow) (n p : Nat) (b : Option Nat) : Flow :=
  let v : Src := match b with
    | none => none
    | some x => fpSrc (fmtPrec f.r.d.sf) x
  let acc := f.r.acc ++ [accOf v]
  if acc.length < 32 then { f with r := { f.r with acc := acc } }
  else { f with r := { f.r with acc := [] } }.convert n (p - 31) (acc.map AccElem.src)

/-- R35, R51, R52, R57 to R59, R167: a source unit at position `p` reaches the destination (DEDUCED: log entry 72). -/
def Flow.unit (f : Flow) (n p : Nat) (u : SrcUnit) : Flow :=
  let sf := f.r.d.sf
  let df := f.r.d.df
  match u with
  | .blk b =>
    if df.isBlock then
      if df.width < sf.width then f.convert n p (blockSrcs sf.width b)
      else f.block n p (widen sf.width df.width b)
    else
      ((List.range 32).zip b.m).foldl (fun f x =>
        f.elem n (p + x.1) (elemToFp (fmtPrec df) sf.width b.e x.2).bits (b.e == 255)) f
  | .elems es =>
    ((List.range es.length).zip es).foldl (fun f x =>
      if df.isBlock then f.gather n (p + x.1) x.2
      else
        match x.2 with
        | none => f.elem n (p + x.1) (fpQNaN (fmtPrec df)) true
        | some v => f.elem n (p + x.1) (fpConv sf df v) false) f

/-! The return of a read. -/

/-- Reads of control space, unit by unit; one that ends in a bus error is lost (DEDUCED: log entry 71). -/
def readControl (s : State) (n : Nat) : List Loc → State × List (Nat × Nat × Bool)
  | [] => (s, [])
  | l :: t =>
    let s := busRead s (shuReq n) l.addr l.len
    let bs : List (Nat × Nat × Bool) := match s.bus.reply with
      | .data v => (List.zip (List.range l.len) (toBytes l.len v)).map (fun x => (l.addr + x.1, x.2, false))
      | _ => (List.range l.len).map (fun i => (l.addr + i, 0, true))
    let r := readControl s n t
    (r.1, bs ++ r.2)

/-- R97, R184: the rows of the trough from byte `a` on, a row at 512 times its slot. -/
def readTrough (x : Stall) (a len : Nat) : List (Nat × Nat × Bool) :=
  (List.range (len / 4)).flatMap (fun i =>
    (List.zip (List.range 4) (toBytes 4 (x.troughAt (a / 4 + i)).toNat)).map (fun y => (a + 4 * i + y.1, y.2, false)))

/-- The bytes of a data transfer: address, value, lost; none where the target is not in service. -/
def readData (s : State) (n : Nat) (r : Run) (x : Xfer) (units : List Loc) : State × Option (List (Nat × Nat × Bool)) :=
  if r.d.srcKind = .drain then (s, some (readTrough (getStall s (shuStall n)) x.addr x.len))
  else if inControl x.addr then
    let y := readControl s n units
    (y.1, some y.2)
  else if reachable s x.addr then
    let m := memRead s x.addr x.len
    (m.s, some ((List.range x.len).zip (m.bytes.zip m.bad) |>.map (fun y => (x.addr + y.1, y.2.1, y.2.2))))
  else (s, none)

/-- R45 to R47: the exponent of the block at position `p`; none where its line is uncorrectable. -/
def srcExp (s : State) (n : Nat) (r : Run) (p : Nat) : Option Nat :=
  let l := srcLine s n r p
  let j := (match r.d.srcKind with
    | .siding => p % getF s Fld.SID_ELEMS_ELEMS (shuDie n) r.d.ssid / 32
    | _ => (walkIdx r.d.src r.d.cnt p).toNat / 32) % 56
  match r.lines.find? (fun y => y.slot == l.slot && y.line == l.line) with
  | some y => if y.bad then none else y.exps[j]?
  | none => none

/-- R225: a shunter's write of part of a burst that cannot be read is counted in ECC_UE, once with what its read counts there. -/
def countFailed (s t : State) (a : Nat) : State :=
  let u := (regionAt a).number - 4
  if getF s Fld.ECC_UE_COUNT u = getF t Fld.ECC_UE_COUNT u then bumpF t Fld.ECC_UE_COUNT 1 u else t

/-- A write that failed has not stored the byte at `a`. -/
def notStored (s : State) (a : Nat) : Bool := decide (2 ≤ (lineBurst s (regionAt a).line (a / 64 * 64)).2.1)

/-- R157: one write of a transfer has been made, of the bytes and poisons at these addresses: what it stored is counted (R52, Table 6.10). -/
def countWritten (s : State) (n : Nat) (bytes poisons : List Nat) : State :=
  bumpF (addF s Fld.SHU_BYTES_COUNT bytes.length n) Fld.SHU_CONV_POIS_COUNT poisons.length n

/-- The window writes of a transfer (R157): bytes of one window, in one write; `ws` holds the address of every byte of the walk, in its order,
and `ps` those where its poisons begin. -/
def writeWindow (n c : Nat) (ws ps : List Nat) (m : NMap Nat) (s : State) (w : Nat) : State :=
  match m.filter (fun x => x.1 / 512 == w) with
  | [] => s
  | x :: t =>
    let lo := x.1
    let hi := ((x :: t).getLast?.map (·.1)).getD lo
    let here := fun (l : List Nat) => l.filter (fun a => a / 512 == w)
    if reachable s lo then
      let r := memWrite s lo ((List.range (hi + 1 - lo)).map (fun i => nmFind (x :: t) (lo + i)))
      if r.2 then
        let kept := fun (l : List Nat) => (here l).filter (fun a => !notStored r.1 a)
        countWritten (countFailed s r.1 lo) n (kept ws) (kept ps)
      else countWritten r.1 n (here ws) (here ps)
    else unreachTarget s n c lo true

/-- R159, R160: the bytes are written in walk order, window by window. -/
def writeAll (s : State) (n c : Nat) (ws : List (Nat × Nat)) (ps : List Nat) : State :=
  let m := ws.foldl (fun m x => nmInsert m x.1 x.2) []
  (m.map (fun x => x.1 / 512)).eraseDups.foldl (writeWindow n c (ws.map (·.1)) ps m) s

/-- R48: lines left when the walk ends. -/
def flushLines (f : Flow) (n : Nat) (ps : List Nat) : Flow :=
  ps.foldl (fun f p =>
    let l := dstLine f.s n f.r p
    if f.r.dirty.contains (lineKey l) then buildLine f (lineKey l) l else f) f

/-- R174: slots of the source siding whose last read has returned. -/
def markReturned (s : State) (n : Nat) (r : Run) (old : Nat) : State :=
  let se := slotElems s (shuDie n) r.d.srcKind r.d.ssid
  if se = 0 then s
  else
    let x := getSid s (shuDie n) r.d.ssid
    let at_ (i : Nat) : Nat := i + r.srcSlots - x.held.length
    let done (i : Nat) : Bool := decide (x.held.length ≤ i + r.srcSlots) && decide (old / se ≤ at_ i) && decide (at_ i < r.conv / se)
    let held := ((List.range x.held.length).zip x.held).map (fun h => if done h.1 then { h.2 with returned := true } else h.2)
    sidSweep (putSid s (shuDie n) r.d.ssid { x with held := held }) (shuDie n) r.d.ssid

/-- The transfer is marked as returned. -/
def markXfer : List Xfer → List Xfer
  | [] => []
  | x :: t => if x.returned then x :: markXfer t else { x with returned := true } :: t

/-- R167, R157: the data of the transfer `x` returns, is converted and written. -/
def dataReturn (s : State) (n c : Nat) (r : Run) (x : Xfer) (p0 cnt : Nat) (lead : Bool) : State :=
  let u := srcUnit r.d
  let q := match r.stopAt with
    | some a => min a (p0 + cnt)
    | none => p0 + cnt
  let starts := unitStarts u cnt p0 q
  let rd := readData s n r x (starts.map (srcLoc s n r))
  let s := rd.1
  match rd.2 with
  | none =>
    putRun (unreachTarget s n c x.addr false) n c
      { r with xfers := markXfer r.xfers, stopAt := some (min p0 (r.stopAt.getD p0)), conv := p0, part := [] }
  | some got =>
    let byteAt (a : Nat) : Nat × Bool := match got.find? (fun y => y.1 == a) with
      | some y => y.2
      | none => (0, true)
    let unitBytesOf (p : Nat) : List (Nat × Bool) :=
      let l := srcLoc s n r p
      let pre := if p = p0 then r.part else []
      pre ++ ((List.range l.len).drop pre.length).map (fun i => byteAt (l.addr + i))
    let f0 : Flow := { s := s, r := r, w := [] }
    let f := starts.foldl (fun (f : Flow) p => f.unit n p (unitOfBytes r.d (unitBytesOf p) (srcExp s n r p))) f0
    let f := if q = r.d.total ∧ r.d.df.isBlock ∧ (r.d.dstKind = .mem ∨ r.d.dstKind = .siding) then
        flushLines f n ((List.range (r.d.total / 32)).map (· * 32)) else f
    let part := if lead ∧ q = p0 + cnt then
        let l := srcLoc s n r q
        ((List.range l.len).filter (fun i => (l.addr + i) / 512 == x.addr / 512)).map (fun i => byteAt (l.addr + i))
      else []
    let keys := starts.map (fun p => let l := srcLine s n r p; (l.slot, l.line))
    let lines := if r.d.sf.isBlock && !starts.isEmpty then f.r.lines.filter (fun y => keys.contains (y.slot, y.line)) else f.r.lines
    let r' : Run := { f.r with conv := q, part := part, lines := lines, xfers := markXfer f.r.xfers }
    let s := putRun (writeAll f.s n c f.w f.poisons) n c r'
    markReturned s n r' p0

/-- The 64 bytes of a scale line; none where they are lost. -/
def readLineBytes (s : State) (n a : Nat) : State × Option (List Nat) :=
  if inControl a then
    let t := busRead s (shuReq n) a 64
    (t, match t.bus.reply with
      | .data v => some (toBytes 64 v)
      | _ => none)
  else
    let m := memRead s a 64
    (m.s, if m.failed then none else some m.bytes)

/-- R45, R46, R167: a source scale line returns (DEDUCED: log entry 60; DEDUCED: log entry 62). -/
def lineReturn (s : State) (n c : Nat) (r : Run) (x : Xfer) (slot line need expect : Nat) : State :=
  let others := r.lines.filter (fun y => !(y.slot == slot && y.line == line))
  let xs := r.xfers.filter (fun y => y != x)
  let drop := match r.stopAt with
    | some a => decide (a ≤ need)
    | none => false
  if !(inControl x.addr || reachable s x.addr) then
    putRun (unreachTarget s n c x.addr false) n c { r with xfers := xs, stopAt := some (min need (r.stopAt.getD need)) }
  else
    let got := readLineBytes s n x.addr
    let s := got.1
    match got.2 with
    | none => putRun s n c { r with xfers := xs, lines := others ++ [⟨slot, line, [], false, true⟩] }
    | some bs =>
      let cause := scaleCheck bs expect r.d.sf
      if cause = 0 then putRun s n c { r with xfers := xs, lines := others ++ [⟨slot, line, bs.drop 8, false, false⟩] }
      else if drop then putRun s n c { r with xfers := xs }
      else
        let s := raiseEv s 0x4012 (shuUnit n) x.addr (packDetail [(0, expect), (40, cause)])
        let s := putRun s n c { r with xfers := xs, stopAt := some need, lines := others ++ [⟨slot, line, [], true, false⟩] }
        haltChan s n c 1

/-- R26, Table 14.10: a transfer's read may return now: its control accesses are next in their blocks, and every channel it reaches takes
requests. -/
def xferReturns (s : State) (n : Nat) (r : Run) (x : Xfer) : Bool :=
  !controlBusy s n x.no (x.blocks s n r) && (x.reaches s n r).all (fun a => !reachable s a || accepts s a 1)

/-- TRANSFER_READ_RETURN: the oldest read of a channel that has not returned (DESIGN CHOICE: log entry 59). -/
def readReturn (s : State) (n c : Nat) : State :=
  match (getChan s n c).run with
  | none => s
  | some r =>
    match r.xfers.find? (fun x => !x.returned) with
    | none => s
    | some x =>
      if xferReturns s n r x = false then s
      else
      match x.kind with
      | .data p0 cnt lead => dataReturn s n c r x p0 cnt lead
      | .line slot line need expect => lineReturn s n c r x slot line need expect
      | .lineWrite _ => s

/-! Acknowledgement. -/

/-- R174: the slots of the destination siding whose last write is acknowledged are published. -/
def publishSlots (s : State) (n c : Nat) : Nat → State
  | 0 => s
  | fuel + 1 =>
    match (getChan s n c).run with
    | none => s
    | some r =>
      let e := slotElems s (shuDie n) r.d.dstKind r.d.dsid
      let busy := r.pendLW.any (fun w => w.slot == r.dstPub) || r.xfers.any (fun x => decide (x.kind = .lineWrite r.dstPub))
      if e ≠ 0 ∧ (r.dstPub + 1) * e ≤ r.done ∧ busy = false then
        let d := shuDie n
        let s := putRun s n c { r with dstPub := r.dstPub + 1 }
        let x := getSid s d r.d.dsid
        publishSlots (sidPublish (putSid s d r.d.dsid { x with resv := x.resv - 1 }) d r.d.dsid 1) n c fuel
      else s

/-- R164: whether the walk has ended and everything is written. -/
def Run.ended (r : Run) : Bool :=
  decide (r.d.total ≤ r.pos) && decide (r.d.total ≤ r.done) && r.xfers.isEmpty && r.pendLW.isEmpty && r.ready.isEmpty

/-- R164: the current descriptor completes once its walk has ended. -/
def endWalk (s : State) (n c : Nat) : State :=
  let x := getChan s n c
  match x.run with
  | none => s
  | some r => if r.ended && x.state == .active && !x.clearing && x.halting == 0 then completeDesc s n c r.d else s

/-- The position up to which the data of a transfer of positions `p0` to `p0 + cnt − 1` is used. -/
def Run.upTo (r : Run) (p0 cnt : Nat) : Nat := min (r.stopAt.getD (p0 + cnt)) (p0 + cnt)

/-- Walk positions whose data has left the shunter: those converted, the elements that wait for their block apart. -/
def Run.written (r : Run) : Nat := r.conv - r.acc.length

/-- R157: a returned transfer still has a write to make: elements of its end wait for a block that the walk goes on to complete, or the first
part of a straddling block waits for its second. -/
def Run.holds (r : Run) (q : Nat) (lead : Bool) : Bool :=
  let limit := r.stopAt.getD r.d.total
  (decide (r.written < q) && decide (r.written + 32 ≤ limit)) || (lead && decide (r.conv ≤ q) && decide (q < limit))

/-- R157, R166, R168, R169: whether a channel still issues (DEDUCED: log entry 194). -/
def stillIssues (s : State) (n c : Nat) : Bool :=
  let x := getChan s n c
  (getShu s n).state == .run && x.state == .active && !x.clearing && decide (x.halting < 2)

/-- Whether an outstanding transfer's last destination write can have been acknowledged. A transfer that completes a weight tile waits for the
tile to enter the tile input buffer. -/
def mayAck (s : State) (n c : Nat) (r : Run) (x : Xfer) : Bool :=
  match x.kind with
  | .data p0 cnt lead =>
    x.returned && !(stillIssues s n c && r.holds (r.upTo p0 cnt) lead)
      && (r.d.dstKind != .weight || (getChan s n c).clearing || decide (min (p0 + cnt) r.conv / 16384 ≤ r.entered))
  | _ => x.returned

/-- TRANSFER_ACK: the oldest transfer of a channel is acknowledged, once its last destination write is (R157) (DESIGN CHOICE: log entry 195). -/
def ackTransfer (s : State) (n c : Nat) : State :=
  match (getChan s n c).run with
  | none => s
  | some r =>
    match r.xfers with
    | [] => s
    | x :: t =>
      if mayAck s n c r x = false then s
      else
        let done := match x.kind with
          | .data p0 cnt _ => min (r.upTo p0 cnt) r.written
          | _ => r.done
        let s := putRun s n c { r with xfers := t, done := max r.done done }
        let s := setF s Fld.SHU_CH_DONE_POS (max r.done done) n c
        endWalk (publishSlots s n c 64) n c

end Sys2Proof.Machine
end

