-- ==== Sys2Proof/Machine/CmdTransfer.lean ====
section
/-! DEFINITION. The commands of the shunters' transfers (chapter 06). -/
namespace Sys2Proof.Machine

/-- R190, R189, R191: an M-cycle of shunter `shu`, `cycles` M-cycles after the one before it: its tokens and wait timers advance, and it
issues up to two transfers. -/
def execTransferIssue (shu : Fin 96) (cycles : Nat) (s : State) : Res :=
  let n := shu.val
  if (getShu s n).state = .stopped then .next s
  else
    let s := waitTimers (addTokens s n cycles) n cycles
    .next (waitMarks (if (getShu s n).state = .run then issueOne (issueOne s n) n else s) n)

/-- R45, R46, R51 to R59, R157, R167, R174: the oldest read of channel `chan` that is under way returns. -/
def execTransferReadReturn (shu : Fin 96) (chan : Fin 8) (s : State) : Res := .next (readReturn s shu chan)

/-- R157, R164, R174: the last destination write of the channel's oldest transfer is acknowledged. -/
def execTransferAck (shu : Fin 96) (chan : Fin 8) (s : State) : Res := .next (ackTransfer s shu chan)

end Sys2Proof.Machine
end

