-- ==== Sys2Proof/Machine/Dispatch.lean ====
section
/-! DEFINITION. The one dispatch of a command to its meaning. -/
namespace Sys2Proof.Machine

def exec (i : Instr) (s : State) : Host.Outcome State Fault Refusal :=
  match i with
  | .registerWrite req addr width value => Sys2Proof.Machine.execRegisterWrite req addr width value s
  | .lowHalfWrite req addr value => Sys2Proof.Machine.execLowHalfWrite req addr value s
  | .highHalfWrite req addr value => Sys2Proof.Machine.execHighHalfWrite req addr value s
  | .lowHalfRead req addr => Sys2Proof.Machine.execLowHalfRead req addr s
  | .highHalfRead req addr => Sys2Proof.Machine.execHighHalfRead req addr s
  | .rcRead req addr width => Sys2Proof.Machine.execRcRead req addr width s
  | .eventRecordArrival idx => Sys2Proof.Machine.execEventRecordArrival idx s
  | .seedWrite reg value => Sys2Proof.Machine.execSeedWrite reg value s
  | .loadAccept stall => Sys2Proof.Machine.execLoadAccept stall s
  | .stringCyclesStart stall => Sys2Proof.Machine.execStringCyclesStart stall s
  | .loadComplete stall => Sys2Proof.Machine.execLoadComplete stall s
  | .commit stall => Sys2Proof.Machine.execCommit stall s
  | .holdRefreshDue stall nodeB elapsed => Sys2Proof.Machine.execHoldRefreshDue stall nodeB elapsed s
  | .holdRefreshStart stall => Sys2Proof.Machine.execHoldRefreshStart stall s
  | .holdRefreshEnd stall => Sys2Proof.Machine.execHoldRefreshEnd stall s
  | .bandChangeAtStall stall elapsedA elapsedB => Sys2Proof.Machine.execBandChangeAtStall stall elapsedA elapsedB s
  | .tileOpHandover stall => Sys2Proof.Machine.execTileOpHandover stall s
  | .issueAccept stall => Sys2Proof.Machine.execIssueAccept stall s
  | .tileOpBegin stall => Sys2Proof.Machine.execTileOpBegin stall s
  | .passEnd stall => Sys2Proof.Machine.execPassEnd stall s
  | .retryStart stall => Sys2Proof.Machine.execRetryStart stall s
  | .tileOpComplete stall => Sys2Proof.Machine.execTileOpComplete stall s
  | .stallStart stall => Sys2Proof.Machine.execStallStart stall s
  | .stallStop stall => Sys2Proof.Machine.execStallStop stall s
  | .stallStopCut stall => Sys2Proof.Machine.execStallStopCut stall s
  | .stallStopped stall => Sys2Proof.Machine.execStallStopped stall s
  | .stlCfgRange req stall range => Sys2Proof.Machine.execStlCfgRange req stall range s
  | .stlCfgOffline req stall offline => Sys2Proof.Machine.execStlCfgOffline req stall offline s
  | .stlReset req stall => Sys2Proof.Machine.execStlReset req stall s
  | .scalarAdd shed thread rd ra rb mask => Sys2Proof.Machine.execScalarAdd shed thread rd ra rb mask s
  | .scalarSub shed thread rd ra rb mask => Sys2Proof.Machine.execScalarSub shed thread rd ra rb mask s
  | .scalarLogic shed thread fn rd ra rb mask => Sys2Proof.Machine.execScalarLogic shed thread fn rd ra rb mask s
  | .scalarShift shed thread fn rd ra rb mask => Sys2Proof.Machine.execScalarShift shed thread fn rd ra rb mask s
  | .scalarCompare shed thread fn rd ra rb mask => Sys2Proof.Machine.execScalarCompare shed thread fn rd ra rb mask s
  | .mul shed thread rd ra rb mask => Sys2Proof.Machine.execMul shed thread rd ra rb mask s
  | .div shed thread rd ra rb mask => Sys2Proof.Machine.execDiv shed thread rd ra rb mask s
  | .scalarImmediate shed thread fn rd ra imm => Sys2Proof.Machine.execScalarImmediate shed thread fn rd ra imm s
  | .lui shed thread rd imm => Sys2Proof.Machine.execLui shed thread rd imm s
  | .branchEq shed thread ra rb off => Sys2Proof.Machine.execBranchEq shed thread ra rb off s
  | .branchNe shed thread ra rb off => Sys2Proof.Machine.execBranchNe shed thread ra rb off s
  | .branchLt shed thread ra rb off => Sys2Proof.Machine.execBranchLt shed thread ra rb off s
  | .branchGe shed thread ra rb off => Sys2Proof.Machine.execBranchGe shed thread ra rb off s
  | .branchLtu shed thread ra rb off => Sys2Proof.Machine.execBranchLtu shed thread ra rb off s
  | .branchGeu shed thread ra rb off => Sys2Proof.Machine.execBranchGeu shed thread ra rb off s
  | .jumpToRegister shed thread ra => Sys2Proof.Machine.execJumpToRegister shed thread ra s
  | .jumpAndLink shed thread rd off => Sys2Proof.Machine.execJumpAndLink shed thread rd off s
  | .scalarLoad shed thread size ord rd ra off => Sys2Proof.Machine.execScalarLoad shed thread size ord rd ra off s
  | .scalarStore shed thread size ord rs ra off => Sys2Proof.Machine.execScalarStore shed thread size ord rs ra off s
  | .vectorLoad shed thread size ord vd ra off => Sys2Proof.Machine.execVectorLoad shed thread size ord vd ra off s
  | .vectorStore shed thread size ord vs ra off => Sys2Proof.Machine.execVectorStore shed thread size ord vs ra off s
  | .loadResultReturn shed thread idx => Sys2Proof.Machine.execLoadResultReturn shed thread idx s
  | .vectorArith shed thread fn ty vd va vb mask => Sys2Proof.Machine.execVectorArith shed thread fn ty vd va vb mask s
  | .vfma shed thread ty vd va vb mask => Sys2Proof.Machine.execVfma shed thread ty vd va vb mask s
  | .vdot2 shed thread vd va vb mask => Sys2Proof.Machine.execVdot2 shed thread vd va vb mask s
  | .bxdot8 shed thread vd va vb xs => Sys2Proof.Machine.execBxdot8 shed thread vd va vb xs s
  | .tobx4 shed thread vd va xs slot rnd => Sys2Proof.Machine.execTobx4 shed thread vd va xs slot rnd s
  | .tobx8 shed thread vd va xs slot rnd => Sys2Proof.Machine.execTobx8 shed thread vd va xs slot rnd s
  | .tobx16 shed thread vd va xs slot rnd => Sys2Proof.Machine.execTobx16 shed thread vd va xs slot rnd s
  | .frombx4 shed thread vd va xs group => Sys2Proof.Machine.execFrombx4 shed thread vd va xs group s
  | .frombx8 shed thread vd va xs group => Sys2Proof.Machine.execFrombx8 shed thread vd va xs group s
  | .frombx16 shed thread vd va xs group => Sys2Proof.Machine.execFrombx16 shed thread vd va xs group s
  | .f32tobf16 shed thread vd va => Sys2Proof.Machine.execF32tobf16 shed thread vd va s
  | .bf16tof32 shed thread vd va half => Sys2Proof.Machine.execBf16tof32 shed thread vd va half s
  | .atomicAdd shed thread rd ra rb mask mod => Sys2Proof.Machine.execAtomicAdd shed thread rd ra rb mask mod s
  | .atomicAnd shed thread rd ra rb mask mod => Sys2Proof.Machine.execAtomicAnd shed thread rd ra rb mask mod s
  | .atomicOr shed thread rd ra rb mask mod => Sys2Proof.Machine.execAtomicOr shed thread rd ra rb mask mod s
  | .atomicXor shed thread rd ra rb mask mod => Sys2Proof.Machine.execAtomicXor shed thread rd ra rb mask mod s
  | .atomicSwap shed thread rd ra rb mask mod => Sys2Proof.Machine.execAtomicSwap shed thread rd ra rb mask mod s
  | .atomicCas shed thread rd ra rb mask mod => Sys2Proof.Machine.execAtomicCas shed thread rd ra rb mask mod s
  | .atomicMins shed thread rd ra rb mask mod => Sys2Proof.Machine.execAtomicMins shed thread rd ra rb mask mod s
  | .atomicMaxs shed thread rd ra rb mask mod => Sys2Proof.Machine.execAtomicMaxs shed thread rd ra rb mask mod s
  | .atomicMinu shed thread rd ra rb mask mod => Sys2Proof.Machine.execAtomicMinu shed thread rd ra rb mask mod s
  | .atomicMaxu shed thread rd ra rb mask mod => Sys2Proof.Machine.execAtomicMaxu shed thread rd ra rb mask mod s
  | .fence shed thread mask => Sys2Proof.Machine.execFence shed thread mask s
  | .sbinc shed thread ra rb mask => Sys2Proof.Machine.execSbinc shed thread ra rb mask s
  | .sbwait shed thread rd ra rb mask => Sys2Proof.Machine.execSbwait shed thread rd ra rb mask s
  | .sbwaitWake shed thread => Sys2Proof.Machine.execSbwaitWake shed thread s
  | .sbwaitTimeout shed thread elapsed => Sys2Proof.Machine.execSbwaitTimeout shed thread elapsed s
  | .halt shed thread mask => Sys2Proof.Machine.execHalt shed thread mask s
  | .tileop shed thread w rd ra rb mask => Sys2Proof.Machine.execTileop shed thread w rd ra rb mask s
  | .csrr shed thread rd csr => Sys2Proof.Machine.execCsrr shed thread rd csr s
  | .csrw shed thread ra csr => Sys2Proof.Machine.execCsrw shed thread ra csr s
  | .eret shed thread => Sys2Proof.Machine.execEret shed thread s
  | .trap shed thread imm => Sys2Proof.Machine.execTrap shed thread imm s
  | .exp2 shed thread vd va mask => Sys2Proof.Machine.execExp2 shed thread vd va mask s
  | .log2 shed thread vd va mask => Sys2Proof.Machine.execLog2 shed thread vd va mask s
  | .rcp shed thread vd va mask => Sys2Proof.Machine.execRcp shed thread vd va mask s
  | .rsqrt shed thread vd va mask => Sys2Proof.Machine.execRsqrt shed thread vd va mask s
  | .sin shed thread vd va mask => Sys2Proof.Machine.execSin shed thread vd va mask s
  | .tanh shed thread vd va mask => Sys2Proof.Machine.execTanh shed thread vd va mask s
  | .deferredBusError shed thread => Sys2Proof.Machine.execDeferredBusError shed thread s
  | .shedLaunch shed => Sys2Proof.Machine.execShedLaunch shed s
  | .shedResume shed => Sys2Proof.Machine.execShedResume shed s
  | .shedStop shed => Sys2Proof.Machine.execShedStop shed s
  | .shedStopped shed => Sys2Proof.Machine.execShedStopped shed s
  | .icinv shed => Sys2Proof.Machine.execIcinv shed s
  | .shedCfgWrite req shed reg value => Sys2Proof.Machine.execShedCfgWrite req shed reg value s
  | .channelArm reg chan addr => Sys2Proof.Machine.execChannelArm reg chan addr s
  | .armResult shu chan => Sys2Proof.Machine.execArmResult shu chan s
  | .channelWaitSatisfied shu chan => Sys2Proof.Machine.execChannelWaitSatisfied shu chan s
  | .transferIssue shu cycles => Sys2Proof.Machine.execTransferIssue shu cycles s
  | .transferReadReturn shu chan => Sys2Proof.Machine.execTransferReadReturn shu chan s
  | .transferAck shu chan => Sys2Proof.Machine.execTransferAck shu chan s
  | .channelHalted shu chan => Sys2Proof.Machine.execChannelHalted shu chan s
  | .channelClear shu chan drop => Sys2Proof.Machine.execChannelClear shu chan drop s
  | .channelClearComplete shu chan => Sys2Proof.Machine.execChannelClearComplete shu chan s
  | .shunterStop shu => Sys2Proof.Machine.execShunterStop shu s
  | .shunterStopped shu => Sys2Proof.Machine.execShunterStopped shu s
  | .shunterStart shu => Sys2Proof.Machine.execShunterStart shu s
  | .shuClassWrite req shu cls value => Sys2Proof.Machine.execShuClassWrite req shu cls value s
  | .sidPub die sid n => Sys2Proof.Machine.execSidPub die sid n s
  | .sidRel die sid n => Sys2Proof.Machine.execSidRel die sid n s
  | .sidCtrlReset req die sid => Sys2Proof.Machine.execSidCtrlReset req die sid s
  | .sidingConfigWrite req die sid reg value => Sys2Proof.Machine.execSidingConfigWrite req die sid reg value s
  | .sidingDeadlock shu chan => Sys2Proof.Machine.execSidingDeadlock shu chan s
  | .signalBoxIncrement idx => Sys2Proof.Machine.execSignalBoxIncrement idx s
  | .sbxCntWrite die box value => Sys2Proof.Machine.execSbxCntWrite die box value s
  | .sbxIncWrite die box value => Sys2Proof.Machine.execSbxIncWrite die box value s
  | .tqArm reg addr => Sys2Proof.Machine.execTqArm reg addr s
  | .tileBufferEntry stall => Sys2Proof.Machine.execTileBufferEntry stall s
  | .inputVectorFetch stall => Sys2Proof.Machine.execInputVectorFetch stall s
  | .memoryRequest addr kind cls tRef => Sys2Proof.Machine.execMemoryRequest addr kind cls tRef s
  | .memoryRequestComplete idx => Sys2Proof.Machine.execMemoryRequestComplete idx s
  | .rowIdleClose addr => Sys2Proof.Machine.execRowIdleClose addr s
  | .dramRefresh addr => Sys2Proof.Machine.execDramRefresh addr s
  | .memoryTempRead unit readings => Sys2Proof.Machine.execMemoryTempRead unit readings s
  | .tierOfflineWrite req unit offline => Sys2Proof.Machine.execTierOfflineWrite req unit offline s
  | .powerOnFill region bad again => Sys2Proof.Machine.execPowerOnFill region bad again s
  | .handlingPeriodEnd region bank => Sys2Proof.Machine.execHandlingPeriodEnd region bank s
  | .hndWrite req region value => Sys2Proof.Machine.execHndWrite req region value s
  | .poisonWrite idx => Sys2Proof.Machine.execPoisonWrite idx s
  | .groomRead groom => Sys2Proof.Machine.execGroomRead groom s
  | .groomWriteBack idx => Sys2Proof.Machine.execGroomWriteBack idx s
  | .groomLapAlarm region => Sys2Proof.Machine.execGroomLapAlarm region s
  | .groomEnableWrite req value => Sys2Proof.Machine.execGroomEnableWrite req value s
  | .mgrSoftrep req die bank row => Sys2Proof.Machine.execMgrSoftrep req die bank row s
  | .softRepairCopy die bank => Sys2Proof.Machine.execSoftRepairCopy die bank s
  | .flipArm req => Sys2Proof.Machine.execFlipArm req s
  | .flipDisarm req => Sys2Proof.Machine.execFlipDisarm req s
  | .ostlerMemoryError addr => Sys2Proof.Machine.execOstlerMemoryError addr s
  | .oholdRelease req => Sys2Proof.Machine.execOholdRelease req s
  | .chunkDigestCheck chunk repair => Sys2Proof.Machine.execChunkDigestCheck chunk repair s
  | .baySet req bay state => Sys2Proof.Machine.execBaySet req bay state s
  | .loftSwitch req bay => Sys2Proof.Machine.execLoftSwitch req bay s
  | .refopIncrement req bay n => Sys2Proof.Machine.execRefopIncrement req bay n s
  | .refopDecrement req bay n => Sys2Proof.Machine.execRefopDecrement req bay n s
  | .migrationStart => Sys2Proof.Machine.execMigrationStart s
  | .bandMigrated => Sys2Proof.Machine.execBandMigrated s
  | .buildTimeout => Sys2Proof.Machine.execBuildTimeout s
  | .lteAssign req lock0 lock1 sweeps => Sys2Proof.Machine.execLteAssign req lock0 lock1 sweeps s
  | .lteRelight req lock0 lock1 sweeps => Sys2Proof.Machine.execLteRelight req lock0 lock1 sweeps s
  | .lteDark req => Sys2Proof.Machine.execLteDark req s
  | .lteRestore req pass0 pass1 => Sys2Proof.Machine.execLteRestore req pass0 pass1 s
  | .lightSequenceEnd => Sys2Proof.Machine.execLightSequenceEnd s
  | .pilotCheckDue ring => Sys2Proof.Machine.execPilotCheckDue ring s
  | .pilotCheckResult ring meas => Sys2Proof.Machine.execPilotCheckResult ring meas s
  | .combDieFailure die reason => Sys2Proof.Machine.execCombDieFailure die reason s
  | .redistributionSettled => Sys2Proof.Machine.execRedistributionSettled s
  | .ringStop req ring => Sys2Proof.Machine.execRingStop req ring s
  | .ringStart req ring => Sys2Proof.Machine.execRingStart req ring s
  | .ringRecheck req ring => Sys2Proof.Machine.execRingRecheck req ring s
  | .ringCfgWrite req ring value => Sys2Proof.Machine.execRingCfgWrite req ring value s
  | .accumulatorLatch conv acc => Sys2Proof.Machine.execAccumulatorLatch conv acc s
  | .monitorStart req conv => Sys2Proof.Machine.execMonitorStart req conv s
  | .monitorStop req conv => Sys2Proof.Machine.execMonitorStop req conv s
  | .monitorCal req conv => Sys2Proof.Machine.execMonitorCal req conv s
  | .calibrationEnd conv ground ref => Sys2Proof.Machine.execCalibrationEnd conv ground ref s
  | .accConfigWrite req conv reg value => Sys2Proof.Machine.execAccConfigWrite req conv reg value s
  | .trmCodeWrite req chan code x2 en => Sys2Proof.Machine.execTrmCodeWrite req chan code x2 en s
  | .rangeHoldRelease chan => Sys2Proof.Machine.execRangeHoldRelease chan s
  | .loopExecution loop => Sys2Proof.Machine.execLoopExecution loop s
  | .outputPhase => Sys2Proof.Machine.execOutputPhase s
  | .bankStop req bank => Sys2Proof.Machine.execBankStop req bank s
  | .bankStart req bank => Sys2Proof.Machine.execBankStart req bank s
  | .loopFieldWrite req loop word value => Sys2Proof.Machine.execLoopFieldWrite req loop word value s
  | .freezeWrite req loop freeze => Sys2Proof.Machine.execFreezeWrite req loop freeze s
  | .farrierStart req => Sys2Proof.Machine.execFarrierStart req s
  | .farrierStop req => Sys2Proof.Machine.execFarrierStop req s
  | .runall req => Sys2Proof.Machine.execRunall req s
  | .farStallRun req stall => Sys2Proof.Machine.execFarStallRun req stall s
  | .farStallRelease req stall => Sys2Proof.Machine.execFarStallRelease req stall s
  | .farPortLanerun req port lanes => Sys2Proof.Machine.execFarPortLanerun req port lanes s
  | .calibrationAgeExpiry unit hours => Sys2Proof.Machine.execCalibrationAgeExpiry unit hours s
  | .farrierQuiesced stall => Sys2Proof.Machine.execFarrierQuiesced stall s
  | .stallRunStart => Sys2Proof.Machine.execStallRunStart s
  | .attemptEnd a b phaseOk refOk => Sys2Proof.Machine.execAttemptEnd a b phaseOk refOk s
  | .reinterpolation stall verified => Sys2Proof.Machine.execReinterpolation stall verified s
  | .portLaneRun port a b => Sys2Proof.Machine.execPortLaneRun port a b s
  | .residualStoreWrite unit elapsed => Sys2Proof.Machine.execResidualStoreWrite unit elapsed s
  | .prechargeComplete refclk => Sys2Proof.Machine.execPrechargeComplete refclk s
  | .railValid => Sys2Proof.Machine.execRailValid s
  | .refclkRetry refclk => Sys2Proof.Machine.execRefclkRetry refclk s
  | .inputWarning ovr set vin iin => Sys2Proof.Machine.execInputWarning ovr set vin iin s
  | .forcedDemand overcurrent begins vin iin => Sys2Proof.Machine.execForcedDemand overcurrent begins vin iin s
  | .packageTrip cause vin iin => Sys2Proof.Machine.execPackageTrip cause vin iin s
  | .budgetUpdate vin iin => Sys2Proof.Machine.execBudgetUpdate vin iin s
  | .pbudgetAbsent => Sys2Proof.Machine.execPbudgetAbsent s
  | .pbudgetRestored => Sys2Proof.Machine.execPbudgetRestored s
  | .pdemandUpdate p0 p1 => Sys2Proof.Machine.execPdemandUpdate p0 p1 s
  | .shedDemandApply => Sys2Proof.Machine.execShedDemandApply s
  | .stallUnpark stall => Sys2Proof.Machine.execStallUnpark stall s
  | .overbudgetClear => Sys2Proof.Machine.execOverbudgetClear s
  | .sensorReading die readings => Sys2Proof.Machine.execSensorReading die readings s
  | .contactSensorRead readings => Sys2Proof.Machine.execContactSensorRead readings s
  | .quietPeriodEnd die => Sys2Proof.Machine.execQuietPeriodEnd die s
  | .tripEnd die => Sys2Proof.Machine.execTripEnd die s
  | .holdoffEnd die => Sys2Proof.Machine.execHoldoffEnd die s
  | .recoveryOverrun die ms => Sys2Proof.Machine.execRecoveryOverrun die ms s
  | .dieTripEnd die stack => Sys2Proof.Machine.execDieTripEnd die stack s
  | .sendArm reg addr => Sys2Proof.Machine.execSendArm reg addr s
  | .laneFrameStart port => Sys2Proof.Machine.execLaneFrameStart port s
  | .dataFrameReceive port frame tagOk errs => Sys2Proof.Machine.execDataFrameReceive port frame tagOk errs s
  | .ackReceive port src entries => Sys2Proof.Machine.execAckReceive port src entries s
  | .frameResendTimeout port key => Sys2Proof.Machine.execFrameResendTimeout port key s
  | .transferReceived port src xfer => Sys2Proof.Machine.execTransferReceived port src xfer s
  | .transferDone port xfer => Sys2Proof.Machine.execTransferDone port xfer s
  | .reservation port slot heard draw => Sys2Proof.Machine.execReservation port slot heard draw s
  | .reservationBackoffEnd port => Sys2Proof.Machine.execReservationBackoffEnd port s
  | .grant port heard owners news => Sys2Proof.Machine.execGrant port heard owners news s
  | .ownedSlot slot => Sys2Proof.Machine.execOwnedSlot slot s
  | .memberSilent port idx => Sys2Proof.Machine.execMemberSilent port idx s
  | .leaderElection port idx => Sys2Proof.Machine.execLeaderElection port idx s
  | .handover port idx => Sys2Proof.Machine.execHandover port idx s
  | .c0TxArm req port addr => Sys2Proof.Machine.execC0TxArm req port addr s
  | .c0FrameReceive port frame tagOk errs => Sys2Proof.Machine.execC0FrameReceive port frame tagOk errs s
  | .epochChange port reason epoch starts => Sys2Proof.Machine.execEpochChange port reason epoch starts s
  | .admitFrame port msg => Sys2Proof.Machine.execAdmit port msg s
  | .leave port idx removed => Sys2Proof.Machine.execLeave port idx removed s
  | .laneDrop port lane rx cause => Sys2Proof.Machine.execLaneDrop port lane rx cause s
  | .lanemap port src tx rx => Sys2Proof.Machine.execLanemap port src tx rx s
  | .laneProbe port lane rx ucw => Sys2Proof.Machine.execLaneProbe port lane rx ucw s
  | .suspend port idx => Sys2Proof.Machine.execSuspend port idx s
  | .resume port idx => Sys2Proof.Machine.execResume port idx s
  | .suspensionTimeout port idx us => Sys2Proof.Machine.execSuspensionTimeout port idx us s
  | .portStart req port => Sys2Proof.Machine.execPortStart req port s
  | .portTrainingEnd port tx rx => Sys2Proof.Machine.execPortTrainingEnd port tx rx s
  | .admissionTimeout port => Sys2Proof.Machine.execAdmissionTimeout port s
  | .portStop req port => Sys2Proof.Machine.execPortStop req port s
  | .portStopped port => Sys2Proof.Machine.execPortStopped port s
  | .drvConfigWrite req reg value => Sys2Proof.Machine.execDrvConfigWrite req reg value s
  | .rxwinWrite reg window part value => Sys2Proof.Machine.execRxwinWrite reg window part value s
  | .porchWrite chan bg ba col bytes => Sys2Proof.Machine.execPorchWrite chan bg ba col bytes s
  | .porchRead chan bg ba col long => Sys2Proof.Machine.execPorchRead chan bg ba col long s
  | .modeRegisterWrite chan reg value unsupported => Sys2Proof.Machine.execModeRegisterWrite chan reg value unsupported s
  | .modeRegisterRead chan reg => Sys2Proof.Machine.execModeRegisterRead chan reg s
  | .hostRefresh chan => Sys2Proof.Machine.execHostRefresh chan s
  | .hostChannelReset chan => Sys2Proof.Machine.execHostChannelReset chan s
  | .sqTailWrite chan tail => Sys2Proof.Machine.execSqTailWrite chan tail s
  | .cqHeadWrite chan head => Sys2Proof.Machine.execCqHeadWrite chan head s
  | .mailboxReset chan => Sys2Proof.Machine.execMailboxReset chan s
  | .noticeAck chan => Sys2Proof.Machine.execNoticeAck chan s
  | .submissionTake chan => Sys2Proof.Machine.execSubmissionTake chan s
  | .completionWrite chan => Sys2Proof.Machine.execCompletionWrite chan s
  | .identify chan => Sys2Proof.Machine.execIdentify chan s
  | .status chan => Sys2Proof.Machine.execStatus chan s
  | .attest chan => Sys2Proof.Machine.execAttest chan s
  | .sessionOpen chan => Sys2Proof.Machine.execSessionOpen chan s
  | .sessionClose chan => Sys2Proof.Machine.execSessionClose chan s
  | .sessionInfo chan => Sys2Proof.Machine.execSessionInfo chan s
  | .batch chan => Sys2Proof.Machine.execBatch chan s
  | .batchAdmit chan => Sys2Proof.Machine.execBatchAdmit chan s
  | .batchEnd place aborted outcomes => Sys2Proof.Machine.execBatchEnd place aborted outcomes s
  | .batchCancel chan => Sys2Proof.Machine.execBatchCancel chan s
  | .bundleBegin chan => Sys2Proof.Machine.execBundleBegin chan s
  | .bundlePiece chan => Sys2Proof.Machine.execBundlePiece chan s
  | .bundleAbort chan => Sys2Proof.Machine.execBundleAbort chan s
  | .bayDiscard chan => Sys2Proof.Machine.execBayDiscard chan s
  | .switch chan => Sys2Proof.Machine.execSwitch chan s
  | .slotList chan => Sys2Proof.Machine.execSlotList chan s
  | .calRun chan => Sys2Proof.Machine.execCalRun chan s
  | .calStatus chan => Sys2Proof.Machine.execCalStatus chan s
  | .powerSet chan => Sys2Proof.Machine.execPowerSet chan s
  | .capacitySet chan => Sys2Proof.Machine.execCapacitySet chan s
  | .dark chan lock0 lock1 sweeps => Sys2Proof.Machine.execDark chan lock0 lock1 sweeps s
  | .unitStop chan => Sys2Proof.Machine.execUnitStop chan s
  | .unitStart chan => Sys2Proof.Machine.execUnitStart chan s
  | .cfgWrite chan => Sys2Proof.Machine.execCfgWrite chan s
  | .cfgRead chan => Sys2Proof.Machine.execCfgRead chan s
  | .herdSet chan => Sys2Proof.Machine.execHerdSet chan s
  | .eventFilter chan => Sys2Proof.Machine.execEventFilter chan s
  | .apertureWrite chan unit bytes => Sys2Proof.Machine.execApertureWrite chan unit bytes s
  | .rdGo chan => Sys2Proof.Machine.execRdGo chan s
  | .readerDone chan => Sys2Proof.Machine.execReaderDone chan s
  | .boot kat fuses => Sys2Proof.Machine.execBoot kat fuses s
  | .inboxPoll => Sys2Proof.Machine.execInboxPoll s
  | .ownerSet storeOk => Sys2Proof.Machine.execOwnerSet storeOk s
  | .keyEnrol storeOk => Sys2Proof.Machine.execKeyEnrol storeOk s
  | .keyRevoke storeOk => Sys2Proof.Machine.execKeyRevoke storeOk s
  | .rollbackCommit => Sys2Proof.Machine.execRollbackCommit s
  | .fwInstall storeOk => Sys2Proof.Machine.execFwInstall storeOk s
  | .trialTimeout seconds => Sys2Proof.Machine.execTrialTimeout seconds s
  | .sign => Sys2Proof.Machine.execSign s
  | .treeBuildDone => Sys2Proof.Machine.execTreeBuildDone s
  | .powerOnReset keepTrip => Sys2Proof.Machine.execPowerOnReset keepTrip s
  | .packageReset cause => Sys2Proof.Machine.execPackageReset cause s
  | .resetNLow micros => Sys2Proof.Machine.execResetNLow micros s
  | .pkgreset req key => Sys2Proof.Machine.execPkgreset req key s
  | .ostlerRestart cause => Sys2Proof.Machine.execOstlerRestart cause s
  | .watchdogKick req => Sys2Proof.Machine.execWatchdogKick req s
  | .watchdogExpiry => Sys2Proof.Machine.execWatchdogExpiry s
  | .phaseOstlerStart => Sys2Proof.Machine.execPhaseOstlerStart s
  | .phaseMemory hbm d => Sys2Proof.Machine.execPhaseMemory hbm d s
  | .phaseLight lock0 lock1 sweeps => Sys2Proof.Machine.execPhaseLight lock0 lock1 sweeps s
  | .phaseServiceReady katStall katShed => Sys2Proof.Machine.execPhaseServiceReady katStall katShed s
  | .phaseOverrun phase ms => Sys2Proof.Machine.execPhaseOverrun phase ms s
  | .serviceLevelChange code => Sys2Proof.Machine.execServiceLevelChange code s
  | .eventPop => Sys2Proof.Machine.execEventPop s
  | .laserEnFall => Sys2Proof.Machine.execLaserEnFall s
  | .laserEnRise => Sys2Proof.Machine.execLaserEnRise s
  | .conversion raw => Sys2Proof.Machine.execConversion raw s
  | .pbudgetSample sample => Sys2Proof.Machine.execPbudgetSample sample s
  | .hostChannelTraining chan rate bank16 fsp => Sys2Proof.Machine.execHostChannelTraining chan rate bank16 fsp s
  | .selfRefreshEntry chan => Sys2Proof.Machine.execSelfRefreshEntry chan s
  | .selfRefreshExit chan => Sys2Proof.Machine.execSelfRefreshExit chan s
  | .powerDownEntry chan => Sys2Proof.Machine.execPowerDownEntry chan s
  | .powerDownExit chan => Sys2Proof.Machine.execPowerDownExit chan s
  | .hostCkStart ck => Sys2Proof.Machine.execHostCkStart ck s
  | .rowActivate chan bg ba row activate => Sys2Proof.Machine.execRowActivate chan bg ba row activate s

end Sys2Proof.Machine
end

