-- ==== Sys2Proof/Safety.lean ====
section
/-! DEFINITION. The terms claims are stated in: the canonical form of the machine's tables, the invariant of its steps, and which
components of the state a step may touch. -/
namespace Sys2Proof.Machine

/-- The form of memory: addresses rise strictly, and nothing is listed that an unlisted address reads as. -/
def Memory.wf (m : Mem) : Bool :=
  nmWf (fun _ => 0) m.bytes && nmWf (fun _ => 0) m.synd && nmWf (fun _ => 0) m.dev

/-- Every table of the state is in its canonical form: registers, memory, and the records of the units. -/
def State.canonical (s : State) : Bool :=
  nmWf regReset s.regs && Memory.wf s.mem && nmWf (fun _ => {}) s.stall && nmWf (fun _ => {}) s.shed && nmWf (fun _ => {}) s.shu
    && nmWf (fun _ => {}) s.sid && nmWf (fun _ => {}) s.host

/-- R478: the event queue holds at most 256 records. -/
def State.queueFits (s : State) : Bool := decide (s.ev.queue.length ≤ 256)

/-- What every step keeps. -/
def State.inv (s : State) : Bool := s.canonical && s.queueFits

/-- The components of the state. -/
inductive Comp
  | pending | time | freeCtr | regs | bus | ev | sbxFlight | stall | shed | shu | sid | mem | integ | tier | loft | serve | host | light
  | mon | rein | far | pwr | drove | tack | sys | evtFilter
  deriving DecidableEq, Repr

/-- A component has the same value in two states. -/
def Comp.same (s t : State) : Comp → Prop
  | .pending => t.pending = s.pending
  | .time => t.time = s.time
  | .freeCtr => t.freeCtr = s.freeCtr
  | .regs => t.regs = s.regs
  | .bus => t.bus = s.bus
  | .ev => t.ev = s.ev
  | .sbxFlight => t.sbxFlight = s.sbxFlight
  | .stall => t.stall = s.stall
  | .shed => t.shed = s.shed
  | .shu => t.shu = s.shu
  | .sid => t.sid = s.sid
  | .mem => t.mem = s.mem
  | .integ => t.integ = s.integ
  | .tier => t.tier = s.tier
  | .loft => t.loft = s.loft
  | .serve => t.serve = s.serve
  | .host => t.host = s.host
  | .light => t.light = s.light
  | .mon => t.mon = s.mon
  | .rein => t.rein = s.rein
  | .far => t.far = s.far
  | .pwr => t.pwr = s.pwr
  | .drove => t.drove = s.drove
  | .tack => t.tack = s.tack
  | .sys => t.sys = s.sys
  | .evtFilter => t.evtFilter = s.evtFilter

/-- `t` differs from `s` in no component outside `l`. -/
def Touches (l : List Comp) (s t : State) : Prop := ∀ c, c ∉ l → c.same s t

/-- What `f` reads at a number outside `l` is in `t` as in `s`: with `rdReg`, every register but those at the addresses of `l`; with
`getStall`, every stall but those of `l`. -/
def Only {α : Type} (f : State → Nat → α) (l : List Nat) (s t : State) : Prop := ∀ k, k ∉ l → f t k = f s k

/-- R131, R135: thread `n` of shed `i` issues an instruction that reads and writes the registers `rs`; `u` is the state its fetch leaves. -/
def Issues (s u : State) (i n : Nat) (rs : List RegRef) : Prop :=
  mayIssueThread s i n = true ∧ (getThread s i n).ready rs = true ∧ fetchInstr s i (getThread s i n).pc = .ok u

/-- The thread of an issuing instruction, its PC past the instruction. -/
def pastPc (s : State) (i n : Nat) : Thread := { getThread s i n with pc := (getThread s i n).pc + 4 }

/-- The thread of an issuing load, store or atomic: its PC past the instruction, and the access outstanding. -/
def withAccess (s : State) (i n : Nat) (addr : Nat) (kind : AccKind) (acquire : Bool) : Thread :=
  { pastPc s i n with
    out := (getThread s i n).out ++
      [{ addr := addr, kind := kind, acquire := acquire, pc := (getThread s i n).pc, preTrap := false }] }

/-- R149, R150: a thread that enters its trap handler at `vec`; what it has outstanding was issued before the trap. -/
def entering (th : Thread) (vec : W64) (cause : Nat) (tval tpc epc : W64) : Thread :=
  { th with
    handler := true, pc := vec, cause := cause, tval := tval, tpc := tpc, epc := epc
    out := th.out.map Access.before_, errs := th.errs.map DefErr.before_ }

/-- `t` is `u` with thread `n` of shed `i` left as `th` and one more instruction counted in SHD_RETIRED, and nothing else changed. -/
def Retired (u t : State) (i n : Nat) (th : Thread) : Prop :=
  getThread t i n = th ∧ (∀ j m, j ≠ i ∨ m ≠ n → getThread t j m = getThread u j m)
  ∧ getF t Fld.SHD_RETIRED_COUNT i = (getF u Fld.SHD_RETIRED_COUNT i + 1) % 2 ^ 64
  ∧ Only rdReg [Reg.SHD_RETIRED.addr i 0 0] u t ∧ Touches [.regs, .shed] u t

/-- R425, R426, R433, R475: the front command of channel `c` is `k`, its opcode is `op`, and it starts: ostler firmware runs, the service level
lets it work, and its reserved bytes are 0. -/
def CmdStarts (s : State) (c op : Nat) (k : SubCmd) : Prop :=
  firmwareRuns s = true ∧ frontCmd (getHost s c) = some k ∧ k.op = op
  ∧ (getF s Fld.EVT_SVC_LEVEL ≠ 5 ∨ worksUnderNone op = true) ∧ reservedOk k = true

/-- Command `k` of channel `c` is marked as started. -/
def cmdBegun (s : State) (c : Nat) (k : SubCmd) : State :=
  putHost s c { getHost s c with cmds := (getHost s c).cmds.map (fun j => if j.id = k.id then { j with started := true } else j) }

/-- R426: a command of channel `c` numbered `id` has ended with a status and a result, and awaits its completion entry. -/
def CmdEnded (t : State) (c id status result : Nat) : Prop :=
  ∃ j ∈ (getHost t c).cmds, j.id = id ∧ j.ended = some (status, result)

/-- R461, R462: the tack room is processing a request of kind `kind` with header `h`, and it passes checks 1 to 6; `u` is the state its reads
leave. -/
def RequestPasses (s : State) (kind : Nat) (h : List Nat) (u : State) : Prop :=
  inboxOpen s = true ∧ getF s Fld.TCK_STATUS_INBOX_BUSY = 1 ∧ (inboxRead s 0 256).2.1 = h ∧ fieldOf h 10 1 = kind
  ∧ u = (inboxRead (inboxRead s 0 256).1 0x100 3388).1
  ∧ requestRefused u h (inboxRead (inboxRead s 0 256).1 0x100 3388).2.1 = (0, 0)

/-- The components of the state that a command may change: all others it leaves as they are, whatever the state. -/
def footprint : Instr → List Comp
  | .registerWrite .. | .lowHalfWrite .. | .highHalfWrite .. | .loadResultReturn .. | .transferIssue ..
  | .transferReadReturn .. | .ostlerMemoryError .. | .porchWrite .. | .cfgWrite .. | .apertureWrite ..
  | .trialTimeout .. | .packageReset .. | .pkgreset .. | .ostlerRestart .. | .watchdogExpiry =>
    [.freeCtr, .regs, .bus, .ev, .sbxFlight, .stall, .shed, .shu, .sid, .mem, .integ, .tier, .loft, .serve, .host, .light, .mon,
     .rein, .far, .pwr, .drove, .tack, .sys, .evtFilter]
  | .lowHalfRead .. | .highHalfRead .. | .rcRead .. | .rxwinWrite .. =>
    [.regs, .bus]
  | .eventRecordArrival .. | .shuClassWrite .. | .ringCfgWrite .. | .admissionTimeout .. | .serviceLevelChange ..
  | .hostChannelTraining .. | .selfRefreshEntry .. | .selfRefreshExit .. | .powerDownEntry .. | .powerDownExit .. =>
    [.regs, .ev]
  | .seedWrite .. =>
    [.regs, .bus, .shu]
  | .loadAccept .. =>
    [.regs, .stall]
  | .stringCyclesStart .. | .loadComplete .. | .commit .. | .holdRefreshDue .. | .holdRefreshStart ..
  | .holdRefreshEnd .. | .bandChangeAtStall .. | .tileOpHandover .. | .retryStart .. | .inputVectorFetch .. =>
    [.stall]
  | .issueAccept .. | .tileOpBegin .. | .stallStopped .. | .stlCfgRange .. | .stlCfgOffline .. | .stlReset .. =>
    [.regs, .ev, .sbxFlight, .stall, .sid]
  | .passEnd .. | .stallStart .. | .stallStop .. | .stallStopCut .. =>
    [.freeCtr, .regs, .ev, .stall]
  | .tileOpComplete .. =>
    [.regs, .sbxFlight, .stall, .sid]
  | .scalarAdd .. | .scalarSub .. | .scalarLogic .. | .scalarShift .. | .scalarCompare .. | .mul .. | .div ..
  | .scalarImmediate .. | .lui .. | .branchEq .. | .branchNe .. | .branchLt .. | .branchGe .. | .branchLtu ..
  | .branchGeu .. | .jumpToRegister .. | .jumpAndLink .. | .scalarLoad .. | .scalarStore .. | .vectorLoad ..
  | .vectorStore .. | .vectorArith .. | .vfma .. | .vdot2 .. | .bxdot8 .. | .tobx4 .. | .tobx8 .. | .tobx16 ..
  | .frombx4 .. | .frombx8 .. | .frombx16 .. | .f32tobf16 .. | .bf16tof32 .. | .atomicAdd .. | .atomicAnd ..
  | .atomicOr .. | .atomicXor .. | .atomicSwap .. | .atomicCas .. | .atomicMins .. | .atomicMaxs .. | .atomicMinu ..
  | .atomicMaxu .. | .fence .. | .sbwait .. | .halt .. | .csrr .. | .csrw .. | .eret .. | .trap .. | .exp2 ..
  | .log2 .. | .rcp .. | .rsqrt .. | .sin .. | .tanh .. =>
    [.freeCtr, .regs, .ev, .shed, .mem, .integ, .tier, .loft, .serve]
  | .sbinc .. =>
    [.freeCtr, .regs, .ev, .sbxFlight, .shed, .mem, .integ, .tier, .loft, .serve]
  | .sbwaitWake .. | .sbwaitTimeout .. | .shedLaunch .. | .shedResume .. | .shedStop .. | .icinv .. =>
    [.shed]
  | .tileop .. =>
    [.freeCtr, .regs, .ev, .stall, .shed, .mem, .integ, .tier, .loft, .serve]
  | .deferredBusError .. | .shedStopped .. =>
    [.regs, .ev, .shed]
  | .shedCfgWrite .. =>
    [.regs, .bus, .ev, .shed]
  | .channelArm .. =>
    [.bus, .shu]
  | .armResult .. =>
    [.freeCtr, .regs, .ev, .shu, .sid, .mem, .integ, .tier, .loft, .serve]
  | .channelWaitSatisfied .. | .shunterStop .. | .shunterStopped .. | .shunterStart .. =>
    [.shu]
  | .transferAck .. =>
    [.regs, .sbxFlight, .shu, .sid]
  | .channelHalted .. =>
    [.regs, .ev, .sbxFlight, .stall, .shu, .sid]
  | .channelClear .. =>
    [.regs, .shu]
  | .channelClearComplete .. =>
    [.regs, .stall, .shu, .sid]
  | .sidPub .. | .sidRel .. =>
    [.regs, .ev, .sbxFlight, .sid]
  | .sidCtrlReset .. =>
    [.sid]
  | .sidingConfigWrite .. =>
    [.regs, .bus, .ev, .sid]
  | .sidingDeadlock .. =>
    [.ev, .shu]
  | .signalBoxIncrement .. =>
    [.regs, .sbxFlight]
  | .sbxCntWrite .. | .sbxIncWrite .. | .oholdRelease .. | .overbudgetClear | .holdoffEnd .. =>
    [.regs]
  | .tqArm .. =>
    [.freeCtr, .regs, .bus, .ev, .stall, .mem, .integ, .tier, .loft, .serve]
  | .tileBufferEntry .. =>
    [.stall, .shu]
  | .memoryRequest .. =>
    [.regs, .tier]
  | .memoryRequestComplete .. | .tierOfflineWrite .. | .powerOnFill .. | .groomRead .. | .bandMigrated =>
    [.freeCtr, .regs, .ev, .mem, .integ, .tier, .loft, .serve]
  | .rowIdleClose .. | .dramRefresh .. =>
    [.tier]
  | .memoryTempRead .. =>
    [.freeCtr, .regs, .ev, .stall, .shed, .shu, .tier, .far, .pwr]
  | .handlingPeriodEnd .. | .groomEnableWrite .. | .mgrSoftrep .. | .flipArm .. | .flipDisarm .. =>
    [.regs, .integ]
  | .hndWrite .. =>
    [.regs, .bus, .integ]
  | .poisonWrite .. =>
    [.regs, .mem, .tier]
  | .groomWriteBack .. =>
    [.regs, .mem, .integ, .tier]
  | .groomLapAlarm .. =>
    [.regs, .ev, .integ]
  | .softRepairCopy .. =>
    [.regs, .ev, .mem, .integ, .tier]
  | .chunkDigestCheck .. | .bundleBegin .. | .bundlePiece .. =>
    [.freeCtr, .regs, .ev, .mem, .integ, .tier, .loft, .serve, .host]
  | .baySet .. =>
    [.regs, .ev, .loft, .serve]
  | .loftSwitch .. | .refopIncrement .. | .refopDecrement .. | .buildTimeout =>
    [.regs, .ev, .loft]
  | .migrationStart =>
    [.loft]
  | .lteAssign .. | .lteRelight .. =>
    [.freeCtr, .regs, .ev, .sbxFlight, .stall, .sid, .light, .mon, .rein, .far, .pwr, .drove]
  | .lteDark .. | .combDieFailure .. | .laserEnFall =>
    [.freeCtr, .regs, .ev, .stall, .light, .rein, .far, .drove]
  | .lteRestore .. =>
    [.freeCtr, .regs, .ev, .stall, .light, .mon, .rein, .far]
  | .lightSequenceEnd =>
    [.regs, .ev, .light]
  | .pilotCheckDue .. | .ringRecheck .. | .laserEnRise =>
    [.light]
  | .pilotCheckResult .. =>
    [.freeCtr, .regs, .ev, .sbxFlight, .stall, .sid, .light, .mon, .rein, .far, .pwr]
  | .redistributionSettled | .ringStop .. =>
    [.freeCtr, .regs, .ev, .stall, .light, .rein, .far]
  | .ringStart .. =>
    [.regs, .light, .mon, .rein]
  | .accumulatorLatch .. | .trmCodeWrite .. | .pdemandUpdate .. =>
    [.regs, .mon]
  | .monitorStart .. | .monitorStop .. | .monitorCal .. | .rangeHoldRelease .. =>
    [.mon]
  | .calibrationEnd .. =>
    [.freeCtr, .regs, .ev, .sbxFlight, .stall, .sid, .light, .mon, .rein, .far, .pwr, .drove, .sys]
  | .accConfigWrite .. =>
    [.regs, .ev, .mon]
  | .loopExecution .. =>
    [.freeCtr, .regs, .ev, .sbxFlight, .stall, .sid, .light, .mon, .rein, .far]
  | .outputPhase =>
    [.freeCtr, .regs, .ev, .stall, .light, .mon, .rein, .far, .pwr]
  | .bankStop .. | .bankStart .. | .loopFieldWrite .. =>
    [.regs, .ev, .rein]
  | .freezeWrite .. =>
    [.regs, .rein]
  | .farrierStart .. | .farrierStop .. | .runall .. =>
    [.freeCtr, .regs, .ev, .stall, .rein, .far, .drove]
  | .farStallRun .. | .farStallRelease .. | .stallRunStart =>
    [.regs, .stall, .far]
  | .farPortLanerun .. | .residualStoreWrite .. =>
    [.far]
  | .calibrationAgeExpiry .. =>
    [.regs, .far]
  | .farrierQuiesced .. =>
    [.regs, .stall, .rein, .far]
  | .attemptEnd .. =>
    [.freeCtr, .regs, .ev, .sbxFlight, .stall, .sid, .rein, .far]
  | .reinterpolation .. =>
    [.regs, .stall, .rein, .far, .pwr]
  | .portLaneRun .. | .laneDrop .. =>
    [.regs, .ev, .far, .drove]
  | .prechargeComplete .. | .refclkRetry .. | .pbudgetSample .. =>
    [.pwr]
  | .railValid =>
    [.regs, .pwr, .sys]
  | .inputWarning .. | .pbudgetAbsent | .pbudgetRestored | .tripEnd .. =>
    [.regs, .ev, .pwr]
  | .forcedDemand .. | .shedDemandApply =>
    [.freeCtr, .regs, .ev, .stall, .far, .pwr]
  | .packageTrip .. | .sensorReading .. | .contactSensorRead .. | .powerOnReset .. | .resetNLow .. =>
    [.time, .freeCtr, .regs, .bus, .ev, .sbxFlight, .stall, .shed, .shu, .sid, .mem, .integ, .tier, .loft, .serve, .host, .light,
     .mon, .rein, .far, .pwr, .drove, .tack, .sys, .evtFilter]
  | .budgetUpdate .. =>
    [.regs, .pwr]
  | .stallUnpark .. =>
    [.stall, .pwr]
  | .quietPeriodEnd .. =>
    [.regs, .stall, .light, .pwr]
  | .recoveryOverrun .. =>
    [.ev, .pwr]
  | .dieTripEnd .. =>
    [.regs, .stall, .shed, .shu, .pwr]
  | .sendArm .. | .c0TxArm .. =>
    [.freeCtr, .regs, .bus, .ev, .mem, .integ, .tier, .loft, .serve, .drove]
  | .laneFrameStart .. | .dataFrameReceive .. | .c0FrameReceive .. =>
    [.freeCtr, .regs, .ev, .mem, .integ, .tier, .loft, .serve, .drove]
  | .ackReceive .. | .frameResendTimeout .. | .reservation .. | .grant .. | .ownedSlot .. | .portStart ..
  | .portStop .. | .portStopped .. =>
    [.regs, .ev, .drove]
  | .transferReceived .. =>
    [.sbxFlight, .drove]
  | .transferDone .. =>
    [.regs, .sbxFlight, .drove]
  | .reservationBackoffEnd .. | .handover .. | .lanemap .. | .suspend .. =>
    [.drove]
  | .memberSilent .. | .leaderElection .. | .leave .. | .suspensionTimeout .. | .portTrainingEnd .. =>
    [.freeCtr, .regs, .ev, .drove]
  | .epochChange .. =>
    [.freeCtr, .drove]
  | .admitFrame .. =>
    [.freeCtr, .regs, .ev, .drove, .tack]
  | .laneProbe .. | .resume .. =>
    [.regs, .drove]
  | .drvConfigWrite .. =>
    [.regs, .bus, .ev]
  | .porchRead .. =>
    [.freeCtr, .regs, .bus]
  | .modeRegisterWrite .. | .completionWrite .. | .powerSet .. =>
    [.regs, .host]
  | .modeRegisterRead .. =>
    [.bus]
  | .hostRefresh .. =>
    []
  | .hostChannelReset .. | .sqTailWrite .. | .cqHeadWrite .. | .readerDone .. | .hostCkStart .. =>
    [.regs, .ev, .host]
  | .mailboxReset .. | .noticeAck .. =>
    [.regs, .ev, .loft, .serve, .host, .tack]
  | .submissionTake .. | .sessionClose .. | .batchCancel .. | .capacitySet .. =>
    [.serve, .host]
  | .identify .. | .status .. | .sessionInfo .. | .calStatus .. | .rowActivate .. =>
    [.host]
  | .attest .. =>
    [.host, .tack]
  | .sessionOpen .. =>
    [.freeCtr, .serve, .host]
  | .batch .. | .batchAdmit .. | .batchEnd .. | .bayDiscard .. =>
    [.regs, .ev, .loft, .serve, .host]
  | .bundleAbort .. | .switch .. =>
    [.regs, .ev, .loft, .host]
  | .slotList .. =>
    [.freeCtr, .host]
  | .calRun .. =>
    [.regs, .host, .far]
  | .dark .. =>
    [.freeCtr, .regs, .ev, .sbxFlight, .stall, .sid, .host, .light, .mon, .rein, .far, .pwr, .drove]
  | .unitStop .. =>
    [.freeCtr, .regs, .ev, .stall, .shed, .shu, .serve, .host, .light, .mon, .rein, .far, .drove]
  | .unitStart .. =>
    [.freeCtr, .regs, .ev, .stall, .shed, .shu, .host, .light, .mon, .rein, .far, .drove]
  | .cfgRead .. =>
    [.regs, .bus, .host]
  | .herdSet .. =>
    [.regs, .host, .drove]
  | .eventFilter .. =>
    [.host, .evtFilter]
  | .rdGo .. =>
    [.freeCtr, .regs, .bus, .ev, .mem, .integ, .tier, .loft, .serve, .host]
  | .boot .. =>
    [.regs, .ev, .host, .tack, .sys]
  | .inboxPoll | .ownerSet .. | .keyEnrol .. | .keyRevoke .. | .rollbackCommit | .fwInstall .. =>
    [.freeCtr, .regs, .ev, .mem, .integ, .tier, .loft, .serve, .host, .tack]
  | .sign =>
    [.freeCtr, .regs, .ev, .host, .drove, .tack]
  | .treeBuildDone =>
    [.regs, .tack]
  | .watchdogKick .. =>
    [.sys]
  | .phaseOstlerStart =>
    [.regs, .ev, .integ, .loft, .serve, .host, .mon, .tack, .sys]
  | .phaseMemory .. =>
    [.regs, .ev, .integ, .tier, .sys]
  | .phaseLight .. =>
    [.mon, .sys]
  | .phaseServiceReady .. =>
    [.freeCtr, .regs, .ev, .sbxFlight, .stall, .shed, .sid, .mem, .integ, .tier, .loft, .serve, .host, .tack, .sys]
  | .phaseOverrun .. =>
    [.ev]
  | .eventPop =>
    [.regs, .ev, .shed, .shu, .host]
  | .conversion .. =>
    [.regs, .mon, .rein]

end Sys2Proof.Machine
end

