-- ==== Sys2Proof/Certificates/Slice0/Obligations.lean ====
section
/-! DEFINITION. The statements for the provers. Where a statement says what a command does, its conclusion is that `exec` of the command
answers a next state `t` and what `t` holds: the fields the rule sets, `Only …` (every other unit's record, every other register, is as
before) and `Touches …` (every component of the state that is not listed is as before). -/
open Sys2Proof Sys2Proof.Machine

/-- R75 to R78: a tile moves from the tile buffer to staging, from staging to the idle hold node while the strings run, and a commit swaps
the nodes. Each command changes the record of its own stall alone. -/
def Obligations.StallLoad : Prop :=
  (∀ (k : Fin 16) (s : State) (tl : Tile) (rest : List Tile), (getStall s k).buffer = tl :: rest → (getStall s k).accepts = true →
    (getStall s k).staged.length < 2 → ∃ t, exec (.loadAccept k) s = .next t ∧ (getStall t k).buffer = rest
    ∧ (getStall t k).staged = (getStall s k).staged ++ [formTile s k ((getStall s k).tilesIn - rest.length) tl]
    ∧ getF t Fld.STL_WUFL_COUNT k = min (2 ^ 32 - 1) (getF s Fld.STL_WUFL_COUNT k + weightUnderflows tl)
    ∧ Only getStall [k.val] s t ∧ Only rdReg [Reg.STL_WUFL.addr k 0 0] s t ∧ Touches [.regs, .stall] s t)
  ∧ (∀ (k : Fin 16) (s : State), (getStall s k).accepts = true → (getStall s k).farOwns = false → (getStall s k).strings = .free →
    (getStall s k).awaiting = false → (getStall s k).active.due = false → (getStall s k).staged ≠ [] →
    ∃ t, exec (.stringCyclesStart k) s = .next t ∧ (getStall t k).strings = .load ∧ (getStall t k).idle = {}
    ∧ (getStall t k).active = (getStall s k).active ∧ (getStall t k).staged = (getStall s k).staged ∧ Only getStall [k.val] s t
        ∧ Touches [.stall] s t)
  ∧ (∀ (k : Fin 16) (s : State) (nt : NodeTile) (rest : List NodeTile), (getStall s k).strings = .load → (getStall s k).staged = nt :: rest →
    ∃ t, exec (.loadComplete k) s = .next t ∧ (getStall t k).strings = .free ∧ (getStall t k).staged = rest ∧ (getStall t k).awaiting = true
    ∧ (getStall t k).idle = { loaded := true, tile := nt } ∧ (getStall t k).active = (getStall s k).active ∧ Only getStall [k.val] s t
    ∧ Touches [.stall] s t)
  ∧ (∀ (k : Fin 16) (s : State), (getStall s k).awaiting = true → (getStall s k).idle.tile.seq ≤ (getStall s k).cursor →
    (getStall s k).issue.all (fun o => decide ((getStall s k).idle.tile.seq ≤ o.tileSeq)) = true → (getStall s k).retries = []
        → (getStall s k).modulating = false →
    (getStall s k).farOwns = false → (getStall s k).state = .run ∨ (getStall s k).state = .stopping →
    ∃ t, exec (.commit k) s = .next t ∧ (getStall t k).active = (getStall s k).idle ∧ (getStall t k).idle = (getStall s k).active
    ∧ (getStall t k).awaiting = false ∧ (getStall t k).actSeq = (getStall s k).idle.tile.seq ∧ Only getStall [k.val] s t
        ∧ Touches [.stall] s t)

/-- R81, R82, R84: a refresh of a node falls due 48 S-cycles before its interval ends, takes the free strings with the active node first,
and ends with the node no longer due and its tile kept; a band change carries the new band to the stall. -/
def Obligations.HoldRefresh : Prop :=
  (∀ (k : Fin 16) (b : Bool) (e : Nat) (s : State), (getStall s k).refreshed b = true → refreshInterval (getStall s k).band ≤ e + 48 →
    ∃ t, exec (.holdRefreshDue k b e) s = .next t
    ∧ (if b then (getStall t k).nodeB else (getStall t k).nodeA) =
        { (if b then (getStall s k).nodeB else (getStall s k).nodeA) with due := true }
    ∧ (if b then (getStall t k).nodeA else (getStall t k).nodeB) = (if b then (getStall s k).nodeA else (getStall s k).nodeB)
    ∧ Only getStall [k.val] s t ∧ Touches [.stall] s t)
  ∧ (∀ (k : Fin 16) (s : State), (getStall s k).strings = .free → (getStall s k).farOwns = false → (getStall s k).active.due = true →
    (getStall s k).refreshed (getStall s k).activeB = true → ∃ t, exec (.holdRefreshStart k) s = .next t
    ∧ (getStall t k).strings = .refresh (getStall s k).activeB ∧ Only getStall [k.val] s t ∧ Touches [.stall] s t)
  ∧ (∀ (k : Fin 16) (s : State), (getStall s k).strings = .free → (getStall s k).farOwns = false → (getStall s k).active.due = false →
    (getStall s k).idle.due = true → (getStall s k).refreshed (!(getStall s k).activeB) = true → ∃ t, exec (.holdRefreshStart k) s = .next t
    ∧ (getStall t k).strings = .refresh (!(getStall s k).activeB) ∧ Only getStall [k.val] s t ∧ Touches [.stall] s t)
  ∧ (∀ (k : Fin 16) (b : Bool) (s : State), (getStall s k).strings = .refresh b → ∃ t, exec (.holdRefreshEnd k) s = .next t
    ∧ (getStall t k).strings = .free
    ∧ (if b then (getStall t k).nodeB else (getStall t k).nodeA) =
        { (if b then (getStall s k).nodeB else (getStall s k).nodeA) with due := false }
    ∧ Only getStall [k.val] s t ∧ Touches [.stall] s t)
  ∧ (∀ (k : Fin 16) (a b : Nat) (s : State), ∃ t, exec (.bandChangeAtStall k a b) s = .next t
    ∧ (getStall t k).band = bitsOf (getF s Fld.THM_STATUS_BAND) (3 * (k / 4)) 3
    ∧ (getStall t k).nodeA.due = ((getStall s k).refreshed false && decide (refreshInterval (getStall t k).band ≤ a + 48))
    ∧ (getStall t k).nodeB.due = ((getStall s k).refreshed true && decide (refreshInterval (getStall t k).band ≤ b + 48))
    ∧ Only getStall [k.val] s t ∧ Touches [.stall] s t)

/-- R95, R98, R99, R105, R110, R111, R115, R117: a queued descriptor is handed over once its wait is satisfied, accepted with its place in
the weight stream, begins on the tile it needs with its vectors once the pause is over; each pass leaves its contribution in every
trough entry of its vectors, a retry the difference at its own step, and the operation completes with the count of operations and its
signal-box increment. The analogue error of a column is a free value (log entry 5). An operation leaves the issue port as its last pass
ends (log entry 40); PASS_END adds the outputs of all vectors of the pass at once and holds a retry record until the next PASS_END of
the operation or its completion (log entry 41). -/
def Obligations.TileOps : Prop :=
  (∀ (k : Fin 16) (s : State) (q : QOp) (rest : List QOp), (getStall s k).tq = q :: rest → (getStall s k).entry.length < 4 →
    (getStall s k).accepts = true → (getStall s k).issue.length < 4 →
    q.d.waitEn = false ∨ sbxReached s (k / 4) q.d.waitSbx q.d.waitValue = true →
    ∃ t, exec (.tileOpHandover k) s = .next t ∧ (getStall t k).tq = rest ∧ (getStall t k).entry = (getStall s k).entry ++ [q]
    ∧ Only getStall [k.val] s t ∧ Touches [.stall] s t)
  ∧ (∀ (k : Fin 16) (s : State) (q : QOp) (rest : List QOp), (getStall s k).entry = q :: rest → (getStall s k).accepts = true →
    (getStall s k).issue.length < 4 → (getStall s k).inputVoid = false → (getStall s k).weightVoid = false →
    ∃ t, exec (.issueAccept k) s = .next t ∧ (getStall t k).entry = rest
    ∧ (getStall t k).cursor = (if q.d.next then (getStall s k).cursor + 1 else (getStall s k).cursor)
    ∧ (getStall t k).issue = (getStall s k).issue ++
    [{ id := q.id, d := q.d, n := q.d.vcnt + 1, tileSeq := (getStall t k).cursor, low := q.d.slice == 2 }]
    ∧ Only getStall [k.val] s t ∧ Touches [.stall] s t)
  ∧ (∀ (k : Fin 16) (s : State) (o : OpRun) (rest : List OpRun) (f : VecFetch), (getStall s k).issue = o :: rest
        → (getStall s k).mayIssue = true →
    o.begun = false → (getStall s k).modulating = false → (getStall s k).retries = [] → o.tileSeq = (getStall s k).actSeq →
    pauseOver s k = true →
    (getStall s k).active.loaded = false ∨ o.d.wfmt = (getStall s k).active.tile.fmt →
    (getStall s k).fetches.find? (fun f => f.id == o.id) = some f → o.n ≤ f.vecs.length →
    ∃ t, exec (.tileOpBegin k) s = .next t ∧ (getStall t k).modulating = true ∧ (getStall t k).lastDir = (o.d.op == 2)
    ∧ getF t Fld.STL_XUFL_COUNT k = min (2 ^ 32 - 1) (getF s Fld.STL_XUFL_COUNT k + (f.vecs.map InVec.underflows).foldl (· + ·) 0)
    ∧ (∃ o', (getStall t k).issue = o' :: rest ∧ o'.begun = true ∧ o'.vecs = f.vecs ∧ o'.tile = (getStall s k).activeTile ∧ o'.d = o.d
        ∧ o'.n = o.n)
    ∧ Only getStall [k.val] s t ∧ Only rdReg [Reg.STL_XUFL.addr k 0 0] s t ∧ Touches [.regs, .stall] s t)
  ∧ (∀ (k : Fin 16) (s : State) (o : OpRun) (rest : List OpRun), (getStall s k).retries = [] → (getStall s k).modulating = true →
    (getStall s k).issue = o :: rest → o.hasLow = false → rest.all (fun q => !q.begun) = true →
    ∃ t, exec (.passEnd k) s = .next t ∧ (getStall t k).modulating = false ∧ (getStall t k).issue = rest
    ∧ (getStall t k).finishing = (getStall s k).finishing ++ [{ o with vDone := o.n }] ∧ (getStall t k).darkFrom = some s.time
    ∧ (∀ i c, o.vDone ≤ i → i < o.n → c < 128 → (getStall t k).troughAt (troughIx (o.d.slot + i) c) =
      BitVec.ofNat 32 (let v := contribution o (sliceOf o.d o.low) o.d.gain i (outputOf o (sliceOf o.d o.low) s.freeCtr i c)
      if !o.d.acc && !(o.low && o.d.slice == 0) then v
      else troughAdd ((getStall s k).troughAt (troughIx (o.d.slot + i) c)).toNat v (Config.nanBits s.freeCtr (troughIx (o.d.slot + i) c))))
    ∧ (2 ≤ o.d.sck → (getStall t k).retries = []) ∧ Only getStall [k.val] s t ∧ Touches [.freeCtr, .regs, .ev, .stall] s t)
  ∧ (∀ (k : Fin 16) (s : State) (o : OpRun) (rest : List OpRun), (getStall s k).retries = [] → (getStall s k).modulating = true →
    (getStall s k).issue = o :: rest → o.hasLow = true → o.begun = true →
    ∃ t, exec (.passEnd k) s = .next t ∧ (getStall t k).issue = { o with low := true, vDone := 0, remainder := false } :: rest
    ∧ (getStall t k).modulating = ((getStall s k).mayIssue && (getStall t k).retries.isEmpty)
    ∧ (getStall t k).finishing = (getStall s k).finishing ∧ Only getStall [k.val] s t ∧ Touches [.freeCtr, .regs, .ev, .stall] s t)
  ∧ (∀ (k : Fin 16) (s : State) (r : Retry) (rest : List Retry), (getStall s k).retries = r :: rest → r.running = true →
    ∃ t, exec (.passEnd k) s = .next t ∧ (getStall t k).retries = rest
    ∧ (getStall t k).drain = (getStall s k).drain.filter (fun i => i != r.o.id) ++ [r.o.id] ∧ (getStall t k).darkFrom = some s.time
    ∧ (∀ i c x thr c0, r.vFrom + r.vDone ≤ i → i < r.vTo → c < 128 → outputOf r.o (sliceOf r.o.d r.low) s.freeCtr i c = .sum x thr →
      nmFind r.orig (i * 128 + c) = some c0 → (getStall t k).troughAt (troughIx (r.o.d.slot + i) c) =
      BitVec.ofNat 32 (troughAdd ((getStall s k).troughAt (troughIx (r.o.d.slot + i) c)).toNat
        (fpRoundDy 24 false ((Dy.mk (convCode x thr r.gStar) (outExp r.o (sliceOf r.o.d r.low) i r.gStar)).add
          ⟨-c0, outExp r.o (sliceOf r.o.d r.low) i r.o.d.gain⟩)).bits (Config.nanBits s.freeCtr (troughIx (r.o.d.slot + i) c))))
    ∧ Only getStall [k.val] s t ∧ Touches [.freeCtr, .regs, .ev, .stall] s t)
  ∧ (∀ (k : Fin 16) (s : State) (r : Retry) (rest : List Retry), (getStall s k).retries = r :: rest → (getStall s k).mayIssue = true →
    (getStall s k).modulating = false → r.running = false → (getStall s k).drain.length < 2 → ∃ t, exec (.retryStart k) s = .next t
    ∧ (getStall t k).retries = { r with running := true } :: rest ∧ Only getStall [k.val] s t ∧ Touches [.stall] s t)
  ∧ (∀ (k : Fin 16) (s : State) (o : OpRun) (rest : List OpRun), (getStall s k).finishing = o :: rest →
    (getStall s k).retries.any (fun r => r.o.id == o.id) = false → o.never = false →
    ∃ t, exec (.tileOpComplete k) s = .next t ∧ (getStall t k).finishing = rest
    ∧ getF t Fld.STL_OPS_OPS k = (getF s Fld.STL_OPS_OPS k + 1) % 2 ^ 64
    ∧ (o.d.doneEn = true → t.sbxFlight.getLast? = some ⟨k / 4, o.d.doneSbx, 1⟩)
    ∧ (∀ x ∈ (getStall t k).drain, x ≠ o.id) ∧ (getStall t k).issue = (getStall s k).issue ∧ Only getStall [k.val] s t
    ∧ Only rdReg [Reg.STL_OPS.addr k 0 0] s t ∧ Touches [.regs, .sbxFlight, .stall, .sid] s t)

/-- R121 to R125, R127: START in STOPPED enters RUN, STOP enters STOPPING and with CUT halts the running pass at the end of some vector, the
last work ends in STOPPED, a stall that ostler firmware retires then goes OFFLINE, and the bridleway writes of STL_CFG and STL_RESET act
on a stall that stands still. At which vector a CUT falls is a free value (log entry 6); writes of firmware as it retires a stall are
made as STATE becomes STOPPED (log entry 181). -/
def Obligations.StallControl : Prop :=
  (∀ (k : Fin 16) (s : State), (getStall s k).state = .stopped → ∃ t, exec (.stallStart k) s = .next t
    ∧ (getStall t k).state = .run ∧ (getStall t k).cutting = false ∧ Only getStall [k.val] s t ∧ Touches [.stall] s t)
  ∧ (∀ (k : Fin 16) (s : State), (getStall s k).state = .run → ∃ t, exec (.stallStop k) s = .next t ∧ (getStall t k).state = .stopping
    ∧ (getStall t k).cutting = (getStall s k).cutting ∧ (getStall t k).issue = (getStall s k).issue ∧ Only getStall [k.val] s t
        ∧ Touches [.stall] s t)
  ∧ (∀ (k : Fin 16) (s : State), (getStall s k).state = .run ∨ (getStall s k).state = .stopping → (getStall s k).modulating = false →
    (getStall s k).retries = [] → ∃ t, exec (.stallStopCut k) s = .next t ∧ (getStall t k).state = .stopping ∧ (getStall t k).cutting = true
    ∧ (getStall t k).issue = (getStall s k).issue ∧ Only getStall [k.val] s t ∧ Touches [.stall] s t)
  ∧ (∀ (k : Fin 16) (s : State) (o : OpRun) (rest : List OpRun), (getStall s k).state = .run ∨ (getStall s k).state = .stopping →
    (getStall s k).retries = [] → (getStall s k).issue = o :: rest → (getStall s k).modulating = true → o.vDone < o.n →
    ∃ t v, exec (.stallStopCut k) s = .next t ∧ o.vDone < v ∧ v ≤ o.n ∧ (getStall t k).state = .stopping ∧ (getStall t k).cutting = true
    ∧ (getStall t k).modulating = false ∧ (getStall t k).darkFrom = some s.time
    ∧ (v < o.n → (getStall t k).issue = { o with vDone := v, remainder := true } :: rest ∧ getF t Fld.STL_LASTVOID_CAUSE k = 7)
    ∧ (v = o.n → o.hasLow = false → (getStall t k).issue = rest) ∧ Only getStall [k.val] s t ∧ Touches [.freeCtr, .regs, .ev, .stall] s t)
  ∧ (∀ (k : Fin 16) (s : State), (getStall s k).state = .stopping → (getStall s k).strings ≠ .load → (getStall s k).modulating = false →
    (getStall s k).retries = [] → (getStall s k).finishing = [] → (getStall s k).retiring = none
        → (getStall s k).issue = [] ∨ (getStall s k).cutting = true →
    ∃ t, exec (.stallStopped k) s = .next t ∧ (getStall t k).state = .stopped ∧ (getStall t k).cutting = false ∧ Only getStall [k.val] s t
    ∧ Touches [.stall] s t)
  ∧ (∀ (k : Fin 16) (s : State) (d : Bool), (getStall s k).state = .stopping → (getStall s k).strings ≠ .load
        → (getStall s k).modulating = false →
    (getStall s k).retries = [] → (getStall s k).finishing = [] → (getStall s k).retiring = some d → (getStall s k).cutting = true →
    ∃ t, exec (.stallStopped k) s = .next t ∧ (getStall t k).state = .offline ∧ getF t Fld.STL_CFG_OFFLINE k = 1 ∧ (getStall t k).issue = []
    ∧ (getStall t k).entry = [] ∧ (d = true → (getStall t k).far = false) ∧ Only getStall [k.val] s t)
  ∧ (∀ (req : Requester) (k : Fin 16) (range : Bool) (s : State), req.bridle = true → (getStall s k).state = .stopped
        → (getStall s k).issue = [] →
    (getStall s k).waits = false → getF s Fld.STL_CFG_OFFLINE k = 0 → ∃ t, exec (.stlCfgRange req k range) s = .next t
    ∧ getF t Fld.STL_CFG_RANGE k = b01 range ∧ getF t Fld.STL_CFG_OFFLINE k = 0 ∧ (getStall t k).state = .stopped
    ∧ (getStall t k) = (if getF s Fld.STL_CFG_RANGE k = b01 range then getStall s k else (getStall s k).ground)
    ∧ Only getStall [k.val] s t ∧ Only rdReg [Reg.STL_CFG.addr k 0 0] s t ∧ Touches [.regs, .stall] s t)
  ∧ (∀ (req : Requester) (k : Fin 16) (s : State), req.bridle = true → (getStall s k).still req = true → (getStall s k).issue = [] →
    (getStall s k).waits = false → (getStall s k).entry = [] → ∃ t, exec (.stlCfgOffline req k true) s = .next t
        ∧ (getStall t k).state = .offline
    ∧ getF t Fld.STL_CFG_OFFLINE k = 1 ∧ getF t Fld.STL_CFG_RANGE k = getF s Fld.STL_CFG_RANGE k
    ∧ Only getStall [k.val] s t ∧ Only rdReg [Reg.STL_CFG.addr k 0 0] s t ∧ Touches [.regs, .stall] s t)
  ∧ (∀ (req : Requester) (k : Fin 16) (s : State), req.bridle = true → (getStall s k).still req = true → (getStall s k).issue = [] →
    (getStall s k).finishing = [] → ∃ t, exec (.stlReset req k) s = .next t ∧ (getStall t k).nodeA = {} ∧ (getStall t k).nodeB = {}
    ∧ (getStall t k).staged = [] ∧ (getStall t k).buffer = [] ∧ (getStall t k).retries = [] ∧ (getStall t k).cursor = (getStall s k).tilesIn
    ∧ Only getStall [k.val] s t ∧ Touches [.stall] s t)

/-- R131, R143, Table 5.5: a scalar instruction with MASK = 0 that issues writes rd with its function of the operands, moves the PC by 4 and
counts one instruction. Shifts by 64 or more, comparison results and the functions without a name read free values of Config (log entry
13); LUI leaves the other bits 0 and add, subtract and multiply wrap (the model's reading). -/
def Obligations.ScalarArithmetic : Prop :=
  (∀ (i : Fin 64) (n : Fin 256) (rd ra rb : Fin 32) (s u : State), Issues s u i n [.x rd, .x ra, .x rb] →
    ∃ t, exec (.scalarAdd i n rd ra rb 0) s = .next t ∧ Retired u t i n ((pastPc s i n).setX rd ((getThread s i n).xr ra + (getThread s i
        n).xr rb)))
  ∧ (∀ (i : Fin 64) (n : Fin 256) (rd ra rb : Fin 32) (s u : State), Issues s u i n [.x rd, .x ra, .x rb] →
    ∃ t, exec (.scalarSub i n rd ra rb 0) s = .next t ∧ Retired u t i n ((pastPc s i n).setX rd ((getThread s i n).xr ra - (getThread s i
        n).xr rb)))
  ∧ (∀ (i : Fin 64) (n : Fin 256) (rd ra rb : Fin 32) (s u : State), Issues s u i n [.x rd, .x ra, .x rb] →
    ∃ t, exec (.mul i n rd ra rb 0) s = .next t ∧ Retired u t i n ((pastPc s i n).setX rd ((getThread s i n).xr ra * (getThread s i n).xr
        rb)))
  ∧ (∀ (i : Fin 64) (n : Fin 256) (rd ra rb : Fin 32) (s u : State), Issues s u i n [.x rd, .x ra, .x rb] →
    ∃ t, exec (.div i n rd ra rb 0) s = .next t ∧ Retired u t i n ((pastPc s i n).setX rd (divFn ((getThread s i n).xr ra) ((getThread s i
        n).xr rb))))
  ∧ (∀ (i : Fin 64) (n : Fin 256) (fn : LogicFn) (rd ra rb : Fin 32) (s u : State), Issues s u i n [.x rd, .x ra, .x rb]
        → logicKnown 0 fn = true →
    ∃ t, exec (.scalarLogic i n fn rd ra rb 0) s = .next t ∧ Retired u t i n ((pastPc s i n).setX rd (logicFn fn ((getThread s i n).xr ra)
        ((getThread s i n).xr rb))))
  ∧ (∀ (i : Fin 64) (n : Fin 256) (fn : ShiftFn) (rd ra rb : Fin 32) (s u : State), Issues s u i n [.x rd, .x ra, .x rb] →
    ∃ t, exec (.scalarShift i n fn rd ra rb 0) s = .next t ∧ Retired u t i n ((pastPc s i n).setX rd (shiftFn fn ((getThread s i n).xr ra)
        ((getThread s i n).xr rb))))
  ∧ (∀ (i : Fin 64) (n : Fin 256) (fn : CmpFn) (rd ra rb : Fin 32) (s u : State), Issues s u i n [.x rd, .x ra, .x rb]
        → cmpKnown 0 fn = true →
    ∃ t, exec (.scalarCompare i n fn rd ra rb 0) s = .next t ∧ Retired u t i n ((pastPc s i n).setX rd (cmpFn fn ((getThread s i n).xr ra)
        ((getThread s i n).xr rb))))
  ∧ (∀ (i : Fin 64) (n : Fin 256) (fn : ImmFn) (rd ra : Fin 32) (m : BitVec 12) (s u : State), Issues s u i n [.x rd, .x ra]
        → immKnown fn = true →
    ∃ t, exec (.scalarImmediate i n fn rd ra m) s = .next t ∧ Retired u t i n ((pastPc s i n).setX rd (immFn fn ((getThread s i n).xr ra)
        (m.signExtend 64))))
  ∧ (∀ (i : Fin 64) (n : Fin 256) (rd : Fin 32) (m : BitVec 12) (s u : State), Issues s u i n [.x rd] →
    ∃ t, exec (.lui i n rd m) s = .next t ∧ Retired u t i n ((pastPc s i n).setX rd (m.zeroExtend 64 <<< 52)))

/-- Table 5.5 class 2: a branch taken goes to its own PC plus four times the signed offset (relative to the branch: the model's reading),
one not taken to the next instruction; jumps write their target, and the link register takes the address after the jump. -/
def Obligations.BranchesAndJumps : Prop :=
  (∀ (i : Fin 64) (n : Fin 256) (ra rb : Fin 32) (off : BitVec 15) (s u : State), Issues s u i n [.x ra, .x rb] →
    ∃ t, exec (.branchEq i n ra rb off) s = .next t ∧ Retired u t i n (if ((getThread s i n).xr ra) = ((getThread s i n).xr rb) then
        { pastPc s i n with pc := (getThread s i n).pc + off.signExtend 64 <<< 2 } else pastPc s i n))
  ∧ (∀ (i : Fin 64) (n : Fin 256) (ra rb : Fin 32) (off : BitVec 15) (s u : State), Issues s u i n [.x ra, .x rb] →
    ∃ t, exec (.branchNe i n ra rb off) s = .next t ∧ Retired u t i n (if ((getThread s i n).xr ra) ≠ ((getThread s i n).xr rb) then
        { pastPc s i n with pc := (getThread s i n).pc + off.signExtend 64 <<< 2 } else pastPc s i n))
  ∧ (∀ (i : Fin 64) (n : Fin 256) (ra rb : Fin 32) (off : BitVec 15) (s u : State), Issues s u i n [.x ra, .x rb] →
    ∃ t, exec (.branchLt i n ra rb off) s = .next t ∧ Retired u t i n (if ((getThread s i n).xr ra).toInt < ((getThread s i n).xr rb).toInt
        then { pastPc s i n with pc := (getThread s i n).pc + off.signExtend 64 <<< 2 } else pastPc s i n))
  ∧ (∀ (i : Fin 64) (n : Fin 256) (ra rb : Fin 32) (off : BitVec 15) (s u : State), Issues s u i n [.x ra, .x rb] →
    ∃ t, exec (.branchGe i n ra rb off) s = .next t ∧ Retired u t i n (if ((getThread s i n).xr rb).toInt ≤ ((getThread s i n).xr ra).toInt
        then { pastPc s i n with pc := (getThread s i n).pc + off.signExtend 64 <<< 2 } else pastPc s i n))
  ∧ (∀ (i : Fin 64) (n : Fin 256) (ra rb : Fin 32) (off : BitVec 15) (s u : State), Issues s u i n [.x ra, .x rb] →
    ∃ t, exec (.branchLtu i n ra rb off) s = .next t ∧ Retired u t i n (if ((getThread s i n).xr ra).toNat < ((getThread s i n).xr
        rb).toNat then { pastPc s i n with pc := (getThread s i n).pc + off.signExtend 64 <<< 2 } else pastPc s i n))
  ∧ (∀ (i : Fin 64) (n : Fin 256) (ra rb : Fin 32) (off : BitVec 15) (s u : State), Issues s u i n [.x ra, .x rb] →
    ∃ t, exec (.branchGeu i n ra rb off) s = .next t ∧ Retired u t i n (if ((getThread s i n).xr rb).toNat ≤ ((getThread s i n).xr
        ra).toNat then { pastPc s i n with pc := (getThread s i n).pc + off.signExtend 64 <<< 2 } else pastPc s i n))
  ∧ (∀ (i : Fin 64) (n : Fin 256) (ra : Fin 32) (s u : State), Issues s u i n [.x ra] →
    ∃ t, exec (.jumpToRegister i n ra) s = .next t ∧ Retired u t i n { pastPc s i n with pc := (getThread s i n).xr ra })
  ∧ (∀ (i : Fin 64) (n : Fin 256) (rd : Fin 32) (off : BitVec 20) (s u : State), Issues s u i n [.x rd] →
    ∃ t, exec (.jumpAndLink i n rd off) s = .next t ∧ Retired u t i n
        (({ pastPc s i n with pc := (getThread s i n).pc + off.signExtend 64 <<< 2 } : Thread).setX rd ((getThread s i n).pc + 4)))

/-- R139 to R141, R147: an aligned load or store of 1, 2, 4 or 8 bytes, or of 64, at an address inside the map issues while the thread may
access (no acquire and no FENCE outstanding, fewer than eight accesses) and, with release, has none outstanding; the access joins the
thread's outstanding accesses and the instruction retires. -/
def Obligations.LoadsAndStores : Prop :=
  (∀ (i : Fin 64) (n : Fin 256) (size : Fin 4) (ord : Fin 3) (rd ra : Fin 32) (off : BitVec 12) (s u : State), Issues s u i n [.x rd, .x
        ra] → ((getThread s i n).xr ra + off.signExtend 64).toNat % 2 ^ size.val = 0
        → inMap ((getThread s i n).xr ra + off.signExtend 64).toNat = true → (getThread s i n).mayAccess = true →
    ∃ t, exec (.scalarLoad i n (size.castLE (by decide)) (ord.castLE (by decide)) rd ra off) s = .next t
        ∧ Retired u t i n (withAccess s i n ((getThread s i n).xr ra + off.signExtend 64).toNat (.load (2 ^ size.val) rd) (ord == 1)))
  ∧ (∀ (i : Fin 64) (n : Fin 256) (size : Fin 4) (ord : Fin 3) (rs ra : Fin 32) (off : BitVec 12) (s u : State), Issues s u i n [.x rs, .x
        ra] → ((getThread s i n).xr ra + off.signExtend 64).toNat % 2 ^ size.val = 0
        → inMap ((getThread s i n).xr ra + off.signExtend 64).toNat = true → (getThread s i n).mayAccess = true →
    ord ≠ 2 ∨ (getThread s i n).out = [] →
    ∃ t, exec (.scalarStore i n (size.castLE (by decide)) (ord.castLE (by decide)) rs ra off) s = .next t
        ∧ Retired u t i n (withAccess s i n ((getThread s i n).xr ra + off.signExtend 64).toNat (.store ((toBytes (2 ^ size.val)
        ((getThread s i n).xr rs).toNat).map (BitVec.ofNat 8))) false))
  ∧ (∀ (i : Fin 64) (n : Fin 256) (ord : Fin 3) (vd ra : Fin 32) (off : BitVec 12) (s u : State), Issues s u i n [.v vd, .x ra]
        → ((getThread s i n).xr ra + off.signExtend 64).toNat % 64 = 0 → inMap ((getThread s i n).xr ra + off.signExtend 64).toNat = true
        → (getThread s i n).mayAccess = true →
    ∃ t, exec (.vectorLoad i n 4 (ord.castLE (by decide)) vd ra off) s = .next t
        ∧ Retired u t i n (withAccess s i n ((getThread s i n).xr ra + off.signExtend 64).toNat (.vload vd) (ord == 1)))
  ∧ (∀ (i : Fin 64) (n : Fin 256) (ord : Fin 3) (vs ra : Fin 32) (off : BitVec 12) (s u : State), Issues s u i n [.v vs, .x ra]
        → ((getThread s i n).xr ra + off.signExtend 64).toNat % 64 = 0 → inMap ((getThread s i n).xr ra + off.signExtend 64).toNat = true
        → (getThread s i n).mayAccess = true →
    ord ≠ 2 ∨ (getThread s i n).out = [] →
    ∃ t, exec (.vectorStore i n 4 (ord.castLE (by decide)) vs ra off) s = .next t
        ∧ Retired u t i n (withAccess s i n ((getThread s i n).xr ra + off.signExtend 64).toNat (.vstore (vecBytes ((getThread s i n).vr
        vs))) false))

/-- R142: an atomic of 32 or 64 bits (MOD [1:0] 2 or 3) with MASK = 0 at an aligned manger address issues as an outstanding access that
carries its function, rb, and rd as the expected value. -/
def Obligations.Atomics : Prop :=
  (∀ (i : Fin 64) (n : Fin 256) (rd ra rb : Fin 32) (m : Fin 16) (s u : State), Issues s u i n [.x rd, .x ra, .x rb] → 2 ≤ m.val % 4 →
    ((getThread s i n).xr ra).toNat % (if m.val % 4 = 2 then 4 else 8) = 0 → ((getThread s i n).xr ra).toNat < 0x40000000 →
    inMap ((getThread s i n).xr ra).toNat = true → (getThread s i n).mayAccess = true → (8 ≤ m.val → (getThread s i n).out = []) →
    ∃ t, exec (.atomicAdd i n rd ra rb 0 m) s = .next t ∧ Retired u t i n (withAccess s i n ((getThread s i n).xr ra).toNat
    (.atomic 0 (if m.val % 4 = 2 then 4 else 8) rd ((getThread s i n).xr rb) ((getThread s i n).xr rd)) (m.val / 4 % 2 == 1)))
  ∧ (∀ (i : Fin 64) (n : Fin 256) (rd ra rb : Fin 32) (m : Fin 16) (s u : State), Issues s u i n [.x rd, .x ra, .x rb] → 2 ≤ m.val % 4 →
    ((getThread s i n).xr ra).toNat % (if m.val % 4 = 2 then 4 else 8) = 0 → ((getThread s i n).xr ra).toNat < 0x40000000 →
    inMap ((getThread s i n).xr ra).toNat = true → (getThread s i n).mayAccess = true → (8 ≤ m.val → (getThread s i n).out = []) →
    ∃ t, exec (.atomicAnd i n rd ra rb 0 m) s = .next t ∧ Retired u t i n (withAccess s i n ((getThread s i n).xr ra).toNat
    (.atomic 1 (if m.val % 4 = 2 then 4 else 8) rd ((getThread s i n).xr rb) ((getThread s i n).xr rd)) (m.val / 4 % 2 == 1)))
  ∧ (∀ (i : Fin 64) (n : Fin 256) (rd ra rb : Fin 32) (m : Fin 16) (s u : State), Issues s u i n [.x rd, .x ra, .x rb] → 2 ≤ m.val % 4 →
    ((getThread s i n).xr ra).toNat % (if m.val % 4 = 2 then 4 else 8) = 0 → ((getThread s i n).xr ra).toNat < 0x40000000 →
    inMap ((getThread s i n).xr ra).toNat = true → (getThread s i n).mayAccess = true → (8 ≤ m.val → (getThread s i n).out = []) →
    ∃ t, exec (.atomicOr i n rd ra rb 0 m) s = .next t ∧ Retired u t i n (withAccess s i n ((getThread s i n).xr ra).toNat
    (.atomic 2 (if m.val % 4 = 2 then 4 else 8) rd ((getThread s i n).xr rb) ((getThread s i n).xr rd)) (m.val / 4 % 2 == 1)))
  ∧ (∀ (i : Fin 64) (n : Fin 256) (rd ra rb : Fin 32) (m : Fin 16) (s u : State), Issues s u i n [.x rd, .x ra, .x rb] → 2 ≤ m.val % 4 →
    ((getThread s i n).xr ra).toNat % (if m.val % 4 = 2 then 4 else 8) = 0 → ((getThread s i n).xr ra).toNat < 0x40000000 →
    inMap ((getThread s i n).xr ra).toNat = true → (getThread s i n).mayAccess = true → (8 ≤ m.val → (getThread s i n).out = []) →
    ∃ t, exec (.atomicXor i n rd ra rb 0 m) s = .next t ∧ Retired u t i n (withAccess s i n ((getThread s i n).xr ra).toNat
    (.atomic 3 (if m.val % 4 = 2 then 4 else 8) rd ((getThread s i n).xr rb) ((getThread s i n).xr rd)) (m.val / 4 % 2 == 1)))
  ∧ (∀ (i : Fin 64) (n : Fin 256) (rd ra rb : Fin 32) (m : Fin 16) (s u : State), Issues s u i n [.x rd, .x ra, .x rb] → 2 ≤ m.val % 4 →
    ((getThread s i n).xr ra).toNat % (if m.val % 4 = 2 then 4 else 8) = 0 → ((getThread s i n).xr ra).toNat < 0x40000000 →
    inMap ((getThread s i n).xr ra).toNat = true → (getThread s i n).mayAccess = true → (8 ≤ m.val → (getThread s i n).out = []) →
    ∃ t, exec (.atomicSwap i n rd ra rb 0 m) s = .next t ∧ Retired u t i n (withAccess s i n ((getThread s i n).xr ra).toNat
    (.atomic 4 (if m.val % 4 = 2 then 4 else 8) rd ((getThread s i n).xr rb) ((getThread s i n).xr rd)) (m.val / 4 % 2 == 1)))
  ∧ (∀ (i : Fin 64) (n : Fin 256) (rd ra rb : Fin 32) (m : Fin 16) (s u : State), Issues s u i n [.x rd, .x ra, .x rb] → 2 ≤ m.val % 4 →
    ((getThread s i n).xr ra).toNat % (if m.val % 4 = 2 then 4 else 8) = 0 → ((getThread s i n).xr ra).toNat < 0x40000000 →
    inMap ((getThread s i n).xr ra).toNat = true → (getThread s i n).mayAccess = true → (8 ≤ m.val → (getThread s i n).out = []) →
    ∃ t, exec (.atomicCas i n rd ra rb 0 m) s = .next t ∧ Retired u t i n (withAccess s i n ((getThread s i n).xr ra).toNat
    (.atomic 5 (if m.val % 4 = 2 then 4 else 8) rd ((getThread s i n).xr rb) ((getThread s i n).xr rd)) (m.val / 4 % 2 == 1)))
  ∧ (∀ (i : Fin 64) (n : Fin 256) (rd ra rb : Fin 32) (m : Fin 16) (s u : State), Issues s u i n [.x rd, .x ra, .x rb] → 2 ≤ m.val % 4 →
    ((getThread s i n).xr ra).toNat % (if m.val % 4 = 2 then 4 else 8) = 0 → ((getThread s i n).xr ra).toNat < 0x40000000 →
    inMap ((getThread s i n).xr ra).toNat = true → (getThread s i n).mayAccess = true → (8 ≤ m.val → (getThread s i n).out = []) →
    ∃ t, exec (.atomicMins i n rd ra rb 0 m) s = .next t ∧ Retired u t i n (withAccess s i n ((getThread s i n).xr ra).toNat
    (.atomic 6 (if m.val % 4 = 2 then 4 else 8) rd ((getThread s i n).xr rb) ((getThread s i n).xr rd)) (m.val / 4 % 2 == 1)))
  ∧ (∀ (i : Fin 64) (n : Fin 256) (rd ra rb : Fin 32) (m : Fin 16) (s u : State), Issues s u i n [.x rd, .x ra, .x rb] → 2 ≤ m.val % 4 →
    ((getThread s i n).xr ra).toNat % (if m.val % 4 = 2 then 4 else 8) = 0 → ((getThread s i n).xr ra).toNat < 0x40000000 →
    inMap ((getThread s i n).xr ra).toNat = true → (getThread s i n).mayAccess = true → (8 ≤ m.val → (getThread s i n).out = []) →
    ∃ t, exec (.atomicMaxs i n rd ra rb 0 m) s = .next t ∧ Retired u t i n (withAccess s i n ((getThread s i n).xr ra).toNat
    (.atomic 7 (if m.val % 4 = 2 then 4 else 8) rd ((getThread s i n).xr rb) ((getThread s i n).xr rd)) (m.val / 4 % 2 == 1)))
  ∧ (∀ (i : Fin 64) (n : Fin 256) (rd ra rb : Fin 32) (m : Fin 16) (s u : State), Issues s u i n [.x rd, .x ra, .x rb] → 2 ≤ m.val % 4 →
    ((getThread s i n).xr ra).toNat % (if m.val % 4 = 2 then 4 else 8) = 0 → ((getThread s i n).xr ra).toNat < 0x40000000 →
    inMap ((getThread s i n).xr ra).toNat = true → (getThread s i n).mayAccess = true → (8 ≤ m.val → (getThread s i n).out = []) →
    ∃ t, exec (.atomicMinu i n rd ra rb 0 m) s = .next t ∧ Retired u t i n (withAccess s i n ((getThread s i n).xr ra).toNat
    (.atomic 8 (if m.val % 4 = 2 then 4 else 8) rd ((getThread s i n).xr rb) ((getThread s i n).xr rd)) (m.val / 4 % 2 == 1)))
  ∧ (∀ (i : Fin 64) (n : Fin 256) (rd ra rb : Fin 32) (m : Fin 16) (s u : State), Issues s u i n [.x rd, .x ra, .x rb] → 2 ≤ m.val % 4 →
    ((getThread s i n).xr ra).toNat % (if m.val % 4 = 2 then 4 else 8) = 0 → ((getThread s i n).xr ra).toNat < 0x40000000 →
    inMap ((getThread s i n).xr ra).toNat = true → (getThread s i n).mayAccess = true → (8 ≤ m.val → (getThread s i n).out = []) →
    ∃ t, exec (.atomicMaxu i n rd ra rb 0 m) s = .next t ∧ Retired u t i n (withAccess s i n ((getThread s i n).xr ra).toNat
    (.atomic 9 (if m.val % 4 = 2 then 4 else 8) rd ((getThread s i n).xr rb) ((getThread s i n).xr rd)) (m.val / 4 % 2 == 1)))

/-- R143, Table 5.6, classes 4 and 10: each unmasked lane takes the lane function of its operands in the mode of the thread, and the
instruction retires. A NaN whose sign and payload the spec leaves open, the types without a function and the special functions read free
values (log entries 7, 14 and 15). A mask bit covers a lane of 32 bits, for the 16-bit types too (log entry 47). -/
def Obligations.VectorInstructions : Prop :=
  (∀ (i : Fin 64) (n : Fin 256) (fn : VecFn) (ty : VecTy) (vd va vb : Fin 32) (m : Fin 8) (s u : State), Issues s u i n [.v vd, .v va, .v
        vb] → vecKnown fn = true →
    ∃ t, exec (.vectorArith i n fn ty vd va vb m) s = .next t ∧ Retired (drawn u) t i n (laneOp (vecWidth ty) (pastPc s i n) vd va vb m
        (fun l _ a b => vecLane fn ty (getThread s i n).mode (Config.nanBits u.freeCtr l) a b)))
  ∧ (∀ (i : Fin 64) (n : Fin 256) (ty : FmaTy) (vd va vb : Fin 32) (m : Fin 8) (s u : State), Issues s u i n [.v vd, .v va, .v vb] →
    ∃ t, exec (.vfma i n ty vd va vb m) s = .next t ∧ Retired (drawn u) t i n (laneOp (if ty = .int16 then 16 else 32) (pastPc s i n) vd va
        vb m (fun l d a b => fmaLane ty (getThread s i n).mode (Config.nanBits u.freeCtr l) d a b)))
  ∧ (∀ (i : Fin 64) (n : Fin 256) (vd va vb : Fin 32) (m : Fin 8) (s u : State), Issues s u i n [.v vd, .v va, .v vb] →
    ∃ t, exec (.vdot2 i n vd va vb m) s = .next t ∧ Retired (drawn u) t i n (laneOp 32 (pastPc s i n) vd va vb m (fun l d a b => dot2Lane
        (getThread s i n).mode (Config.nanBits u.freeCtr l) d a b)))
  ∧ (∀ (i : Fin 64) (n : Fin 256) (vd va : Fin 32) (m : Fin 8) (s u : State), Issues s u i n [.v vd, .v va] →
    ∃ t, exec (.exp2 i n vd va m) s = .next t ∧ Retired (drawn u) t i n (sfuOp 0 u (pastPc s i n) vd va m))
  ∧ (∀ (i : Fin 64) (n : Fin 256) (vd va : Fin 32) (m : Fin 8) (s u : State), Issues s u i n [.v vd, .v va] →
    ∃ t, exec (.log2 i n vd va m) s = .next t ∧ Retired (drawn u) t i n (sfuOp 1 u (pastPc s i n) vd va m))
  ∧ (∀ (i : Fin 64) (n : Fin 256) (vd va : Fin 32) (m : Fin 8) (s u : State), Issues s u i n [.v vd, .v va] →
    ∃ t, exec (.rcp i n vd va m) s = .next t ∧ Retired (drawn u) t i n (sfuOp 2 u (pastPc s i n) vd va m))
  ∧ (∀ (i : Fin 64) (n : Fin 256) (vd va : Fin 32) (m : Fin 8) (s u : State), Issues s u i n [.v vd, .v va] →
    ∃ t, exec (.rsqrt i n vd va m) s = .next t ∧ Retired (drawn u) t i n (sfuOp 3 u (pastPc s i n) vd va m))
  ∧ (∀ (i : Fin 64) (n : Fin 256) (vd va : Fin 32) (m : Fin 8) (s u : State), Issues s u i n [.v vd, .v va] →
    ∃ t, exec (.sin i n vd va m) s = .next t ∧ Retired (drawn u) t i n (sfuOp 4 u (pastPc s i n) vd va m))
  ∧ (∀ (i : Fin 64) (n : Fin 256) (vd va : Fin 32) (m : Fin 8) (s u : State), Issues s u i n [.v vd, .v va] →
    ∃ t, exec (.tanh i n vd va m) s = .next t ∧ Retired (drawn u) t i n (sfuOp 5 u (pastPc s i n) vd va m))

/-- R51, R58, R144, class 6: a conversion whose SLOT, RND, group and register operands are legal writes its block, lanes or scale bytes and
retires. TOBX and FROMBX leave FFLAGS (log entry 54); BF16TOF32 of a NaN appends zeros and raises no flag, F32TOBF16 of a signalling NaN
raises invalid (log entry 189). -/
def Obligations.FormatConversions : Prop :=
  (∀ (i : Fin 64) (n : Fin 256) (vd va xs : Fin 32) (slot rnd : Fin 4) (s u : State), Issues s u i n [.v vd, .v va, .v (va + 1), .x xs]
        → tobxLegal 4 rnd slot va = true →
    ∃ t, exec (.tobx4 i n vd va xs slot rnd) s = .next t ∧ Retired u t i n (tobxOp 4 (if rnd = 1 then .rtz else .rne) (pastPc s i n) vd va
        xs slot))
  ∧ (∀ (i : Fin 64) (n : Fin 256) (vd va xs : Fin 32) (slot rnd : Fin 4) (s u : State), Issues s u i n [.v vd, .v va, .v (va + 1), .x xs]
        → tobxLegal 8 rnd slot va = true →
    ∃ t, exec (.tobx8 i n vd va xs slot rnd) s = .next t ∧ Retired u t i n (tobxOp 8 (if rnd = 1 then .rtz else .rne) (pastPc s i n) vd va
        xs slot))
  ∧ (∀ (i : Fin 64) (n : Fin 256) (vd va xs : Fin 32) (slot rnd : Fin 4) (s u : State), Issues s u i n [.v vd, .v va, .v (va + 1), .x xs]
        → tobxLegal 16 rnd slot va = true →
    ∃ t, exec (.tobx16 i n vd va xs slot rnd) s = .next t ∧ Retired u t i n (tobxOp 16 (if rnd = 1 then .rtz else .rne) (pastPc s i n) vd
        va xs slot))
  ∧ (∀ (i : Fin 64) (n : Fin 256) (vd va xs : Fin 32) (g : Fin 8) (s u : State), Issues s u i n [.v vd, .v va, .x xs]
        → frombxLegal 4 g = true →
    ∃ t, exec (.frombx4 i n vd va xs g) s = .next t ∧ Retired u t i n (frombxOp 4 (pastPc s i n) vd va xs g))
  ∧ (∀ (i : Fin 64) (n : Fin 256) (vd va xs : Fin 32) (g : Fin 8) (s u : State), Issues s u i n [.v vd, .v va, .x xs]
        → frombxLegal 8 g = true →
    ∃ t, exec (.frombx8 i n vd va xs g) s = .next t ∧ Retired u t i n (frombxOp 8 (pastPc s i n) vd va xs g))
  ∧ (∀ (i : Fin 64) (n : Fin 256) (vd va xs : Fin 32) (g : Fin 8) (s u : State), Issues s u i n [.v vd, .v va, .x xs]
        → frombxLegal 16 g = true →
    ∃ t, exec (.frombx16 i n vd va xs g) s = .next t ∧ Retired u t i n (frombxOp 16 (pastPc s i n) vd va xs g))
  ∧ (∀ (i : Fin 64) (n : Fin 256) (vd va : Fin 32) (s u : State), Issues s u i n [.v vd, .v va, .v (va + 1)] → va.val % 2 = 0 →
    ∃ t, exec (.f32tobf16 i n vd va) s = .next t ∧ Retired u t i n (f32tobf16Op (pastPc s i n) vd va))
  ∧ (∀ (i : Fin 64) (n : Fin 256) (vd va : Fin 32) (h : Fin 2) (s u : State), Issues s u i n [.v vd, .v va] →
    ∃ t, exec (.bf16tof32 i n vd va h) s = .next t ∧ Retired u t i n (bf16tof32Op (pastPc s i n) vd va h))
  ∧ (∀ (i : Fin 64) (n : Fin 256) (vd va vb xs : Fin 32) (s u : State), Issues s u i n [.v vd, .v va, .v vb, .x xs] →
    ∃ t, exec (.bxdot8 i n vd va vb xs) s = .next t ∧ Retired (drawn u) t i n (bxdotOp u (pastPc s i n) vd va vb xs))

/-- R141, R145, R146: FENCE holds later accesses while an access is outstanding; SBINC, once none is, sends an increment to a box of its own
die; SBWAIT puts the thread to sleep at its own PC, and it wakes with status 0 when the box reaches the value or with status 1 when
TWAIT has passed; TILEOP queues its descriptor and returns the status. -/
def Obligations.ThreadSynchronisation : Prop :=
  (∀ (i : Fin 64) (n : Fin 256) (s u : State), Issues s u i n [] →
    ∃ t, exec (.fence i n 0) s = .next t ∧ Retired u t i n { pastPc s i n with fence := !(getThread s i n).out.isEmpty })
  ∧ (∀ (i : Fin 64) (n : Fin 256) (ra rb : Fin 32) (s u : State), Issues s u i n [.x ra, .x rb] → ((getThread s i n).xr ra).toNat < 1024 →
    (getThread s i n).out = [] → (getThread s i n).fence = false → ∃ t, exec (.sbinc i n ra rb 0) s = .next t
    ∧ Retired (sendSbx u (i / 16) ((getThread s i n).xr ra).toNat (((getThread s i n).xr rb).toNat % 2 ^ 32)) t i n (pastPc s i n))
  ∧ (∀ (i : Fin 64) (n : Fin 256) (rd ra rb : Fin 32) (s u : State), Issues s u i n [.x rd, .x ra, .x rb] →
    ((getThread s i n).xr ra).toNat < 1024 → ∃ t, exec (.sbwait i n rd ra rb 0) s = .next t ∧ Retired u t i n
    { getThread s i n with wait := .sbwait rd ((getThread s i n).xr ra).toNat (((getThread s i n).xr rb).toNat % 2 ^ 32) })
  ∧ (∀ (i : Fin 64) (n : Fin 256) (rd box v : Nat) (s : State), (getThread s i n).wait = .sbwait rd box v → (getShed s i).state = .run →
    sbxReached s (i / 16) box v = true → ∃ t, exec (.sbwaitWake i n) s = .next t
    ∧ getThread t i n = ({ getThread s i n with wait := .none, pc := (getThread s i n).pc + 4 } : Thread).setX rd 0
    ∧ (∀ j m, j ≠ i.val ∨ m ≠ n.val → getThread t j m = getThread s j m) ∧ Touches [.shed] s t)
  ∧ (∀ (i : Fin 64) (n : Fin 256) (rd box v e : Nat) (s : State), (getThread s i n).wait = .sbwait rd box v → (getShed s i).state = .run →
    (getThread s i n).twait ≠ 0 → (getThread s i n).twait ≤ e → ∃ t, exec (.sbwaitTimeout i n e) s = .next t
    ∧ getThread t i n = ({ getThread s i n with wait := .none, pc := (getThread s i n).pc + 4 } : Thread).setX rd 1
    ∧ (∀ j m, j ≠ i.val ∨ m ≠ n.val → getThread t j m = getThread s j m) ∧ Touches [.shed] s t)
  ∧ (∀ (i : Fin 64) (n : Fin 256) (w : Bool) (rd ra rb : Fin 32) (s u : State), Issues s u i n [.x rd, .x ra, .v rb] →
    ((getThread s i n).xr ra).toNat < 4 → (getThread s i n).fence = false
        → tqFull u (4 * (i / 16) + ((getThread s i n).xr ra).toNat) = false →
    ∃ t, exec (.tileop i n w rd ra rb 0) s = .next t
    ∧ Retired (queueTileOp u (4 * (i / 16) + ((getThread s i n).xr ra).toNat) (toBytes 16 ((getThread s i n).vr rb).toNat)).1 t i n
    ((pastPc s i n).setX rd
    (BitVec.ofNat 64 (queueTileOp u (4 * (i / 16) + ((getThread s i n).xr ra).toNat) (toBytes 16 ((getThread s i n).vr rb).toNat)).2)))

/-- R132, R143, R147, R149: CSRR and CSRW move a CSR (a handler CSR is written in handler mode only; the CYCLE CSR and the unlisted CSRs
read free values, log entries 10 and 17), HALT stops the thread, ERET leaves handler mode for EPC, TRAP and a deferred error enter the
handler with the cause, the value and both PCs saved. TRAP's code is zero-extended (log entry 45), and HALT leaves handler mode (log
entry 50). R147, R149, R150, R151: a scalar instruction with MASK ≠ 0 traps with cause 1 and enters the handler; with TRAPVEC 0 the
thread halts, SHD_HALTS counts it, SHD_LASTTRAP, its PC and its value are written, and event 0x2001 is raised; a precise trap in handler
mode halts the thread as nested, with 0x2002. With TRAPVEC 0 event 0x2001 is raised in handler mode too (log entry 185). -/
def Obligations.ThreadControl : Prop :=
  (∀ (i : Fin 64) (n : Fin 256) (rd : Fin 32) (csr : BitVec 12) (s u : State), Issues s u i n [.x rd] →
    ∃ t v, exec (.csrr i n rd csr) s = .next t ∧ Retired (drawn u) t i n ((pastPc s i n).setX rd v)
    ∧ (csr = 0x000 → v = BitVec.ofNat 64 (256 * i.val + n.val)) ∧ (csr = 0x002 → v = u.time)
    ∧ (csr = 0x010 → v = BitVec.ofNat 64 (getThread s i n).fflags) ∧ (csr = 0x011 → v = BitVec.ofNat 64 (getThread s i n).frm)
    ∧ (csr = 0x020 → v = BitVec.ofNat 64 (getThread s i n).twait) ∧ (csr = 0x040 → v = (getThread s i n).epc)
    ∧ (csr = 0x041 → v = (getThread s i n).tpc) ∧ (csr = 0x042 → v = (getThread s i n).tval)
    ∧ (csr = 0x043 → v = BitVec.ofNat 64 (getThread s i n).cause))
  ∧ (∀ (i : Fin 64) (n : Fin 256) (ra : Fin 32) (csr : BitVec 12) (s u : State), Issues s u i n [.x ra] →
    csr.toNat < 0x040 ∨ 0x043 < csr.toNat ∨ (getThread s i n).handler = true →
    ∃ t th, exec (.csrw i n ra csr) s = .next t ∧ Retired u t i n th
    ∧ (csr = 0x010 → th = { pastPc s i n with fflags := ((getThread s i n).xr ra).toNat % 32 })
    ∧ (csr = 0x011 → ((getThread s i n).xr ra).toNat % 4 < 2 → th = { pastPc s i n with frm := ((getThread s i n).xr ra).toNat % 4 })
    ∧ (csr = 0x020 → th = { pastPc s i n with twait := ((getThread s i n).xr ra).toNat % 2 ^ 32 })
    ∧ (csr = 0x040 → th = { pastPc s i n with epc := (getThread s i n).xr ra })
    ∧ (csr = 0x041 → th = { pastPc s i n with tpc := (getThread s i n).xr ra })
    ∧ (csr = 0x042 → th = { pastPc s i n with tval := (getThread s i n).xr ra })
    ∧ (csr = 0x043 → th = { pastPc s i n with cause := ((getThread s i n).xr ra).toNat % 128 })
    ∧ (csr.toNat ∉ [0x010, 0x011, 0x020, 0x040, 0x041, 0x042, 0x043] → th = pastPc s i n))
  ∧ (∀ (i : Fin 64) (n : Fin 256) (s u : State), Issues s u i n [] →
    ∃ t, exec (.halt i n 0) s = .next t ∧ Retired u t i n { pastPc s i n with running := false, handler := false })
  ∧ (∀ (i : Fin 64) (n : Fin 256) (s u : State), Issues s u i n [] → (getThread s i n).handler = true →
    ∃ t, exec (.eret i n) s = .next t ∧ Retired u t i n { pastPc s i n with handler := false, pc := (getThread s i n).epc })
  ∧ (∀ (i : Fin 64) (n : Fin 256) (m : BitVec 12) (s u : State), Issues s u i n [] → rdReg u (Reg.SHD_TRAPVEC.addr i 0 0) ≠ 0 →
    (getThread u i n).handler = false → ∃ t, exec (.trap i n m) s = .next t
    ∧ getThread t i n = entering (getThread u i n) (rdReg u (Reg.SHD_TRAPVEC.addr i 0 0)) 6 (m.zeroExtend 64) (getThread s i n).pc
    (getThread s i n).pc
    ∧ (∀ j q, j ≠ i.val ∨ q ≠ n.val → getThread t j q = getThread u j q) ∧ Touches [.shed] u t)
  ∧ (∀ (i : Fin 64) (n : Fin 256) (e : DefErr) (rest : List DefErr) (s : State), (getThread s i n).errs = e :: rest
        → (getShed s i).state = .run →
    (getThread s i n).running = true → (getThread s i n).wait = .none → e.preTrap = false → (getThread s i n).handler = false →
    rdReg s (Reg.SHD_TRAPVEC.addr i 0 0) ≠ 0 → ∃ t, exec (.deferredBusError i n) s = .next t
    ∧ getThread t i n = entering { getThread s i n with errs := rest } (rdReg s (Reg.SHD_TRAPVEC.addr i 0 0)) (e.cause + 32)
    (BitVec.ofNat 64 e.addr) e.pc (getThread s i n).pc
    ∧ (∀ j q, j ≠ i.val ∨ q ≠ n.val → getThread t j q = getThread s j q) ∧ Touches [.shed] s t)
  ∧ (∀ (i : Fin 64) (n : Fin 256) (e : DefErr) (rest : List DefErr) (s : State), (getThread s i n).errs = e :: rest
        → (getShed s i).state = .run →
    (getThread s i n).running = true → (getThread s i n).wait = .none → e.preTrap = true → ∃ t, exec (.deferredBusError i n) s = .next t
    ∧ getThread t i n = { getThread s i n with
        errs := rest, cause := if bitOf (getThread s i n).cause 6 then (getThread s i n).cause else (getThread s i n).cause + 64 }
    ∧ (∀ j q, j ≠ i.val ∨ q ≠ n.val → getThread t j q = getThread s j q) ∧ Touches [.shed] s t)
  ∧ (∀ (i : Fin 64) (n : Fin 256) (rd ra rb : Fin 32) (m : Fin 8) (s u : State), Issues s u i n [.x rd, .x ra, .x rb] → m ≠ 0 →
    rdReg u (Reg.SHD_TRAPVEC.addr i 0 0) ≠ 0 → (getThread u i n).handler = false →
    ∀ c ∈ [Instr.scalarAdd i n rd ra rb m, .scalarSub i n rd ra rb m, .mul i n rd ra rb m, .div i n rd ra rb m], ∃ t, exec c s = .next t
    ∧ getThread t i n = entering (getThread u i n) (rdReg u (Reg.SHD_TRAPVEC.addr i 0 0)) 1 0 (getThread s i n).pc (getThread s i n).pc
    ∧ (∀ j q, j ≠ i.val ∨ q ≠ n.val → getThread t j q = getThread u j q) ∧ Touches [.shed] u t)
  ∧ (∀ (i : Fin 64) (n : Fin 256) (fn : LogicFn) (rd ra rb : Fin 32) (m : Fin 8) (s u : State), Issues s u i n [.x rd, .x ra, .x rb] →
    m ≠ 0 ∨ logicKnown 0 fn = false → rdReg u (Reg.SHD_TRAPVEC.addr i 0 0) = 0 → ∃ t, exec (.scalarLogic i n fn rd ra rb m) s = .next t
    ∧ (getThread t i n).running = false ∧ getF t Fld.SHD_HALTS_COUNT i = min (2 ^ 32 - 1) (getF u Fld.SHD_HALTS_COUNT i + 1)
    ∧ rdReg t (Reg.SHD_LASTTRAP_PC.addr i 0 0) = (getThread s i n).pc ∧ rdReg t (Reg.SHD_LASTTRAP_VAL.addr i 0 0) = 0
    ∧ (∀ j q, j ≠ i.val ∨ q ≠ n.val → getThread t j q = getThread u j q) ∧ Touches [.regs, .ev, .shed] u t)
  ∧ (∀ (i : Fin 64) (n : Fin 256) (m : BitVec 12) (s u : State), Issues s u i n [] → rdReg u (Reg.SHD_TRAPVEC.addr i 0 0) ≠ 0 →
    (getThread u i n).handler = true → ∃ t, exec (.trap i n m) s = .next t ∧ (getThread t i n).running = false
    ∧ getF t Fld.SHD_ERR_NESTED i = 1 ∧ getF t Fld.SHD_HALTS_COUNT i = min (2 ^ 32 - 1) (getF u Fld.SHD_HALTS_COUNT i + 1)
    ∧ (∃ e, t.ev.inFlight = u.ev.inFlight ++ [e] ∧ e.code = 0x2002 ∧ e.unit = 256 + i.val)
    ∧ (∀ j q, j ≠ i.val ∨ q ≠ n.val → getThread t j q = getThread u j q) ∧ Touches [.regs, .ev, .shed] u t)
  ∧ (∀ (i : Fin 64) (n : Fin 256) (cause : Nat) (tval tpc epc : W64) (s : State), rdReg s (Reg.SHD_TRAPVEC.addr i 0 0) = 0 → cause < 32 →
    (getThread (takeTrap s i n cause false tval tpc epc) i n).running = false
    ∧ getF (takeTrap s i n cause false tval tpc epc) Fld.SHD_HALTS_COUNT i = min (2 ^ 32 - 1) (getF s Fld.SHD_HALTS_COUNT i + 1)
    ∧ rdReg (takeTrap s i n cause false tval tpc epc) (Reg.SHD_LASTTRAP_PC.addr i 0 0) = tpc
    ∧ rdReg (takeTrap s i n cause false tval tpc epc) (Reg.SHD_LASTTRAP_VAL.addr i 0 0) = tval
    ∧ (∃ e, (takeTrap s i n cause false tval tpc epc).ev.inFlight = s.ev.inFlight ++ [e] ∧ e.code = 0x2001 ∧ e.unit = 256 + i.val))

/-- R134 to R137: a launch of a STOPPED shed runs it with every enabled thread at the entry point, a resume runs it with its threads as they
were, a STOP ends in STOPPED once no access is outstanding (a shed that ostler firmware stopped after a halt then launches again, or
goes OFFLINE after a fourth halt within 60 s: R477), ICINV empties the instruction cache of a STOPPED shed, and a configuration register
is written from the bridleway while STOPPED. Firmware's launch with an empty cache, and its write of OFFLINE, are made as STATE becomes
STOPPED (log entry 226). -/
def Obligations.ShedControl : Prop :=
  (∀ (i : Fin 64) (n : Fin 256) (s : State), (getShed s i).state = .stopped →
    bitOf (getF s Fld.SHD_THR_EN_EN i (n / 32)) (n % 32) = true → bitOf (getF s Fld.SHD_COREDIS_DIS i) (n / 8) = false →
    ∃ t, exec (.shedLaunch i) s = .next t ∧ (getShed t i).state = .run
    ∧ getThread t i n = { running := true, pc := rdReg s (Reg.SHD_ENTRY.addr i 0 0), launched := true, launchTime := s.time }
    ∧ Only getShed [i.val] s t ∧ Touches [.shed] s t)
  ∧ (∀ (i : Fin 64) (s : State), (getShed s i).state = .stopped → ∃ t, exec (.shedResume i) s = .next t
        ∧ getShed t i = { getShed s i with state := .run }
    ∧ Only getShed [i.val] s t ∧ Touches [.shed] s t)
  ∧ (∀ (i : Fin 64) (s : State), (getShed s i).state = .run → ∃ t, exec (.shedStop i) s = .next t ∧ (getShed t i).state = .stopping
    ∧ (getShed t i).icache = (getShed s i).icache ∧ Only getShed [i.val] s t ∧ Touches [.shed] s t)
  ∧ (∀ (i : Fin 64) (s : State), (getShed s i).state = .stopping → (getShed s i).thr.all (fun x => x.2.out.isEmpty && x.2.errs.isEmpty) =
        true →
    ∃ t, exec (.shedStopped i) s = .next t ∧ ((getShed s i).plan = .none → getShed t i = { getShed s i with state := .stopped })
    ∧ ((getShed s i).plan = .relaunch → (getShed t i).state = .run ∧ (getShed t i).plan = .none ∧ (getShed t i).icache = [])
    ∧ ((getShed s i).plan = .offline → (getShed t i).state = .offline ∧ getF t Fld.SHD_CFG_OFFLINE i = 1)
    ∧ Only getShed [i.val] s t ∧ Touches [.regs, .ev, .shed] s t)
  ∧ (∀ (i : Fin 64) (s : State), (getShed s i).state = .stopped → ∃ t, exec (.icinv i) s = .next t
        ∧ getShed t i = { getShed s i with icache := [] }
    ∧ Only getShed [i.val] s t ∧ Touches [.shed] s t)
  ∧ (∀ (req : Requester) (i : Fin 64) (v : W64) (s : State), req.bridle = true → (getShed s i).state = .stopped →
    (∃ t, exec (.shedCfgWrite req i .entry v) s = .next t ∧ rdReg t (Reg.SHD_ENTRY.addr i 0 0) = BitVec.ofNat 64 (v.toNat / 4 * 4)
    ∧ Only rdReg [Reg.SHD_ENTRY.addr i 0 0] s t ∧ Touches [.regs] s t)
    ∧ (∃ t, exec (.shedCfgWrite req i .cfg v) s = .next t ∧ rdReg t (Reg.SHD_CFG.addr i 0 0) = BitVec.ofNat 64 (v.toNat % 2)
    ∧ (getShed t i).state = (if v.toNat % 2 = 1 then .offline else .stopped) ∧ Only rdReg [Reg.SHD_CFG.addr i 0 0] s t
        ∧ Touches [.regs, .shed] s t))

/-- R161 to R168: an arm joins the channel's arms and the oldest gets its status and sequence number; a satisfied wait makes the channel
active; a halt takes effect once nothing is outstanding; CLEAR with no bound port, or with its stall STOPPED and its issue port empty,
drains the channel and leaves it IDLE. The status is that of the descriptor as memory holds it at ARM_RESULT (log entry 64). -/
def Obligations.ChannelCommands : Prop :=
  (∀ (w : ShuAt) (c : Fin 8) (a : BitVec 48) (s : State), ∃ t, exec (.channelArm w c a) s = .next t
    ∧ getChan t w.shu c = { getChan s w.shu c with arms := (getChan s w.shu c).arms ++ [a.toNat] }
    ∧ t.bus = (busForget s w.req (Reg.SHU_CH_ARM.addr w.shu c 0)).bus
    ∧ (∀ m j, m ≠ w.shu.val ∨ j ≠ c.val → getChan t m j = getChan s m j) ∧ Touches [.bus, .shu] s t)
  ∧ (∀ (n : Fin 96) (c : Fin 8) (a : Nat) (rest : List Nat) (m : MemRead) (s u : State), (getChan s n c).arms = a :: rest →
    u = putChan s n c { getChan s n c with arms := rest } → armPreStatus u n c a = 0 → memRead u a 128 = m → m.failed = false →
    streamRsvdOk m.bytes = true → streamStatus m.s n c (parseStream a m.bytes) ≠ 0 → ∃ t, exec (.armResult n c) s = .next t
    ∧ getF t Fld.SHU_CH_ARMST_STATUS n c = streamStatus m.s n c (parseStream a m.bytes) % 16
    ∧ getF t Fld.SHU_CH_ARMST_SEQ n c = (getF m.s Fld.SHU_CH_ARMST_SEQ n c + 1) % 256 ∧ getChan t n c = { getChan s n c with arms := rest }
    ∧ (∀ m j, m ≠ n.val ∨ j ≠ c.val → getChan t m j = getChan s m j))
  ∧ (∀ (n : Fin 96) (c : Fin 8) (a : Nat) (rest : List Nat) (m : MemRead) (s u : State), (getChan s n c).arms = a :: rest →
    u = putChan s n c { getChan s n c with arms := rest } → armPreStatus u n c a = 0 → memRead u a 128 = m → m.failed = false →
    streamRsvdOk m.bytes = true → streamStatus m.s n c (parseStream a m.bytes) = 0 → (getChan s n c).state = .idle →
    ∃ t, exec (.armResult n c) s = .next t ∧ getF t Fld.SHU_CH_ARMST_STATUS n c = 0 ∧ getF t Fld.SHU_CH_DESC_ADDR n c = a % 2 ^ 48
    ∧ getF t Fld.SHU_CH_DONE_POS n c = 0 ∧ (getChan t n c).run = some { d := parseStream a m.bytes }
    ∧ (getChan t n c).state = (if (parseStream a m.bytes).waitEn then .wait else .active) ∧ (getChan t n c).arms = rest
        ∧ (∀ m j, m ≠ n.val ∨ j ≠ c.val → getChan t m j = getChan s m j))
  ∧ (∀ (n : Fin 96) (c : Fin 8) (a : Nat) (rest : List Nat) (m : MemRead) (s u : State), (getChan s n c).arms = a :: rest →
    u = putChan s n c { getChan s n c with arms := rest } → armPreStatus u n c a = 0 → memRead u a 128 = m → m.failed = false →
    streamRsvdOk m.bytes = true → streamStatus m.s n c (parseStream a m.bytes) = 0 → (getChan s n c).state ≠ .idle →
    ∃ t, exec (.armResult n c) s = .next t ∧ getF t Fld.SHU_CH_ARMST_STATUS n c = 1 ∧ (getChan t n c).shadow = some (parseStream a m.bytes)
    ∧ (getChan t n c).run = (getChan s n c).run ∧ (getChan t n c).state = (getChan s n c).state ∧ (getChan t n c).arms = rest
        ∧ (∀ m j, m ≠ n.val ∨ j ≠ c.val → getChan t m j = getChan s m j))
  ∧ (∀ (n : Fin 96) (c : Fin 8) (a : Nat) (rest : List Nat) (s : State), (getChan s n c).arms = a :: rest → a % 128 ≠ 0 →
    ∃ t, exec (.armResult n c) s = .next t ∧ getF t Fld.SHU_CH_ARMST_STATUS n c = 5
    ∧ getF t Fld.SHU_CH_ARMST_SEQ n c = (getF s Fld.SHU_CH_ARMST_SEQ n c + 1) % 256 ∧ getChan t n c = { getChan s n c with arms := rest }
    ∧ Touches [.regs, .shu] s t)
  ∧ (∀ (n : Fin 96) (c : Fin 8) (r : Run) (s : State), (getChan s n c).run = some r → (getChan s n c).state = .wait →
    (getShu s n).state ≠ .stopped → sbxReached s (shuDie n) r.d.waitSbx r.d.waitValue = true
        → ∃ t, exec (.channelWaitSatisfied n c) s = .next t
    ∧ getChan t n c = { getChan s n c with state := .active } ∧ (∀ m j, m ≠ n.val ∨ j ≠ c.val → getChan t m j = getChan s m j)
        ∧ Touches [.shu] s t)
  ∧ (∀ (n : Fin 96) (c : Fin 8) (s : State), (getChan s n c).halting = 3 → (getChan s n c).state ≠ .halted →
    (getChan s n c).outstanding = 0 → (chanNext s n c).ready = false → ∃ t, exec (.channelHalted n c) s = .next t
    ∧ (getChan t n c).state = .halted ∧ (getChan t n c).hcause = 3 ∧ (getChan t n c).run = (getChan s n c).run
    ∧ getF t Fld.SHU_ERR_UNREACH n = 1 ∧ Only rdReg [Reg.SHU_ERR.addr n 0 0] s t ∧ Touches [.regs, .shu] s t)
  ∧ (∀ (n : Fin 96) (c : Fin 8) (d : Bool) (s : State), (getChan s n c).bindW = false → (getChan s n c).bindI = false
        → (getChan s n c).bindD = false →
    ∃ t, exec (.channelClear n c d) s = .next t ∧ getChan t n c = { getChan s n c with clearing := true, drop := d }
    ∧ (∀ m j, m ≠ n.val ∨ j ≠ c.val → getChan t m j = getChan s m j) ∧ Touches [.shu] s t)
  ∧ (∀ (n : Fin 96) (c : Fin 8) (d : Bool) (s : State), (getStall s (shuStall n)).state = .stopped → (getStall s (shuStall n)).issue = [] →
    ∃ t, exec (.channelClear n c d) s = .next t ∧ getChan t n c = { getChan s n c with clearing := true, drop := d }
    ∧ (∀ m j, m ≠ n.val ∨ j ≠ c.val → getChan t m j = getChan s m j) ∧ Touches [.shu] s t)
  ∧ (∀ (n : Fin 96) (c : Fin 8) (d : Bool) (s : State), (getChan s n c).bindW = true → (getStall s (shuStall n)).state ≠ .stopped →
    ∃ t, exec (.channelClear n c d) s = .next t ∧ getF t Fld.SHU_ERR_CFG_REFUSED n = 1
    ∧ Only rdReg [Reg.SHU_ERR.addr n 0 0] s t ∧ Touches [.regs] s t)
  ∧ (∀ (n : Fin 96) (c : Fin 8) (s : State), (getChan s n c).clearing = true → (getChan s n c).outstanding = 0 →
    (getChan s n c).shadow = none ∨ (getChan s n c).drop = true → ∃ t, exec (.channelClearComplete n c) s = .next t
    ∧ (getChan t n c).state = .idle ∧ (getChan t n c).run = none ∧ (getChan t n c).shadow = none ∧ (getChan t n c).clearing = false
    ∧ (getChan t n c).hcause = 0 ∧ (getChan t n c).bindW = false ∧ (getChan t n c).bindI = false ∧ (getChan t n c).bindD = false
    ∧ (getChan t n c).arms = (getChan s n c).arms ∧ Touches [.stall, .shu, .sid] s t)

/-- R55, R169, R170, R189: STOP of a running shunter ends in STOPPED once nothing is outstanding; START refills the buckets of the three
classes to their depth; a class register is written from the bridleway while STOPPED and refused with event 0x4040 otherwise; a write of
SHU_SEED loads the generator. -/
def Obligations.ShunterCommands : Prop :=
  (∀ (n : Fin 96) (s : State), (getShu s n).state = .run → ∃ t, exec (.shunterStop n) s = .next t
        ∧ getShu t n = { getShu s n with state := .stopping }
    ∧ Only getShu [n.val] s t ∧ Touches [.shu] s t)
  ∧ (∀ (n : Fin 96) (s : State), (getShu s n).state = .stopping → (getShu s n).outstanding = 0 → ∃ t, exec (.shunterStopped n) s = .next t
    ∧ getShu t n = { getShu s n with state := .stopped } ∧ Only getShu [n.val] s t ∧ Touches [.shu] s t)
  ∧ (∀ (n : Fin 96) (s : State), (getShu s n).state = .stopped → ∃ t, exec (.shunterStart n) s = .next t ∧ (getShu t n).state = .run
    ∧ (∀ i : Fin 3, tokens (getShu t n) i = ((getF s Fld.SHU_CLASS_DEPTH n i * 1024 : Nat) : Int)) ∧ (getShu t n).chans = (getShu s n).chans
    ∧ (getShu t n).gen = (getShu s n).gen ∧ Only getShu [n.val] s t ∧ Touches [.shu] s t)
  ∧ (∀ (req : Requester) (n : Fin 96) (k : Fin 3) (v : W32) (s : State), req.bridle = true → ∃ t, exec (.shuClassWrite req n k v) s = .next t
    ∧ ((getShu s n).state = .stopped → rdReg t (Reg.SHU_CLASS.addr n k 0) = v.zeroExtend 64
      ∧ Only rdReg [Reg.SHU_CLASS.addr n k 0] s t ∧ Touches [.regs] s t)
    ∧ ((getShu s n).state ≠ .stopped → getF t Fld.SHU_ERR_CFG_REFUSED n = 1
      ∧ (∃ e, t.ev.inFlight = s.ev.inFlight ++ [e] ∧ e.code = 0x4040 ∧ e.unit = 0x200 + n.val ∧ e.detail = (getShu s n).state.code)
      ∧ Only rdReg [Reg.SHU_ERR.addr n 0 0] s t ∧ Touches [.regs, .ev] s t))
  ∧ (∀ (w : ShuAt) (v : W64) (s : State), ∃ t, exec (.seedWrite w v) s = .next t ∧ rdReg t (Reg.SHU_SEED.addr w.shu 0 0) = v
    ∧ getShu t w.shu = { getShu s w.shu with gen := seedLoad v } ∧ t.bus = (busForget s w.req (Reg.SHU_SEED.addr w.shu 0 0)).bus
    ∧ Only getShu [w.shu.val] s t ∧ Only rdReg [Reg.SHU_SEED.addr w.shu 0 0] s t ∧ Touches [.regs, .bus, .shu] s t)

/-- R157, R189 to R191: an M-cycle of a running shunter adds its tokens and wait times and issues up to two transfers, each of the channel
that the classes and the round robin pick while fewer than 512 are outstanding; the oldest read under way returns; an acknowledged
transfer leaves the list and its positions are done. The reads of a channel return, and its transfers are acknowledged, in walk order
(log entry 59). -/
def Obligations.TransferCommands : Prop :=
  (∀ (n : Fin 96) (m : Nat) (c count sn dn : Nat) (lead : Bool) (loc : Loc) (keys : List (Nat × Nat)) (r : Run) (s u : State),
    (getShu s n).state = .run → u = waitTimers (addTokens s n m) n m → (∀ c' < 8, ∀ a, chanNext u n c' ≠ .unreach a) →
    (getShu u n).outstanding < 512 → pickChan u n = some c → (getChan u n c).run = some r
        → chanNext u n c = .data count lead loc sn dn keys →
    ∃ t r' l, exec (.transferIssue n m) s = .next t ∧ (getChan t n c).run = some r' ∧ r.pos + count ≤ r'.pos
    ∧ r'.xfers = r.xfers ++ [⟨.data r.pos count lead, loc.addr, loc.len, false, (getShu u n).nextNo⟩] ++ l ∧ l.length ≤ 1
    ∧ (getShu u n).nextNo + 1 ≤ (getShu t n).nextNo ∧ (getShu t n).nextNo ≤ (getShu u n).nextNo + 2
    ∧ Only getShu [n.val] u t)
  ∧ (∀ (n : Fin 96) (m : Nat) (s : State), (getShu s n).state = .stopped → exec (.transferIssue n m) s = .next s)
  ∧ (∀ (n : Nat) (c : Nat) (s : State), (getShu (haltUnreached s n) n).outstanding < 512 → pickChan (haltUnreached s n) n = some c →
    nmGet (fun _ => 7) (getShu (issueOne s n) n).last (nextCls (haltUnreached s n) n c - 1) = c)
  ∧ (∀ (n : Fin 96) (c : Fin 8) (r : Run) (x : Xfer) (p k : Nat) (lead : Bool) (s : State), (getChan s n c).run = some r →
    r.xfers.find? (fun x => !x.returned) = some x → x.kind = .data p k lead → r.stopAt = none → xferReturns s n r x = true →
    r.d.srcKind = .drain ∨ inControl x.addr = true ∨ reachable s x.addr = true → ∃ t r', exec (.transferReadReturn n c) s = .next t
    ∧ (getChan t n c).run = some r' ∧ r'.conv = p + k ∧ r'.xfers = markXfer r.xfers ∧ r'.pos = r.pos ∧ r'.done = r.done ∧ r'.d = r.d
    ∧ (getChan t n c).state = (getChan s n c).state)
  ∧ (∀ (n : Fin 96) (c : Fin 8) (r : Run) (x : Xfer) (rest : List Xfer) (p k : Nat) (lead : Bool) (s : State), (getChan s n c).run = some r →
    r.xfers = x :: rest → mayAck s n c r x = true → x.kind = .data p k lead → r.d.dstKind ≠ .siding → rest ≠ [] →
    ∃ t, exec (.transferAck n c) s = .next t
    ∧ (getChan t n c).run = some { r with xfers := rest, done := max r.done (min (r.upTo p k) r.written) }
    ∧ getF t Fld.SHU_CH_DONE_POS n c = max r.done (min (r.upTo p k) r.written) % 2 ^ 48
    ∧ (∀ m j, m ≠ n.val ∨ j ≠ c.val → getChan t m j = getChan s m j) ∧ Touches [.regs, .shu] s t)
  ∧ (∀ (n : Fin 96) (c : Fin 8) (r : Run) (x : Xfer) (s : State), (getChan s n c).run = some r → r.xfers = [x] → mayAck s n c r x = true →
    (∀ p k lead, x.kind = .data p k lead → r.d.total ≤ min (r.upTo p k) r.written) → r.d.dstKind ≠ .siding → r.d.total ≤ r.pos →
    (∀ sl, x.kind = .lineWrite sl → r.d.total ≤ r.done) → (∀ a b e g, x.kind ≠ .line a b e g) → r.pendLW = [] → r.ready = [] →
    (getChan s n c).state = .active → (getChan s n c).clearing = false → (getChan s n c).halting = 0 → (getChan s n c).shadow = none →
    ∃ t, exec (.transferAck n c) s = .next t ∧ (getChan t n c).state = .idle ∧ (getChan t n c).run = none
    ∧ (getChan t n c).bindW = false ∧ (getChan t n c).bindI = false ∧ (getChan t n c).bindD = false
    ∧ (r.d.doneEn = true → t.sbxFlight = s.sbxFlight ++ [⟨if r.d.doneRemote then r.d.doneDie else shuDie n, r.d.doneSbx, r.d.doneInc⟩])
    ∧ (r.d.doneEn = false → t.sbxFlight = s.sbxFlight))

/-- R174 to R176, R500: a register publish of slots that are free raises FILL and SEQ, a release of filled slots lowers FILL and moves HEAD;
each sends its signal-box increment if enabled. A publish beyond the free slots publishes those and raises 0x4030. RESET and a changed
configuration register, from the bridleway with no channel bound, empty the siding. R177, R178: an increment that arrives, or a write of
SBX_INC, adds to its box modulo 2^32; a write of SBX_CNT sets it; no other box or register changes. -/
def Obligations.SidingsAndBoxes : Prop :=
  (∀ (d : Fin 4) (i : Fin 256) (n : Fin 128) (s : State), (getSid s d i).prod = none → n.val ≤ sidFree s d i → n ≠ 0 →
    ∃ t, exec (.sidPub d i n) s = .next t ∧ getSid t d i =
        { getSid s d i with fill := (getSid s d i).fill + n, seq := (getSid s d i).seq + n }
    ∧ t.sbxFlight = (if getF s Fld.SID_SBX_PUB_EN d i = 1 then s.sbxFlight ++ [⟨d, getF s Fld.SID_SBX_PUB_SBX d i, n⟩] else s.sbxFlight)
    ∧ (∀ (e : Fin 4) (j : Fin 256), e ≠ d ∨ j ≠ i → getSid t e j = getSid s e j) ∧ Touches [.sbxFlight, .sid] s t)
  ∧ (∀ (d : Fin 4) (i : Fin 256) (n : Fin 128) (s : State), (getSid s d i).prod = none → sidFree s d i < n.val →
    ∃ t, exec (.sidPub d i n) s = .next t
    ∧ getSid t d i = { getSid s d i with fill := (getSid s d i).fill + sidFree s d i, seq := (getSid s d i).seq + sidFree s d i }
    ∧ getF t Fld.SID_ERR_PUB_OVER d i = 1 ∧ (∃ e, t.ev.inFlight = s.ev.inFlight ++ [e] ∧ e.code = 0x4030)
    ∧ (∀ (e : Fin 4) (j : Fin 256), e ≠ d ∨ j ≠ i → getSid t e j = getSid s e j) ∧ Only rdReg [Reg.SID_ERR.addr d i 0] s t
        ∧ Touches [.regs, .ev, .sbxFlight, .sid] s t)
  ∧ (∀ (d : Fin 4) (i : Fin 256) (n : Fin 128) (s : State), (getSid s d i).cons = none → n.val ≤ (getSid s d i).fill → n ≠ 0
        → sidSlots s d i ≠ 0 →
    ∃ t, exec (.sidRel d i n) s = .next t
    ∧ getSid t d i = { getSid s d i with
        head := ((getSid s d i).head + n) % sidSlots s d i, fill := (getSid s d i).fill - n, held := (getSid s d i).held.drop n }
    ∧ t.sbxFlight = (if getF s Fld.SID_SBX_REL_EN d i = 1 then s.sbxFlight ++ [⟨d, getF s Fld.SID_SBX_REL_SBX d i, n⟩] else s.sbxFlight)
    ∧ (∀ (e : Fin 4) (j : Fin 256), e ≠ d ∨ j ≠ i → getSid t e j = getSid s e j) ∧ Touches [.sbxFlight, .sid] s t)
  ∧ (∀ (d : Fin 4) (i : Fin 256) (n : Fin 128) (s : State), (getSid s d i).prod ≠ none → ∃ t, exec (.sidPub d i n) s = .next t
    ∧ getSid t d i = getSid s d i ∧ getF t Fld.SID_ERR_PARTY d i = 1 ∧ (∃ e, t.ev.inFlight = s.ev.inFlight ++ [e] ∧ e.code = 0x4030)
    ∧ Only rdReg [Reg.SID_ERR.addr d i 0] s t ∧ Touches [.regs, .ev] s t)
  ∧ (∀ (req : Requester) (d : Fin 4) (i : Fin 256) (s : State), req.bridle = true → (getSid s d i).prod = none → (getSid s d i).cons = none →
    ∃ t, exec (.sidCtrlReset req d i) s = .next t ∧ getSid t d i =
        { getSid s d i with head := 0, fill := 0, seq := 0, resv := 0, held := [] }
    ∧ (∀ (e : Fin 4) (j : Fin 256), e ≠ d ∨ j ≠ i → getSid t e j = getSid s e j) ∧ Touches [.sid] s t)
  ∧ (∀ (req : Requester) (d : Fin 4) (i : Fin 256) (v : W64) (s : State), req.bridle = true → (getSid s d i).prod = none
        → (getSid s d i).cons = none →
    rdReg s (Reg.SID_BASE.addr d i 0) ≠ v &&& BitVec.ofNat 64 (Reg.SID_BASE.rw i) →
    ∃ t, exec (.sidingConfigWrite req d i .base v) s = .next t
    ∧ rdReg t (Reg.SID_BASE.addr d i 0) = v &&& BitVec.ofNat 64 (Reg.SID_BASE.rw i)
        ∧ getSid t d i = { getSid s d i with head := 0, fill := 0, seq := 0, resv := 0, held := [] }
    ∧ (∀ (e : Fin 4) (j : Fin 256), e ≠ d ∨ j ≠ i → getSid t e j = getSid s e j) ∧ Only rdReg [Reg.SID_BASE.addr d i 0] s t
        ∧ Touches [.regs, .bus, .sid] s t)
  ∧ (∀ (j : Nat) (x : SbxInc) (s : State), s.sbxFlight[j]? = some x → ∃ t, exec (.signalBoxIncrement j) s = .next t
    ∧ t.sbxFlight = s.sbxFlight.eraseIdx j ∧ getF t Fld.SBX_CNT_COUNT x.die x.box = (getF s Fld.SBX_CNT_COUNT x.die x.box + x.inc) % 2 ^ 32
    ∧ Only rdReg [Reg.SBX_CNT.addr x.die x.box 0] s t ∧ Touches [.sbxFlight, .regs] s t)
  ∧ (∀ (d : Fin 4) (b : Fin 1024) (v : W32) (s : State), ∃ t, exec (.sbxCntWrite d b v) s = .next t ∧ getF t Fld.SBX_CNT_COUNT d b = v.toNat
    ∧ Only rdReg [Reg.SBX_CNT.addr d b 0] s t ∧ Touches [.regs] s t)
  ∧ (∀ (d : Fin 4) (b : Fin 1024) (v : W32) (s : State), ∃ t, exec (.sbxIncWrite d b v) s = .next t
    ∧ getF t Fld.SBX_CNT_COUNT d b = (getF s Fld.SBX_CNT_COUNT d b + v.toNat) % 2 ^ 32
    ∧ Only rdReg [Reg.SBX_CNT.addr d b 0] s t ∧ Touches [.regs] s t)

/-- R179, R180, R185, R191, R192: an arm of a queue that is full sets FULL, an arm is counted in SEQ, and ends with STATUS 5 (ALIGN) where
it is misaligned, with 12 where its descriptor lies in no reachable manger of the stall's die, and with the status of the descriptor
otherwise, which is queued in order where it is 0; a complete tile enters the tile buffer while it holds fewer than two; the vectors of
the next queued operation are fetched while they fit in 1 MiB, where the input stream has positions left for them (log entry 69); two
channels that wait for each other past the window both halt with cause 2, one that is already stopping for another cause keeping it (log
entry 230), with event 0x4020. -/
def Obligations.StallPorts : Prop :=
  (∀ (w : StallAt) (a : BitVec 48) (k : Nat) (m : MemRead) (s u : State), w.stall.val = k →
    u = busForget s w.req (Reg.SHU_TQ_ARM.addr (evenShu k) 0 0) → tqFull s k = false → a.toNat % 16 = 0 →
    shuDie (evenShu k) = a.toNat / 0x10000000 → reachable s a.toNat = true →
    memRead (setF (addF u Fld.SHU_TQ_STATUS_SEQ 1 (evenShu k)) Fld.SHU_TQ_STATUS_FULL 0 (evenShu k)) a.toNat 16 = m → m.failed = false →
    ∃ t, exec (.tqArm w a) s = .next t ∧ getF t Fld.SHU_TQ_STATUS_STATUS (evenShu k) = tileOpStatus m.s k m.bytes % 16
    ∧ getF t Fld.SHU_TQ_STATUS_FULL (evenShu k) = getF m.s Fld.SHU_TQ_STATUS_FULL (evenShu k)
    ∧ getF t Fld.SHU_TQ_STATUS_SEQ (evenShu k) = getF m.s Fld.SHU_TQ_STATUS_SEQ (evenShu k)
    ∧ (tileOpStatus m.s k m.bytes = 0 → (getStall t k).tq = (getStall s k).tq ++
        [{ id := (getStall s k).nextId, d := parseTileOp m.bytes }])
    ∧ (tileOpStatus m.s k m.bytes ≠ 0 → getStall t k = getStall s k))
  ∧ (∀ (k : Nat) (bs : List Nat) (s : State), tileOpStatus s k bs = 0 → (getStall (queueTileOp s k bs).1 k).tq
    = (getStall s k).tq ++ [{ id := (getStall s k).nextId, d := parseTileOp bs }] ∧ (queueTileOp s k bs).2 = 0
    ∧ Only getStall [k] s (queueTileOp s k bs).1 ∧ Touches [.stall] s (queueTileOp s k bs).1)
  ∧ (∀ (w : StallAt) (a : BitVec 48) (k : Nat) (s : State), w.stall.val = k → tqFull s k = true → ∃ t, exec (.tqArm w a) s = .next t
    ∧ getF t Fld.SHU_TQ_STATUS_FULL (evenShu k) = 1
    ∧ getF t Fld.SHU_TQ_STATUS_SEQ (evenShu k) = (getF s Fld.SHU_TQ_STATUS_SEQ (evenShu k) + 1) % 256
    ∧ Only rdReg [Reg.SHU_TQ_STATUS.addr (evenShu k) 0 0] s t ∧ Touches [.regs, .bus] s t)
  ∧ (∀ (w : StallAt) (a : BitVec 48) (k : Nat) (s : State), w.stall.val = k → tqFull s k = false → a.toNat % 16 ≠ 0 →
    ∃ t, exec (.tqArm w a) s = .next t ∧ getF t Fld.SHU_TQ_STATUS_STATUS (evenShu k) = 5 ∧ getF t Fld.SHU_TQ_STATUS_FULL (evenShu k) = 0
    ∧ getF t Fld.SHU_TQ_STATUS_SEQ (evenShu k) = (getF s Fld.SHU_TQ_STATUS_SEQ (evenShu k) + 1) % 256
    ∧ Only rdReg [Reg.SHU_TQ_STATUS.addr (evenShu k) 0 0] s t ∧ Touches [.regs, .bus] s t)
  ∧ (∀ (w : StallAt) (a : BitVec 48) (k : Nat) (s : State), w.stall.val = k → tqFull s k = false → a.toNat % 16 = 0 →
    shuDie (evenShu k) ≠ a.toNat / 0x10000000 ∨ reachable s a.toNat = false →
    ∃ t, exec (.tqArm w a) s = .next t ∧ getF t Fld.SHU_TQ_STATUS_STATUS (evenShu k) = 12 ∧ getF t Fld.SHU_TQ_STATUS_FULL (evenShu k) = 0
    ∧ Only rdReg [Reg.SHU_TQ_STATUS.addr (evenShu k) 0 0] s t ∧ Touches [.regs, .bus] s t)
  ∧ (∀ (k : Fin 16) (c : Nat) (r : Run) (tl : Tile) (rest : List Tile) (s : State), portChan s k .weight = some c →
    (getChan s (evenShu k) c).run = some r → r.ready = tl :: rest → (getStall s k).buffer.length < 2
        → ∃ t, exec (.tileBufferEntry k) s = .next t
    ∧ getStall t k = { getStall s k with buffer := (getStall s k).buffer ++ [tl], tilesIn := (getStall s k).tilesIn + 1 }
    ∧ getChan t (evenShu k) c = { getChan s (evenShu k) c with run := some { r with ready := rest, entered := r.entered + 1 } }
    ∧ Only getStall [k.val] s t ∧ Only getShu [evenShu k] s t ∧ Touches [.stall, .shu] s t)
  ∧ (∀ (k : Fin 16) (c : Nat) (q : QOp) (rest : List QOp) (r : Run) (s : State), (getStall s k).toFetch = q :: rest
        → portChan s k .input = some c →
    (getChan s (oddShu k) c).run = some r → r.d.dstKind = .input → (getChan s (oddShu k) c).state = .active →
    (getChan s (oddShu k) c).halting = 0 → (getChan s (oddShu k) c).clearing = false → (getShu s (oddShu k)).state = .run →
    q.d.waitEn = false ∨ sbxReached s (stallDie k) q.d.waitSbx q.d.waitValue = true → r.pos + (getStall s k).inGrant < r.d.total →
    ((getStall s k).fetches.map (·.bytes)).foldl (· + ·) 0 + (q.d.vcnt + 1) * (if q.d.xfmt = 0 then 64 else 128) ≤ 1048576 →
    ∃ t, exec (.inputVectorFetch k) s = .next t ∧ (getStall t k).toFetch = rest
    ∧ (getStall t k).fetches = (getStall s k).fetches ++
        [{ id := q.id, need := q.d.vcnt + 1, bytes := (q.d.vcnt + 1) * (if q.d.xfmt = 0 then 64 else 128) }]
    ∧ (getStall t k).inGrant = (getStall s k).inGrant + 128 * (q.d.vcnt + 1) ∧ Only getStall [k.val] s t ∧ Touches [.stall] s t)
  ∧ (∀ (n : Fin 96) (c : Fin 8) (sa sb : Nat) (pa pb : Bool) (n2 c2 : Nat) (s : State), chanNext s n c = .waitSid sa pa →
    (getChan s n c).waitOn = some (sa, pa) → deadlockWindow s (shuDie n) ≤ (getChan s n c).waitCnt →
    sidParty s (shuDie n) sa pa = some (n2, c2) → chanNext s n2 c2 = .waitSid sb pb → sidParty s (shuDie n) sb pb = some (n.val, c.val) →
    (getChan s n c).halting = 0 ∨ (getChan s n2 c2).halting = 0 → ∃ t, exec (.sidingDeadlock n c) s = .next t
    ∧ getChan t n c = { getChan s n c with halting := if (getChan s n c).halting = 0 then 2 else (getChan s n c).halting }
    ∧ getChan t n2 c2 = { getChan s n2 c2 with halting := if (getChan s n2 c2).halting = 0 then 2 else (getChan s n2 c2).halting }
    ∧ (∀ m j, m ≠ n.val ∨ j ≠ c.val → m ≠ n2 ∨ j ≠ c2 → getChan t m j = getChan s m j)
    ∧ (∃ e, t.ev.inFlight = s.ev.inFlight ++ [e] ∧ e.code = 0x4020) ∧ Touches [.shu, .ev] s t)

/-- R199, R205, R206, R209: a request inside one 512-byte window of a READY unit joins the controllers' queue, one outside the map is
answered as unreachable; the oldest of its class departs with the data read; an idle bank and a refreshed target close their rows. -/
def Obligations.MemoryRequests : Prop :=
  (∀ (a : BitVec 48) (k : MemReqKind) (c : Fin 4) (tr : Bool) (n : Nat) (s : State), regionAt a.toNat = .hbm n
        → reachable s a.toNat = true →
    reqBursts a.toNat k ≠ 0 → ∃ t, exec (.memoryRequest a k c tr) s = .next t
    ∧ t.tier.queue = s.tier.queue ++ [{ addr := a.toNat, cls := c, kind := k, tRef := tr }]
    ∧ getF t Fld.HBM_REFCOLL_COUNT n = min (2 ^ 32 - 1) (getF s Fld.HBM_REFCOLL_COUNT n + if tr then 1 else 0)
    ∧ Only rdReg [Reg.HBM_REFCOLL.addr n 0 0] s t ∧ Touches [.regs, .tier] s t)
  ∧ (∀ (a : BitVec 48) (k : MemReqKind) (c : Fin 4) (tr : Bool) (s : State), regionAt a.toNat = .outside
        → ∃ t, exec (.memoryRequest a k c tr) s = .next t
    ∧ t.tier.reply = .unreachable ∧ t.tier.queue = s.tier.queue ∧ Touches [.tier] s t)
  ∧ (∀ (j : Nat) (q : MemReq) (n : Nat) (m : MemRead) (s : State), s.tier.queue[j]? = some q → q.kind = .read n →
    (∀ y ∈ s.tier.queue.take j, y.cls ≠ q.cls) → inTurn s q = true → s.integ.lost = [] →
    readAt (serveLane { s with tier := { s.tier with queue := s.tier.queue.eraseIdx j } } q) q.addr (64 * n) = m →
    ∃ t, exec (.memoryRequestComplete j) s = .next t
    ∧ (m.failed = false → t.tier.reply = .data m.bytes ∧ t.tier.queue = s.tier.queue.eraseIdx j ∧ t.mem = m.s.mem)
    ∧ (m.failed = true → t.tier.reply = .uncorrectable))
  ∧ (∀ (a : BitVec 48) (s : State), s.tier.queue.any (fun q => (bankAddr s q.addr).key == (bankAddr s a.toNat).key) = false →
    ∃ t, exec (.rowIdleClose a) s = .next t ∧ nmGet (fun _ => 0) t.tier.openRow (bankAddr s a.toNat).key = 0
    ∧ (∀ k, k ≠ (bankAddr s a.toNat).key → nmGet (fun _ => 0) t.tier.openRow k = nmGet (fun _ => 0) s.tier.openRow k)
    ∧ t.tier.queue = s.tier.queue ∧ Touches [.tier] s t)
  ∧ (∀ (a : BitVec 48) (s : State), ∃ t, exec (.dramRefresh a) s = .next t ∧ nmGet (fun _ => 0) t.tier.openRow (bankAddr s a.toNat).key = 0
    ∧ ((bankAddr s a.toNat).unit < 8 → ∀ k, k ≠ (bankAddr s a.toNat).key →
      nmGet (fun _ => 0) t.tier.openRow k = nmGet (fun _ => 0) s.tier.openRow k)
    ∧ (8 ≤ (bankAddr s a.toNat).unit → ∀ g < 8, nmGet (fun _ => 0) t.tier.openRow
      ({ bankAddr s a.toNat with bank := g + 8 * ((bankAddr s a.toNat).bank / 8) } : BankAddr).key = 0)
    ∧ t.tier.queue = s.tier.queue ∧ Touches [.tier] s t)

/-- R215, R228, R229: OFFLINE = 0 returns a trained OFFLINE unit to READY and OFFLINE = 1 takes one out; the fill of a region zeroes it and,
where no row fails, marks it passed and a training unit READY. OFFLINE = 1 takes a unit out of TRAINING too (log entry 76). -/
def Obligations.TierService : Prop :=
  (∀ (req : Requester) (u : Fin 20) (s : State), req.bridle = true → unitState s u = tierOffline → s.tier.trained.contains u.val = true →
    ∃ t, exec (.tierOfflineWrite req u false) s = .next t ∧ unitState t u = tierReady ∧ Touches [.regs] s t)
  ∧ (∀ (req : Requester) (u : Fin 20) (s : State), req.bridle = true → unitState s u = tierReady ∨ unitState s u = tierTraining →
    ∃ t, exec (.tierOfflineWrite req u true) s = .next t ∧ unitState t u = tierOffline ∧ (u.val < 8 → getF t Fld.HBM_CFG_OFFLINE u = 1)
    ∧ (8 ≤ u.val → getF t Fld.DDR_CFG_OFFLINE (u - 8) = 1))
  ∧ (∀ (d : Fin 4) (s : State), s.integ.fillDue.contains d.val = true → ∃ t, exec (.powerOnFill (d.castLE (by decide)) [] []) s = .next t
    ∧ (∀ a, inRegion d a = true → rawByte t a = 0 ∧ byteSynd t a = 0) ∧ (∀ a, inRegion d a = false → rawByte t a = rawByte s a)
    ∧ t.integ.filled = s.integ.filled ++ [d.val] ∧ t.integ.fillDue = s.integ.fillDue.filter (· != d.val)
    ∧ getF t Fld.ECC_FILLST_PASS = getF s Fld.ECC_FILLST_PASS ||| 2 ^ d.val ∧ Only rdReg [Reg.ECC_FILLST.addr 0 0 0] s t
    ∧ Touches [.regs, .mem, .integ] s t)
  ∧ (∀ (r : Fin 24) (s : State), 4 ≤ r.val → s.integ.fillDue.contains r.val = true → (s.integ.retired.filter (inRegion r)).length ≤ 1024 →
    unitState s (r - 4) = tierTraining → ∃ t, exec (.powerOnFill r [] []) s = .next t ∧ unitState t (r - 4) = tierReady
    ∧ (∀ a, inRegion r a = true → rawByte t a = 0 ∧ burstDev t a = 0) ∧ (∀ a, inRegion r a = false → rawByte t a = rawByte s a)
    ∧ t.integ.filled = s.integ.filled ++ [r.val] ∧ lapStart t r = some s.time ∧ Touches [.regs, .mem, .integ] s t)

/-- R230 to R232: an enabled groom reads its next window as a groom read and moves on; a write-back repairs a byte that still reads
corrected, a poison write stores poison; a lap past its limit raises 0x3006 once; the enable register starts the laps of the tiers it
enables. -/
def Obligations.Grooming : Prop :=
  (∀ (g : Fin 276) (s u : State), groomEnabled s (groomRegion g) = true → (lapStart s (groomRegion g)).isSome = true
        → groomSkips s g = false →
    groomAt s g < groomWindows s (groomRegion g) → bankIdle s (groomAddr g (groomAt s g)) = true →
    u = (memRead s (groomAddr g (groomAt s g)) 512 true).s → groomSkips u g = false → groomAt s g + 1 < groomWindows u (groomRegion g) →
    ∃ t, exec (.groomRead g) s = .next t ∧ groomAt t g = groomAt s g + 1 ∧ (∀ j, j ≠ g.val → groomAt t j = groomAt u j)
    ∧ t.mem = u.mem ∧ Touches [.integ] u t)
  ∧ (∀ (g : Fin 276) (s u : State), groomEnabled s (groomRegion g) = true → (lapStart s (groomRegion g)).isSome = true
        → groomSkips s g = false →
    groomAt s g < groomWindows s (groomRegion g) → bankIdle s (groomAddr g (groomAt s g)) = true →
    u = (memRead s (groomAddr g (groomAt s g)) 512 true).s → groomAt s g + 1 = groomWindows u (groomRegion g) →
    (∀ j ∈ regionGrooms (groomRegion g), j ≠ g.val → groomWindows u (groomRegion g) ≤ groomAt u j) →
    ∃ t, exec (.groomRead g) s = .next t ∧ (∀ j ∈ regionGrooms (groomRegion g), groomAt t j = 0)
    ∧ getF t Fld.GRM_LAP_MS 0 (groomRegion g) = lapMs u (groomRegion g) ∧ lapStart t (groomRegion g) = some u.time ∧ t.mem = u.mem
    ∧ Touches [.regs, .integ] u t)
  ∧ (∀ (j a d b : Nat) (s : State), s.mem.pendFix[j]? = some a → reachable s a = true → regionAt a = .manger d b → (guardByte s a).2 = 1 →
    ∃ t, exec (.groomWriteBack j) s = .next t ∧ rawByte t a = (guardByte s a).1 ∧ byteSynd t a = 0
    ∧ (∀ x, x ≠ a → rawByte t x = rawByte s x ∧ byteSynd t x = byteSynd s x) ∧ t.mem.pendFix.contains a = false ∧ Touches [.mem] s t)
  ∧ (∀ (j a d b : Nat) (s : State), s.mem.pendPoison[j]? = some a → reachable s a = true → regionAt a = .manger d b →
    ∃ t, exec (.poisonWrite j) s = .next t ∧ (guardByte t a).2 = 2 ∧ t.mem.pendPoison.contains a = false
    ∧ (∀ x, x ≠ a → rawByte t x = rawByte s x ∧ byteSynd t x = byteSynd s x) ∧ Touches [.mem] s t)
  ∧ (∀ (j a n : Nat) (s : State), s.mem.pendPoison[j]? = some a → reachable s a = true → bankIdle s a = true → regionAt a = .hbm n →
    ∃ t, exec (.poisonWrite j) s = .next t ∧ (lineBurst t .hbm a).2.1 = 2 ∧ t.mem.pendPoison.contains a = false
    ∧ (∀ x, x < a ∨ a + 64 ≤ x → rawByte t x = rawByte s x) ∧ (∀ x, x ≠ a → burstDev t x = burstDev s x)
    ∧ getF t Fld.HBM_WRBYTES_COUNT n = (getF s Fld.HBM_WRBYTES_COUNT n + 64) % 2 ^ 64 ∧ Touches [.regs, .mem, .tier] s t)
  ∧ (∀ (r : Fin 24) (s : State), groomEnabled s r = true → lapMax s r ≤ lapMs s r → s.integ.lapAlarmed.contains r.val = false →
    ∃ t, exec (.groomLapAlarm r) s = .next t ∧ t.integ.lapAlarmed = s.integ.lapAlarmed ++ [r.val]
    ∧ getF t Fld.GRM_ALARM_ALARM = getF s Fld.GRM_ALARM_ALARM ||| 2 ^ r.val ∧ (∃ e, t.ev.inFlight = s.ev.inFlight ++ [e] ∧ e.code = 0x3006)
    ∧ Only rdReg [Reg.GRM_ALARM.addr 0 0 0] s t ∧ Touches [.regs, .ev, .integ] s t)
  ∧ (∀ (req : Requester) (v : W32) (s : State), req.bridle = true → ∃ t, exec (.groomEnableWrite req v) s = .next t
    ∧ rdReg t (Reg.GRM_CTRL.addr 0 0 0) = BitVec.ofNat 64 (v.toNat % 8)
    ∧ (∀ r : Fin 24, groomEnabled s r = false → groomEnabled t r = true → (lapStart s r).isSome = true → lapStart t r = some s.time)
    ∧ Only rdReg [Reg.GRM_CTRL.addr 0 0 0] s t ∧ Touches [.regs, .integ] s t)

/-- R234, R237, R241, R242: a soft repair asked for is copied and ends with RES 0 and its row mapped; a handling state ends when its period
ends or by the register; ARM latches the flip registers, DISARM drops them; ARM takes the registers as they then stand (log entry 75);
the operations hold is released. The event 0x3003 of a repair by register is the model's reading. -/
def Obligations.RepairsAndFlips : Prop :=
  (∀ (req : Requester) (d : Fin 4) (b : Fin 64) (row : Fin 8192) (s : State), req.bridle = true → getF s Fld.MGR_REPST_RES d = 0 →
    bitOf (getF s Fld.MGR_OFFLINE_OFF d) b = false → softRow s d b row = false → softLeft s d b ≠ 0 →
    ∃ t, exec (.mgrSoftrep req d b row) s = .next t ∧ getF t Fld.MGR_REPST_RES d = 1
    ∧ t.integ.copies = s.integ.copies ++ [⟨d, b, row, true⟩] ∧ Only rdReg [Reg.MGR_REPST.addr d 0 0] s t ∧ Touches [.regs, .integ] s t)
  ∧ (∀ (d : Fin 4) (b : Fin 64) (c : RepairCopy) (s : State), s.integ.copies.find? (fun c => c.die == d.val && c.bank == b.val) = some c →
    bitOf (getF s Fld.MGR_OFFLINE_OFF d) b = false → softRow s d b c.row = false → getF s Fld.MGR_SPARE_SROWS d b < 4 → c.row < 8192 →
    c.byReg = true → nmGet (fun _ => 0) s.integ.softHeld d = 0 → ∃ t, exec (.softRepairCopy d b) s = .next t
    ∧ softRow t d b c.row = true ∧ getF t Fld.MGR_SPARE_SROWS d b = getF s Fld.MGR_SPARE_SROWS d b + 1
    ∧ getF t Fld.MGR_REPST_RES d = 0 ∧ getF t Fld.MGR_REPST_SEQ d = (getF s Fld.MGR_REPST_SEQ d + 1) % 2 ^ Fld.MGR_REPST_SEQ.len
    ∧ t.integ.copies = s.integ.copies.erase c ∧ (∃ e, t.ev.inFlight = s.ev.inFlight ++ [e] ∧ e.code = 0x3003)
    ∧ (∀ x, x < rowBase d b c.row ∨ rowBase d b c.row + 512 ≤ x → rawByte t x = rawByte s x ∧ byteSynd t x = byteSynd s x))
  ∧ (∀ (r : Fin 24) (b : Fin 64) (s : State), r.val < 4 → handling s (regionOf r b) = true → handlingOver s (regionOf r b) = true
        → ∃ t, exec (.handlingPeriodEnd r b) s = .next t
    ∧ handling t (regionOf r b) = false ∧ nmGet (fun _ => 0) t.integ.firstRow (64 * r + b) = 0
    ∧ Only rdReg [Reg.MGR_HND.addr r 0 0] s t ∧ Touches [.regs, .integ] s t)
  ∧ (∀ (req : Requester) (r : Fin 24) (s : State), req.bridle = true → 4 ≤ r.val → handling s (regionOf r 0) = true →
    ∃ t, exec (.hndWrite req r 1) s = .next t ∧ handling t (regionOf r 0) = false ∧ Only rdReg [Reg.ECC_HND.addr (r - 4) 0 0] s t
    ∧ Touches [.regs, .bus] s t)
  ∧ (∀ (req : Requester) (s : State), req.bridle = true → ∃ t, exec (.flipArm req) s = .next t ∧ getF t Fld.ECC_FLIP_STATUS_ARMED = 1
    ∧ t.integ.flip = some ⟨getF s Fld.ECC_FLIP_ADDR_ADDR, getF s Fld.ECC_FLIP_DATA_MASK, getF s Fld.ECC_FLIP_DATA_SYM,
    getF s Fld.ECC_FLIP_XOR_XOR⟩
    ∧ Only rdReg [Reg.ECC_FLIP_STATUS.addr 0 0 0] s t ∧ Touches [.regs, .integ] s t)
  ∧ (∀ (req : Requester) (s : State), req.bridle = true → ∃ t, exec (.flipDisarm req) s = .next t ∧ getF t Fld.ECC_FLIP_STATUS_ARMED = 0
    ∧ t.integ.flip = none ∧ Only rdReg [Reg.ECC_FLIP_STATUS.addr 0 0 0] s t ∧ Touches [.regs, .integ] s t)
  ∧ (∀ (req : Requester) (s : State), req.bridle = true → ∃ t, exec (.oholdRelease req) s = .next t ∧ getF t Fld.ECC_OHOLD_HOLD = 0
    ∧ Only rdReg [Reg.ECC_OHOLD.addr 0 0 0] s t ∧ Touches [.regs] s t)

/-- R152, R218, R219: with no flip armed a written byte reads as written and good, whatever error or poison stood there, every other byte of
memory and its check bits stay as they were, and so does every other component of the state. -/
def Obligations.MangerBytes : Prop :=
  (∀ (a d b v : Nat) (s : State), regionAt a = .manger d b → s.integ.flip = none → s.integ.lost = [] → v < 256 →
    guardByte (memWriteBytes s a [v]).1 a = (v, 0)
    ∧ (∀ x, x ≠ a → rawByte (memWriteBytes s a [v]).1 x = rawByte s x ∧ byteSynd (memWriteBytes s a [v]).1 x = byteSynd s x)
    ∧ (memWriteBytes s a [v]).2 = false ∧ Touches [.mem] s (memWriteBytes s a [v]).1)
  ∧ (∀ (a d b : Nat) (bs : List Nat) (s : State), regionAt a = .manger d b → s.integ.flip = none → s.integ.lost = [] →
    (∀ i, i < bs.length → rawByte (memWriteBytes s a bs).1 (a + i) = bs.getD i 0 % 256)
    ∧ (∀ x, x < a ∨ a + bs.length ≤ x → rawByte (memWriteBytes s a bs).1 x = rawByte s x) ∧ Touches [.mem] s (memWriteBytes s a bs).1)
  ∧ (∀ (a d b n : Nat) (g : Bool) (s : State), regionAt a = .manger d b → s.integ.lost = []
        → (memRead s a n g).bytes = (List.range n).map (fun i => (guardByte s (a + i)).1)
    ∧ (memRead s a n g).s.mem.bytes = s.mem.bytes ∧ (memRead s a n g).s.mem.synd = s.mem.synd)

/-- R221, R225: with no flip armed, 64 bytes written at a burst address read back good; a masked write of a burst that reads uncorrectable
or poisoned while its region is not in its handling state changes no byte; every byte outside the burst stays as it was. -/
def Obligations.BurstWrites : Prop :=
  (∀ (a n : Nat) (bs : List Nat) (s : State), regionAt a = .hbm n → a % 64 = 0 → bs.length = 64 → (∀ x ∈ bs, x < 256)
        → s.integ.flip = none → s.integ.lost = [] →
    lineBurst (memWriteBytes s a bs).1 .hbm a = (bs, 0, .ok)
    ∧ (∀ x, x < a ∨ a + 64 ≤ x → rawByte (memWriteBytes s a bs).1 x = rawByte s x)
    ∧ (∀ x, x ≠ a → burstDev (memWriteBytes s a bs).1 x = burstDev s x) ∧ (memWriteBytes s a bs).2 = false
    ∧ Touches [.freeCtr, .mem, .regs, .tier] s (memWriteBytes s a bs).1)
  ∧ (∀ (r : Region) (a : Nat) (vs : List (Option Nat)) (s : State), vs.length = 64 → vs.all (·.isSome) = false → vs.all (·.isNone) = false →
    (readBursts s r a 1 false).failed = true → handling s r = false → (writePartial s r a vs).2 = true
        ∧ (writePartial s r a vs).1.mem.bytes = s.mem.bytes
    ∧ (writePartial s r a vs).1.mem.dev = s.mem.dev)

/-- R218, R219, Table 8.2: each of the eight data bits has a syndrome that names it, each check bit is corrected, and no two of the thirteen
stored bits in error give a syndrome that is good or corrected. -/
def Obligations.GuardCode : Prop :=
  (∀ i : Fin 8, guardAct (guardData.getD i 0) = .fixData i)
  ∧ (∀ i : Fin 5, guardAct (2 ^ i.val) = .fixCheck)
  ∧ (∀ i j : Fin 13, i < j → (guardAct ((guardData ++ [1, 2, 4, 8, 16]).getD i 0 ^^^ (guardData ++ [1, 2, 4, 8, 16]).getD j 0) = .bad))

/-- R254, R260, R261: a write of LFT_BAYx_SET moves a bay as Table 9.5 allows; a count is raised while ACTIVE, and a DRAINING bay that
reaches 0 empties with 0x5006. R249, R252, R264, R266: a staged chunk whose bytes are sound and hash to its digest is copied; a build in
which no chunk arrives in time fails with cause 10; migration moves the next DDR5 band and ends with 0x5009. Where a band goes is a free
choice of firmware (log entry 18), and SHA-384 is opaque (log entry 19). A staged chunk that cannot be read back ends its command with
DATA_ERROR or UNREACHABLE (log entry 248). -/
def Obligations.BaysAndBuilds : Prop :=
  (∀ (req : Requester) (y : Fin 2) (s : State), req.bridle = true → bayState s y = 0 → bayState s (1 - y) ≠ 1 →
    ∃ t, exec (.baySet req y 1) s = .next t ∧ bayState t y = 1 ∧ getF t Fld.LFT_BUILD_BAY = y ∧ getF t Fld.LFT_BUILD_BUSY = 1
    ∧ Only rdReg [Reg.LFT_BAY_STATUS.addr 0 y 0, Reg.LFT_BUILD.addr 0 0 0] s t ∧ Touches [.regs] s t)
  ∧ (∀ (req : Requester) (y : Fin 2) (s : State), req.bridle = true → bayState s y = 2 →
    ∃ t, exec (.baySet req y 0) s = .next t ∧ bayState t y = 0 ∧ getBay t y = {} ∧ Only getBay [y.val] s t
    ∧ getF t Fld.LFT_BAY_HBM_BYTES 0 y = 0 ∧ getF t Fld.LFT_BAY_DDR_BYTES 0 y = 0 ∧ getF t Fld.LFT_BAY_VERSION_VERSION 0 y = 0
    ∧ Only rdReg [Reg.LFT_BAY_STATUS.addr 0 y 0, Reg.LFT_BAY_HBM.addr 0 y 0, Reg.LFT_BAY_DDR.addr 0 y 0, Reg.LFT_BAY_VERSION.addr 0 y 0] s
        t ∧ Touches [.regs, .loft] s t)
  ∧ (∀ (req : Requester) (y : Fin 2) (n : W16) (s : State), req.bridle = true → bayState s y = 3 → n ≠ 0 →
    ∃ t, exec (.refopIncrement req y n) s = .next t
    ∧ getF t Fld.LFT_BAY_REFS_REFS 0 y = (getF s Fld.LFT_BAY_REFS_REFS 0 y + n.toNat) % 2 ^ 32
    ∧ Only rdReg [Reg.LFT_BAY_REFS.addr 0 y 0] s t ∧ Touches [.regs] s t)
  ∧ (∀ (req : Requester) (y : Fin 2) (n : W16) (s : State), req.bridle = true → n ≠ 0 → n.toNat ≤ getF s Fld.LFT_BAY_REFS_REFS 0 y →
    (bayState s y ≠ 4 ∨ n.toNat < getF s Fld.LFT_BAY_REFS_REFS 0 y → ∃ t, exec (.refopDecrement req y n) s = .next t
    ∧ getF t Fld.LFT_BAY_REFS_REFS 0 y = getF s Fld.LFT_BAY_REFS_REFS 0 y - n.toNat ∧ Only rdReg [Reg.LFT_BAY_REFS.addr 0 y 0] s t
    ∧ Touches [.regs] s t)
    ∧ (bayState s y = 4 → n.toNat = getF s Fld.LFT_BAY_REFS_REFS 0 y → ∃ t, exec (.refopDecrement req y n) s = .next t
    ∧ bayState t y = 0 ∧ getBay t y = {} ∧ getF t Fld.LFT_BAY_REFS_REFS 0 y = 0 ∧ (∃ e, t.ev.inFlight = s.ev.inFlight ++ [e]
        ∧ e.code = 0x5006)
    ∧ Touches [.regs, .ev, .loft] s t))
  ∧ (∀ (c : Nat) (x : StagedChunk) (set : LoftSet) (k : ChunkRec) (s u v : State),
    s.loft.staged.find? (fun x => x.chunk == c && x.repair == true && x.complete) = some x → (getBay s x.bay).set = some set →
    set.chunks[x.chunk]? = some k → u = (readRange s x.addr k.bytes).1 →
    v = { u with loft := { u.loft with staged := u.loft.staged.erase x } } → (readRange s x.addr k.bytes).2.2 = false →
    Config.sha384 (readRange s x.addr k.bytes).2.1 = k.digest → chunkGoes s k set.bands = true
        → ∃ t w, exec (.chunkDigestCheck c true) s = .next t
    ∧ w = copyChunk v x.addr k set.bands ∧ t.mem = w.mem ∧ t.regs = w.regs ∧ nmGet (fun _ => 0) t.loft.repMism (repairChunk x) = 0
    ∧ (∀ ch id q, x.waiter = some (ch, id) → (getHost w ch).cmds.find? (fun q => q.id == id && q.ended.isNone) = some q → q.id = id →
      CmdEnded t ch id 0 (resultOf [(16, 0), (17, 0)])))
  ∧ (∀ (c bad : Nat) (x : StagedChunk) (set : LoftSet) (k : ChunkRec) (s u v : State),
    s.loft.staged.find? (fun x => x.chunk == c && x.repair == true && x.complete) = some x → (getBay s x.bay).set = some set →
    set.chunks[x.chunk]? = some k → u = (readRange s x.addr k.bytes).1 →
    v = { u with loft := { u.loft with staged := u.loft.staged.erase x } } →
    bad = (if reachable s x.addr = false then 0x000B else if (readRange s x.addr k.bytes).2.2 = true then 0x0008 else 0x0009) →
    (readRange s x.addr k.bytes).2.2 = true ∨ Config.sha384 (readRange s x.addr k.bytes).2.1 ≠ k.digest
        → ∃ t, exec (.chunkDigestCheck c true) s = .next t
    ∧ nmGet (fun _ => 0) t.loft.repMism (repairChunk x) = mismatches v x + 1 ∧ t.mem = u.mem
    ∧ (∃ e, t.ev.inFlight = u.ev.inFlight ++ [e] ∧ e.code = 0x5004
      ∧ e.detail = packDetail [(0, x.bay), (1, min (mismatches v x + 1) 3), (32, x.chunk)])
    ∧ (∀ ch id q, x.waiter = some (ch, id) → (getHost u ch).cmds.find? (fun q => q.id == id && q.ended.isNone) = some q →
      CmdEnded t ch id bad (resultOf [(16, if bad = 0x0009 then 9 else 0), (17, min (mismatches v x + 1) 255)])))
  ∧ (∀ (b : Build) (s : State), s.loft.build = some b → b.slot = none → b.bay < 2 → getF s Fld.LFT_BTIMEOUT_S ≠ 0 →
    ∃ t, exec .buildTimeout s = .next t ∧ t.loft.build = none ∧ bayState t b.bay = 0 ∧ getF t Fld.LFT_BUILD_BUSY = 0
    ∧ getF t Fld.LFT_BUILD_CAUSE = 10 ∧ (∃ e, t.ev.inFlight = s.ev.inFlight ++ [e] ∧ e.code = 0x5003) ∧ Touches [.regs, .ev, .loft] s t)
  ∧ (∀ (y : Nat) (s : State), activeBay s = some y → s.loft.migrating = false → (migrantPlace s y).isSome = true →
    ∃ t, exec .migrationStart s = .next t ∧ t.loft = { s.loft with migrating := true } ∧ Touches [.loft] s t)
  ∧ (∀ (y : Nat) (s : State), activeBay s = some y → s.loft.migrating = true → migrantPlace s y = none → ∃ t, exec .bandMigrated s = .next t
    ∧ t.loft = { s.loft with migrating := false } ∧ (∃ e, t.ev.inFlight = s.ev.inFlight ++ [e] ∧ e.code = 0x5009) ∧ Touches [.ev, .loft] s t)
  ∧ (∀ (y i a : Nat) (b : BandPlace) (s c e : State), activeBay s = some y → s.loft.migrating = true → migrantPlace s y = some (i, b, a) →
    rangeAccepts s b.addr b.bytes 3 = true → c = copyBursts s b.addr a (b.bytes / 64) → c.integ.lost = [] →
    e = writeEntry (putBay (drawn c) y
      { getBay c y with set := (getBay c y).set.map (fun x => { x with bands := listSet x.bands i { b with addr := a } }) }) y i
        { b with addr := a } →
    e.integ.lost = [] → ∃ t, exec .bandMigrated s = .next t ∧ t.loft.migrating = true
    ∧ (getBay t y).set = (getBay s y).set.map (fun x => { x with bands := listSet x.bands i { b with addr := a } }) ∧ t.mem = e.mem
    ∧ getF t Fld.LFT_BAY_HBM_BYTES 0 y = (getF s Fld.LFT_BAY_HBM_BYTES 0 y + b.bytes) % 2 ^ 64
    ∧ getF t Fld.LFT_BAY_DDR_BYTES 0 y = (getF s Fld.LFT_BAY_DDR_BYTES 0 y - b.bytes))

/-- R296, R298 to R300: START, STOP and CAL are kept for the next frame boundary; a self-calibration with means in range stores OFFSET and
GAIN; MON_SEQ and MON_CALF are written only while the converter is STOPPED, ACC_REF, ACC_PHASE and a legal ACC_CFG also while the
accumulator is OFF, and a write that only turns an accumulator OFF always is, with no latch; any other sets CFG_REFUSED and raises
0x7802; an ended period is latched into the result registers. No difference of the means, ties and 16-bit event fields are log entry 99,
the rounding of OFFSET is log entry 207, and that a write of ACC_CFG ends the period under way is log entry 96. -/
def Obligations.MonitorConverters : Prop :=
  (∀ (req : Requester) (m : Fin 48) (s : State), req.bridle = true → monState s m = monStopped
        → ∃ t, exec (.monitorStart req m) s = .next t
    ∧ getConv t m = { getConv s m with start := true } ∧ Only getConv [m.val] s t ∧ Touches [.mon] s t)
  ∧ (∀ (req : Requester) (m : Fin 48) (s : State), req.bridle = true → monState s m = monRun → ∃ t, exec (.monitorStop req m) s = .next t
    ∧ getConv t m = { getConv s m with stop := true, start := false } ∧ Only getConv [m.val] s t ∧ Touches [.mon] s t)
  ∧ (∀ (req : Requester) (m : Fin 48) (s : State), req.bridle = true → monState s m ≠ monCal → ∃ t, exec (.monitorCal req m) s = .next t
    ∧ getConv t m = { getConv s m with cal := true } ∧ Only getConv [m.val] s t ∧ Touches [.mon] s t)
  ∧ (∀ (m : Fin 48) (g r : Nat) (gain : Int) (s : State), monState s m = monCal → s.mon.calQueue = [] → s.sys.lightDue = none →
    calGain ((r : Int) - g) = some gain → calOffset g ≤ 512 → gain.natAbs ≤ 1311 → ∃ t, exec (.calibrationEnd m g r) s = .next t
    ∧ getF t Fld.MON_CALF_OFFSET m = calOffset g
    ∧ getF t Fld.MON_CALF_GAIN m = wrapTo 16 gain ∧ getF t Fld.MON_STATUS_CALBAD m = 0 ∧ monState t m = (getConv s m).back % 4
    ∧ Only rdReg [Reg.MON_STATUS.addr m 0 0, Reg.MON_CALF.addr m 0 0] s t ∧ Touches [.regs] s t)
  ∧ (∀ (req : Requester) (m : Fin 48) (k : Fin 400) (v : W32) (s : State), req.bridle = true
        → ∃ t, exec (.accConfigWrite req m (.seq k) v) s = .next t
    ∧ (monState s m = monStopped → rdReg t (Reg.MON_SEQ.addr m k 0) = BitVec.ofNat 64 (v.toNat % 2 ^ 16)
      ∧ Only rdReg [Reg.MON_SEQ.addr m k 0] s t ∧ Touches [.regs] s t)
    ∧ (monState s m ≠ monStopped → getF t Fld.MON_ERR_CFG_REFUSED m = 1 ∧ (∃ e, t.ev.inFlight = s.ev.inFlight ++ [e] ∧ e.code = 0x7802)
      ∧ Only rdReg [Reg.MON_ERR.addr m 0 0] s t ∧ Touches [.regs, .ev] s t))
  ∧ (∀ (req : Requester) (m : Fin 48) (v : W32) (s : State), req.bridle = true → ∃ t, exec (.accConfigWrite req m .calf v) s = .next t
    ∧ (monState s m = monStopped → rdReg t (Reg.MON_CALF.addr m 0 0) = BitVec.ofNat 64 (v.toNat % 2 ^ 32)
      ∧ Only rdReg [Reg.MON_CALF.addr m 0 0] s t ∧ Touches [.regs] s t)
    ∧ (¬ (monState s m = monStopped) → getF t Fld.MON_ERR_CFG_REFUSED m = 1 ∧ (∃ e, t.ev.inFlight = s.ev.inFlight ++ [e] ∧ e.code = 0x7802)
      ∧ Only rdReg [Reg.MON_ERR.addr m 0 0] s t ∧ Touches [.regs, .ev] s t))
  ∧ (∀ (req : Requester) (m : Fin 48) (a : Fin 128) (v : W32) (s : State), req.bridle = true
        → ∃ t, exec (.accConfigWrite req m (.ref a) v) s = .next t
    ∧ ((monState s m = monStopped ∨ getF s Fld.ACC_CFG_RUN m a = 0) → rdReg t (Reg.ACC_REF.addr m a 0) = BitVec.ofNat 64 (v.toNat % 2 ^ 20)
      ∧ Only rdReg [Reg.ACC_REF.addr m a 0] s t ∧ Touches [.regs] s t)
    ∧ (¬ (monState s m = monStopped ∨ getF s Fld.ACC_CFG_RUN m a = 0) → getF t Fld.MON_ERR_CFG_REFUSED m = 1
        ∧ (∃ e, t.ev.inFlight = s.ev.inFlight ++ [e] ∧ e.code = 0x7802)
      ∧ Only rdReg [Reg.MON_ERR.addr m 0 0] s t ∧ Touches [.regs, .ev] s t))
  ∧ (∀ (req : Requester) (m : Fin 48) (a : Fin 128) (v : W32) (s : State), req.bridle = true
        → ∃ t, exec (.accConfigWrite req m (.phase a) v) s = .next t
    ∧ ((monState s m = monStopped ∨ getF s Fld.ACC_CFG_RUN m a = 0)
        → rdReg t (Reg.ACC_PHASE.addr m a 0) = BitVec.ofNat 64 (v.toNat % 2 ^ 21)
      ∧ Only rdReg [Reg.ACC_PHASE.addr m a 0] s t ∧ Touches [.regs] s t)
    ∧ (¬ (monState s m = monStopped ∨ getF s Fld.ACC_CFG_RUN m a = 0) → getF t Fld.MON_ERR_CFG_REFUSED m = 1
        ∧ (∃ e, t.ev.inFlight = s.ev.inFlight ++ [e] ∧ e.code = 0x7802)
      ∧ Only rdReg [Reg.MON_ERR.addr m 0 0] s t ∧ Touches [.regs, .ev] s t))
  ∧ (∀ (req : Requester) (m : Fin 48) (a : Fin 128) (v : W32) (s : State), req.bridle = true →
    v.toNat % 4 ≠ 3 → v.toNat / 4 % 4 ≠ 3 → v.toNat / 16 % 1024 ≠ 0 → monState s m = monStopped ∨ getF s Fld.ACC_CFG_RUN m a = 0 →
    ∃ t, exec (.accConfigWrite req m (.cfg a) v) s = .next t ∧ rdReg t (Reg.ACC_CFG.addr m a 0) = BitVec.ofNat 64 (v.toNat % 2 ^ 22)
    ∧ (getAcc t m a).until_ = none ∧ (getAcc t m a).ended = (getAcc s m a).ended ∧ (getAcc t m a).cur = { since := s.mon.k }
    ∧ (∀ n b, b < 128 → n ≠ m.val ∨ b ≠ a.val → getAcc t n b = getAcc s n b) ∧ Only rdReg [Reg.ACC_CFG.addr m a 0] s t
        ∧ Touches [.regs, .mon] s t)
  ∧ (∀ (req : Requester) (m : Fin 48) (a : Fin 128) (v : W32) (s : State), req.bridle = true →
    v.toNat % 2 ^ 22 = (rdReg s (Reg.ACC_CFG.addr m a 0)).toNat - 4 * ((rdReg s (Reg.ACC_CFG.addr m a 0)).toNat / 4 % 4) →
    ∃ t, exec (.accConfigWrite req m (.cfg a) v) s = .next t ∧ getF t Fld.ACC_CFG_RUN m a = 0
    ∧ (getAcc t m a).until_ = none ∧ (getAcc t m a).ended = (getAcc s m a).ended
    ∧ (∀ n b, b < 128 → n ≠ m.val ∨ b ≠ a.val → getAcc t n b = getAcc s n b) ∧ Only rdReg [Reg.ACC_CFG.addr m a 0] s t
        ∧ Touches [.regs, .mon] s t)
  ∧ (∀ (req : Requester) (m : Fin 48) (a : Fin 128) (v : W32) (s : State), req.bridle = true →
    v.toNat % 2 ^ 22 ≠ (rdReg s (Reg.ACC_CFG.addr m a 0)).toNat - 4 * ((rdReg s (Reg.ACC_CFG.addr m a 0)).toNat / 4 % 4) →
    v.toNat % 4 = 3 ∨ v.toNat / 4 % 4 = 3 ∨ v.toNat / 16 % 1024 = 0 ∨ (monState s m ≠ monStopped ∧ getF s Fld.ACC_CFG_RUN m a ≠ 0) →
    ∃ t, exec (.accConfigWrite req m (.cfg a) v) s = .next t ∧ getF t Fld.MON_ERR_CFG_REFUSED m = 1
        ∧ (∃ e, t.ev.inFlight = s.ev.inFlight ++ [e] ∧ e.code = 0x7802)
    ∧ Only rdReg [Reg.MON_ERR.addr m 0 0] s t ∧ Touches [.regs, .ev] s t)
  ∧ (∀ (m : Fin 48) (a : Fin 128) (e : AccEnd) (s : State), (getAcc s m a).ended = some e → ∃ t, exec (.accumulatorLatch m a) s = .next t
    ∧ getAcc t m a = { getAcc s m a with ended := none } ∧ getF t Fld.ACC_SUM_SUM m a = wrapTo 48 e.acc.sum % 2 ^ 48
    ∧ getF t Fld.ACC_STAT_MIN m a = e.acc.mn % 4096 ∧ getF t Fld.ACC_STAT_MAX m a = e.acc.mx % 4096
        ∧ getF t Fld.ACC_STAT_VALID m a = b01 e.valid
    ∧ getF t Fld.ACC_COUNT_COUNT m a = e.acc.count % 2 ^ 19 ∧ getF t Fld.ACC_STAT_PSEQ m a = (getF s Fld.ACC_STAT_PSEQ m a + 1) % 64
    ∧ Only rdReg [Reg.ACC_SUM.addr m a 0, Reg.ACC_STAT.addr m a 0, Reg.ACC_COUNT.addr m a 0] s t ∧ Touches [.regs, .mon] s t)

/-- R291, R292, R303 to R305: every conversion inside a frame adds to the accumulators its converters route it to and moves k by 1, and the
first of a frame makes the frame boundary; a write of TRM_CODE with the range unchanged drives the channel, one that changes it waits
for the end of the hold. -/
def Obligations.ConversionsAndTrims : Prop :=
  (∀ (raw : List (BitVec 12)) (s : State), s.mon.k % 400 ≠ 0 → ∃ t, exec (.conversion raw) s = .next t ∧ t.mon.k = s.mon.k + 1
    ∧ (∀ m a : Nat, m < 48 → a < 128 → monState s m = monRun → getF s Fld.MON_SEQ_EN m (s.mon.k % 400) = 1 →
      getF s Fld.MON_SEQ_ACC m (s.mon.k % 400) = a → getF s Fld.ACC_CFG_TAP m a = 0 → accActive s m a = true →
      (getAcc t m a).cur.count = (getAcc s m a).cur.count + 1
      ∧ (getAcc t m a).cur.sum = (getAcc s m a).cur.sum + accTerm (getF s Fld.ACC_CFG_MODE m a)
        ((getF s Fld.ACC_REF_FREQ m a * s.mon.k + getF s Fld.ACC_PHASE_PHASE m a) % 2000000)
        (correctCode (sext 16 (getF s Fld.MON_CALF_OFFSET m)) (sext 16 (getF s Fld.MON_CALF_GAIN m)) (raw.getD m 0).toNat))
    ∧ (∀ c, (getTrim t c).code = (getTrim s c).code ∧ (getTrim t c).x2 = (getTrim s c).x2 ∧ (getTrim t c).parked = (getTrim s c).parked
      ∧ (getTrim t c).hold = (getTrim s c).hold) ∧ t.mon.calQueue = s.mon.calQueue ∧ Touches [.mon] s t)
  ∧ (∀ (raw : List (BitVec 12)) (s : State), s.mon.k % 400 = 0 → s.mon.k < 400 * 2 ^ 64 → ∃ t, exec (.conversion raw) s = .next t
    ∧ t.mon.k = s.mon.k + 1 ∧ getF t Fld.MON_FRAME_F = s.mon.k / 400)
  ∧ (∀ (req : Requester) (c : Fin 1024) (v : BitVec 12) (x2 : Bool) (s : State), req.bridle = true → (getTrim s c).hold = none →
    ((getTrim s c).parked = true ∨ (getTrim s c).x2 = x2 → ∃ t, exec (.trmCodeWrite req c v x2 true) s = .next t
    ∧ getTrim t c = { getTrim s c with code := v.toNat, x2 := x2, parked := false, hold := none } ∧ Only getTrim [c.val] s t
    ∧ Only rdReg [Reg.TRM_CODE.addr (c / 256) (c % 256) 0] s t ∧ Touches [.regs, .mon] s t)
    ∧ ((getTrim s c).parked = false → (getTrim s c).x2 ≠ x2 → ∃ t, exec (.trmCodeWrite req c v x2 true) s = .next t
    ∧ getTrim t c = { getTrim s c with hold := some (v.toNat, x2, true) } ∧ Only getTrim [c.val] s t ∧ Touches [.regs, .mon] s t))
  ∧ (∀ (req : Requester) (c : Fin 1024) (v : BitVec 12) (x2 : Bool) (s : State), req.bridle = true → (getTrim s c).hold = none →
    ∃ t, exec (.trmCodeWrite req c v x2 false) s = .next t ∧ getTrim t c = { getTrim s c with parked := true } ∧ Only getTrim [c.val] s t
    ∧ getF t Fld.TRM_CODE_EN (c / 256) (c % 256) = 0 ∧ getF t Fld.TRM_CODE_CODE (c / 256) (c % 256) = getF s Fld.TRM_CODE_CODE (c / 256) (c
        % 256)
    ∧ getF t Fld.TRM_CODE_RANGE (c / 256) (c % 256) = getF s Fld.TRM_CODE_RANGE (c / 256) (c % 256)
    ∧ Touches [.regs, .mon] s t)
  ∧ (∀ (c : Fin 1024) (v : Nat) (x2 : Bool) (s : State), (getTrim s c).hold = some (v, x2, true)
        → ∃ t, exec (.rangeHoldRelease c) s = .next t
    ∧ getTrim t c = { getTrim s c with code := v, x2 := x2, parked := false, hold := none } ∧ Only getTrim [c.val] s t ∧ Touches [.mon] s t)

/-- R310, R311, R321, R327, R330: in its slot an enabled loop of a running bank that is not frozen computes (here without input B, outside
the line power loops and with no following-error supervision), its set-point following SPSRC, or, with an invalid or stale input A,
skips: its output stays and RN_LP_INVCNT counts. R313 to R316, R319, R323: its output is that of the five stages of Table 12.5,
renormalised, and the buffered value the one R323 forms from it (here with no bumpless preset); the output phase takes every buffered
output to its destination, and before it the fault phase raises 0x7001 and does what FEACT says (here for FEACT 1 and no owner). An
accumulator with no conversion gives a free mean (log entry 22). Both phases are made by OUTPUT_PHASE, and under FEACT 1 the output of
the execution that faults is dropped (log entry 102). -/
def Obligations.LoopExecution : Prop :=
  (∀ (i : Fin 6144) (s : State), bankState s (i / 256) ≠ bankStopped → lpF s Fld.RN_LP_CTRL_EN i = 1 → (getLoop s i).ran = false →
    lpF s Fld.RN_LP_RUN_FREEZE i = 0 → frameNow s % classFrames (lpF s Fld.RN_LP_CTRL_CLASS i) = lpF s Fld.RN_LP_CTRL_FOFF i →
    (readSrc s i (lpF s Fld.RN_LP_INA_KIND i) (lpF s Fld.RN_LP_INA_INDEX i) ((getLoop s i).pseq.getD 0 64) (getLoop s i).first).invalid =
        true →
    ∃ t, exec (.loopExecution i) s = .next t ∧ (getLoop t i) = { getLoop s i with ran := true } ∧ Only getLoop [i.val] s t
    ∧ lpF t Fld.RN_LP_INVCNT_COUNT i = min (2 ^ 32 - 1) (lpF s Fld.RN_LP_INVCNT_COUNT i + 1) ∧ lpF t Fld.RN_LP_STAT_INVALID i = 1
    ∧ Only rdReg [Reg.RN_LP_STAT.addr (i / 256) (i % 256) 0, Reg.RN_LP_INVCNT.addr (i / 256) (i % 256) 0] s t ∧ Touches [.regs, .rein] s t)
  ∧ (∀ (i : Fin 6144) (s : State), bankState s (i / 256) ≠ bankStopped → lpF s Fld.RN_LP_CTRL_EN i = 1 → (getLoop s i).ran = false →
    lpF s Fld.RN_LP_RUN_FREEZE i = 0 → frameNow s % classFrames (lpF s Fld.RN_LP_CTRL_CLASS i) = lpF s Fld.RN_LP_CTRL_FOFF i →
    (readSrc s i (lpF s Fld.RN_LP_INA_KIND i) (lpF s Fld.RN_LP_INA_INDEX i) ((getLoop s i).pseq.getD 0 64) (getLoop s i).first).stale =
        true →
    ∃ t, exec (.loopExecution i) s = .next t ∧ (getLoop t i) = { getLoop s i with ran := true } ∧ Only getLoop [i.val] s t
        ∧ t.rein.buf = s.rein.buf
    ∧ lpF t Fld.RN_LP_INVCNT_COUNT i = min (2 ^ 32 - 1) (lpF s Fld.RN_LP_INVCNT_COUNT i + 1) ∧ lpF t Fld.RN_LP_STAT_STALE i = 1
    ∧ Only rdReg [Reg.RN_LP_STAT.addr (i / 256) (i % 256) 0, Reg.RN_LP_INVCNT.addr (i / 256) (i % 256) 0] s t ∧ Touches [.regs, .rein] s t)
  ∧ (∀ (i : Fin 6144) (a sp : SrcRead) (s : State), bankState s (i / 256) ≠ bankStopped → lpF s Fld.RN_LP_CTRL_EN i = 1
        → (getLoop s i).ran = false →
    lpF s Fld.RN_LP_RUN_FREEZE i = 0 → frameNow s % classFrames (lpF s Fld.RN_LP_CTRL_CLASS i) = lpF s Fld.RN_LP_CTRL_FOFF i →
    (∀ k : Fin 5, getF s Fld.RN_ST_CFG_KIND (i / 256) (i % 256) k ≠ 2) → (i.val < 4624 ∨ 4720 ≤ i.val)
        → lpF s Fld.RN_LP_FETIME_FETIME i = 0 →
    readSrc s i (lpF s Fld.RN_LP_INA_KIND i) (lpF s Fld.RN_LP_INA_INDEX i) ((getLoop s i).pseq.getD 0 64) (getLoop s i).first = a →
    readSrc s i (lpF s Fld.RN_LP_SPSRC_KIND i) (lpF s Fld.RN_LP_SPSRC_INDEX i) ((getLoop s i).pseq.getD 2 64) (getLoop s i).first = sp →
    a.invalid = false → a.stale = false → ∃ t, exec (.loopExecution i) s = .next t ∧ (getLoop t i).ran = true ∧ (getLoop t i).first = false
    ∧ lpF t Fld.RN_LP_STAT_INVALID i = 0 ∧ lpF t Fld.RN_LP_STAT_STALE i = 0 ∧ (∃ x ∈ t.rein.buf, x.1 = i.val)
    ∧ (sp.invalid = true ∨ sp.stale = true → lpF t Fld.RN_LP_SPCUR_SPCUR i = lpF s Fld.RN_LP_SPCUR_SPCUR i)
    ∧ (sp.invalid = false → sp.stale = false → (lwVal (lpF s Fld.RN_LP_SLEW_SLEW i)).m = 0
        → lpF t Fld.RN_LP_SPCUR_SPCUR i = lwOf (lwVal sp.lw) % 2 ^ 32)
    ∧ Only getLoop [i.val] s t ∧ Touches [.regs, .rein, .freeCtr, .ev] s t)
  ∧ (∀ (i : Fin 6144) (a sp : SrcRead) (runs : List StageRun) (y : Dy) (fin : List (StageRun × Bool)) (x : StageRun × Bool) (raw : Nat ×
        Bool × Bool)
    (s : State), bankState s (i / 256) ≠ bankStopped → lpF s Fld.RN_LP_CTRL_EN i = 1 → (getLoop s i).ran = false →
    lpF s Fld.RN_LP_RUN_FREEZE i = 0 → frameNow s % classFrames (lpF s Fld.RN_LP_CTRL_CLASS i) = lpF s Fld.RN_LP_CTRL_FOFF i →
    (∀ k : Fin 5, getF s Fld.RN_ST_CFG_KIND (i / 256) (i % 256) k ≠ 2) → (i.val < 4624 ∨ 4720 ≤ i.val)
        → lpF s Fld.RN_LP_FETIME_FETIME i = 0 →
    (getLoop s i).first = false ∨ lpF s Fld.RN_LP_CTRL_BUMPLESS i ≠ 1 →
    readSrc s i (lpF s Fld.RN_LP_INA_KIND i) (lpF s Fld.RN_LP_INA_INDEX i) ((getLoop s i).pseq.getD 0 64) (getLoop s i).first = a →
    readSrc s i (lpF s Fld.RN_LP_SPSRC_KIND i) (lpF s Fld.RN_LP_SPSRC_INDEX i) ((getLoop s i).pseq.getD 2 64) (getLoop s i).first = sp →
    a.invalid = false → a.stale = false →
    runs = runStages (lwVal (slewed s i sp)) (lwVal 0) none 0 (lwVal a.lw) ((List.range 5).map (readStage s i)) →
    runs.getLast?.map (fun z => onGrid z.st.se z.y) = some y → raw = destValue (lpF s Fld.RN_LP_DEST_DKIND i) y →
    fin = (List.zip runs ((List.range 5).map (fun k => windup runs k raw.2.1 raw.2.2))).map (fun z => renorm (updateInt z.1 z.2)) →
    fin.getLast? = some x → ∃ t, exec (.loopExecution i) s = .next t
    ∧ (i.val, lwEnc x.1.y x.1.st.se, (destValue (lpF s Fld.RN_LP_DEST_DKIND i) (onGrid x.1.st.se x.1.y)).1 + 1) ∈ t.rein.buf
    ∧ (∀ z ∈ t.rein.buf, z.1 ≠ i.val → z ∈ s.rein.buf) ∧ lpF t Fld.RN_LP_SPCUR_SPCUR i = slewed s i sp % 2 ^ 32
    ∧ (∀ k z, k < 5 → fin[k]? = some z → z.2 = false → getF t Fld.RN_ST_S0_SE (i / 256) (i % 256) k = wrapTo 8 z.1.st.se))
  ∧ (∀ (st : Stage) (v r b : Dy),
    (st.kind = 0 → (runStage st v r b).y = (toGrid st.se v).1) ∧ (st.kind = 1 → (runStage st v r b).y = (toGrid st.se (st.c0.mul v)).1)
    ∧ (st.kind = 2 → (runStage st v r b).y = (toGrid st.se ((st.c0.mul v).mul b)).1)
    ∧ (st.kind = 3 → (runStage st v r b).y = (toGrid st.se (r.sub v)).1)
    ∧ (st.kind = 4 → (runStage st v r b).y = (toGrid st.se ((st.c0.mul v).add (onGrid st.se st.s0))).1
        ∧ (runStage st v r b).dInt = st.c1.mul v)
    ∧ (st.kind = 5 → (runStage st v r b).y
        = (toGrid st.se (((st.c0.mul v).add (onGrid st.se st.s0)).add (st.c2.mul (v.sub (onGrid st.se st.s1))))).1
        ∧ (runStage st v r b).dInt = st.c1.mul v)
    ∧ (st.kind = 6 → (runStage st v r b).y = (runStage st v r b).st.s0
        ∧ (runStage st v r b).st.s0 = (toGrid st.se ((onGrid st.se st.s0).add (st.c0.mul (v.sub (onGrid st.se st.s0))))).1)
    ∧ (st.kind = 7 → (runStage st v r b).y = (toGrid st.se (Dy.clamp st.limLo st.limHi v)).1))
  ∧ (∀ (x : StageRun), (x.st.kind = 4 → x.st.clampEn = false →
      (updateInt x false).st.s0 = (toGrid x.st.se ((onGrid x.st.se x.st.s0).add x.dInt)).1 ∧ (updateInt x true).st.s0 = x.st.s0)
    ∧ (x.st.kind = 5 → (updateInt x false).st.s1 = (toGrid x.st.se x.v).1 ∧ (updateInt x true).st.s0 = x.st.s0)
    ∧ ((updateInt x false).y = x.y ∧ (updateInt x true).y = x.y)
    ∧ (∀ (y : Dy), (destValue 1 y).1 = (clampI 0 4095 (roundInt .rne 0 y.m y.e)).toNat ∧ destValue 2 y = destValue 1 y
      ∧ (destValue 3 y).1 = (clampI 0 768 (roundInt .rne 0 (y.m * 256) y.e)).toNat))
  ∧ (∀ (s : State), s.rein.faults = [] → s.rein.grown = [] → ∃ t, exec .outputPhase s = .next t ∧ t.rein.buf = []
        ∧ Touches [.regs, .mon, .rein, .pwr] s t)
  ∧ (∀ (i : Fin 6144) (err : Nat) (s : State), s.rein.faults = [(i.val, err)] → s.rein.grown = [] → lpF s Fld.RN_LP_CTRL_FEACT i = 1
        → lpF s Fld.RN_LP_CTRL_OWNER i = 0 →
    (∀ x ∈ s.rein.buf, x.1 = i.val) → ∃ t, exec .outputPhase s = .next t ∧ t.rein.faults = [] ∧ t.rein.buf = []
        ∧ lpF t Fld.RN_LP_RUN_FREEZE i = 1
    ∧ lpF t Fld.RN_LP_OUT_OUT i = lpF s Fld.RN_LP_OUT_OUT i ∧ (getLoop t i).notified = true
    ∧ (∃ e, t.ev.inFlight = s.ev.inFlight ++ [e] ∧ e.code = 0x7001) ∧ Touches [.regs, .rein, .ev] s t)
  ∧ (∀ (i : Fin 6144) (lw v : Nat) (s : State), s.rein.faults = [] → s.rein.grown = [] → s.rein.buf = [(i.val, lw, v + 1)]
        → lpF s Fld.RN_LP_DEST_DKIND i = 2 → ∃ t, exec .outputPhase s = .next t
    ∧ lpF t Fld.RN_LP_OUT_OUT i = lw % 2 ^ 32 ∧ t.rein.act = nmPut (fun _ => 0) s.rein.act (lpF s Fld.RN_LP_DEST_INDEX i) v
    ∧ Only rdReg [Reg.RN_LP_OUT.addr (i / 256) (i % 256) 0] s t ∧ Touches [.regs, .rein] s t)
  ∧ (∀ (i k : Nat) (s : State), s.rein.faults = [] → s.rein.grown = [(i, k)] → s.rein.buf = [] → ∃ t, exec .outputPhase s = .next t
    ∧ t.rein.grown = [] ∧ (∃ e, t.ev.inFlight = s.ev.inFlight ++ [e] ∧ e.code = 0x7004 ∧ e.detail = packDetail [(0, i), (13, k)])
    ∧ Touches [.rein, .ev] s t)

/-- R317, R327, R332, R333: STOP of a RUN bank gives STOPPING; START of a STOPPED bank whose loops are legal waits for the next frame
boundary, and is refused with 0x7003 at the first loop that is not; a field that counts only at rest is refused with 0x7002 unless the
bank is STOPPED; a frozen loop has FECNT 0. -/
def Obligations.BanksAndLoops : Prop :=
  (∀ (req : Requester) (b : Fin 24) (s : State), req.bridle = true → bankState s b = bankRun → ∃ t, exec (.bankStop req b) s = .next t
    ∧ bankState t b = bankStopping ∧ Only rdReg [Reg.RN_BANK_STATUS.addr 0 b 0] s t ∧ Touches [.regs] s t)
  ∧ (∀ (req : Requester) (b : Fin 24) (s : State), req.bridle = true → bankState s b = bankStopped →
    (∀ q : Fin 256, loopRefused s (256 * b + q) = 0) → ∃ t, exec (.bankStart req b) s = .next t
    ∧ t.rein = { s.rein with starting := s.rein.starting.filter (· != b.val) ++ [b.val] } ∧ Touches [.rein] s t)
  ∧ (∀ (req : Requester) (b : Fin 24) (q : Fin 256) (s : State), req.bridle = true → bankState s b = bankStopped →
    loopRefused s (256 * b + q) ≠ 0 → (∀ p : Fin 256, p < q → loopRefused s (256 * b + p) = 0) → ∃ t, exec (.bankStart req b) s = .next t
    ∧ bankState t b = bankStopped ∧ getF t Fld.RN_BANK_STATUS_LOOP 0 b = q
        ∧ getF t Fld.RN_BANK_STATUS_REASON 0 b = loopRefused s (256 * b + q)
    ∧ (∃ e, t.ev.inFlight = s.ev.inFlight ++ [e] ∧ e.code = 0x7003) ∧ Touches [.regs, .ev] s t)
  ∧ (∀ (req : Requester) (i : Fin 6144) (w : LoopOffset) (v : W32) (r : RegByte) (s : State), req.bridle = true
        → stoppedOnly (4 * w.val) = true →
    regByteAt (loopAddr i (4 * w.val)) = some r → bankState s (i / 256) = bankStopped → ∃ t, exec (.loopFieldWrite req i w v) s = .next t
    ∧ rdReg t (loopAddr i (4 * w.val)) = (rdReg s (loopAddr i (4 * w.val)) &&& ~~~(BitVec.ofNat 64 (r.desc.rw r.i))) ||| (v.setWidth 64 &&&
        BitVec.ofNat 64 (r.desc.rw r.i))
    ∧ Only rdReg [loopAddr i (4 * w.val)] s t ∧ Touches [.regs] s t)
  ∧ (∀ (req : Requester) (i : Fin 6144) (w : LoopOffset) (v : W32) (s : State), req.bridle = true → stoppedOnly (4 * w.val) = true →
    bankState s (i / 256) ≠ bankStopped → ∃ t, exec (.loopFieldWrite req i w v) s = .next t ∧ getF t Fld.RN_ERR_CFG_REFUSED = 1
    ∧ rdReg t (loopAddr i (4 * w.val)) = rdReg s (loopAddr i (4 * w.val)) ∧ (∃ e, t.ev.inFlight = s.ev.inFlight ++ [e] ∧ e.code = 0x7002)
    ∧ Only rdReg [Reg.RN_ERR.addr 0 0 0] s t ∧ Touches [.regs, .ev] s t)
  ∧ (∀ (req : Requester) (i : Fin 6144) (s : State), req.bridle = true → ∃ t, exec (.freezeWrite req i true) s = .next t
    ∧ lpF t Fld.RN_LP_RUN_FREEZE i = 1 ∧ lpF t Fld.RN_LP_STAT_FECNT i = 0 ∧ (getLoop t i) = { getLoop s i with clean := 0 }
    ∧ Only rdReg [Reg.RN_LP_RUN.addr (i / 256) (i % 256) 0, Reg.RN_LP_STAT.addr (i / 256) (i % 256) 0] s t ∧ Touches [.regs, .rein] s t)
  ∧ (∀ (req : Requester) (i : Fin 6144) (s : State), req.bridle = true → lpF s Fld.RN_LP_RUN_FREEZE i = 1
        → ∃ t, exec (.freezeWrite req i false) s = .next t
    ∧ lpF t Fld.RN_LP_RUN_FREEZE i = 0 ∧ (getLoop t i) = { getLoop s i with first := true } ∧ Touches [.regs, .rein] s t)

/-- R275, R278, R285, R286, R356, R491: with LASER_EN high ASSIGN, and RELIGHT in dark, run the start-up sequence; DARK and a fall of
LASER_EN turn both comb dies OFF; a failing comb die raises 0x6006; the sequence ends with ASSIGNED and 0x6007. Steps 1 to 5 of the
sequence happen in the command, with the measurements as its operands (the model's reading). -/
def Obligations.LightSequences : Prop :=
  (∀ (req : Requester) (l0 l1 : Bool) (w : List RingSweep) (s : State), req.bridle = true → s.light.laserEn = true →
    ∃ t, exec (.lteAssign req l0 l1 w) s = .next t ∧ combState t 0 = (if l0 then combLocked else combFailed)
    ∧ combState t 1 = (if l1 then combLocked else combFailed) ∧ t.light.running = true ∧ t.light.dark = false
        ∧ getF t Fld.LTE_STATUS_ASSIGNED = 0)
  ∧ (∀ (req : Requester) (l0 l1 : Bool) (w : List RingSweep) (s : State), req.bridle = true → s.light.laserEn = true
        → combState s 0 = combOff →
    combState s 1 = combOff → ∃ t, exec (.lteRelight req l0 l1 w) s = .next t ∧ combState t 0 = (if l0 then combLocked else combFailed)
    ∧ combState t 1 = (if l1 then combLocked else combFailed) ∧ t.light.running = true ∧ t.light.dark = false
        ∧ getF t Fld.LTE_STATUS_ASSIGNED = 0)
  ∧ (∀ (req : Requester) (s : State), req.bridle = true → ∃ t, exec (.lteDark req) s = .next t ∧ combState t 0 = combOff
        ∧ combState t 1 = combOff
    ∧ t.light.dark = true ∧ t.light.running = false ∧ t.light.checks = [] ∧ getF t Fld.LTE_STATUS_ASSIGNED = 0)
  ∧ (∀ (s : State), combState s 0 = combLocked → ∃ t, exec .laserEnFall s = .next t ∧ t.light.laserEn = false ∧ combState t 0 = combOff
    ∧ combState t 1 = combOff ∧ t.light.dark = true)
  ∧ (∀ (s : State), ∃ t, exec .laserEnRise s = .next t ∧ t.light = { s.light with laserEn := true } ∧ Touches [.light] s t)
  ∧ (∀ (s : State), s.light.running = true → ∃ t, exec .lightSequenceEnd s = .next t ∧ t.light = { s.light with running := false }
    ∧ getF t Fld.LTE_STATUS_ASSIGNED = 1 ∧ (∃ e, t.ev.inFlight = s.ev.inFlight ++ [e] ∧ e.code = 0x6007)
    ∧ Only rdReg [Reg.LTE_STATUS.addr 0 0 0] s t ∧ Touches [.light, .regs, .ev] s t)
  ∧ (∀ (k : Fin 2) (s : State), combState s k = combLocked → ∃ t, exec (.combDieFailure k 1) s = .next t ∧ combState t k = combFailed
    ∧ (∃ e ∈ t.ev.inFlight, e.code = 0x6006))
  ∧ (∀ (s : State), s.light.switching = true → ∃ t, exec .redistributionSettled s = .next t ∧ t.light.switching = false
    ∧ getF t Fld.LTE_STATUS_REDIST = (if combState s 0 = combLocked then 1 else 2))
  ∧ (∀ (req : Requester) (p1 : Bool) (s : State), req.bridle = true → combState s 0 = combFailed → s.light.laserEn = true →
    ∃ t, exec (.lteRestore req true p1) s = .next t ∧ combState t 0 = combLocked ∧ getF t Fld.LTE_STATUS_REDIST = 0
    ∧ getF t Fld.LTE_SPARES_FREE0 = 0xFF ∧ t.light.lost = [])

/-- R280 to R282, R288: a check falls due once on a locked ring; a check of a port ring that passes, on a line that is not lost, leaves it
locked and in service with its line seen; STOP takes a ring to OFF, START recovers it, and the line of a ring is written in OFF only. -/
def Obligations.PilotChecks : Prop :=
  (∀ (r : Fin 528) (s : State), ringState s r = ringLocked → s.light.checks.contains r.val = false →
    ∃ t, exec (.pilotCheckDue r) s = .next t ∧ t.light = { s.light with checks := s.light.checks ++ [r.val] } ∧ Touches [.light] s t)
  ∧ (∀ (req : Requester) (r : Fin 528) (s : State), req.bridle = true → ringState s r = ringLocked → s.light.checks.contains r.val = false →
    ∃ t, exec (.ringRecheck req r) s = .next t ∧ t.light = { s.light with checks := s.light.checks ++ [r.val] } ∧ Touches [.light] s t)
  ∧ (∀ (r : Fin 528) (p : PilotMeas) (s : State), s.light.checks.find? (fun x => ringConv x == ringConv r) = some r.val → 16 ≤ r.val →
    pilotOutcome s (ringLine s r) p = .pass → onLostLine s r = false → ∃ t, exec (.pilotCheckResult r p) s = .next t
        ∧ ringState t r = ringLocked
    ∧ getF t Fld.LTE_RING_STATUS_OOS 0 r = 0 ∧ getF t Fld.LTE_RING_STATUS_SEEN 0 r = ringLine s r ∧ getF t Fld.LTE_RING_STATUS_LAST 0 r = 0
    ∧ t.light.checks = s.light.checks.filter (· != r.val) ∧ lpF t Fld.RN_LP_RUN_FREEZE (ringLoop r) = 0)
  ∧ (∀ (r : Fin 528) (p : PilotMeas) (s : State), s.light.checks.find? (fun x => ringConv x == ringConv r) = some r.val
        → ringState s r = ringLocked →
    pilotOutcome s (ringLine s r) p = .unknown → ∃ t, exec (.pilotCheckResult r p) s = .next t ∧ ringState t r = ringRecover
    ∧ getF t Fld.LTE_RING_STATUS_OOS 0 r = 1 ∧ getF t Fld.LTE_RING_STATUS_LAST 0 r = 2 ∧ getF t Fld.LTE_RING_STATUS_ATTEMPTS 0 r = 1
    ∧ (∃ e ∈ t.ev.inFlight, e.code = 0x6001))
  ∧ (∀ (req : Requester) (r : Fin 528) (s : State), req.bridle = true → ∃ t, exec (.ringStop req r) s = .next t ∧ ringState t r = ringOff
    ∧ getF t Fld.LTE_RING_STATUS_OOS 0 r = 1 ∧ lpF t Fld.RN_LP_RUN_FREEZE (ringLoop r) = 1
    ∧ t.light.checks = s.light.checks.filter (· != r.val) ∧ (16 ≤ r.val → t.stall = s.stall))
  ∧ (∀ (req : Requester) (r : Fin 528) (s : State), req.bridle = true → ringState s r = ringOff → (getTrim s (heaterChan r)).hold = none →
    ∃ t, exec (.ringStart req r) s = .next t
    ∧ ringState t r = ringRecover ∧ getF t Fld.LTE_RING_STATUS_ATTEMPTS 0 r = 1 ∧ t.light.checks.contains r.val = true
    ∧ heaterCode t r = min 4095 (peakOf s r (ringLine s r)))
  ∧ (∀ (req : Requester) (r : Fin 528) (v : W32) (s : State), req.bridle = true → ringState s r = ringOff
        → ∃ t, exec (.ringCfgWrite req r v) s = .next t
    ∧ getF t Fld.LTE_RING_CFG_LINE 0 r = v.toNat % 64 ∧ (r.val < 16 → getF t Fld.STL_ID_LINE r = v.toNat % 64)
    ∧ (16 ≤ r.val → Only rdReg [Reg.LTE_RING_CFG.addr 0 r 0] s t) ∧ Only rdReg [Reg.LTE_RING_CFG.addr 0 r 0, Reg.STL_ID.addr r 0 0] s t
        ∧ Touches [.regs] s t)
  ∧ (∀ (req : Requester) (r : Fin 528) (v : W32) (s : State), req.bridle = true → ringState s r ≠ ringOff
        → ∃ t, exec (.ringCfgWrite req r v) s = .next t
    ∧ getF t Fld.LTE_RING_CFG_LINE 0 r = getF s Fld.LTE_RING_CFG_LINE 0 r ∧ getF t Fld.LTE_ERR_CFG_REFUSED = 1
    ∧ (∃ e, t.ev.inFlight = s.ev.inFlight ++ [e] ∧ e.code = 0x6008) ∧ Only rdReg [Reg.LTE_ERR.addr 0 0 0] s t ∧ Touches [.regs, .ev] s t)

/-- R341, R346, R349, R353: START of a STOPPED farrier whose stored sets have been read runs it and queues every stall never calibrated,
STOP stops it at once where no work is in progress and makes it STOPPING where work is, RUN and RUNALL queue what they name, RELEASE
ends the hold of a degraded stall, and an aged calibration is queued again. That STOP with no work in progress stops at once, and hands
the lanes back at once, is log entry 111. -/
def Obligations.FarrierControl : Prop :=
  (∀ (req : Requester) (s : State), req.bridle = true → farState s = farStopped → s.far.setsRead = true
        → ∃ t, exec (.farrierStart req) s = .next t ∧ farState t = farRun
    ∧ (∀ k : Fin 16, getF s Fld.FAR_STALL_STATUS_CAL k = 0 → (getFar t k).run = true ∧ (getStall t k).far = true)
    ∧ (∀ k : Fin 16, getF s Fld.FAR_STALL_STATUS_CAL k ≠ 0 → getFar t k = getFar s k ∧ getStall t k = getStall s k)
    ∧ (∀ p : Fin 8, ∀ j : Fin 32, bitOf (getF s Fld.FAR_PORT_VALID_LANES p) j = false → (getFarPort t p).queue.contains j.val = true))
  ∧ (∀ (req : Requester) (s : State), req.bridle = true → farState s = farRun → s.far.work = none → ∃ t, exec (.farrierStop req) s = .next t
        ∧ farState t = farStopped
    ∧ t.far.work = none ∧ (∀ p : Fin 8, (getFarPort t p).lane = none) ∧ (∀ k : Fin 16, (getFar t k).run = (getFar s k).run))
  ∧ (∀ (req : Requester) (w : FarWork) (s : State), req.bridle = true → farState s = farRun → s.far.work = some w → w.abandoned = false →
    ∃ t, exec (.farrierStop req) s = .next t ∧ farState t = farStopping ∧ t.far.work = some w ∧ (∀ p : Fin 8, (getFarPort t p).lane = none)
    ∧ t.stall = s.stall ∧ (∀ k : Fin 16, getFar t k = getFar s k))
  ∧ (∀ (req : Requester) (s : State), req.bridle = true → ∃ t, exec (.runall req) s = .next t
    ∧ (∀ k : Fin 16, (getFar t k).run = true ∧ (getFar t k).asked = true)
        ∧ (∀ p : Fin 8, ∀ j : Fin 32, (getFarPort t p).queue.contains j.val = true))
  ∧ (∀ (req : Requester) (k : Fin 16) (s : State), req.bridle = true → ∃ t, exec (.farStallRun req k) s = .next t
    ∧ (getFar t k).run = true ∧ (getFar t k).asked = true ∧ getF t Fld.FAR_STALL_STATUS_QUEUED k = 1 ∧ Only getFar [k.val] s t
    ∧ Only rdReg [Reg.FAR_STALL_STATUS.addr k 0 0] s t ∧ Touches [.regs, .far] s t)
  ∧ (∀ (req : Requester) (k : Fin 16) (s : State), req.bridle = true → getF s Fld.FAR_STALL_STATUS_CAL k = 2 →
    (∀ w, s.far.work = some w → w.stall ≠ k) → ∃ t, exec (.farStallRelease req k) s = .next t ∧ (getStall t k).far = false
    ∧ (getStall t k).farOwns = false ∧ Only getStall [k.val] s t ∧ Touches [.regs, .stall] s t)
  ∧ (∀ (req : Requester) (p : Fin 8) (v : W32) (s : State), req.bridle = true → ∃ t, exec (.farPortLanerun req p v) s = .next t
    ∧ (∀ j : Fin 32, v.getLsbD j = true → (getFarPort t p).queue.contains j.val = true)
    ∧ (getFarPort t p).set = (getFarPort s p).set ∧ Only getFarPort [p.val] s t ∧ Touches [.far] s t)
  ∧ (∀ (k : Fin 16) (h : Nat) (s : State), getF s Fld.FAR_MAXAGE_HOURS ≠ 0 → getF s Fld.FAR_MAXAGE_HOURS ≤ h
        → getF s Fld.FAR_STALL_STATUS_CAL k ≠ 0 →
    ∃ t, exec (.calibrationAgeExpiry (.stall k) h) s = .next t ∧ (getFar t k).run = true ∧ getF t Fld.FAR_STALL_STATUS_QUEUED k = 1
    ∧ Only getFar [k.val] s t ∧ Touches [.regs, .far] s t)
  ∧ (∀ (k : Fin 16) (h : Nat) (s : State), (if getF s Fld.FAR_NVINT_S = 0 then 3600 else getF s Fld.FAR_NVINT_S) ≤ h
        → (getFar s k).set.changed = true →
    ∃ t, exec (.residualStoreWrite (.stall k) h) s = .next t ∧ (getFar t k).set.stored = (getFar s k).set.resid
        ∧ (getFar t k).set.changed = false
    ∧ (getFar t k).set.resid = (getFar s k).set.resid ∧ Only getFar [k.val] s t ∧ Touches [.far] s t)

/-- R342 to R351: the farrier takes the stall that R342 picks and holds it; once its accepted work has ended it owns the nodes and the
attempt begins; an attempt whose measurements agree is accepted and the stall released; one that does not raises 0x8001; where the
farrier is STOPPING it stops instead; a lane measured twice in agreement becomes valid. ATTEMPT_END makes the steps not yet reached (log
entry 107), the phase bank stops and starts at once (log entry 217), and a step under way as the farrier is STOPPING ends unused (log
entry 111). -/
def Obligations.FarrierRuns : Prop :=
  (∀ (k : Nat) (s : State), farState s = farRun → s.far.work = none → farPick s = some k → k < 16 → ∃ t, exec .stallRunStart s = .next t
    ∧ t.far.work = some { stall := k, reint := !(getFar s k).run, owns := false } ∧ (getStall t k).far = true
        ∧ getF t Fld.FAR_STATUS_STALL = k
    ∧ getF t Fld.FAR_STATUS_STEP = 1 ∧ getF t Fld.FAR_STALL_STATUS_ACTIVE k = 1 ∧ Only getStall [k] s t ∧ Touches [.regs, .stall, .far] s t)
  ∧ (∀ (k : Fin 16) (w : FarWork) (s : State), s.far.work = some w → w.stall = k → w.owns = false → w.reint = false
        → (getStall s k).quiet = true → (getStall s k).thm = [] →
    (getStall s k).lte = [] → farState s ≠ farStopping →
    ∃ t, exec (.farrierQuiesced k) s = .next t ∧ (getStall t k).farOwns = true
    ∧ t.far.work = some { w with owns := true, abandoned := false, calm := none, tr := none, began := s.time }
        ∧ bankState t k = bankStopped ∧ getF t Fld.FAR_STATUS_STEP = 2
    ∧ Only getStall [k.val] s t ∧ Touches [.regs, .stall, .rein, .far] s t)
  ∧ (∀ (a b : StallMeas) (w : FarWork) (s : State), s.far.work = some w → w.owns = true → w.reint = false → w.abandoned = false
        → farState s = farRun →
    w.stall < 16 → attemptCause (toMap a.field) (toMap b.field) true true = 0 → ∃ t, exec (.attemptEnd a b true true) s = .next t
    ∧ t.far.work = none ∧ getF t Fld.FAR_STALL_STATUS_CAL w.stall = 1 ∧ (getStall t w.stall).far = false
        ∧ (getStall t w.stall).farOwns = false
    ∧ (getFar t w.stall).run = false ∧ getF t Fld.FAR_RUNS_COUNT = min (2 ^ 32 - 1) (getF s Fld.FAR_RUNS_COUNT + 1))
  ∧ (∀ (a b : StallMeas) (w : FarWork) (s : State), s.far.work = some w → w.owns = true → w.reint = false → w.abandoned = false
        → farState s = farRun →
    w.stall < 16 → w.attempt < 3 → ∃ t, exec (.attemptEnd a b false true) s = .next t ∧ (∃ x, t.far.work = some x
        ∧ x.attempt = w.attempt + 1)
    ∧ getF t Fld.FAR_STALL_STATUS_CAUSE w.stall = 4 ∧ (∃ e, t.ev.inFlight = s.ev.inFlight ++ [e] ∧ e.code = 0x8001) ∧ t.stall = s.stall
        ∧ bankState t w.stall = bankStopped)
  ∧ (∀ (a b : StallMeas) (o r : Bool) (w : FarWork) (s : State), s.far.work = some w → w.owns = true → w.reint = false
        → w.abandoned = false →
    farState s = farStopping → ∃ t, exec (.attemptEnd a b o r) s = .next t ∧ farState t = farStopped ∧ t.far.work = none)
  ∧ (∀ (k : Fin 16) (w : FarWork) (v : Bool) (s : State), farState s = farRun → s.far.work = some w → w.stall = k → w.reint = true
        → w.owns = true → (getStall s k).farKept = false →
    ∃ t, exec (.reinterpolation k v) s = .next t ∧ t.far.work = none ∧ (getStall t k).far = false ∧ (getStall t k).farOwns = false
    ∧ (getFar t k).reint = false ∧ getF t Fld.FAR_STALL_TEMP_TWRITE k = wrapTo 16 (dieTemp s (stallDie k)) % 2 ^ 16)
  ∧ (∀ (p : Fin 8) (j : Nat) (a b : LaneMeas) (s : State), (getFarPort s p).lane = some j → (getPort s p).released = some j
        → (getPort s p).returned = false →
    farState s = farRun → j < 32 → laneAgree a b = true → ∃ t, exec (.portLaneRun p a b) s = .next t ∧ (getFarPort t p).lane = none
    ∧ bitOf (getF t Fld.FAR_PORT_VALID_LANES p) j = true ∧ (getPort t p).returned = true
    ∧ getF t Fld.FAR_RUNS_COUNT = min (2 ^ 32 - 1) (getF s Fld.FAR_RUNS_COUNT + 1) ∧ Touches [.regs, .far, .drove] s t)
  ∧ (∀ (p : Fin 8) (j : Nat) (a b : LaneMeas) (s : State), (getFarPort s p).lane = some j → (getPort s p).released = some j
        → (getPort s p).returned = false →
    farState s = farRun → laneAgree a b = false → (getFarPort s p).rejects < 2 → ∃ t, exec (.portLaneRun p a b) s = .next t
    ∧ getFarPort t p = { getFarPort s p with rejects := (getFarPort s p).rejects + 1 } ∧ Touches [.regs, .far] s t)

/-- R357, R358, R490: after the precharge rail 2 rises, or is held off while there is no reference clock; rail valid sets RAILS and starts
the sequence of chapter 18. R359, R376: a package trip turns every rail off and keeps its cause. R489: RAILOK is high at rail valid and
low after a trip. The state after a trip is log entry 119's. Where the sample behind a duration is taken is in the command (the model's
form). R359, Table 14.3, R365, R379: the input below 44 V or above 74 V raises 0x9007 with SET 1 and sets the sticky bit, and its return
past the release raises it with SET 0; an undervoltage below 40 V or an overcurrent above 52 A forces the demand to at least 3, the
overcurrent with 0x9007, and its release with SET 0. FORCE shows undervoltage first (log entry 115). -/
def Obligations.PowerInput : Prop :=
  (∀ (refclk : Bool) (s : State), s.pwr.rails = .precharge → ∃ t, exec (.prechargeComplete refclk) s = .next t
    ∧ t.pwr = { s.pwr with rails := if refclk then .rising else .noClock } ∧ Touches [.pwr] s t)
  ∧ (∀ (refclk : Bool) (s : State), s.pwr.rails = .noClock → ∃ t, exec (.refclkRetry refclk) s = .next t
    ∧ t.pwr = { s.pwr with rails := if refclk then .rising else .noClock } ∧ Touches [.pwr] s t)
  ∧ (∀ (s : State), s.pwr.rails = .rising → ∃ t, exec .railValid s = .next t ∧ railOk t = true ∧ t.pwr = { s.pwr with rails := .valid }
    ∧ t.sys = { s.sys with startTime := s.time } ∧ getF t Fld.PWR_STATUS_RAILS = 1 ∧ Only rdReg [Reg.PWR_STATUS.addr 0 0 0] s t
    ∧ Touches [.regs, .pwr, .sys] s t)
  ∧ (∀ (cause : Fin 8) (vin iin : Fin 4096) (s : State), s.pwr.rails ≠ .off → tripCondition s cause vin iin = true →
    ∃ t, exec (.packageTrip cause vin iin) s = .next t ∧ t.pwr.rails = .off ∧ railOk t = false ∧ t.sys.tripped = true
        ∧ getF t Fld.PWR_LASTTRIP_CAUSE = cause.val
    ∧ t.stall = [] ∧ t.shed = [] ∧ t.mem = {} ∧ t.ev.inFlight = [] ∧ t.host = [])
  ∧ (∀ (vin iin : Fin 4096) (s : State), (tripCondition s 1 vin iin = true ↔ vin.val < 1152)
        ∧ (tripCondition s 2 vin iin = true ↔ 2432 < vin.val)
    ∧ (tripCondition s 3 vin iin = true ↔ 3840 < iin.val))
  ∧ (∀ (vin iin : Fin 4096) (s : State), s.pwr.ovWarn = false → 2368 < vin.val → ∃ t, exec (.inputWarning true true vin iin) s = .next t
    ∧ t.pwr = { s.pwr with ovWarn := true } ∧ getF t Fld.PWR_ERR_INPUT = 1 ∧ (∃ e, t.ev.inFlight = s.ev.inFlight ++ [e] ∧ e.code = 0x9007
      ∧ e.detail = packDetail [(0, 1), (1, 4), (4, vin), (16, iin)])
    ∧ Only rdReg [Reg.PWR_ERR.addr 0 0 0] s t ∧ Touches [.regs, .ev, .pwr] s t)
  ∧ (∀ (vin iin : Fin 4096) (s : State), s.pwr.ovWarn = true → 2 * vin.val < 4704 → ∃ t, exec (.inputWarning true false vin iin) s = .next t
    ∧ t.pwr = { s.pwr with ovWarn := false } ∧ (∃ e, t.ev.inFlight = s.ev.inFlight ++ [e] ∧ e.code = 0x9007
      ∧ e.detail = packDetail [(0, 0), (1, 4), (4, vin), (16, iin)]) ∧ Touches [.ev, .pwr] s t)
  ∧ (∀ (vin iin : Fin 4096) (s : State), getF s Fld.PWR_STATUS_UVWARN = 0 → vin.val < 1408
        → ∃ t, exec (.inputWarning false true vin iin) s = .next t
    ∧ getF t Fld.PWR_STATUS_UVWARN = 1 ∧ getF t Fld.PWR_ERR_INPUT = 1 ∧ (∃ e, t.ev.inFlight = s.ev.inFlight ++ [e] ∧ e.code = 0x9007
      ∧ e.detail = packDetail [(0, 1), (1, 1), (4, vin), (16, iin)])
    ∧ Only rdReg [Reg.PWR_STATUS.addr 0 0 0, Reg.PWR_ERR.addr 0 0 0] s t ∧ Touches [.regs, .ev] s t)
  ∧ (∀ (vin iin : Fin 4096) (s : State), getF s Fld.PWR_STATUS_UVWARN = 1 → 2848 < 2 * vin.val
        → ∃ t, exec (.inputWarning false false vin iin) s = .next t
    ∧ getF t Fld.PWR_STATUS_UVWARN = 0 ∧ (∃ e, t.ev.inFlight = s.ev.inFlight ++ [e] ∧ e.code = 0x9007
      ∧ e.detail = packDetail [(0, 0), (1, 1), (4, vin), (16, iin)])
    ∧ Only rdReg [Reg.PWR_STATUS.addr 0 0 0] s t ∧ Touches [.regs, .ev] s t)
  ∧ (∀ (vin iin : Fin 4096) (s : State), s.pwr.forceOc = false → 3328 < iin.val → s.pwr.u ≤ 1023
        → ∃ t, exec (.forcedDemand true true vin iin) s = .next t
    ∧ t.pwr.forceOc = true ∧ t.pwr.u = s.pwr.u ∧ getF t Fld.PWR_DEMAND_U = max 768 s.pwr.u ∧ getF t Fld.PWR_DEMAND_NPARK = 12
    ∧ getF t Fld.PWR_DEMAND_PAUSE = 255 ∧ getF t Fld.PWR_STATUS_FORCE = (if s.pwr.forceUv then 1 else 2) ∧ getF t Fld.PWR_ERR_INPUT = 1
    ∧ (∃ e ∈ t.ev.inFlight, e.code = 0x9007 ∧ e.detail = packDetail [(0, 1), (1, 6), (4, vin), (16, iin)]))
  ∧ (∀ (vin iin : Fin 4096) (s : State), s.pwr.forceOc = true → s.pwr.forceUv = false → iin.val < 2944 → s.pwr.u ≤ 1023 →
    ∃ t, exec (.forcedDemand true false vin iin) s = .next t ∧ t.pwr.forceOc = false ∧ getF t Fld.PWR_DEMAND_U = s.pwr.u
    ∧ getF t Fld.PWR_STATUS_FORCE = 0
    ∧ (∃ e ∈ t.ev.inFlight, e.code = 0x9007 ∧ e.detail = packDetail [(0, 0), (1, 6), (4, vin), (16, iin)]))
  ∧ (∀ (vin iin : Fin 4096) (s : State), s.pwr.forceUv = false → vin.val < 1280 → s.pwr.u ≤ 1023
        → ∃ t, exec (.forcedDemand false true vin iin) s = .next t
    ∧ t.pwr.forceUv = true ∧ getF t Fld.PWR_DEMAND_U = max 768 s.pwr.u ∧ getF t Fld.PWR_STATUS_FORCE = 1 ∧ getF t Fld.PWR_ERR_INPUT = 1)
  ∧ (∀ (vin iin : Fin 4096) (s : State), s.pwr.forceUv = true → s.pwr.forceOc = false → 1344 < vin.val → s.pwr.u ≤ 1023 →
    ∃ t, exec (.forcedDemand false false vin iin) s = .next t ∧ t.pwr.forceUv = false ∧ getF t Fld.PWR_DEMAND_U = s.pwr.u
    ∧ getF t Fld.PWR_STATUS_FORCE = 0)

/-- R360: the budget of a frame lies between 200 W and 1,900 W. R361: PBUDGET absent and back raise 0x9009. R362: PDEMAND carries two
powers. R363, Table 14.5: the demand sets the pause, the parked stalls and the comb power. R365, R367: an unparked stall clears its
hold; the over-budget bit clears with its loops' FAULT bits. What PBUDGET's filter yields is log entry 21. BUDGET_UPDATE brings the
settings written before it into force (log entry 113) and adds the energy of one frame (log entry 114). -/
def Obligations.BudgetAndDemand : Prop :=
  (∀ (vin iin : Fin 4096) (s : State), ∃ t, exec (.budgetUpdate vin iin) s = .next t ∧ getF t Fld.PWR_INPUT_VIN = vin
        ∧ getF t Fld.PWR_INPUT_IIN = iin
    ∧ getF t Fld.RN_PBUDGET_BUDGET = lwOfRat (budgetOf t vin) 1024 % 2 ^ 32 ∧ 204800 ≤ budgetOf t vin ∧ budgetOf t vin ≤ 1945600
    ∧ (budgetOf t vin = 204800 ∨ budgetOf t vin ≤ 1472 * vin)
    ∧ (∀ f ∈ [Fld.PWR_PBCFG_MODE, Fld.PWR_LIMIT_W, Fld.PWR_PBFIX_W, Fld.THM_RECMAX_MS], inForce t f = getF s f)
    ∧ getF t Fld.PWR_ENERGY_MJ = (getF s Fld.PWR_ENERGY_MJ + (s.pwr.energyRem + vin.val * iin.val) / 102400) % 2 ^ 64
    ∧ Only rdReg [Reg.PWR_INPUT.addr 0 0 0, Reg.RN_PBUDGET.addr 0 0 0, Reg.PWR_ENERGY.addr 0 0 0] s t ∧ Touches [.regs, .pwr] s t)
  ∧ (∀ (s : State), inForce s Fld.PWR_PBCFG_MODE < 2 → s.pwr.absent = false → s.pwr.badSample = true → ∃ t, exec .pbudgetAbsent s = .next t
    ∧ t.pwr = { s.pwr with absent := true } ∧ getF t Fld.PWR_STATUS_PBVALID = 0 ∧ getF t Fld.PWR_ERR_PBLOST = 1
    ∧ (∃ e, t.ev.inFlight = s.ev.inFlight ++ [e] ∧ e.code = 0x9009) ∧ Only rdReg [Reg.PWR_STATUS.addr 0 0 0, Reg.PWR_ERR.addr 0 0 0] s t
    ∧ Touches [.regs, .ev, .pwr] s t)
  ∧ (∀ (s : State), inForce s Fld.PWR_PBCFG_MODE < 2 → s.pwr.absent = true → s.pwr.badSample = false → ∃ t, exec .pbudgetRestored s = .next t
    ∧ t.pwr = { s.pwr with absent := false } ∧ getF t Fld.PWR_STATUS_PBVALID = 1
    ∧ (∃ e, t.ev.inFlight = s.ev.inFlight ++ [e] ∧ e.code = 0x9009) ∧ Only rdReg [Reg.PWR_STATUS.addr 0 0 0] s t
        ∧ Touches [.regs, .ev, .pwr] s t)
  ∧ (∀ (mv : Nat) (s : State), inForce s Fld.PWR_PBCFG_MODE = 0 → 500 ≤ mv → mv ≤ 10000
        → ∃ t b, exec (.pbudgetSample (.volts mv)) s = .next t
    ∧ t.pwr = { s.pwr with budget := b, badSample := false } ∧ b ≤ max s.pwr.budget (2 ^ 40 * (200 + 1700 * (mv - 500) / 9500 + 1))
    ∧ (s.pwr.budget ≤ 2 ^ 40 * (200 + 1700 * (mv - 500) / 9500) → s.pwr.budget ≤ b) ∧ Touches [.pwr] s t)
  ∧ (∀ (p0 p1 : Nat) (s : State), s.sys.ostlerUp = true → s.light.dark = false →
    (∀ c ∈ [254, 255], (getTrim s c).hold = none ∧ ((getTrim s c).parked = true ∨ (getTrim s c).x2 = true))
        → ∃ t, exec (.pdemandUpdate p0 p1) s = .next t
    ∧ getTrim t 254 = { getTrim s 254 with code := min 4095 (ratRne (16384 * (p0 : Int)) 10000).toNat, x2 := true, parked := false }
    ∧ getTrim t 255 = { getTrim s 255 with code := min 4095 (ratRne (16384 * (p1 : Int)) 10000).toNat, x2 := true, parked := false }
        ∧ Only getTrim [254, 255] s t ∧ Touches [.regs, .mon] s t)
  ∧ (∀ (s : State), s.pwr.forceUv = false → s.pwr.forceOc = false → s.pwr.u ≤ 1023 → ∃ t, exec .shedDemandApply s = .next t
    ∧ getF t Fld.PWR_DEMAND_U = s.pwr.u ∧ getF t Fld.PWR_DEMAND_PAUSE = pauseOf s.pwr.u ∧ getF t Fld.PWR_DEMAND_NPARK = parkOf s.pwr.u
    ∧ getF t Fld.PWR_DEMAND_PREL = prelOf s.pwr.u
    ∧ (∀ k : Fin 16, k.val ∈ parkOrder.take (parkOf s.pwr.u) → k.val ∉ s.pwr.parked → ThmWhy.park ∈ (getStall t k).thm))
  ∧ (∀ (k : Fin 16) (s : State), k.val ∈ s.pwr.parked → k.val ∉ parkOrder.take (parkOf (demandInForce s))
        → ∃ t, exec (.stallUnpark k) s = .next t
    ∧ ThmWhy.park ∉ (getStall t k).thm ∧ Only getStall [k.val] s t ∧ t.pwr = { s.pwr with parked := s.pwr.parked.filter (· != k.val) }
    ∧ Touches [.stall, .pwr] s t)
  ∧ (∀ (s : State), getF s Fld.PWR_STATUS_OVERBUDGET = 1 → s.pwr.u < 768 → ∃ t, exec .overbudgetClear s = .next t
    ∧ getF t Fld.PWR_STATUS_OVERBUDGET = 0 ∧ (∀ i : Fin 6144, lpF s Fld.RN_LP_CTRL_OWNER i = 3 → lpF t Fld.RN_LP_STAT_FAULT i = 0)
    ∧ Touches [.regs] s t)

/-- R368: a frame's readings stand in THM_SENSE and the largest in THM_DIE. R369: the power stage's readings stand in THM_REMOTE. R208: a
stack takes the band of its own temperature or of its die, the higher, and refreshes twice as often from band 3. A temperature below 0
stands as two's complement (log entry 205). R374: after the quiet period wide capture clears and the die's carriers are checked; with no
stall left holding, the trip ends with 0x9003 and the hold-off begins, then ends. R375: a recovery that takes too long raises 0x9004
once. R376: a die trip ends below 95 degrees, and with its last cause the stalls are released. Firmware starts again what the trip
stopped (log entry 118). -/
def Obligations.ThermalControl : Prop :=
  (∀ (die : Fin 6) (rd : List Int) (s : State), rd.length = sensorCount die → (∀ x ∈ rd, -100 ≤ x ∧ x < 1360) →
    ∃ t, exec (.sensorReading die rd) s = .next t ∧ (∀ k, k < sensorCount die → getF t Fld.THM_SENSE_T 0 die k = wrapTo 16 (rd.getD k 0))
    ∧ getF t Fld.THM_DIE_T 0 die = wrapTo 16 (maxTemp rd) ∧ t.pwr.rails = s.pwr.rails)
  ∧ (∀ (a b c d : Int) (e f : Int) (s : State), a < 1120 → b < 1120 → c < 2000 → e < 720 → f < 1040 →
    ∃ t, exec (.contactSensorRead [some a, some b, some c, some d, some e, some f]) s = .next t
    ∧ getF t Fld.THM_REMOTE_T 0 0 = wrapTo 16 a ∧ getF t Fld.THM_REMOTE_T 0 1 = wrapTo 16 b ∧ getF t Fld.THM_REMOTE_T 0 2 = wrapTo 16 c
    ∧ getF t Fld.THM_REMOTE_T 0 3 = wrapTo 16 d ∧ getF t Fld.THM_REMOTE_T 0 4 = wrapTo 16 e ∧ getF t Fld.THM_REMOTE_T 0 5 = wrapTo 16 f
    ∧ t.pwr = { s.pwr with inlet := 0, outlet := 0 } ∧ Touches [.regs, .pwr] s t)
  ∧ (∀ (c : Int) (e f : Option Int) (a b d : Option Int) (s : State), 2000 ≤ c
        → ∃ t, exec (.contactSensorRead [a, b, some c, d, e, f]) s = .next t
    ∧ t.pwr.rails = .off ∧ getF t Fld.PWR_LASTTRIP_CAUSE = 4)
  ∧ (∀ (u : Fin 8) (x lim : Int) (s : State), -60 ≤ x → x < 100 →
    ∃ t, exec (.memoryTempRead ⟨u, Nat.lt_trans u.isLt (by decide)⟩ [⟨some x, lim⟩]) s = .next t ∧ getF t Fld.HBM_STATUS_TEMP u = wrapTo 8 x
    ∧ getF t Fld.HBM_STATUS_BAND u = max (nextBand (nmGet (fun _ => (0 : Nat)) s.tier.ownBand u) (16 * x)) (dieBand s (u / 2)) % 8
    ∧ getF t Fld.HBM_STATUS_REF2X u = b01 (decide (3 ≤ max (nextBand (nmGet (fun _ => (0 : Nat)) s.tier.ownBand u) (16 * x)) (dieBand s (u
        / 2))))
    ∧ Only rdReg [Reg.HBM_STATUS.addr u 0 0, Reg.HBM_TIMING.addr u 0 0] s t ∧ Touches [.regs, .tier] s t)
  ∧ (∀ (d : Fin 4) (s : State), (getDie s d).rate = .quiet → (getDie s d).dieTrip = false → (getDie s d).stackTrip = [] →
    ∃ t, exec (.quietPeriodEnd d) s = .next t ∧ (getDie t d).rate = .checking ∧ bitOf (getF t Fld.THM_STATUS_QUIET) d = false
    ∧ bitOf (getF t Fld.LTE_WIDE_WIDE) d = false ∧ Touches [.regs, .stall, .light, .pwr] s t)
  ∧ (∀ (d : Fin 4) (s : State), (getDie s d).rate = .checking →
    (∀ i : Fin 4, ThmWhy.rateTrip ∉ (getStall s (4 * d + i)).thm) → ∃ t, exec (.tripEnd d) s = .next t
        ∧ getDie t d = { getDie s d with rate := .none }
    ∧ Only getDie [d.val] s t ∧ bitOf (getF t Fld.THM_STATUS_HOLDOFF) d = true
    ∧ bitOf (getF t Fld.THM_STATUS_TRIP) d = ((getDie s d).dieTrip || !(getDie s d).stackTrip.isEmpty)
    ∧ (∃ e, t.ev.inFlight = s.ev.inFlight ++ [e] ∧ e.code = 0x9003) ∧ Only rdReg [Reg.THM_STATUS.addr 0 0 0] s t
        ∧ Touches [.regs, .ev, .pwr] s t)
  ∧ (∀ (d : Fin 4) (s : State), ∃ t, exec (.holdoffEnd d) s = .next t ∧ bitOf (getF t Fld.THM_STATUS_HOLDOFF) d = false
    ∧ (∀ e : Fin 4, e ≠ d → bitOf (getF t Fld.THM_STATUS_HOLDOFF) e = bitOf (getF s Fld.THM_STATUS_HOLDOFF) e)
    ∧ Only rdReg [Reg.THM_STATUS.addr 0 0 0] s t ∧ Touches [.regs] s t)
  ∧ (∀ (d : Fin 4) (ms : Nat) (s : State), (getDie s d).rate ≠ .none → (getDie s d).overrun = false →
    (if inForce s Fld.THM_RECMAX_MS = 0 then 40 else inForce s Fld.THM_RECMAX_MS) ≤ ms → ∃ t, exec (.recoveryOverrun d ms) s = .next t
    ∧ getDie t d = { getDie s d with overrun := true } ∧ Only getDie [d.val] s t ∧ (∃ e, t.ev.inFlight = s.ev.inFlight ++ [e]
        ∧ e.code = 0x9004)
    ∧ Touches [.ev, .pwr] s t)
  ∧ (∀ (d : Fin 4) (s : State), (getDie s d).dieTrip = true → (getDie s d).stackTrip = [] → sext 16 (getF s Fld.THM_DIE_T 0 d) < 1520 →
    ∃ t, exec (.dieTripEnd d 8) s = .next t ∧ (getDie t d).dieTrip = false ∧ (getDie t d).sheds = [] ∧ (getDie t d).shus = []
    ∧ (∀ i : Fin 4, ThmWhy.dieTrip ∉ (getStall t (4 * d + i)).thm)
    ∧ (∀ i ∈ (getDie s d).sheds, (getShed s i).state = .stopped → (getShed t i).state = .run))

/-- R389: an arm of a good descriptor queues it; any other is refused with its status. R384: each lane frame has the next number, and all
its data frames carry it. R392: status 0 takes a frame off, status 1 fails the transfer, and a frame unanswered for 4 lane frames is
sent again. R393: a transfer with every frame accepted ends. The frame number advances at LANE_FRAME_START (log entry 123); of several
faults of an arm the lowest status is given (log entry 125). -/
def Obligations.DroveSending : Prop :=
  (∀ (w : PortAt) (p : Nat) (addr : BitVec 48) (r : State × List Nat) (s : State), w.port.val = p →
    readLoose (busForget s w.req (Reg.DRV_SQ_ARM.addr p 0 0)) addr.toNat 32 = r → sendStatus r.1 p addr.toNat r.2 = 0 →
    ∃ t, exec (.sendArm w addr) s = .next t ∧ getPort t p = { getPort r.1 p with sq := (getPort r.1 p).sq ++ [sendOf r.2] }
    ∧ getF t Fld.DRV_SQ_STATUS_STATUS p = 0 ∧ getF t Fld.DRV_SQ_STATUS_SEQ p = (getF r.1 Fld.DRV_SQ_STATUS_SEQ p + 1) % 256
    ∧ getF t Fld.DRV_SQ_STATUS_DEPTH p = (getPort r.1 p).sq.length + 1 ∧ Only getPort [p] r.1 t
    ∧ Only rdReg [Reg.DRV_SQ_STATUS.addr p 0 0] r.1 t ∧ Touches [.regs, .drove] r.1 t)
  ∧ (∀ (w : PortAt) (p : Nat) (addr : BitVec 48) (r : State × List Nat) (s : State), w.port.val = p →
    readLoose (busForget s w.req (Reg.DRV_SQ_ARM.addr p 0 0)) addr.toNat 32 = r → sendStatus r.1 p addr.toNat r.2 ≠ 0 →
    ∃ t, exec (.sendArm w addr) s = .next t ∧ getF t Fld.DRV_SQ_STATUS_STATUS p = sendStatus r.1 p addr.toNat r.2
    ∧ getF t Fld.DRV_SQ_STATUS_SEQ p = (getF r.1 Fld.DRV_SQ_STATUS_SEQ p + 1) % 256 ∧ getF t Fld.DRV_ERR_SQ_REFUSED p = 1
    ∧ Only rdReg [Reg.DRV_SQ_STATUS.addr p 0 0, Reg.DRV_ERR.addr p 0 0] r.1 t ∧ Touches [.regs] r.1 t)
  ∧ (∀ (p : Fin 8) (s : State), portState s p ≠ portStopped → portState s p ≠ portDownSt → ∃ t, exec (.laneFrameStart p) s = .next t
    ∧ (getPort t p).frame = ((getPort s p).frame + 1) % 2 ^ 64
    ∧ (∀ f ∈ (getPort t p).air, f.frame = (getPort t p).frame ∧ f.src = ownIndex s ∧ f.herd = herdId s))
  ∧ (∀ (p : Fin 8) (src : Fin 16) (e : AckEntry) (o : Outgoing) (g : OutFrame) (s : State), e.lane ≠ 255 → (getPort s p).flight = [o] →
    sentIn o src e = some g → e.status = 0 → ∃ t, exec (.ackReceive p src [e]) s = .next t
    ∧ getPort t p = { getPort s p with flight := [{ o with out := o.out.filter (fun h => h.index != g.index) }] } ∧ Touches [.drove] s t)
  ∧ (∀ (p : Fin 8) (src : Fin 16) (e : AckEntry) (o : Outgoing) (g : OutFrame) (s : State), e.lane ≠ 255 → (getPort s p).flight = [o] →
    sentIn o src e = some g → e.status = 1 → ∃ t, exec (.ackReceive p src [e]) s = .next t
    ∧ getPort t p = { getPort s p with flight := [] } ∧ getF t Fld.DRV_ERR_XFER_FAIL p = 1
    ∧ (∃ r, t.ev.inFlight = s.ev.inFlight ++ [r] ∧ r.code = 0xA00B) ∧ Touches [.regs, .ev, .drove] s t)
  ∧ (∀ (p : Fin 8) (num : W16) (i : Fin 4096) (o : Outgoing) (g : OutFrame) (s : State), (getPort s p).flight = [o] → o.num = num.toNat →
    memberSuspended s p o.d.dst = false → o.out = [g] → g.index = i.val → g.again = false → g.frame + 4 ≤ (getPort s p).frame
        → g.resends < 8 →
    ∃ t, exec (.frameResendTimeout p (.data num i)) s = .next t
    ∧ getPort t p = { getPort s p with flight := [{ o with out := [{ g with again := true }] }] } ∧ Touches [.drove] s t)
  ∧ (∀ (p : Fin 8) (k : Nat) (o : OutC0) (s : State), (getPort s p).c0out[k]? = some o → o.again = false
        → memberSuspended s p o.f.dst = false →
    o.frame + 4 ≤ (getPort s p).frame → o.resends < 8 → ∃ t, exec (.frameResendTimeout p (.c0 k)) s = .next t
    ∧ getPort t p = { getPort s p with c0out := (getPort s p).c0out.set k { o with again := true } } ∧ Touches [.drove] s t)
  ∧ (∀ (p : Fin 8) (x : W16) (o : Outgoing) (s : State), (getPort s p).flight.find? (fun o => o.num == x.toNat) = some o → o.out = [] →
    o.next = o.d.nframes → o.d.doneEn = false → ∃ t, exec (.transferDone p x) s = .next t
    ∧ getPort t p = { getPort s p with flight := (getPort s p).flight.filter (fun q => q.num != o.num) }
    ∧ Only rdReg [Reg.DRV_SQ_STATUS.addr p 0 0] s t ∧ Touches [.regs, .drove] s t)

/-- R391, R405: an uncorrectable codeword loses the frame; a frame of a stranger is counted, an ADMIT frame outside join slots and tails
among them; one outside the windows is answered 1 and writes nothing; one inside is written and answered 0, or, where its channel takes
no access of its class, neither written nor answered (log entry 245). R392, R400: C0 frames are answered with lane 0xFF in the entry
(the model's reading). R393: a transfer with every frame received ends. R411: a window write waits for the next lane frame. -/
def Obligations.DroveReceiving : Prop :=
  (∀ (p : Fin 8) (f : DataFrame) (ok : Bool) (errs : List Nat) (s : State), (∃ e ∈ errs, 15 < e) →
    ∃ t h, exec (.dataFrameReceive p f ok errs) s = .next t ∧ t.mem = s.mem ∧ getPort t p = { getPort s p with laneHist := h }
    ∧ getF t Fld.DRV_UCW_COUNT p = min (2 ^ 32 - 1) (getF s Fld.DRV_UCW_COUNT p + (errs.filter (15 < ·)).length)
    ∧ Only rdReg [Reg.DRV_UCW.addr p 0 0, Reg.DRV_CSYM.addr p 0 0, Reg.DRV_LSTAT.addr p f.lane 0] s t ∧ Touches [.regs, .drove] s t)
  ∧ (∀ (p : Fin 8) (f : DataFrame) (ok : Bool) (s : State), f.lane < 32 →
    f.herd ≠ herdId s ∨ admitted s p f.src = false ∨ ok = false →
    ∃ t, exec (.dataFrameReceive p f ok []) s = .next t ∧ t.mem = s.mem ∧ (getPort t p).acks = (getPort s p).acks
    ∧ getF t Fld.DRV_STRANGER_COUNT p = min (2 ^ 32 - 1) (getF s Fld.DRV_STRANGER_COUNT p + 1) ∧ getF t Fld.DRV_ERR_STRANGER p = 1)
  ∧ (∀ (p : Fin 8) (f : DataFrame) (s : State), f.lane < 32 → f.herd = herdId s → admitted s p f.src = true → epochOk s p f.epoch = true
        → f.kind = 1 →
    f.lines ≠ 0 → f.dst = ownIndex s → f.src ≠ ownIndex s → windowTakes (getPort s p) f = false →
    ∃ t, exec (.dataFrameReceive p f true []) s = .next t ∧ t.mem = s.mem
    ∧ (getPort t p).acks = (getPort s p).acks ++ [⟨f.src, ⟨f.frame % 2 ^ 32, f.lane, 1⟩⟩]
    ∧ (getPort t p).incoming = (getPort s p).incoming ∧ getF t Fld.DRV_ERR_WINVIOL p = 1)
  ∧ (∀ (p : Fin 8) (f : DataFrame) (s : State), f.lane < 32 → f.herd = herdId s → admitted s p f.src = true → epochOk s p f.epoch = true
        → f.kind = 1 →
    f.lines ≠ 0 → f.dst = ownIndex s → f.src ≠ ownIndex s → windowTakes (getPort s p) f = true → (getPort s p).incoming.length < 64 →
    rangeAccepts s f.addr (64 * f.lines) f.cls = true →
    ∃ t u, exec (.dataFrameReceive p f true []) s = .next t ∧ u = writeLines (countErrors s p f.lane []) f.addr f.lines f.payload
        ∧ t.mem = u.mem
    ∧ (getPort t p).acks = (getPort s p).acks ++ [⟨f.src, ⟨f.frame % 2 ^ 32, f.lane, 0⟩⟩]
    ∧ getF t Fld.DRV_FRAMES_RX_COUNT p = (getF u Fld.DRV_FRAMES_RX_COUNT p + 1) % 2 ^ 64)
  ∧ (∀ (p : Fin 8) (f : DataFrame) (s : State), f.lane < 32 → f.herd = herdId s → admitted s p f.src = true → epochOk s p f.epoch = true
        → f.kind = 1 →
    f.lines ≠ 0 → f.dst = ownIndex s → f.src ≠ ownIndex s → windowTakes (getPort s p) f = true → (getPort s p).incoming.length < 64 →
    rangeAccepts s f.addr (64 * f.lines) f.cls = false → ∃ t, exec (.dataFrameReceive p f true []) s = .next t ∧ t.mem = s.mem
    ∧ (getPort t p).acks = (getPort s p).acks ∧ (getPort t p).incoming = (getPort s p).incoming ∧ Touches [.regs, .drove] s t)
  ∧ (∀ (p : Fin 8) (src : Fin 16) (x : W16) (y : Incoming) (s : State),
    (getPort s p).incoming.find? (fun t => t.src == src.val && t.xfer == x.toNat) = some y → (∀ i, i < y.nframes → i ∈ y.got) →
    bitOf y.rsbx 14 = false → ∃ t, exec (.transferReceived p src x) s = .next t ∧ (src.val, x.toNat) ∈ (getPort t p).doneIn
    ∧ (getPort t p).incoming = (getPort s p).incoming.filter (fun u => !(u.src == src.val && u.xfer == x.toNat)) ∧ Touches [.drove] s t)
  ∧ (∀ (req : Requester) (p : Fin 8) (addr : BitVec 48) (r : State × List Nat) (s : State), req.bridle = true
        → (getPort s p).c0tx.length < 8 →
    readLoose (busForget s req (Reg.DRV_C0TX_ARM.addr p 0 0)) addr.toNat 640 = r → ∃ t, exec (.c0TxArm req p addr) s = .next t
    ∧ getPort t p = { getPort r.1 p with c0tx := (getPort r.1 p).c0tx ++ [c0Of r.2] }
    ∧ getF t Fld.DRV_C0TX_STATUS_QUEUED p = (getPort s p).c0tx.length + 1 ∧ getF t Fld.DRV_C0TX_STATUS_FULL p = 0)
  ∧ (∀ (req : Requester) (p : Fin 8) (addr : BitVec 48) (s : State), req.bridle = true → 8 ≤ (getPort s p).c0tx.length →
    ∃ t, exec (.c0TxArm req p addr) s = .next t ∧ getF t Fld.DRV_C0TX_STATUS_FULL p = 1 ∧ Only rdReg [Reg.DRV_C0TX_STATUS.addr p 0 0] s t
        ∧ Touches [.regs, .bus] s t)
  ∧ (∀ (p : Fin 8) (f : C0Frame) (s : State), f.type ≠ c0Admit → f.herd = herdId s → admitted s p f.src = true → epochOk s p f.epoch = true →
    f.src ≠ ownIndex s → c0Answered f = true → f.dst = 255 ∨ f.dst = ownIndex s →
    (getPort s p).acks.contains ⟨f.src, ⟨f.frame % 2 ^ 32, 255, 0⟩⟩ = false → ∃ t, exec (.c0FrameReceive p f true 0) s = .next t
    ∧ (getPort t p).acks = (getPort s p).acks ++ [⟨f.src, ⟨f.frame % 2 ^ 32, 255, 0⟩⟩])
  ∧ (∀ (p : Fin 8) (f : C0Frame) (tagOk : Bool) (s : State), f.type = c0Admit → f.pos ≠ 1 → f.pos ≠ 2 → f.pos ≠ 4
        → portState s p ≠ portAdmitting →
    admitted s p f.src = false → ∃ t, exec (.c0FrameReceive p f tagOk 0) s = .next t ∧ (getPort t p).acks = (getPort s p).acks
    ∧ getF t Fld.DRV_STRANGER_COUNT p = min (2 ^ 32 - 1) (getF s Fld.DRV_STRANGER_COUNT p + 1))
  ∧ (∀ (p : Fin 8) (f : C0Frame) (tagOk : Bool) (n : Nat) (s : State), 15 < n → f.lane < 32
        → ∃ t h, exec (.c0FrameReceive p f tagOk n) s = .next t
    ∧ getPort t p = { getPort s p with laneHist := h } ∧ getF t Fld.DRV_UCW_COUNT p = min (2 ^ 32 - 1) (getF s Fld.DRV_UCW_COUNT p + 1)
    ∧ Only rdReg [Reg.DRV_UCW.addr p 0 0, Reg.DRV_CSYM.addr p 0 0, Reg.DRV_LSTAT.addr p f.lane 0] s t ∧ Touches [.regs, .drove] s t)
  ∧ (∀ (a : PortAt) (p : Nat) (w : Fin 8) (v : W64) (s : State), a.port.val = p → (∃ t, exec (.rxwinWrite a w .base v) s = .next t
    ∧ rdReg t (Reg.DRV_RXWIN_BASE.addr p w 0) = (v &&& 0xFFFFFFFF0000) ∧ t.bus = (busForget s a.req (Reg.DRV_RXWIN_BASE.addr p w 0)).bus
    ∧ Only rdReg [Reg.DRV_RXWIN_BASE.addr p w 0] s t ∧ Touches [.regs, .bus] s t)
    ∧ (∃ t, exec (.rxwinWrite a w .size v) s = .next t ∧ rdReg t (Reg.DRV_RXWIN_SIZE.addr p w 0) = (v &&& 0xFFFFFFFF)
    ∧ Only rdReg [Reg.DRV_RXWIN_SIZE.addr p w 0] s t ∧ Touches [.regs] s t)
    ∧ (∃ t, exec (.rxwinWrite a w .ctl v) s = .next t ∧ rdReg t (Reg.DRV_RXWIN_CTL.addr p w 0) = (v &&& 0x1FFFF)
    ∧ Only rdReg [Reg.DRV_RXWIN_CTL.addr p w 0] s t ∧ Touches [.regs] s t))

/-- R396: a reservation not heard back counts a collision and backs off. R397: the lanes of a grant are the member's own in the next frame.
R395: a loop delay above 14,000 D-cycles takes the port down. R398: a member with nothing to send fills its owned slot with its masks;
one not heard for 256 frames leaves. R399: a port that hears no leader leads alone with epoch 1; so does one on a point-to-point link
(log entry 134); a HANDOVER names the leader 8 frames on. -/
def Obligations.StarAccess : Prop :=
  (∀ (p : Fin 8) (slot : Fin 32) (draw : Nat) (r : ResReq) (s : State), portStar s p = true → portState s p = portUp
        → portSuspended s p = false →
    (getPort s p).backoff = none → (getPort s p).silence = 0 → wanted s p = some r → portLeads s p = false →
    ∃ t, exec (.reservation p slot true draw) s = .next t
    ∧ getPort t p = { getPort s p with
        fails := 0, capRaised := false
        resAir := (getPort s p).resAir ++
        [{ slot := slot, herd := herdId s, frame := (getPort s p).frame, epoch := portEpoch s p, req := r }] }
    ∧ Only getPort [p.val] s t ∧ Touches [.drove] s t)
  ∧ (∀ (p : Fin 8) (slot : Fin 32) (draw : Nat) (s : State), portStar s p = true → portState s p = portUp → portSuspended s p = false →
    (getPort s p).backoff = none → (getPort s p).silence = 0 → (wanted s p).isSome = true →
    ∃ t, exec (.reservation p slot false draw) s = .next t ∧ (getPort t p).fails = (getPort s p).fails + 1
    ∧ (getPort t p).backoff = some (draw % 2 ^ min ((getPort s p).fails + 1) 6)
    ∧ getF t Fld.DRV_COLL_COUNT p = min (2 ^ 32 - 1) (getF s Fld.DRV_COLL_COUNT p + 1) ∧ Only rdReg [Reg.DRV_COLL.addr p 0 0] s t
    ∧ Touches [.regs, .ev, .drove] s t)
  ∧ (∀ (p : Fin 8) (s : State), (getPort s p).backoff = some 0 → ∃ t, exec (.reservationBackoffEnd p) s = .next t
    ∧ getPort t p = { getPort s p with backoff := none } ∧ Only getPort [p.val] s t ∧ Touches [.drove] s t)
  ∧ (∀ (p : Fin 8) (heard : List ResReq) (owners : List Nat) (news : GrantNews) (s : State), portStar s p = true → portState s p = portUp →
    portLeads s p = false → (getPort s p).silence = 0 → (∀ r ∈ heard, admitted s p r.src = true)
        → ∃ t, exec (.grant p heard owners news) s = .next t ∧ getF t Fld.DRV_MEMBERS_ADMITTED p = news.members.toNat
    ∧ (∃ l, (getPort t p).grants = (getPort s p).grants.filter (fun g => decide ((getPort s p).frame ≤ g.1)) ++ [((getPort s p).frame + 1,
        l)]
    ∧ (∀ j, j ∈ l ↔ j < 32 ∧ owners.getD j 255 = ownIndex s ∧ j ≠ getF s Fld.DRV_CFG_CTLLANE p))
    ∧ (∀ i f, news.leader = some (i, f) → (getPort t p).newLeader = some (f, i))
    ∧ (∀ e f why, news.epoch = some (e, f, why) → (getPort t p).newEpoch = some (e, some f, why))
    ∧ Only rdReg [Reg.DRV_MEMBERS.addr p 0 0] s t ∧ Touches [.regs, .drove] s t)
  ∧ (∀ (p : Fin 8) (r : ResReq) (owners : List Nat) (news : GrantNews) (s : State), portStar s p = true → portState s p = portUp →
    (getPort s p).silence = 0 → admitted s p r.src = false → portLeads s p = false → ∃ t, exec (.grant p [r] owners news) s = .next t
    ∧ getF t Fld.DRV_STRANGER_COUNT p = min (2 ^ 32 - 1) (getF s Fld.DRV_STRANGER_COUNT p + 1) ∧ getF t Fld.DRV_ERR_STRANGER p = 1)
  ∧ (∀ (p : Fin 8) (s : State), portStar s p = true → portState s p = portUp → portSuspended s p = false → c0Ready (getPort s p) = []
        → (getPort s p).silence = 0 →
    ∃ t f, exec (.ownedSlot ⟨p, none⟩) s = .next t ∧ getPort t p =
        { getPort s p with c0air := (getPort s p).c0air ++ [f], c0out := (getPort s p).c0out ++ c0Owed s p [f] } ∧ f.src = ownIndex s
        ∧ f.type = 0
    ∧ f.pos = 3 ∧ f.payload = toBytes 4 (laneMask s p false) ++ toBytes 4 (laneMask s p true) ∧ Touches [.drove] s t)
  ∧ (∀ (p : Fin 8) (d : Nat) (s : State), portStar s p = true → portState s p = portUp → portSuspended s p = false
        → (getPort s p).silence = 0 →
    ∃ t, exec (.ownedSlot ⟨p, some d⟩) s = .next t ∧ (getPort t p).loop = some d
        ∧ portState t p = (if 14000 < d then portDownSt else portUp)
    ∧ (14000 < d → ∃ e ∈ t.ev.inFlight, e.code = 0xA002))
  ∧ (∀ (p : Fin 8) (i : Fin 16) (s : State), portStar s p = true → portState s p = portUp → i.val ≠ ownIndex s
        → memberSuspended s p i = false →
    (nmGet (fun _ => ({} : Heard)) (getPort s p).heard i).at_ + 256 ≤ (getPort s p).frame → admitted s p i = true →
    ∃ t, exec (.memberSilent p i) s = .next t ∧ admitted t p i = false ∧ (∀ o ∈ (getPort t p).flight, o.d.dst ≠ i.val)
    ∧ (∀ d ∈ (getPort t p).sq, d.dst ≠ i.val))
  ∧ (∀ (p : Fin 8) (i : Fin 16) (s : State), portState s p = portAdmitting → i.val = ownIndex s → ∃ t, exec (.leaderElection p i) s = .next t
    ∧ portState t p = portUp ∧ portLeads t p = true ∧ getF t Fld.DRV_STATUS_LEADIDX p = i.val ∧ portEpoch t p = 1
    ∧ getF t Fld.DRV_MEMBERS_ADMITTED p = 2 ^ i.val ∧ (∃ a b, t.ev.inFlight = s.ev.inFlight ++ [a, b] ∧ a.code = 0xA009 ∧ b.code = 0xA001)
    ∧ Touches [.regs, .ev, .freeCtr, .drove] s t)
  ∧ (∀ (p : Fin 8) (i : Fin 16) (s : State), portState s p = portUp → admitted s p i = true → ∃ t, exec (.handover p i) s = .next t
    ∧ (getPort t p).newLeader = some ((getPort s p).frame + 8, i.val) ∧ Touches [.drove] s t)

/-- R388: a leader opens the next epoch with a key and a KEY frame, whose sending fixes the frame it begins in; a member takes the one
announced. It has no frame until its KEY frame is sent (log entry 222). A further change waits until an announced one has taken effect.
R403, R457: the checks of R457 are made in order, with the reports' signatures opaque (log entry 19); an admission ends with the member
admitted and 0xA005, or is refused with 0xA007 and the check that failed. R404: a member that leaves loses its transfers. R409: a
suspension takes effect 8 frames on, ends with RESUME, this device's own once it has its control lane (log entry 243), and may last 16
ms. -/
def Obligations.HerdControl : Prop :=
  (∀ (p : Fin 8) (e : W32) (n : W64) (key : W256) (s : State), portState s p = portUp → portLeads s p = true
        → (getPort s p).newEpoch = none →
    (getPort s p).epochAt + 2 ^ 30 ≤ (getPort s p).frame → ∃ t, exec (.epochChange p 3 e ⟨n, key⟩) s = .next t
    ∧ (getPort t p).newEpoch = some ((portEpoch s p + 1) % 2 ^ 32, none, 3)
        ∧ ((getPort t p).keys.find? (·.1 == (portEpoch s p + 1) % 2 ^ 32)).isSome = true
    ∧ (∃ f, (getPort t p).c0hw = (getPort s p).c0hw ++ [f] ∧ f.type = c0Key) ∧ Only getPort [p.val] s t ∧ Touches [.freeCtr, .drove] s t)
  ∧ (∀ (p : Fin 8) (why : Fin 4) (e : W32) (n : W64) (key : W256) (s : State), portState s p = portUp → portLeads s p = false →
    ∃ t, exec (.epochChange p why e ⟨n, key⟩) s = .next t
    ∧ getPort t p = { getPort s p with
        newEpoch := some (e.toNat, some n.toNat, why.val), keys := (getPort s p).keys.filter (fun k => k.1 != e.toNat) ++ [(e.toNat, key)] }
    ∧ Only getPort [p.val] s t ∧ Touches [.drove] s t)
  ∧ (∀ (p : Fin 8) (m : AdmitMsg) (s : State), portState s p = portUp → portLeads s p = true → m.step = 3 → admitRefused s p m = 0 →
    ∃ t, exec (.admitFrame p m) s = .next t ∧ admitted t p (m.idx % 16) = true ∧ (∃ e, t.ev.inFlight = s.ev.inFlight ++ [e]
        ∧ e.code = 0xA005)
    ∧ Only rdReg [Reg.DRV_MEMBERS.addr p 0 0] s t ∧ Touches [.regs, .ev, .freeCtr, .drove] s t)
  ∧ (∀ (p : Fin 8) (m : AdmitMsg) (s : State), portState s p = portUp → portLeads s p = true → m.step = 1 ∨ m.step = 3
        → admitRefused s p m ≠ 0 →
    ∃ t, exec (.admitFrame p m) s = .next t ∧ (∃ e, t.ev.inFlight = s.ev.inFlight ++ [e] ∧ e.code = 0xA007
      ∧ e.detail = packDetail [(0, p), (3, m.idx % 16), (7, admitRefused s p m)]) ∧ Touches [.ev] s t)
  ∧ (∀ (p : Fin 8) (m : AdmitMsg) (s : State), m.step = 3 →
    (nmFind s.drove.roster (m.idx % 16) ≠ some (fieldOf (m.report.take 1024) 16 48) → admitRefused s p m = 1)
    ∧ (nmFind s.drove.roster (m.idx % 16) = some (fieldOf (m.report.take 1024) 16 48) →
      (reportOk s (nmGet (fun _ => []) (getPort s p).challenge (m.idx % 16)) m.report = false → admitRefused s p m = 2)
      ∧ (reportOk s (nmGet (fun _ => []) (getPort s p).challenge (m.idx % 16)) m.report = true →
        (bitOf (fieldOf (m.report.take 1024) 135 1) 0 = true ∨ fieldOf (m.report.take 1024) 132 1 < getF s Fld.TCK_HERDMIN_MIN
        → admitRefused s p m = 3)
        ∧ (bitOf (fieldOf (m.report.take 1024) 135 1) 0 = false → getF s Fld.TCK_HERDMIN_MIN ≤ fieldOf (m.report.take 1024) 132 1 →
          admitRefused s p m = if m.exchanged then 0 else 4))))
  ∧ (∀ (nonce rep cert : List Nat) (s : State), cert = rep.drop 4412 → reportOk s nonce rep = true → rep.length = 8056
    ∧ Config.sha384 (Config.mfgKey.take 97) = s.tack.mfgRootEc ∧ Config.sha384 (Config.mfgKey.drop 97) = s.tack.mfgRootHss
    ∧ pairOk Config.mfgKey (cert.take 256) ((cert).drop 256) = true
    ∧ pairOk (((cert.take 256).drop 80).take 157) (rep.take 1024) ((rep.drop 1024).take 3388) = true
    ∧ Config.sha384 ((((cert.take 256).drop 80).take 157).take 97) = fieldOf (rep.take 1024) 16 48
    ∧ ((rep.take 1024).drop 64).take 48 = padNat 48 nonce ∧ fieldOf (rep.take 1024) 10 2 = 2)
  ∧ (∀ (p : Fin 8) (m : AdmitMsg) (s : State), portState s p = portAdmitting → m.step = 2 → admitRefused s p m = 0 →
    ∃ t r, exec (.admitFrame p m) s = .next t ∧ getPort t p = { getPort s p with vouched := true } ∧ t.tack.signs = s.tack.signs ++ [r]
    ∧ Only getPort [p.val] s t ∧ Touches [.freeCtr, .drove, .tack] s t)
  ∧ (∀ (p : Fin 8) (m : AdmitMsg) (s : State), portState s p = portAdmitting → m.step = 4 → (getPort s p).vouched = true
        → m.exchanged = true →
    ∃ t, exec (.admitFrame p m) s = .next t ∧ portState t p = portUp ∧ portEpoch t p = m.epoch % 2 ^ 32 ∧ admitted t p (ownIndex s) = true
    ∧ getF t Fld.DRV_STATUS_LEADIDX p = m.leader % 16 ∧ (∃ a b, t.ev.inFlight = s.ev.inFlight ++ [a, b] ∧ a.code = 0xA005 ∧ b.code = 0xA001))
  ∧ (∀ (p : Fin 8) (i : Fin 16) (e f why : Nat) (s : State), i.val ≠ ownIndex s → admitted s p i = true → portLeads s p = true →
    (getPort s p).newEpoch = some (e, some f, why) → ∃ t, exec (.leave p i false) s = .next t
        ∧ (getPort t p).newEpoch = some (e, some f, why)
    ∧ (getPort t p).laterEpochs = (getPort s p).laterEpochs ++ [1])
  ∧ (∀ (p : Fin 8) (i : Fin 16) (s : State), i.val ≠ ownIndex s → admitted s p i = true → ∃ t, exec (.leave p i false) s = .next t
    ∧ admitted t p i = false ∧ memberSuspended t p i = false ∧ (∀ o ∈ (getPort t p).flight, o.d.dst ≠ i.val)
        ∧ (∀ d ∈ (getPort t p).sq, d.dst ≠ i.val)
    ∧ (∀ j : Fin 16, j ≠ i → admitted t p j = admitted s p j))
  ∧ (∀ (p : Fin 8) (i : Fin 16) (s : State), portStar s p = true → portState s p = portUp → admitted s p i = true →
    getF s Fld.DRV_STATUS_LEADIDX p ≠ i.val → ∃ t, exec (.suspend p i) s = .next t
    ∧ (getPort t p).suspendAt = (getPort s p).suspendAt ++ [((getPort s p).frame + 8, i.val)] ∧ Only getPort [p.val] s t
        ∧ Touches [.drove] s t)
  ∧ (∀ (p : Fin 8) (i : Fin 16) (s : State), memberSuspended s p i = true →
    (i.val = ownIndex s → laneOn s p (getF s Fld.DRV_CFG_CTLLANE p) false = true ∧ laneOn s p (getF s Fld.DRV_CFG_CTLLANE p) true = true) →
    ∃ t, exec (.resume p i) s = .next t ∧ memberSuspended t p i = false
    ∧ (i.val = ownIndex s → portSuspended t p = false) ∧ admitted t p i = admitted s p i ∧ Touches [.regs, .drove] s t)
  ∧ (∀ (p : Fin 8) (i : Fin 16) (us : Nat) (s : State), memberSuspended s p i = true → i.val ≠ ownIndex s → admitted s p i = true →
    ∃ t, exec (.suspensionTimeout p i us) s = .next t ∧ (us ≤ 16000 → t = s)
    ∧ (16000 < us → admitted t p i = false ∧ memberSuspended t p i = false ∧ (∃ e ∈ t.ev.inFlight, e.code = 0xA006)))

/-- R406: a lane whose ring is out of service leaves with 0xA003 and its cause. R407: a star takes a member's masks 8 frames on. A lane
dropped for its errors or its ring leaves at once on the dropping side (log entry 132), and training keeps a DEGRADED lane off (log
entry 133). R408: a lane without errors in a probe that was due returns 8 frames on, and LANEMAP carries its masks as they then are (log
entries 132, 224). R410: START trains a stopped port, which is then admitted or down; STOP fails its transfers, and gives up a lane that
the farrier asked for (log entry 135); configuration is written only while stopped. -/
def Obligations.LanesAndPorts : Prop :=
  (∀ (p : Fin 8) (j : Fin 32) (rx : Bool) (s : State), laneRingUp s p j rx = false → laneOn s p j rx = true
        → (getFarPort s p).lane = none →
    ∃ t, exec (.laneDrop p j rx 1) s = .next t ∧ laneOn t p j rx = false ∧ laneCause t p j rx = 1 ∧ (∃ e ∈ t.ev.inFlight, e.code = 0xA003)
    ∧ (∀ k : Fin 32, k ≠ j → laneOn t p k rx = laneOn s p k rx) ∧ laneMask t p (!rx) = laneMask s p (!rx))
  ∧ (∀ (p : Fin 8) (j : Fin 32) (rx : Bool) (c : Fin 5) (s : State), c.val = 4 → laneOn s p j rx = true →
    ∃ t, exec (.laneDrop p j rx c) s = .next t ∧ laneOn t p j rx = false ∧ laneCause t p j rx = 4)
  ∧ (∀ (p : Fin 8) (i : Fin 16) (tx rx : W32) (s : State), portState s p = portUp → portStar s p = true → i.val ≠ ownIndex s →
    ∃ t, exec (.lanemap p i tx rx) s = .next t
    ∧ getPort t p = { getPort s p with maskNext := (getPort s p).maskNext ++ [((getPort s p).frame + 8, i.val, tx.toNat, rx.toNat)] }
    ∧ Only getPort [p.val] s t ∧ Touches [.drove] s t)
  ∧ (∀ (p : Fin 8) (j : Fin 32) (rx : Bool) (s : State), laneOn s p j rx = false → laneCause s p j rx = 2 → probeDue s p j rx = true →
    ∃ t, exec (.laneProbe p j rx 0) s = .next t ∧ (⟨(getPort s p).frame + 8, j.val, rx, true, 0⟩ : MaskChange) ∈ (getPort t p).changes
    ∧ (∃ f, (getPort t p).c0hw = (getPort s p).c0hw ++ [f] ∧ f.type = c0Lanemap
      ∧ f.payload = toBytes 4 (maskSoon t p false) ++ toBytes 4 (maskSoon t p true) ∧ bitOf (maskSoon t p rx) j = true)
        ∧ laneOn t p j rx = false ∧ Touches [.regs, .drove] s t)
  ∧ (∀ (req : Requester) (p : Fin 8) (s : State), req.bridle = true → portState s p = portStopped → ∃ t, exec (.portStart req p) s = .next t
    ∧ portState t p = portTraining ∧ getF t Fld.DRV_STATUS_MODE p = getF s Fld.DRV_CFG_MODE p ∧ Only rdReg [Reg.DRV_STATUS.addr p 0 0] s t
    ∧ Touches [.regs] s t)
  ∧ (∀ (p : Fin 8) (tx rx : W32) (s : State), portState s p = portTraining → (getFarPort s p).lane = none
        → ∃ t, exec (.portTrainingEnd p tx rx) s = .next t
    ∧ portState t p = (if lanesShort t p = 0 then portAdmitting else portDownSt)
    ∧ (∀ j : Fin 32, laneOn t p j false = (bitOf tx.toNat j && laneRingUp s p j false && !bitOf (getF s Fld.FAR_PORT_DEGRADED_LANES p) j))
    ∧ (∀ j : Fin 32, laneOn t p j true = (bitOf rx.toNat j && laneRingUp s p j true && !bitOf (getF s Fld.FAR_PORT_DEGRADED_LANES p) j)))
  ∧ (∀ (p : Fin 8) (s : State), portState s p = portAdmitting → ∃ t, exec (.admissionTimeout p) s = .next t ∧ portState t p = portDownSt
    ∧ (∃ e, t.ev.inFlight = s.ev.inFlight ++ [e] ∧ e.code = 0xA002) ∧ Only rdReg [Reg.DRV_STATUS.addr p 0 0] s t ∧ Touches [.regs, .ev] s t)
  ∧ (∀ (req : Requester) (p : Fin 8) (s : State), req.bridle = true → portState s p = portUp → ∃ t, exec (.portStop req p) s = .next t
    ∧ portState t p = portStopping ∧ (getPort t p).sq = [] ∧ (getPort t p).flight = []
    ∧ (∃ f, (getPort t p).c0hw = (getPort s p).c0hw ++ [f] ∧ f.type = c0Leave) ∧ (∃ e ∈ t.ev.inFlight, e.code = 0xA002))
  ∧ (∀ (p : Fin 8) (s : State), portState s p = portStopping → (getFarPort s p).lane = none → ∃ t, exec (.portStopped p) s = .next t
        ∧ portState t p = portStopped
    ∧ laneMask t p false = 0 ∧ laneMask t p true = 0 ∧ getF t Fld.DRV_MEMBERS_ADMITTED p = 0 ∧ getPort t p = (getPort s p).stopped
    ∧ Touches [.regs, .drove] s t)
  ∧ (∀ (p : Fin 8) (j : Nat) (s : State), portState s p = portStopping → (getFarPort s p).lane = some j → (getPort s p).released ≠ some j →
    ∃ t, exec (.portStopped p) s = .next t ∧ portState t p = portStopped ∧ (getPort t p).released = some j
    ∧ laneMask t p false = 0 ∧ laneMask t p true = 0)
  ∧ (∀ (req : Requester) (p : Fin 8) (v : W64) (s : State), req.bridle = true → portState s p = portStopped
        → ∃ t, exec (.drvConfigWrite req (.cfg p) v) s = .next t
    ∧ rdReg t (Reg.DRV_CFG.addr p 0 0) = v &&& 0x7F ∧ Only rdReg [Reg.DRV_CFG.addr p 0 0] s t ∧ Touches [.regs, .bus] s t)
  ∧ (∀ (req : Requester) (p : Fin 8) (v : W64) (s : State), req.bridle = true → portState s p ≠ portStopped
        → ∃ t, exec (.drvConfigWrite req (.cfg p) v) s = .next t
    ∧ rdReg t (Reg.DRV_CFG.addr p 0 0) = rdReg s (Reg.DRV_CFG.addr p 0 0) ∧ getF t Fld.DRV_ERR_CFG_REFUSED p = 1
    ∧ (∃ e, t.ev.inFlight = s.ev.inFlight ++ [e] ∧ e.code = 0xA00C) ∧ Only rdReg [Reg.DRV_ERR.addr p 0 0] s t
        ∧ Touches [.regs, .ev, .bus] s t)

/-- R9 to R15: an unassigned address reads 0 and discards writes; an access of the wrong width or alignment is a bus error and changes no
register; a whole write takes the RW bits and clears the W1C bits written 1; a half write is held until the high half arrives, and a
high half without a low half is a bus error; a low-half read latches the high half, and a high-half read without a latch reads the
register; a read clears the RC bits. The light block and the farrier write the registers of R24 only, by log entry 184 with no effect
elsewhere. A register reserved to the bridle is unassigned for others. -/
def Obligations.RegisterAccess : Prop :=
  (∀ (req : Requester) (addr : BitVec 48) (w : Fin 65) (v : W64) (s : State), (∀ j, j < w.val → visibleAt req (addr.toNat + j) = none) →
    (∃ t, exec (.registerWrite req addr w v) s = .next t ∧ t.bus = { s.bus with reply := .done } ∧ Touches [.bus] s t)
    ∧ (∃ t, exec (.rcRead req addr w) s = .next t ∧ t.bus = { s.bus with reply := .data 0 } ∧ Touches [.bus] s t))
  ∧ (∀ (req : Requester) (addr : BitVec 48) (w : Fin 65) (v : W64) (s : State), busTarget req addr.toNat w = .bad →
    (∃ t, exec (.registerWrite req addr w v) s = .next t ∧ t.bus.reply = .busError ∧ Touches [.bus] s t)
    ∧ (∃ t, exec (.rcRead req addr w) s = .next t ∧ t.bus.reply = .busError ∧ Touches [.bus] s t))
  ∧ (∀ (req : Requester) (addr : Nat), (∀ r, visibleAt req addr = some r → r.desc.bridleOnly = true → req.bridle = true)
    ∧ (regByteAt addr = none → visibleAt req addr = none))
  ∧ (∀ (req : Requester) (addr : BitVec 48) (w : Fin 65) (v : W64) (r : RegByte) (s : State), busTarget req addr.toNat w = .whole r →
    req ≠ .light → (req = .farrier → farrierTarget r = true ∧ r.desc.is Reg.STL_CFG = false) → writeAct r.desc = none → r.desc.blk ≠ 8 →
    ∃ t, exec (.registerWrite req addr w v) s = .next t ∧ t.bus.reply = .done
    ∧ rdReg t r.addr = (rdReg s r.addr &&& ~~~r.rwBits &&& ~~~(v &&& BitVec.ofNat 64 r.desc.w1c)) ||| (v &&& r.rwBits)
    ∧ Only rdReg [r.addr] s t ∧ Touches [.regs, .bus] s t)
  ∧ (∀ (req : Requester) (addr : BitVec 48) (w : Fin 65) (v : W64) (r : RegByte) (s : State), busTarget req addr.toNat w = .whole r →
    (req = .farrier ∧ farrierTarget r = false)
      ∨ (req = .light ∧ r.desc.is Reg.STL_ID = false ∧ r.desc.is Reg.LTE_RING_CFG = false ∧ r.desc.is Reg.LTE_SPARES = false) →
    ∃ t, exec (.registerWrite req addr w v) s = .next t ∧ t.bus.reply = .done ∧ Touches [.bus] s t)
  ∧ (∀ (addr : BitVec 48) (w : Fin 65) (v : W64) (r : RegByte) (s : State), busTarget .light addr.toNat w = .whole r →
    ∃ t, exec (.registerWrite .light addr w v) s = .next t ∧ t.bus.reply = .done ∧ Touches [.regs, .bus] s t
    ∧ (r.desc.is Reg.LTE_SPARES = true → rdReg t r.addr = BitVec.ofNat 64 (v.toNat % 2 ^ 16) ∧ Only rdReg [r.addr] s t)
    ∧ (r.desc.is Reg.LTE_RING_CFG = true → getF t Fld.LTE_RING_CFG_LINE 0 r.i = v.toNat % 64
      ∧ Only rdReg [Reg.LTE_RING_CFG.addr 0 r.i 0] s t)
    ∧ (r.desc.is Reg.STL_ID = true → getF t Fld.STL_ID_LINE r.w = bitsOf v.toNat Fld.STL_ID_LINE.lo Fld.STL_ID_LINE.len
      ∧ Only rdReg [Reg.STL_ID.addr r.w 0 0] s t))
  ∧ (∀ (req : Requester) (addr : BitVec 48) (w : Fin 65) (r : RegByte) (s : State), busTarget req addr.toNat w = .whole r →
    ∃ t, exec (.rcRead req addr w) s = .next t ∧ t.bus.reply = .data (regValue s r.desc r.w r.i r.k)
    ∧ rdReg t r.addr = rdReg s r.addr &&& ~~~(BitVec.ofNat 64 r.desc.rc) ∧ Only rdReg [r.addr] s t ∧ Touches [.regs, .bus] s t)
  ∧ (∀ (req : Requester) (addr : BitVec 48) (v : W32) (r : RegByte) (s : State), busTarget req addr.toNat 4 = .half r false →
    ∃ t, exec (.lowHalfWrite req addr v) s = .next t ∧ t.bus.reply = .done ∧ halfOf t.bus.held req r.addr = some v.toNat
    ∧ halfOf t.bus.latched req r.addr = none ∧ Touches [.bus] s t)
  ∧ (∀ (req : Requester) (addr : BitVec 48) (v : W32) (r : RegByte) (s : State), busTarget req (addr.toNat + 4) 4 = .half r true →
    halfOf s.bus.held req r.addr = none → ∃ t, exec (.highHalfWrite req addr v) s = .next t ∧ t.bus.reply = .busError ∧ Touches [.bus] s t)
  ∧ (∀ (req : Requester) (addr : BitVec 48) (v : W32) (lo : Nat) (r : RegByte) (s : State), busTarget req (addr.toNat + 4) 4 = .half r true →
    halfOf s.bus.held req r.addr = some lo → req ≠ .light → (req = .farrier → farrierTarget r = true ∧ r.desc.is Reg.STL_CFG = false) →
    writeAct r.desc = none → r.desc.blk ≠ 8 → ∃ t, exec (.highHalfWrite req addr v) s = .next t
    ∧ t.bus.reply = .done ∧ halfOf t.bus.held req r.addr = none ∧ rdReg t r.addr = (rdReg s r.addr &&& ~~~r.rwBits
    &&& ~~~(BitVec.ofNat 64 (lo + v.toNat * 2 ^ 32) &&& BitVec.ofNat 64 r.desc.w1c)) ||| (BitVec.ofNat 64 (lo + v.toNat * 2 ^ 32) &&&
        r.rwBits)
    ∧ Only rdReg [r.addr] s t ∧ Touches [.regs, .bus] s t)
  ∧ (∀ (req : Requester) (addr : BitVec 48) (r : RegByte) (s : State), busTarget req addr.toNat 4 = .half r false →
    ∃ t, exec (.lowHalfRead req addr) s = .next t ∧ t.bus.reply = .data (regValue s r.desc r.w r.i r.k % 2 ^ 32)
    ∧ halfOf t.bus.latched req r.addr = some (regValue s r.desc r.w r.i r.k / 2 ^ 32)
    ∧ rdReg t r.addr = rdReg s r.addr &&& ~~~(BitVec.ofNat 64 r.desc.rc) ∧ Only rdReg [r.addr] s t ∧ Touches [.regs, .bus] s t)
  ∧ (∀ (req : Requester) (addr : BitVec 48) (v : Nat) (r : RegByte) (s : State), busTarget req (addr.toNat + 4) 4 = .half r true →
    halfOf s.bus.latched req r.addr = some v → ∃ t, exec (.highHalfRead req addr) s = .next t ∧ t.bus.reply = .data v
    ∧ halfOf t.bus.latched req r.addr = none ∧ Touches [.bus] s t)
  ∧ (∀ (req : Requester) (addr : BitVec 48) (r : RegByte) (s : State), busTarget req (addr.toNat + 4) 4 = .half r true →
    halfOf s.bus.latched req r.addr = none → ∃ t, exec (.highHalfRead req addr) s = .next t
    ∧ t.bus.reply = .data (regValue s r.desc r.w r.i r.k / 2 ^ 32) ∧ Touches [.bus] s t)

/-- R478: a record enters the queue of 256, or is lost with EVT_LOST counted and marks the next; taking one removes the head and, when an
episode of loss has ended, raises 0xD007 (the loss condition is the model's reading of R478). R501: records arriving together are
entered in UNIT order. R139, R140, R142, R148: the bytes of a load go to its register, the bits above them free (log entry 12), those of
a vector load to its vector register, those of a store to memory; an atomic leaves its function of the old value at its target and the
old value in its register; a store that cannot be done leaves a deferred error. -/
def Obligations.EventQueue : Prop :=
  (∀ (r : EventRec) (s : State), s.ev.inFlight = [r] → s.ev.queue.length < 256 → ∃ t, exec (.eventRecordArrival [0]) s = .next t
    ∧ t.ev = { s.ev with inFlight := [], queue := s.ev.queue ++ [⟨r.time, r.code, r.unit, r.nested, s.ev.afterLoss, r.addr, r.detail⟩], afterLoss := false }
    ∧ Touches [.ev] s t)
  ∧ (∀ (r : EventRec) (s : State), s.ev.inFlight = [r] → 256 ≤ s.ev.queue.length → ∃ t, exec (.eventRecordArrival [0]) s = .next t
    ∧ t.ev = { s.ev with inFlight := [], episode := s.ev.episode + 1, afterLoss := true }
    ∧ getF t Fld.EVT_LOST_COUNT = min (2 ^ 32 - 1) (getF s Fld.EVT_LOST_COUNT + 1) ∧ Only rdReg [Reg.EVT_LOST.addr 0 0 0] s t
        ∧ Touches [.regs, .ev] s t)
  ∧ (∀ (a b : EventRec) (s : State), s.ev.inFlight = [a, b] → b.unit < a.unit → s.ev.queue.length < 255 → s.ev.afterLoss = false →
    ∃ t, exec (.eventRecordArrival [0, 1]) s = .next t ∧ t.ev.inFlight = []
    ∧ t.ev.queue = s.ev.queue ++ [{ b with afterLoss := false }, { a with afterLoss := false }] ∧ Touches [.ev] s t)
  ∧ (∀ (s : State), firmwareRuns s = true → s.ev.queue ≠ [] → s.ev.episode = 0 → ∃ t, exec .eventPop s = .next t
    ∧ t.ev.queue = s.ev.queue.tail ∧ t.ev.episode = 0)
  ∧ (∀ (s : State), firmwareRuns s = true → s.ev.queue ≠ [] → 0 < s.ev.episode → s.ev.queue.length ≤ 129 → ∃ t, exec .eventPop s = .next t
    ∧ t.ev.queue = s.ev.queue.tail ∧ t.ev.episode = 0 ∧ (∃ e ∈ t.ev.inFlight, e.code = 0xD007 ∧ e.detail = min s.ev.episode 0xFFFFFFFF))
  ∧ (∀ (i : Fin 64) (n : Fin 256) (a : Access) (w : Nat) (rd : Nat) (s : State), (getThread s i n).out = [a] → a.kind = .load w rd →
    inControl a.addr = false → reachable s a.addr = true → accepts s a.addr 1 = true → (memRead s a.addr w).failed = false →
    ∃ t, exec (.loadResultReturn i n 0) s = .next t ∧ (getThread t i n).out = []
    ∧ (getThread t i n).x = ((getThread s i n).setX rd (loadValue w (ofBytes (memRead s a.addr w).bytes))).x
    ∧ (getThread t i n).errs = (getThread s i n).errs)
  ∧ (∀ (i : Fin 64) (n : Fin 256) (a : Access) (vd : Nat) (m : MemRead) (s : State), (getThread s i n).out = [a] → a.kind = .vload vd →
    inControl a.addr = false → reachable s a.addr = true → accepts s a.addr 1 = true → memRead s a.addr 64 = m → m.failed = false →
    ∃ t, exec (.loadResultReturn i n 0) s = .next t ∧ (getThread t i n).out = [] ∧ t.mem = m.s.mem
    ∧ (getThread t i n).v = ((getThread s i n).setV vd (BitVec.ofNat 512 (ofBytes m.bytes))).v ∧ (getThread t i n).x = (getThread s i n).x
    ∧ (getThread t i n).errs = (getThread s i n).errs)
  ∧ (∀ (i : Fin 64) (n : Fin 256) (a : Access) (bs : List Byte) (u s : State), (getThread s i n).out = [a] →
    a.kind = .store bs ∨ a.kind = .vstore bs → inControl a.addr = false → reachable s a.addr = true → accepts s a.addr 1 = true →
    memWriteBytes s a.addr (bs.map (·.toNat)) = (u, false) → ∃ t, exec (.loadResultReturn i n 0) s = .next t ∧ t.mem = u.mem
    ∧ getThread t i n = { getThread s i n with out := [], fence := false } ∧ Touches [.shed] u t)
  ∧ (∀ (i : Fin 64) (n : Fin 256) (a : Access) (func size rd : Nat) (x y : W64) (m : MemRead) (u s : State), (getThread s i n).out = [a] →
    a.kind = .atomic func size rd x y → inControl a.addr = false → reachable s a.addr = true → accepts s a.addr 1 = true →
    memRead s a.addr size = m → m.failed = false →
    memWriteBytes m.s a.addr (toBytes size (atomicFn func size (ofBytes m.bytes) x.toNat y.toNat)) = (u, false) →
    ∃ t, exec (.loadResultReturn i n 0) s = .next t ∧ t.mem = u.mem
    ∧ (getThread t i n).x = ((getThread s i n).setX rd (loadValue size (ofBytes m.bytes))).x
    ∧ (getThread t i n).out = [] ∧ (getThread t i n).errs = (getThread s i n).errs ∧ Touches [.shed] u t)
  ∧ (∀ (size old x y : Nat), atomicFn 0 size old x y = (old + x) % 2 ^ (8 * size)
    ∧ atomicFn 1 size old x y = Nat.land old (x % 2 ^ (8 * size)) ∧ atomicFn 2 size old x y = Nat.lor old (x % 2 ^ (8 * size))
    ∧ atomicFn 3 size old x y = Nat.xor old (x % 2 ^ (8 * size)) ∧ atomicFn 4 size old x y = x % 2 ^ (8 * size)
    ∧ atomicFn 5 size old x y = (if old = y % 2 ^ (8 * size) then x % 2 ^ (8 * size) else old)
    ∧ sext (8 * size) (atomicFn 6 size old x y) = min (sext (8 * size) old) (sext (8 * size) (x % 2 ^ (8 * size)))
    ∧ sext (8 * size) (atomicFn 7 size old x y) = max (sext (8 * size) old) (sext (8 * size) (x % 2 ^ (8 * size)))
    ∧ atomicFn 8 size old x y = min old (x % 2 ^ (8 * size)) ∧ atomicFn 9 size old x y = max old (x % 2 ^ (8 * size)))
  ∧ (∀ (i : Fin 64) (n : Fin 256) (a : Access) (bs : List Byte) (s : State), (getThread s i n).out = [a] → a.kind = .store bs →
    inControl a.addr = false → reachable s a.addr = false → ∃ t, exec (.loadResultReturn i n 0) s = .next t ∧ t.mem = s.mem
    ∧ (getThread t i n).out = [] ∧ (getThread t i n).errs = (getThread s i n).errs ++ [⟨18, a.addr, a.pc, a.preTrap⟩])

/-- R416, R419: training makes a channel ACTIVE at a rate; self-refresh and power-down leave and enter ACTIVE, each with 0xB001; a channel
whose CK stops is ABSENT; the reset contact keeps the porch. R417: a mode register reads what was written, MR4 with its flag 0; a write
of MR16 switches FSP (log entry 246). R418: a row is selected per bank, refresh is ignored. R420 to R422: a burst reads or writes the
porch at its row, bank and column. WRBYTES counts the unmasked bytes (log entry 139); which fields a reset of the channel zeroes is log
entry 140. -/
def Obligations.HostChannels : Prop :=
  (∀ (c : Fin 4) (rate : Fin 16384) (b f : Bool) (s : State), hostState s c = hostTraining → 1600 ≤ rate.val → rate.val ≤ 8533 →
    b = false ∨ rate.val ≤ 3200 → ∃ t, exec (.hostChannelTraining c rate b f) s = .next t ∧ hostState t c = hostActive
    ∧ getF t Fld.HPT_STATUS_RATE c = rate ∧ getF t Fld.HPT_STATUS_BANKMODE c = b01 b ∧ getF t Fld.HPT_STATUS_FSP c = b01 f
    ∧ (∃ e, t.ev.inFlight = s.ev.inFlight ++ [e] ∧ e.code = 0xB001) ∧ Only rdReg [Reg.HPT_STATUS.addr c 0 0] s t ∧ Touches [.regs, .ev] s t)
  ∧ (∀ (c : Fin 4) (s : State), (hostState s c = hostActive → ∃ t, exec (.selfRefreshEntry c) s = .next t ∧ hostState t c = hostSelfRefresh
    ∧ (∃ e, t.ev.inFlight = s.ev.inFlight ++ [e] ∧ e.code = 0xB001
        ∧ e.detail = packDetail [(0, c), (2, hostSelfRefresh), (5, getF s Fld.HPT_STATUS_RATE c)])
    ∧ Only rdReg [Reg.HPT_STATUS.addr c 0 0] s t ∧ Touches [.regs, .ev] s t)
    ∧ (hostState s c = hostSelfRefresh → ∃ t, exec (.selfRefreshExit c) s = .next t ∧ hostState t c = hostActive
    ∧ (∃ e, t.ev.inFlight = s.ev.inFlight ++ [e] ∧ e.code = 0xB001
        ∧ e.detail = packDetail [(0, c), (2, hostActive), (5, getF s Fld.HPT_STATUS_RATE c)])
    ∧ Only rdReg [Reg.HPT_STATUS.addr c 0 0] s t ∧ Touches [.regs, .ev] s t)
    ∧ (hostState s c = hostActive → ∃ t, exec (.powerDownEntry c) s = .next t ∧ hostState t c = hostPowerDown
    ∧ (∃ e, t.ev.inFlight = s.ev.inFlight ++ [e] ∧ e.code = 0xB001
        ∧ e.detail = packDetail [(0, c), (2, hostPowerDown), (5, getF s Fld.HPT_STATUS_RATE c)])
    ∧ Only rdReg [Reg.HPT_STATUS.addr c 0 0] s t ∧ Touches [.regs, .ev] s t)
    ∧ (hostState s c = hostPowerDown → ∃ t, exec (.powerDownExit c) s = .next t ∧ hostState t c = hostActive
    ∧ (∃ e, t.ev.inFlight = s.ev.inFlight ++ [e] ∧ e.code = 0xB001
        ∧ e.detail = packDetail [(0, c), (2, hostActive), (5, getF s Fld.HPT_STATUS_RATE c)])
    ∧ Only rdReg [Reg.HPT_STATUS.addr c 0 0] s t ∧ Touches [.regs, .ev] s t))
  ∧ (∀ (c : Fin 4) (s : State), (hostState s c = hostAbsent → ∃ t, exec (.hostCkStart ⟨c, false⟩) s = .next t ∧ hostState t c = hostTraining
    ∧ getHost t c = { getHost s c with ck := true } ∧ (∃ e, t.ev.inFlight = s.ev.inFlight ++ [e] ∧ e.code = 0xB001
        ∧ e.detail = packDetail [(0, c), (2, hostTraining), (5, getF s Fld.HPT_STATUS_RATE c)])
    ∧ Touches [.regs, .ev, .host] s t)
    ∧ (hostState s c ≠ hostAbsent → ∃ t, exec (.hostCkStart ⟨c, true⟩) s = .next t ∧ hostState t c = hostAbsent
    ∧ getHost t c = { getHost s c with ck := false } ∧ (∃ e, t.ev.inFlight = s.ev.inFlight ++ [e] ∧ e.code = 0xB001
        ∧ e.detail = packDetail [(0, c), (2, hostAbsent), (5, getF s Fld.HPT_STATUS_RATE c)])
    ∧ Touches [.regs, .ev, .host] s t))
  ∧ (∀ (c : Fin 4) (s : State), (getHost s c).ck = true → ∃ t, exec (.hostChannelReset c) s = .next t ∧ hostState t c = hostTraining
    ∧ getHost t c = { getHost s c with mr := [], rows := [] } ∧ getF t Fld.HPT_STATUS_RATE c = 0 ∧ getF t Fld.HPT_STATUS_BANKMODE c = 0
    ∧ getF t Fld.HPT_STATUS_FSP c = 0
    ∧ (hostState s c ≠ hostTraining → ∃ e, t.ev.inFlight = s.ev.inFlight ++ [e] ∧ e.code = 0xB001
        ∧ e.detail = packDetail [(0, c), (2, hostTraining)])
    ∧ (hostState s c = hostTraining → t.ev = s.ev) ∧ Only rdReg [Reg.HPT_STATUS.addr c 0 0] s t ∧ Touches [.regs, .ev, .host] s t)
  ∧ (∀ (c : Fin 4) (r v u : Byte) (s : State), hostState s c = hostTraining ∨ hostState s c = hostActive →
    ∃ t, exec (.modeRegisterWrite c r v u) s = .next t
    ∧ (r.toNat < 4 ∨ 8 < r.toNat → modeRead (getHost t c) r.toNat = (v &&& ~~~u).toNat) ∧ modeRead (getHost t c) 5 = 0
    ∧ modeRead (getHost t c) 4 < 128 ∧ Only getHost [c.val] s t ∧ Only rdReg [Reg.HPT_STATUS.addr c 0 0] s t ∧ Touches [.regs, .host] s t
    ∧ (r.toNat = 16 → (v &&& ~~~u).toNat / 4 % 4 < 2 → getF t Fld.HPT_STATUS_FSP c = (v &&& ~~~u).toNat / 4 % 4)
    ∧ (r.toNat ≠ 16 → Touches [.host] s t))
  ∧ (∀ (c : Fin 4) (r : Byte) (s : State), hostState s c = hostTraining ∨ hostState s c = hostActive →
    ∃ t, exec (.modeRegisterRead c r) s = .next t ∧ t.bus.reply = .data (modeRead (getHost s c) r.toNat) ∧ Touches [.bus] s t)
  ∧ (∀ (c : Fin 4) (s : State), exec (.hostRefresh c) s = .next s)
  ∧ (∀ (c bg : Fin 4) (ba : Fin 16) (row : W16) (on : Bool) (s : State), hostState s c = hostActive →
    ∃ t, exec (.rowActivate c bg ba row on) s = .next t
    ∧ nmGet (fun _ => 0) (getHost t c).rows (porchBank s c bg ba) = (if on then row.toNat + 1 else 0)
    ∧ (∀ b, b ≠ porchBank s c bg ba → nmGet (fun _ => 0) (getHost t c).rows b = nmGet (fun _ => 0) (getHost s c).rows b)
    ∧ (getHost t c).porch = (getHost s c).porch ∧ Only getHost [c.val] s t ∧ Touches [.host] s t)
  ∧ (∀ (c bg : Fin 4) (ba : Fin 16) (col : Fin 64) (o : Nat) (bytes : List (Option Byte)) (s : State), hostState s c = hostActive →
    burstOffset s c bg ba col 0 = some o → hostOwns o = true → bytes.length = 32 → ∃ t, exec (.porchWrite c bg ba col bytes) s = .next t
    ∧ (∀ i b, bytes[i]? = some (some b) → nmGet (fun _ => (0 : Byte)) (getHost t c).porch (o + i) = b)
    ∧ (∀ a, (∀ i b, bytes[i]? = some (some b) → a ≠ o + i) →
    nmGet (fun _ => (0 : Byte)) (getHost t c).porch a = nmGet (fun _ => (0 : Byte)) (getHost s c).porch a)
    ∧ getF t Fld.HPT_WRBYTES_COUNT c = (getF s Fld.HPT_WRBYTES_COUNT c + (bytes.filter Option.isSome).length) % 2 ^ 64
    ∧ Only getHost [c.val] s t ∧ Only rdReg [Reg.HPT_WRBYTES.addr c 0 0] s t ∧ Touches [.regs, .host] s t)
  ∧ (∀ (c bg : Fin 4) (ba : Fin 16) (col : Fin 64) (o : Nat) (s : State), hostState s c = hostActive → burstOffset s c bg ba col 0 = some o →
    ∃ t, exec (.porchRead c bg ba col false) s = .next t
    ∧ t.bus.reply = .data (ofBytes ((List.range 32).map (fun i => porchByte (getHost s c) s.freeCtr (o + i))))
    ∧ getF t Fld.HPT_RDBYTES_COUNT c = (getF s Fld.HPT_RDBYTES_COUNT c + 32) % 2 ^ 64 ∧ Only rdReg [Reg.HPT_RDBYTES.addr c 0 0] s t
    ∧ Touches [.regs, .bus, .freeCtr] s t)

/-- R441: an aperture burst is discarded while the aperture is not enabled, and one outside the map is dropped, counted in WIN_DROP and
reported by 0xB003. R442: RD_GO starts the reader, which refuses an argument out of range with RESULT 4, and RD_STATUS shows its end,
with 0xB004 where RESULT is not 0. The reader reads memory as it stands at the write of RD_GO, and the bytes reach the porch at
READER_DONE (log entry 158). -/
def Obligations.ApertureAndReader : Prop :=
  (∀ (c : Fin 4) (u : Fin 32768) (bytes : List (Option Byte)) (s : State), hostState s c = hostActive
        → bytes.length = 32 ∨ bytes.length = 64 →
    (getHost s c).winEn = false ∨ getF s Fld.HPT_CFG_AP_ALLOW = 0 → ∃ t, exec (.apertureWrite c u bytes) s = .next t
    ∧ getF t Fld.HPT_WRBYTES_COUNT c = (getF s Fld.HPT_WRBYTES_COUNT c + (bytes.filter Option.isSome).length) % 2 ^ 64
    ∧ getHost t c = { getHost s c with apWritten := true } ∧ Only getHost [c.val] s t
    ∧ Only rdReg [Reg.HPT_WRBYTES.addr c 0 0] s t ∧ Touches [.regs, .host] s t)
  ∧ (∀ (c : Fin 4) (u : Fin 32768) (b : Byte) (s : State), hostState s c = hostActive → (getHost s c).winEn = true →
    getF s Fld.HPT_CFG_AP_ALLOW = 1 → regionAt ((getHost s c).winBase + 32 * u.val) = .outside →
    ∃ t, exec (.apertureWrite c u (some b :: List.replicate 31 none)) s = .next t ∧ t.mem = s.mem
    ∧ getHost t c = { getHost s c with apWritten := true, winDrop := min ((getHost s c).winDrop + 1) 0xFFFFFFFF }
        ∧ getF t Fld.HPT_ERR_WINDROP c = 1
    ∧ (∃ e, t.ev.inFlight = s.ev.inFlight ++ [e] ∧ e.code = 0xB003) ∧ Touches [.regs, .ev, .host] s t)
  ∧ (∀ (c : Fin 4) (s : State), (getHost s c).rdBusy = false → getF s Fld.HPT_CFG_RD_ALLOW = 1 → (getHost s c).rdAddr % 64 ≠ 0 →
    ∃ t, exec (.rdGo c) s = .next t ∧ (getHost t c).rdBusy = true ∧ (getHost t c).rdDone = false ∧ (getHost t c).rdJob = some ⟨4, 0, 0⟩
    ∧ (getHost t c).rdSeq = ((getHost s c).rdSeq + 1) % 256 ∧ (getHost t c).porch = (getHost s c).porch
    ∧ getF t Fld.HPT_WRBYTES_COUNT c = (getF s Fld.HPT_WRBYTES_COUNT c + 4) % 2 ^ 64 ∧ Only rdReg [Reg.HPT_WRBYTES.addr c 0 0] s t
    ∧ Touches [.regs, .host] s t)
  ∧ (∀ (c : Fin 4) (s : State), (getHost s c).rdBusy = false → getF s Fld.HPT_CFG_RD_ALLOW = 1 → (getHost s c).rdAddr % 64 = 0 →
    (getHost s c).rdLen = 64 → inData (getHost s c).rdDest 64 = true → inControl (getHost s c).rdAddr = false →
    reachable s (getHost s c).rdAddr = true → (memRead s (getHost s c).rdAddr 64).failed = false → ∃ t, exec (.rdGo c) s = .next t
    ∧ (getHost t c).rdBusy = true ∧ (getHost t c).rdJob = some ⟨0, 0, 0⟩
    ∧ (∀ i, i < 64 → nmGet (fun _ => (0 : Byte)) (getHost t c).porch ((getHost s c).rdDest + i)
      = BitVec.ofNat 8 ((memRead s (getHost s c).rdAddr 64).bytes.getD i 0))
    ∧ (∀ a, a < (getHost s c).rdDest ∨ (getHost s c).rdDest + 64 ≤ a →
      nmGet (fun _ => (0 : Byte)) (getHost t c).porch a = nmGet (fun _ => (0 : Byte)) (getHost s c).porch a))
  ∧ (∀ (c : Fin 4) (s : State), getF s Fld.HPT_CFG_RD_ALLOW = 0 → exec (.rdGo c) s = .next (wordWritten s c))
  ∧ (∀ (c : Fin 4) (j : RdJob) (s : State), (getHost s c).rdJob = some j → ∃ t, exec (.readerDone c) s = .next t
    ∧ (getHost t c).rdBusy = false ∧ (getHost t c).rdDone = true ∧ (getHost t c).rdResult = j.result ∧ (getHost t c).rdBad = j.bad
    ∧ (j.result = 0 → Touches [.host] s t)
    ∧ (j.result ≠ 0 → getF t Fld.HPT_ERR_RDERR c = 1 ∧ ∃ e, t.ev.inFlight = s.ev.inFlight ++ [e] ∧ e.code = 0xB004))

/-- R425: SQ_TAIL moves forward, a command is taken at SQ_HEAD. R426: the oldest ended command's completion is written and counted. R428: a
reset empties the queues with 0xB005; a SWITCH that was taken stands. A pointer written in a mailbox that is BOOTING or HALTED is no
protocol error (log entry 144). R433, R475: reserved bytes end a command with 0x0003, service level NONE with 0x0005. -/
def Obligations.MailboxEntries : Prop :=
  (∀ (c : Fin 4) (v : Fin 4096) (s : State),
    ((getHost s c).sqTail + 4096 - (getHost s c).sqHead) % 4096 ≤ (v.val + 4096 - (getHost s c).sqHead) % 4096 →
    ∃ t, exec (.sqTailWrite c v) s = .next t ∧ getHost t c = { getHost s c with sqTail := v } ∧ Only getHost [c.val] s t
    ∧ getF t Fld.HPT_WRBYTES_COUNT c = (getF s Fld.HPT_WRBYTES_COUNT c + 4) % 2 ^ 64
    ∧ Only rdReg [Reg.HPT_WRBYTES.addr c 0 0] s t ∧ Touches [.regs, .host] s t)
  ∧ (∀ (c : Fin 4) (v : Fin 4096) (s : State),
    (v.val + 4096 - (getHost s c).cqHead) % 4096 ≤ ((getHost s c).cqTail + 4096 - (getHost s c).cqHead) % 4096 →
    ∃ t, exec (.cqHeadWrite c v) s = .next t ∧ getHost t c = { getHost s c with cqHead := v } ∧ Only getHost [c.val] s t
    ∧ getF t Fld.HPT_WRBYTES_COUNT c = (getF s Fld.HPT_WRBYTES_COUNT c + 4) % 2 ^ 64
    ∧ Only rdReg [Reg.HPT_WRBYTES.addr c 0 0] s t ∧ Touches [.regs, .host] s t)
  ∧ (∀ (c : Fin 4) (s : State), firmwareRuns s = true → (getHost s c).state = .ready ∨ (getHost s c).state = .halted →
    ∃ t, exec (.mailboxReset c) s = .next t
    ∧ (getHost t c).cmds = ((getHost s c).cmds.filter (fun k => k.op == 0x0305 && k.ended.isNone)).map (fun k => { k with silent := true })
    ∧ (∀ b ∈ t.serve.batches, b.chan = c.val → b.cancelled = true) ∧ (getHost t c).sqTail = 0 ∧ (getHost t c).sqHead = 0
        ∧ (getHost t c).cqHead = 0
    ∧ (getHost t c).cqTail = 0 ∧ (getHost t c).state = .ready ∧ (getHost t c).notice = true ∧ (getHost t c).porch = (getHost s c).porch
    ∧ (∃ e, t.ev.inFlight = s.ev.inFlight ++ [e] ∧ e.code = 0xB005))
  ∧ (∀ (c : Fin 4) (s : State), ∃ t, exec (.noticeAck c) s = .next t ∧ getHost t c = { getHost s c with notice := false }
    ∧ Only getHost [c.val] s t ∧ getF t Fld.HPT_WRBYTES_COUNT c = (getF s Fld.HPT_WRBYTES_COUNT c + 4) % 2 ^ 64
    ∧ Only rdReg [Reg.HPT_WRBYTES.addr c 0 0] s t ∧ Touches [.regs, .host] s t)
  ∧ (∀ (c : Fin 4) (s : State), mayTake s c = true → (cmdFields (nextEntry (getHost s c) % 65536)).isSome = true →
    ∃ t k, exec (.submissionTake c) s = .next t ∧ (getHost t c).sqHead = ((getHost s c).sqHead + 1) % 4096
    ∧ (getHost t c).cmds = (getHost s c).cmds ++ [k] ∧ k.op = nextEntry (getHost s c) % 65536
        ∧ k.cid = bitsOf (nextEntry (getHost s c)) 32 32
    ∧ k.started = false ∧ k.ended = none ∧ k.order = s.serve.taken ∧ k.silent = false
    ∧ t.serve = { s.serve with taken := s.serve.taken + 1 } ∧ Only getHost [c.val] s t ∧ Touches [.host, .serve] s t)
  ∧ (∀ (c : Fin 4) (v : Fin 4096) (s : State), (getHost s c).state = .booting ∨ (getHost s c).state = .halted →
    (∃ t, exec (.sqTailWrite c v) s = .next t ∧ getHost t c = { getHost s c with sqTail := v } ∧ t.ev = s.ev)
    ∧ (∃ t, exec (.cqHeadWrite c v) s = .next t ∧ getHost t c = { getHost s c with cqHead := v } ∧ t.ev = s.ev))
  ∧ (∀ (c : Fin 4) (s : State), mayTake s c = false → exec (.submissionTake c) s = .next s)
  ∧ (∀ (c : Fin 4) (k : SubCmd) (s : State), firmwareRuns s = true → (getHost s c).cmds.find? (fun k => k.ended.isSome) = some k →
    (getHost s c).state ≠ .halted → k.silent = false → ∃ t, exec (.completionWrite c) s = .next t
        ∧ (getHost t c).cqTail = ((getHost s c).cqTail + 1) % 4096
    ∧ (getHost t c).cmds = (getHost s c).cmds.filter (fun j => j.id != k.id)
    ∧ getF t Fld.HPT_CMDS_COUNT c = (getF s Fld.HPT_CMDS_COUNT c + 1) % 2 ^ 64 ∧ Only getHost [c.val] s t
    ∧ Only rdReg [Reg.HPT_CMDS.addr c 0 0] s t ∧ Touches [.regs, .host] s t)
  ∧ (∀ (c : Fin 4) (k : SubCmd) (s : State), firmwareRuns s = true → frontCmd (getHost s c) = some k → k.op = 0x0101 →
    (getF s Fld.EVT_SVC_LEVEL = 5 → ∃ t, exec (.sessionOpen c) s = .next t ∧ CmdEnded t c k.id 0x0005 0 ∧ Touches [.host] s t)
    ∧ (getF s Fld.EVT_SVC_LEVEL ≠ 5 → reservedOk k = false → ∃ t, exec (.sessionOpen c) s = .next t ∧ CmdEnded t c k.id 0x0003 0
        ∧ Touches [.host] s t))

/-- Table 16.9 with R430, R434, R435, R437, R440, R458: a command that starts ends with its status and result, or waits. A batch is admitted
with a record for each request; its end writes the result of each request, releases their REFS and ends its command, once no earlier
batch holds one of its sessions. How firmware numbers a session is free (log entry 27). A request of a session that another batch holds
is judged at its turn, the others at admission (log entry 147); those that complete or are cancelled leave REFS at BATCH_END (log entry
148). -/
def Obligations.ServingCommands : Prop :=
  (∀ (c : Fin 4) (k : SubCmd) (s : State), CmdStarts s c 0x0001 k → ∃ t, exec (.identify c) s = .next t
    ∧ CmdEnded t c k.id 0 (ofBytes ((identityRecord s).take 16)) ∧ Touches [.host] s t)
  ∧ (∀ (c : Fin 4) (k : SubCmd) (s : State), CmdStarts s c 0x0002 k → ∃ t, exec (.status c) s = .next t
    ∧ CmdEnded t c k.id 0 (resultOf [(16, getF s Fld.EVT_SVC_LEVEL), (17, getF s Fld.LFT_ACTIVE_BAY + 2 * getF s Fld.LFT_ACTIVE_VALID),
    (18, bayState s 0), (19, bayState s 1), (20, s.serve.sessions.length), (22, s.serve.batches.length), (24, getF s Fld.LFT_GEN_GEN)])
    ∧ Touches [.host] s t)
  ∧ (∀ (c : Fin 4) (k : SubCmd) (s : State), CmdStarts s c 0x0003 k → inData (k.field 64 4) 8056 = true →
    (getF s Fld.TCK_STATUS_SIGNER < 2 → ∃ t r, exec (.attest c) s = .next t ∧ t.tack.signs = s.tack.signs ++ [r] ∧ r.chan = c.val
        ∧ r.cmd = k.id
    ∧ r.off = k.field 64 4 ∧ Touches [.host, .tack] s t)
    ∧ (getF s Fld.TCK_STATUS_SIGNER = 2 ∨ getF s Fld.TCK_STATUS_SIGNER = 3 → ∃ t, exec (.attest c) s = .next t ∧ CmdEnded t c k.id 0x0004 0
    ∧ Touches [.host] s t))
  ∧ (∀ (c : Fin 4) (k : SubCmd) (s : State), CmdStarts s c 0x0101 k → k.field 24 1 = 0 → k.field 25 1 = 1 → k.field 26 1 < 64 →
    k.field 16 4 ≤ 4194304 → s.serve.sessions.length < 65535 →
    sessionBytes s 1 + ceilDiv (k.field 16 4 * k.field 20 4) 2097152 * 2097152 ≤ s.serve.resHbm → ∃ t x, exec (.sessionOpen c) s = .next t
    ∧ t.serve.sessions = s.serve.sessions ++ [x] ∧ x.id ≠ 0 ∧ (∀ y ∈ s.serve.sessions, y.id ≠ x.id) ∧ x.maxtok = k.field 16 4 ∧ x.tier = 1
    ∧ CmdEnded t c k.id 0 (resultOf [(16, x.id), (20, 1), (24, ceilDiv (k.field 16 4 * k.field 20 4) 2097152 * 2097152)]))
  ∧ (∀ (c : Fin 4) (k : SubCmd) (s : State), CmdStarts s c 0x0102 k → (getHost s c).cmds = [k] →
    (∀ d : Fin 4, d ≠ c → waitingCmds s d 0x0102 = []) → (findSession s (k.field 16 4)).isSome = true
        → sessionBusy s (k.field 16 4) = false →
    ∃ t, exec (.sessionClose c) s = .next t ∧ t.serve.sessions = s.serve.sessions.filter (fun x => x.id != k.field 16 4)
    ∧ CmdEnded t c k.id 0 0 ∧ Touches [.host, .serve] s t)
  ∧ (∀ (c : Fin 4) (k : SubCmd) (x : Session) (s : State), CmdStarts s c 0x0103 k →
    (findSession s (k.field 16 4) = some x → ∃ t, exec (.sessionInfo c) s = .next t
        ∧ CmdEnded t c k.id 0 (resultOf [(16, x.tokens), (20, x.gen)])
    ∧ Touches [.host] s t)
    ∧ (findSession s (k.field 16 4) = none → ∃ t, exec (.sessionInfo c) s = .next t ∧ CmdEnded t c k.id 0x0006 0 ∧ Touches [.host] s t))
  ∧ (∀ (c : Fin 4) (k : SubCmd) (y : Nat) (s : State), CmdStarts s c 0x0201 k → 1 ≤ k.field 20 2 → k.field 20 2 ≤ 4096 →
    inData (k.field 16 4) (64 * k.field 20 2) = true → inData (k.field 24 4) (16 * k.field 20 2) = true → activeBay s = some y →
    darkOrWaiting (cmdBegun s c k) = false → ∃ t b, exec (.batch c) s = .next t ∧ t.serve.batches = s.serve.batches ++ [b] ∧ b.chan = c.val
    ∧ b.cmd = k.id ∧ b.bay = y ∧ b.gen = getF s Fld.LFT_GEN_GEN ∧ b.reqs.length = k.field 20 2 ∧ b.cancelled = false)
  ∧ (∀ (c : Fin 4) (k : SubCmd) (y : Nat) (u s : State), nextEntry (getHost s c) % 65536 = 0x0201 → mayTake s c = true → u = takeEntry s c →
    CmdStarts u c 0x0201 k → 1 ≤ k.field 20 2 → k.field 20 2 ≤ 4096 → inData (k.field 16 4) (64 * k.field 20 2) = true →
    inData (k.field 24 4) (16 * k.field 20 2) = true → activeBay u = some y → darkOrWaiting (cmdBegun u c k) = false →
    ∃ t b, exec (.batchAdmit c) s = .next t ∧ (getHost t c).sqHead = ((getHost s c).sqHead + 1) % 4096
    ∧ t.serve.batches = s.serve.batches ++ [b] ∧ b.chan = c.val ∧ b.cmd = k.id ∧ b.bay = y ∧ b.gen = getF s Fld.LFT_GEN_GEN
    ∧ b.reqs.length = k.field 20 2 ∧ b.cancelled = false ∧ (∀ q ∈ b.reqs, q.bound = q.ended.isNone)
    ∧ (y < 2 → bayState s y = 3 →
      getF t Fld.LFT_BAY_REFS_REFS 0 y = (getF s Fld.LFT_BAY_REFS_REFS 0 y + (b.reqs.filter (·.bound)).length) % 2 ^ 32))
  ∧ (∀ (i : Nat) (b : Batch) (ab : Bool) (o : List ReqOutcome) (s : State), firmwareRuns s = true → s.serve.batches[i]? = some b →
    b.cancelled = true ∨ ab = true ∨ batchWaits s i b = false → b.chan < 4 →
    (∃ k ∈ (getHost s b.chan).cmds, k.id = b.cmd ∧ k.ended = none) →
    ∃ t v, exec (.batchEnd i ab o) s = .next t ∧ t.serve.batches.map (·.id) = (s.serve.batches.filter (fun x => x.id != b.id)).map (·.id)
    ∧ CmdEnded t b.chan b.cmd (if b.cancelled || ab then 0x000A else 0) v)
  ∧ (∀ (i : Nat) (b : Batch) (ab : Bool) (o : List ReqOutcome) (s : State), firmwareRuns s = true → s.serve.batches[i]? = some b →
    b.cancelled = false → ab = false → batchWaits s i b = true → exec (.batchEnd i ab o) s = .next s)
  ∧ (∀ (b : Batch) (q : Req) (o r : ReqOutcome) (ab : Bool) (n : Nat) (s : State), firmwareRuns s = true → s.serve.batches = [b]
        → b.reqs = [q] →
    b.chan < 4 → b.bay < 2 → bayState s b.bay = 3 → (∃ k ∈ (getHost s b.chan).cmds, k.id = b.cmd ∧ k.ended = none) →
    r = reqResult b q o → n = (if q.bound then 1 else 0) → n ≤ getF s Fld.LFT_BAY_REFS_REFS 0 b.bay →
    ∃ t, exec (.batchEnd 0 ab [o]) s = .next t ∧ t.serve.batches = []
    ∧ CmdEnded t b.chan b.cmd (if b.cancelled || ab then 0x000A else 0)
      (resultOf [(16, b.gen), (24, b.bay), (26, if r.status = 0 then 0 else 1)])
    ∧ porchRaw (getHost t b.chan) b.resOff 16
      = (toBytes 4 r.tokens.length ++ toBytes 2 r.status ++ [r.reason, 0] ++ toBytes 8 b.gen).map (· % 256)
    ∧ getF t Fld.LFT_BAY_REFS_REFS 0 b.bay = getF s Fld.LFT_BAY_REFS_REFS 0 b.bay - n ∧ bayState t b.bay = 3
    ∧ (∀ x, q.ended = none → r.reason ≠ 3 → findSession s q.session = some x → bitOf q.rec_ 160 = false → x.gen = b.gen →
      ∃ y, findSession t q.session = some y ∧ y.gen = b.gen ∧ y.lost = false
      ∧ y.tokens = min x.maxtok (x.tokens + bitsOf q.rec_ 64 32 + r.tokens.length)))
  ∧ (∀ (c : Fin 4) (k : SubCmd) (ids : List Nat) (s : State), CmdStarts s c 0x0202 k →
    ids = ((getHost s c).cmds.filter (fun j => j.op == 0x0201 && j.cid == k.field 16 4)).map (·.id) →
    (s.serve.batches.any (fun b => b.chan == c.val && ids.contains b.cmd) = true → ∃ t, exec (.batchCancel c) s = .next t
        ∧ CmdEnded t c k.id 0 0
    ∧ (∀ b ∈ t.serve.batches, b.chan = c.val → b.cmd ∈ ids → b.cancelled = true) ∧ Touches [.host, .serve] s t)
    ∧ (s.serve.batches.any (fun b => b.chan == c.val && ids.contains b.cmd) = false → ∃ t, exec (.batchCancel c) s = .next t
    ∧ CmdEnded t c k.id 0x0006 0 ∧ Touches [.host] s t))
  ∧ (∀ (c : Fin 4) (k : SubCmd) (s : State), CmdStarts s c 0x0306 k → k.field 16 1 < 2 → inData (k.field 20 4) 2048 = true →
    ∃ t, exec (.slotList c) s = .next t ∧ CmdEnded t c k.id 0 (resultOf [(16,
    ((List.range 64).filter (fun i => (nmGet (fun _ => none) (getBay s (k.field 16 1)).slots i).isSome)).length)])
        ∧ Touches [.freeCtr, .host] s t)
  ∧ (∀ (c : Fin 4) (k : SubCmd) (s : State), CmdStarts s c 0x0402 k → ∃ t, exec (.calStatus c) s = .next t
    ∧ CmdEnded t c k.id 0 (resultOf [(16, stallMask (fun i => getF s Fld.FAR_STALL_STATUS_CAL i == 1)),
    (18, stallMask (fun i => getF s Fld.FAR_STALL_STATUS_CAL i == 2)), (20, farState s)]) ∧ Touches [.host] s t)
  ∧ (∀ (c : Fin 4) (k : SubCmd) (v : Nat) (s : State), CmdStarts s c 0x0604 k → k.field 24 1 = 4 ∨ k.field 24 1 = 8 →
    inControl (k.field 16 8) = true →
    ((busRead (cmdBegun s c k) .ostler (k.field 16 8) (k.field 24 1)).bus.reply = .data v → ∃ t, exec (.cfgRead c) s = .next t
        ∧ CmdEnded t c k.id 0 v)
    ∧ ((busRead (cmdBegun s c k) .ostler (k.field 16 8) (k.field 24 1)).bus.reply = .busError → ∃ t, exec (.cfgRead c) s = .next t
    ∧ CmdEnded t c k.id 0x0003 0))
  ∧ (∀ (c : Fin 4) (k : SubCmd) (s : State), CmdStarts s c 0x0801 k → ∃ t, exec (.eventFilter c) s = .next t ∧ t.evtFilter = k.field 16 2
    ∧ CmdEnded t c k.id 0 0 ∧ Touches [.host, .evtFilter] s t)

/-- Table 16.9 with R436 to R439: a bundle begins in an EMPTY bay with 0x5001, its pieces are staged, and an abort fails the build; a switch
answers with the new generation; units stop and start; power, capacity, darkness and the herd are set; CFG_WRITE is refused with DENIED
for the registers of R437. -/
def Obligations.ControlCommands : Prop :=
  (∀ (c : Fin 4) (k : SubCmd) (y : Nat) (bs : List Nat) (r : BundleCheck) (s : State), CmdStarts s c 0x0301 k → k.field 16 1 = y → y < 2 →
    inData (k.field 20 4) (k.field 24 4) = true → getF s Fld.TCK_STATUS_INBOX_BUSY ≠ 1 → s.loft.build = none → bayState s 0 ≠ 1
        → bayState s 1 ≠ 1 →
    bs = porchRaw (getHost s c) (k.field 20 4) (k.field 24 4) → fieldOf bs 10 2 ≠ 1 → bayState s y = 0 →
    checkBundle s bs (enrolledKey s) (runningFw s) (baseMatches s y) = r → ∃ t, exec (.bundleBegin c) s = .next t
        ∧ (∃ e ∈ t.ev.inFlight, e.code = 0x5001)
    ∧ (r.cause ≠ 0 → t.loft.build = none ∧ bayState t y = 0 ∧ getF t Fld.LFT_BUILD_CAUSE = r.cause % 16 ∧ (∃ v, CmdEnded t c k.id 0x0009 v))
    ∧ (r.cause = 0 → CmdEnded t c k.id 0 0 ∧ (∀ b, t.loft.build = some b → b.bay = y ∧ b.slot = none ∧ bayState t y = 1
        ∧ getF t Fld.LFT_BUILD_BUSY = 1)))
  ∧ (∀ (c : Fin 4) (k : SubCmd) (s : State), CmdStarts s c 0x0301 k → k.field 16 1 < 2 → inData (k.field 20 4) (k.field 24 4) = true →
    (getF s Fld.TCK_STATUS_INBOX_BUSY = 1 → ∃ t, exec (.bundleBegin c) s = .next t ∧ CmdEnded t c k.id 0x0001 0 ∧ Touches [.host] s t)
    ∧ (getF s Fld.TCK_STATUS_INBOX_BUSY ≠ 1 → s.loft.build.isSome = true → ∃ t, exec (.bundleBegin c) s = .next t
        ∧ CmdEnded t c k.id 0x0005 0
    ∧ Touches [.host] s t))
  ∧ (∀ (c : Fin 4) (k : SubCmd) (b : Build) (ch : ChunkRec) (a : Nat) (s : State), CmdStarts s c 0x0302 k → k.field 32 1 = 0 →
    s.loft.build = some b → b.set.chunks[k.field 16 4]? = some ch → inData (k.field 28 4) (k.field 24 4) = true → k.field 24 4 ≤ 16777216 →
    k.field 20 4 + k.field 24 4 ≤ ch.bytes → k.field 24 4 < ch.bytes → b.copied.contains (k.field 16 4) = false →
    s.loft.staged.find? (fun x => x.chunk == k.field 16 4 && x.repair == false) = none → stagePlace s ch.bytes = some a →
    ∃ t x, exec (.bundlePiece c) s = .next t ∧ x ∈ t.loft.staged ∧ x.chunk = k.field 16 4 ∧ x.addr = a
    ∧ x.got = [(k.field 20 4, k.field 24 4)] ∧ CmdEnded t c k.id 0 0
    ∧ t.mem = (writeRange (cmdBegun s c k) (a + k.field 20 4) (porchRaw (getHost s c) (k.field 28 4) (k.field 24 4))).1.mem)
  ∧ (∀ (c : Fin 4) (k : SubCmd) (s : State), CmdStarts s c 0x0303 k →
    (s.loft.build = none → ∃ t, exec (.bundleAbort c) s = .next t ∧ CmdEnded t c k.id 0x0005 0 ∧ Touches [.host] s t)
    ∧ (s.loft.build.isSome = true → ∃ t, exec (.bundleAbort c) s = .next t ∧ t.loft.build = none ∧ getF t Fld.LFT_BUILD_CAUSE = 13))
  ∧ (∀ (c : Fin 4) (k : SubCmd) (s : State), CmdStarts s c 0x0304 k → k.field 16 1 < 2 → bayState s (k.field 16 1) = 2 →
    ∃ t, exec (.bayDiscard c) s = .next t ∧ bayState t (k.field 16 1) = 0 ∧ CmdEnded t c k.id 0 0)
  ∧ (∀ (c : Fin 4) (k : SubCmd) (s : State), CmdStarts s c 0x0305 k → switchTurn s c = true → k.field 16 1 < 2
        → bayState s (k.field 16 1) = 2 ∨ bayState s (k.field 16 1) = 4 →
    ∃ t, exec (.switch c) s = .next t ∧ CmdEnded t c k.id 0 ((getF s Fld.LFT_GEN_GEN + 1) % 2 ^ 64)
        ∧ getF t Fld.LFT_GEN_GEN = (getF s Fld.LFT_GEN_GEN + 1) % 2 ^ 64
    ∧ bayState t (k.field 16 1) = 3 ∧ getF t Fld.LFT_ACTIVE_BAY = k.field 16 1 ∧ Touches [.regs, .ev, .loft, .host] s t)
  ∧ (∀ (c : Fin 4) (k : SubCmd) (s : State), CmdStarts s c 0x0305 k → switchTurn s c = true → k.field 16 1 < 2
        → bayState s (k.field 16 1) ≠ 2 → bayState s (k.field 16 1) ≠ 4 →
    ∃ t, exec (.switch c) s = .next t ∧ CmdEnded t c k.id 0x0005 0 ∧ getF t Fld.LFT_GEN_GEN = getF s Fld.LFT_GEN_GEN
    ∧ bayState t (k.field 16 1) = bayState s (k.field 16 1) ∧ Touches [.regs, .ev, .host] s t)
  ∧ (∀ (c : Fin 4) (s : State), switchTurn s c = false → exec (.switch c) s = .next s)
  ∧ (∀ (c : Fin 4) (k : SubCmd) (s : State), CmdStarts s c 0x0401 k → k.field 18 1 < 2 → ∃ t, exec (.calRun c) s = .next t
        ∧ CmdEnded t c k.id 0 0)
  ∧ (∀ (c : Fin 4) (k : SubCmd) (s : State), CmdStarts s c 0x0501 k → k.field 17 1 = 15 → k.field 16 1 < 4 → k.field 18 2 < 2048 →
    k.field 20 2 < 2048 → k.field 22 2 < 2048 → ∃ t, exec (.powerSet c) s = .next t ∧ getF t Fld.PWR_PBCFG_MODE = k.field 16 1
    ∧ getF t Fld.PWR_PBCFG_FALLBACK = k.field 18 2 ∧ getF t Fld.PWR_LIMIT_W = k.field 20 2 ∧ getF t Fld.PWR_PBFIX_W = k.field 22 2
    ∧ CmdEnded t c k.id 0 0 ∧ Touches [.regs, .host] s t)
  ∧ (∀ (c : Fin 4) (k : SubCmd) (s : State), CmdStarts s c 0x0502 k → k.field 16 8 ≤ tierCapacity s 1 - tierUsed s 1 →
    k.field 24 8 ≤ tierCapacity s 2 - tierUsed s 2 → sessionBytes s 1 ≤ k.field 16 8 → sessionBytes s 2 ≤ k.field 24 8 →
    ∃ t, exec (.capacitySet c) s = .next t ∧ t.serve = { s.serve with resHbm := k.field 16 8, resDdr := k.field 24 8 }
        ∧ CmdEnded t c k.id 0 0
    ∧ Touches [.host, .serve] s t)
  ∧ (∀ (c : Fin 4) (k : SubCmd) (l0 l1 : Bool) (w : List RingSweep) (s : State), CmdStarts s c 0x0503 k → (getHost s c).cmds = [k] →
    k.field 16 1 = 1 → (s.serve.batches = [] → ∃ t, exec (.dark c l0 l1 w) s = .next t ∧ t.light.dark = true
    ∧ (∃ r, CmdEnded t c k.id 0 r))
    ∧ (s.serve.batches ≠ [] → ∃ t, exec (.dark c l0 l1 w) s = .next t ∧ t.light = s.light ∧ Touches [.host] s t))
  ∧ (∀ (c : Fin 4) (k : SubCmd) (s : State), CmdStarts s c 0x0601 k →
    unitRefused (k.field 16 1) (k.field 18 2) (k.field 20 1) = 0 → k.field 16 1 = 0 → (getStall s (k.field 18 2)).state = .run →
    ∃ t, exec (.unitStop c) s = .next t ∧ (getStall t (k.field 18 2)).state = .stopping)
  ∧ (∀ (c : Fin 4) (k : SubCmd) (s : State), CmdStarts s c 0x0602 k → unitRefused (k.field 16 1) (k.field 18 2) (k.field 20 1) = 0 →
    k.field 16 1 = 0 → (getStall s (k.field 18 2)).state = .stopped → ∃ t, exec (.unitStart c) s = .next t
    ∧ (getStall t (k.field 18 2)).state = .run ∧ CmdEnded t c k.id 0 0 ∧ Touches [.stall, .host] s t)
  ∧ (∀ (c : Fin 4) (k : SubCmd) (s : State), CmdStarts s c 0x0603 k → k.field 32 1 = 4 ∨ k.field 32 1 = 8 → inControl (k.field 16 8) = true →
    cfgDenied (k.field 16 8) (k.field 32 1) (k.field 24 8) = true → ∃ t, exec (.cfgWrite c) s = .next t ∧ CmdEnded t c k.id 0x000E 0
        ∧ Touches [.host] s t)
  ∧ (∀ (c : Fin 4) (k : SubCmd) (r : RegByte) (v : W64) (s : State), CmdStarts s c 0x0603 k → k.field 32 1 = 4 ∨ k.field 32 1 = 8
        → inControl (k.field 16 8) = true →
    cfgDenied (k.field 16 8) (k.field 32 1) (k.field 24 8) = false → busTarget .ostler (k.field 16 8) (k.field 32 1) = .whole r →
    writeAct r.desc = none → r.desc.blk ≠ 8 → v = BitVec.ofNat 64 (k.field 24 8 % 256 ^ k.field 32 1) → ∃ t, exec (.cfgWrite c) s = .next t
        ∧ CmdEnded t c k.id 0 0
    ∧ rdReg t r.addr = (rdReg s r.addr &&& ~~~r.rwBits &&& ~~~(v &&& BitVec.ofNat 64 r.desc.w1c)) ||| (v &&& r.rwBits)
    ∧ Only rdReg [r.addr] s t ∧ Touches [.regs, .bus, .host] s t)
  ∧ (∀ (c : Fin 4) (k : SubCmd) (s : State), CmdStarts s c 0x0701 k → 1 ≤ k.field 25 1 → k.field 25 1 ≤ 16 → k.field 24 1 < k.field 25 1 →
    inData (k.field 28 4) (48 * k.field 25 1) = true → (∀ p : Fin 8, portState s p = portStopped) → ∃ t, exec (.herdSet c) s = .next t
    ∧ herdId t = k.field 16 8 ∧ ownIndex t = k.field 24 1 ∧ (∀ i, i < k.field 25 1 → nmGet (fun _ => 0) t.drove.roster i =
    ofBytes (porchRaw (getHost s c) (k.field 28 4 + 48 * i) 48)) ∧ CmdEnded t c k.id 0 0 ∧ Touches [.regs, .host, .drove] s t)

/-- R451: the boot stops where a known answer or a fuse word fails, runs the images that pass, and goes into recovery with every mailbox
halted where ostler firmware has none. R452: a trial image that never reached READY is reverted with a package reset. R458 to R460: a
signature uses one index; an exhausted or disabled signer refuses. The image checks rest on opaque cryptography (log entry 19). -/
def Obligations.TackRoomBoot : Prop :=
  (∀ (a b : Bool) (s : State), s.pwr.rails = .valid → s.sys.ostlerUp = false → phaseHeld s = 1 → s.tack.romStop = false
        → s.tack.runTkf = none →
    (a && b) = false → ∃ t, exec (.boot a b) s = .next t ∧ t.tack = { s.tack with romStop := true } ∧ Touches [.tack] s t)
  ∧ (∀ (i j : Image) (q : Nat) (s : State), s.pwr.rails = .valid → s.sys.ostlerUp = false → phaseHeld s = 1 → s.tack.romStop = false →
    s.tack.runTkf = none → pickImage s 1 s.tack.tkf = some (i, false, 0) → pickImage s 2 s.tack.osf = some (j, false, 0)
        → s.sys.held = false →
    resMark s.tack = some q → ∃ t, exec (.boot true true) s = .next t ∧ t.tack.runTkf = some i ∧ t.tack.runOsf = some j
        ∧ t.sys.ostlerUp = true
    ∧ phaseHeld t = 2 ∧ t.sys.kick = s.time ∧ getF t Fld.TCK_BOOTS_COUNT = (getF s Fld.TCK_BOOTS_COUNT + 1) % 2 ^ 32
    ∧ getF t Fld.TCK_LMS_LEFT_LEFT = 2 ^ 30 - min q (2 ^ 30) ∧ t.tack.recovery = s.tack.recovery)
  ∧ (∀ (i : Image) (s : State), s.pwr.rails = .valid → s.sys.ostlerUp = false → phaseHeld s = 1 → s.tack.romStop = false →
    s.tack.runTkf = none → pickImage s 1 s.tack.tkf = some (i, false, 0) → pickImage s 2 s.tack.osf = none →
    ∃ t, exec (.boot true true) s = .next t ∧ t.tack.recovery = true ∧ t.tack.runOsf = none ∧ t.sys.ostlerUp = false
    ∧ (∀ c : Fin 4, (getHost t c).state = .halted))
  ∧ (∀ (n : Nat) (s : State), (n < 60 → exec (.trialTimeout n) s = .next s) ∧ (60 ≤ n → s.sys.trialDue = true → s.pwr.rails = .valid →
    ∃ t, exec (.trialTimeout n) s = .next t ∧ t.tack.osf = { primary := s.tack.osf.second, second := s.tack.osf.primary, trial := false }
    ∧ getF t Fld.EVT_RSTCAUSE_CAUSE = 2 ∧ getF t Fld.EVT_RSTCAUSE_KIND = 1 ∧ t.sys.ostlerUp = false))
  ∧ (∀ (r : SignReq) (s : State), s.tack.signs = [r] → getF s Fld.TCK_STATUS_SIGNER = signerReady → treeMissing s = false →
    1 ≤ getF s Fld.TCK_LMS_LEFT_LEFT → getF s Fld.TCK_LMS_LEFT_LEFT ≤ 2 ^ 30 → ∃ t, exec .sign s = .next t ∧ t.tack.signs = []
    ∧ getF t Fld.TCK_LMS_LEFT_LEFT = getF s Fld.TCK_LMS_LEFT_LEFT - 1)
  ∧ (∀ (r : SignReq) (s : State), s.tack.signs = [r] → getF s Fld.TCK_STATUS_SIGNER = signerDisabled ∨ getF s Fld.TCK_STATUS_SIGNER =
        signerExhausted →
    4 ≤ r.chan → ∃ t, exec .sign s = .next t ∧ t.tack.signs = []
    ∧ (∃ e, t.ev.inFlight = s.ev.inFlight ++ [e] ∧ e.code = 0xA007 ∧ e.detail = packDetail [(0, r.chan - 4), (3, r.idx), (7, 4)])
    ∧ Touches [.ev, .tack] s t)
  ∧ (∀ (s : State), getF s Fld.TCK_STATUS_SIGNER = signerBuilding → ∃ t, exec .treeBuildDone s = .next t
    ∧ getF t Fld.TCK_STATUS_SIGNER = signerReady ∧ treeMissing t = false ∧ Only rdReg [Reg.TCK_STATUS.addr 0 0 0] s t
        ∧ Touches [.regs, .tack] s t
    ∧ (treeMissing s = false → t.tack = s.tack))

/-- R461, R462: a request found is taken up with INBOX_BUSY, or refused at once with status 1; one that passes its checks sets the owner,
writes or empties a key slot, raises the rollback counter or installs an image, ends with 0xC003 and its SEQ in TCK_OWNSEQ; a store
write that fails changes nothing but the refusal it records, and whether the fuses of a commit take is free (log entry 165). The
signature checks are opaque (log entry 19). -/
def Obligations.TackRoomRequests : Prop :=
  (∀ (s : State), inboxOpen s = true → getF s Fld.TCK_STATUS_INBOX_BUSY = 0 → (inboxRead s 0 256).2.2 = false →
    (inboxRead s 0 256).2.1.take 8 = inboxMagic →
    (requestFormatOk (inboxRead s 0 256).2.1 = true → ∃ t u, exec .inboxPoll s = .next t ∧ u = (inboxRead s 0 256).1
    ∧ getF t Fld.TCK_STATUS_INBOX_BUSY = 1 ∧ Only rdReg [Reg.TCK_STATUS.addr 0 0 0] u t ∧ Touches [.regs, .tack] u t
    ∧ (fieldOf (inboxRead s 0 256).2.1 10 1 ≠ 4 → t.tack = s.tack))
    ∧ (requestFormatOk (inboxRead s 0 256).2.1 = false → ∃ t, exec .inboxPoll s = .next t ∧ getF t Fld.TCK_STATUS_INBOX_BUSY = 0
    ∧ getF t Fld.TCK_ERR_REQ_REFUSED = 1 ∧ (∃ e ∈ t.ev.inFlight, e.code = 0xC003)))
  ∧ (∀ (h : List Nat) (u s : State), RequestPasses s 1 h u →
    (∃ t, exec (.ownerSet true) s = .next t ∧ t.tack = { s.tack with owner := some ((h.drop 72).take 157), blowing := none }
        ∧ getF t Fld.TCK_STATUS_OWNED = 1
    ∧ getF t Fld.TCK_OWNSEQ_SEQ = fieldOf h 16 8 % 2 ^ 64 ∧ getF t Fld.TCK_STATUS_INBOX_BUSY = 0 ∧ (∃ e ∈ t.ev.inFlight, e.code = 0xC003))
    ∧ (∃ t, exec (.ownerSet false) s = .next t ∧ t.tack = { s.tack with blowing := none } ∧ getF t Fld.TCK_ERR_REQ_REFUSED = 1
        ∧ getF t Fld.TCK_STATUS_INBOX_BUSY = 0))
  ∧ (∀ (h : List Nat) (u s : State), RequestPasses s 2 h u → ∃ t, exec (.keyEnrol true) s = .next t
    ∧ t.tack = { s.tack with keys := nmPut (fun _ => []) s.tack.keys (fieldOf h 11 1) ((h.drop 72).take 157), blowing := none }
    ∧ getF t Fld.TCK_OWNSEQ_SEQ = fieldOf h 16 8 % 2 ^ 64 ∧ (∃ e ∈ t.ev.inFlight, e.code = 0xC003))
  ∧ (∀ (h : List Nat) (u s : State), RequestPasses s 3 h u → ∃ t, exec (.keyRevoke true) s = .next t
    ∧ t.tack = { s.tack with keys := nmPut (fun _ => []) s.tack.keys (fieldOf h 11 1) [], blowing := none }
    ∧ getF t Fld.TCK_OWNSEQ_SEQ = fieldOf h 16 8 % 2 ^ 64 ∧ (∃ e ∈ t.ev.inFlight, e.code = 0xC003))
  ∧ (∀ (h : List Nat) (u s : State), RequestPasses (drawn s) 4 h u → ∃ t, exec .rollbackCommit s = .next t
    ∧ t.tack = { s.tack with blowing := none } ∧ getF t Fld.TCK_STATUS_INBOX_BUSY = 0
    ∧ (Config.commitStored s.freeCtr = true → getF t Fld.TCK_ROLLBACK_K = fieldOf h 11 1
        ∧ getF s Fld.TCK_ROLLBACK_K < getF t Fld.TCK_ROLLBACK_K
      ∧ (∃ e ∈ t.ev.inFlight, e.code = 0xC004) ∧ (∃ e ∈ t.ev.inFlight, e.code = 0xC003))
    ∧ (Config.commitStored s.freeCtr = false → getF t Fld.TCK_ROLLBACK_K = getF s Fld.TCK_ROLLBACK_K ∧ getF t Fld.TCK_ERR_REQ_REFUSED = 1
      ∧ (∃ e ∈ t.ev.inFlight, e.code = 0xC003 ∧ e.detail = packDetail [(0, 4), (3, 8), (7, 0)])))
  ∧ (∀ (h : List Nat) (u v s : State), RequestPasses s 5 h u →
    (installImage u h = some v → ∃ t, exec (.fwInstall true) s = .next t ∧ t.tack = { v.tack with blowing := none }
        ∧ getF t Fld.TCK_STATUS_TRIAL = 1
    ∧ getF t Fld.TCK_OWNSEQ_SEQ = fieldOf h 16 8 % 2 ^ 64)
    ∧ (installImage u h = none → ∃ t, exec (.fwInstall true) s = .next t ∧ t.tack = { s.tack with blowing := none }
        ∧ getF t Fld.TCK_ERR_REQ_REFUSED = 1))

/-- R468 to R470: a package reset keeps memory, TIME and the store, shows its cause and starts the tack room again; what else it drops or
keeps is log entry 170; RESET_N must be low for 10 microseconds. R471: the watchdog, a memory error or a fatal error restarts the
ostler, with its memory held and the mailboxes RESTARTING; the third restart in 600 s is a package reset. A restart before the first
start resumes at phase 2; on any restart the tack room checks and loads the image again; where none passes, the package goes into
recovery (the model's reading: log entry 168). R444: when firmware runs again, 0xD005 is raised. -/
def Obligations.ResetsAndRestarts : Prop :=
  (∀ (keep : Bool) (s : State), (s.pwr.rails = .off → ∃ t, exec (.powerOnReset keep) s = .next t ∧ t.pwr.rails = .precharge
    ∧ (∀ k, getStall t k = {}) ∧ (∀ i, getShed t i = {}) ∧ getF t Fld.TCK_STATUS_SIGNER = signerBuilding
    ∧ (keep = false → getF t Fld.PWR_LASTTRIP_CAUSE = 0) ∧ (keep = true → getF t Fld.PWR_LASTTRIP_CAUSE = getF s Fld.PWR_LASTTRIP_CAUSE)
    ∧ t.pending = s.pending) ∧ (s.pwr.rails ≠ .off → exec (.powerOnReset keep) s = .next s))
  ∧ (∀ (cause : BitVec 3) (s : State), s.pwr.rails = .valid → 1 ≤ cause.toNat → cause.toNat ≤ 4 → ∃ t, exec (.packageReset cause) s = .next t
    ∧ t.mem = { s.mem with pendPoison := [], pendFix := [] } ∧ t.time = s.time ∧ getF t Fld.EVT_RSTCAUSE_KIND = 1
    ∧ getF t Fld.EVT_RSTCAUSE_CAUSE = cause.toNat ∧ getF t Fld.EVT_RSTCAUSE_ORESTARTS = 0 ∧ t.sys.ostlerUp = false ∧ t.sys.pkg = true
    ∧ (∀ k, getStall t k = {}) ∧ (∀ i, getShed t i = {}) ∧ t.tack = s.tack.atReset ∧ t.pwr.rails = .valid ∧ t.pending = s.pending
    ∧ (s.tack.blowing = none → getF t Fld.TCK_ROLLBACK_K = getF s Fld.TCK_ROLLBACK_K)
    ∧ (∀ k, s.tack.blowing = some k → k < 256 → getF s Fld.TCK_ROLLBACK_K ≤ k →
      getF s Fld.TCK_ROLLBACK_K ≤ getF t Fld.TCK_ROLLBACK_K ∧ getF t Fld.TCK_ROLLBACK_K ≤ k))
  ∧ (∀ (us : Nat) (s : State), us < 10 → exec (.resetNLow us) s = .next s)
  ∧ (∀ (us : Nat) (s : State), 10 ≤ us → s.sys.tripped = false → s.pwr.rails = .valid → ∃ t, exec (.resetNLow us) s = .next t
    ∧ getF t Fld.EVT_RSTCAUSE_KIND = 1 ∧ getF t Fld.EVT_RSTCAUSE_CAUSE = 1 ∧ t.sys.ostlerUp = false ∧ t.sys.pkg = true ∧ t.time = s.time
        ∧ t.tack = s.tack.atReset
    ∧ (∀ k, getStall t k = {}) ∧ (∀ i, getShed t i = {}) ∧ t.pwr.rails = .valid)
  ∧ (∀ (us : Nat) (s : State), 10 ≤ us → s.sys.tripped = true → s.pwr.rails = .off → ∃ t, exec (.resetNLow us) s = .next t
        ∧ t.pwr.rails = .precharge
    ∧ t.sys.tripped = false ∧ getF t Fld.PWR_LASTTRIP_CAUSE = getF s Fld.PWR_LASTTRIP_CAUSE ∧ getF t Fld.TCK_STATUS_SIGNER = signerBuilding)
  ∧ (∀ (req : Requester) (s : State), s.pwr.rails = .valid → req.bridle = true → ∃ t, exec (.pkgreset req 0xB5) s = .next t
    ∧ getF t Fld.EVT_RSTCAUSE_KIND = 1 ∧ getF t Fld.EVT_RSTCAUSE_CAUSE = 4 ∧ t.sys.ostlerUp = false ∧ t.sys.pkg = true ∧ t.time = s.time
        ∧ t.tack = s.tack.atReset
    ∧ (∀ k, getStall t k = {}) ∧ (∀ i, getShed t i = {}))
  ∧ (∀ (req : Requester) (key : BitVec 8) (s : State), req.bridle = false ∨ key ≠ 0xB5 → exec (.pkgreset req key) s = .next s)
  ∧ (∀ (cause : BitVec 2) (s : State), firmwareRuns s = true → cause ≠ 0 → phaseHeld s = 7 →
    (s.sys.restarts.filter (fun t => decide ((s.time - t).toNat < 600000000000))).length < 2 → ∃ t, exec (.ostlerRestart cause) s = .next t
    ∧ t.sys.ostlerUp = false ∧ t.sys.restarting = some cause.toNat ∧ getF t Fld.ECC_OHOLD_HOLD = 1
    ∧ getF t Fld.EVT_RSTCAUSE_ORESTARTS = (getF s Fld.EVT_RSTCAUSE_ORESTARTS + 1) % 256
    ∧ (∀ c : Fin 4, (getHost t c).state = .restarting ∧ (getHost t c).restarts = ((getHost s c).restarts + 1) % 256) ∧ t.mem = s.mem)
  ∧ (∀ (cause : BitVec 2) (s : State), firmwareRuns s = true → cause ≠ 0 → s.pwr.rails = .valid →
    2 ≤ (s.sys.restarts.filter (fun t => decide ((s.time - t).toNat < 600000000000))).length → ∃ t, exec (.ostlerRestart cause) s = .next t
    ∧ getF t Fld.EVT_RSTCAUSE_KIND = 1 ∧ getF t Fld.EVT_RSTCAUSE_CAUSE = 3 ∧ t.sys.escalated = some s.time ∧ t.sys.pkg = true)
  ∧ (∀ (addr : BitVec 48) (s : State), firmwareRuns s = true → phaseHeld s = 7 →
    (s.sys.restarts.filter (fun t => decide ((s.time - t).toNat < 600000000000))).length < 2
        → ∃ t, exec (.ostlerMemoryError addr) s = .next t
    ∧ t.sys.memErr = addr.toNat ∧ t.sys.restarting = some 1 ∧ t.sys.ostlerUp = false ∧ getF t Fld.ECC_OHOLD_HOLD = 1
    ∧ (∀ c : Fin 4, (getHost t c).state = .restarting) ∧ t.mem = s.mem)
  ∧ (∀ (req : Requester) (s : State), req.bridle = true → ∃ t, exec (.watchdogKick req) s = .next t ∧ t.sys = { s.sys with kick := s.time }
    ∧ watchdogExpired t = false ∧ Touches [.sys] s t)
  ∧ (∀ (s : State), watchdogExpired s = true → phaseHeld s = 7 →
    (s.sys.restarts.filter (fun t => decide ((s.time - t).toNat < 600000000000))).length < 2 → ∃ t, exec .watchdogExpiry s = .next t
    ∧ t.sys.restarting = some 2 ∧ t.sys.ostlerUp = false ∧ getF t Fld.ECC_OHOLD_HOLD = 1 ∧ (∀ c : Fin 4, (getHost t c).state = .restarting)
        ∧ t.mem = s.mem)
  ∧ (∀ (s : State), watchdogExpired s = false → exec .watchdogExpiry s = .next s)
  ∧ (∀ (c : Nat) (j : Image) (alt : Bool) (n : Nat) (s : State), s.sys.restarting = some c → s.pwr.rails = .valid → phaseHeld s = 7 →
    pickImage s 2 s.tack.osf = some (j, alt, n) → ∃ t, exec .phaseOstlerStart s = .next t ∧ t.tack.runOsf = some j
    ∧ t.sys.ostlerUp = true ∧ t.sys.restarting = none ∧ (∃ e ∈ t.ev.inFlight, e.code = 0xD005) ∧ t.serve.batches = []
    ∧ (∀ x ∈ t.serve.sessions, x.tokens = 0 ∧ x.lost = true) ∧ (∀ c : Fin 4, (getHost t c).state ≠ .restarting))
  ∧ (∀ (c : Nat) (j : Image) (alt : Bool) (n : Nat) (s : State), s.sys.restarting = some c → s.pwr.rails = .valid → phaseHeld s = 2 →
    pickImage s 2 s.tack.osf = some (j, alt, n) → ∃ t, exec .phaseOstlerStart s = .next t ∧ t.tack.runOsf = some j ∧ t.tack.bootEvents = []
    ∧ t.sys.ostlerUp = true ∧ t.sys.restarting = none ∧ phaseHeld t = 3 ∧ t.sys.began = true ∧ (∃ e ∈ t.ev.inFlight, e.code = 0xD005))
  ∧ (∀ (c : Nat) (s : State), s.sys.restarting = some c → s.pwr.rails = .valid → phaseHeld s = 7 → pickImage s 2 s.tack.osf = none →
    ∃ t, exec .phaseOstlerStart s = .next t ∧ t.tack.recovery = true ∧ t.tack.runOsf = none ∧ t.sys.restarting = none
    ∧ (∀ c : Fin 4, (getHost t c).state = .halted))

/-- R466: ostler firmware starts with PHASE 3; memory training leaves a stack READY or filling, or ABSENT; the light phase calibrates every
converter, and with the last calibration the banks and the farrier start and the light sequence runs; service ready sets PHASE 7,
enables the aperture and the reader, opens the mailboxes and raises 0xD001. R467: a phase that runs too long raises 0xD004. R475: a
change of level raises 0xD002. -/
def Obligations.StartUpPhases : Prop :=
  (∀ (s : State), s.sys.restarting = none → s.sys.ostlerUp = true → phaseHeld s = 2 → ∃ t, exec .phaseOstlerStart s = .next t
    ∧ phaseHeld t = 3 ∧ t.sys.ostlerUp = true ∧ t.sys.kick = s.time ∧ t.tack.bootEvents = [])
  ∧ (∀ (hbm : BitVec 8) (d : DdrTraining) (s : State), firmwareRuns s = true → phaseHeld s = 3 → s.sys.memDone = false →
    ∃ t, exec (.phaseMemory hbm d) s = .next t ∧ t.sys.memDone = true ∧ (∀ k : Fin 8, unitState t k = if bitOf hbm.toNat k then
    (if s.integ.filled.contains (k.val + 4) then tierReady else tierTraining) else tierAbsent))
  ∧ (∀ (hbm : BitVec 8) (d : DdrTraining) (s : State), firmwareRuns s = true → phaseHeld s = 3 → s.sys.memDone = false → ddrSound d = true →
    d.modules = 0 → ∃ t, exec (.phaseMemory hbm d) s = .next t ∧ (∀ c : Fin 12, unitState t (8 + c) = tierAbsent)
    ∧ getF t Fld.DDR_TOP_TOP = 0x10000000000 ∧ t.tier.ddrDown = false)
  ∧ (∀ (l0 l1 : Bool) (w : List RingSweep) (s : State), firmwareRuns s = true → phaseHeld s = 3 → s.sys.lightDone = false →
    (∀ m : Fin 48, monState s m ≠ monCal) → ∃ t, exec (.phaseLight l0 l1 w) s = .next t
        ∧ t.sys = { s.sys with lightDue := some (l0, l1, w) }
    ∧ (∀ m : Fin 48, (getConv t m).cal = true) ∧ Touches [.mon, .sys] s t)
  ∧ (∀ (m : Fin 48) (g r : Nat) (l0 l1 : Bool) (w : List RingSweep) (s : State), firmwareRuns s = true → s.sys.lightDue = some (l0, l1, w)
        → s.light.laserEn = true →
    monState s m = monCal → (getConv s m).back ≠ monCal → s.mon.calQueue = [] → (∀ n : Fin 48, (getConv s n).cal = false ∧ (n ≠ m
        → monState s n ≠ monCal)) →
    farState s = farStopped → ∃ t, exec (.calibrationEnd m g r) s = .next t ∧ t.sys.lightDue = none ∧ t.sys.lightDone = true
        ∧ t.light.running = true
    ∧ farState t = farRun ∧ (∀ b, b < 19 → b ∈ t.rein.starting))
  ∧ (∀ (ks : BitVec 16) (kd : W64) (s : State), phaseNow s = 6 → firmwareRuns s = true → ∃ t, exec (.phaseServiceReady ks kd) s = .next t
    ∧ phaseHeld t = 7 ∧ getF t Fld.HPT_CFG_AP_ALLOW = 1 ∧ getF t Fld.HPT_CFG_RD_ALLOW = 1 ∧ t.sys.trialDue = false
    ∧ (∀ c : Fin 4, (getHost s c).state = .booting → (getHost t c).state = .ready) ∧ (∃ e ∈ t.ev.inFlight, e.code = 0xD001))
  ∧ (∀ (n : BitVec 3) (ms : W32) (s : State), s.pwr.rails = .valid → inPhase s n.toNat = true → 1 ≤ n.toNat → n.toNat ≤ 6 →
    phaseWorst s.sys.pkg n.toNat < ms.toNat → ∃ t, exec (.phaseOverrun n ms) s = .next t ∧ (∃ e, t.ev.inFlight = s.ev.inFlight ++ [e]
        ∧ e.code = 0xD004
    ∧ e.detail = n.toNat + ms.toNat * 8) ∧ Touches [.ev] s t)
  ∧ (∀ (code : BitVec 16) (s : State), phaseHeld s = 7 → firmwareRuns s = true → serviceLevel s ≠ getF s Fld.EVT_SVC_LEVEL →
    ∃ t, exec (.serviceLevelChange code) s = .next t ∧ getF t Fld.EVT_SVC_LEVEL = serviceLevel s
    ∧ (∃ e, t.ev.inFlight = s.ev.inFlight ++ [e] ∧ e.code = 0xD002) ∧ Only rdReg [Reg.EVT_SVC.addr 0 0 0] s t ∧ Touches [.regs, .ev] s t)
  ∧ (∀ (code : BitVec 16) (s : State), serviceLevel s = getF s Fld.EVT_SVC_LEVEL → exec (.serviceLevelChange code) s = .next s)

/-- R259: naming a bay that is READY or DRAINING, it raises LFT_GEN by 1 and gives the bay that generation, makes it ACTIVE and shows it in
LFT_ACTIVE, turns the bay that was ACTIVE into DRAINING, or EMPTY where its REFS is 0, and raises 0x5005; naming a bay in any other
state, it has no effect but SWITCH_REFUSED and 0x5008. -/
def Obligations.SwitchRule : Prop :=
  (∀ (req : Requester) (y : Fin 2) (s : State), req.bridle = true → bayState s y = 2 ∨ bayState s y = 4 →
    ∃ t, exec (.loftSwitch req y) s = .next t ∧ getF t Fld.LFT_GEN_GEN = (getF s Fld.LFT_GEN_GEN + 1) % 2 ^ 64
    ∧ getF t Fld.LFT_BAY_GEN_GEN 0 y = getF t Fld.LFT_GEN_GEN ∧ bayState t y = 3 ∧ getF t Fld.LFT_ACTIVE_VALID = 1
        ∧ getF t Fld.LFT_ACTIVE_BAY = y
    ∧ bayState t (1 - y) = (if bayState s (1 - y) = 3 then (if getF s Fld.LFT_BAY_REFS_REFS 0 (1 - y) = 0 then 0 else 4) else bayState s (1
        - y))
    ∧ (∃ e, t.ev.inFlight = s.ev.inFlight ++ [e] ∧ e.code = 0x5005) ∧ Touches [.regs, .ev, .loft] s t)
  ∧ (∀ (req : Requester) (y : Fin 2) (s : State), req.bridle = true → bayState s y ≠ 2 → bayState s y ≠ 4 →
    ∃ t, exec (.loftSwitch req y) s = .next t ∧ getF t Fld.LFT_ERR_SWITCH_REFUSED = 1 ∧ Only rdReg [Reg.LFT_ERR.addr 0 0 0] s t
    ∧ (∃ e, t.ev.inFlight = s.ev.inFlight ++ [e] ∧ e.code = 0x5008) ∧ Touches [.regs, .ev] s t)

/-- R427: a write of SQ_TAIL that shrinks the entries waiting, or of CQ_HEAD outside the entries from the old HEAD to CQ_TAIL, gives STATE
HALTED, NOTICE and 0xB002 in a mailbox that is READY or RESTARTING (one still BOOTING: log entry 144, MailboxEntries); a HALTED mailbox
takes no entry and writes no completion, while its commands run on and their completions are discarded. -/
def Obligations.MailboxProtocolErrors : Prop :=
  (∀ (c : Fin 4) (v : Fin 4096) (s : State), (getHost s c).state = .ready ∨ (getHost s c).state = .restarting →
    (v.val + 4096 - (getHost s c).sqHead) % 4096 < ((getHost s c).sqTail + 4096 - (getHost s c).sqHead) % 4096 →
    ∃ t, exec (.sqTailWrite c v) s = .next t ∧ (getHost t c).state = .halted ∧ (getHost t c).notice = true
    ∧ (∃ e, t.ev.inFlight = s.ev.inFlight ++ [e] ∧ e.code = 0xB002) ∧ Only getHost [c.val] s t ∧ Touches [.regs, .ev, .host] s t)
  ∧ (∀ (c : Fin 4) (v : Fin 4096) (s : State), (getHost s c).state = .ready ∨ (getHost s c).state = .restarting →
    ((getHost s c).cqTail + 4096 - (getHost s c).cqHead) % 4096 < (v.val + 4096 - (getHost s c).cqHead) % 4096 →
    ∃ t, exec (.cqHeadWrite c v) s = .next t ∧ (getHost t c).state = .halted ∧ (getHost t c).notice = true
    ∧ (∃ e, t.ev.inFlight = s.ev.inFlight ++ [e] ∧ e.code = 0xB002) ∧ Only getHost [c.val] s t ∧ Touches [.regs, .ev, .host] s t)
  ∧ (∀ (c : Fin 4) (s : State), (getHost s c).state = .halted → exec (.submissionTake c) s = .next s)
  ∧ (∀ (c : Fin 4) (k : SubCmd) (s : State), (getHost s c).state = .halted → firmwareRuns s = true →
    (getHost s c).cmds.find? (fun k => k.ended.isSome) = some k → ∃ t, exec (.completionWrite c) s = .next t
    ∧ getHost t c = { getHost s c with cmds := (getHost s c).cmds.filter (fun j => j.id != k.id) } ∧ Only getHost [c.val] s t
    ∧ Touches [.host] s t)
  ∧ (∀ (c : Fin 4) (k : SubCmd) (s : State), (getHost s c).state = .halted → CmdStarts s c 0x0402 k → ∃ t r, exec (.calStatus c) s = .next t
    ∧ CmdEnded t c k.id 0 r ∧ (getHost t c).state = .halted)

/-- R15: an access that touches only registers marked bridleway only, by a requester that does not use the bridleway, reads 0 or has no
effect, without an error; a command row that writes such a register does nothing for such a requester. -/
def Obligations.ConfigurationHidden : Prop :=
  (∀ (req : Requester) (addr : BitVec 48) (w : Fin 65) (v : W64) (s : State), req.bridle = false →
    (∀ j r, j < w.val → regByteAt (addr.toNat + j) = some r → r.desc.bridleOnly = true) →
    (∃ t, exec (.registerWrite req addr w v) s = .next t ∧ t.bus = { s.bus with reply := .done } ∧ Touches [.bus] s t)
    ∧ (∃ t, exec (.rcRead req addr w) s = .next t ∧ t.bus = { s.bus with reply := .data 0 } ∧ Touches [.bus] s t))
  ∧ (∀ (req : Requester) (s : State), req.bridle = false →
    (∀ (stall : Fin 16) (range : Bool), exec (.stlCfgRange req stall range) s = .next s)
    ∧ (∀ (stall : Fin 16) (offline : Bool), exec (.stlCfgOffline req stall offline) s = .next s)
    ∧ (∀ (stall : Fin 16), exec (.stlReset req stall) s = .next s)
    ∧ (∀ (shed : Fin 64) (reg : ShedCfgReg) (value : W64), exec (.shedCfgWrite req shed reg value) s = .next s)
    ∧ (∀ (shu : Fin 96) (cls : Fin 3) (value : W32), exec (.shuClassWrite req shu cls value) s = .next s)
    ∧ (∀ (die : Fin 4) (sid : Fin 256), exec (.sidCtrlReset req die sid) s = .next s)
    ∧ (∀ (die : Fin 4) (sid : Fin 256) (reg : SidReg) (value : W64), exec (.sidingConfigWrite req die sid reg value) s = .next s)
    ∧ (∀ (unit : Fin 20) (offline : Bool), exec (.tierOfflineWrite req unit offline) s = .next s)
    ∧ (∀ (region : Fin 24) (value : W64), exec (.hndWrite req region value) s = .next s)
    ∧ (∀ (value : W32), exec (.groomEnableWrite req value) s = .next s)
    ∧ (∀ (die : Fin 4) (bank : Fin 64) (row : Fin 8192), exec (.mgrSoftrep req die bank row) s = .next s)
    ∧ (exec (.flipArm req) s = .next s)
    ∧ (exec (.flipDisarm req) s = .next s)
    ∧ (exec (.oholdRelease req) s = .next s)
    ∧ (∀ (bay : Fin 2) (state : Fin 8), exec (.baySet req bay state) s = .next s)
    ∧ (∀ (bay : Fin 2), exec (.loftSwitch req bay) s = .next s)
    ∧ (∀ (bay : Fin 2) (n : W16), exec (.refopIncrement req bay n) s = .next s)
    ∧ (∀ (bay : Fin 2) (n : W16), exec (.refopDecrement req bay n) s = .next s)
    ∧ (∀ (lock0 lock1 : Bool) (sweeps : List RingSweep), exec (.lteAssign req lock0 lock1 sweeps) s = .next s)
    ∧ (∀ (lock0 lock1 : Bool) (sweeps : List RingSweep), exec (.lteRelight req lock0 lock1 sweeps) s = .next s)
    ∧ (exec (.lteDark req) s = .next s)
    ∧ (∀ (pass0 pass1 : Bool), exec (.lteRestore req pass0 pass1) s = .next s)
    ∧ (∀ (ring : Fin 528), exec (.ringStop req ring) s = .next s)
    ∧ (∀ (ring : Fin 528), exec (.ringStart req ring) s = .next s)
    ∧ (∀ (ring : Fin 528), exec (.ringRecheck req ring) s = .next s)
    ∧ (∀ (ring : Fin 528) (value : W32), exec (.ringCfgWrite req ring value) s = .next s)
    ∧ (∀ (conv : Fin 48), exec (.monitorStart req conv) s = .next s)
    ∧ (∀ (conv : Fin 48), exec (.monitorStop req conv) s = .next s)
    ∧ (∀ (conv : Fin 48), exec (.monitorCal req conv) s = .next s)
    ∧ (∀ (conv : Fin 48) (reg : MonReg) (value : W32), exec (.accConfigWrite req conv reg value) s = .next s)
    ∧ (∀ (chan : Fin 1024) (code : BitVec 12) (x2 en : Bool), exec (.trmCodeWrite req chan code x2 en) s = .next s)
    ∧ (∀ (bank : Fin 24), exec (.bankStop req bank) s = .next s)
    ∧ (∀ (bank : Fin 24), exec (.bankStart req bank) s = .next s)
    ∧ (∀ (loop : Fin 6144) (word : LoopOffset) (value : W32), exec (.loopFieldWrite req loop word value) s = .next s)
    ∧ (∀ (loop : Fin 6144) (freeze : Bool), exec (.freezeWrite req loop freeze) s = .next s)
    ∧ (exec (.farrierStart req) s = .next s)
    ∧ (exec (.farrierStop req) s = .next s)
    ∧ (exec (.runall req) s = .next s)
    ∧ (∀ (stall : Fin 16), exec (.farStallRun req stall) s = .next s)
    ∧ (∀ (stall : Fin 16), exec (.farStallRelease req stall) s = .next s)
    ∧ (∀ (port : Fin 8) (lanes : W32), exec (.farPortLanerun req port lanes) s = .next s)
    ∧ (∀ (port : Fin 8) (addr : BitVec 48), exec (.c0TxArm req port addr) s = .next s)
    ∧ (∀ (port : Fin 8), exec (.portStart req port) s = .next s)
    ∧ (∀ (port : Fin 8), exec (.portStop req port) s = .next s)
    ∧ (∀ (reg : DrvCfgReg) (value : W64), exec (.drvConfigWrite req reg value) s = .next s)
    ∧ (∀ (key : BitVec 8), exec (.pkgreset req key) s = .next s)
    ∧ (exec (.watchdogKick req) s = .next s))

/-- The model's frame: the command at the front of the queue is taken and exec carries it out with the queue's rest; with no command waiting
1 ns passes (log entry 1), in which the count of corrected bytes of ostler memory grows by a free number (log entry 8); no row of the
command table gives bits, so no word spells a command. -/
def Obligations.StepRule : Prop :=
  (∀ (c : Instr) (q : List Instr) (s : State), s.pending = c :: q → step s = exec c { s with pending := q })
  ∧ (∀ (s : State), s.pending = [] → ∃ t, step s = .next t ∧ t.time = s.time + 1
    ∧ (s.far.work = none → s.pwr.rails ≠ .valid → t = { s with time := s.time + 1 })
    ∧ (s.far.work = none → s.pwr.rails = .valid → t.freeCtr = s.freeCtr + 1 ∧ Only rdReg [Reg.ECC_OCE.addr 0 0 0] s t
        ∧ Touches [.time, .freeCtr, .regs] s t)
    ∧ Touches [.time, .freeCtr, .regs, .stall, .rein, .far] s t)
  ∧ (∀ (n w : Nat) (s : State), decodeTableWord n w = none ∧ s.withFetchWord n w = s)

/-- The state at power-on reset: no command waits, the tables are in canonical form, the rails precharge, start-up is in phase 1, every
register holds its Reset column value. Where the spec gives no value the model names one (log entries of NOTES.md). -/
def Obligations.ResetState : Prop :=
  (State.reset.inv = true ∧ State.reset.pending = [] ∧ State.reset.regs = [] ∧ State.reset.time = 0)
  ∧ (State.reset.pwr.rails = .precharge ∧ phaseHeld State.reset = 1 ∧ State.reset.sys.ostlerUp = false
    ∧ getF State.reset Fld.TCK_STATUS_SIGNER = 1 ∧ getF State.reset Fld.THM_RECMAX_MS = 40)

/-- The invariant of the model: in every state that holds it, whatever command is at the front of the queue, the state after the step holds
it: registers, memory and unit records keep the one form in which equal contents are equal data (the model's form of the state), and the
event queue of R478 never exceeds 256 records. -/
def Obligations.StepKeepsInvariant : Prop :=
  ∀ (s t : State), s.inv = true → step s = .next t → t.inv = true

/-- For every command and every state: exec answers a next state (the block has no fault and no refusal), leaves the queue of waiting
commands as it is, and changes no component of the state outside the footprint that Safety.lean lists for it; so a step takes exactly
the front command off the queue. That a command whose condition does not hold changes nothing is log entry 3, and that no fault or
refusal arises log entry 177. -/
def Obligations.CommandFrames : Prop :=
  (∀ (c : Instr) (s : State), ∃ t, exec c s = .next t ∧ t.pending = s.pending ∧ Touches (footprint c) s t)
  ∧ (∀ (c : Instr) (q : List Instr) (s t : State), s.pending = c :: q → step s = .next t → t.pending = q)
end

