-- ==== Sys2Proof/Laws/Map.lean ====
section
/-! SUPPORT. Laws of the canonical sparse map: what a read after a write gives, and that every operation keeps the canonical form. -/
namespace Sys2Proof

variable {α : Type}

@[simp] theorem nmFind_nil (k : Nat) : nmFind ([] : NMap α) k = none := rfl

theorem nmFind_insert (m : NMap α) (k j : Nat) (v : α) : nmFind (nmInsert m k v) j = if j = k then some v else nmFind m j := by
  induction m with
  | nil => simp [nmInsert, nmFind, eq_comm]
  | cons x t ih =>
    obtain ⟨i, w⟩ := x
    simp only [nmInsert]
    split
    · simp only [nmFind]; by_cases h : k = j <;> simp [h, eq_comm]
    · split
      · rename_i h; subst h; simp only [nmFind]; by_cases h : j = i <;> simp [h, eq_comm]
      · simp only [nmFind, ih]
        by_cases h : i = j
        · subst h; rename_i h2; simp [h2]
        · simp [h]

variable [DecidableEq α]

omit [DecidableEq α] in
theorem nmFind_erase (m : NMap α) (k j : Nat) : nmFind (nmErase m k) j = if j = k then none else nmFind m j := by
  induction m with
  | nil => simp [nmErase]
  | cons x t ih =>
    obtain ⟨i, w⟩ := x
    simp only [nmErase]
    split
    · rename_i hik; subst hik
      rw [ih]
      by_cases hj : j = i
      · simp [hj]
      · simp [nmFind, hj, Ne.symm hj]
    · rename_i hik
      simp only [nmFind, ih]
      by_cases hj : i = j
      · subst hj; simp [hik]
      · simp [hj]

/-- A read after a write. -/
theorem nmGet_put (d : Nat → α) (m : NMap α) (k j : Nat) (v : α) : nmGet d (nmPut d m k v) j = if j = k then v else nmGet d m j := by
  unfold nmGet nmPut
  split
  · rename_i hv
    rw [nmFind_erase m k j]
    by_cases hj : j = k
    · subst hj; simp [hv]
    · simp [hj]
  · rw [nmFind_insert]
    by_cases hj : j = k <;> simp [hj]

@[simp] theorem nmGet_put_same (d : Nat → α) (m : NMap α) (k : Nat) (v : α) : nmGet d (nmPut d m k v) k = v := by
  rw [nmGet_put d m k k v, if_pos rfl]

theorem nmGet_put_ne (d : Nat → α) (m : NMap α) (k j : Nat) (v : α) (hj : j ≠ k) : nmGet d (nmPut d m k v) j = nmGet d m j := by
  rw [nmGet_put d m k j v, if_neg hj]

theorem nmWfFrom_mono (d : Nat → α) (m : NMap α) (b c : Nat) (h : nmWfFrom d b m = true) (hc : c ≤ b) : nmWfFrom d c m = true := by
  cases m with
  | nil => rfl
  | cons x t =>
    simp only [nmWfFrom, Bool.and_eq_true, decide_eq_true_eq] at h ⊢
    exact ⟨⟨by omega, h.1.2⟩, h.2⟩

theorem nmWfFrom_erase (d : Nat → α) (m : NMap α) (b k : Nat) (h : nmWfFrom d b m = true) : nmWfFrom d b (nmErase m k) = true := by
  induction m generalizing b with
  | nil => rfl
  | cons x t ih =>
    simp only [nmWfFrom, Bool.and_eq_true, decide_eq_true_eq] at h
    simp only [nmErase]
    split
    · exact nmWfFrom_mono d _ (x.1 + 1) b (ih _ h.2) (by omega)
    · simp only [nmWfFrom, Bool.and_eq_true, decide_eq_true_eq]
      exact ⟨h.1, ih _ h.2⟩

theorem nmWfFrom_insert (d : Nat → α) (m : NMap α) (b k : Nat) (v : α) (h : nmWfFrom d b m = true) (hb : b ≤ k) (hv : v ≠ d k) :
    nmWfFrom d b (nmInsert m k v) = true := by
  induction m generalizing b with
  | nil => simp [nmInsert, nmWfFrom, hb, hv]
  | cons x t ih =>
    obtain ⟨i, w⟩ := x
    simp only [nmWfFrom, Bool.and_eq_true, decide_eq_true_eq] at h
    simp only [nmInsert]
    split
    · simp only [nmWfFrom, Bool.and_eq_true, decide_eq_true_eq]
      exact ⟨⟨hb, hv⟩, ⟨by omega, h.1.2⟩, h.2⟩
    · split
      · rename_i hik; subst hik
        simp only [nmWfFrom, Bool.and_eq_true, decide_eq_true_eq]
        exact ⟨⟨h.1.1, hv⟩, h.2⟩
      · simp only [nmWfFrom, Bool.and_eq_true, decide_eq_true_eq]
        exact ⟨h.1, ih _ h.2 (by omega)⟩

/-- A write keeps the canonical form. -/
theorem nmWf_put (d : Nat → α) (m : NMap α) (k : Nat) (v : α) (h : nmWf d m = true) : nmWf d (nmPut d m k v) = true := by
  unfold nmPut
  split
  · exact nmWfFrom_erase d m 0 k h
  · rename_i hv; exact nmWfFrom_insert d m 0 k v h (Nat.zero_le k) hv

theorem nmWf_nil (d : Nat → α) : nmWf d ([] : NMap α) = true := rfl

/-- A change of every entry gives the canonical form. -/
theorem nmWf_map (d : Nat → α) (f : Nat → α → α) (m : NMap α) : nmWf d (nmMap d f m) = true := by
  have key : ∀ (l : NMap α) (r : NMap α), nmWf d r = true → nmWf d (l.foldl (fun r x => nmPut d r x.1 (f x.1 x.2)) r) = true := by
    intro l
    induction l with
    | nil => intro r h; exact h
    | cons x t ih => intro r h; exact ih _ (nmWf_put d r _ _ h)
  exact key m [] rfl

/-- Leaving entries out keeps the canonical form. -/
theorem nmWf_filter (d : Nat → α) (p : Nat × α → Bool) (m : NMap α) (h : nmWf d m = true) : nmWf d (m.filter p) = true := by
  have key : ∀ (l : NMap α) (b : Nat), nmWfFrom d b l = true → nmWfFrom d b (l.filter p) = true := by
    intro l
    induction l with
    | nil => intro b h; exact h
    | cons x t ih =>
      intro b h
      simp only [nmWfFrom, Bool.and_eq_true, decide_eq_true_eq] at h
      simp only [List.filter]
      split
      · simp only [nmWfFrom, Bool.and_eq_true, decide_eq_true_eq]
        exact ⟨h.1, ih _ h.2⟩
      · exact nmWfFrom_mono d _ (x.1 + 1) b (ih _ h.2) (by omega)
  exact key m 0 h

end Sys2Proof
end

