-- ==== Sys2Proof/Laws/Bits.lean ====
section
/-! SUPPORT. Laws of bit fields: reading a field after a field of the same word is replaced. -/
namespace Sys2Proof.Machine

theorem testBit_bitsOf (v lo len i : Nat) : (bitsOf v lo len).testBit i = (decide (i < len) && v.testBit (lo + i)) := by
  unfold bitsOf
  rw [Nat.testBit_mod_two_pow, Nat.testBit_div_two_pow]
  congr 2
  omega

theorem getLsbD_insBits (v : W64) (lo len x i : Nat) (h : lo + len ≤ 64) (hi : i < 64) :
    (insBits v lo len x).getLsbD i = if lo ≤ i ∧ i < lo + len then x.testBit (i - lo) else v.getLsbD i := by
  simp only [insBits, BitVec.getLsbD_or, BitVec.getLsbD_and, BitVec.getLsbD_not, BitVec.getLsbD_shiftLeft, BitVec.getLsbD_ofNat,
    Nat.testBit_two_pow_sub_one, hi, decide_true, Bool.true_and]
  by_cases h1 : lo ≤ i
  · by_cases h2 : i < lo + len
    · have a : i - lo < 64 := by omega
      have b : i - lo < len := by omega
      have c : ¬ i < lo := by omega
      simp [h1, h2, a, b, c]
    · have b : ¬ i - lo < len := by omega
      simp [h1, h2, b]
  · have c : i < lo := by omega
    simp [h1, c]

theorem bitsOf_insBits_same {lo len : Nat} (v : W64) (x : Nat) (h : lo + len ≤ 64) :
    bitsOf (insBits v lo len x).toNat lo len = x % 2 ^ len := by
  apply Nat.eq_of_testBit_eq
  intro i
  rw [testBit_bitsOf, Nat.testBit_mod_two_pow]
  by_cases hi : i < len
  · have := getLsbD_insBits v lo len x (lo + i) h (by omega)
    simp only [BitVec.testBit_toNat, this]
    simp [hi]
  · simp [hi]

theorem bitsOf_insBits_other {lo len lo2 len2 : Nat} (v : W64) (x : Nat) (h : lo + len ≤ 64) (h2 : lo2 + len2 ≤ 64)
    (hd : lo + len ≤ lo2 ∨ lo2 + len2 ≤ lo) : bitsOf (insBits v lo len x).toNat lo2 len2 = bitsOf v.toNat lo2 len2 := by
  apply Nat.eq_of_testBit_eq
  intro i
  rw [testBit_bitsOf, testBit_bitsOf]
  by_cases hi : i < len2
  · have := getLsbD_insBits v lo len x (lo2 + i) h (by omega)
    have hn : ¬ (lo ≤ lo2 + i ∧ lo2 + i < lo + len) := by omega
    simp only [BitVec.testBit_toNat, this, if_neg hn]
  · simp [hi]

end Sys2Proof.Machine
end

