-- ==== Sys2Proof/Laws/Dispatch.lean ====
section
/-! SUPPORT. One lemma per command: `exec` of it is its meaning. -/
namespace Sys2Proof.Machine

variable (s : State)

theorem exec_registerWrite (req : Requester) (addr : BitVec 48) (width : Fin 65) (value : W64) : exec (.registerWrite req addr width value) s = execRegisterWrite req addr width value s := rfl
theorem exec_lowHalfWrite (req : Requester) (addr : BitVec 48) (value : W32) : exec (.lowHalfWrite req addr value) s = execLowHalfWrite req addr value s := rfl
theorem exec_highHalfWrite (req : Requester) (addr : BitVec 48) (value : W32) : exec (.highHalfWrite req addr value) s = execHighHalfWrite req addr value s := rfl
theorem exec_lowHalfRead (req : Requester) (addr : BitVec 48) : exec (.lowHalfRead req addr) s = execLowHalfRead req addr s := rfl
theorem exec_highHalfRead (req : Requester) (addr : BitVec 48) : exec (.highHalfRead req addr) s = execHighHalfRead req addr s := rfl
theorem exec_rcRead (req : Requester) (addr : BitVec 48) (width : Fin 65) : exec (.rcRead req addr width) s = execRcRead req addr width s := rfl
theorem exec_eventRecordArrival (idx : List Nat) : exec (.eventRecordArrival idx) s = execEventRecordArrival idx s := rfl
theorem exec_seedWrite (reg : ShuAt) (value : W64) : exec (.seedWrite reg value) s = execSeedWrite reg value s := rfl
theorem exec_loadAccept (stall : Fin 16) : exec (.loadAccept stall) s = execLoadAccept stall s := rfl
theorem exec_stringCyclesStart (stall : Fin 16) : exec (.stringCyclesStart stall) s = execStringCyclesStart stall s := rfl
theorem exec_loadComplete (stall : Fin 16) : exec (.loadComplete stall) s = execLoadComplete stall s := rfl
theorem exec_commit (stall : Fin 16) : exec (.commit stall) s = execCommit stall s := rfl
theorem exec_holdRefreshDue (stall : Fin 16) (nodeB : Bool) (elapsed : Nat) : exec (.holdRefreshDue stall nodeB elapsed) s = execHoldRefreshDue stall nodeB elapsed s := rfl
theorem exec_holdRefreshStart (stall : Fin 16) : exec (.holdRefreshStart stall) s = execHoldRefreshStart stall s := rfl
theorem exec_holdRefreshEnd (stall : Fin 16) : exec (.holdRefreshEnd stall) s = execHoldRefreshEnd stall s := rfl
theorem exec_bandChangeAtStall (stall : Fin 16) (elapsedA elapsedB : Nat) : exec (.bandChangeAtStall stall elapsedA elapsedB) s = execBandChangeAtStall stall elapsedA elapsedB s := rfl
theorem exec_tileOpHandover (stall : Fin 16) : exec (.tileOpHandover stall) s = execTileOpHandover stall s := rfl
theorem exec_issueAccept (stall : Fin 16) : exec (.issueAccept stall) s = execIssueAccept stall s := rfl
theorem exec_tileOpBegin (stall : Fin 16) : exec (.tileOpBegin stall) s = execTileOpBegin stall s := rfl
theorem exec_passEnd (stall : Fin 16) : exec (.passEnd stall) s = execPassEnd stall s := rfl
theorem exec_retryStart (stall : Fin 16) : exec (.retryStart stall) s = execRetryStart stall s := rfl
theorem exec_tileOpComplete (stall : Fin 16) : exec (.tileOpComplete stall) s = execTileOpComplete stall s := rfl
theorem exec_stallStart (stall : Fin 16) : exec (.stallStart stall) s = execStallStart stall s := rfl
theorem exec_stallStop (stall : Fin 16) : exec (.stallStop stall) s = execStallStop stall s := rfl
theorem exec_stallStopCut (stall : Fin 16) : exec (.stallStopCut stall) s = execStallStopCut stall s := rfl
theorem exec_stallStopped (stall : Fin 16) : exec (.stallStopped stall) s = execStallStopped stall s := rfl
theorem exec_stlCfgRange (req : Requester) (stall : Fin 16) (range : Bool) : exec (.stlCfgRange req stall range) s = execStlCfgRange req stall range s := rfl
theorem exec_stlCfgOffline (req : Requester) (stall : Fin 16) (offline : Bool) : exec (.stlCfgOffline req stall offline) s = execStlCfgOffline req stall offline s := rfl
theorem exec_stlReset (req : Requester) (stall : Fin 16) : exec (.stlReset req stall) s = execStlReset req stall s := rfl
theorem exec_scalarAdd (shed : Fin 64) (thread : Fin 256) (rd ra rb : Fin 32) (mask : Fin 8) : exec (.scalarAdd shed thread rd ra rb mask) s = execScalarAdd shed thread rd ra rb mask s := rfl
theorem exec_scalarSub (shed : Fin 64) (thread : Fin 256) (rd ra rb : Fin 32) (mask : Fin 8) : exec (.scalarSub shed thread rd ra rb mask) s = execScalarSub shed thread rd ra rb mask s := rfl
theorem exec_scalarLogic (shed : Fin 64) (thread : Fin 256) (fn : LogicFn) (rd ra rb : Fin 32) (mask : Fin 8) : exec (.scalarLogic shed thread fn rd ra rb mask) s = execScalarLogic shed thread fn rd ra rb mask s := rfl
theorem exec_scalarShift (shed : Fin 64) (thread : Fin 256) (fn : ShiftFn) (rd ra rb : Fin 32) (mask : Fin 8) : exec (.scalarShift shed thread fn rd ra rb mask) s = execScalarShift shed thread fn rd ra rb mask s := rfl
theorem exec_scalarCompare (shed : Fin 64) (thread : Fin 256) (fn : CmpFn) (rd ra rb : Fin 32) (mask : Fin 8) : exec (.scalarCompare shed thread fn rd ra rb mask) s = execScalarCompare shed thread fn rd ra rb mask s := rfl
theorem exec_mul (shed : Fin 64) (thread : Fin 256) (rd ra rb : Fin 32) (mask : Fin 8) : exec (.mul shed thread rd ra rb mask) s = execMul shed thread rd ra rb mask s := rfl
theorem exec_div (shed : Fin 64) (thread : Fin 256) (rd ra rb : Fin 32) (mask : Fin 8) : exec (.div shed thread rd ra rb mask) s = execDiv shed thread rd ra rb mask s := rfl
theorem exec_scalarImmediate (shed : Fin 64) (thread : Fin 256) (fn : ImmFn) (rd ra : Fin 32) (imm : BitVec 12) : exec (.scalarImmediate shed thread fn rd ra imm) s = execScalarImmediate shed thread fn rd ra imm s := rfl
theorem exec_lui (shed : Fin 64) (thread : Fin 256) (rd : Fin 32) (imm : BitVec 12) : exec (.lui shed thread rd imm) s = execLui shed thread rd imm s := rfl
theorem exec_branchEq (shed : Fin 64) (thread : Fin 256) (ra rb : Fin 32) (off : BitVec 15) : exec (.branchEq shed thread ra rb off) s = execBranchEq shed thread ra rb off s := rfl
theorem exec_branchNe (shed : Fin 64) (thread : Fin 256) (ra rb : Fin 32) (off : BitVec 15) : exec (.branchNe shed thread ra rb off) s = execBranchNe shed thread ra rb off s := rfl
theorem exec_branchLt (shed : Fin 64) (thread : Fin 256) (ra rb : Fin 32) (off : BitVec 15) : exec (.branchLt shed thread ra rb off) s = execBranchLt shed thread ra rb off s := rfl
theorem exec_branchGe (shed : Fin 64) (thread : Fin 256) (ra rb : Fin 32) (off : BitVec 15) : exec (.branchGe shed thread ra rb off) s = execBranchGe shed thread ra rb off s := rfl
theorem exec_branchLtu (shed : Fin 64) (thread : Fin 256) (ra rb : Fin 32) (off : BitVec 15) : exec (.branchLtu shed thread ra rb off) s = execBranchLtu shed thread ra rb off s := rfl
theorem exec_branchGeu (shed : Fin 64) (thread : Fin 256) (ra rb : Fin 32) (off : BitVec 15) : exec (.branchGeu shed thread ra rb off) s = execBranchGeu shed thread ra rb off s := rfl
theorem exec_jumpToRegister (shed : Fin 64) (thread : Fin 256) (ra : Fin 32) : exec (.jumpToRegister shed thread ra) s = execJumpToRegister shed thread ra s := rfl
theorem exec_jumpAndLink (shed : Fin 64) (thread : Fin 256) (rd : Fin 32) (off : BitVec 20) : exec (.jumpAndLink shed thread rd off) s = execJumpAndLink shed thread rd off s := rfl
theorem exec_scalarLoad (shed : Fin 64) (thread : Fin 256) (size : Fin 8) (ord : Fin 4) (rd ra : Fin 32) (off : BitVec 12) : exec (.scalarLoad shed thread size ord rd ra off) s = execScalarLoad shed thread size ord rd ra off s := rfl
theorem exec_scalarStore (shed : Fin 64) (thread : Fin 256) (size : Fin 8) (ord : Fin 4) (rs ra : Fin 32) (off : BitVec 12) : exec (.scalarStore shed thread size ord rs ra off) s = execScalarStore shed thread size ord rs ra off s := rfl
theorem exec_vectorLoad (shed : Fin 64) (thread : Fin 256) (size : Fin 8) (ord : Fin 4) (vd ra : Fin 32) (off : BitVec 12) : exec (.vectorLoad shed thread size ord vd ra off) s = execVectorLoad shed thread size ord vd ra off s := rfl
theorem exec_vectorStore (shed : Fin 64) (thread : Fin 256) (size : Fin 8) (ord : Fin 4) (vs ra : Fin 32) (off : BitVec 12) : exec (.vectorStore shed thread size ord vs ra off) s = execVectorStore shed thread size ord vs ra off s := rfl
theorem exec_loadResultReturn (shed : Fin 64) (thread : Fin 256) (idx : Nat) : exec (.loadResultReturn shed thread idx) s = execLoadResultReturn shed thread idx s := rfl
theorem exec_vectorArith (shed : Fin 64) (thread : Fin 256) (fn : VecFn) (ty : VecTy) (vd va vb : Fin 32) (mask : Fin 8) : exec (.vectorArith shed thread fn ty vd va vb mask) s = execVectorArith shed thread fn ty vd va vb mask s := rfl
theorem exec_vfma (shed : Fin 64) (thread : Fin 256) (ty : FmaTy) (vd va vb : Fin 32) (mask : Fin 8) : exec (.vfma shed thread ty vd va vb mask) s = execVfma shed thread ty vd va vb mask s := rfl
theorem exec_vdot2 (shed : Fin 64) (thread : Fin 256) (vd va vb : Fin 32) (mask : Fin 8) : exec (.vdot2 shed thread vd va vb mask) s = execVdot2 shed thread vd va vb mask s := rfl
theorem exec_bxdot8 (shed : Fin 64) (thread : Fin 256) (vd va vb : Fin 32) (xs : Fin 32) : exec (.bxdot8 shed thread vd va vb xs) s = execBxdot8 shed thread vd va vb xs s := rfl
theorem exec_tobx4 (shed : Fin 64) (thread : Fin 256) (vd va xs : Fin 32) (slot rnd : Fin 4) : exec (.tobx4 shed thread vd va xs slot rnd) s = execTobx4 shed thread vd va xs slot rnd s := rfl
theorem exec_tobx8 (shed : Fin 64) (thread : Fin 256) (vd va xs : Fin 32) (slot rnd : Fin 4) : exec (.tobx8 shed thread vd va xs slot rnd) s = execTobx8 shed thread vd va xs slot rnd s := rfl
theorem exec_tobx16 (shed : Fin 64) (thread : Fin 256) (vd va xs : Fin 32) (slot rnd : Fin 4) : exec (.tobx16 shed thread vd va xs slot rnd) s = execTobx16 shed thread vd va xs slot rnd s := rfl
theorem exec_frombx4 (shed : Fin 64) (thread : Fin 256) (vd va xs : Fin 32) (group : Fin 8) : exec (.frombx4 shed thread vd va xs group) s = execFrombx4 shed thread vd va xs group s := rfl
theorem exec_frombx8 (shed : Fin 64) (thread : Fin 256) (vd va xs : Fin 32) (group : Fin 8) : exec (.frombx8 shed thread vd va xs group) s = execFrombx8 shed thread vd va xs group s := rfl
theorem exec_frombx16 (shed : Fin 64) (thread : Fin 256) (vd va xs : Fin 32) (group : Fin 8) : exec (.frombx16 shed thread vd va xs group) s = execFrombx16 shed thread vd va xs group s := rfl
theorem exec_f32tobf16 (shed : Fin 64) (thread : Fin 256) (vd va : Fin 32) : exec (.f32tobf16 shed thread vd va) s = execF32tobf16 shed thread vd va s := rfl
theorem exec_bf16tof32 (shed : Fin 64) (thread : Fin 256) (vd va : Fin 32) (half : Fin 2) : exec (.bf16tof32 shed thread vd va half) s = execBf16tof32 shed thread vd va half s := rfl
theorem exec_atomicAdd (shed : Fin 64) (thread : Fin 256) (rd ra rb : Fin 32) (mask : Fin 8) (mod : Fin 16) : exec (.atomicAdd shed thread rd ra rb mask mod) s = execAtomicAdd shed thread rd ra rb mask mod s := rfl
theorem exec_atomicAnd (shed : Fin 64) (thread : Fin 256) (rd ra rb : Fin 32) (mask : Fin 8) (mod : Fin 16) : exec (.atomicAnd shed thread rd ra rb mask mod) s = execAtomicAnd shed thread rd ra rb mask mod s := rfl
theorem exec_atomicOr (shed : Fin 64) (thread : Fin 256) (rd ra rb : Fin 32) (mask : Fin 8) (mod : Fin 16) : exec (.atomicOr shed thread rd ra rb mask mod) s = execAtomicOr shed thread rd ra rb mask mod s := rfl
theorem exec_atomicXor (shed : Fin 64) (thread : Fin 256) (rd ra rb : Fin 32) (mask : Fin 8) (mod : Fin 16) : exec (.atomicXor shed thread rd ra rb mask mod) s = execAtomicXor shed thread rd ra rb mask mod s := rfl
theorem exec_atomicSwap (shed : Fin 64) (thread : Fin 256) (rd ra rb : Fin 32) (mask : Fin 8) (mod : Fin 16) : exec (.atomicSwap shed thread rd ra rb mask mod) s = execAtomicSwap shed thread rd ra rb mask mod s := rfl
theorem exec_atomicCas (shed : Fin 64) (thread : Fin 256) (rd ra rb : Fin 32) (mask : Fin 8) (mod : Fin 16) : exec (.atomicCas shed thread rd ra rb mask mod) s = execAtomicCas shed thread rd ra rb mask mod s := rfl
theorem exec_atomicMins (shed : Fin 64) (thread : Fin 256) (rd ra rb : Fin 32) (mask : Fin 8) (mod : Fin 16) : exec (.atomicMins shed thread rd ra rb mask mod) s = execAtomicMins shed thread rd ra rb mask mod s := rfl
theorem exec_atomicMaxs (shed : Fin 64) (thread : Fin 256) (rd ra rb : Fin 32) (mask : Fin 8) (mod : Fin 16) : exec (.atomicMaxs shed thread rd ra rb mask mod) s = execAtomicMaxs shed thread rd ra rb mask mod s := rfl
theorem exec_atomicMinu (shed : Fin 64) (thread : Fin 256) (rd ra rb : Fin 32) (mask : Fin 8) (mod : Fin 16) : exec (.atomicMinu shed thread rd ra rb mask mod) s = execAtomicMinu shed thread rd ra rb mask mod s := rfl
theorem exec_atomicMaxu (shed : Fin 64) (thread : Fin 256) (rd ra rb : Fin 32) (mask : Fin 8) (mod : Fin 16) : exec (.atomicMaxu shed thread rd ra rb mask mod) s = execAtomicMaxu shed thread rd ra rb mask mod s := rfl
theorem exec_fence (shed : Fin 64) (thread : Fin 256) (mask : Fin 8) : exec (.fence shed thread mask) s = execFence shed thread mask s := rfl
theorem exec_sbinc (shed : Fin 64) (thread : Fin 256) (ra rb : Fin 32) (mask : Fin 8) : exec (.sbinc shed thread ra rb mask) s = execSbinc shed thread ra rb mask s := rfl
theorem exec_sbwait (shed : Fin 64) (thread : Fin 256) (rd ra rb : Fin 32) (mask : Fin 8) : exec (.sbwait shed thread rd ra rb mask) s = execSbwait shed thread rd ra rb mask s := rfl
theorem exec_sbwaitWake (shed : Fin 64) (thread : Fin 256) : exec (.sbwaitWake shed thread) s = execSbwaitWake shed thread s := rfl
theorem exec_sbwaitTimeout (shed : Fin 64) (thread : Fin 256) (elapsed : Nat) : exec (.sbwaitTimeout shed thread elapsed) s = execSbwaitTimeout shed thread elapsed s := rfl
theorem exec_halt (shed : Fin 64) (thread : Fin 256) (mask : Fin 8) : exec (.halt shed thread mask) s = execHalt shed thread mask s := rfl
theorem exec_tileop (shed : Fin 64) (thread : Fin 256) (w : Bool) (rd ra rb : Fin 32) (mask : Fin 8) : exec (.tileop shed thread w rd ra rb mask) s = execTileop shed thread w rd ra rb mask s := rfl
theorem exec_csrr (shed : Fin 64) (thread : Fin 256) (rd : Fin 32) (csr : BitVec 12) : exec (.csrr shed thread rd csr) s = execCsrr shed thread rd csr s := rfl
theorem exec_csrw (shed : Fin 64) (thread : Fin 256) (ra : Fin 32) (csr : BitVec 12) : exec (.csrw shed thread ra csr) s = execCsrw shed thread ra csr s := rfl
theorem exec_eret (shed : Fin 64) (thread : Fin 256) : exec (.eret shed thread) s = execEret shed thread s := rfl
theorem exec_trap (shed : Fin 64) (thread : Fin 256) (imm : BitVec 12) : exec (.trap shed thread imm) s = execTrap shed thread imm s := rfl
theorem exec_exp2 (shed : Fin 64) (thread : Fin 256) (vd va : Fin 32) (mask : Fin 8) : exec (.exp2 shed thread vd va mask) s = execExp2 shed thread vd va mask s := rfl
theorem exec_log2 (shed : Fin 64) (thread : Fin 256) (vd va : Fin 32) (mask : Fin 8) : exec (.log2 shed thread vd va mask) s = execLog2 shed thread vd va mask s := rfl
theorem exec_rcp (shed : Fin 64) (thread : Fin 256) (vd va : Fin 32) (mask : Fin 8) : exec (.rcp shed thread vd va mask) s = execRcp shed thread vd va mask s := rfl
theorem exec_rsqrt (shed : Fin 64) (thread : Fin 256) (vd va : Fin 32) (mask : Fin 8) : exec (.rsqrt shed thread vd va mask) s = execRsqrt shed thread vd va mask s := rfl
theorem exec_sin (shed : Fin 64) (thread : Fin 256) (vd va : Fin 32) (mask : Fin 8) : exec (.sin shed thread vd va mask) s = execSin shed thread vd va mask s := rfl
theorem exec_tanh (shed : Fin 64) (thread : Fin 256) (vd va : Fin 32) (mask : Fin 8) : exec (.tanh shed thread vd va mask) s = execTanh shed thread vd va mask s := rfl
theorem exec_deferredBusError (shed : Fin 64) (thread : Fin 256) : exec (.deferredBusError shed thread) s = execDeferredBusError shed thread s := rfl
theorem exec_shedLaunch (shed : Fin 64) : exec (.shedLaunch shed) s = execShedLaunch shed s := rfl
theorem exec_shedResume (shed : Fin 64) : exec (.shedResume shed) s = execShedResume shed s := rfl
theorem exec_shedStop (shed : Fin 64) : exec (.shedStop shed) s = execShedStop shed s := rfl
theorem exec_shedStopped (shed : Fin 64) : exec (.shedStopped shed) s = execShedStopped shed s := rfl
theorem exec_icinv (shed : Fin 64) : exec (.icinv shed) s = execIcinv shed s := rfl
theorem exec_shedCfgWrite (req : Requester) (shed : Fin 64) (reg : ShedCfgReg) (value : W64) : exec (.shedCfgWrite req shed reg value) s = execShedCfgWrite req shed reg value s := rfl
theorem exec_channelArm (reg : ShuAt) (chan : Fin 8) (addr : BitVec 48) : exec (.channelArm reg chan addr) s = execChannelArm reg chan addr s := rfl
theorem exec_armResult (shu : Fin 96) (chan : Fin 8) : exec (.armResult shu chan) s = execArmResult shu chan s := rfl
theorem exec_channelWaitSatisfied (shu : Fin 96) (chan : Fin 8) : exec (.channelWaitSatisfied shu chan) s = execChannelWaitSatisfied shu chan s := rfl
theorem exec_transferIssue (shu : Fin 96) (cycles : Nat) : exec (.transferIssue shu cycles) s = execTransferIssue shu cycles s := rfl
theorem exec_transferReadReturn (shu : Fin 96) (chan : Fin 8) : exec (.transferReadReturn shu chan) s = execTransferReadReturn shu chan s := rfl
theorem exec_transferAck (shu : Fin 96) (chan : Fin 8) : exec (.transferAck shu chan) s = execTransferAck shu chan s := rfl
theorem exec_channelHalted (shu : Fin 96) (chan : Fin 8) : exec (.channelHalted shu chan) s = execChannelHalted shu chan s := rfl
theorem exec_channelClear (shu : Fin 96) (chan : Fin 8) (drop : Bool) : exec (.channelClear shu chan drop) s = execChannelClear shu chan drop s := rfl
theorem exec_channelClearComplete (shu : Fin 96) (chan : Fin 8) : exec (.channelClearComplete shu chan) s = execChannelClearComplete shu chan s := rfl
theorem exec_shunterStop (shu : Fin 96) : exec (.shunterStop shu) s = execShunterStop shu s := rfl
theorem exec_shunterStopped (shu : Fin 96) : exec (.shunterStopped shu) s = execShunterStopped shu s := rfl
theorem exec_shunterStart (shu : Fin 96) : exec (.shunterStart shu) s = execShunterStart shu s := rfl
theorem exec_shuClassWrite (req : Requester) (shu : Fin 96) (cls : Fin 3) (value : W32) : exec (.shuClassWrite req shu cls value) s = execShuClassWrite req shu cls value s := rfl
theorem exec_sidPub (die : Fin 4) (sid : Fin 256) (n : Fin 128) : exec (.sidPub die sid n) s = execSidPub die sid n s := rfl
theorem exec_sidRel (die : Fin 4) (sid : Fin 256) (n : Fin 128) : exec (.sidRel die sid n) s = execSidRel die sid n s := rfl
theorem exec_sidCtrlReset (req : Requester) (die : Fin 4) (sid : Fin 256) : exec (.sidCtrlReset req die sid) s = execSidCtrlReset req die sid s := rfl
theorem exec_sidingConfigWrite (req : Requester) (die : Fin 4) (sid : Fin 256) (reg : SidReg) (value : W64) : exec (.sidingConfigWrite req die sid reg value) s = execSidingConfigWrite req die sid reg value s := rfl
theorem exec_sidingDeadlock (shu : Fin 96) (chan : Fin 8) : exec (.sidingDeadlock shu chan) s = execSidingDeadlock shu chan s := rfl
theorem exec_signalBoxIncrement (idx : Nat) : exec (.signalBoxIncrement idx) s = execSignalBoxIncrement idx s := rfl
theorem exec_sbxCntWrite (die : Fin 4) (box : Fin 1024) (value : W32) : exec (.sbxCntWrite die box value) s = execSbxCntWrite die box value s := rfl
theorem exec_sbxIncWrite (die : Fin 4) (box : Fin 1024) (value : W32) : exec (.sbxIncWrite die box value) s = execSbxIncWrite die box value s := rfl
theorem exec_tqArm (reg : StallAt) (addr : BitVec 48) : exec (.tqArm reg addr) s = execTqArm reg addr s := rfl
theorem exec_tileBufferEntry (stall : Fin 16) : exec (.tileBufferEntry stall) s = execTileBufferEntry stall s := rfl
theorem exec_inputVectorFetch (stall : Fin 16) : exec (.inputVectorFetch stall) s = execInputVectorFetch stall s := rfl
theorem exec_memoryRequest (addr : BitVec 48) (kind : MemReqKind) (cls : Fin 4) (tRef : Bool) : exec (.memoryRequest addr kind cls tRef) s = execMemoryRequest addr kind cls tRef s := rfl
theorem exec_memoryRequestComplete (idx : Nat) : exec (.memoryRequestComplete idx) s = execMemoryRequestComplete idx s := rfl
theorem exec_rowIdleClose (addr : BitVec 48) : exec (.rowIdleClose addr) s = execRowIdleClose addr s := rfl
theorem exec_dramRefresh (addr : BitVec 48) : exec (.dramRefresh addr) s = execDramRefresh addr s := rfl
theorem exec_memoryTempRead (unit : Fin 20) (readings : List MemTemp) : exec (.memoryTempRead unit readings) s = execMemoryTempRead unit readings s := rfl
theorem exec_tierOfflineWrite (req : Requester) (unit : Fin 20) (offline : Bool) : exec (.tierOfflineWrite req unit offline) s = execTierOfflineWrite req unit offline s := rfl
theorem exec_powerOnFill (region : Fin 24) (bad again : List (BitVec 48)) : exec (.powerOnFill region bad again) s = execPowerOnFill region bad again s := rfl
theorem exec_handlingPeriodEnd (region : Fin 24) (bank : Fin 64) : exec (.handlingPeriodEnd region bank) s = execHandlingPeriodEnd region bank s := rfl
theorem exec_hndWrite (req : Requester) (region : Fin 24) (value : W64) : exec (.hndWrite req region value) s = execHndWrite req region value s := rfl
theorem exec_poisonWrite (idx : Nat) : exec (.poisonWrite idx) s = execPoisonWrite idx s := rfl
theorem exec_groomRead (groom : Fin 276) : exec (.groomRead groom) s = execGroomRead groom s := rfl
theorem exec_groomWriteBack (idx : Nat) : exec (.groomWriteBack idx) s = execGroomWriteBack idx s := rfl
theorem exec_groomLapAlarm (region : Fin 24) : exec (.groomLapAlarm region) s = execGroomLapAlarm region s := rfl
theorem exec_groomEnableWrite (req : Requester) (value : W32) : exec (.groomEnableWrite req value) s = execGroomEnableWrite req value s := rfl
theorem exec_mgrSoftrep (req : Requester) (die : Fin 4) (bank : Fin 64) (row : Fin 8192) : exec (.mgrSoftrep req die bank row) s = execMgrSoftrep req die bank row s := rfl
theorem exec_softRepairCopy (die : Fin 4) (bank : Fin 64) : exec (.softRepairCopy die bank) s = execSoftRepairCopy die bank s := rfl
theorem exec_flipArm (req : Requester) : exec (.flipArm req) s = execFlipArm req s := rfl
theorem exec_flipDisarm (req : Requester) : exec (.flipDisarm req) s = execFlipDisarm req s := rfl
theorem exec_ostlerMemoryError (addr : BitVec 48) : exec (.ostlerMemoryError addr) s = execOstlerMemoryError addr s := rfl
theorem exec_oholdRelease (req : Requester) : exec (.oholdRelease req) s = execOholdRelease req s := rfl
theorem exec_chunkDigestCheck (chunk : Nat) (repair : Bool) : exec (.chunkDigestCheck chunk repair) s = execChunkDigestCheck chunk repair s := rfl
theorem exec_baySet (req : Requester) (bay : Fin 2) (state : Fin 8) : exec (.baySet req bay state) s = execBaySet req bay state s := rfl
theorem exec_loftSwitch (req : Requester) (bay : Fin 2) : exec (.loftSwitch req bay) s = execLoftSwitch req bay s := rfl
theorem exec_refopIncrement (req : Requester) (bay : Fin 2) (n : W16) : exec (.refopIncrement req bay n) s = execRefopIncrement req bay n s := rfl
theorem exec_refopDecrement (req : Requester) (bay : Fin 2) (n : W16) : exec (.refopDecrement req bay n) s = execRefopDecrement req bay n s := rfl
theorem exec_migrationStart : exec (.migrationStart) s = execMigrationStart s := rfl
theorem exec_bandMigrated : exec (.bandMigrated) s = execBandMigrated s := rfl
theorem exec_buildTimeout : exec (.buildTimeout) s = execBuildTimeout s := rfl
theorem exec_lteAssign (req : Requester) (lock0 lock1 : Bool) (sweeps : List RingSweep) : exec (.lteAssign req lock0 lock1 sweeps) s = execLteAssign req lock0 lock1 sweeps s := rfl
theorem exec_lteRelight (req : Requester) (lock0 lock1 : Bool) (sweeps : List RingSweep) : exec (.lteRelight req lock0 lock1 sweeps) s = execLteRelight req lock0 lock1 sweeps s := rfl
theorem exec_lteDark (req : Requester) : exec (.lteDark req) s = execLteDark req s := rfl
theorem exec_lteRestore (req : Requester) (pass0 pass1 : Bool) : exec (.lteRestore req pass0 pass1) s = execLteRestore req pass0 pass1 s := rfl
theorem exec_lightSequenceEnd : exec (.lightSequenceEnd) s = execLightSequenceEnd s := rfl
theorem exec_pilotCheckDue (ring : Fin 528) : exec (.pilotCheckDue ring) s = execPilotCheckDue ring s := rfl
theorem exec_pilotCheckResult (ring : Fin 528) (meas : PilotMeas) : exec (.pilotCheckResult ring meas) s = execPilotCheckResult ring meas s := rfl
theorem exec_combDieFailure (die : Fin 2) (reason : Fin 4) : exec (.combDieFailure die reason) s = execCombDieFailure die reason s := rfl
theorem exec_redistributionSettled : exec (.redistributionSettled) s = execRedistributionSettled s := rfl
theorem exec_ringStop (req : Requester) (ring : Fin 528) : exec (.ringStop req ring) s = execRingStop req ring s := rfl
theorem exec_ringStart (req : Requester) (ring : Fin 528) : exec (.ringStart req ring) s = execRingStart req ring s := rfl
theorem exec_ringRecheck (req : Requester) (ring : Fin 528) : exec (.ringRecheck req ring) s = execRingRecheck req ring s := rfl
theorem exec_ringCfgWrite (req : Requester) (ring : Fin 528) (value : W32) : exec (.ringCfgWrite req ring value) s = execRingCfgWrite req ring value s := rfl
theorem exec_accumulatorLatch (conv : Fin 48) (acc : Fin 128) : exec (.accumulatorLatch conv acc) s = execAccumulatorLatch conv acc s := rfl
theorem exec_monitorStart (req : Requester) (conv : Fin 48) : exec (.monitorStart req conv) s = execMonitorStart req conv s := rfl
theorem exec_monitorStop (req : Requester) (conv : Fin 48) : exec (.monitorStop req conv) s = execMonitorStop req conv s := rfl
theorem exec_monitorCal (req : Requester) (conv : Fin 48) : exec (.monitorCal req conv) s = execMonitorCal req conv s := rfl
theorem exec_calibrationEnd (conv : Fin 48) (ground ref : Nat) : exec (.calibrationEnd conv ground ref) s = execCalibrationEnd conv ground ref s := rfl
theorem exec_accConfigWrite (req : Requester) (conv : Fin 48) (reg : MonReg) (value : W32) : exec (.accConfigWrite req conv reg value) s = execAccConfigWrite req conv reg value s := rfl
theorem exec_trmCodeWrite (req : Requester) (chan : Fin 1024) (code : BitVec 12) (x2 en : Bool) : exec (.trmCodeWrite req chan code x2 en) s = execTrmCodeWrite req chan code x2 en s := rfl
theorem exec_rangeHoldRelease (chan : Fin 1024) : exec (.rangeHoldRelease chan) s = execRangeHoldRelease chan s := rfl
theorem exec_loopExecution (loop : Fin 6144) : exec (.loopExecution loop) s = execLoopExecution loop s := rfl
theorem exec_outputPhase : exec (.outputPhase) s = execOutputPhase s := rfl
theorem exec_bankStop (req : Requester) (bank : Fin 24) : exec (.bankStop req bank) s = execBankStop req bank s := rfl
theorem exec_bankStart (req : Requester) (bank : Fin 24) : exec (.bankStart req bank) s = execBankStart req bank s := rfl
theorem exec_loopFieldWrite (req : Requester) (loop : Fin 6144) (word : LoopOffset) (value : W32) : exec (.loopFieldWrite req loop word value) s = execLoopFieldWrite req loop word value s := rfl
theorem exec_freezeWrite (req : Requester) (loop : Fin 6144) (freeze : Bool) : exec (.freezeWrite req loop freeze) s = execFreezeWrite req loop freeze s := rfl
theorem exec_farrierStart (req : Requester) : exec (.farrierStart req) s = execFarrierStart req s := rfl
theorem exec_farrierStop (req : Requester) : exec (.farrierStop req) s = execFarrierStop req s := rfl
theorem exec_runall (req : Requester) : exec (.runall req) s = execRunall req s := rfl
theorem exec_farStallRun (req : Requester) (stall : Fin 16) : exec (.farStallRun req stall) s = execFarStallRun req stall s := rfl
theorem exec_farStallRelease (req : Requester) (stall : Fin 16) : exec (.farStallRelease req stall) s = execFarStallRelease req stall s := rfl
theorem exec_farPortLanerun (req : Requester) (port : Fin 8) (lanes : W32) : exec (.farPortLanerun req port lanes) s = execFarPortLanerun req port lanes s := rfl
theorem exec_calibrationAgeExpiry (unit : FarUnit) (hours : Nat) : exec (.calibrationAgeExpiry unit hours) s = execCalibrationAgeExpiry unit hours s := rfl
theorem exec_farrierQuiesced (stall : Fin 16) : exec (.farrierQuiesced stall) s = execFarrierQuiesced stall s := rfl
theorem exec_stallRunStart : exec (.stallRunStart) s = execStallRunStart s := rfl
theorem exec_attemptEnd (a b : StallMeas) (phaseOk refOk : Bool) : exec (.attemptEnd a b phaseOk refOk) s = execAttemptEnd a b phaseOk refOk s := rfl
theorem exec_reinterpolation (stall : Fin 16) (verified : Bool) : exec (.reinterpolation stall verified) s = execReinterpolation stall verified s := rfl
theorem exec_portLaneRun (port : Fin 8) (a b : LaneMeas) : exec (.portLaneRun port a b) s = execPortLaneRun port a b s := rfl
theorem exec_residualStoreWrite (unit : FarUnit) (elapsed : Nat) : exec (.residualStoreWrite unit elapsed) s = execResidualStoreWrite unit elapsed s := rfl
theorem exec_prechargeComplete (refclk : Bool) : exec (.prechargeComplete refclk) s = execPrechargeComplete refclk s := rfl
theorem exec_railValid : exec (.railValid) s = execRailValid s := rfl
theorem exec_refclkRetry (refclk : Bool) : exec (.refclkRetry refclk) s = execRefclkRetry refclk s := rfl
theorem exec_inputWarning (ovr set : Bool) (vin iin : Fin 4096) : exec (.inputWarning ovr set vin iin) s = execInputWarning ovr set vin iin s := rfl
theorem exec_forcedDemand (overcurrent begins : Bool) (vin iin : Fin 4096) : exec (.forcedDemand overcurrent begins vin iin) s = execForcedDemand overcurrent begins vin iin s := rfl
theorem exec_packageTrip (cause : Fin 8) (vin iin : Fin 4096) : exec (.packageTrip cause vin iin) s = execPackageTrip cause vin iin s := rfl
theorem exec_budgetUpdate (vin iin : Fin 4096) : exec (.budgetUpdate vin iin) s = execBudgetUpdate vin iin s := rfl
theorem exec_pbudgetAbsent : exec (.pbudgetAbsent) s = execPbudgetAbsent s := rfl
theorem exec_pbudgetRestored : exec (.pbudgetRestored) s = execPbudgetRestored s := rfl
theorem exec_pdemandUpdate (p0 p1 : Nat) : exec (.pdemandUpdate p0 p1) s = execPdemandUpdate p0 p1 s := rfl
theorem exec_shedDemandApply : exec (.shedDemandApply) s = execShedDemandApply s := rfl
theorem exec_stallUnpark (stall : Fin 16) : exec (.stallUnpark stall) s = execStallUnpark stall s := rfl
theorem exec_overbudgetClear : exec (.overbudgetClear) s = execOverbudgetClear s := rfl
theorem exec_sensorReading (die : Fin 6) (readings : List Int) : exec (.sensorReading die readings) s = execSensorReading die readings s := rfl
theorem exec_contactSensorRead (readings : List (Option Int)) : exec (.contactSensorRead readings) s = execContactSensorRead readings s := rfl
theorem exec_quietPeriodEnd (die : Fin 4) : exec (.quietPeriodEnd die) s = execQuietPeriodEnd die s := rfl
theorem exec_tripEnd (die : Fin 4) : exec (.tripEnd die) s = execTripEnd die s := rfl
theorem exec_holdoffEnd (die : Fin 4) : exec (.holdoffEnd die) s = execHoldoffEnd die s := rfl
theorem exec_recoveryOverrun (die : Fin 4) (ms : Nat) : exec (.recoveryOverrun die ms) s = execRecoveryOverrun die ms s := rfl
theorem exec_dieTripEnd (die : Fin 4) (stack : Fin 9) : exec (.dieTripEnd die stack) s = execDieTripEnd die stack s := rfl
theorem exec_sendArm (reg : PortAt) (addr : BitVec 48) : exec (.sendArm reg addr) s = execSendArm reg addr s := rfl
theorem exec_laneFrameStart (port : Fin 8) : exec (.laneFrameStart port) s = execLaneFrameStart port s := rfl
theorem exec_dataFrameReceive (port : Fin 8) (frame : DataFrame) (tagOk : Bool) (errs : List Nat) : exec (.dataFrameReceive port frame tagOk errs) s = execDataFrameReceive port frame tagOk errs s := rfl
theorem exec_ackReceive (port : Fin 8) (src : Fin 16) (entries : List AckEntry) : exec (.ackReceive port src entries) s = execAckReceive port src entries s := rfl
theorem exec_frameResendTimeout (port : Fin 8) (key : ResendKey) : exec (.frameResendTimeout port key) s = execFrameResendTimeout port key s := rfl
theorem exec_transferReceived (port : Fin 8) (src : Fin 16) (xfer : W16) : exec (.transferReceived port src xfer) s = execTransferReceived port src xfer s := rfl
theorem exec_transferDone (port : Fin 8) (xfer : W16) : exec (.transferDone port xfer) s = execTransferDone port xfer s := rfl
theorem exec_reservation (port : Fin 8) (slot : Fin 32) (heard : Bool) (draw : Nat) : exec (.reservation port slot heard draw) s = execReservation port slot heard draw s := rfl
theorem exec_reservationBackoffEnd (port : Fin 8) : exec (.reservationBackoffEnd port) s = execReservationBackoffEnd port s := rfl
theorem exec_grant (port : Fin 8) (heard : List ResReq) (owners : List Nat) (news : GrantNews) : exec (.grant port heard owners news) s = execGrant port heard owners news s := rfl
theorem exec_ownedSlot (slot : OwnSlot) : exec (.ownedSlot slot) s = execOwnedSlot slot s := rfl
theorem exec_memberSilent (port : Fin 8) (idx : Fin 16) : exec (.memberSilent port idx) s = execMemberSilent port idx s := rfl
theorem exec_leaderElection (port : Fin 8) (idx : Fin 16) : exec (.leaderElection port idx) s = execLeaderElection port idx s := rfl
theorem exec_handover (port : Fin 8) (idx : Fin 16) : exec (.handover port idx) s = execHandover port idx s := rfl
theorem exec_c0TxArm (req : Requester) (port : Fin 8) (addr : BitVec 48) : exec (.c0TxArm req port addr) s = execC0TxArm req port addr s := rfl
theorem exec_c0FrameReceive (port : Fin 8) (frame : C0Frame) (tagOk : Bool) (errs : Nat) : exec (.c0FrameReceive port frame tagOk errs) s = execC0FrameReceive port frame tagOk errs s := rfl
theorem exec_epochChange (port : Fin 8) (reason : Fin 4) (epoch : W32) (starts : KeyStart) : exec (.epochChange port reason epoch starts) s = execEpochChange port reason epoch starts s := rfl
theorem exec_admitFrame (port : Fin 8) (msg : AdmitMsg) : exec (.admitFrame port msg) s = execAdmit port msg s := rfl
theorem exec_leave (port : Fin 8) (idx : Fin 16) (removed : Bool) : exec (.leave port idx removed) s = execLeave port idx removed s := rfl
theorem exec_laneDrop (port : Fin 8) (lane : Fin 32) (rx : Bool) (cause : Fin 5) : exec (.laneDrop port lane rx cause) s = execLaneDrop port lane rx cause s := rfl
theorem exec_lanemap (port : Fin 8) (src : Fin 16) (tx rx : W32) : exec (.lanemap port src tx rx) s = execLanemap port src tx rx s := rfl
theorem exec_laneProbe (port : Fin 8) (lane : Fin 32) (rx : Bool) (ucw : Nat) : exec (.laneProbe port lane rx ucw) s = execLaneProbe port lane rx ucw s := rfl
theorem exec_suspend (port : Fin 8) (idx : Fin 16) : exec (.suspend port idx) s = execSuspend port idx s := rfl
theorem exec_resume (port : Fin 8) (idx : Fin 16) : exec (.resume port idx) s = execResume port idx s := rfl
theorem exec_suspensionTimeout (port : Fin 8) (idx : Fin 16) (us : Nat) : exec (.suspensionTimeout port idx us) s = execSuspensionTimeout port idx us s := rfl
theorem exec_portStart (req : Requester) (port : Fin 8) : exec (.portStart req port) s = execPortStart req port s := rfl
theorem exec_portTrainingEnd (port : Fin 8) (tx rx : W32) : exec (.portTrainingEnd port tx rx) s = execPortTrainingEnd port tx rx s := rfl
theorem exec_admissionTimeout (port : Fin 8) : exec (.admissionTimeout port) s = execAdmissionTimeout port s := rfl
theorem exec_portStop (req : Requester) (port : Fin 8) : exec (.portStop req port) s = execPortStop req port s := rfl
theorem exec_portStopped (port : Fin 8) : exec (.portStopped port) s = execPortStopped port s := rfl
theorem exec_drvConfigWrite (req : Requester) (reg : DrvCfgReg) (value : W64) : exec (.drvConfigWrite req reg value) s = execDrvConfigWrite req reg value s := rfl
theorem exec_rxwinWrite (reg : PortAt) (window : Fin 8) (part : WinPart) (value : W64) : exec (.rxwinWrite reg window part value) s = execRxwinWrite reg window part value s := rfl
theorem exec_porchWrite (chan : Fin 4) (bg : Fin 4) (ba : Fin 16) (col : Fin 64) (bytes : List (Option Byte)) : exec (.porchWrite chan bg ba col bytes) s = execPorchWrite chan bg ba col bytes s := rfl
theorem exec_porchRead (chan : Fin 4) (bg : Fin 4) (ba : Fin 16) (col : Fin 64) (long : Bool) : exec (.porchRead chan bg ba col long) s = execPorchRead chan bg ba col long s := rfl
theorem exec_modeRegisterWrite (chan : Fin 4) (reg : Byte) (value unsupported : Byte) : exec (.modeRegisterWrite chan reg value unsupported) s = execModeRegisterWrite chan reg value unsupported s := rfl
theorem exec_modeRegisterRead (chan : Fin 4) (reg : Byte) : exec (.modeRegisterRead chan reg) s = execModeRegisterRead chan reg s := rfl
theorem exec_hostRefresh (chan : Fin 4) : exec (.hostRefresh chan) s = execHostRefresh chan s := rfl
theorem exec_hostChannelReset (chan : Fin 4) : exec (.hostChannelReset chan) s = execHostChannelReset chan s := rfl
theorem exec_sqTailWrite (chan : Fin 4) (tail : Fin 4096) : exec (.sqTailWrite chan tail) s = execSqTailWrite chan tail s := rfl
theorem exec_cqHeadWrite (chan : Fin 4) (head : Fin 4096) : exec (.cqHeadWrite chan head) s = execCqHeadWrite chan head s := rfl
theorem exec_mailboxReset (chan : Fin 4) : exec (.mailboxReset chan) s = execMailboxReset chan s := rfl
theorem exec_noticeAck (chan : Fin 4) : exec (.noticeAck chan) s = execNoticeAck chan s := rfl
theorem exec_submissionTake (chan : Fin 4) : exec (.submissionTake chan) s = execSubmissionTake chan s := rfl
theorem exec_completionWrite (chan : Fin 4) : exec (.completionWrite chan) s = execCompletionWrite chan s := rfl
theorem exec_identify (chan : Fin 4) : exec (.identify chan) s = execIdentify chan s := rfl
theorem exec_status (chan : Fin 4) : exec (.status chan) s = execStatus chan s := rfl
theorem exec_attest (chan : Fin 4) : exec (.attest chan) s = execAttest chan s := rfl
theorem exec_sessionOpen (chan : Fin 4) : exec (.sessionOpen chan) s = execSessionOpen chan s := rfl
theorem exec_sessionClose (chan : Fin 4) : exec (.sessionClose chan) s = execSessionClose chan s := rfl
theorem exec_sessionInfo (chan : Fin 4) : exec (.sessionInfo chan) s = execSessionInfo chan s := rfl
theorem exec_batch (chan : Fin 4) : exec (.batch chan) s = execBatch chan s := rfl
theorem exec_batchAdmit (chan : Fin 4) : exec (.batchAdmit chan) s = execBatchAdmit chan s := rfl
theorem exec_batchEnd (place : Nat) (aborted : Bool) (outcomes : List ReqOutcome) : exec (.batchEnd place aborted outcomes) s = execBatchEnd place aborted outcomes s := rfl
theorem exec_batchCancel (chan : Fin 4) : exec (.batchCancel chan) s = execBatchCancel chan s := rfl
theorem exec_bundleBegin (chan : Fin 4) : exec (.bundleBegin chan) s = execBundleBegin chan s := rfl
theorem exec_bundlePiece (chan : Fin 4) : exec (.bundlePiece chan) s = execBundlePiece chan s := rfl
theorem exec_bundleAbort (chan : Fin 4) : exec (.bundleAbort chan) s = execBundleAbort chan s := rfl
theorem exec_bayDiscard (chan : Fin 4) : exec (.bayDiscard chan) s = execBayDiscard chan s := rfl
theorem exec_switch (chan : Fin 4) : exec (.switch chan) s = execSwitch chan s := rfl
theorem exec_slotList (chan : Fin 4) : exec (.slotList chan) s = execSlotList chan s := rfl
theorem exec_calRun (chan : Fin 4) : exec (.calRun chan) s = execCalRun chan s := rfl
theorem exec_calStatus (chan : Fin 4) : exec (.calStatus chan) s = execCalStatus chan s := rfl
theorem exec_powerSet (chan : Fin 4) : exec (.powerSet chan) s = execPowerSet chan s := rfl
theorem exec_capacitySet (chan : Fin 4) : exec (.capacitySet chan) s = execCapacitySet chan s := rfl
theorem exec_dark (chan : Fin 4) (lock0 lock1 : Bool) (sweeps : List RingSweep) : exec (.dark chan lock0 lock1 sweeps) s = execDark chan lock0 lock1 sweeps s := rfl
theorem exec_unitStop (chan : Fin 4) : exec (.unitStop chan) s = execUnitStop chan s := rfl
theorem exec_unitStart (chan : Fin 4) : exec (.unitStart chan) s = execUnitStart chan s := rfl
theorem exec_cfgWrite (chan : Fin 4) : exec (.cfgWrite chan) s = execCfgWrite chan s := rfl
theorem exec_cfgRead (chan : Fin 4) : exec (.cfgRead chan) s = execCfgRead chan s := rfl
theorem exec_herdSet (chan : Fin 4) : exec (.herdSet chan) s = execHerdSet chan s := rfl
theorem exec_eventFilter (chan : Fin 4) : exec (.eventFilter chan) s = execEventFilter chan s := rfl
theorem exec_apertureWrite (chan : Fin 4) (unit : Fin 32768) (bytes : List (Option Byte)) : exec (.apertureWrite chan unit bytes) s = execApertureWrite chan unit bytes s := rfl
theorem exec_rdGo (chan : Fin 4) : exec (.rdGo chan) s = execRdGo chan s := rfl
theorem exec_readerDone (chan : Fin 4) : exec (.readerDone chan) s = execReaderDone chan s := rfl
theorem exec_boot (kat fuses : Bool) : exec (.boot kat fuses) s = execBoot kat fuses s := rfl
theorem exec_inboxPoll : exec (.inboxPoll) s = execInboxPoll s := rfl
theorem exec_ownerSet (storeOk : Bool) : exec (.ownerSet storeOk) s = execOwnerSet storeOk s := rfl
theorem exec_keyEnrol (storeOk : Bool) : exec (.keyEnrol storeOk) s = execKeyEnrol storeOk s := rfl
theorem exec_keyRevoke (storeOk : Bool) : exec (.keyRevoke storeOk) s = execKeyRevoke storeOk s := rfl
theorem exec_rollbackCommit : exec (.rollbackCommit) s = execRollbackCommit s := rfl
theorem exec_fwInstall (storeOk : Bool) : exec (.fwInstall storeOk) s = execFwInstall storeOk s := rfl
theorem exec_trialTimeout (seconds : Nat) : exec (.trialTimeout seconds) s = execTrialTimeout seconds s := rfl
theorem exec_sign : exec (.sign) s = execSign s := rfl
theorem exec_treeBuildDone : exec (.treeBuildDone) s = execTreeBuildDone s := rfl
theorem exec_powerOnReset (keepTrip : Bool) : exec (.powerOnReset keepTrip) s = execPowerOnReset keepTrip s := rfl
theorem exec_packageReset (cause : BitVec 3) : exec (.packageReset cause) s = execPackageReset cause s := rfl
theorem exec_resetNLow (micros : Nat) : exec (.resetNLow micros) s = execResetNLow micros s := rfl
theorem exec_pkgreset (req : Requester) (key : BitVec 8) : exec (.pkgreset req key) s = execPkgreset req key s := rfl
theorem exec_ostlerRestart (cause : BitVec 2) : exec (.ostlerRestart cause) s = execOstlerRestart cause s := rfl
theorem exec_watchdogKick (req : Requester) : exec (.watchdogKick req) s = execWatchdogKick req s := rfl
theorem exec_watchdogExpiry : exec (.watchdogExpiry) s = execWatchdogExpiry s := rfl
theorem exec_phaseOstlerStart : exec (.phaseOstlerStart) s = execPhaseOstlerStart s := rfl
theorem exec_phaseMemory (hbm : BitVec 8) (d : DdrTraining) : exec (.phaseMemory hbm d) s = execPhaseMemory hbm d s := rfl
theorem exec_phaseLight (lock0 lock1 : Bool) (sweeps : List RingSweep) : exec (.phaseLight lock0 lock1 sweeps) s = execPhaseLight lock0 lock1 sweeps s := rfl
theorem exec_phaseServiceReady (katStall : BitVec 16) (katShed : W64) : exec (.phaseServiceReady katStall katShed) s = execPhaseServiceReady katStall katShed s := rfl
theorem exec_phaseOverrun (phase : BitVec 3) (ms : W32) : exec (.phaseOverrun phase ms) s = execPhaseOverrun phase ms s := rfl
theorem exec_serviceLevelChange (code : BitVec 16) : exec (.serviceLevelChange code) s = execServiceLevelChange code s := rfl
theorem exec_eventPop : exec (.eventPop) s = execEventPop s := rfl
theorem exec_laserEnFall : exec (.laserEnFall) s = execLaserEnFall s := rfl
theorem exec_laserEnRise : exec (.laserEnRise) s = execLaserEnRise s := rfl
theorem exec_conversion (raw : List (BitVec 12)) : exec (.conversion raw) s = execConversion raw s := rfl
theorem exec_pbudgetSample (sample : PbSample) : exec (.pbudgetSample sample) s = execPbudgetSample sample s := rfl
theorem exec_hostChannelTraining (chan : Fin 4) (rate : Fin 16384) (bank16 fsp : Bool) : exec (.hostChannelTraining chan rate bank16 fsp) s = execHostChannelTraining chan rate bank16 fsp s := rfl
theorem exec_selfRefreshEntry (chan : Fin 4) : exec (.selfRefreshEntry chan) s = execSelfRefreshEntry chan s := rfl
theorem exec_selfRefreshExit (chan : Fin 4) : exec (.selfRefreshExit chan) s = execSelfRefreshExit chan s := rfl
theorem exec_powerDownEntry (chan : Fin 4) : exec (.powerDownEntry chan) s = execPowerDownEntry chan s := rfl
theorem exec_powerDownExit (chan : Fin 4) : exec (.powerDownExit chan) s = execPowerDownExit chan s := rfl
theorem exec_hostCkStart (ck : CkChange) : exec (.hostCkStart ck) s = execHostCkStart ck s := rfl
theorem exec_rowActivate (chan : Fin 4) (bg : Fin 4) (ba : Fin 16) (row : W16) (activate : Bool) : exec (.rowActivate chan bg ba row activate) s = execRowActivate chan bg ba row activate s := rfl

end Sys2Proof.Machine
end

