-- ==== Sys2Proof/Laws/Frame.lean ====
section
/-! SUPPORT. What an operation may touch, and that it keeps the invariant, in one relation: its closure under sequence, choice and
folds, and its lemma for each way of updating the state. -/
namespace Sys2Proof.Machine

/-- The bit of a component in a mask. -/
def Comp.idx : Comp → Nat
  | .pending => 0 | .time => 1 | .freeCtr => 2 | .regs => 3 | .bus => 4 | .ev => 5 | .sbxFlight => 6 | .stall => 7 | .shed => 8
  | .shu => 9 | .sid => 10 | .mem => 11 | .integ => 12 | .tier => 13 | .loft => 14 | .serve => 15 | .host => 16 | .light => 17
  | .mon => 18 | .rein => 19 | .far => 20 | .pwr => 21 | .drove => 22 | .tack => 23 | .sys => 24 | .evtFilter => 25

/-- The mask of a list of components. -/
def maskOf (l : List Comp) : Nat := l.foldl (fun m c => m ||| 2 ^ c.idx) 0

/-- A mask lies within another. -/
def sub (a b : Nat) : Bool := a &&& b == a

theorem sub_trans {a b c : Nat} (h : sub a b = true) (h' : sub b c = true) : sub a c = true := by
  have e : a &&& b = a := by simpa [sub] using h
  have e' : b &&& c = b := by simpa [sub] using h'
  simp only [sub, beq_iff_eq]
  rw [← e, Nat.and_assoc, e']

theorem sub_ok {a b : Nat} (h : sub a b = true) : sub a b = true := h

/-- `t` comes from `s` by touching only components of the mask, and the invariant carries over. -/
structure Fr (m : Nat) (s t : State) : Prop where
  same : ∀ c : Comp, m.testBit c.idx = false → c.same s t
  inv : s.inv = true → t.inv = true

/-- An outcome that is a next state reached so. -/
def Ends (m : Nat) (s : State) (r : Res) : Prop := ∃ t, r = .next t ∧ Fr m s t

theorem Comp.same_refl (c : Comp) (s : State) : c.same s s := by cases c <;> rfl

theorem Comp.same_trans (c : Comp) {s t u : State} (h : c.same s t) (h' : c.same t u) : c.same s u := by
  cases c <;> exact Eq.trans h' h

theorem sub_bit {a b : Nat} (h : sub a b = true) {i : Nat} (hi : b.testBit i = false) : a.testBit i = false := by
  have e : a &&& b = a := by simpa [sub] using h
  rw [← e, Nat.testBit_and, hi, Bool.and_false]

theorem Fr.refl (m : Nat) (s : State) : Fr m s s := ⟨fun c _ => c.same_refl s, id⟩

theorem Fr.trans {m : Nat} {s t u : State} (h : Fr m s t) (h' : Fr m t u) : Fr m s u :=
  ⟨fun c hc => c.same_trans (h.same c hc) (h'.same c hc), fun i => h'.inv (h.inv i)⟩

theorem Fr.mono {g m : Nat} {s t : State} (h : Fr g s t) (hs : sub g m = true) : Fr m s t :=
  ⟨fun c hc => h.same c (sub_bit hs hc), h.inv⟩

/-- An operation after what came before it. -/
theorem Fr.post {g m : Nat} {s t u : State} (hg : Fr g t u) (hs : sub g m = true) (h : Fr m s t) : Fr m s u := h.trans (hg.mono hs)

theorem Fr.ite {m : Nat} {s a b : State} {c : Prop} [Decidable c] (ha : Fr m s a) (hb : Fr m s b) : Fr m s (if c then a else b) := by
  split <;> assumption

theorem Fr.foldl {α : Type} {m : Nat} {s x : State} {f : State → α → State} {l : List α} (hf : ∀ b a, Fr m s b → Fr m s (f b a))
    (h : Fr m s x) : Fr m s (l.foldl f x) := by
  induction l generalizing x with
  | nil => exact h
  | cons a t ih => exact ih (hf x a h)

theorem Fr.foldl_fst {α β : Type} {m : Nat} {s : State} {x : State × β} {f : State × β → α → State × β} {l : List α}
    (hf : ∀ b a, Fr m s b.1 → Fr m s (f b a).1) (h : Fr m s x.1) : Fr m s (l.foldl f x).1 := by
  induction l generalizing x with
  | nil => exact h
  | cons a t ih => exact ih (hf x a h)

theorem Fr.foldl_by {α β : Type} {m : Nat} {s : State} (g : β → State) {x : β} {f : β → α → β} {l : List α}
    (hf : ∀ b a, Fr m s (g b) → Fr m s (g (f b a))) (h : Fr m s (g x)) : Fr m s (g (l.foldl f x)) := by
  induction l generalizing x with
  | nil => exact h
  | cons a t ih => exact ih (hf x a h)

theorem Fr.touches {l : List Comp} {m : Nat} {s t : State} (h : Fr m s t) (hs : sub m (maskOf l) = true)
    (hl : ∀ c, c ∉ l → (maskOf l).testBit c.idx = false) : Touches l s t := fun c hc => (h.mono hs).same c (hl c hc)

theorem Ends.next {m : Nat} {s t : State} (h : Fr m s t) : Ends m s (.next t) := ⟨t, rfl, h⟩

theorem Ends.ite {m : Nat} {s : State} {a b : Res} {c : Prop} [Decidable c] (ha : Ends m s a) (hb : Ends m s b) :
    Ends m s (if c then a else b) := by
  split <;> assumption

theorem Ends.mono {g m : Nat} {s : State} {r : Res} (h : Ends g s r) (hs : sub g m = true) : Ends m s r :=
  h.elim fun t ht => ⟨t, ht.1, ht.2.mono hs⟩

theorem Ends.keeps {m : Nat} {s t : State} {r : Res} (h : Ends m s r) (e : r = .next t) : Fr m s t := by
  obtain ⟨u, hu, hf⟩ := h
  rw [hu] at e
  injection e with e
  exact e ▸ hf

/-! The invariant's parts. -/

theorem inv_iff (s : State) : s.inv = true ↔
    nmWf regReset s.regs = true ∧ Memory.wf s.mem = true ∧ nmWf (fun _ => {}) s.stall = true ∧ nmWf (fun _ => {}) s.shed = true
      ∧ nmWf (fun _ => {}) s.shu = true ∧ nmWf (fun _ => {}) s.sid = true ∧ nmWf (fun _ => {}) s.host = true
      ∧ s.ev.queue.length ≤ 256 := by
  simp only [State.inv, State.canonical, State.queueFits, Bool.and_eq_true, decide_eq_true_eq, and_assoc]

theorem inv_of {s t : State} (h : s.inv = true)
    (hr : nmWf regReset s.regs = true → nmWf regReset t.regs = true) (hm : Memory.wf s.mem = true → Memory.wf t.mem = true)
    (h1 : nmWf (fun _ => {}) s.stall = true → nmWf (fun _ => {}) t.stall = true)
    (h2 : nmWf (fun _ => {}) s.shed = true → nmWf (fun _ => {}) t.shed = true)
    (h3 : nmWf (fun _ => {}) s.shu = true → nmWf (fun _ => {}) t.shu = true)
    (h4 : nmWf (fun _ => {}) s.sid = true → nmWf (fun _ => {}) t.sid = true)
    (h5 : nmWf (fun _ => {}) s.host = true → nmWf (fun _ => {}) t.host = true)
    (hq : s.ev.queue.length ≤ 256 → t.ev.queue.length ≤ 256) : t.inv = true := by
  rw [inv_iff] at h ⊢
  exact ⟨hr h.1, hm h.2.1, h1 h.2.2.1, h2 h.2.2.2.1, h3 h.2.2.2.2.1, h4 h.2.2.2.2.2.1, h5 h.2.2.2.2.2.2.1, hq h.2.2.2.2.2.2.2⟩

end Sys2Proof.Machine
end

