-- ==== Sys2Proof/Laws/FrameSet.lean ====
section
/-! SUPPORT. `Fr` for each way of updating one component of the state, and for the shared operations of Machine/Ops.lean. -/
namespace Sys2Proof.Machine

variable {m : Nat} {s t : State}

theorem Fr.setTime (v : W64) (hs : sub 0x2 m = true) (h : Fr m s t) : Fr m s { t with time := v } :=
  ⟨fun c hc => c.same_trans (h.same c hc) (by cases c <;> first | rfl | exact absurd (sub_bit hs hc) (by decide)), h.inv⟩

theorem Fr.setFreeCtr (v : Nat) (hs : sub 0x4 m = true) (h : Fr m s t) : Fr m s { t with freeCtr := v } :=
  ⟨fun c hc => c.same_trans (h.same c hc) (by cases c <;> first | rfl | exact absurd (sub_bit hs hc) (by decide)), h.inv⟩

theorem Fr.setBus (v : Bus) (hs : sub 0x10 m = true) (h : Fr m s t) : Fr m s { t with bus := v } :=
  ⟨fun c hc => c.same_trans (h.same c hc) (by cases c <;> first | rfl | exact absurd (sub_bit hs hc) (by decide)), h.inv⟩

theorem Fr.setSbxFlight (v : List SbxInc) (hs : sub 0x40 m = true) (h : Fr m s t) : Fr m s { t with sbxFlight := v } :=
  ⟨fun c hc => c.same_trans (h.same c hc) (by cases c <;> first | rfl | exact absurd (sub_bit hs hc) (by decide)), h.inv⟩

theorem Fr.setInteg (v : Integ) (hs : sub 0x1000 m = true) (h : Fr m s t) : Fr m s { t with integ := v } :=
  ⟨fun c hc => c.same_trans (h.same c hc) (by cases c <;> first | rfl | exact absurd (sub_bit hs hc) (by decide)), h.inv⟩

theorem Fr.setTier (v : Tier) (hs : sub 0x2000 m = true) (h : Fr m s t) : Fr m s { t with tier := v } :=
  ⟨fun c hc => c.same_trans (h.same c hc) (by cases c <;> first | rfl | exact absurd (sub_bit hs hc) (by decide)), h.inv⟩

theorem Fr.setLoft (v : Loft) (hs : sub 0x4000 m = true) (h : Fr m s t) : Fr m s { t with loft := v } :=
  ⟨fun c hc => c.same_trans (h.same c hc) (by cases c <;> first | rfl | exact absurd (sub_bit hs hc) (by decide)), h.inv⟩

theorem Fr.setServe (v : Serve) (hs : sub 0x8000 m = true) (h : Fr m s t) : Fr m s { t with serve := v } :=
  ⟨fun c hc => c.same_trans (h.same c hc) (by cases c <;> first | rfl | exact absurd (sub_bit hs hc) (by decide)), h.inv⟩

theorem Fr.setLight (v : Light) (hs : sub 0x20000 m = true) (h : Fr m s t) : Fr m s { t with light := v } :=
  ⟨fun c hc => c.same_trans (h.same c hc) (by cases c <;> first | rfl | exact absurd (sub_bit hs hc) (by decide)), h.inv⟩

theorem Fr.setMon (v : Mon) (hs : sub 0x40000 m = true) (h : Fr m s t) : Fr m s { t with mon := v } :=
  ⟨fun c hc => c.same_trans (h.same c hc) (by cases c <;> first | rfl | exact absurd (sub_bit hs hc) (by decide)), h.inv⟩

theorem Fr.setRein (v : Rein) (hs : sub 0x80000 m = true) (h : Fr m s t) : Fr m s { t with rein := v } :=
  ⟨fun c hc => c.same_trans (h.same c hc) (by cases c <;> first | rfl | exact absurd (sub_bit hs hc) (by decide)), h.inv⟩

theorem Fr.setFar (v : Far) (hs : sub 0x100000 m = true) (h : Fr m s t) : Fr m s { t with far := v } :=
  ⟨fun c hc => c.same_trans (h.same c hc) (by cases c <;> first | rfl | exact absurd (sub_bit hs hc) (by decide)), h.inv⟩

theorem Fr.setPwr (v : Pwr) (hs : sub 0x200000 m = true) (h : Fr m s t) : Fr m s { t with pwr := v } :=
  ⟨fun c hc => c.same_trans (h.same c hc) (by cases c <;> first | rfl | exact absurd (sub_bit hs hc) (by decide)), h.inv⟩

theorem Fr.setDrove (v : Drove) (hs : sub 0x400000 m = true) (h : Fr m s t) : Fr m s { t with drove := v } :=
  ⟨fun c hc => c.same_trans (h.same c hc) (by cases c <;> first | rfl | exact absurd (sub_bit hs hc) (by decide)), h.inv⟩

theorem Fr.setTack (v : Tack) (hs : sub 0x800000 m = true) (h : Fr m s t) : Fr m s { t with tack := v } :=
  ⟨fun c hc => c.same_trans (h.same c hc) (by cases c <;> first | rfl | exact absurd (sub_bit hs hc) (by decide)), h.inv⟩

theorem Fr.setSys (v : Sys) (hs : sub 0x1000000 m = true) (h : Fr m s t) : Fr m s { t with sys := v } :=
  ⟨fun c hc => c.same_trans (h.same c hc) (by cases c <;> first | rfl | exact absurd (sub_bit hs hc) (by decide)), h.inv⟩

theorem Fr.setEvtFilter (v : Nat) (hs : sub 0x2000000 m = true) (h : Fr m s t) : Fr m s { t with evtFilter := v } :=
  ⟨fun c hc => c.same_trans (h.same c hc) (by cases c <;> first | rfl | exact absurd (sub_bit hs hc) (by decide)), h.inv⟩

theorem Fr.setRegs (v : NMap W64) (hs : sub 0x8 m = true) (hv : nmWf regReset t.regs = true → nmWf regReset v = true) (h : Fr m s t) :
    Fr m s { t with regs := v } :=
  ⟨fun c hc => c.same_trans (h.same c hc) (by cases c <;> first | rfl | exact absurd (sub_bit hs hc) (by decide)),
   fun hi => inv_of (h.inv hi) hv id id id id id id id⟩

theorem Fr.setMem (v : Mem) (hs : sub 0x800 m = true) (hv : Memory.wf t.mem = true → Memory.wf v = true) (h : Fr m s t) :
    Fr m s { t with mem := v } :=
  ⟨fun c hc => c.same_trans (h.same c hc) (by cases c <;> first | rfl | exact absurd (sub_bit hs hc) (by decide)),
   fun hi => inv_of (h.inv hi) id hv id id id id id id⟩

theorem Fr.setStall (v : NMap Stall) (hs : sub 0x80 m = true) (hv : nmWf (fun _ => {}) t.stall = true → nmWf (fun _ => {}) v = true) (h : Fr m s t) :
    Fr m s { t with stall := v } :=
  ⟨fun c hc => c.same_trans (h.same c hc) (by cases c <;> first | rfl | exact absurd (sub_bit hs hc) (by decide)),
   fun hi => inv_of (h.inv hi) id id hv id id id id id⟩

theorem Fr.setShed (v : NMap Shed) (hs : sub 0x100 m = true) (hv : nmWf (fun _ => {}) t.shed = true → nmWf (fun _ => {}) v = true) (h : Fr m s t) :
    Fr m s { t with shed := v } :=
  ⟨fun c hc => c.same_trans (h.same c hc) (by cases c <;> first | rfl | exact absurd (sub_bit hs hc) (by decide)),
   fun hi => inv_of (h.inv hi) id id id hv id id id id⟩

theorem Fr.setShu (v : NMap Shunter) (hs : sub 0x200 m = true) (hv : nmWf (fun _ => {}) t.shu = true → nmWf (fun _ => {}) v = true) (h : Fr m s t) :
    Fr m s { t with shu := v } :=
  ⟨fun c hc => c.same_trans (h.same c hc) (by cases c <;> first | rfl | exact absurd (sub_bit hs hc) (by decide)),
   fun hi => inv_of (h.inv hi) id id id id hv id id id⟩

theorem Fr.setSid (v : NMap Siding) (hs : sub 0x400 m = true) (hv : nmWf (fun _ => {}) t.sid = true → nmWf (fun _ => {}) v = true) (h : Fr m s t) :
    Fr m s { t with sid := v } :=
  ⟨fun c hc => c.same_trans (h.same c hc) (by cases c <;> first | rfl | exact absurd (sub_bit hs hc) (by decide)),
   fun hi => inv_of (h.inv hi) id id id id id hv id id⟩

theorem Fr.setHost (v : NMap HChan) (hs : sub 0x10000 m = true) (hv : nmWf (fun _ => {}) t.host = true → nmWf (fun _ => {}) v = true) (h : Fr m s t) :
    Fr m s { t with host := v } :=
  ⟨fun c hc => c.same_trans (h.same c hc) (by cases c <;> first | rfl | exact absurd (sub_bit hs hc) (by decide)),
   fun hi => inv_of (h.inv hi) id id id id id id hv id⟩

theorem Fr.setEv (v : EvLog) (hs : sub 0x20 m = true) (hv : t.ev.queue.length ≤ 256 → v.queue.length ≤ 256) (h : Fr m s t) :
    Fr m s { t with ev := v } :=
  ⟨fun c hc => c.same_trans (h.same c hc) (by cases c <;> first | rfl | exact absurd (sub_bit hs hc) (by decide)),
   fun hi => inv_of (h.inv hi) id id id id id id id hv⟩

theorem Fr.setLoftSys (v : Loft) (w : Sys) (hs : sub 0x1004000 m = true) (h : Fr m s t) : Fr m s { t with loft := v, sys := w } :=
  ⟨fun c hc => c.same_trans (h.same c hc) (by cases c <;> first | rfl | exact absurd (sub_bit hs hc) (by decide)), h.inv⟩

theorem Fr.setPwrSys (v : Pwr) (w : Sys) (hs : sub 0x1200000 m = true) (h : Fr m s t) : Fr m s { t with pwr := v, sys := w } :=
  ⟨fun c hc => c.same_trans (h.same c hc) (by cases c <;> first | rfl | exact absurd (sub_bit hs hc) (by decide)), h.inv⟩

theorem Fr.setTackSys (v : Tack) (w : Sys) (hs : sub 0x1800000 m = true) (h : Fr m s t) : Fr m s { t with tack := v, sys := w } :=
  ⟨fun c hc => c.same_trans (h.same c hc) (by cases c <;> first | rfl | exact absurd (sub_bit hs hc) (by decide)), h.inv⟩

theorem Fr.setIntegTack (v : Integ) (w : Tack) (hs : sub 0x801000 m = true) (h : Fr m s t) : Fr m s { t with integ := v, tack := w } :=
  ⟨fun c hc => c.same_trans (h.same c hc) (by cases c <;> first | rfl | exact absurd (sub_bit hs hc) (by decide)), h.inv⟩

theorem Fr.setIntegSys (v : Integ) (w : Sys) (hs : sub 0x1001000 m = true) (h : Fr m s t) : Fr m s { t with integ := v, sys := w } :=
  ⟨fun c hc => c.same_trans (h.same c hc) (by cases c <;> first | rfl | exact absurd (sub_bit hs hc) (by decide)), h.inv⟩

end Sys2Proof.Machine
end

