-- ==== Sys2Proof/Laws/FrOps.lean ====
section
/-! SUPPORT. What each operation of Machine/Ops.lean may touch, and that it keeps the invariant. -/
namespace Sys2Proof.Machine

theorem wrReg_fr (s : State) (addr : Nat) (v : W64) : Fr 0x8 s (wrReg s addr v) :=
  Fr.setRegs _ rfl (nmWf_put regReset _ _ _) (Fr.refl _ _)

theorem setF_fr (s : State) (f : Field) (x : Nat) (w : Nat) (i : Nat) (k : Nat) : Fr 0x8 s (setF s f x w i k) := by
  unfold setF
  repeat' first
    | with_reducible apply Fr.refl | ((with_reducible apply sub_ok); exact rfl) | with_reducible apply Fr.post (wrReg_fr ..)
    | with_reducible dsimp only

theorem bumpF_fr (s : State) (f : Field) (n : Nat) (w : Nat) (i : Nat) (k : Nat) : Fr 0x8 s (bumpF s f n w i k) := by
  unfold bumpF
  repeat' first
    | with_reducible apply Fr.refl | ((with_reducible apply sub_ok); exact rfl) | with_reducible apply Fr.post (setF_fr ..)
    | with_reducible dsimp only

theorem addF_fr (s : State) (f : Field) (n : Nat) (w : Nat) (i : Nat) (k : Nat) : Fr 0x8 s (addF s f n w i k) := by
  unfold addF
  repeat' first
    | with_reducible apply Fr.refl | ((with_reducible apply sub_ok); exact rfl) | with_reducible apply Fr.post (setF_fr ..)
    | with_reducible dsimp only

theorem raiseEv_fr (s : State) (code : Nat) (unit : Nat) (addr : Nat) (detail : Nat) (nested : Bool) : Fr 0x20 s (raiseEv s code unit addr detail nested) := by
  unfold raiseEv
  repeat' first
    | with_reducible apply Fr.refl | ((with_reducible apply sub_ok); exact rfl) | with_reducible dsimp only
    | with_reducible refine Fr.setEv _ ?_ id ?_

theorem drawn_fr (s : State) : Fr 0x4 s (drawn s) := by
  unfold drawn
  repeat' first
    | with_reducible apply Fr.refl | ((with_reducible apply sub_ok); exact rfl) | with_reducible dsimp only
    | with_reducible apply Fr.setFreeCtr

theorem sendSbx_fr (s : State) (die : Nat) (box : Nat) (inc : Nat) : Fr 0x40 s (sendSbx s die box inc) := by
  unfold sendSbx
  repeat' first
    | with_reducible apply Fr.refl | ((with_reducible apply sub_ok); exact rfl) | with_reducible dsimp only
    | with_reducible apply Fr.setSbxFlight

theorem busForget_fr (s : State) (req : Requester) (addr : Nat) : Fr 0x10 s (busForget s req addr) := by
  unfold busForget
  repeat' first
    | with_reducible apply Fr.refl | ((with_reducible apply sub_ok); exact rfl) | with_reducible dsimp only
    | with_reducible apply Fr.setBus

theorem putStall_fr (s : State) (k : Nat) (x : Stall) : Fr 0x80 s (putStall s k x) :=
  Fr.setStall _ rfl (nmWf_put _ _ _ _) (Fr.refl _ _)

end Sys2Proof.Machine
end

