-- ==== Sys2Proof/Laws/FrMemBase.lean ====
section
/-! SUPPORT. What each operation of Machine/MemBase.lean may touch, and that it keeps the invariant. -/
namespace Sys2Proof.Machine

theorem setUnitState_fr (s : State) (u : Nat) (v : Nat) : Fr 0x8 s (setUnitState s u v) := by
  unfold setUnitState
  repeat' first
    | with_reducible apply Fr.refl | ((with_reducible apply sub_ok); exact rfl) | with_reducible apply Fr.ite
    | with_reducible apply Fr.post (setF_fr ..) | with_reducible dsimp only | with_reducible split

theorem setRawByte_fr (s : State) (a v : Nat) : Fr 0x800 s (setRawByte s a v) := by
  refine Fr.setMem _ rfl (fun h => ?_) (Fr.refl _ _)
  simp only [Memory.wf, Bool.and_eq_true] at h ⊢
  exact ⟨⟨nmWf_put _ _ _ _ h.1.1, h.1.2⟩, h.2⟩

theorem setByteSynd_fr (s : State) (a v : Nat) : Fr 0x800 s (setByteSynd s a v) := by
  refine Fr.setMem _ rfl (fun h => ?_) (Fr.refl _ _)
  simp only [Memory.wf, Bool.and_eq_true] at h ⊢
  exact ⟨⟨h.1.1, nmWf_put _ _ _ _ h.1.2⟩, h.2⟩

theorem setBurstDev_fr (s : State) (a v : Nat) : Fr 0x800 s (setBurstDev s a v) := by
  refine Fr.setMem _ rfl (fun h => ?_) (Fr.refl _ _)
  simp only [Memory.wf, Bool.and_eq_true] at h ⊢
  exact ⟨⟨h.1.1, h.1.2⟩, nmWf_put _ _ _ _ h.2⟩

theorem cancelPending_fr (s : State) (a : Nat) : Fr 0x800 s (cancelPending s a) := by
  unfold cancelPending
  repeat' first
    | with_reducible apply Fr.refl | ((with_reducible apply sub_ok); exact rfl) | with_reducible dsimp only
    | with_reducible refine Fr.setMem _ ?_ id ?_

theorem setRawBytes_fr (s : State) (a : Nat) (a0 : List Nat) : Fr 0x800 s (setRawBytes s a a0) := by
  induction a0 generalizing s a
  · unfold setRawBytes
    repeat' first
      | with_reducible apply Fr.refl | ((with_reducible apply sub_ok); exact rfl) | with_reducible apply Fr.ite
      | with_reducible apply Fr.post (setRawByte_fr ..) | with_reducible dsimp only | with_reducible split
  · rename_i ih
    unfold setRawBytes
    repeat' first
      | with_reducible apply Fr.post (ih ..) | with_reducible apply Fr.refl | ((with_reducible apply sub_ok); exact rfl)
      | with_reducible apply Fr.ite | with_reducible apply Fr.post (setRawByte_fr ..) | with_reducible dsimp only
      | with_reducible split

theorem openRowAt_fr (s : State) (a : Nat) : Fr 0x2000 s (openRowAt s a) := by
  unfold openRowAt
  repeat' first
    | with_reducible apply Fr.refl | ((with_reducible apply sub_ok); exact rfl) | with_reducible dsimp only
    | with_reducible apply Fr.setTier

theorem closeRowAt_fr (s : State) (a : Nat) : Fr 0x2000 s (closeRowAt s a) := by
  unfold closeRowAt
  repeat' first
    | with_reducible apply Fr.refl | ((with_reducible apply sub_ok); exact rfl) | with_reducible dsimp only
    | with_reducible apply Fr.setTier

theorem countBus_fr (s : State) (r : Region) (write : Bool) (bursts : Nat) : Fr 0x8 s (countBus s r write bursts) := by
  unfold countBus
  repeat' first
    | with_reducible apply Fr.refl | ((with_reducible apply sub_ok); exact rfl) | with_reducible apply Fr.ite
    | with_reducible apply Fr.post (addF_fr ..) | with_reducible dsimp only | with_reducible split

theorem storePoison_fr (s : State) (a : Nat) : Fr 0x2808 s (storePoison s a) := by
  unfold storePoison
  repeat' first
    | with_reducible apply Fr.refl | ((with_reducible apply sub_ok); exact rfl) | with_reducible apply Fr.ite
    | with_reducible apply Fr.post (setRawByte_fr ..) | with_reducible apply Fr.post (setByteSynd_fr ..)
    | with_reducible apply Fr.post (setBurstDev_fr ..) | with_reducible apply Fr.post (cancelPending_fr ..)
    | with_reducible apply Fr.post (setRawBytes_fr ..) | with_reducible apply Fr.post (openRowAt_fr ..)
    | with_reducible apply Fr.post (countBus_fr ..) | with_reducible dsimp only | with_reducible split

end Sys2Proof.Machine
end

