-- ==== Sys2Proof/Laws/FrMemOps.lean ====
section
/-! SUPPORT. What each operation of Machine/MemOps.lean may touch, and that it keeps the invariant. -/
namespace Sys2Proof.Machine

theorem setHandling_fr (s : State) (r : Region) (on : Bool) : Fr 0x8 s (setHandling s r on) := by
  unfold setHandling
  repeat' first
    | with_reducible apply Fr.refl | ((with_reducible apply sub_ok); exact rfl) | with_reducible apply Fr.ite
    | with_reducible apply Fr.post (setF_fr ..) | with_reducible dsimp only | with_reducible split

theorem beginHandling_fr (s : State) (r : Region) : Fr 0x1008 s (beginHandling s r) := by
  unfold beginHandling
  repeat' first
    | with_reducible apply Fr.refl | ((with_reducible apply sub_ok); exact rfl) | with_reducible apply Fr.post (setHandling_fr ..)
    | with_reducible dsimp only | with_reducible apply Fr.setInteg

theorem integEvent_fr (s : State) (r : Region) (code : Nat) (addr : Nat) (detail : Nat) (nested : Bool) : Fr 0x20 s (integEvent s r code addr detail nested) := by
  unfold integEvent
  repeat' first
    | with_reducible apply Fr.refl | ((with_reducible apply sub_ok); exact rfl) | with_reducible apply Fr.post (raiseEv_fr ..)
    | with_reducible dsimp only

theorem noteLost_fr (s : State) (r : Nat) : Fr 0x1000 s (noteLost s r) := by
  unfold noteLost
  repeat' first
    | with_reducible apply Fr.refl | ((with_reducible apply sub_ok); exact rfl) | with_reducible apply Fr.ite
    | with_reducible dsimp only | with_reducible split | with_reducible apply Fr.setInteg

theorem isolate_fr (s : State) (r : Region) (reason : Nat) (nested : Bool) : Fr 0x1028 s (isolate s r reason nested) := by
  unfold isolate
  repeat' first
    | with_reducible apply Fr.refl | ((with_reducible apply sub_ok); exact rfl) | with_reducible apply Fr.ite
    | with_reducible apply Fr.post (setF_fr ..) | with_reducible apply Fr.post (integEvent_fr ..)
    | with_reducible apply Fr.post (noteLost_fr ..) | with_reducible apply Fr.post (setUnitState_fr ..)
    | with_reducible dsimp only | with_reducible split

theorem queueCopy_fr (s : State) (d : Nat) (b : Nat) (row : Nat) : Fr 0x1000 s (queueCopy s d b row) := by
  unfold queueCopy
  repeat' first
    | with_reducible apply Fr.refl | ((with_reducible apply sub_ok); exact rfl) | with_reducible dsimp only
    | with_reducible apply Fr.setInteg

theorem mangerResponse_fr (s : State) (d : Nat) (b : Nat) (addr : Nat) (detail : Nat) : Fr 0x1028 s (mangerResponse s d b addr detail) := by
  unfold mangerResponse
  repeat' first
    | with_reducible apply Fr.refl | with_reducible assumption | ((with_reducible apply sub_ok); exact rfl)
    | with_reducible apply Fr.ite | with_reducible apply Fr.post (beginHandling_fr ..)
    | with_reducible apply Fr.post (integEvent_fr ..) | with_reducible apply Fr.post (isolate_fr ..)
    | with_reducible apply Fr.post (queueCopy_fr ..) | with_reducible refine Fr.foldl (fun _ _ _ => ?_) ?_
    | with_reducible refine Fr.foldl_fst (fun _ _ _ => ?_) ?_ | with_reducible dsimp only | with_reducible split
    | with_reducible apply Fr.setInteg

theorem countTRef_fr (s : State) (r : Region) (n : Nat) : Fr 0x8 s (countTRef s r n) := by
  unfold countTRef
  repeat' first
    | with_reducible apply Fr.refl | ((with_reducible apply sub_ok); exact rfl) | with_reducible apply Fr.ite
    | with_reducible apply Fr.post (bumpF_fr ..) | with_reducible dsimp only | with_reducible split

theorem repairWait_fr (s : State) (r : Region) (a : Nat) : Fr 0x2008 s (repairWait s r a) := by
  unfold repairWait
  repeat' first
    | with_reducible apply Fr.refl | ((with_reducible apply sub_ok); exact rfl) | with_reducible apply Fr.ite
    | with_reducible apply Fr.post (countTRef_fr ..) | with_reducible dsimp only | with_reducible split
    | with_reducible apply Fr.setTier

theorem repairLine_fr (s : State) (r : Region) (a : Nat) : Fr 0x3008 s (repairLine s r a) := by
  unfold repairLine
  repeat' first
    | with_reducible apply Fr.refl | ((with_reducible apply sub_ok); exact rfl) | with_reducible apply Fr.post (addF_fr ..)
    | with_reducible apply Fr.post (repairWait_fr ..) | with_reducible apply Fr.post (countBus_fr ..) | with_reducible dsimp only
    | with_reducible apply Fr.setInteg

theorem lineRepairEvent_fr (s : State) (r : Region) (a : Nat) (nested : Bool) : Fr 0x20 s (lineRepairEvent s r a nested) := by
  unfold lineRepairEvent
  repeat' first
    | with_reducible apply Fr.refl | ((with_reducible apply sub_ok); exact rfl) | with_reducible apply Fr.post (integEvent_fr ..)
    | with_reducible dsimp only

theorem lineResponse_fr (s : State) (r : Region) (addr : Nat) (detail : Nat) (addrFault : Bool) : Fr 0x3028 s (lineResponse s r addr detail addrFault) := by
  unfold lineResponse
  repeat' first
    | with_reducible apply Fr.refl | ((with_reducible apply sub_ok); exact rfl) | with_reducible apply Fr.ite
    | with_reducible apply Fr.post (beginHandling_fr ..) | with_reducible apply Fr.post (integEvent_fr ..)
    | with_reducible apply Fr.post (isolate_fr ..) | with_reducible apply Fr.post (repairLine_fr ..)
    | with_reducible apply Fr.post (lineRepairEvent_fr ..) | with_reducible dsimp only | with_reducible split
    | with_reducible apply Fr.setInteg

theorem addPoison_fr (s : State) (as : List Nat) : Fr 0x800 s (addPoison s as) := by
  unfold addPoison
  repeat' first
    | with_reducible apply Fr.refl | ((with_reducible apply sub_ok); exact rfl) | with_reducible dsimp only
    | with_reducible refine Fr.setMem _ ?_ id ?_

theorem countCe_fr (s : State) (r : Region) (n : Nat) : Fr 0x1028 s (countCe s r n) := by
  unfold countCe
  repeat' first
    | with_reducible apply Fr.refl | ((with_reducible apply sub_ok); exact rfl) | with_reducible apply Fr.ite
    | with_reducible apply Fr.post (bumpF_fr ..) | with_reducible apply Fr.post (integEvent_fr ..) | with_reducible dsimp only
    | with_reducible split | with_reducible apply Fr.setInteg

theorem readManger_fr (s : State) (d : Nat) (b : Nat) (a : Nat) (n : Nat) (groom : Bool) : Fr 0x1828 s (readManger s d b a n groom).s := by
  unfold readManger
  repeat' first
    | with_reducible apply Fr.refl | ((with_reducible apply sub_ok); exact rfl) | with_reducible apply Fr.ite
    | with_reducible apply Fr.post (setF_fr ..) | with_reducible apply Fr.post (bumpF_fr ..)
    | with_reducible apply Fr.post (mangerResponse_fr ..) | with_reducible apply Fr.post (addPoison_fr ..)
    | with_reducible apply Fr.post (countCe_fr ..) | with_reducible dsimp only | with_reducible split
    | with_reducible refine Fr.setMem _ ?_ id ?_

theorem lineUncorrectable_fr (s : State) (r : Region) (as : List Nat) (reports : List LineRead) (groom : Bool) : Fr 0x3828 s (lineUncorrectable s r as reports groom) := by
  unfold lineUncorrectable
  repeat' first
    | with_reducible apply Fr.refl | with_reducible assumption | ((with_reducible apply sub_ok); exact rfl)
    | with_reducible apply Fr.ite | with_reducible apply Fr.post (setF_fr ..) | with_reducible apply Fr.post (bumpF_fr ..)
    | with_reducible apply Fr.post (lineResponse_fr ..) | with_reducible apply Fr.post (addPoison_fr ..)
    | with_reducible refine Fr.foldl (fun _ _ _ => ?_) ?_ | with_reducible refine Fr.foldl_fst (fun _ _ _ => ?_) ?_
    | with_reducible dsimp only | with_reducible split

theorem readBursts_fr (s : State) (r : Region) (a : Nat) (k : Nat) (groom : Bool) : Fr 0x3828 s (readBursts s r a k groom).s := by
  unfold readBursts
  repeat' first
    | with_reducible apply Fr.refl | ((with_reducible apply sub_ok); exact rfl) | with_reducible apply Fr.ite
    | with_reducible apply Fr.post (bumpF_fr ..) | with_reducible apply Fr.post (countCe_fr ..)
    | with_reducible apply Fr.post (lineUncorrectable_fr ..) | with_reducible apply Fr.post (countBus_fr ..)
    | with_reducible dsimp only | with_reducible split | with_reducible refine Fr.setMem _ ?_ id ?_

theorem readAt_fr (s : State) (a : Nat) (n : Nat) (groom : Bool) : Fr 0x3828 s (readAt s a n groom).s := by
  unfold readAt
  repeat' first
    | with_reducible apply Fr.refl | ((with_reducible apply sub_ok); exact rfl) | with_reducible apply Fr.ite
    | with_reducible apply Fr.post (readManger_fr ..) | with_reducible apply Fr.post (readBursts_fr ..)
    | with_reducible apply Fr.post (openRowAt_fr ..) | with_reducible apply Fr.post (closeRowAt_fr ..) | with_reducible dsimp only
    | with_reducible split

theorem fireFlip_fr (s : State) : Fr 0x1008 s (fireFlip s) := by
  unfold fireFlip
  repeat' first
    | with_reducible apply Fr.refl | ((with_reducible apply sub_ok); exact rfl) | with_reducible apply Fr.post (setF_fr ..)
    | with_reducible dsimp only | with_reducible apply Fr.setInteg

theorem writeMangerByte_fr (s : State) (a : Nat) (v : Nat) (flip : Bool) : Fr 0x1808 s (writeMangerByte s a v flip) := by
  unfold writeMangerByte
  repeat' first
    | with_reducible apply Fr.refl | ((with_reducible apply sub_ok); exact rfl) | with_reducible apply Fr.ite
    | with_reducible apply Fr.post (fireFlip_fr ..) | with_reducible apply Fr.post (setRawByte_fr ..)
    | with_reducible apply Fr.post (setByteSynd_fr ..) | with_reducible apply Fr.post (cancelPending_fr ..)
    | with_reducible dsimp only | with_reducible split

theorem writeBurst_fr (s : State) (r : Region) (a : Nat) (bytes : List Nat) (flip : Bool) : Fr 0x1808 s (writeBurst s r a bytes flip) := by
  unfold writeBurst
  repeat' first
    | with_reducible apply Fr.refl | ((with_reducible apply sub_ok); exact rfl) | with_reducible apply Fr.ite
    | with_reducible apply Fr.post (fireFlip_fr ..) | with_reducible apply Fr.post (setBurstDev_fr ..)
    | with_reducible apply Fr.post (cancelPending_fr ..) | with_reducible apply Fr.post (setRawBytes_fr ..)
    | with_reducible apply Fr.post (countBus_fr ..) | with_reducible dsimp only | with_reducible split

theorem writePartial_fr (s : State) (r : Region) (a : Nat) (vs : List (Option Nat)) : Fr 0x3828 s (writePartial s r a vs).1 := by
  unfold writePartial
  repeat' first
    | with_reducible apply Fr.refl | ((with_reducible apply sub_ok); exact rfl) | with_reducible apply Fr.ite
    | with_reducible apply Fr.post (addPoison_fr ..) | with_reducible apply Fr.post (readBursts_fr ..)
    | with_reducible apply Fr.post (writeBurst_fr ..) | with_reducible dsimp only | with_reducible split

theorem writeBursts_fr (s : State) (r : Region) (a : Nat) (a0 : Nat) (a1 : List (Option Nat)) : Fr 0x3828 s (writeBursts s r a a0 a1).1 := by
  induction a0 generalizing s r a a1
  · unfold writeBursts
    repeat' first
      | with_reducible apply Fr.refl | ((with_reducible apply sub_ok); exact rfl) | with_reducible apply Fr.ite
      | with_reducible apply Fr.post (writePartial_fr ..) | with_reducible dsimp only | with_reducible split
  · rename_i ih
    unfold writeBursts
    repeat' first
      | with_reducible apply Fr.post (ih ..) | with_reducible apply Fr.refl | ((with_reducible apply sub_ok); exact rfl)
      | with_reducible apply Fr.ite | with_reducible apply Fr.post (writePartial_fr ..) | with_reducible dsimp only
      | with_reducible split

theorem writeMangerBytes_fr (s : State) (a : Nat) (l : List (Option Nat)) : Fr 0x1808 s (writeMangerBytes s a l) := by
  induction l generalizing s a with
  | nil => exact Fr.refl _ _
  | cons x t ih =>
    cases x with
    | none => exact ih ..
    | some v => exact ((writeMangerByte_fr ..).mono rfl).trans (ih ..)

theorem writeAt_fr (s : State) (a : Nat) (vs : List (Option Nat)) : Fr 0x3828 s (writeAt s a vs).1 := by
  unfold writeAt
  repeat' first
    | with_reducible apply Fr.refl | ((with_reducible apply sub_ok); exact rfl) | with_reducible apply Fr.ite
    | with_reducible apply Fr.post (writeBursts_fr ..) | with_reducible apply Fr.post (writeMangerBytes_fr ..)
    | with_reducible apply Fr.post (openRowAt_fr ..) | with_reducible dsimp only | with_reducible split

end Sys2Proof.Machine
end

