-- ==== Sys2Proof/Laws/FrOffline.lean ====
section
/-! SUPPORT. What each operation of Machine/Offline.lean may touch, and that it keeps the invariant. -/
namespace Sys2Proof.Machine

theorem putBay_fr (s : State) (y : Nat) (b : Bay) : Fr 0x4000 s (putBay s y b) := by
  unfold putBay
  repeat' first
    | with_reducible apply Fr.refl | ((with_reducible apply sub_ok); exact rfl) | with_reducible dsimp only
    | with_reducible apply Fr.setLoft

theorem loftRefuse_fr (s : State) (kind : Nat) (y : Nat) : Fr 0x28 s (loftRefuse s kind y) := by
  unfold loftRefuse
  repeat' first
    | with_reducible apply Fr.refl | ((with_reducible apply sub_ok); exact rfl) | with_reducible apply Fr.ite
    | with_reducible apply Fr.post (setF_fr ..) | with_reducible apply Fr.post (raiseEv_fr ..) | with_reducible dsimp only
    | with_reducible split

theorem showBytes_fr (s : State) (y : Nat) (bands : List BandPlace) : Fr 0x8 s (showBytes s y bands) := by
  unfold showBytes
  repeat' first
    | with_reducible apply Fr.refl | with_reducible assumption | ((with_reducible apply sub_ok); exact rfl)
    | with_reducible apply Fr.post (setF_fr ..) | with_reducible refine Fr.foldl (fun _ _ _ => ?_) ?_
    | with_reducible refine Fr.foldl_fst (fun _ _ _ => ?_) ?_ | with_reducible dsimp only

theorem emptyBay_fr (s : State) (y : Nat) : Fr 0x4008 s (emptyBay s y) := by
  unfold emptyBay
  repeat' first
    | with_reducible apply Fr.refl | ((with_reducible apply sub_ok); exact rfl) | with_reducible apply Fr.post (setF_fr ..)
    | with_reducible apply Fr.post (putBay_fr ..) | with_reducible apply Fr.post (showBytes_fr ..) | with_reducible dsimp only
    | with_reducible apply Fr.setLoft

theorem refOp_fr (s : State) (y : Nat) (dec : Bool) (n : Nat) : Fr 0x4028 s (refOp s y dec n) := by
  unfold refOp
  repeat' first
    | with_reducible apply Fr.refl | ((with_reducible apply sub_ok); exact rfl) | with_reducible apply Fr.ite
    | with_reducible apply Fr.post (setF_fr ..) | with_reducible apply Fr.post (raiseEv_fr ..)
    | with_reducible apply Fr.post (loftRefuse_fr ..) | with_reducible apply Fr.post (emptyBay_fr ..) | with_reducible dsimp only
    | with_reducible split

theorem askAt_fr (s : State) (a : Nat) : Fr 0xc s (askAt s a) := by
  unfold askAt
  repeat' first
    | with_reducible apply Fr.refl | ((with_reducible apply sub_ok); exact rfl) | with_reducible apply Fr.ite
    | with_reducible apply Fr.post (drawn_fr ..) | with_reducible apply Fr.post (countTRef_fr ..) | with_reducible dsimp only
    | with_reducible split

theorem carryBurst_fr (s : State) : Fr 0xc s (carryBurst s) := by
  unfold carryBurst
  repeat' first
    | with_reducible apply Fr.refl | ((with_reducible apply sub_ok); exact rfl) | with_reducible apply Fr.post (addF_fr ..)
    | with_reducible apply Fr.post (drawn_fr ..) | with_reducible dsimp only

theorem copyBurst_fr (s : State) (src : Nat) (dst : Nat) : Fr 0x382c s (copyBurst s src dst) := by
  unfold copyBurst
  repeat' first
    | with_reducible apply Fr.refl | ((with_reducible apply sub_ok); exact rfl) | with_reducible apply Fr.ite
    | with_reducible apply Fr.post (readAt_fr ..) | with_reducible apply Fr.post (writeAt_fr ..)
    | with_reducible apply Fr.post (askAt_fr ..) | with_reducible apply Fr.post (carryBurst_fr ..)
    | with_reducible apply Fr.post (storePoison_fr ..) | with_reducible dsimp only | with_reducible split

theorem copyBursts_fr (s : State) (src : Nat) (dst : Nat) (a0 : Nat) : Fr 0x382c s (copyBursts s src dst a0) := by
  induction a0 generalizing s src dst
  · unfold copyBursts
    repeat' first
      | with_reducible apply Fr.refl | ((with_reducible apply sub_ok); exact rfl) | with_reducible apply Fr.ite
      | with_reducible apply Fr.post (copyBurst_fr ..) | with_reducible dsimp only | with_reducible split
  · rename_i ih
    unfold copyBursts
    repeat' first
      | with_reducible apply Fr.post (ih ..) | with_reducible apply Fr.refl | ((with_reducible apply sub_ok); exact rfl)
      | with_reducible apply Fr.ite | with_reducible apply Fr.post (copyBurst_fr ..) | with_reducible dsimp only
      | with_reducible split

theorem writeEntry_fr (s : State) (y : Nat) (i : Nat) (b : BandPlace) : Fr 0x382c s (writeEntry s y i b) := by
  unfold writeEntry
  repeat' first
    | with_reducible apply Fr.refl | ((with_reducible apply sub_ok); exact rfl) | with_reducible apply Fr.ite
    | with_reducible apply Fr.post (writeAt_fr ..) | with_reducible apply Fr.post (askAt_fr ..) | with_reducible dsimp only
    | with_reducible split

theorem endReqs_fr (s : State) (hit : Batch → Req → Bool) (status : Nat) : Fr 0xc028 s (endReqs s hit status) := by
  unfold endReqs
  repeat' first
    | with_reducible apply Fr.refl | with_reducible assumption | ((with_reducible apply sub_ok); exact rfl)
    | with_reducible apply Fr.ite | with_reducible apply Fr.post (refOp_fr ..)
    | with_reducible refine Fr.foldl (fun _ _ _ => ?_) ?_ | with_reducible refine Fr.foldl_fst (fun _ _ _ => ?_) ?_
    | with_reducible dsimp only | with_reducible split | with_reducible apply Fr.setServe

theorem abortBay_fr (s : State) (y : Nat) : Fr 0xc028 s (abortBay s y) := by
  unfold abortBay
  repeat' first
    | with_reducible apply Fr.refl | ((with_reducible apply sub_ok); exact rfl) | with_reducible apply Fr.post (endReqs_fr ..)
    | with_reducible dsimp only

theorem faultBay_fr (s : State) (y : Nat) (win : Nat) : Fr 0xc028 s (faultBay s y win) := by
  unfold faultBay
  repeat' first
    | with_reducible apply Fr.refl | ((with_reducible apply sub_ok); exact rfl) | with_reducible apply Fr.ite
    | with_reducible apply Fr.post (setF_fr ..) | with_reducible apply Fr.post (raiseEv_fr ..)
    | with_reducible apply Fr.post (abortBay_fr ..) | with_reducible dsimp only | with_reducible split

theorem failBuild_fr (s : State) (cause : Nat) (ecdsa : Bool) (hss : Bool) (chunk : Nat) : Fr 0x4028 s (failBuild s cause ecdsa hss chunk) := by
  unfold failBuild
  repeat' first
    | with_reducible apply Fr.refl | ((with_reducible apply sub_ok); exact rfl) | with_reducible apply Fr.ite
    | with_reducible apply Fr.post (setF_fr ..) | with_reducible apply Fr.post (raiseEv_fr ..)
    | with_reducible apply Fr.post (emptyBay_fr ..) | with_reducible dsimp only | with_reducible split
    | with_reducible apply Fr.setLoft

theorem moveBand_fr (s : State) (adapter : Bool) (b : BandPlace) {x : State × BandPlace} (h : moveBand s adapter b = some x) :
    Fr 0x382c s x.1 := by
  obtain ⟨a, _, rfl⟩ := Option.map_eq_some_iff.1 h
  exact Fr.post (drawn_fr ..) rfl ((copyBursts_fr ..).mono rfl)

theorem moveList_fr {m : Nat} {note : State → Nat → BandPlace → State} (hs : sub 0x382c m = true)
    (hn : ∀ s i b, Fr m s (note s i b)) (base n : Nat) (adapter : Bool) (s : State) (i : Nat) (l : List BandPlace) :
    Fr m s (moveList base n adapter note s i l).1 := by
  induction l generalizing s i with
  | nil => exact Fr.refl _ _
  | cons b t ih =>
    unfold moveList
    split
    · split
      · rename_i h
        exact (((moveBand_fr _ _ _ h).mono hs).trans (hn ..)).trans (ih ..)
      · exact ih ..
    · exact ih ..

theorem noteBand_fr (y : Nat) (s : State) (i : Nat) (b : BandPlace) : Fr 0x782c s (noteBand y s i b) := by
  unfold noteBand
  repeat' first
    | with_reducible apply Fr.refl | ((with_reducible apply sub_ok); exact rfl) | with_reducible apply Fr.post (putBay_fr ..)
    | with_reducible apply Fr.post (showBytes_fr ..) | with_reducible apply Fr.post (writeEntry_fr ..) | with_reducible dsimp only

theorem noteSlot_fr (y : Nat) (k : Nat) (s : State) (i : Nat) (b : BandPlace) : Fr 0x4000 s (noteSlot y k s i b) := by
  unfold noteSlot
  repeat' first
    | with_reducible apply Fr.refl | ((with_reducible apply sub_ok); exact rfl) | with_reducible apply Fr.post (putBay_fr ..)
    | with_reducible dsimp only

theorem moveBands_fr (s : State) (y base n win : Nat) : Fr 0xf82c s (moveBands s y base n win) := by
  unfold moveBands
  dsimp only
  refine Fr.ite (Fr.post (faultBay_fr ..) rfl ?_) ?_
  all_goals
    refine Fr.foldl_fst (fun x e hx => ?_) ?_
    · exact Fr.post (moveList_fr (m := 0xf82c) rfl (fun _ _ _ => (noteSlot_fr ..).mono rfl) ..) rfl hx
    · exact moveList_fr rfl (fun _ _ _ => (noteBand_fr ..).mono rfl) ..

theorem placeStaging_fr (s : State) (win : Nat) : Fr 0xf82c s (placeStaging s win) := by
  unfold placeStaging
  repeat' first
    | with_reducible apply Fr.refl | ((with_reducible apply sub_ok); exact rfl) | with_reducible apply Fr.ite
    | with_reducible apply Fr.post (setF_fr ..) | with_reducible apply Fr.post (moveBands_fr ..) | with_reducible dsimp only
    | with_reducible split

theorem replaceBand_fr (s : State) (bd : Build) (i : Nat) (b : BandPlace) {y : State × Build} (h : replaceBand s bd i b = some y) :
    Fr 0x782c s y.1 := by
  obtain ⟨a, _, rfl⟩ := Option.map_eq_some_iff.1 h
  have h0 (x : Loft) (k : Nat) : Fr 0x782c s (setF (drawn { s with loft := x }) Fld.LFT_BCHUNKS_DONE k) :=
    Fr.post (setF_fr ..) rfl (Fr.post (drawn_fr ..) rfl (Fr.setLoft _ rfl (Fr.refl _ _)))
  dsimp only
  refine Fr.ite (h0 ..) ?_
  exact Fr.post (writeEntry_fr ..) rfl (Fr.post (showBytes_fr ..) rfl (h0 ..))

theorem replaceBuild_fr (s : State) (r : Nat) : Fr 0x782c s (replaceBuild s r) := by
  unfold replaceBuild
  split
  · exact Fr.refl _ _
  dsimp only
  split
  · refine Fr.post (failBuild_fr ..) rfl ?_
    refine Fr.foldl_fst (fun x i hx => ?_) (Fr.refl _ _)
    repeat' first
      | assumption
      | split
    rename_i h
    exact hx.trans ((replaceBand_fr _ _ _ _ h).mono rfl)
  · refine Fr.foldl_fst (fun x i hx => ?_) (Fr.refl _ _)
    repeat' first
      | assumption
      | split
    rename_i h
    exact hx.trans ((replaceBand_fr _ _ _ _ h).mono rfl)

theorem loseCaches_fr (s : State) (r : Nat) : Fr 0xc028 s (loseCaches s r) := by
  unfold loseCaches
  repeat' first
    | with_reducible apply Fr.refl | ((with_reducible apply sub_ok); exact rfl) | with_reducible apply Fr.ite
    | with_reducible apply Fr.post (endReqs_fr ..) | with_reducible dsimp only | with_reducible split
    | with_reducible apply Fr.setServe

theorem offlineHook_fr (s : State) (r : Nat) : Fr 0xf82c s (offlineHook s r) := by
  unfold offlineHook
  repeat' first
    | with_reducible apply Fr.refl | with_reducible assumption | ((with_reducible apply sub_ok); exact rfl)
    | with_reducible apply Fr.ite | with_reducible apply Fr.post (setF_fr ..) | with_reducible apply Fr.post (faultBay_fr ..)
    | with_reducible apply Fr.post (failBuild_fr ..) | with_reducible apply Fr.post (placeStaging_fr ..)
    | with_reducible apply Fr.post (replaceBuild_fr ..) | with_reducible apply Fr.post (loseCaches_fr ..)
    | with_reducible refine Fr.foldl (fun _ _ _ => ?_) ?_ | with_reducible refine Fr.foldl_fst (fun _ _ _ => ?_) ?_
    | with_reducible dsimp only | with_reducible split | with_reducible apply Fr.setLoft

theorem settleN_fr (n : Nat) (s : State) : Fr 0xf82c s (settleN n s) := by
  induction n generalizing s with
  | zero => exact Fr.refl _ _
  | succ n ih =>
    unfold settleN
    split
    · exact Fr.refl _ _
    · exact ((Fr.setInteg _ rfl (Fr.refl _ _)).trans ((offlineHook_fr ..).mono rfl)).trans (ih _)

theorem settle_fr (s : State) : Fr 0xf82c s (settle s) := settleN_fr 20 s

theorem memRead_fr (s : State) (a : Nat) (n : Nat) (groom : Bool) : Fr 0xf82c s (memRead s a n groom).s := by
  unfold memRead
  repeat' first
    | with_reducible apply Fr.refl | ((with_reducible apply sub_ok); exact rfl) | with_reducible apply Fr.ite
    | with_reducible apply Fr.post (readAt_fr ..) | with_reducible apply Fr.post (askAt_fr ..)
    | with_reducible apply Fr.post (settle_fr ..) | with_reducible dsimp only | with_reducible split

theorem memWrite_fr (s : State) (a : Nat) (vs : List (Option Nat)) : Fr 0xf82c s (memWrite s a vs).1 := by
  unfold memWrite
  repeat' first
    | with_reducible apply Fr.refl | ((with_reducible apply sub_ok); exact rfl) | with_reducible apply Fr.post (writeAt_fr ..)
    | with_reducible apply Fr.post (askAt_fr ..) | with_reducible apply Fr.post (settle_fr ..) | with_reducible dsimp only

theorem memWriteBytes_fr (s : State) (a : Nat) (bs : List Nat) : Fr 0xf82c s (memWriteBytes s a bs).1 := by
  unfold memWriteBytes
  repeat' first
    | with_reducible apply Fr.refl | ((with_reducible apply sub_ok); exact rfl) | with_reducible apply Fr.post (memWrite_fr ..)
    | with_reducible dsimp only

theorem copyRange_fr (s : State) (src : Nat) (dst : Nat) (n : Nat) : Fr 0xf82c s (copyRange s src dst n) := by
  unfold copyRange
  repeat' first
    | with_reducible apply Fr.refl | ((with_reducible apply sub_ok); exact rfl) | with_reducible apply Fr.post (copyBursts_fr ..)
    | with_reducible apply Fr.post (settle_fr ..) | with_reducible dsimp only

end Sys2Proof.Machine
end

