-- ==== Sys2Proof/Laws/FrIntegrityOps.lean ====
section
/-! SUPPORT. What each operation of Machine/IntegrityOps.lean may touch, and that it keeps the invariant. -/
namespace Sys2Proof.Machine

theorem startLap_fr (s : State) (r : Nat) : Fr 0x1000 s (startLap s r) := by
  unfold startLap
  repeat' first
    | with_reducible apply Fr.refl | with_reducible assumption | ((with_reducible apply sub_ok); exact rfl)
    | with_reducible refine Fr.foldl (fun _ _ _ => ?_) ?_ | with_reducible refine Fr.foldl_fst (fun _ _ _ => ?_) ?_
    | with_reducible dsimp only | with_reducible apply Fr.setInteg

theorem endLap_fr (s : State) (r : Nat) : Fr 0x1008 s (endLap s r) := by
  unfold endLap
  repeat' first
    | with_reducible apply Fr.refl | ((with_reducible apply sub_ok); exact rfl) | with_reducible apply Fr.ite
    | with_reducible apply Fr.post (setF_fr ..) | with_reducible apply Fr.post (startLap_fr ..) | with_reducible dsimp only
    | with_reducible split

theorem grmCtrlWrite_fr (s : State) (v : Nat) : Fr 0x1008 s (grmCtrlWrite s v) := by
  unfold grmCtrlWrite
  repeat' first
    | with_reducible apply Fr.refl | with_reducible assumption | ((with_reducible apply sub_ok); exact rfl)
    | with_reducible apply Fr.post (wrReg_fr ..) | with_reducible apply Fr.post (startLap_fr ..)
    | with_reducible refine Fr.foldl (fun _ _ _ => ?_) ?_ | with_reducible refine Fr.foldl_fst (fun _ _ _ => ?_) ?_
    | with_reducible dsimp only

theorem endHandling_fr (s : State) (r : Region) : Fr 0x1008 s (endHandling s r) := by
  unfold endHandling
  repeat' first
    | with_reducible apply Fr.refl | ((with_reducible apply sub_ok); exact rfl) | with_reducible apply Fr.ite
    | with_reducible apply Fr.post (setHandling_fr ..) | with_reducible dsimp only | with_reducible split
    | with_reducible apply Fr.setInteg

theorem hndWrite_fr (s : State) (r : Nat) (v : Nat) : Fr 0x1008 s (hndWrite s r v) := by
  unfold hndWrite
  repeat' first
    | with_reducible apply Fr.refl | with_reducible assumption | ((with_reducible apply sub_ok); exact rfl)
    | with_reducible apply Fr.ite | with_reducible apply Fr.post (endHandling_fr ..)
    | with_reducible refine Fr.foldl (fun _ _ _ => ?_) ?_ | with_reducible refine Fr.foldl_fst (fun _ _ _ => ?_) ?_
    | with_reducible dsimp only | with_reducible split

theorem repResult_fr (s : State) (d : Nat) (res : Nat) : Fr 0x8 s (repResult s d res) := by
  unfold repResult
  repeat' first
    | with_reducible apply Fr.refl | ((with_reducible apply sub_ok); exact rfl) | with_reducible apply Fr.post (setF_fr ..)
    | with_reducible apply Fr.post (addF_fr ..) | with_reducible dsimp only

theorem softRepNow_fr (s : State) (d : Nat) (b : Nat) (row : Nat) : Fr 0x1008 s (softRepNow s d b row) := by
  unfold softRepNow
  repeat' first
    | with_reducible apply Fr.refl | ((with_reducible apply sub_ok); exact rfl) | with_reducible apply Fr.ite
    | with_reducible apply Fr.post (setF_fr ..) | with_reducible apply Fr.post (repResult_fr ..) | with_reducible dsimp only
    | with_reducible split | with_reducible apply Fr.setInteg

theorem softRepWrite_fr (s : State) (d : Nat) (b : Nat) (row : Nat) : Fr 0x1008 s (softRepWrite s d b row) := by
  unfold softRepWrite
  repeat' first
    | with_reducible apply Fr.refl | ((with_reducible apply sub_ok); exact rfl) | with_reducible apply Fr.ite
    | with_reducible apply Fr.post (softRepNow_fr ..) | with_reducible dsimp only | with_reducible split
    | with_reducible apply Fr.setInteg

theorem softRepHeld_fr (s : State) (d : Nat) : Fr 0x1008 s (softRepHeld s d) := by
  unfold softRepHeld
  repeat' first
    | with_reducible apply Fr.refl | ((with_reducible apply sub_ok); exact rfl) | with_reducible apply Fr.ite
    | with_reducible apply Fr.post (softRepNow_fr ..) | with_reducible dsimp only | with_reducible split
    | with_reducible apply Fr.setInteg

theorem repairByte_fr (s : State) (a : Nat) : Fr 0x2808 s (repairByte s a) := by
  unfold repairByte
  repeat' first
    | with_reducible apply Fr.refl | ((with_reducible apply sub_ok); exact rfl) | with_reducible apply Fr.ite
    | with_reducible apply Fr.post (setRawByte_fr ..) | with_reducible apply Fr.post (setByteSynd_fr ..)
    | with_reducible apply Fr.post (storePoison_fr ..) | with_reducible dsimp only | with_reducible split

theorem takeSoftRow_fr (s : State) (d : Nat) (b : Nat) (row : Nat) : Fr 0x2808 s (takeSoftRow s d b row) := by
  unfold takeSoftRow
  repeat' first
    | with_reducible apply Fr.refl | with_reducible assumption | ((with_reducible apply sub_ok); exact rfl)
    | with_reducible apply Fr.post (wrReg_fr ..) | with_reducible apply Fr.post (setF_fr ..)
    | with_reducible apply Fr.post (repairByte_fr ..) | with_reducible refine Fr.foldl (fun _ _ _ => ?_) ?_
    | with_reducible refine Fr.foldl_fst (fun _ _ _ => ?_) ?_ | with_reducible dsimp only

theorem softRepairEvent_fr (s : State) (d : Nat) (b : Nat) (row : Nat) : Fr 0x20 s (softRepairEvent s d b row) := by
  unfold softRepairEvent
  repeat' first
    | with_reducible apply Fr.refl | ((with_reducible apply sub_ok); exact rfl) | with_reducible apply Fr.post (integEvent_fr ..)
    | with_reducible dsimp only

theorem softCopy_fr (s : State) (d : Nat) (b : Nat) : Fr 0x3828 s (softCopy s d b) := by
  unfold softCopy
  repeat' first
    | with_reducible apply Fr.refl | ((with_reducible apply sub_ok); exact rfl) | with_reducible apply Fr.ite
    | with_reducible apply Fr.post (repResult_fr ..) | with_reducible apply Fr.post (softRepHeld_fr ..)
    | with_reducible apply Fr.post (takeSoftRow_fr ..) | with_reducible apply Fr.post (softRepairEvent_fr ..)
    | with_reducible dsimp only | with_reducible split | with_reducible apply Fr.setInteg

theorem flipCtrlWrite_fr (s : State) (arm : Bool) (disarm : Bool) : Fr 0x1008 s (flipCtrlWrite s arm disarm) := by
  unfold flipCtrlWrite
  repeat' first
    | with_reducible apply Fr.refl | ((with_reducible apply sub_ok); exact rfl) | with_reducible apply Fr.ite
    | with_reducible apply Fr.post (setF_fr ..) | with_reducible dsimp only | with_reducible split
    | with_reducible apply Fr.setInteg

theorem tierCfgWrite_fr (s : State) (u : Nat) (off : Bool) : Fr 0xf82c s (tierCfgWrite s u off) := by
  unfold tierCfgWrite
  repeat' first
    | with_reducible apply Fr.refl | ((with_reducible apply sub_ok); exact rfl) | with_reducible apply Fr.ite
    | with_reducible apply Fr.post (setF_fr ..) | with_reducible apply Fr.post (noteLost_fr ..)
    | with_reducible apply Fr.post (settle_fr ..) | with_reducible apply Fr.post (setUnitState_fr ..) | with_reducible dsimp only
    | with_reducible split

theorem clearRegion_fr (s : State) (r : Nat) : Fr 0x800 s (clearRegion s r) := by
  refine Fr.setMem _ rfl (fun h => ?_) (Fr.refl _ _)
  simp only [Memory.wf, Bool.and_eq_true] at h ⊢
  exact ⟨⟨nmWf_filter _ _ _ h.1.1, nmWf_filter _ _ _ h.1.2⟩, nmWf_filter _ _ _ h.2⟩

theorem countFill_fr (s : State) (r : Nat) : Fr 0x8 s (countFill s r) := by
  unfold countFill
  repeat' first
    | with_reducible apply Fr.refl | ((with_reducible apply sub_ok); exact rfl) | with_reducible apply Fr.ite
    | with_reducible apply Fr.post (countBus_fr ..) | with_reducible dsimp only | with_reducible split

theorem fillRepair_fr (s : State) (a : Nat) (t : State) (h : fillRepair s a = some t) : Fr 0x3828 s t := by
  unfold fillRepair at h
  dsimp only at h
  split at h
  · split at h
    · cases h
    · have e := Option.some.inj h
      subst e
      exact Fr.post (softRepairEvent_fr ..) rfl ((takeSoftRow_fr ..).mono rfl)
  · split at h
    · have e := Option.some.inj h
      subst e
      split
      · with_reducible apply Fr.refl
      · refine Fr.setInteg _ rfl ?_
        with_reducible apply Fr.refl
    · have e := Option.some.inj h
      subst e
      exact Fr.post (countBus_fr ..) rfl (Fr.post (countBus_fr ..) rfl (Fr.post (lineRepairEvent_fr ..) rfl ((repairLine_fr ..).mono rfl)))

theorem fillRows_fr (s : State) (l : List Nat) : Fr 0x3828 s (fillRows s l).1 := by
  induction l generalizing s with
  | nil => exact Fr.refl _ _
  | cons a t ih =>
    unfold fillRows
    split
    · exact ((fillRepair_fr _ _ _ (by assumption)).mono rfl).trans (ih _)
    · exact ih _

theorem fillPassed_fr (s : State) (r : Nat) : Fr 0x1008 s (fillPassed s r) := by
  unfold fillPassed
  repeat' first
    | with_reducible apply Fr.refl | ((with_reducible apply sub_ok); exact rfl) | with_reducible apply Fr.post (setF_fr ..)
    | with_reducible dsimp only | with_reducible apply Fr.setInteg

theorem fillVerdict_fr (s : State) (r : Nat) (left : List Nat) : Fr 0xf82c s (fillVerdict s r left) := by
  unfold fillVerdict
  repeat' first
    | with_reducible apply Fr.refl | with_reducible assumption | ((with_reducible apply sub_ok); exact rfl)
    | with_reducible apply Fr.ite | with_reducible apply Fr.post (isolate_fr ..) | with_reducible apply Fr.post (settle_fr ..)
    | with_reducible apply Fr.post (startLap_fr ..) | with_reducible apply Fr.post (fillPassed_fr ..)
    | with_reducible apply Fr.post (setUnitState_fr ..) | with_reducible refine Fr.foldl (fun _ _ _ => ?_) ?_
    | with_reducible refine Fr.foldl_fst (fun _ _ _ => ?_) ?_ | with_reducible dsimp only | with_reducible split

end Sys2Proof.Machine
end

