-- ==== Sys2Proof/Laws/FrDroveBase.lean ====
section
/-! SUPPORT. What each operation of Machine/DroveBase.lean may touch, and that it keeps the invariant. -/
namespace Sys2Proof.Machine

theorem putPort_fr (s : State) (p : Nat) (x : Port) : Fr 0x400000 s (putPort s p x) := by
  unfold putPort
  repeat' first
    | with_reducible apply Fr.refl | ((with_reducible apply sub_ok); exact rfl) | with_reducible dsimp only
    | with_reducible apply Fr.setDrove

theorem putFarPort_fr (s : State) (p : Nat) (x : FarPort) : Fr 0x100000 s (putFarPort s p x) := by
  unfold putFarPort
  repeat' first
    | with_reducible apply Fr.refl | ((with_reducible apply sub_ok); exact rfl) | with_reducible dsimp only
    | with_reducible apply Fr.setFar

theorem countLanes_fr (s : State) (p : Nat) : Fr 0x8 s (countLanes s p) := by
  unfold countLanes
  repeat' first
    | with_reducible apply Fr.refl | ((with_reducible apply sub_ok); exact rfl) | with_reducible apply Fr.post (setF_fr ..)
    | with_reducible dsimp only

theorem setLane_fr (s : State) (p : Nat) (lane : Nat) (rx : Bool) (on : Bool) (cause : Nat) : Fr 0x8 s (setLane s p lane rx on cause) := by
  unfold setLane
  repeat' first
    | with_reducible apply Fr.refl | ((with_reducible apply sub_ok); exact rfl) | with_reducible apply Fr.ite
    | with_reducible apply Fr.post (countLanes_fr ..) | with_reducible apply Fr.post (setF_fr ..) | with_reducible dsimp only
    | with_reducible split

theorem xferFailed_fr (s : State) (p : Nat) (reason : Nat) (tag : Nat) : Fr 0x28 s (xferFailed s p reason tag) := by
  unfold xferFailed
  repeat' first
    | with_reducible apply Fr.refl | ((with_reducible apply sub_ok); exact rfl) | with_reducible apply Fr.post (setF_fr ..)
    | with_reducible apply Fr.post (raiseEv_fr ..) | with_reducible dsimp only

theorem countSq_fr (s : State) (p : Nat) : Fr 0x8 s (countSq s p) := by
  unfold countSq
  repeat' first
    | with_reducible apply Fr.refl | ((with_reducible apply sub_ok); exact rfl) | with_reducible apply Fr.post (setF_fr ..)
    | with_reducible dsimp only

theorem failFlight_fr (s : State) (p : Nat) (reason : Nat) (f : Outgoing → Bool) : Fr 0x400028 s (failFlight s p reason f) := by
  unfold failFlight
  repeat' first
    | with_reducible apply Fr.refl | with_reducible assumption | ((with_reducible apply sub_ok); exact rfl)
    | with_reducible apply Fr.post (putPort_fr ..) | with_reducible apply Fr.post (xferFailed_fr ..)
    | with_reducible apply Fr.post (countSq_fr ..) | with_reducible refine Fr.foldl (fun _ _ _ => ?_) ?_
    | with_reducible refine Fr.foldl_fst (fun _ _ _ => ?_) ?_ | with_reducible dsimp only

theorem laneLeaves_fr (s : State) (p : Nat) (lane : Nat) (rx : Bool) (cause : Nat) : Fr 0x28 s (laneLeaves s p lane rx cause) := by
  unfold laneLeaves
  repeat' first
    | with_reducible apply Fr.refl | ((with_reducible apply sub_ok); exact rfl) | with_reducible apply Fr.ite
    | with_reducible apply Fr.post (setLane_fr ..) | with_reducible apply Fr.post (raiseEv_fr ..) | with_reducible dsimp only
    | with_reducible split

theorem laneReleased_fr (s : State) (p : Nat) (lane : Nat) : Fr 0x400008 s (laneReleased s p lane) := by
  unfold laneReleased
  repeat' first
    | with_reducible apply Fr.refl | ((with_reducible apply sub_ok); exact rfl) | with_reducible apply Fr.post (putPort_fr ..)
    | with_reducible apply Fr.post (setF_fr ..) | with_reducible dsimp only

theorem releaseAsked_fr (s : State) (p : Nat) : Fr 0x400028 s (releaseAsked s p) := by
  unfold releaseAsked
  repeat' first
    | with_reducible apply Fr.refl | ((with_reducible apply sub_ok); exact rfl) | with_reducible apply Fr.ite
    | with_reducible apply Fr.post (laneLeaves_fr ..) | with_reducible apply Fr.post (laneReleased_fr ..)
    | with_reducible dsimp only | with_reducible split

theorem portGoesDown_fr (s : State) (p : Nat) (reason : Nat) : Fr 0x400028 s (portGoesDown s p reason) := by
  unfold portGoesDown
  repeat' first
    | with_reducible apply Fr.refl | ((with_reducible apply sub_ok); exact rfl) | with_reducible apply Fr.ite
    | with_reducible apply Fr.post (putPort_fr ..) | with_reducible apply Fr.post (failFlight_fr ..)
    | with_reducible apply Fr.post (releaseAsked_fr ..) | with_reducible apply Fr.post (setF_fr ..)
    | with_reducible apply Fr.post (raiseEv_fr ..) | with_reducible dsimp only | with_reducible split

theorem checkPort_fr (s : State) (p : Nat) : Fr 0x400028 s (checkPort s p) := by
  unfold checkPort
  repeat' first
    | with_reducible apply Fr.refl | ((with_reducible apply sub_ok); exact rfl) | with_reducible apply Fr.ite
    | with_reducible apply Fr.post (portGoesDown_fr ..) | with_reducible dsimp only | with_reducible split

theorem portDark_fr (s : State) (p : Nat) : Fr 0x400028 s (portDark s p) := by
  unfold portDark
  repeat' first
    | with_reducible apply Fr.refl | with_reducible assumption | ((with_reducible apply sub_ok); exact rfl)
    | with_reducible apply Fr.post (laneLeaves_fr ..) | with_reducible apply Fr.post (portGoesDown_fr ..)
    | with_reducible refine Fr.foldl (fun _ _ _ => ?_) ?_ | with_reducible refine Fr.foldl_fst (fun _ _ _ => ?_) ?_
    | with_reducible dsimp only

end Sys2Proof.Machine
end

