-- ==== Sys2Proof/Laws/FrMonOps.lean ====
section
/-! SUPPORT. What each operation of Machine/MonOps.lean may touch, and that it keeps the invariant. -/
namespace Sys2Proof.Machine

theorem putConv_fr (s : State) (m : Nat) (c : Converter) : Fr 0x40000 s (putConv s m c) := by
  unfold putConv
  repeat' first
    | with_reducible apply Fr.refl | ((with_reducible apply sub_ok); exact rfl) | with_reducible dsimp only
    | with_reducible apply Fr.setMon

theorem putAcc_fr (s : State) (m : Nat) (a : Nat) (x : Acc) : Fr 0x40000 s (putAcc s m a x) := by
  unfold putAcc
  repeat' first
    | with_reducible apply Fr.refl | ((with_reducible apply sub_ok); exact rfl) | with_reducible dsimp only
    | with_reducible apply Fr.setMon

theorem accAdd_fr (s : State) (m : Nat) (a : Nat) (k : Nat) (x : Nat) : Fr 0x40000 s (accAdd s m a k x) := by
  unfold accAdd
  repeat' first
    | with_reducible apply Fr.refl | ((with_reducible apply sub_ok); exact rfl) | with_reducible apply Fr.ite
    | with_reducible apply Fr.post (putAcc_fr ..) | with_reducible dsimp only | with_reducible split

theorem convertOne_fr (s : State) (k : Nat) (m : Nat) (raw : Nat) : Fr 0x40000 s (convertOne s k m raw) := by
  unfold convertOne
  repeat' first
    | with_reducible apply Fr.refl | with_reducible assumption | ((with_reducible apply sub_ok); exact rfl)
    | with_reducible apply Fr.ite | with_reducible apply Fr.post (putConv_fr ..) | with_reducible apply Fr.post (accAdd_fr ..)
    | with_reducible refine Fr.foldl (fun _ _ _ => ?_) ?_ | with_reducible refine Fr.foldl_fst (fun _ _ _ => ?_) ?_
    | with_reducible dsimp only | with_reducible split

theorem accLatch_fr (s : State) (m : Nat) (a : Nat) : Fr 0x40008 s (accLatch s m a) := by
  unfold accLatch
  repeat' first
    | with_reducible apply Fr.refl | ((with_reducible apply sub_ok); exact rfl) | with_reducible apply Fr.ite
    | with_reducible apply Fr.post (putAcc_fr ..) | with_reducible apply Fr.post (setF_fr ..)
    | with_reducible apply Fr.post (addF_fr ..) | with_reducible dsimp only | with_reducible split

theorem accBoundary_fr (s : State) (m : Nat) (a : Nat) (f : Nat) (k : Nat) : Fr 0x40008 s (accBoundary s m a f k) := by
  unfold accBoundary
  repeat' first
    | with_reducible apply Fr.refl | ((with_reducible apply sub_ok); exact rfl) | with_reducible apply Fr.ite
    | with_reducible apply Fr.post (putAcc_fr ..) | with_reducible apply Fr.post (accLatch_fr ..)
    | with_reducible apply Fr.post (setF_fr ..) | with_reducible dsimp only | with_reducible split

theorem convBoundary_fr (s : State) (m : Nat) : Fr 0x40008 s (convBoundary s m) := by
  unfold convBoundary
  repeat' first
    | with_reducible apply Fr.refl | ((with_reducible apply sub_ok); exact rfl) | with_reducible apply Fr.ite
    | with_reducible apply Fr.post (putConv_fr ..) | with_reducible apply Fr.post (setF_fr ..) | with_reducible dsimp only
    | with_reducible split

theorem putLoop_fr (s : State) (i : Nat) (x : LoopSt) : Fr 0x80000 s (putLoop s i x) := by
  unfold putLoop
  repeat' first
    | with_reducible apply Fr.refl | ((with_reducible apply sub_ok); exact rfl) | with_reducible dsimp only
    | with_reducible apply Fr.setRein

theorem setFreeze_fr (s : State) (i : Nat) (b : Bool) : Fr 0x80008 s (setFreeze s i b) := by
  unfold setFreeze
  repeat' first
    | with_reducible apply Fr.refl | ((with_reducible apply sub_ok); exact rfl) | with_reducible apply Fr.ite
    | with_reducible apply Fr.post (putLoop_fr ..) | with_reducible apply Fr.post (setF_fr ..) | with_reducible dsimp only
    | with_reducible split

theorem startLoop_fr (s : State) (i : Nat) : Fr 0x80008 s (startLoop s i) := by
  unfold startLoop
  repeat' first
    | with_reducible apply Fr.refl | ((with_reducible apply sub_ok); exact rfl) | with_reducible apply Fr.post (putLoop_fr ..)
    | with_reducible apply Fr.post (setF_fr ..) | with_reducible dsimp only

theorem bankStart_fr (s : State) (b : Nat) : Fr 0x80008 s (bankStart s b) := by
  unfold bankStart
  repeat' first
    | with_reducible apply Fr.refl | with_reducible assumption | ((with_reducible apply sub_ok); exact rfl)
    | with_reducible apply Fr.post (startLoop_fr ..) | with_reducible apply Fr.post (setF_fr ..)
    | with_reducible refine Fr.foldl (fun _ _ _ => ?_) ?_ | with_reducible refine Fr.foldl_fst (fun _ _ _ => ?_) ?_
    | with_reducible dsimp only

theorem bankBoundary_fr (s : State) (b : Nat) : Fr 0x80008 s (bankBoundary s b) := by
  unfold bankBoundary
  repeat' first
    | with_reducible apply Fr.refl | ((with_reducible apply sub_ok); exact rfl) | with_reducible apply Fr.ite
    | with_reducible apply Fr.post (bankStart_fr ..) | with_reducible apply Fr.post (setF_fr ..) | with_reducible dsimp only
    | with_reducible split | with_reducible apply Fr.setRein

theorem frameBoundary_fr (s : State) (f : Nat) : Fr 0xc0008 s (frameBoundary s f) := by
  unfold frameBoundary
  repeat' first
    | with_reducible apply Fr.refl | with_reducible assumption | ((with_reducible apply sub_ok); exact rfl)
    | with_reducible apply Fr.post (accBoundary_fr ..) | with_reducible apply Fr.post (convBoundary_fr ..)
    | with_reducible apply Fr.post (bankBoundary_fr ..) | with_reducible apply Fr.post (setF_fr ..)
    | with_reducible refine Fr.foldl (fun _ _ _ => ?_) ?_ | with_reducible refine Fr.foldl_fst (fun _ _ _ => ?_) ?_
    | with_reducible dsimp only | with_reducible apply Fr.setRein

theorem monCtrlWrite_fr (s : State) (m : Nat) (start : Bool) (stop : Bool) (cal : Bool) : Fr 0x40000 s (monCtrlWrite s m start stop cal) := by
  unfold monCtrlWrite
  repeat' first
    | with_reducible apply Fr.refl | ((with_reducible apply sub_ok); exact rfl) | with_reducible apply Fr.ite
    | with_reducible apply Fr.post (putConv_fr ..) | with_reducible dsimp only | with_reducible split

theorem calEnd_fr (s : State) (m : Nat) (ground : Nat) (ref : Nat) : Fr 0x28 s (calEnd s m ground ref) := by
  unfold calEnd
  repeat' first
    | with_reducible apply Fr.refl | ((with_reducible apply sub_ok); exact rfl) | with_reducible apply Fr.ite
    | with_reducible apply Fr.post (setF_fr ..) | with_reducible apply Fr.post (addF_fr ..)
    | with_reducible apply Fr.post (raiseEv_fr ..) | with_reducible dsimp only | with_reducible split

theorem calNext_fr (s : State) : Fr 0x40000 s (calNext s) := by
  unfold calNext
  repeat' first
    | with_reducible apply Fr.refl | ((with_reducible apply sub_ok); exact rfl) | with_reducible apply Fr.ite
    | with_reducible apply Fr.post (monCtrlWrite_fr ..) | with_reducible dsimp only | with_reducible split
    | with_reducible apply Fr.setMon

theorem calDie_fr (s : State) (d : Nat) : Fr 0x40000 s (calDie s d) := by
  unfold calDie
  repeat' first
    | with_reducible apply Fr.refl | ((with_reducible apply sub_ok); exact rfl) | with_reducible apply Fr.post (calNext_fr ..)
    | with_reducible dsimp only | with_reducible apply Fr.setMon

theorem monRefuse_fr (s : State) (m : Nat) (r : MonReg) : Fr 0x28 s (monRefuse s m r) := by
  unfold monRefuse
  repeat' first
    | with_reducible apply Fr.refl | ((with_reducible apply sub_ok); exact rfl) | with_reducible apply Fr.post (setF_fr ..)
    | with_reducible apply Fr.post (raiseEv_fr ..) | with_reducible dsimp only

theorem monStore_fr (s : State) (m : Nat) (v : Nat) (a0 : MonReg) : Fr 0x40008 s (monStore s m v a0) := by
  unfold monStore
  repeat' first
    | with_reducible apply Fr.refl | ((with_reducible apply sub_ok); exact rfl) | with_reducible apply Fr.ite
    | with_reducible apply Fr.post (putAcc_fr ..) | with_reducible apply Fr.post (wrReg_fr ..) | with_reducible dsimp only
    | with_reducible split

theorem monCfgWrite_fr (s : State) (m : Nat) (r : MonReg) (v : Nat) : Fr 0x40028 s (monCfgWrite s m r v) := by
  unfold monCfgWrite
  repeat' first
    | with_reducible apply Fr.refl | ((with_reducible apply sub_ok); exact rfl) | with_reducible apply Fr.ite
    | with_reducible apply Fr.post (monRefuse_fr ..) | with_reducible apply Fr.post (monStore_fr ..) | with_reducible dsimp only
    | with_reducible split

theorem putTrim_fr (s : State) (ch : Nat) (t : Trim) : Fr 0x40000 s (putTrim s ch t) := by
  unfold putTrim
  repeat' first
    | with_reducible apply Fr.refl | ((with_reducible apply sub_ok); exact rfl) | with_reducible dsimp only
    | with_reducible apply Fr.setMon

theorem trmCodeWrite_fr (s : State) (ch : Nat) (code : Nat) (x2 : Bool) (en : Bool) : Fr 0x40008 s (trmCodeWrite s ch code x2 en) := by
  unfold trmCodeWrite
  repeat' first
    | with_reducible apply Fr.refl | ((with_reducible apply sub_ok); exact rfl) | with_reducible apply Fr.ite
    | with_reducible apply Fr.post (putTrim_fr ..) | with_reducible apply Fr.post (wrReg_fr ..)
    | with_reducible apply Fr.post (setF_fr ..) | with_reducible dsimp only | with_reducible split

theorem trmSetCode_fr (s : State) (ch : Nat) (code : Nat) : Fr 0x40008 s (trmSetCode s ch code) := by
  unfold trmSetCode
  repeat' first
    | with_reducible apply Fr.refl | ((with_reducible apply sub_ok); exact rfl) | with_reducible apply Fr.ite
    | with_reducible apply Fr.post (putTrim_fr ..) | with_reducible apply Fr.post (setF_fr ..) | with_reducible dsimp only
    | with_reducible split

theorem trmRelease_fr (s : State) (ch : Nat) : Fr 0x40000 s (trmRelease s ch) := by
  unfold trmRelease
  repeat' first
    | with_reducible apply Fr.refl | ((with_reducible apply sub_ok); exact rfl) | with_reducible apply Fr.ite
    | with_reducible apply Fr.post (putTrim_fr ..) | with_reducible dsimp only | with_reducible split

theorem noteClamps_fr (s : State) (k : Nat) (start : Bool) : Fr 0x40000 s (noteClamps s k start) := by
  unfold noteClamps
  repeat' first
    | with_reducible apply Fr.refl | ((with_reducible apply sub_ok); exact rfl) | with_reducible apply Fr.ite
    | with_reducible dsimp only | with_reducible split | with_reducible apply Fr.setMon

theorem conversion_fr (s : State) (raw : Nat → Nat) : Fr 0xc0008 s (conversion s raw) := by
  unfold conversion
  repeat' first
    | with_reducible apply Fr.refl | with_reducible assumption | ((with_reducible apply sub_ok); exact rfl)
    | with_reducible apply Fr.ite | with_reducible apply Fr.post (convertOne_fr ..)
    | with_reducible apply Fr.post (frameBoundary_fr ..) | with_reducible apply Fr.post (noteClamps_fr ..)
    | with_reducible refine Fr.foldl (fun _ _ _ => ?_) ?_ | with_reducible refine Fr.foldl_fst (fun _ _ _ => ?_) ?_
    | with_reducible dsimp only | with_reducible split | with_reducible apply Fr.setMon

end Sys2Proof.Machine
end

