-- ==== Sys2Proof/Laws/FrSidingOps.lean ====
section
/-! SUPPORT. What each operation of Machine/SidingOps.lean may touch, and that it keeps the invariant. -/
namespace Sys2Proof.Machine

theorem putShu_fr (s : State) (n : Nat) (x : Shunter) : Fr 0x200 s (putShu s n x) :=
  Fr.setShu _ rfl (nmWf_put _ _ _ _) (Fr.refl _ _)

theorem putChan_fr (s : State) (n : Nat) (c : Nat) (x : Chan) : Fr 0x200 s (putChan s n c x) := by
  unfold putChan
  repeat' first
    | with_reducible apply Fr.refl | ((with_reducible apply sub_ok); exact rfl) | with_reducible apply Fr.post (putShu_fr ..)
    | with_reducible dsimp only

theorem putSid_fr (s : State) (d i : Nat) (x : Siding) : Fr 0x400 s (putSid s d i x) :=
  Fr.setSid _ rfl (nmWf_put _ _ _ _) (Fr.refl _ _)

theorem sidPublish_fr (s : State) (d : Nat) (i : Nat) (n : Nat) : Fr 0x440 s (sidPublish s d i n) := by
  unfold sidPublish
  repeat' first
    | with_reducible apply Fr.refl | ((with_reducible apply sub_ok); exact rfl) | with_reducible apply Fr.ite
    | with_reducible apply Fr.post (sendSbx_fr ..) | with_reducible apply Fr.post (putSid_fr ..) | with_reducible dsimp only
    | with_reducible split

theorem sidRelease_fr (s : State) (d : Nat) (i : Nat) (n : Nat) : Fr 0x440 s (sidRelease s d i n) := by
  unfold sidRelease
  repeat' first
    | with_reducible apply Fr.refl | ((with_reducible apply sub_ok); exact rfl) | with_reducible apply Fr.ite
    | with_reducible apply Fr.post (sendSbx_fr ..) | with_reducible apply Fr.post (putSid_fr ..) | with_reducible dsimp only
    | with_reducible split

theorem sidError_fr (s : State) (d : Nat) (i : Nat) (kind : Nat) (n : Nat) : Fr 0x28 s (sidError s d i kind n) := by
  unfold sidError
  repeat' first
    | with_reducible apply Fr.refl | ((with_reducible apply sub_ok); exact rfl) | with_reducible apply Fr.ite
    | with_reducible apply Fr.post (setF_fr ..) | with_reducible apply Fr.post (raiseEv_fr ..) | with_reducible dsimp only
    | with_reducible split

theorem sidPubWrite_fr (s : State) (d : Nat) (i : Nat) (n : Nat) : Fr 0x468 s (sidPubWrite s d i n) := by
  unfold sidPubWrite
  repeat' first
    | with_reducible apply Fr.refl | ((with_reducible apply sub_ok); exact rfl) | with_reducible apply Fr.ite
    | with_reducible apply Fr.post (sidPublish_fr ..) | with_reducible apply Fr.post (sidError_fr ..) | with_reducible dsimp only
    | with_reducible split

theorem sidRelWrite_fr (s : State) (d : Nat) (i : Nat) (n : Nat) : Fr 0x468 s (sidRelWrite s d i n) := by
  unfold sidRelWrite
  repeat' first
    | with_reducible apply Fr.refl | ((with_reducible apply sub_ok); exact rfl) | with_reducible apply Fr.ite
    | with_reducible apply Fr.post (sidRelease_fr ..) | with_reducible apply Fr.post (sidError_fr ..) | with_reducible dsimp only
    | with_reducible split

theorem sidReset_fr (s : State) (d : Nat) (i : Nat) : Fr 0x400 s (sidReset s d i) := by
  unfold sidReset
  repeat' first
    | with_reducible apply Fr.refl | ((with_reducible apply sub_ok); exact rfl) | with_reducible apply Fr.post (putSid_fr ..)
    | with_reducible dsimp only

theorem sidCtrlWrite_fr (s : State) (d : Nat) (i : Nat) (v : Nat) : Fr 0x400 s (sidCtrlWrite s d i v) := by
  unfold sidCtrlWrite
  repeat' first
    | with_reducible apply Fr.refl | ((with_reducible apply sub_ok); exact rfl) | with_reducible apply Fr.ite
    | with_reducible apply Fr.post (sidReset_fr ..) | with_reducible dsimp only | with_reducible split

theorem sidCfgWrite_fr (s : State) (d : Nat) (i : Nat) (reg : RegDesc) (v : W64) : Fr 0x428 s (sidCfgWrite s d i reg v) := by
  unfold sidCfgWrite
  repeat' first
    | with_reducible apply Fr.refl | ((with_reducible apply sub_ok); exact rfl) | with_reducible apply Fr.ite
    | with_reducible apply Fr.post (wrReg_fr ..) | with_reducible apply Fr.post (sidError_fr ..)
    | with_reducible apply Fr.post (sidReset_fr ..) | with_reducible dsimp only | with_reducible split

theorem sidSweep_fr (s : State) (d : Nat) (i : Nat) : Fr 0x440 s (sidSweep s d i) := by
  unfold sidSweep
  repeat' first
    | with_reducible apply Fr.refl | ((with_reducible apply sub_ok); exact rfl) | with_reducible apply Fr.post (sidRelease_fr ..)
    | with_reducible dsimp only

theorem sidSweepDie_fr (s : State) (d : Nat) : Fr 0x440 s (sidSweepDie s d) := by
  unfold sidSweepDie
  repeat' first
    | with_reducible apply Fr.refl | with_reducible assumption | ((with_reducible apply sub_ok); exact rfl)
    | with_reducible apply Fr.post (sidSweep_fr ..) | with_reducible refine Fr.foldl (fun _ _ _ => ?_) ?_
    | with_reducible refine Fr.foldl_fst (fun _ _ _ => ?_) ?_ | with_reducible dsimp only

theorem dropVectors_fr (s : State) (k : Nat) (id : Nat) : Fr 0x4c0 s (dropVectors s k id) := by
  unfold dropVectors
  repeat' first
    | with_reducible apply Fr.refl | ((with_reducible apply sub_ok); exact rfl) | with_reducible apply Fr.post (putStall_fr ..)
    | with_reducible apply Fr.post (sidSweepDie_fr ..) | with_reducible dsimp only

end Sys2Proof.Machine
end

