-- ==== Sys2Proof/Laws/FrStallOps.lean ====
section
/-! SUPPORT. What each operation of Machine/StallOps.lean may touch, and that it keeps the invariant. -/
namespace Sys2Proof.Machine

theorem setLastMiss_fr (s : State) (k : Nat) (d : TileOp) (low : Bool) (gRetry : Nat) (kind : Nat) (second : Bool) : Fr 0x8 s (setLastMiss s k d low gRetry kind second) := by
  unfold setLastMiss
  repeat' first
    | with_reducible apply Fr.refl | ((with_reducible apply sub_ok); exact rfl) | with_reducible apply Fr.post (wrReg_fr ..)
    | with_reducible dsimp only

theorem secondMiss_fr (s : State) (k : Nat) (d : TileOp) (low : Bool) (gRetry : Nat) (kind : Nat) (clipped : Nat) : Fr 0x28 s (secondMiss s k d low gRetry kind clipped) := by
  unfold secondMiss
  repeat' first
    | with_reducible apply Fr.refl | ((with_reducible apply sub_ok); exact rfl) | with_reducible apply Fr.post (setF_fr ..)
    | with_reducible apply Fr.post (bumpF_fr ..) | with_reducible apply Fr.post (raiseEv_fr ..)
    | with_reducible apply Fr.post (setLastMiss_fr ..) | with_reducible dsimp only

theorem countOutputs_fr (s : State) (k : Nat) (p : PassStats) : Fr 0x8 s (countOutputs s k p) := by
  unfold countOutputs
  repeat' first
    | with_reducible apply Fr.refl | ((with_reducible apply sub_ok); exact rfl) | with_reducible apply Fr.ite
    | with_reducible apply Fr.post (setF_fr ..) | with_reducible apply Fr.post (bumpF_fr ..) | with_reducible dsimp only
    | with_reducible split

theorem voidEvent_fr (s : State) (k : Nat) (tag : Nat) (cause : Nat) (vDone : Nat) (reissued : Bool) : Fr 0x28 s (voidEvent s k tag cause vDone reissued) := by
  unfold voidEvent
  repeat' first
    | with_reducible apply Fr.refl | ((with_reducible apply sub_ok); exact rfl) | with_reducible apply Fr.post (setF_fr ..)
    | with_reducible apply Fr.post (bumpF_fr ..) | with_reducible apply Fr.post (raiseEv_fr ..) | with_reducible dsimp only

theorem voidOp_fr (s : State) (k : Nat) (id : Nat) (tag : Nat) (cause : Nat) (vDone : Nat) : Fr 0x4e8 s (voidOp s k id tag cause vDone) := by
  unfold voidOp
  repeat' first
    | with_reducible apply Fr.refl | ((with_reducible apply sub_ok); exact rfl) | with_reducible apply Fr.post (dropVectors_fr ..)
    | with_reducible apply Fr.post (voidEvent_fr ..) | with_reducible dsimp only

theorem voidOps_fr (s : State) (k : Nat) (cause : Nat) (os : List (Nat × Nat × Nat)) : Fr 0x4e8 s (voidOps s k cause os) := by
  unfold voidOps
  repeat' first
    | with_reducible apply Fr.refl | with_reducible assumption | ((with_reducible apply sub_ok); exact rfl)
    | with_reducible apply Fr.post (voidOp_fr ..) | with_reducible refine Fr.foldl (fun _ _ _ => ?_) ?_
    | with_reducible refine Fr.foldl_fst (fun _ _ _ => ?_) ?_ | with_reducible dsimp only

theorem checkPass_fr (s : State) (k : Nat) (o : OpRun) (v0 : Nat) (v1 : Nat) (es : List (Nat × Nat × Out)) (p : PassStats) : Fr 0xa8 s (checkPass s k o v0 v1 es p) := by
  unfold checkPass
  repeat' first
    | with_reducible apply Fr.refl | ((with_reducible apply sub_ok); exact rfl) | with_reducible apply Fr.ite
    | with_reducible apply Fr.post (bumpF_fr ..) | with_reducible apply Fr.post (putStall_fr ..)
    | with_reducible apply Fr.post (setLastMiss_fr ..) | with_reducible apply Fr.post (secondMiss_fr ..)
    | with_reducible dsimp only | with_reducible split

theorem runVectors_fr (s : State) (k : Nat) (o : OpRun) (v1 : Nat) : Fr 0xac s (runVectors s k o v1) := by
  unfold runVectors
  repeat' first
    | with_reducible apply Fr.refl | with_reducible assumption | ((with_reducible apply sub_ok); exact rfl)
    | with_reducible apply Fr.post (drawn_fr ..) | with_reducible apply Fr.post (putStall_fr ..)
    | with_reducible apply Fr.post (countOutputs_fr ..) | with_reducible apply Fr.post (checkPass_fr ..)
    | with_reducible refine Fr.foldl (fun _ _ _ => ?_) ?_ | with_reducible refine Fr.foldl_fst (fun _ _ _ => ?_) ?_
    | with_reducible dsimp only

theorem resumeStall_fr (s : State) (k : Nat) : Fr 0x80 s (resumeStall s k) := by
  unfold resumeStall
  repeat' first
    | with_reducible apply Fr.refl | ((with_reducible apply sub_ok); exact rfl) | with_reducible apply Fr.post (putStall_fr ..)
    | with_reducible dsimp only

theorem endPass_fr (s : State) (k : Nat) : Fr 0xac s (endPass s k) := by
  unfold endPass
  repeat' first
    | with_reducible apply Fr.refl | ((with_reducible apply sub_ok); exact rfl) | with_reducible apply Fr.ite
    | with_reducible apply Fr.post (putStall_fr ..) | with_reducible apply Fr.post (runVectors_fr ..)
    | with_reducible apply Fr.post (resumeStall_fr ..) | with_reducible dsimp only | with_reducible split

theorem runRetry_fr (s : State) (k : Nat) (r : Retry) (v1 : Nat) : Fr 0x8c s (runRetry s k r v1).1 := by
  unfold runRetry
  repeat' first
    | with_reducible apply Fr.refl | with_reducible assumption | ((with_reducible apply sub_ok); exact rfl)
    | with_reducible apply Fr.post (drawn_fr ..) | with_reducible apply Fr.post (putStall_fr ..)
    | with_reducible apply Fr.post (countOutputs_fr ..) | with_reducible refine Fr.foldl (fun _ _ _ => ?_) ?_
    | with_reducible refine Fr.foldl_fst (fun _ _ _ => ?_) ?_ | with_reducible dsimp only

theorem endRetry_fr (s : State) (k : Nat) : Fr 0xac s (endRetry s k) := by
  unfold endRetry
  repeat' first
    | with_reducible apply Fr.refl | ((with_reducible apply sub_ok); exact rfl) | with_reducible apply Fr.ite
    | with_reducible apply Fr.post (putStall_fr ..) | with_reducible apply Fr.post (secondMiss_fr ..)
    | with_reducible apply Fr.post (resumeStall_fr ..) | with_reducible apply Fr.post (runRetry_fr ..) | with_reducible dsimp only
    | with_reducible split

theorem haltStall_fr (s : State) (k : Nat) (cause : Nat) : Fr 0xac s (haltStall s k cause) := by
  unfold haltStall
  repeat' first
    | with_reducible apply Fr.refl | ((with_reducible apply sub_ok); exact rfl) | with_reducible apply Fr.ite
    | with_reducible apply Fr.post (putStall_fr ..) | with_reducible apply Fr.post (voidEvent_fr ..)
    | with_reducible apply Fr.post (runVectors_fr ..) | with_reducible apply Fr.post (runRetry_fr ..)
    | with_reducible apply Fr.post (endRetry_fr ..) | with_reducible dsimp only | with_reducible split

theorem restoreNodes_fr (s : State) (k : Nat) : Fr 0x80 s (restoreNodes s k) := by
  unfold restoreNodes
  repeat' first
    | with_reducible apply Fr.refl | ((with_reducible apply sub_ok); exact rfl) | with_reducible apply Fr.post (putStall_fr ..)
    | with_reducible dsimp only

theorem farInterrupt_fr (s : State) (k : Nat) : Fr 0x100080 s (farInterrupt s k) := by
  unfold farInterrupt
  repeat' first
    | with_reducible apply Fr.refl | ((with_reducible apply sub_ok); exact rfl) | with_reducible apply Fr.ite
    | with_reducible apply Fr.post (restoreNodes_fr ..) | with_reducible dsimp only | with_reducible split
    | with_reducible apply Fr.setFar

theorem holdThm_fr (s : State) (k : Nat) (why : ThmWhy) : Fr 0x1000ac s (holdThm s k why) := by
  unfold holdThm
  repeat' first
    | with_reducible apply Fr.refl | ((with_reducible apply sub_ok); exact rfl) | with_reducible apply Fr.ite
    | with_reducible apply Fr.post (putStall_fr ..) | with_reducible apply Fr.post (haltStall_fr ..)
    | with_reducible apply Fr.post (farInterrupt_fr ..) | with_reducible dsimp only | with_reducible split

theorem releaseThm_fr (s : State) (k : Nat) (why : ThmWhy) : Fr 0x80 s (releaseThm s k why) := by
  unfold releaseThm
  repeat' first
    | with_reducible apply Fr.refl | ((with_reducible apply sub_ok); exact rfl) | with_reducible apply Fr.post (putStall_fr ..)
    | with_reducible apply Fr.post (resumeStall_fr ..) | with_reducible dsimp only

theorem holdLte_fr (s : State) (k : Nat) (why : LteWhy) : Fr 0x1000ac s (holdLte s k why) := by
  unfold holdLte
  repeat' first
    | with_reducible apply Fr.refl | ((with_reducible apply sub_ok); exact rfl) | with_reducible apply Fr.ite
    | with_reducible apply Fr.post (putStall_fr ..) | with_reducible apply Fr.post (haltStall_fr ..)
    | with_reducible apply Fr.post (farInterrupt_fr ..) | with_reducible dsimp only | with_reducible split

theorem releaseLte_fr (s : State) (k : Nat) (why : LteWhy) : Fr 0x80 s (releaseLte s k why) := by
  unfold releaseLte
  repeat' first
    | with_reducible apply Fr.refl | ((with_reducible apply sub_ok); exact rfl) | with_reducible apply Fr.post (putStall_fr ..)
    | with_reducible apply Fr.post (resumeStall_fr ..) | with_reducible dsimp only

theorem refuseStall_fr (s : State) (k : Nat) : Fr 0x28 s (refuseStall s k) := by
  unfold refuseStall
  repeat' first
    | with_reducible apply Fr.refl | ((with_reducible apply sub_ok); exact rfl) | with_reducible apply Fr.post (setF_fr ..)
    | with_reducible apply Fr.post (raiseEv_fr ..) | with_reducible dsimp only

theorem stlCfgWrite_fr (s : State) (req : Requester) (k : Nat) (v : Nat) : Fr 0x4e8 s (stlCfgWrite s req k v) := by
  unfold stlCfgWrite
  repeat' first
    | with_reducible apply Fr.refl | ((with_reducible apply sub_ok); exact rfl) | with_reducible apply Fr.ite
    | with_reducible apply Fr.post (setF_fr ..) | with_reducible apply Fr.post (putStall_fr ..)
    | with_reducible apply Fr.post (voidOps_fr ..) | with_reducible apply Fr.post (refuseStall_fr ..) | with_reducible dsimp only
    | with_reducible split

theorem stlResetWrite_fr (s : State) (req : Requester) (k : Nat) (v : Nat) : Fr 0x4e8 s (stlResetWrite s req k v) := by
  unfold stlResetWrite
  repeat' first
    | with_reducible apply Fr.refl | ((with_reducible apply sub_ok); exact rfl) | with_reducible apply Fr.ite
    | with_reducible apply Fr.post (putStall_fr ..) | with_reducible apply Fr.post (voidOps_fr ..)
    | with_reducible apply Fr.post (refuseStall_fr ..) | with_reducible dsimp only | with_reducible split

theorem stlCtrlWrite_fr (s : State) (k : Nat) (start : Bool) (stop : Bool) (cut : Bool) : Fr 0xac s (stlCtrlWrite s k start stop cut) := by
  unfold stlCtrlWrite
  repeat' first
    | with_reducible apply Fr.refl | ((with_reducible apply sub_ok); exact rfl) | with_reducible apply Fr.ite
    | with_reducible apply Fr.post (putStall_fr ..) | with_reducible apply Fr.post (resumeStall_fr ..)
    | with_reducible apply Fr.post (haltStall_fr ..) | with_reducible dsimp only | with_reducible split

theorem releaseFar_fr (s : State) (k : Nat) : Fr 0x80 s (releaseFar s k) := by
  unfold releaseFar
  repeat' first
    | with_reducible apply Fr.refl | ((with_reducible apply sub_ok); exact rfl) | with_reducible apply Fr.post (putStall_fr ..)
    | with_reducible apply Fr.post (resumeStall_fr ..) | with_reducible dsimp only

theorem letGo_fr (s : State) (k : Nat) : Fr 0x80 s (letGo s k) := by
  unfold letGo
  repeat' first
    | with_reducible apply Fr.refl | ((with_reducible apply sub_ok); exact rfl) | with_reducible apply Fr.ite
    | with_reducible apply Fr.post (putStall_fr ..) | with_reducible apply Fr.post (releaseFar_fr ..) | with_reducible dsimp only
    | with_reducible split

theorem retireEnds_fr (s : State) (k : Nat) : Fr 0x4e8 s (retireEnds s k) := by
  unfold retireEnds
  repeat' first
    | with_reducible apply Fr.refl | ((with_reducible apply sub_ok); exact rfl) | with_reducible apply Fr.ite
    | with_reducible apply Fr.post (putStall_fr ..) | with_reducible apply Fr.post (stlCfgWrite_fr ..)
    | with_reducible apply Fr.post (stlResetWrite_fr ..) | with_reducible apply Fr.post (releaseFar_fr ..)
    | with_reducible dsimp only | with_reducible split

theorem retireStall_fr (s : State) (k : Nat) (degraded : Bool) : Fr 0x4ec s (retireStall s k degraded) := by
  unfold retireStall
  repeat' first
    | with_reducible apply Fr.refl | ((with_reducible apply sub_ok); exact rfl) | with_reducible apply Fr.ite
    | with_reducible apply Fr.post (putStall_fr ..) | with_reducible apply Fr.post (stlCtrlWrite_fr ..)
    | with_reducible apply Fr.post (retireEnds_fr ..) | with_reducible dsimp only | with_reducible split

theorem weightSkew_fr (s : State) (k : Nat) : Fr 0x4e8 s (weightSkew s k) := by
  unfold weightSkew
  repeat' first
    | with_reducible apply Fr.refl | ((with_reducible apply sub_ok); exact rfl) | with_reducible apply Fr.post (putStall_fr ..)
    | with_reducible apply Fr.post (voidOps_fr ..) | with_reducible dsimp only

theorem inputSkew_fr (s : State) (k : Nat) : Fr 0x4e8 s (inputSkew s k) := by
  unfold inputSkew
  repeat' first
    | with_reducible apply Fr.refl | ((with_reducible apply sub_ok); exact rfl) | with_reducible apply Fr.ite
    | with_reducible apply Fr.post (putStall_fr ..) | with_reducible apply Fr.post (voidEvent_fr ..)
    | with_reducible apply Fr.post (voidOps_fr ..) | with_reducible dsimp only | with_reducible split

end Sys2Proof.Machine
end

