-- ==== Sys2Proof/Laws/FrFarrierOps.lean ====
section
/-! SUPPORT. What each operation of Machine/FarrierOps.lean may touch, and that it keeps the invariant. -/
namespace Sys2Proof.Machine

theorem putFar_fr (s : State) (k : Nat) (x : FarStall) : Fr 0x100000 s (putFar s k x) := by
  unfold putFar
  repeat' first
    | with_reducible apply Fr.refl | ((with_reducible apply sub_ok); exact rfl) | with_reducible dsimp only
    | with_reducible apply Fr.setFar

theorem writeLane_fr (s : State) (addr : Nat) (lane : Nat) (v : Int) : Fr 0x8 s (writeLane s addr lane v) := by
  unfold writeLane
  repeat' first
    | with_reducible apply Fr.refl | ((with_reducible apply sub_ok); exact rfl) | with_reducible apply Fr.post (wrReg_fr ..)
    | with_reducible dsimp only

theorem writeField_fr (s : State) (k : Nat) (f : Nat) (v : Int) : Fr 0x8 s (writeField s k f v) := by
  unfold writeField
  repeat' first
    | with_reducible apply Fr.refl | ((with_reducible apply sub_ok); exact rfl) | with_reducible apply Fr.ite
    | with_reducible apply Fr.post (wrReg_fr ..) | with_reducible apply Fr.post (setF_fr ..)
    | with_reducible apply Fr.post (writeLane_fr ..) | with_reducible dsimp only | with_reducible split

theorem sweptStands_fr (s : State) (k : Nat) : Fr 0x100000 s (sweptStands s k) := by
  unfold sweptStands
  repeat' first
    | with_reducible apply Fr.refl | ((with_reducible apply sub_ok); exact rfl) | with_reducible apply Fr.ite
    | with_reducible dsimp only | with_reducible split | with_reducible apply Fr.setFar

theorem writeCorrections_fr (s : State) (k : Nat) (t : Int) : Fr 0x100008 s (writeCorrections s k t) := by
  unfold writeCorrections
  repeat' first
    | with_reducible apply Fr.refl | with_reducible assumption | ((with_reducible apply sub_ok); exact rfl)
    | with_reducible apply Fr.post (setF_fr ..) | with_reducible apply Fr.post (writeField_fr ..)
    | with_reducible apply Fr.post (sweptStands_fr ..) | with_reducible refine Fr.foldl (fun _ _ _ => ?_) ?_
    | with_reducible refine Fr.foldl_fst (fun _ _ _ => ?_) ?_ | with_reducible dsimp only

theorem queueRun_fr (s : State) (k : Nat) (asked : Bool) (byTemp : Bool) : Fr 0x100008 s (queueRun s k asked byTemp) := by
  unfold queueRun
  repeat' first
    | with_reducible apply Fr.refl | ((with_reducible apply sub_ok); exact rfl) | with_reducible apply Fr.post (setF_fr ..)
    | with_reducible apply Fr.post (putFar_fr ..) | with_reducible dsimp only

theorem queueReint_fr (s : State) (k : Nat) : Fr 0x100008 s (queueReint s k) := by
  unfold queueReint
  repeat' first
    | with_reducible apply Fr.refl | ((with_reducible apply sub_ok); exact rfl) | with_reducible apply Fr.ite
    | with_reducible apply Fr.post (setF_fr ..) | with_reducible apply Fr.post (putFar_fr ..) | with_reducible dsimp only
    | with_reducible split

theorem reintDone_fr (s : State) (k : Nat) : Fr 0x100008 s (reintDone s k) := by
  unfold reintDone
  repeat' first
    | with_reducible apply Fr.refl | ((with_reducible apply sub_ok); exact rfl) | with_reducible apply Fr.post (setF_fr ..)
    | with_reducible apply Fr.post (putFar_fr ..) | with_reducible dsimp only

theorem dequeue_fr (s : State) (k : Nat) : Fr 0x100008 s (dequeue s k) := by
  unfold dequeue
  repeat' first
    | with_reducible apply Fr.refl | ((with_reducible apply sub_ok); exact rfl) | with_reducible apply Fr.post (setF_fr ..)
    | with_reducible apply Fr.post (putFar_fr ..) | with_reducible dsimp only

theorem queueLane_fr (s : State) (p : Nat) (j : Nat) : Fr 0x100000 s (queueLane s p j) := by
  unfold queueLane
  repeat' first
    | with_reducible apply Fr.refl | ((with_reducible apply sub_ok); exact rfl) | with_reducible apply Fr.ite
    | with_reducible apply Fr.post (putFarPort_fr ..) | with_reducible dsimp only | with_reducible split

theorem holdFar_fr (s : State) (k : Nat) : Fr 0x80 s (holdFar s k) := by
  unfold holdFar
  repeat' first
    | with_reducible apply Fr.refl | ((with_reducible apply sub_ok); exact rfl) | with_reducible apply Fr.post (putStall_fr ..)
    | with_reducible dsimp only

theorem showWork_fr (s : State) (w : Option FarWork) (step : Nat) : Fr 0x100008 s (showWork s w step) := by
  unfold showWork
  repeat' first
    | with_reducible apply Fr.refl | ((with_reducible apply sub_ok); exact rfl) | with_reducible apply Fr.ite
    | with_reducible apply Fr.post (setF_fr ..) | with_reducible dsimp only | with_reducible split
    | with_reducible apply Fr.setFar

theorem endWork_fr (s : State) (k : Nat) : Fr 0x100008 s (endWork s k) := by
  unfold endWork
  repeat' first
    | with_reducible apply Fr.refl | ((with_reducible apply sub_ok); exact rfl) | with_reducible apply Fr.post (setF_fr ..)
    | with_reducible apply Fr.post (showWork_fr ..) | with_reducible dsimp only

theorem startPhaseBank_fr (s : State) (k : Nat) : Fr 0x80008 s (startPhaseBank s k) := by
  unfold startPhaseBank
  repeat' first
    | with_reducible apply Fr.refl | with_reducible assumption | ((with_reducible apply sub_ok); exact rfl)
    | with_reducible apply Fr.post (bankStart_fr ..) | with_reducible apply Fr.post (setF_fr ..)
    | with_reducible refine Fr.foldl (fun _ _ _ => ?_) ?_ | with_reducible refine Fr.foldl_fst (fun _ _ _ => ?_) ?_
    | with_reducible dsimp only

theorem writeSwept_fr (s : State) (w : FarWork) (v : Nat → Int) : Fr 0x8 s (writeSwept s w v).1 := by
  unfold writeSwept
  repeat' first
    | with_reducible apply Fr.refl | with_reducible assumption | ((with_reducible apply sub_ok); exact rfl)
    | with_reducible apply Fr.ite | with_reducible apply Fr.post (writeField_fr ..)
    | with_reducible refine Fr.foldl (fun _ _ _ => ?_) ?_ | with_reducible refine Fr.foldl_fst (fun _ _ _ => ?_) ?_
    | with_reducible dsimp only | with_reducible split

theorem putBack_fr (s : State) (w : FarWork) : Fr 0x8 s (putBack s w) := by
  unfold putBack
  repeat' first
    | with_reducible apply Fr.refl | with_reducible assumption | ((with_reducible apply sub_ok); exact rfl)
    | with_reducible apply Fr.post (setF_fr ..) | with_reducible refine Fr.foldl (fun _ _ _ => ?_) ?_
    | with_reducible refine Fr.foldl_fst (fun _ _ _ => ?_) ?_ | with_reducible dsimp only

theorem beginAttempt_fr (s : State) (w : FarWork) : Fr 0x100008 s (beginAttempt s w) := by
  unfold beginAttempt
  repeat' first
    | with_reducible apply Fr.refl | ((with_reducible apply sub_ok); exact rfl) | with_reducible apply Fr.post (setF_fr ..)
    | with_reducible apply Fr.post (showWork_fr ..) | with_reducible dsimp only

theorem nextStep_fr (s : State) (w : FarWork) (step : Nat) : Fr 0x18000c s (nextStep s w step) := by
  unfold nextStep
  repeat' first
    | with_reducible apply Fr.refl | ((with_reducible apply sub_ok); exact rfl) | with_reducible apply Fr.ite
    | with_reducible apply Fr.post (drawn_fr ..) | with_reducible apply Fr.post (showWork_fr ..)
    | with_reducible apply Fr.post (startPhaseBank_fr ..) | with_reducible apply Fr.post (writeSwept_fr ..)
    | with_reducible dsimp only | with_reducible split

theorem stepsMade_fr (s : State) (w : FarWork) (a : NMap Int) : Fr 0x80008 s (stepsMade s w a).1 := by
  unfold stepsMade
  repeat' first
    | with_reducible apply Fr.refl | ((with_reducible apply sub_ok); exact rfl) | with_reducible apply Fr.ite
    | with_reducible apply Fr.post (startPhaseBank_fr ..) | with_reducible apply Fr.post (writeSwept_fr ..)
    | with_reducible dsimp only | with_reducible split

theorem writeStringRange_fr (s : State) (k : Nat) : Fr 0x1004e8 s (writeStringRange s k) := by
  unfold writeStringRange
  repeat' first
    | with_reducible apply Fr.refl | ((with_reducible apply sub_ok); exact rfl) | with_reducible apply Fr.ite
    | with_reducible apply Fr.post (putFar_fr ..) | with_reducible apply Fr.post (stlCfgWrite_fr ..) | with_reducible dsimp only
    | with_reducible split

theorem acceptAttempt_fr (s : State) (w : FarWork) (tr : Int) (a : NMap Int) (b : NMap Int) : Fr 0x1004e8 s (acceptAttempt s w tr a b) := by
  unfold acceptAttempt
  repeat' first
    | with_reducible apply Fr.refl | ((with_reducible apply sub_ok); exact rfl) | with_reducible apply Fr.ite
    | with_reducible apply Fr.post (setF_fr ..) | with_reducible apply Fr.post (bumpF_fr ..)
    | with_reducible apply Fr.post (putFar_fr ..) | with_reducible apply Fr.post (writeCorrections_fr ..)
    | with_reducible apply Fr.post (dequeue_fr ..) | with_reducible apply Fr.post (endWork_fr ..)
    | with_reducible apply Fr.post (writeStringRange_fr ..) | with_reducible apply Fr.post (restoreNodes_fr ..)
    | with_reducible apply Fr.post (releaseFar_fr ..) | with_reducible dsimp only | with_reducible split

theorem rejectAttempt_fr (s : State) (w : FarWork) (cause : Nat) (rms : Nat) (worst : Nat) : Fr 0x1004ec s (rejectAttempt s w cause rms worst) := by
  unfold rejectAttempt
  repeat' first
    | with_reducible apply Fr.refl | ((with_reducible apply sub_ok); exact rfl) | with_reducible apply Fr.ite
    | with_reducible apply Fr.post (setF_fr ..) | with_reducible apply Fr.post (bumpF_fr ..)
    | with_reducible apply Fr.post (raiseEv_fr ..) | with_reducible apply Fr.post (putStall_fr ..)
    | with_reducible apply Fr.post (putFar_fr ..) | with_reducible apply Fr.post (dequeue_fr ..)
    | with_reducible apply Fr.post (endWork_fr ..) | with_reducible apply Fr.post (putBack_fr ..)
    | with_reducible apply Fr.post (beginAttempt_fr ..) | with_reducible apply Fr.post (restoreNodes_fr ..)
    | with_reducible apply Fr.post (retireStall_fr ..) | with_reducible dsimp only | with_reducible split

theorem dropWork_fr (s : State) : Fr 0x180088 s (dropWork s) := by
  unfold dropWork
  repeat' first
    | with_reducible apply Fr.refl | ((with_reducible apply sub_ok); exact rfl) | with_reducible apply Fr.ite
    | with_reducible apply Fr.post (endWork_fr ..) | with_reducible apply Fr.post (startPhaseBank_fr ..)
    | with_reducible apply Fr.post (putBack_fr ..) | with_reducible apply Fr.post (restoreNodes_fr ..)
    | with_reducible apply Fr.post (letGo_fr ..) | with_reducible dsimp only | with_reducible split

theorem dropLaneWork_fr (s : State) (p : Nat) : Fr 0x500008 s (dropLaneWork s p) := by
  unfold dropLaneWork
  repeat' first
    | with_reducible apply Fr.refl | ((with_reducible apply sub_ok); exact rfl) | with_reducible apply Fr.ite
    | with_reducible apply Fr.post (putPort_fr ..) | with_reducible apply Fr.post (putFarPort_fr ..)
    | with_reducible apply Fr.post (setF_fr ..) | with_reducible dsimp only | with_reducible split

theorem farStops_fr (s : State) : Fr 0x180088 s (farStops s) := by
  unfold farStops
  repeat' first
    | with_reducible apply Fr.refl | ((with_reducible apply sub_ok); exact rfl) | with_reducible apply Fr.post (setF_fr ..)
    | with_reducible apply Fr.post (dropWork_fr ..) | with_reducible dsimp only

theorem farStop_fr (s : State) : Fr 0x580088 s (farStop s) := by
  unfold farStop
  repeat' first
    | with_reducible apply Fr.refl | with_reducible assumption | ((with_reducible apply sub_ok); exact rfl)
    | with_reducible apply Fr.ite | with_reducible apply Fr.post (setF_fr ..) | with_reducible apply Fr.post (dropLaneWork_fr ..)
    | with_reducible apply Fr.post (farStops_fr ..) | with_reducible refine Fr.foldl (fun _ _ _ => ?_) ?_
    | with_reducible refine Fr.foldl_fst (fun _ _ _ => ?_) ?_ | with_reducible dsimp only | with_reducible split

theorem farTick_fr (s : State) : Fr 0x18008c s (farTick s) := by
  unfold farTick
  repeat' first
    | with_reducible apply Fr.refl | ((with_reducible apply sub_ok); exact rfl) | with_reducible apply Fr.ite
    | with_reducible apply Fr.post (nextStep_fr ..) | with_reducible apply Fr.post (farStops_fr ..) | with_reducible dsimp only
    | with_reducible split

theorem oceTick_fr (s : State) : Fr 0xc s (oceTick s) := by
  unfold oceTick
  repeat' first
    | with_reducible apply Fr.refl | ((with_reducible apply sub_ok); exact rfl) | with_reducible apply Fr.ite
    | with_reducible apply Fr.post (bumpF_fr ..) | with_reducible apply Fr.post (drawn_fr ..) | with_reducible dsimp only
    | with_reducible split

theorem tick_fr (s : State) : Fr 0x18008e s (tick s) := by
  unfold tick
  repeat' first
    | with_reducible apply Fr.refl | ((with_reducible apply sub_ok); exact rfl) | with_reducible apply Fr.post (farTick_fr ..)
    | with_reducible apply Fr.post (oceTick_fr ..) | with_reducible dsimp only | with_reducible apply Fr.setTime

theorem readStallSet_fr (s : State) (k : Nat) : Fr 0x100020 s (readStallSet s k) := by
  unfold readStallSet
  repeat' first
    | with_reducible apply Fr.refl | ((with_reducible apply sub_ok); exact rfl) | with_reducible apply Fr.ite
    | with_reducible apply Fr.post (raiseEv_fr ..) | with_reducible apply Fr.post (putFar_fr ..) | with_reducible dsimp only
    | with_reducible split

theorem readPortSet_fr (s : State) (p : Nat) : Fr 0x100020 s (readPortSet s p) := by
  unfold readPortSet
  repeat' first
    | with_reducible apply Fr.refl | ((with_reducible apply sub_ok); exact rfl) | with_reducible apply Fr.ite
    | with_reducible apply Fr.post (putFarPort_fr ..) | with_reducible apply Fr.post (raiseEv_fr ..) | with_reducible dsimp only
    | with_reducible split

theorem readSets_fr (s : State) : Fr 0x100024 s (readSets s) := by
  unfold readSets
  repeat' first
    | with_reducible apply Fr.refl | with_reducible assumption | ((with_reducible apply sub_ok); exact rfl)
    | with_reducible apply Fr.ite | with_reducible apply Fr.post (drawn_fr ..) | with_reducible apply Fr.post (readStallSet_fr ..)
    | with_reducible apply Fr.post (readPortSet_fr ..) | with_reducible refine Fr.foldl (fun _ _ _ => ?_) ?_
    | with_reducible refine Fr.foldl_fst (fun _ _ _ => ?_) ?_ | with_reducible dsimp only | with_reducible split
    | with_reducible apply Fr.setFar

theorem farStart_fr (s : State) : Fr 0x1000ac s (farStart s) := by
  unfold farStart
  repeat' first
    | with_reducible apply Fr.refl | with_reducible assumption | ((with_reducible apply sub_ok); exact rfl)
    | with_reducible apply Fr.ite | with_reducible apply Fr.post (setF_fr ..) | with_reducible apply Fr.post (queueRun_fr ..)
    | with_reducible apply Fr.post (queueLane_fr ..) | with_reducible apply Fr.post (holdFar_fr ..)
    | with_reducible apply Fr.post (readSets_fr ..) | with_reducible refine Fr.foldl (fun _ _ _ => ?_) ?_
    | with_reducible refine Fr.foldl_fst (fun _ _ _ => ?_) ?_ | with_reducible dsimp only | with_reducible split

theorem farRunAll_fr (s : State) : Fr 0x100008 s (farRunAll s) := by
  unfold farRunAll
  repeat' first
    | with_reducible apply Fr.refl | with_reducible assumption | ((with_reducible apply sub_ok); exact rfl)
    | with_reducible apply Fr.post (queueRun_fr ..) | with_reducible apply Fr.post (queueLane_fr ..)
    | with_reducible refine Fr.foldl (fun _ _ _ => ?_) ?_ | with_reducible refine Fr.foldl_fst (fun _ _ _ => ?_) ?_
    | with_reducible dsimp only

theorem farCtrlWrite_fr (s : State) (start : Bool) (stop : Bool) (runall : Bool) : Fr 0x5800ac s (farCtrlWrite s start stop runall) := by
  unfold farCtrlWrite
  repeat' first
    | with_reducible apply Fr.refl | ((with_reducible apply sub_ok); exact rfl) | with_reducible apply Fr.ite
    | with_reducible apply Fr.post (farStop_fr ..) | with_reducible apply Fr.post (farStart_fr ..)
    | with_reducible apply Fr.post (farRunAll_fr ..) | with_reducible dsimp only | with_reducible split

theorem farStallCtrlWrite_fr (s : State) (k : Nat) (run : Bool) (release : Bool) : Fr 0x100088 s (farStallCtrlWrite s k run release) := by
  unfold farStallCtrlWrite
  repeat' first
    | with_reducible apply Fr.refl | ((with_reducible apply sub_ok); exact rfl) | with_reducible apply Fr.ite
    | with_reducible apply Fr.post (queueRun_fr ..) | with_reducible apply Fr.post (releaseFar_fr ..) | with_reducible dsimp only
    | with_reducible split

theorem farLaneRunWrite_fr (s : State) (p : Nat) (lanes : Nat) : Fr 0x100000 s (farLaneRunWrite s p lanes) := by
  unfold farLaneRunWrite
  repeat' first
    | with_reducible apply Fr.refl | with_reducible assumption | ((with_reducible apply sub_ok); exact rfl)
    | with_reducible apply Fr.post (queueLane_fr ..) | with_reducible refine Fr.foldl (fun _ _ _ => ?_) ?_
    | with_reducible refine Fr.foldl_fst (fun _ _ _ => ?_) ?_ | with_reducible dsimp only

theorem farCfgWrite_fr (s : State) (addr : Nat) (mask : Nat) (v : Nat) : Fr 0x28 s (farCfgWrite s addr mask v) := by
  unfold farCfgWrite
  repeat' first
    | with_reducible apply Fr.refl | ((with_reducible apply sub_ok); exact rfl) | with_reducible apply Fr.ite
    | with_reducible apply Fr.post (wrReg_fr ..) | with_reducible apply Fr.post (setF_fr ..)
    | with_reducible apply Fr.post (raiseEv_fr ..) | with_reducible dsimp only | with_reducible split

theorem farSpare_fr (s : State) (k : Nat) : Fr 0x100008 s (farSpare s k) := by
  unfold farSpare
  repeat' first
    | with_reducible apply Fr.refl | ((with_reducible apply sub_ok); exact rfl) | with_reducible apply Fr.post (putFar_fr ..)
    | with_reducible apply Fr.post (queueRun_fr ..) | with_reducible dsimp only

theorem storeStall_fr (s : State) (k : Nat) : Fr 0x100000 s (storeStall s k) := by
  unfold storeStall
  repeat' first
    | with_reducible apply Fr.refl | ((with_reducible apply sub_ok); exact rfl) | with_reducible apply Fr.ite
    | with_reducible apply Fr.post (putFar_fr ..) | with_reducible dsimp only | with_reducible split

theorem storePort_fr (s : State) (p : Nat) : Fr 0x100000 s (storePort s p) := by
  unfold storePort
  repeat' first
    | with_reducible apply Fr.refl | ((with_reducible apply sub_ok); exact rfl) | with_reducible apply Fr.ite
    | with_reducible apply Fr.post (putFarPort_fr ..) | with_reducible dsimp only | with_reducible split

theorem storeAll_fr (s : State) : Fr 0x100000 s (storeAll s) := by
  unfold storeAll
  repeat' first
    | with_reducible apply Fr.refl | with_reducible assumption | ((with_reducible apply sub_ok); exact rfl)
    | with_reducible apply Fr.post (storeStall_fr ..) | with_reducible apply Fr.post (storePort_fr ..)
    | with_reducible refine Fr.foldl (fun _ _ _ => ?_) ?_ | with_reducible refine Fr.foldl_fst (fun _ _ _ => ?_) ?_
    | with_reducible dsimp only

theorem writeLaneTrims_fr (s : State) (p : Nat) (j : Nat) (t : Int) : Fr 0x8 s (writeLaneTrims s p j t) := by
  unfold writeLaneTrims
  repeat' first
    | with_reducible apply Fr.refl | ((with_reducible apply sub_ok); exact rfl) | with_reducible apply Fr.post (setF_fr ..)
    | with_reducible dsimp only

theorem acceptLane_fr (s : State) (p : Nat) (j : Nat) (a : LaneMeas) (b : LaneMeas) : Fr 0x500008 s (acceptLane s p j a b) := by
  unfold acceptLane
  repeat' first
    | with_reducible apply Fr.refl | with_reducible assumption | ((with_reducible apply sub_ok); exact rfl)
    | with_reducible apply Fr.ite | with_reducible apply Fr.post (putPort_fr ..) | with_reducible apply Fr.post (putFarPort_fr ..)
    | with_reducible apply Fr.post (setF_fr ..) | with_reducible apply Fr.post (bumpF_fr ..)
    | with_reducible apply Fr.post (writeLaneTrims_fr ..) | with_reducible refine Fr.foldl (fun _ _ _ => ?_) ?_
    | with_reducible refine Fr.foldl_fst (fun _ _ _ => ?_) ?_ | with_reducible dsimp only | with_reducible split

theorem rejectLane_fr (s : State) (p : Nat) (j : Nat) : Fr 0x500028 s (rejectLane s p j) := by
  unfold rejectLane
  repeat' first
    | with_reducible apply Fr.refl | ((with_reducible apply sub_ok); exact rfl) | with_reducible apply Fr.ite
    | with_reducible apply Fr.post (putPort_fr ..) | with_reducible apply Fr.post (putFarPort_fr ..)
    | with_reducible apply Fr.post (setF_fr ..) | with_reducible apply Fr.post (bumpF_fr ..)
    | with_reducible apply Fr.post (raiseEv_fr ..) | with_reducible dsimp only | with_reducible split

end Sys2Proof.Machine
end

