-- ==== Sys2Proof/Laws/FrPowerBase.lean ====
section
/-! SUPPORT. What each operation of Machine/PowerBase.lean may touch, and that it keeps the invariant. -/
namespace Sys2Proof.Machine

theorem putDie_fr (s : State) (d : Nat) (x : Die) : Fr 0x200000 s (putDie s d x) := by
  unfold putDie
  repeat' first
    | with_reducible apply Fr.refl | ((with_reducible apply sub_ok); exact rfl) | with_reducible dsimp only
    | with_reducible apply Fr.setPwr

theorem carrierPassed_fr (s : State) (k : Nat) : Fr 0x200000 s (carrierPassed s k) := by
  unfold carrierPassed
  repeat' first
    | with_reducible apply Fr.refl | ((with_reducible apply sub_ok); exact rfl) | with_reducible apply Fr.ite
    | with_reducible apply Fr.post (putDie_fr ..) | with_reducible dsimp only | with_reducible split

theorem tripStallDone_fr (s : State) (k : Nat) : Fr 0x200080 s (tripStallDone s k) := by
  unfold tripStallDone
  repeat' first
    | with_reducible apply Fr.refl | ((with_reducible apply sub_ok); exact rfl) | with_reducible apply Fr.ite
    | with_reducible apply Fr.post (putDie_fr ..) | with_reducible apply Fr.post (releaseThm_fr ..) | with_reducible dsimp only
    | with_reducible split

end Sys2Proof.Machine
end

