-- ==== Sys2Proof/Laws/FrLightOps.lean ====
section
/-! SUPPORT. What each operation of Machine/LightOps.lean may touch, and that it keeps the invariant. -/
namespace Sys2Proof.Machine

theorem setComb_fr (s : State) (k : Nat) (v : Nat) : Fr 0x8 s (setComb s k v) := by
  unfold setComb
  repeat' first
    | with_reducible apply Fr.refl | ((with_reducible apply sub_ok); exact rfl) | with_reducible apply Fr.ite
    | with_reducible apply Fr.post (setF_fr ..) | with_reducible dsimp only | with_reducible split

theorem setHeater_fr (s : State) (r : Nat) (v : Int) : Fr 0x40008 s (setHeater s r v) := by
  unfold setHeater
  repeat' first
    | with_reducible apply Fr.refl | ((with_reducible apply sub_ok); exact rfl)
    | with_reducible apply Fr.post (trmCodeWrite_fr ..) | with_reducible dsimp only

theorem setPeak_fr (s : State) (r : Nat) (n : Nat) (v : Nat) : Fr 0x8 s (setPeak s r n v) := by
  unfold setPeak
  repeat' first
    | with_reducible apply Fr.refl | ((with_reducible apply sub_ok); exact rfl) | with_reducible apply Fr.ite
    | with_reducible apply Fr.post (setF_fr ..) | with_reducible dsimp only | with_reducible split

theorem checkRing_fr (s : State) (r : Nat) : Fr 0x20000 s (checkRing s r) := by
  unfold checkRing
  repeat' first
    | with_reducible apply Fr.refl | ((with_reducible apply sub_ok); exact rfl) | with_reducible apply Fr.ite
    | with_reducible dsimp only | with_reducible split | with_reducible apply Fr.setLight

theorem dropRing_fr (s : State) (r : Nat) : Fr 0x20000 s (dropRing s r) := by
  unfold dropRing
  repeat' first
    | with_reducible apply Fr.refl | ((with_reducible apply sub_ok); exact rfl) | with_reducible dsimp only
    | with_reducible apply Fr.setLight

theorem ringOut_fr (s : State) (r : Nat) : Fr 0x1000ac s (ringOut s r) := by
  unfold ringOut
  repeat' first
    | with_reducible apply Fr.refl | ((with_reducible apply sub_ok); exact rfl) | with_reducible apply Fr.ite
    | with_reducible apply Fr.post (setF_fr ..) | with_reducible apply Fr.post (holdLte_fr ..) | with_reducible dsimp only
    | with_reducible split

theorem setLine_fr (s : State) (r : Nat) (n : Nat) : Fr 0x8 s (setLine s r n) := by
  unfold setLine
  repeat' first
    | with_reducible apply Fr.refl | ((with_reducible apply sub_ok); exact rfl) | with_reducible apply Fr.ite
    | with_reducible apply Fr.post (setF_fr ..) | with_reducible dsimp only | with_reducible split

theorem attempt_fr (s : State) (r : Nat) (target : Int) (spare : Bool) (n : Nat) : Fr 0xe0008 s (attempt s r target spare n) := by
  unfold attempt
  repeat' first
    | with_reducible apply Fr.refl | ((with_reducible apply sub_ok); exact rfl) | with_reducible apply Fr.post (setFreeze_fr ..)
    | with_reducible apply Fr.post (setF_fr ..) | with_reducible apply Fr.post (setHeater_fr ..)
    | with_reducible apply Fr.post (checkRing_fr ..) | with_reducible apply Fr.post (dropRing_fr ..) | with_reducible dsimp only
    | with_reducible apply Fr.setLight

theorem takeSpare_fr (s : State) (k : Nat) : Fr 0x1e04ec s (takeSpare s k) := by
  unfold takeSpare
  repeat' first
    | with_reducible apply Fr.refl | ((with_reducible apply sub_ok); exact rfl) | with_reducible apply Fr.ite
    | with_reducible apply Fr.post (setF_fr ..) | with_reducible apply Fr.post (raiseEv_fr ..)
    | with_reducible apply Fr.post (setLine_fr ..) | with_reducible apply Fr.post (attempt_fr ..)
    | with_reducible apply Fr.post (farSpare_fr ..) | with_reducible apply Fr.post (retireStall_fr ..) | with_reducible dsimp only
    | with_reducible split

theorem ringFails_fr (s : State) (r : Nat) : Fr 0x3e04ec s (ringFails s r) := by
  unfold ringFails
  repeat' first
    | with_reducible apply Fr.refl | ((with_reducible apply sub_ok); exact rfl) | with_reducible apply Fr.ite
    | with_reducible apply Fr.post (tripStallDone_fr ..) | with_reducible apply Fr.post (setF_fr ..)
    | with_reducible apply Fr.post (bumpF_fr ..) | with_reducible apply Fr.post (raiseEv_fr ..)
    | with_reducible apply Fr.post (dropRing_fr ..) | with_reducible apply Fr.post (ringOut_fr ..)
    | with_reducible apply Fr.post (takeSpare_fr ..) | with_reducible dsimp only | with_reducible split

theorem lineOut_fr (s : State) (rs : List Nat) : Fr 0x1e04ec s (lineOut s rs) := by
  unfold lineOut
  repeat' first
    | with_reducible apply Fr.refl | with_reducible assumption | ((with_reducible apply sub_ok); exact rfl)
    | with_reducible apply Fr.post (ringOut_fr ..) | with_reducible apply Fr.post (takeSpare_fr ..)
    | with_reducible refine Fr.foldl (fun _ _ _ => ?_) ?_ | with_reducible refine Fr.foldl_fst (fun _ _ _ => ?_) ?_
    | with_reducible dsimp only

theorem lineLost_fr (s : State) (k : Nat) (n : Nat) : Fr 0x1e04ec s (lineLost s k n) := by
  unfold lineLost
  repeat' first
    | with_reducible apply Fr.refl | ((with_reducible apply sub_ok); exact rfl) | with_reducible apply Fr.ite
    | with_reducible apply Fr.post (bumpF_fr ..) | with_reducible apply Fr.post (raiseEv_fr ..)
    | with_reducible apply Fr.post (lineOut_fr ..) | with_reducible dsimp only | with_reducible split
    | with_reducible apply Fr.setLight

theorem lteCfgWrite_fr (s : State) (v : Nat) : Fr 0x1e04ec s (lteCfgWrite s v) := by
  unfold lteCfgWrite
  repeat' first
    | with_reducible apply Fr.refl | with_reducible assumption | ((with_reducible apply sub_ok); exact rfl)
    | with_reducible apply Fr.ite | with_reducible apply Fr.post (wrReg_fr ..) | with_reducible apply Fr.post (takeSpare_fr ..)
    | with_reducible refine Fr.foldl (fun _ _ _ => ?_) ?_ | with_reducible refine Fr.foldl_fst (fun _ _ _ => ?_) ?_
    | with_reducible dsimp only | with_reducible split

theorem recordCheck_fr (s : State) (r : Nat) (n : Nat) (p : PilotMeas) : Fr 0x8 s (recordCheck s r n p) := by
  unfold recordCheck
  repeat' first
    | with_reducible apply Fr.refl | ((with_reducible apply sub_ok); exact rfl) | with_reducible apply Fr.ite
    | with_reducible apply Fr.post (setF_fr ..) | with_reducible dsimp only | with_reducible split

theorem clearFault_fr (s : State) (i : Nat) : Fr 0x80008 s (clearFault s i) := by
  unfold clearFault
  repeat' first
    | with_reducible apply Fr.refl | ((with_reducible apply sub_ok); exact rfl) | with_reducible apply Fr.post (putLoop_fr ..)
    | with_reducible apply Fr.post (setFreeze_fr ..) | with_reducible apply Fr.post (setF_fr ..) | with_reducible dsimp only

theorem passFaults_fr (s : State) (r : Nat) : Fr 0x80008 s (passFaults s r) := by
  unfold passFaults
  repeat' first
    | with_reducible apply Fr.refl | with_reducible assumption | ((with_reducible apply sub_ok); exact rfl)
    | with_reducible apply Fr.post (clearFault_fr ..) | with_reducible refine Fr.foldl (fun _ _ _ => ?_) ?_
    | with_reducible refine Fr.foldl_fst (fun _ _ _ => ?_) ?_ | with_reducible dsimp only

theorem pilotPass_fr (s : State) (r : Nat) (n : Nat) : Fr 0x2a00a8 s (pilotPass s r n) := by
  unfold pilotPass
  repeat' first
    | with_reducible apply Fr.refl | ((with_reducible apply sub_ok); exact rfl) | with_reducible apply Fr.ite
    | with_reducible apply Fr.post (carrierPassed_fr ..) | with_reducible apply Fr.post (setFreeze_fr ..)
    | with_reducible apply Fr.post (setF_fr ..) | with_reducible apply Fr.post (bumpF_fr ..)
    | with_reducible apply Fr.post (raiseEv_fr ..) | with_reducible apply Fr.post (dropRing_fr ..)
    | with_reducible apply Fr.post (passFaults_fr ..) | with_reducible apply Fr.post (holdFar_fr ..)
    | with_reducible apply Fr.post (releaseLte_fr ..) | with_reducible dsimp only | with_reducible split

theorem attemptFails_fr (s : State) (r : Nat) (n : Nat) (o : PilotOut) : Fr 0x3e04ec s (attemptFails s r n o) := by
  unfold attemptFails
  repeat' first
    | with_reducible apply Fr.refl | ((with_reducible apply sub_ok); exact rfl) | with_reducible apply Fr.ite
    | with_reducible apply Fr.post (attempt_fr ..) | with_reducible apply Fr.post (ringFails_fr ..) | with_reducible dsimp only
    | with_reducible split

theorem pilotFails_fr (s : State) (r : Nat) (n : Nat) (o : PilotOut) : Fr 0x3e04ec s (pilotFails s r n o) := by
  unfold pilotFails
  repeat' first
    | with_reducible apply Fr.refl | ((with_reducible apply sub_ok); exact rfl) | with_reducible apply Fr.ite
    | with_reducible apply Fr.post (setF_fr ..) | with_reducible apply Fr.post (bumpF_fr ..)
    | with_reducible apply Fr.post (raiseEv_fr ..) | with_reducible apply Fr.post (ringOut_fr ..)
    | with_reducible apply Fr.post (attempt_fr ..) | with_reducible apply Fr.post (attemptFails_fr ..) | with_reducible dsimp only
    | with_reducible split

theorem pilotLost_fr (s : State) (r : Nat) (n : Nat) : Fr 0x3e04ec s (pilotLost s r n) := by
  unfold pilotLost
  repeat' first
    | with_reducible apply Fr.refl | ((with_reducible apply sub_ok); exact rfl) | with_reducible apply Fr.ite
    | with_reducible apply Fr.post (setF_fr ..) | with_reducible apply Fr.post (lineOut_fr ..)
    | with_reducible apply Fr.post (lineLost_fr ..) | with_reducible apply Fr.post (attemptFails_fr ..)
    | with_reducible dsimp only | with_reducible split

theorem passOnLost_fr (s : State) (r : Nat) (n : Nat) : Fr 0xa0008 s (passOnLost s r n) := by
  unfold passOnLost
  repeat' first
    | with_reducible apply Fr.refl | ((with_reducible apply sub_ok); exact rfl) | with_reducible apply Fr.post (setF_fr ..)
    | with_reducible apply Fr.post (dropRing_fr ..) | with_reducible apply Fr.post (passFaults_fr ..) | with_reducible dsimp only

theorem checkResult_fr (s : State) (r : Nat) (p : PilotMeas) : Fr 0x3e04ec s (checkResult s r p) := by
  unfold checkResult
  repeat' first
    | with_reducible apply Fr.refl | ((with_reducible apply sub_ok); exact rfl) | with_reducible apply Fr.ite
    | with_reducible apply Fr.post (recordCheck_fr ..) | with_reducible apply Fr.post (pilotPass_fr ..)
    | with_reducible apply Fr.post (pilotFails_fr ..) | with_reducible apply Fr.post (pilotLost_fr ..)
    | with_reducible apply Fr.post (passOnLost_fr ..) | with_reducible dsimp only | with_reducible split
    | with_reducible apply Fr.setLight

theorem writePeaks_fr (s : State) (r : Nat) (ps : List (Nat × Nat)) : Fr 0x8 s (writePeaks s r ps) := by
  unfold writePeaks
  repeat' first
    | with_reducible apply Fr.refl | with_reducible assumption | ((with_reducible apply sub_ok); exact rfl)
    | with_reducible apply Fr.post (setPeak_fr ..) | with_reducible refine Fr.foldl (fun _ _ _ => ?_) ?_
    | with_reducible refine Fr.foldl_fst (fun _ _ _ => ?_) ?_ | with_reducible dsimp only

theorem captureRing_fr (s : State) (r : Nat) : Fr 0xa0008 s (captureRing s r) := by
  unfold captureRing
  repeat' first
    | with_reducible apply Fr.refl | ((with_reducible apply sub_ok); exact rfl) | with_reducible apply Fr.post (setFreeze_fr ..)
    | with_reducible apply Fr.post (setF_fr ..) | with_reducible apply Fr.post (checkRing_fr ..) | with_reducible dsimp only

theorem sweepRing_fr (s : State) (r : Nat) (sws : List RingSweep) : Fr 0x3e04ec s (sweepRing s r sws) := by
  unfold sweepRing
  repeat' first
    | with_reducible apply Fr.refl | ((with_reducible apply sub_ok); exact rfl) | with_reducible apply Fr.ite
    | with_reducible apply Fr.post (setHeater_fr ..) | with_reducible apply Fr.post (setLine_fr ..)
    | with_reducible apply Fr.post (ringFails_fr ..) | with_reducible apply Fr.post (writePeaks_fr ..)
    | with_reducible apply Fr.post (captureRing_fr ..) | with_reducible dsimp only | with_reducible split

theorem holdAllCarriers_fr (s : State) : Fr 0x1000ac s (holdAllCarriers s) := by
  unfold holdAllCarriers
  repeat' first
    | with_reducible apply Fr.refl | with_reducible assumption | ((with_reducible apply sub_ok); exact rfl)
    | with_reducible apply Fr.post (holdLte_fr ..) | with_reducible apply Fr.post (releaseLte_fr ..)
    | with_reducible refine Fr.foldl (fun _ _ _ => ?_) ?_ | with_reducible refine Fr.foldl_fst (fun _ _ _ => ?_) ?_
    | with_reducible dsimp only

theorem allRingsOut_fr (s : State) : Fr 0x20008 s (allRingsOut s) := by
  unfold allRingsOut
  repeat' first
    | with_reducible apply Fr.refl | with_reducible assumption | ((with_reducible apply sub_ok); exact rfl)
    | with_reducible apply Fr.post (setF_fr ..) | with_reducible refine Fr.foldl (fun _ _ _ => ?_) ?_
    | with_reducible refine Fr.foldl_fst (fun _ _ _ => ?_) ?_ | with_reducible dsimp only | with_reducible apply Fr.setLight

theorem combEvent_fr (s : State) (k : Nat) (reason : Nat) (redist : Bool) : Fr 0x20 s (combEvent s k reason redist) := by
  unfold combEvent
  repeat' first
    | with_reducible apply Fr.refl | ((with_reducible apply sub_ok); exact rfl) | with_reducible apply Fr.post (raiseEv_fr ..)
    | with_reducible dsimp only

theorem startSequence_fr (s : State) (lock0 : Bool) (lock1 : Bool) (sws : List RingSweep) : Fr 0x7e04ec s (startSequence s lock0 lock1 sws) := by
  unfold startSequence
  repeat' first
    | with_reducible apply Fr.refl | with_reducible assumption | ((with_reducible apply sub_ok); exact rfl)
    | with_reducible apply Fr.ite | with_reducible apply Fr.post (portDark_fr ..) | with_reducible apply Fr.post (setF_fr ..)
    | with_reducible apply Fr.post (setComb_fr ..) | with_reducible apply Fr.post (sweepRing_fr ..)
    | with_reducible apply Fr.post (holdAllCarriers_fr ..) | with_reducible apply Fr.post (allRingsOut_fr ..)
    | with_reducible apply Fr.post (combEvent_fr ..) | with_reducible refine Fr.foldl (fun _ _ _ => ?_) ?_
    | with_reducible refine Fr.foldl_fst (fun _ _ _ => ?_) ?_ | with_reducible dsimp only | with_reducible split
    | with_reducible apply Fr.setLight

theorem assignWrite_fr (s : State) (lock0 : Bool) (lock1 : Bool) (sws : List RingSweep) : Fr 0x7e04ec s (assignWrite s lock0 lock1 sws) := by
  unfold assignWrite
  repeat' first
    | with_reducible apply Fr.refl | ((with_reducible apply sub_ok); exact rfl) | with_reducible apply Fr.ite
    | with_reducible apply Fr.post (startSequence_fr ..) | with_reducible dsimp only | with_reducible split

theorem relightWrite_fr (s : State) (lock0 : Bool) (lock1 : Bool) (sws : List RingSweep) : Fr 0x7e04ec s (relightWrite s lock0 lock1 sws) := by
  unfold relightWrite
  repeat' first
    | with_reducible apply Fr.refl | ((with_reducible apply sub_ok); exact rfl) | with_reducible apply Fr.ite
    | with_reducible apply Fr.post (startSequence_fr ..) | with_reducible dsimp only | with_reducible split

theorem goDark_fr (s : State) : Fr 0x5a00ac s (goDark s) := by
  unfold goDark
  repeat' first
    | with_reducible apply Fr.refl | with_reducible assumption | ((with_reducible apply sub_ok); exact rfl)
    | with_reducible apply Fr.post (portDark_fr ..) | with_reducible apply Fr.post (setFreeze_fr ..)
    | with_reducible apply Fr.post (setF_fr ..) | with_reducible apply Fr.post (setComb_fr ..)
    | with_reducible apply Fr.post (allRingsOut_fr ..) | with_reducible apply Fr.post (storeAll_fr ..)
    | with_reducible apply Fr.post (holdLte_fr ..) | with_reducible refine Fr.foldl (fun _ _ _ => ?_) ?_
    | with_reducible refine Fr.foldl_fst (fun _ _ _ => ?_) ?_ | with_reducible dsimp only | with_reducible apply Fr.setLight

theorem recapture_fr (s : State) (rs : List Nat) : Fr 0xa0008 s (recapture s rs) := by
  unfold recapture
  repeat' first
    | with_reducible apply Fr.refl | with_reducible assumption | ((with_reducible apply sub_ok); exact rfl)
    | with_reducible apply Fr.post (captureRing_fr ..) | with_reducible refine Fr.foldl (fun _ _ _ => ?_) ?_
    | with_reducible refine Fr.foldl_fst (fun _ _ _ => ?_) ?_ | with_reducible dsimp only

theorem carrierBack_fr (s : State) (k : Nat) : Fr 0x40008 s (carrierBack s k) := by
  unfold carrierBack
  repeat' first
    | with_reducible apply Fr.refl | ((with_reducible apply sub_ok); exact rfl) | with_reducible apply Fr.ite
    | with_reducible apply Fr.post (setHeater_fr ..) | with_reducible apply Fr.post (setLine_fr ..) | with_reducible dsimp only
    | with_reducible split

theorem combFails_fr (s : State) (k : Nat) (reason : Nat) : Fr 0x5a00ac s (combFails s k reason) := by
  unfold combFails
  repeat' first
    | with_reducible apply Fr.refl | with_reducible assumption | ((with_reducible apply sub_ok); exact rfl)
    | with_reducible apply Fr.ite | with_reducible apply Fr.post (portDark_fr ..) | with_reducible apply Fr.post (setComb_fr ..)
    | with_reducible apply Fr.post (allRingsOut_fr ..) | with_reducible apply Fr.post (combEvent_fr ..)
    | with_reducible apply Fr.post (recapture_fr ..) | with_reducible apply Fr.post (holdLte_fr ..)
    | with_reducible apply Fr.post (releaseLte_fr ..) | with_reducible refine Fr.foldl (fun _ _ _ => ?_) ?_
    | with_reducible refine Fr.foldl_fst (fun _ _ _ => ?_) ?_ | with_reducible dsimp only | with_reducible split
    | with_reducible apply Fr.setLight

theorem redistSettled_fr (s : State) : Fr 0x1a00ac s (redistSettled s) := by
  unfold redistSettled
  repeat' first
    | with_reducible apply Fr.refl | ((with_reducible apply sub_ok); exact rfl) | with_reducible apply Fr.ite
    | with_reducible apply Fr.post (setF_fr ..) | with_reducible apply Fr.post (holdAllCarriers_fr ..)
    | with_reducible apply Fr.post (recapture_fr ..) | with_reducible dsimp only | with_reducible split
    | with_reducible apply Fr.setLight

theorem restoreWrite_fr (s : State) (pass0 : Bool) (pass1 : Bool) : Fr 0x1e00ac s (restoreWrite s pass0 pass1) := by
  unfold restoreWrite
  repeat' first
    | with_reducible apply Fr.refl | with_reducible assumption | ((with_reducible apply sub_ok); exact rfl)
    | with_reducible apply Fr.ite | with_reducible apply Fr.post (setF_fr ..) | with_reducible apply Fr.post (setComb_fr ..)
    | with_reducible apply Fr.post (holdAllCarriers_fr ..) | with_reducible apply Fr.post (allRingsOut_fr ..)
    | with_reducible apply Fr.post (recapture_fr ..) | with_reducible apply Fr.post (carrierBack_fr ..)
    | with_reducible refine Fr.foldl (fun _ _ _ => ?_) ?_ | with_reducible refine Fr.foldl_fst (fun _ _ _ => ?_) ?_
    | with_reducible dsimp only | with_reducible split | with_reducible apply Fr.setLight

theorem ringStop_fr (s : State) (r : Nat) : Fr 0x1a00ac s (ringStop s r) := by
  unfold ringStop
  repeat' first
    | with_reducible apply Fr.refl | ((with_reducible apply sub_ok); exact rfl) | with_reducible apply Fr.post (setFreeze_fr ..)
    | with_reducible apply Fr.post (setF_fr ..) | with_reducible apply Fr.post (dropRing_fr ..)
    | with_reducible apply Fr.post (ringOut_fr ..) | with_reducible dsimp only

theorem ringStart_fr (s : State) (r : Nat) : Fr 0xe0008 s (ringStart s r) := by
  unfold ringStart
  repeat' first
    | with_reducible apply Fr.refl | ((with_reducible apply sub_ok); exact rfl) | with_reducible apply Fr.ite
    | with_reducible apply Fr.post (attempt_fr ..) | with_reducible dsimp only | with_reducible split

theorem ringRecheck_fr (s : State) (r : Nat) : Fr 0x20000 s (ringRecheck s r) := by
  unfold ringRecheck
  repeat' first
    | with_reducible apply Fr.refl | ((with_reducible apply sub_ok); exact rfl) | with_reducible apply Fr.ite
    | with_reducible apply Fr.post (checkRing_fr ..) | with_reducible dsimp only | with_reducible split

theorem ringCtrlWrite_fr (s : State) (r : Nat) (stop : Bool) (start : Bool) (recheck : Bool) : Fr 0x1e00ac s (ringCtrlWrite s r stop start recheck) := by
  unfold ringCtrlWrite
  repeat' first
    | with_reducible apply Fr.refl | ((with_reducible apply sub_ok); exact rfl) | with_reducible apply Fr.ite
    | with_reducible apply Fr.post (ringStop_fr ..) | with_reducible apply Fr.post (ringStart_fr ..)
    | with_reducible apply Fr.post (ringRecheck_fr ..) | with_reducible dsimp only | with_reducible split

theorem ringCfgWrite_fr (s : State) (r : Nat) (v : Nat) : Fr 0x28 s (ringCfgWrite s r v) := by
  unfold ringCfgWrite
  repeat' first
    | with_reducible apply Fr.refl | ((with_reducible apply sub_ok); exact rfl) | with_reducible apply Fr.ite
    | with_reducible apply Fr.post (setF_fr ..) | with_reducible apply Fr.post (raiseEv_fr ..)
    | with_reducible apply Fr.post (setLine_fr ..) | with_reducible dsimp only | with_reducible split

theorem checkDie_fr (s : State) (d : Nat) : Fr 0x20000 s (checkDie s d) := by
  unfold checkDie
  repeat' first
    | with_reducible apply Fr.refl | ((with_reducible apply sub_ok); exact rfl) | with_reducible apply Fr.ite
    | with_reducible dsimp only | with_reducible split | with_reducible apply Fr.setLight

theorem setWide_fr (s : State) (v : Nat) : Fr 0x20008 s (setWide s v) := by
  unfold setWide
  repeat' first
    | with_reducible apply Fr.refl | with_reducible assumption | ((with_reducible apply sub_ok); exact rfl)
    | with_reducible apply Fr.post (setF_fr ..) | with_reducible apply Fr.post (checkDie_fr ..)
    | with_reducible refine Fr.foldl (fun _ _ _ => ?_) ?_ | with_reducible refine Fr.foldl_fst (fun _ _ _ => ?_) ?_
    | with_reducible dsimp only

end Sys2Proof.Machine
end

