-- ==== Sys2Proof/Laws/FrLoftOps.lean ====
section
/-! SUPPORT. What each operation of Machine/LoftOps.lean may touch, and that it keeps the invariant. -/
namespace Sys2Proof.Machine

theorem putHost_fr (s : State) (c : Nat) (x : HChan) : Fr 0x10000 s (putHost s c x) :=
  Fr.setHost _ rfl (nmWf_put _ _ _ _) (Fr.refl _ _)

theorem finishCmd_fr (s : State) (c : Nat) (id : Nat) (status : Nat) (result : Nat) : Fr 0x10000 s (finishCmd s c id status result) := by
  unfold finishCmd
  repeat' first
    | with_reducible apply Fr.refl | ((with_reducible apply sub_ok); exact rfl) | with_reducible apply Fr.ite
    | with_reducible apply Fr.post (putHost_fr ..) | with_reducible dsimp only | with_reducible split

theorem baySet_fr (s : State) (y : Nat) (st : Nat) : Fr 0xc028 s (baySet s y st) := by
  unfold baySet
  repeat' first
    | with_reducible apply Fr.refl | ((with_reducible apply sub_ok); exact rfl) | with_reducible apply Fr.ite
    | with_reducible apply Fr.post (setF_fr ..) | with_reducible apply Fr.post (raiseEv_fr ..)
    | with_reducible apply Fr.post (putBay_fr ..) | with_reducible apply Fr.post (loftRefuse_fr ..)
    | with_reducible apply Fr.post (emptyBay_fr ..) | with_reducible apply Fr.post (faultBay_fr ..) | with_reducible dsimp only
    | with_reducible split | with_reducible apply Fr.setLoft

theorem raiseFloor_fr (s : State) (slot : Nat) (model : Nat) (v : Nat) : Fr 0x4000 s (raiseFloor s slot model v) := by
  unfold raiseFloor
  repeat' first
    | with_reducible apply Fr.refl | ((with_reducible apply sub_ok); exact rfl) | with_reducible apply Fr.ite
    | with_reducible dsimp only | with_reducible split | with_reducible apply Fr.setLoft

theorem loftSwitch_fr (s : State) (y : Nat) : Fr 0x4028 s (loftSwitch s y).1 := by
  unfold loftSwitch
  repeat' first
    | with_reducible apply Fr.refl | ((with_reducible apply sub_ok); exact rfl) | with_reducible apply Fr.ite
    | with_reducible apply Fr.post (setF_fr ..) | with_reducible apply Fr.post (raiseEv_fr ..)
    | with_reducible apply Fr.post (loftRefuse_fr ..) | with_reducible apply Fr.post (emptyBay_fr ..)
    | with_reducible apply Fr.post (raiseFloor_fr ..) | with_reducible dsimp only | with_reducible split

theorem recordBuild_fr (s : State) (y : Nat) (desc : Nat) (set : LoftSet) : Fr 0xf82c s (recordBuild s y desc set) := by
  unfold recordBuild
  repeat' first
    | with_reducible apply Fr.refl | with_reducible assumption | ((with_reducible apply sub_ok); exact rfl)
    | with_reducible apply Fr.post (setF_fr ..) | with_reducible apply Fr.post (showBytes_fr ..)
    | with_reducible apply Fr.post (writeEntry_fr ..) | with_reducible apply Fr.post (settle_fr ..)
    | with_reducible refine Fr.foldl (fun _ _ _ => ?_) ?_ | with_reducible refine Fr.foldl_fst (fun _ _ _ => ?_) ?_
    | with_reducible dsimp only

theorem readRange_fr (s : State) (a : Nat) (n : Nat) : Fr 0xf82c s (readRange s a n).1 := by
  unfold readRange
  repeat' first
    | with_reducible apply Fr.refl | with_reducible assumption | ((with_reducible apply sub_ok); exact rfl)
    | with_reducible apply Fr.ite | with_reducible apply Fr.post (memRead_fr ..)
    | with_reducible refine Fr.foldl (fun _ _ _ => ?_) ?_ | with_reducible refine Fr.foldl_fst (fun _ _ _ => ?_) ?_
    | with_reducible dsimp only | with_reducible split

theorem writeRange_fr (s : State) (a : Nat) (bs : List Nat) : Fr 0xf82c s (writeRange s a bs).1 := by
  unfold writeRange
  repeat' first
    | with_reducible apply Fr.refl | with_reducible assumption | ((with_reducible apply sub_ok); exact rfl)
    | with_reducible apply Fr.ite | with_reducible apply Fr.post (memWriteBytes_fr ..)
    | with_reducible refine Fr.foldl (fun _ _ _ => ?_) ?_ | with_reducible refine Fr.foldl_fst (fun _ _ _ => ?_) ?_
    | with_reducible dsimp only | with_reducible split

theorem copyChunk_fr (s : State) (src : Nat) (c : ChunkRec) (bands : List BandPlace) : Fr 0xf82c s (copyChunk s src c bands) := by
  unfold copyChunk
  repeat' first
    | with_reducible apply Fr.refl | with_reducible assumption | ((with_reducible apply sub_ok); exact rfl)
    | with_reducible apply Fr.ite | with_reducible apply Fr.post (copyBursts_fr ..) | with_reducible apply Fr.post (settle_fr ..)
    | with_reducible refine Fr.foldl (fun _ _ _ => ?_) ?_ | with_reducible refine Fr.foldl_fst (fun _ _ _ => ?_) ?_
    | with_reducible dsimp only | with_reducible split

theorem endPiece_fr (s : State) (x : StagedChunk) (status : Nat) (cause : Nat) (mism : Nat) : Fr 0x10000 s (endPiece s x status cause mism) := by
  unfold endPiece
  repeat' first
    | with_reducible apply Fr.refl | ((with_reducible apply sub_ok); exact rfl) | with_reducible apply Fr.ite
    | with_reducible apply Fr.post (finishCmd_fr ..) | with_reducible dsimp only | with_reducible split

theorem finishBuild_fr (s : State) : Fr 0xc028 s (finishBuild s) := by
  unfold finishBuild
  repeat' first
    | with_reducible apply Fr.refl | ((with_reducible apply sub_ok); exact rfl) | with_reducible apply Fr.ite
    | with_reducible apply Fr.post (setF_fr ..) | with_reducible apply Fr.post (putBay_fr ..)
    | with_reducible apply Fr.post (failBuild_fr ..) | with_reducible apply Fr.post (baySet_fr ..) | with_reducible dsimp only
    | with_reducible split | with_reducible apply Fr.setLoft

theorem setMismatches_fr (s : State) (x : StagedChunk) (m : Nat) : Fr 0x4000 s (setMismatches s x m) := by
  unfold setMismatches
  repeat' first
    | with_reducible apply Fr.refl | ((with_reducible apply sub_ok); exact rfl) | with_reducible apply Fr.ite
    | with_reducible dsimp only | with_reducible split | with_reducible apply Fr.setLoft

theorem digestCheck_fr (s : State) (x : StagedChunk) : Fr 0x1f82c s (digestCheck s x) := by
  unfold digestCheck
  repeat' first
    | with_reducible apply Fr.refl | ((with_reducible apply sub_ok); exact rfl) | with_reducible apply Fr.ite
    | with_reducible apply Fr.post (setF_fr ..) | with_reducible apply Fr.post (raiseEv_fr ..)
    | with_reducible apply Fr.post (failBuild_fr ..) | with_reducible apply Fr.post (readRange_fr ..)
    | with_reducible apply Fr.post (copyChunk_fr ..) | with_reducible apply Fr.post (endPiece_fr ..)
    | with_reducible apply Fr.post (finishBuild_fr ..) | with_reducible apply Fr.post (setMismatches_fr ..)
    | with_reducible dsimp only | with_reducible split | with_reducible apply Fr.setLoft

theorem freeMigrated_fr (s : State) : Fr 0x4000 s (freeMigrated s) := by
  unfold freeMigrated
  repeat' first
    | with_reducible apply Fr.refl | ((with_reducible apply sub_ok); exact rfl) | with_reducible dsimp only
    | with_reducible apply Fr.setLoft

end Sys2Proof.Machine
end

