-- ==== Sys2Proof/Laws/FrDroveOps.lean ====
section
/-! SUPPORT. What each operation of Machine/DroveOps.lean may touch, and that it keeps the invariant. -/
namespace Sys2Proof.Machine

theorem readLoose_fr (s : State) (a : Nat) (n : Nat) : Fr 0xf82c s (readLoose s a n).1 := by
  unfold readLoose
  repeat' first
    | with_reducible apply Fr.refl | with_reducible assumption | ((with_reducible apply sub_ok); exact rfl)
    | with_reducible apply Fr.ite | with_reducible apply Fr.post (drawn_fr ..) | with_reducible apply Fr.post (memRead_fr ..)
    | with_reducible refine Fr.foldl (fun _ _ _ => ?_) ?_ | with_reducible refine Fr.foldl_fst (fun _ _ _ => ?_) ?_
    | with_reducible dsimp only | with_reducible split

theorem sqArm_fr (s : State) (p : Nat) (addr : Nat) : Fr 0x40f82c s (sqArm s p addr) := by
  unfold sqArm
  repeat' first
    | with_reducible apply Fr.refl | ((with_reducible apply sub_ok); exact rfl) | with_reducible apply Fr.ite
    | with_reducible apply Fr.post (putPort_fr ..) | with_reducible apply Fr.post (countSq_fr ..)
    | with_reducible apply Fr.post (readLoose_fr ..) | with_reducible apply Fr.post (setF_fr ..)
    | with_reducible apply Fr.post (addF_fr ..) | with_reducible dsimp only | with_reducible split

theorem dataFrame_fr (s : State) (p : Nat) (lane : Nat) (o : Outgoing) (i : Nat) (retry : Bool) : Fr 0xf82c s (dataFrame s p lane o i retry).1 := by
  unfold dataFrame
  repeat' first
    | with_reducible apply Fr.refl | ((with_reducible apply sub_ok); exact rfl) | with_reducible apply Fr.ite
    | with_reducible apply Fr.post (readLoose_fr ..) | with_reducible dsimp only | with_reducible split

theorem placeOn_fr (s : State) (p : Nat) (lane : Nat) : Fr 0x40f82c s (placeOn s p lane) := by
  unfold placeOn
  repeat' first
    | with_reducible apply Fr.refl | ((with_reducible apply sub_ok); exact rfl) | with_reducible apply Fr.ite
    | with_reducible apply Fr.post (putPort_fr ..) | with_reducible apply Fr.post (countSq_fr ..)
    | with_reducible apply Fr.post (dataFrame_fr ..) | with_reducible apply Fr.post (bumpF_fr ..)
    | with_reducible apply Fr.post (addF_fr ..) | with_reducible dsimp only | with_reducible split

theorem idleAir_fr (s : State) (p : Nat) (kind : Nat) (lane : Nat) : Fr 0x400000 s (idleAir s p kind lane) := by
  unfold idleAir
  repeat' first
    | with_reducible apply Fr.refl | ((with_reducible apply sub_ok); exact rfl) | with_reducible apply Fr.ite
    | with_reducible apply Fr.post (putPort_fr ..) | with_reducible dsimp only | with_reducible split

theorem fillKeys_fr (s : State) (p : Nat) : Fr 0x400000 s (fillKeys s p) := by
  unfold fillKeys
  repeat' first
    | with_reducible apply Fr.refl | ((with_reducible apply sub_ok); exact rfl) | with_reducible apply Fr.ite
    | with_reducible apply Fr.post (putPort_fr ..) | with_reducible dsimp only | with_reducible split

theorem c0Direct_fr (s : State) (p : Nat) (fs : List C0Frame) : Fr 0x400000 s (c0Direct s p fs) := by
  unfold c0Direct
  repeat' first
    | with_reducible apply Fr.refl | ((with_reducible apply sub_ok); exact rfl) | with_reducible apply Fr.post (putPort_fr ..)
    | with_reducible dsimp only

theorem c0Send_fr (s : State) (p : Nat) (slots : List (Nat × Nat)) : Fr 0x400008 s (c0Send s p slots) := by
  unfold c0Send
  repeat' first
    | with_reducible apply Fr.refl | ((with_reducible apply sub_ok); exact rfl) | with_reducible apply Fr.ite
    | with_reducible apply Fr.post (putPort_fr ..) | with_reducible apply Fr.post (fillKeys_fr ..)
    | with_reducible apply Fr.post (setF_fr ..) | with_reducible apply Fr.post (bumpF_fr ..) | with_reducible dsimp only
    | with_reducible split

theorem c0SendOnly_fr (s : State) (p : Nat) (adm : Bool) (slots : List (Nat × Nat)) : Fr 0x400008 s (c0SendOnly s p adm slots) := by
  unfold c0SendOnly
  repeat' first
    | with_reducible apply Fr.refl | ((with_reducible apply sub_ok); exact rfl) | with_reducible apply Fr.ite
    | with_reducible apply Fr.post (putPort_fr ..) | with_reducible apply Fr.post (c0Send_fr ..)
    | with_reducible apply Fr.post (setF_fr ..) | with_reducible dsimp only | with_reducible split

theorem c0Own_fr (s : State) (p : Nat) (dst : Nat) (type : Nat) (payload : List Nat) : Fr 0x400000 s (c0Own s p dst type payload) := by
  unfold c0Own
  repeat' first
    | with_reducible apply Fr.refl | ((with_reducible apply sub_ok); exact rfl) | with_reducible apply Fr.post (putPort_fr ..)
    | with_reducible dsimp only

theorem c0Arm_fr (s : State) (p : Nat) (addr : Nat) : Fr 0x40f82c s (c0Arm s p addr) := by
  unfold c0Arm
  repeat' first
    | with_reducible apply Fr.refl | ((with_reducible apply sub_ok); exact rfl) | with_reducible apply Fr.ite
    | with_reducible apply Fr.post (putPort_fr ..) | with_reducible apply Fr.post (readLoose_fr ..)
    | with_reducible apply Fr.post (setF_fr ..) | with_reducible dsimp only | with_reducible split

theorem c0Ring_fr (s : State) (p : Nat) (f : C0Frame) : Fr 0xf82c s (c0Ring s p f) := by
  unfold c0Ring
  repeat' first
    | with_reducible apply Fr.refl | ((with_reducible apply sub_ok); exact rfl) | with_reducible apply Fr.ite
    | with_reducible apply Fr.post (bumpF_fr ..) | with_reducible apply Fr.post (addF_fr ..)
    | with_reducible apply Fr.post (writeRange_fr ..) | with_reducible dsimp only | with_reducible split

theorem stranger_fr (s : State) (p : Nat) : Fr 0x400028 s (stranger s p) := by
  unfold stranger
  repeat' first
    | with_reducible apply Fr.refl | ((with_reducible apply sub_ok); exact rfl) | with_reducible apply Fr.ite
    | with_reducible apply Fr.post (putPort_fr ..) | with_reducible apply Fr.post (setF_fr ..)
    | with_reducible apply Fr.post (bumpF_fr ..) | with_reducible apply Fr.post (raiseEv_fr ..) | with_reducible dsimp only
    | with_reducible split

theorem countErrors_fr (s : State) (p : Nat) (lane : Nat) (errs : List Nat) : Fr 0x400008 s (countErrors s p lane errs) := by
  unfold countErrors
  repeat' first
    | with_reducible apply Fr.refl | ((with_reducible apply sub_ok); exact rfl) | with_reducible apply Fr.post (putPort_fr ..)
    | with_reducible apply Fr.post (setF_fr ..) | with_reducible apply Fr.post (bumpF_fr ..)
    | with_reducible apply Fr.post (addF_fr ..) | with_reducible dsimp only

theorem oweAck_fr (s : State) (p : Nat) (dst : Nat) (frame : Nat) (lane : Nat) (status : Nat) : Fr 0x400000 s (oweAck s p dst frame lane status) := by
  unfold oweAck
  repeat' first
    | with_reducible apply Fr.refl | ((with_reducible apply sub_ok); exact rfl) | with_reducible apply Fr.post (putPort_fr ..)
    | with_reducible dsimp only

theorem oweC0Ack_fr (s : State) (p : Nat) (f : C0Frame) : Fr 0x400000 s (oweC0Ack s p f) := by
  unfold oweC0Ack
  repeat' first
    | with_reducible apply Fr.refl | ((with_reducible apply sub_ok); exact rfl) | with_reducible apply Fr.ite
    | with_reducible apply Fr.post (oweAck_fr ..) | with_reducible dsimp only | with_reducible split

theorem windowRefuses_fr (s : State) (p : Nat) (f : DataFrame) : Fr 0x400028 s (windowRefuses s p f) := by
  unfold windowRefuses
  repeat' first
    | with_reducible apply Fr.refl | ((with_reducible apply sub_ok); exact rfl) | with_reducible apply Fr.ite
    | with_reducible apply Fr.post (putPort_fr ..) | with_reducible apply Fr.post (oweAck_fr ..)
    | with_reducible apply Fr.post (setF_fr ..) | with_reducible apply Fr.post (bumpF_fr ..)
    | with_reducible apply Fr.post (raiseEv_fr ..) | with_reducible dsimp only | with_reducible split

theorem writeLines_fr (s : State) (a : Nat) (a0 : Nat) (a1 : List Nat) : Fr 0xf82c s (writeLines s a a0 a1) := by
  induction a0 generalizing s a a1
  · unfold writeLines
    repeat' first
      | with_reducible apply Fr.refl | ((with_reducible apply sub_ok); exact rfl) | with_reducible apply Fr.ite
      | with_reducible apply Fr.post (memWriteBytes_fr ..) | with_reducible dsimp only | with_reducible split
  · rename_i ih
    unfold writeLines
    repeat' first
      | with_reducible apply Fr.post (ih ..) | with_reducible apply Fr.refl | ((with_reducible apply sub_ok); exact rfl)
      | with_reducible apply Fr.ite | with_reducible apply Fr.post (memWriteBytes_fr ..) | with_reducible dsimp only
      | with_reducible split

theorem takeFrame_fr (s : State) (p : Nat) (f : DataFrame) : Fr 0x40f82c s (takeFrame s p f) := by
  unfold takeFrame
  repeat' first
    | with_reducible apply Fr.refl | ((with_reducible apply sub_ok); exact rfl) | with_reducible apply Fr.ite
    | with_reducible apply Fr.post (putPort_fr ..) | with_reducible apply Fr.post (oweAck_fr ..)
    | with_reducible apply Fr.post (windowRefuses_fr ..) | with_reducible apply Fr.post (writeLines_fr ..)
    | with_reducible apply Fr.post (addF_fr ..) | with_reducible dsimp only | with_reducible split

theorem receiveData_fr (s : State) (p : Nat) (f : DataFrame) (tagOk : Bool) (errs : List Nat) : Fr 0x40f82c s (receiveData s p f tagOk errs) := by
  unfold receiveData
  repeat' first
    | with_reducible apply Fr.refl | ((with_reducible apply sub_ok); exact rfl) | with_reducible apply Fr.ite
    | with_reducible apply Fr.post (stranger_fr ..) | with_reducible apply Fr.post (countErrors_fr ..)
    | with_reducible apply Fr.post (takeFrame_fr ..) | with_reducible dsimp only | with_reducible split

theorem resend_fr (s : State) (p : Nat) (num : Nat) (i : Nat) : Fr 0x400028 s (resend s p num i) := by
  unfold resend
  repeat' first
    | with_reducible apply Fr.refl | ((with_reducible apply sub_ok); exact rfl) | with_reducible apply Fr.ite
    | with_reducible apply Fr.post (putPort_fr ..) | with_reducible apply Fr.post (failFlight_fr ..) | with_reducible dsimp only
    | with_reducible split

theorem ackEntry_fr (src : Nat) (p : Nat) (s : State) (e : AckEntry) : Fr 0x400028 s (ackEntry src p s e) := by
  unfold ackEntry
  repeat' first
    | with_reducible apply Fr.refl | ((with_reducible apply sub_ok); exact rfl) | with_reducible apply Fr.ite
    | with_reducible apply Fr.post (putPort_fr ..) | with_reducible apply Fr.post (failFlight_fr ..)
    | with_reducible apply Fr.post (resend_fr ..) | with_reducible dsimp only | with_reducible split

theorem openEpoch_fr (s : State) (p : Nat) (reason : Nat) : Fr 0x400004 s (openEpoch s p reason) := by
  unfold openEpoch
  repeat' first
    | with_reducible apply Fr.refl | ((with_reducible apply sub_ok); exact rfl) | with_reducible apply Fr.ite
    | with_reducible apply Fr.post (putPort_fr ..) | with_reducible apply Fr.post (c0Own_fr ..)
    | with_reducible apply Fr.post (drawn_fr ..) | with_reducible dsimp only | with_reducible split

theorem laterEpoch_fr (s : State) (p : Nat) : Fr 0x400004 s (laterEpoch s p) := by
  unfold laterEpoch
  repeat' first
    | with_reducible apply Fr.refl | ((with_reducible apply sub_ok); exact rfl) | with_reducible apply Fr.ite
    | with_reducible apply Fr.post (putPort_fr ..) | with_reducible apply Fr.post (openEpoch_fr ..) | with_reducible dsimp only
    | with_reducible split

theorem epochDue_fr (s : State) (p : Nat) : Fr 0x40002c s (epochDue s p) := by
  unfold epochDue
  repeat' first
    | with_reducible apply Fr.refl | ((with_reducible apply sub_ok); exact rfl) | with_reducible apply Fr.ite
    | with_reducible apply Fr.post (putPort_fr ..) | with_reducible apply Fr.post (laterEpoch_fr ..)
    | with_reducible apply Fr.post (setF_fr ..) | with_reducible apply Fr.post (raiseEv_fr ..) | with_reducible dsimp only
    | with_reducible split

theorem beginLead_fr (s : State) (p : Nat) (i : Nat) : Fr 0x40000c s (beginLead s p i) := by
  unfold beginLead
  repeat' first
    | with_reducible apply Fr.refl | ((with_reducible apply sub_ok); exact rfl) | with_reducible apply Fr.ite
    | with_reducible apply Fr.post (openEpoch_fr ..) | with_reducible apply Fr.post (setF_fr ..) | with_reducible dsimp only
    | with_reducible split

theorem leaderDue_fr (s : State) (p : Nat) (i : Nat) : Fr 0x40002c s (leaderDue s p i) := by
  unfold leaderDue
  repeat' first
    | with_reducible apply Fr.refl | ((with_reducible apply sub_ok); exact rfl) | with_reducible apply Fr.ite
    | with_reducible apply Fr.post (beginLead_fr ..) | with_reducible apply Fr.post (setF_fr ..)
    | with_reducible apply Fr.post (raiseEv_fr ..) | with_reducible dsimp only | with_reducible split

theorem electLeader_fr (s : State) (p : Nat) (i : Nat) : Fr 0x400028 s (electLeader s p i) := by
  unfold electLeader
  repeat' first
    | with_reducible apply Fr.refl | ((with_reducible apply sub_ok); exact rfl) | with_reducible apply Fr.post (putPort_fr ..)
    | with_reducible apply Fr.post (setF_fr ..) | with_reducible apply Fr.post (raiseEv_fr ..) | with_reducible dsimp only

theorem memberLeaves_fr (s : State) (p : Nat) (i : Nat) (reason : Nat) : Fr 0x40002c s (memberLeaves s p i reason) := by
  unfold memberLeaves
  repeat' first
    | with_reducible apply Fr.refl | with_reducible assumption | ((with_reducible apply sub_ok); exact rfl)
    | with_reducible apply Fr.ite | with_reducible apply Fr.post (putPort_fr ..) | with_reducible apply Fr.post (xferFailed_fr ..)
    | with_reducible apply Fr.post (countSq_fr ..) | with_reducible apply Fr.post (failFlight_fr ..)
    | with_reducible apply Fr.post (openEpoch_fr ..) | with_reducible apply Fr.post (setF_fr ..)
    | with_reducible apply Fr.post (raiseEv_fr ..) | with_reducible refine Fr.foldl (fun _ _ _ => ?_) ?_
    | with_reducible refine Fr.foldl_fst (fun _ _ _ => ?_) ?_ | with_reducible dsimp only | with_reducible split

theorem failAll_fr (s : State) (p : Nat) : Fr 0x400028 s (failAll s p) := by
  unfold failAll
  repeat' first
    | with_reducible apply Fr.refl | with_reducible assumption | ((with_reducible apply sub_ok); exact rfl)
    | with_reducible apply Fr.post (putPort_fr ..) | with_reducible apply Fr.post (xferFailed_fr ..)
    | with_reducible apply Fr.post (countSq_fr ..) | with_reducible apply Fr.post (failFlight_fr ..)
    | with_reducible refine Fr.foldl (fun _ _ _ => ?_) ?_ | with_reducible refine Fr.foldl_fst (fun _ _ _ => ?_) ?_
    | with_reducible dsimp only

theorem suspendNow_fr (s : State) (p : Nat) (i : Nat) : Fr 0x8 s (suspendNow s p i) := by
  unfold suspendNow
  repeat' first
    | with_reducible apply Fr.refl | ((with_reducible apply sub_ok); exact rfl) | with_reducible apply Fr.ite
    | with_reducible apply Fr.post (setF_fr ..) | with_reducible dsimp only | with_reducible split

theorem resumeNow_fr (s : State) (p : Nat) (i : Nat) : Fr 0x400008 s (resumeNow s p i) := by
  unfold resumeNow
  repeat' first
    | with_reducible apply Fr.refl | ((with_reducible apply sub_ok); exact rfl) | with_reducible apply Fr.ite
    | with_reducible apply Fr.post (putPort_fr ..) | with_reducible apply Fr.post (setF_fr ..) | with_reducible dsimp only
    | with_reducible split

theorem leaderGrants_fr (s : State) (p : Nat) (heard : List ResReq) : Fr 0x400000 s (leaderGrants s p heard).1 := by
  unfold leaderGrants
  repeat' first
    | with_reducible apply Fr.refl | ((with_reducible apply sub_ok); exact rfl) | with_reducible apply Fr.post (putPort_fr ..)
    | with_reducible dsimp only

theorem sendGrant_fr (s : State) (p : Nat) (owners : Nat → Nat) : Fr 0x400000 s (sendGrant s p owners) := by
  unfold sendGrant
  repeat' first
    | with_reducible apply Fr.refl | ((with_reducible apply sub_ok); exact rfl) | with_reducible apply Fr.post (c0Direct_fr ..)
    | with_reducible dsimp only

theorem takeNews_fr (s : State) (p : Nat) (news : GrantNews) : Fr 0x400000 s (takeNews s p news) := by
  unfold takeNews
  repeat' first
    | with_reducible apply Fr.refl | ((with_reducible apply sub_ok); exact rfl) | with_reducible apply Fr.ite
    | with_reducible apply Fr.post (putPort_fr ..) | with_reducible dsimp only | with_reducible split

theorem slotLost_fr (s : State) (p : Nat) (draw : Nat) : Fr 0x400028 s (slotLost s p draw) := by
  unfold slotLost
  repeat' first
    | with_reducible apply Fr.refl | ((with_reducible apply sub_ok); exact rfl) | with_reducible apply Fr.ite
    | with_reducible apply Fr.post (putPort_fr ..) | with_reducible apply Fr.post (bumpF_fr ..)
    | with_reducible apply Fr.post (raiseEv_fr ..) | with_reducible dsimp only | with_reducible split

theorem ownGrant_fr (s : State) (p : Nat) (owners : Nat → Nat) : Fr 0x400000 s (ownGrant s p owners) := by
  unfold ownGrant
  repeat' first
    | with_reducible apply Fr.refl | ((with_reducible apply sub_ok); exact rfl) | with_reducible apply Fr.post (putPort_fr ..)
    | with_reducible dsimp only

theorem laneLater_fr (s : State) (p : Nat) (lane : Nat) (rx : Bool) (on : Bool) (cause : Nat) : Fr 0x400000 s (laneLater s p lane rx on cause) := by
  unfold laneLater
  repeat' first
    | with_reducible apply Fr.refl | ((with_reducible apply sub_ok); exact rfl) | with_reducible apply Fr.post (putPort_fr ..)
    | with_reducible dsimp only

theorem laneReturns_fr (s : State) (p : Nat) (lane : Nat) (rx : Bool) : Fr 0x28 s (laneReturns s p lane rx) := by
  unfold laneReturns
  repeat' first
    | with_reducible apply Fr.refl | ((with_reducible apply sub_ok); exact rfl) | with_reducible apply Fr.ite
    | with_reducible apply Fr.post (setLane_fr ..) | with_reducible apply Fr.post (raiseEv_fr ..) | with_reducible dsimp only
    | with_reducible split

theorem noteProbe_fr (s : State) (p : Nat) (lane : Nat) (rx : Bool) : Fr 0x400000 s (noteProbe s p lane rx) := by
  unfold noteProbe
  repeat' first
    | with_reducible apply Fr.refl | ((with_reducible apply sub_ok); exact rfl) | with_reducible apply Fr.post (putPort_fr ..)
    | with_reducible dsimp only

theorem probeLane_fr (p : Nat) (s : State) (j : Nat) : Fr 0x400000 s (probeLane p s j) := by
  unfold probeLane
  repeat' first
    | with_reducible apply Fr.refl | ((with_reducible apply sub_ok); exact rfl) | with_reducible apply Fr.ite
    | with_reducible apply Fr.post (putPort_fr ..) | with_reducible apply Fr.post (idleAir_fr ..)
    | with_reducible apply Fr.post (noteProbe_fr ..) | with_reducible dsimp only | with_reducible split

theorem laneChange_fr (p : Nat) (s : State) (c : MaskChange) : Fr 0x400028 s (laneChange p s c) := by
  unfold laneChange
  repeat' first
    | with_reducible apply Fr.refl | ((with_reducible apply sub_ok); exact rfl) | with_reducible apply Fr.ite
    | with_reducible apply Fr.post (putPort_fr ..) | with_reducible apply Fr.post (laneLeaves_fr ..)
    | with_reducible apply Fr.post (laneReleased_fr ..) | with_reducible apply Fr.post (laneReturns_fr ..)
    | with_reducible apply Fr.post (noteProbe_fr ..) | with_reducible dsimp only | with_reducible split

theorem frameDue_fr (s : State) (p : Nat) : Fr 0x40002c s (frameDue s p) := by
  unfold frameDue
  repeat' first
    | with_reducible apply Fr.refl | with_reducible assumption | ((with_reducible apply sub_ok); exact rfl)
    | with_reducible apply Fr.ite | with_reducible apply Fr.post (putPort_fr ..) | with_reducible apply Fr.post (checkPort_fr ..)
    | with_reducible apply Fr.post (epochDue_fr ..) | with_reducible apply Fr.post (leaderDue_fr ..)
    | with_reducible apply Fr.post (suspendNow_fr ..) | with_reducible apply Fr.post (laneChange_fr ..)
    | with_reducible refine Fr.foldl (fun _ _ _ => ?_) ?_ | with_reducible refine Fr.foldl_fst (fun _ _ _ => ?_) ?_
    | with_reducible dsimp only | with_reducible split

theorem announce_fr (s : State) (p : Nat) : Fr 0x400000 s (announce s p) := by
  unfold announce
  repeat' first
    | with_reducible apply Fr.refl | ((with_reducible apply sub_ok); exact rfl) | with_reducible apply Fr.post (c0Own_fr ..)
    | with_reducible dsimp only

theorem dropLane_fr (s : State) (p : Nat) (lane : Nat) (rx : Bool) (cause : Nat) : Fr 0x400028 s (dropLane s p lane rx cause) := by
  unfold dropLane
  repeat' first
    | with_reducible apply Fr.refl | ((with_reducible apply sub_ok); exact rfl) | with_reducible apply Fr.ite
    | with_reducible apply Fr.post (laneLeaves_fr ..) | with_reducible apply Fr.post (checkPort_fr ..)
    | with_reducible apply Fr.post (noteProbe_fr ..) | with_reducible apply Fr.post (announce_fr ..) | with_reducible dsimp only
    | with_reducible split

theorem farrierAsks_fr (s : State) (p : Nat) (j : Nat) : Fr 0x500008 s (farrierAsks s p j) := by
  unfold farrierAsks
  repeat' first
    | with_reducible apply Fr.refl | ((with_reducible apply sub_ok); exact rfl) | with_reducible apply Fr.ite
    | with_reducible apply Fr.post (putPort_fr ..) | with_reducible apply Fr.post (putFarPort_fr ..)
    | with_reducible apply Fr.post (laneReleased_fr ..) | with_reducible apply Fr.post (laneLater_fr ..)
    | with_reducible apply Fr.post (announce_fr ..) | with_reducible apply Fr.post (setF_fr ..) | with_reducible dsimp only
    | with_reducible split

theorem announceReturn_fr (s : State) (p : Nat) : Fr 0x400000 s (announceReturn s p) := by
  unfold announceReturn
  repeat' first
    | with_reducible apply Fr.refl | with_reducible assumption | ((with_reducible apply sub_ok); exact rfl)
    | with_reducible apply Fr.ite | with_reducible apply Fr.post (laneLater_fr ..) | with_reducible apply Fr.post (announce_fr ..)
    | with_reducible refine Fr.foldl (fun _ _ _ => ?_) ?_ | with_reducible refine Fr.foldl_fst (fun _ _ _ => ?_) ?_
    | with_reducible dsimp only | with_reducible split

theorem farMasks_fr (s : State) (p : Nat) (i : Nat) (tx : Nat) (rx : Nat) : Fr 0x400000 s (farMasks s p i tx rx) := by
  unfold farMasks
  repeat' first
    | with_reducible apply Fr.refl | with_reducible assumption | ((with_reducible apply sub_ok); exact rfl)
    | with_reducible apply Fr.ite | with_reducible apply Fr.post (putPort_fr ..) | with_reducible apply Fr.post (laneLater_fr ..)
    | with_reducible refine Fr.foldl (fun _ _ _ => ?_) ?_ | with_reducible refine Fr.foldl_fst (fun _ _ _ => ?_) ?_
    | with_reducible dsimp only | with_reducible split

theorem putChallenge_fr (s : State) (p : Nat) (i : Nat) (c : List Nat) : Fr 0x400000 s (putChallenge s p i c) := by
  unfold putChallenge
  repeat' first
    | with_reducible apply Fr.refl | ((with_reducible apply sub_ok); exact rfl) | with_reducible apply Fr.post (putPort_fr ..)
    | with_reducible dsimp only

theorem offerAdmission_fr (s : State) (p : Nat) : Fr 0x400004 s (offerAdmission s p) := by
  unfold offerAdmission
  repeat' first
    | with_reducible apply Fr.refl | ((with_reducible apply sub_ok); exact rfl) | with_reducible apply Fr.post (putPort_fr ..)
    | with_reducible apply Fr.post (c0Own_fr ..) | with_reducible apply Fr.post (putChallenge_fr ..)
    | with_reducible apply Fr.post (drawn_fr ..) | with_reducible dsimp only

theorem sendHerdKey_fr (s : State) (p : Nat) (i : Nat) (eph : List Nat) : Fr 0x400004 s (sendHerdKey s p i eph) := by
  unfold sendHerdKey
  repeat' first
    | with_reducible apply Fr.refl | ((with_reducible apply sub_ok); exact rfl) | with_reducible apply Fr.post (c0Own_fr ..)
    | with_reducible apply Fr.post (drawn_fr ..) | with_reducible dsimp only

theorem trainingEnds_fr (s : State) (p : Nat) (tx : Nat) (rx : Nat) : Fr 0x40002c s (trainingEnds s p tx rx) := by
  unfold trainingEnds
  repeat' first
    | with_reducible apply Fr.refl | with_reducible assumption | ((with_reducible apply sub_ok); exact rfl)
    | with_reducible apply Fr.ite | with_reducible apply Fr.post (putPort_fr ..) | with_reducible apply Fr.post (setLane_fr ..)
    | with_reducible apply Fr.post (offerAdmission_fr ..) | with_reducible apply Fr.post (setF_fr ..)
    | with_reducible apply Fr.post (raiseEv_fr ..) | with_reducible refine Fr.foldl (fun _ _ _ => ?_) ?_
    | with_reducible refine Fr.foldl_fst (fun _ _ _ => ?_) ?_ | with_reducible dsimp only | with_reducible split

theorem portComesUp_fr (s : State) (p : Nat) : Fr 0x28 s (portComesUp s p) := by
  unfold portComesUp
  repeat' first
    | with_reducible apply Fr.refl | ((with_reducible apply sub_ok); exact rfl) | with_reducible apply Fr.post (setF_fr ..)
    | with_reducible apply Fr.post (raiseEv_fr ..) | with_reducible dsimp only

theorem leadAlone_fr (s : State) (p : Nat) : Fr 0x40002c s (leadAlone s p) := by
  unfold leadAlone
  repeat' first
    | with_reducible apply Fr.refl | ((with_reducible apply sub_ok); exact rfl) | with_reducible apply Fr.post (putPort_fr ..)
    | with_reducible apply Fr.post (portComesUp_fr ..) | with_reducible apply Fr.post (setF_fr ..)
    | with_reducible apply Fr.post (raiseEv_fr ..) | with_reducible apply Fr.post (drawn_fr ..) | with_reducible dsimp only

theorem portStops_fr (s : State) (p : Nat) : Fr 0x400028 s (portStops s p) := by
  unfold portStops
  repeat' first
    | with_reducible apply Fr.refl | with_reducible assumption | ((with_reducible apply sub_ok); exact rfl)
    | with_reducible apply Fr.post (putPort_fr ..) | with_reducible apply Fr.post (setLane_fr ..)
    | with_reducible apply Fr.post (countSq_fr ..) | with_reducible apply Fr.post (releaseAsked_fr ..)
    | with_reducible apply Fr.post (setF_fr ..) | with_reducible refine Fr.foldl (fun _ _ _ => ?_) ?_
    | with_reducible refine Fr.foldl_fst (fun _ _ _ => ?_) ?_ | with_reducible dsimp only

theorem portStop_fr (s : State) (p : Nat) : Fr 0x400028 s (portStop s p) := by
  unfold portStop
  repeat' first
    | with_reducible apply Fr.refl | ((with_reducible apply sub_ok); exact rfl) | with_reducible apply Fr.ite
    | with_reducible apply Fr.post (c0Own_fr ..) | with_reducible apply Fr.post (failAll_fr ..)
    | with_reducible apply Fr.post (setF_fr ..) | with_reducible apply Fr.post (raiseEv_fr ..) | with_reducible dsimp only
    | with_reducible split

theorem drvCtrlWrite_fr (s : State) (p : Nat) (start : Bool) (stop : Bool) : Fr 0x400028 s (drvCtrlWrite s p start stop) := by
  unfold drvCtrlWrite
  repeat' first
    | with_reducible apply Fr.refl | ((with_reducible apply sub_ok); exact rfl) | with_reducible apply Fr.ite
    | with_reducible apply Fr.post (portStop_fr ..) | with_reducible apply Fr.post (setF_fr ..) | with_reducible dsimp only
    | with_reducible split

theorem drvRefuse_fr (s : State) (p : Nat) : Fr 0x28 s (drvRefuse s p) := by
  unfold drvRefuse
  repeat' first
    | with_reducible apply Fr.refl | ((with_reducible apply sub_ok); exact rfl) | with_reducible apply Fr.post (setF_fr ..)
    | with_reducible apply Fr.post (raiseEv_fr ..) | with_reducible dsimp only

theorem drvCfgWrite_fr (s : State) (r : DrvCfgReg) (v : W64) : Fr 0x28 s (drvCfgWrite s r v) := by
  unfold drvCfgWrite
  repeat' first
    | with_reducible apply Fr.refl | ((with_reducible apply sub_ok); exact rfl) | with_reducible apply Fr.ite
    | with_reducible apply Fr.post (drvRefuse_fr ..) | with_reducible apply Fr.post (wrReg_fr ..) | with_reducible dsimp only
    | with_reducible split

theorem rxwinWrite_fr (s : State) (p : Nat) (w : Nat) (part : WinPart) (v : W64) : Fr 0x8 s (rxwinWrite s p w part v) := by
  unfold rxwinWrite
  repeat' first
    | with_reducible apply Fr.refl | ((with_reducible apply sub_ok); exact rfl) | with_reducible apply Fr.ite
    | with_reducible apply Fr.post (wrReg_fr ..) | with_reducible dsimp only | with_reducible split

end Sys2Proof.Machine
end

