-- ==== Sys2Proof/Laws/FrCold.lean ====
section
/-! SUPPORT. What each operation of Machine/Cold.lean may touch, and that it keeps the invariant. -/
namespace Sys2Proof.Machine

theorem fusesBlown_fr (s : State) : Fr 0xc s (fusesBlown s) := by
  unfold fusesBlown
  repeat' first
    | with_reducible apply Fr.refl | ((with_reducible apply sub_ok); exact rfl) | with_reducible apply Fr.ite
    | with_reducible apply Fr.post (setF_fr ..) | with_reducible apply Fr.post (drawn_fr ..) | with_reducible dsimp only
    | with_reducible split

theorem coldState_fr (s : State) : Fr 0x3fffffe s (coldState s) := by
  refine Fr.trans ((fusesBlown_fr s).mono rfl) ?_
  exact ⟨fun c hc => by cases c <;> first | rfl | exact absurd hc (by decide),
    fun h => by apply inv_of h (nmWf_filter _ _ _) <;> intro _ <;> first | rfl | exact Nat.zero_le _⟩

theorem packageTrip_fr (s : State) (cause : Nat) : Fr 0x3fffffe s (packageTrip s cause) := by
  unfold packageTrip
  repeat' first
    | with_reducible apply Fr.refl | ((with_reducible apply sub_ok); exact rfl) | with_reducible apply Fr.post (setF_fr ..)
    | with_reducible apply Fr.post (coldState_fr ..) | with_reducible dsimp only | with_reducible apply Fr.setPwr
    | with_reducible apply Fr.setSys | with_reducible apply Fr.setPwrSys

end Sys2Proof.Machine
end

