-- ==== Sys2Proof/Laws/FrReinOps.lean ====
section
/-! SUPPORT. What each operation of Machine/ReinOps.lean may touch, and that it keeps the invariant. -/
namespace Sys2Proof.Machine

theorem setLp_fr (s : State) (f : Field) (v : Nat) (i : Nat) : Fr 0x8 s (setLp s f v i) := by
  unfold setLp
  repeat' first
    | with_reducible apply Fr.refl | ((with_reducible apply sub_ok); exact rfl) | with_reducible apply Fr.post (setF_fr ..)
    | with_reducible dsimp only

theorem writeStage_fr (s : State) (i : Nat) (k : Nat) (st : Stage) : Fr 0x8 s (writeStage s i k st) := by
  unfold writeStage
  repeat' first
    | with_reducible apply Fr.refl | ((with_reducible apply sub_ok); exact rfl) | with_reducible apply Fr.post (setF_fr ..)
    | with_reducible dsimp only

theorem putBuf_fr (s : State) (i : Nat) (lw : Nat) (v : Nat) : Fr 0x80000 s (putBuf s i lw v) := by
  unfold putBuf
  repeat' first
    | with_reducible apply Fr.refl | ((with_reducible apply sub_ok); exact rfl) | with_reducible dsimp only
    | with_reducible apply Fr.setRein

theorem dropBuf_fr (s : State) (i : Nat) : Fr 0x80000 s (dropBuf s i) := by
  unfold dropBuf
  repeat' first
    | with_reducible apply Fr.refl | ((with_reducible apply sub_ok); exact rfl) | with_reducible dsimp only
    | with_reducible apply Fr.setRein

theorem writeOut_fr (s : State) (i : Nat) (lw : Nat) (v : Nat) : Fr 0x2c0008 s (writeOut s i lw v) := by
  unfold writeOut
  repeat' first
    | with_reducible apply Fr.refl | ((with_reducible apply sub_ok); exact rfl) | with_reducible apply Fr.ite
    | with_reducible apply Fr.post (setLp_fr ..) | with_reducible apply Fr.post (trmSetCode_fr ..) | with_reducible dsimp only
    | with_reducible split | with_reducible apply Fr.setRein | with_reducible apply Fr.setPwr

theorem overBudget_fr (s : State) : Fr 0x28 s (overBudget s) := by
  unfold overBudget
  repeat' first
    | with_reducible apply Fr.refl | ((with_reducible apply sub_ok); exact rfl) | with_reducible apply Fr.post (setF_fr ..)
    | with_reducible apply Fr.post (raiseEv_fr ..) | with_reducible dsimp only

theorem notifyOwner_fr (s : State) (i : Nat) : Fr 0x1a00ac s (notifyOwner s i) := by
  unfold notifyOwner
  repeat' first
    | with_reducible apply Fr.refl | ((with_reducible apply sub_ok); exact rfl) | with_reducible apply Fr.ite
    | with_reducible apply Fr.post (overBudget_fr ..) | with_reducible apply Fr.post (putLoop_fr ..)
    | with_reducible apply Fr.post (ringRecheck_fr ..) | with_reducible apply Fr.post (holdLte_fr ..) | with_reducible dsimp only
    | with_reducible split

theorem loopFault_fr (s : State) (i : Nat) (err : Nat) : Fr 0x80008 s (loopFault s i err) := by
  unfold loopFault
  repeat' first
    | with_reducible apply Fr.refl | ((with_reducible apply sub_ok); exact rfl) | with_reducible apply Fr.post (setLp_fr ..)
    | with_reducible apply Fr.post (bumpF_fr ..) | with_reducible dsimp only | with_reducible apply Fr.setRein

theorem faultActs_fr (s : State) (i : Nat) (err : Nat) : Fr 0x1a00ac s (faultActs s i err) := by
  unfold faultActs
  repeat' first
    | with_reducible apply Fr.refl | ((with_reducible apply sub_ok); exact rfl) | with_reducible apply Fr.ite
    | with_reducible apply Fr.post (putBuf_fr ..) | with_reducible apply Fr.post (dropBuf_fr ..)
    | with_reducible apply Fr.post (notifyOwner_fr ..) | with_reducible apply Fr.post (setFreeze_fr ..)
    | with_reducible apply Fr.post (raiseEv_fr ..) | with_reducible dsimp only | with_reducible split

theorem grownEvents_fr (s : State) : Fr 0x80020 s (grownEvents s) := by
  unfold grownEvents
  repeat' first
    | with_reducible apply Fr.refl | with_reducible assumption | ((with_reducible apply sub_ok); exact rfl)
    | with_reducible apply Fr.post (raiseEv_fr ..) | with_reducible refine Fr.foldl (fun _ _ _ => ?_) ?_
    | with_reducible refine Fr.foldl_fst (fun _ _ _ => ?_) ?_ | with_reducible dsimp only | with_reducible apply Fr.setRein

theorem faultPhase_fr (s : State) : Fr 0x1a00ac s (faultPhase s) := by
  unfold faultPhase
  repeat' first
    | with_reducible apply Fr.refl | with_reducible assumption | ((with_reducible apply sub_ok); exact rfl)
    | with_reducible apply Fr.post (faultActs_fr ..) | with_reducible apply Fr.post (grownEvents_fr ..)
    | with_reducible refine Fr.foldl (fun _ _ _ => ?_) ?_ | with_reducible refine Fr.foldl_fst (fun _ _ _ => ?_) ?_
    | with_reducible dsimp only | with_reducible apply Fr.setRein

theorem outputPhase_fr (s : State) : Fr 0x2c0008 s (outputPhase s) := by
  unfold outputPhase
  repeat' first
    | with_reducible apply Fr.refl | with_reducible assumption | ((with_reducible apply sub_ok); exact rfl)
    | with_reducible apply Fr.post (writeOut_fr ..) | with_reducible refine Fr.foldl (fun _ _ _ => ?_) ?_
    | with_reducible refine Fr.foldl_fst (fun _ _ _ => ?_) ?_ | with_reducible dsimp only | with_reducible apply Fr.setRein

theorem stallLoopClean_fr (s : State) (i : Nat) : Fr 0x80088 s (stallLoopClean s i) := by
  unfold stallLoopClean
  repeat' first
    | with_reducible apply Fr.refl | ((with_reducible apply sub_ok); exact rfl) | with_reducible apply Fr.ite
    | with_reducible apply Fr.post (setLp_fr ..) | with_reducible apply Fr.post (putLoop_fr ..)
    | with_reducible apply Fr.post (releaseLte_fr ..) | with_reducible dsimp only | with_reducible split

theorem superviseLoop_fr (s : State) (i : Nat) (err : Option StageRun) : Fr 0x80088 s (superviseLoop s i err) := by
  unfold superviseLoop
  repeat' first
    | with_reducible apply Fr.refl | ((with_reducible apply sub_ok); exact rfl) | with_reducible apply Fr.ite
    | with_reducible apply Fr.post (setLp_fr ..) | with_reducible apply Fr.post (loopFault_fr ..)
    | with_reducible apply Fr.post (stallLoopClean_fr ..) | with_reducible apply Fr.post (putLoop_fr ..)
    | with_reducible dsimp only | with_reducible split

theorem lineReport_fr (s : State) (i : Nat) (v : Dy) (r : Dy) : Fr 0x1e04ec s (lineReport s i v r) := by
  unfold lineReport
  repeat' first
    | with_reducible apply Fr.refl | ((with_reducible apply sub_ok); exact rfl) | with_reducible apply Fr.ite
    | with_reducible apply Fr.post (lineLost_fr ..) | with_reducible dsimp only | with_reducible split

theorem skipSlot_fr (s : State) (i : Nat) (invalid : Bool) (stale : Bool) : Fr 0x80008 s (skipSlot s i invalid stale) := by
  unfold skipSlot
  repeat' first
    | with_reducible apply Fr.refl | ((with_reducible apply sub_ok); exact rfl) | with_reducible apply Fr.post (setLp_fr ..)
    | with_reducible apply Fr.post (putLoop_fr ..) | with_reducible apply Fr.post (setF_fr ..) | with_reducible dsimp only

theorem writeStages_fr (s : State) (i : Nat) (l : List (StageRun × Bool)) : Fr 0x80008 s (writeStages s i l) := by
  unfold writeStages
  repeat' first
    | with_reducible apply Fr.refl | with_reducible assumption | ((with_reducible apply sub_ok); exact rfl)
    | with_reducible apply Fr.ite | with_reducible apply Fr.post (setLp_fr ..) | with_reducible apply Fr.post (writeStage_fr ..)
    | with_reducible apply Fr.post (bumpF_fr ..) | with_reducible refine Fr.foldl (fun _ _ _ => ?_) ?_
    | with_reducible refine Fr.foldl_fst (fun _ _ _ => ?_) ?_ | with_reducible dsimp only | with_reducible split
    | with_reducible apply Fr.setRein

theorem computeLoop_fr (s : State) (i : Nat) (a : SrcRead) (b : SrcRead) (sp : SrcRead) : Fr 0x1e04ec s (computeLoop s i a b sp) := by
  unfold computeLoop
  repeat' first
    | with_reducible apply Fr.refl | ((with_reducible apply sub_ok); exact rfl) | with_reducible apply Fr.ite
    | with_reducible apply Fr.post (setLp_fr ..) | with_reducible apply Fr.post (putBuf_fr ..)
    | with_reducible apply Fr.post (superviseLoop_fr ..) | with_reducible apply Fr.post (lineReport_fr ..)
    | with_reducible apply Fr.post (writeStages_fr ..) | with_reducible apply Fr.post (putLoop_fr ..)
    | with_reducible apply Fr.post (drawn_fr ..) | with_reducible dsimp only | with_reducible split

theorem runLoop_fr (s : State) (i : Nat) : Fr 0x1e04ec s (runLoop s i) := by
  unfold runLoop
  repeat' first
    | with_reducible apply Fr.refl | ((with_reducible apply sub_ok); exact rfl) | with_reducible apply Fr.ite
    | with_reducible apply Fr.post (skipSlot_fr ..) | with_reducible apply Fr.post (computeLoop_fr ..) | with_reducible dsimp only
    | with_reducible split

theorem bankCtrlWrite_fr (s : State) (b : Nat) (start : Bool) (stop : Bool) : Fr 0x80028 s (bankCtrlWrite s b start stop) := by
  unfold bankCtrlWrite
  repeat' first
    | with_reducible apply Fr.refl | ((with_reducible apply sub_ok); exact rfl) | with_reducible apply Fr.ite
    | with_reducible apply Fr.post (setF_fr ..) | with_reducible apply Fr.post (raiseEv_fr ..) | with_reducible dsimp only
    | with_reducible split | with_reducible apply Fr.setRein

theorem wrMasked_fr (s : State) (addr : Nat) (v : Nat) : Fr 0x8 s (wrMasked s addr v) := by
  unfold wrMasked
  repeat' first
    | with_reducible apply Fr.refl | ((with_reducible apply sub_ok); exact rfl) | with_reducible apply Fr.ite
    | with_reducible apply Fr.post (wrReg_fr ..) | with_reducible dsimp only | with_reducible split

theorem placeRingInput_fr (s : State) (r : Nat) : Fr 0x8 s (placeRingInput s r) := by
  unfold placeRingInput
  repeat' first
    | with_reducible apply Fr.refl | ((with_reducible apply sub_ok); exact rfl) | with_reducible apply Fr.post (wrMasked_fr ..)
    | with_reducible dsimp only

theorem placeLoop_fr (s : State) (i : Nat) : Fr 0x8 s (placeLoop s i) := by
  unfold placeLoop
  repeat' first
    | with_reducible apply Fr.refl | with_reducible assumption | ((with_reducible apply sub_ok); exact rfl)
    | with_reducible apply Fr.post (wrMasked_fr ..) | with_reducible refine Fr.foldl (fun _ _ _ => ?_) ?_
    | with_reducible refine Fr.foldl_fst (fun _ _ _ => ?_) ?_ | with_reducible dsimp only

theorem startBanks_fr (s : State) : Fr 0x80008 s (startBanks s) := by
  unfold startBanks
  repeat' first
    | with_reducible apply Fr.refl | with_reducible assumption | ((with_reducible apply sub_ok); exact rfl)
    | with_reducible apply Fr.post (placeRingInput_fr ..) | with_reducible apply Fr.post (placeLoop_fr ..)
    | with_reducible refine Fr.foldl (fun _ _ _ => ?_) ?_ | with_reducible refine Fr.foldl_fst (fun _ _ _ => ?_) ?_
    | with_reducible dsimp only | with_reducible apply Fr.setRein

theorem loopFieldWrite_fr (s : State) (i : Nat) (off : Nat) (v : Nat) : Fr 0x80028 s (loopFieldWrite s i off v) := by
  unfold loopFieldWrite
  repeat' first
    | with_reducible apply Fr.refl | ((with_reducible apply sub_ok); exact rfl) | with_reducible apply Fr.ite
    | with_reducible apply Fr.post (setLp_fr ..) | with_reducible apply Fr.post (wrMasked_fr ..)
    | with_reducible apply Fr.post (setFreeze_fr ..) | with_reducible apply Fr.post (setF_fr ..)
    | with_reducible apply Fr.post (raiseEv_fr ..) | with_reducible dsimp only | with_reducible split

end Sys2Proof.Machine
end

