-- ==== Sys2Proof/Laws/FrShedOps.lean ====
section
/-! SUPPORT. What each operation of Machine/ShedOps.lean may touch, and that it keeps the invariant. -/
namespace Sys2Proof.Machine

theorem putShed_fr (s : State) (i : Nat) (x : Shed) : Fr 0x100 s (putShed s i x) :=
  Fr.setShed _ rfl (nmWf_put _ _ _ _) (Fr.refl _ _)

theorem putThread_fr (s : State) (i : Nat) (t : Nat) (th : Thread) : Fr 0x100 s (putThread s i t th) := by
  unfold putThread
  repeat' first
    | with_reducible apply Fr.refl | ((with_reducible apply sub_ok); exact rfl) | with_reducible apply Fr.post (putShed_fr ..)
    | with_reducible dsimp only

theorem haltOnTrap_fr (s : State) (i : Nat) (t : Nat) (cause : Nat) (deferred : Bool) (nested : Bool) (tval : W64) (tpc : W64) : Fr 0x128 s (haltOnTrap s i t cause deferred nested tval tpc) := by
  unfold haltOnTrap
  repeat' first
    | with_reducible apply Fr.refl | ((with_reducible apply sub_ok); exact rfl) | with_reducible apply Fr.ite
    | with_reducible apply Fr.post (wrReg_fr ..) | with_reducible apply Fr.post (setF_fr ..)
    | with_reducible apply Fr.post (bumpF_fr ..) | with_reducible apply Fr.post (raiseEv_fr ..)
    | with_reducible apply Fr.post (putThread_fr ..) | with_reducible dsimp only | with_reducible split

theorem takeTrap_fr (s : State) (i : Nat) (t : Nat) (cause : Nat) (deferred : Bool) (tval : W64) (tpc : W64) (epc : W64) : Fr 0x128 s (takeTrap s i t cause deferred tval tpc epc) := by
  unfold takeTrap
  repeat' first
    | with_reducible apply Fr.refl | ((with_reducible apply sub_ok); exact rfl) | with_reducible apply Fr.ite
    | with_reducible apply Fr.post (putThread_fr ..) | with_reducible apply Fr.post (haltOnTrap_fr ..) | with_reducible dsimp only
    | with_reducible split

/-- What a fetch leaves. -/
def Fetch.from (m : Nat) (s : State) : Fetch → Prop
  | .ok t => Fr m s t
  | .trap t _ _ => Fr m s t
  | .wait => True

theorem fetchWord_from (s : State) (a : Nat) (bytes : List Nat) (m : Nat) : (fetchWord s a bytes).from m s := by
  unfold fetchWord
  split <;> exact Fr.refl _ _

theorem Fetch.from_trans {m : Nat} {s t : State} {f : Fetch} (h : Fr m s t) (hf : f.from m t) : f.from m s := by
  cases f with
  | ok u => exact Fr.trans h hf
  | trap u _ _ => exact Fr.trans h hf
  | wait => trivial

theorem fetchInstr_from (s : State) (i : Nat) (pc : W64) : (fetchInstr s i pc).from 0xf92c s := by
  unfold fetchInstr
  dsimp only
  split
  · exact Fr.refl _ _
  split
  · exact Fr.refl _ _
  split
  · exact fetchWord_from ..
  split
  · exact Fr.refl _ _
  split
  · trivial
  split
  · exact (memRead_fr ..).mono rfl
  · refine Fetch.from_trans ?_ (fetchWord_from ..)
    exact ((memRead_fr ..).mono rfl).trans ((Fr.post (drawn_fr ..) rfl (Fr.refl _ _)).trans ((putShed_fr ..).mono rfl))

/-- A body of `issue` ends in a state that differs from its start only within the mask. -/
def IssueEnd.from (m : Nat) (s : State) : IssueEnd → Prop
  | .wait => True
  | .trap _ _ => True
  | .done t _ => Fr m s t

theorem IssueEnd.from_wait (m : Nat) (s : State) : IssueEnd.wait.from m s := trivial
theorem IssueEnd.from_trap (m : Nat) (s : State) (c : Nat) (v : W64) : (IssueEnd.trap c v).from m s := trivial
theorem IssueEnd.from_done {m : Nat} {s t : State} (th : Thread) (h : Fr m s t) : (IssueEnd.done t th).from m s := h
theorem IssueEnd.from_ite {m : Nat} {s : State} {a b : IssueEnd} {c : Prop} [Decidable c] (ha : a.from m s) (hb : b.from m s) :
    (if c then a else b).from m s := by split <;> assumption

theorem issue_fr {m : Nat} {s : State} {i t : Nat} {rs : List RegRef} {body : State → Thread → IssueEnd} (hs : sub 0xf92c m = true)
    (hb : ∀ s th, (body s th).from m s) : Fr m s (issue s i t rs body) := by
  unfold issue
  dsimp only
  split
  · have hf := fetchInstr_from s i (getThread s i t).pc
    split
    · exact Fr.refl _ _
    · rename_i h; rw [h] at hf
      exact Fr.post (takeTrap_fr ..) ((sub_trans rfl hs)) (Fr.mono hf (sub_trans rfl hs))
    · rename_i u h; rw [h] at hf
      have hg := hb u { getThread s i t with pc := (getThread s i t).pc + 4 }
      split
      · exact Fr.refl _ _
      · exact Fr.post (takeTrap_fr ..) ((sub_trans rfl hs)) (Fr.mono hf (sub_trans rfl hs))
      · rename_i h'; rw [h'] at hg
        exact Fr.post (addF_fr ..) (sub_trans rfl hs)
          (Fr.post (putThread_fr ..) (sub_trans rfl hs) (Fr.trans (Fr.mono hf (sub_trans rfl hs)) hg))
  · exact Fr.refl _ _

theorem issueAccess_from (m : Nat) (s : State) (th : Thread) (a : W64) (n : Nat) (k : AccKind) (q r : Bool) :
    (issueAccess s th a n k q r).from m s := by
  unfold issueAccess
  split
  · trivial
  split
  · trivial
  split
  · trivial
  · exact Fr.refl _ _

theorem scalarOp_fr (s : State) (i : Nat) (t : Nat) (mask : Nat) (rs : List RegRef) (f : Thread → Thread) (known : Bool) : Fr 0xf92c s (scalarOp s i t mask rs f known) := by
  unfold scalarOp
  repeat' first
    | with_reducible apply Fr.refl | ((with_reducible apply sub_ok); exact rfl) | with_reducible apply Fr.ite
    | with_reducible apply issue_fr | with_reducible intro _ _ | with_reducible apply IssueEnd.from_wait
    | with_reducible apply IssueEnd.from_trap | with_reducible apply IssueEnd.from_done | with_reducible apply IssueEnd.from_ite
    | with_reducible apply issueAccess_from | with_reducible dsimp only | with_reducible split

theorem shdCtrlWrite_fr (s : State) (i : Nat) (start : Bool) (stop : Bool) (launch : Bool) (icinv : Bool) : Fr 0x100 s (shdCtrlWrite s i start stop launch icinv) := by
  unfold shdCtrlWrite
  repeat' first
    | with_reducible apply Fr.refl | with_reducible assumption | ((with_reducible apply sub_ok); exact rfl)
    | with_reducible apply Fr.ite | with_reducible apply Fr.post (putShed_fr ..)
    | with_reducible refine Fr.foldl (fun _ _ _ => ?_) ?_ | with_reducible refine Fr.foldl_fst (fun _ _ _ => ?_) ?_
    | with_reducible dsimp only | with_reducible split

theorem shdCfgWrite_fr (s : State) (i : Nat) (addr : Nat) (v : Nat) : Fr 0x128 s (shdCfgWrite s i addr v) := by
  unfold shdCfgWrite
  repeat' first
    | with_reducible apply Fr.refl | ((with_reducible apply sub_ok); exact rfl) | with_reducible apply Fr.ite
    | with_reducible apply Fr.post (wrReg_fr ..) | with_reducible apply Fr.post (setF_fr ..)
    | with_reducible apply Fr.post (raiseEv_fr ..) | with_reducible apply Fr.post (putShed_fr ..) | with_reducible dsimp only
    | with_reducible split

theorem carryPlan_fr (s : State) (i : Nat) : Fr 0x128 s (carryPlan s i) := by
  unfold carryPlan
  repeat' first
    | with_reducible apply Fr.refl | ((with_reducible apply sub_ok); exact rfl) | with_reducible apply Fr.ite
    | with_reducible apply Fr.post (putShed_fr ..) | with_reducible apply Fr.post (shdCtrlWrite_fr ..)
    | with_reducible apply Fr.post (shdCfgWrite_fr ..) | with_reducible dsimp only | with_reducible split

theorem shedHalted_fr (s : State) (i : Nat) : Fr 0x128 s (shedHalted s i) := by
  unfold shedHalted
  repeat' first
    | with_reducible apply Fr.refl | ((with_reducible apply sub_ok); exact rfl) | with_reducible apply Fr.ite
    | with_reducible apply Fr.post (putShed_fr ..) | with_reducible apply Fr.post (shdCtrlWrite_fr ..)
    | with_reducible apply Fr.post (carryPlan_fr ..) | with_reducible dsimp only | with_reducible split

end Sys2Proof.Machine
end

