-- ==== Sys2Proof/Laws/FrShunterOps.lean ====
section
/-! SUPPORT. What each operation of Machine/ShunterOps.lean may touch, and that it keeps the invariant. -/
namespace Sys2Proof.Machine

theorem queueTileOp_fr (s : State) (k : Nat) (bs : List Nat) : Fr 0x80 s (queueTileOp s k bs).1 := by
  unfold queueTileOp
  repeat' first
    | with_reducible apply Fr.refl | ((with_reducible apply sub_ok); exact rfl) | with_reducible apply Fr.ite
    | with_reducible apply Fr.post (putStall_fr ..) | with_reducible dsimp only | with_reducible split

theorem tqArmWrite_fr (s : State) (k : Nat) (addr : Nat) : Fr 0xf8ac s (tqArmWrite s k addr) := by
  unfold tqArmWrite
  repeat' first
    | with_reducible apply Fr.refl | ((with_reducible apply sub_ok); exact rfl) | with_reducible apply Fr.ite
    | with_reducible apply Fr.post (queueTileOp_fr ..) | with_reducible apply Fr.post (setF_fr ..)
    | with_reducible apply Fr.post (addF_fr ..) | with_reducible apply Fr.post (memRead_fr ..) | with_reducible dsimp only
    | with_reducible split

theorem armResult_fr (s : State) (n : Nat) (c : Nat) (st : Nat) : Fr 0x8 s (armResult s n c st) := by
  unfold armResult
  repeat' first
    | with_reducible apply Fr.refl | ((with_reducible apply sub_ok); exact rfl) | with_reducible apply Fr.post (setF_fr ..)
    | with_reducible apply Fr.post (addF_fr ..) | with_reducible dsimp only

theorem bindDesc_fr (s : State) (n : Nat) (c : Nat) (d : StreamDesc) : Fr 0x600 s (bindDesc s n c d) := by
  unfold bindDesc
  repeat' first
    | with_reducible apply Fr.refl | ((with_reducible apply sub_ok); exact rfl) | with_reducible apply Fr.ite
    | with_reducible apply Fr.post (putChan_fr ..) | with_reducible apply Fr.post (putSid_fr ..) | with_reducible dsimp only
    | with_reducible split

theorem unbindChan_fr (s : State) (n c : Nat) (clear : Bool) : Fr 0x600 s (unbindChan s n c clear) :=
  Fr.post (putChan_fr ..) rfl (Fr.setSid _ rfl (fun _ => nmWf_map _ _ _) (Fr.refl _ _))

theorem startDesc_fr (s : State) (n : Nat) (c : Nat) (d : StreamDesc) : Fr 0x208 s (startDesc s n c d) := by
  unfold startDesc
  repeat' first
    | with_reducible apply Fr.refl | ((with_reducible apply sub_ok); exact rfl) | with_reducible apply Fr.ite
    | with_reducible apply Fr.post (setF_fr ..) | with_reducible apply Fr.post (putChan_fr ..) | with_reducible dsimp only
    | with_reducible split

theorem acceptDesc_fr (s : State) (n : Nat) (c : Nat) (d : StreamDesc) : Fr 0x608 s (acceptDesc s n c d).1 := by
  unfold acceptDesc
  repeat' first
    | with_reducible apply Fr.refl | ((with_reducible apply sub_ok); exact rfl) | with_reducible apply Fr.ite
    | with_reducible apply Fr.post (bindDesc_fr ..) | with_reducible apply Fr.post (startDesc_fr ..)
    | with_reducible apply Fr.post (putShu_fr ..) | with_reducible apply Fr.post (putChan_fr ..) | with_reducible dsimp only
    | with_reducible split

theorem armDesc_fr (s : State) (n : Nat) (c : Nat) (addr : Nat) : Fr 0xfe2c s (armDesc s n c addr) := by
  unfold armDesc
  repeat' first
    | with_reducible apply Fr.refl | ((with_reducible apply sub_ok); exact rfl) | with_reducible apply Fr.ite
    | with_reducible apply Fr.post (armResult_fr ..) | with_reducible apply Fr.post (acceptDesc_fr ..)
    | with_reducible apply Fr.post (memRead_fr ..) | with_reducible dsimp only | with_reducible split

theorem completeDesc_fr (s : State) (n : Nat) (c : Nat) (d : StreamDesc) : Fr 0x648 s (completeDesc s n c d) := by
  unfold completeDesc
  repeat' first
    | with_reducible apply Fr.refl | ((with_reducible apply sub_ok); exact rfl) | with_reducible apply Fr.ite
    | with_reducible apply Fr.post (unbindChan_fr ..) | with_reducible apply Fr.post (startDesc_fr ..)
    | with_reducible apply Fr.post (sendSbx_fr ..) | with_reducible apply Fr.post (putChan_fr ..) | with_reducible dsimp only
    | with_reducible split

theorem haltChan_fr (s : State) (n : Nat) (c : Nat) (cause : Nat) : Fr 0x200 s (haltChan s n c cause) := by
  unfold haltChan
  repeat' first
    | with_reducible apply Fr.refl | ((with_reducible apply sub_ok); exact rfl) | with_reducible apply Fr.ite
    | with_reducible apply Fr.post (putChan_fr ..) | with_reducible dsimp only | with_reducible split

theorem unreachTarget_fr (s : State) (n : Nat) (c : Nat) (addr : Nat) (dst : Bool) : Fr 0x220 s (unreachTarget s n c addr dst) := by
  unfold unreachTarget
  repeat' first
    | with_reducible apply Fr.refl | ((with_reducible apply sub_ok); exact rfl) | with_reducible apply Fr.ite
    | with_reducible apply Fr.post (haltChan_fr ..) | with_reducible apply Fr.post (raiseEv_fr ..) | with_reducible dsimp only
    | with_reducible split

theorem chanCtrlWrite_fr (s : State) (n : Nat) (c : Nat) (clear : Bool) (drop : Bool) : Fr 0x208 s (chanCtrlWrite s n c clear drop) := by
  unfold chanCtrlWrite
  repeat' first
    | with_reducible apply Fr.refl | ((with_reducible apply sub_ok); exact rfl) | with_reducible apply Fr.ite
    | with_reducible apply Fr.post (setF_fr ..) | with_reducible apply Fr.post (putChan_fr ..) | with_reducible dsimp only
    | with_reducible split

theorem clearChan_fr (s : State) (n : Nat) (c : Nat) : Fr 0x688 s (clearChan s n c) := by
  unfold clearChan
  repeat' first
    | with_reducible apply Fr.refl | ((with_reducible apply sub_ok); exact rfl) | with_reducible apply Fr.ite
    | with_reducible apply Fr.post (armResult_fr ..) | with_reducible apply Fr.post (unbindChan_fr ..)
    | with_reducible apply Fr.post (acceptDesc_fr ..) | with_reducible apply Fr.post (putStall_fr ..)
    | with_reducible apply Fr.post (putChan_fr ..) | with_reducible dsimp only | with_reducible split

theorem shuCtrlWrite_fr (s : State) (n : Nat) (start : Bool) (stop : Bool) : Fr 0x200 s (shuCtrlWrite s n start stop) := by
  unfold shuCtrlWrite
  repeat' first
    | with_reducible apply Fr.refl | with_reducible assumption | ((with_reducible apply sub_ok); exact rfl)
    | with_reducible apply Fr.ite | with_reducible apply Fr.post (putShu_fr ..)
    | with_reducible refine Fr.foldl (fun _ _ _ => ?_) ?_ | with_reducible refine Fr.foldl_fst (fun _ _ _ => ?_) ?_
    | with_reducible dsimp only | with_reducible split

theorem shuClassWrite_fr (s : State) (n : Nat) (i : Nat) (v : Nat) : Fr 0x28 s (shuClassWrite s n i v) := by
  unfold shuClassWrite
  repeat' first
    | with_reducible apply Fr.refl | ((with_reducible apply sub_ok); exact rfl) | with_reducible apply Fr.ite
    | with_reducible apply Fr.post (wrReg_fr ..) | with_reducible apply Fr.post (setF_fr ..)
    | with_reducible apply Fr.post (raiseEv_fr ..) | with_reducible dsimp only | with_reducible split

theorem shuSeedWrite_fr (s : State) (n : Nat) (v : W64) : Fr 0x208 s (shuSeedWrite s n v) := by
  unfold shuSeedWrite
  repeat' first
    | with_reducible apply Fr.refl | ((with_reducible apply sub_ok); exact rfl) | with_reducible apply Fr.post (wrReg_fr ..)
    | with_reducible apply Fr.post (putShu_fr ..) | with_reducible dsimp only

theorem reserveSrc_fr (s : State) (n : Nat) (c : Nat) (r : Run) (k : Nat) : Fr 0x400 s (reserveSrc s n c r k).1 := by
  unfold reserveSrc
  repeat' first
    | with_reducible apply Fr.refl | ((with_reducible apply sub_ok); exact rfl) | with_reducible apply Fr.ite
    | with_reducible apply Fr.post (putSid_fr ..) | with_reducible dsimp only | with_reducible split

theorem reserveDst_fr (s : State) (n : Nat) (r : Run) (k : Nat) : Fr 0x400 s (reserveDst s n r k).1 := by
  unfold reserveDst
  repeat' first
    | with_reducible apply Fr.refl | ((with_reducible apply sub_ok); exact rfl) | with_reducible apply Fr.ite
    | with_reducible apply Fr.post (putSid_fr ..) | with_reducible dsimp only | with_reducible split

theorem addTokens_fr (s : State) (n : Nat) (m : Nat) : Fr 0x200 s (addTokens s n m) := by
  unfold addTokens
  repeat' first
    | with_reducible apply Fr.refl | with_reducible assumption | ((with_reducible apply sub_ok); exact rfl)
    | with_reducible apply Fr.ite | with_reducible apply Fr.post (putShu_fr ..)
    | with_reducible refine Fr.foldl (fun _ _ _ => ?_) ?_ | with_reducible refine Fr.foldl_fst (fun _ _ _ => ?_) ?_
    | with_reducible dsimp only | with_reducible split

theorem takeTokens_fr (s : State) (n : Nat) (cls : Nat) (bytes : Nat) : Fr 0x200 s (takeTokens s n cls bytes) := by
  unfold takeTokens
  repeat' first
    | with_reducible apply Fr.refl | ((with_reducible apply sub_ok); exact rfl) | with_reducible apply Fr.ite
    | with_reducible apply Fr.post (putShu_fr ..) | with_reducible dsimp only | with_reducible split

end Sys2Proof.Machine
end

