-- ==== Sys2Proof/Laws/FrPowerOps.lean ====
section
/-! SUPPORT. What each operation of Machine/PowerOps.lean may touch, and that it keeps the invariant. -/
namespace Sys2Proof.Machine

theorem setBitF_fr (s : State) (f : Field) (d : Nat) (b : Bool) : Fr 0x8 s (setBitF s f d b) := by
  unfold setBitF
  repeat' first
    | with_reducible apply Fr.refl | ((with_reducible apply sub_ok); exact rfl) | with_reducible apply Fr.ite
    | with_reducible apply Fr.post (setF_fr ..) | with_reducible dsimp only | with_reducible split

theorem takeSettings_fr (s : State) : Fr 0x200000 s (takeSettings s) := by
  unfold takeSettings
  repeat' first
    | with_reducible apply Fr.refl | with_reducible assumption | ((with_reducible apply sub_ok); exact rfl)
    | with_reducible refine Fr.foldl (fun _ _ _ => ?_) ?_ | with_reducible refine Fr.foldl_fst (fun _ _ _ => ?_) ?_
    | with_reducible dsimp only | with_reducible apply Fr.setPwr

theorem budgetUpdate_fr (s : State) (vin : Nat) (iin : Nat) : Fr 0x200008 s (budgetUpdate s vin iin) := by
  unfold budgetUpdate
  repeat' first
    | with_reducible apply Fr.refl | ((with_reducible apply sub_ok); exact rfl)
    | with_reducible apply Fr.post (takeSettings_fr ..) | with_reducible apply Fr.post (setF_fr ..)
    | with_reducible apply Fr.post (addF_fr ..) | with_reducible dsimp only | with_reducible apply Fr.setPwr

theorem pbSample_fr (s : State) (p : PbSample) : Fr 0x200000 s (pbSample s p) := by
  unfold pbSample
  repeat' first
    | with_reducible apply Fr.refl | ((with_reducible apply sub_ok); exact rfl) | with_reducible apply Fr.ite
    | with_reducible dsimp only | with_reducible split | with_reducible apply Fr.setPwr

theorem applyDemand_fr (s : State) : Fr 0x3000ac s (applyDemand s) := by
  unfold applyDemand
  repeat' first
    | with_reducible apply Fr.refl | with_reducible assumption | ((with_reducible apply sub_ok); exact rfl)
    | with_reducible apply Fr.post (setF_fr ..) | with_reducible apply Fr.post (holdThm_fr ..)
    | with_reducible refine Fr.foldl (fun _ _ _ => ?_) ?_ | with_reducible refine Fr.foldl_fst (fun _ _ _ => ?_) ?_
    | with_reducible dsimp only | with_reducible apply Fr.setPwr

theorem showForce_fr (s : State) : Fr 0x8 s (showForce s) := by
  unfold showForce
  repeat' first
    | with_reducible apply Fr.refl | ((with_reducible apply sub_ok); exact rfl) | with_reducible apply Fr.ite
    | with_reducible apply Fr.post (setF_fr ..) | with_reducible dsimp only | with_reducible split

theorem inputEvent_fr (s : State) (set : Bool) (row : Nat) (vin : Nat) (iin : Nat) : Fr 0x20 s (inputEvent s set row vin iin) := by
  unfold inputEvent
  repeat' first
    | with_reducible apply Fr.refl | ((with_reducible apply sub_ok); exact rfl) | with_reducible apply Fr.post (raiseEv_fr ..)
    | with_reducible dsimp only

theorem applyTierBand_fr (s : State) (u : Nat) : Fr 0x8 s (applyTierBand s u) := by
  unfold applyTierBand
  repeat' first
    | with_reducible apply Fr.refl | ((with_reducible apply sub_ok); exact rfl) | with_reducible apply Fr.ite
    | with_reducible apply Fr.post (setF_fr ..) | with_reducible dsimp only | with_reducible split

theorem setDieBand_fr (s : State) (g : Nat) (b : Nat) : Fr 0x40028 s (setDieBand s g b) := by
  unfold setDieBand
  repeat' first
    | with_reducible apply Fr.refl | ((with_reducible apply sub_ok); exact rfl) | with_reducible apply Fr.ite
    | with_reducible apply Fr.post (calDie_fr ..) | with_reducible apply Fr.post (applyTierBand_fr ..)
    | with_reducible apply Fr.post (setF_fr ..) | with_reducible apply Fr.post (raiseEv_fr ..) | with_reducible dsimp only
    | with_reducible split

theorem showTrip_fr (s : State) (d : Nat) : Fr 0x8 s (showTrip s d) := by
  unfold showTrip
  repeat' first
    | with_reducible apply Fr.refl | ((with_reducible apply sub_ok); exact rfl) | with_reducible apply Fr.post (setBitF_fr ..)
    | with_reducible dsimp only

theorem holdDie_fr (s : State) (d : Nat) (why : ThmWhy) : Fr 0x1000ac s (holdDie s d why) := by
  unfold holdDie
  repeat' first
    | with_reducible apply Fr.refl | with_reducible assumption | ((with_reducible apply sub_ok); exact rfl)
    | with_reducible apply Fr.post (holdThm_fr ..) | with_reducible refine Fr.foldl (fun _ _ _ => ?_) ?_
    | with_reducible refine Fr.foldl_fst (fun _ _ _ => ?_) ?_ | with_reducible dsimp only

theorem rateFails_fr (s : State) (d : Nat) (k : Nat) (rise : Int) : Fr 0x3200ac s (rateFails s d k rise) := by
  unfold rateFails
  repeat' first
    | with_reducible apply Fr.refl | ((with_reducible apply sub_ok); exact rfl) | with_reducible apply Fr.ite
    | with_reducible apply Fr.post (putDie_fr ..) | with_reducible apply Fr.post (showTrip_fr ..)
    | with_reducible apply Fr.post (holdDie_fr ..) | with_reducible apply Fr.post (bumpF_fr ..)
    | with_reducible apply Fr.post (raiseEv_fr ..) | with_reducible apply Fr.post (setWide_fr ..) | with_reducible dsimp only
    | with_reducible split

theorem dieTrips_fr (s : State) (d : Nat) (stk : Nat) (t : Int) : Fr 0x3003ac s (dieTrips s d stk t) := by
  unfold dieTrips
  repeat' first
    | with_reducible apply Fr.refl | with_reducible assumption | ((with_reducible apply sub_ok); exact rfl)
    | with_reducible apply Fr.ite | with_reducible apply Fr.post (putDie_fr ..) | with_reducible apply Fr.post (setBitF_fr ..)
    | with_reducible apply Fr.post (showTrip_fr ..) | with_reducible apply Fr.post (holdDie_fr ..)
    | with_reducible apply Fr.post (shuCtrlWrite_fr ..) | with_reducible apply Fr.post (bumpF_fr ..)
    | with_reducible apply Fr.post (raiseEv_fr ..) | with_reducible apply Fr.post (shdCtrlWrite_fr ..)
    | with_reducible refine Fr.foldl (fun _ _ _ => ?_) ?_ | with_reducible refine Fr.foldl_fst (fun _ _ _ => ?_) ?_
    | with_reducible dsimp only | with_reducible split

theorem dieTripEnds_fr (s : State) (d : Nat) : Fr 0x200388 s (dieTripEnds s d) := by
  unfold dieTripEnds
  repeat' first
    | with_reducible apply Fr.refl | with_reducible assumption | ((with_reducible apply sub_ok); exact rfl)
    | with_reducible apply Fr.ite | with_reducible apply Fr.post (putDie_fr ..) | with_reducible apply Fr.post (showTrip_fr ..)
    | with_reducible apply Fr.post (shuCtrlWrite_fr ..) | with_reducible apply Fr.post (shdCtrlWrite_fr ..)
    | with_reducible apply Fr.post (releaseThm_fr ..) | with_reducible refine Fr.foldl (fun _ _ _ => ?_) ?_
    | with_reducible refine Fr.foldl_fst (fun _ _ _ => ?_) ?_ | with_reducible dsimp only | with_reducible split

theorem quietEnds_fr (s : State) (d : Nat) : Fr 0x220088 s (quietEnds s d) := by
  unfold quietEnds
  repeat' first
    | with_reducible apply Fr.refl | with_reducible assumption | ((with_reducible apply sub_ok); exact rfl)
    | with_reducible apply Fr.ite | with_reducible apply Fr.post (putDie_fr ..)
    | with_reducible apply Fr.post (tripStallDone_fr ..) | with_reducible apply Fr.post (setBitF_fr ..)
    | with_reducible apply Fr.post (setWide_fr ..) | with_reducible refine Fr.foldl (fun _ _ _ => ?_) ?_
    | with_reducible refine Fr.foldl_fst (fun _ _ _ => ?_) ?_ | with_reducible dsimp only | with_reducible split

theorem tripEnds_fr (s : State) (d : Nat) : Fr 0x200028 s (tripEnds s d) := by
  unfold tripEnds
  repeat' first
    | with_reducible apply Fr.refl | ((with_reducible apply sub_ok); exact rfl) | with_reducible apply Fr.ite
    | with_reducible apply Fr.post (putDie_fr ..) | with_reducible apply Fr.post (setBitF_fr ..)
    | with_reducible apply Fr.post (showTrip_fr ..) | with_reducible apply Fr.post (raiseEv_fr ..) | with_reducible dsimp only
    | with_reducible split

theorem farrierTemp_fr (s : State) (g : Nat) (t : Int) : Fr 0x100088 s (farrierTemp s g t) := by
  unfold farrierTemp
  repeat' first
    | with_reducible apply Fr.refl | with_reducible assumption | ((with_reducible apply sub_ok); exact rfl)
    | with_reducible apply Fr.ite | with_reducible apply Fr.post (queueRun_fr ..)
    | with_reducible apply Fr.post (queueReint_fr ..) | with_reducible apply Fr.post (restoreNodes_fr ..)
    | with_reducible refine Fr.foldl (fun _ _ _ => ?_) ?_ | with_reducible refine Fr.foldl_fst (fun _ _ _ => ?_) ?_
    | with_reducible dsimp only | with_reducible split | with_reducible apply Fr.setFar

theorem farrierLaneTemp_fr (s : State) (t : Int) : Fr 0x100000 s (farrierLaneTemp s t) := by
  unfold farrierLaneTemp
  repeat' first
    | with_reducible apply Fr.refl | with_reducible assumption | ((with_reducible apply sub_ok); exact rfl)
    | with_reducible apply Fr.ite | with_reducible apply Fr.post (queueLane_fr ..)
    | with_reducible refine Fr.foldl (fun _ _ _ => ?_) ?_ | with_reducible refine Fr.foldl_fst (fun _ _ _ => ?_) ?_
    | with_reducible dsimp only | with_reducible split

theorem sensorReading_fr (s : State) (g : Nat) (rd : List Int) : Fr 0x3fffffe s (sensorReading s g rd) := by
  unfold sensorReading
  repeat' first
    | with_reducible apply Fr.refl | with_reducible assumption | ((with_reducible apply sub_ok); exact rfl)
    | with_reducible apply Fr.ite | with_reducible apply Fr.post (setBitF_fr ..) | with_reducible apply Fr.post (setDieBand_fr ..)
    | with_reducible apply Fr.post (rateFails_fr ..) | with_reducible apply Fr.post (dieTrips_fr ..)
    | with_reducible apply Fr.post (farrierTemp_fr ..) | with_reducible apply Fr.post (farrierLaneTemp_fr ..)
    | with_reducible apply Fr.post (setF_fr ..) | with_reducible apply Fr.post (packageTrip_fr ..)
    | with_reducible refine Fr.foldl (fun _ _ _ => ?_) ?_ | with_reducible refine Fr.foldl_fst (fun _ _ _ => ?_) ?_
    | with_reducible dsimp only | with_reducible split | with_reducible apply Fr.setPwr

theorem coolantEvent_fr (s : State) (n : Nat) (was : Nat) (now : Nat) (t : Option Int) : Fr 0x20 s (coolantEvent s n was now t) := by
  unfold coolantEvent
  repeat' first
    | with_reducible apply Fr.refl | ((with_reducible apply sub_ok); exact rfl) | with_reducible apply Fr.ite
    | with_reducible apply Fr.post (raiseEv_fr ..) | with_reducible dsimp only | with_reducible split

theorem contactReading_fr (s : State) (rd : List (Option Int)) : Fr 0x3fffffe s (contactReading s rd) := by
  unfold contactReading
  repeat' first
    | with_reducible apply Fr.refl | with_reducible assumption | ((with_reducible apply sub_ok); exact rfl)
    | with_reducible apply Fr.ite | with_reducible apply Fr.post (coolantEvent_fr ..) | with_reducible apply Fr.post (setF_fr ..)
    | with_reducible apply Fr.post (combFails_fr ..) | with_reducible apply Fr.post (packageTrip_fr ..)
    | with_reducible refine Fr.foldl (fun _ _ _ => ?_) ?_ | with_reducible refine Fr.foldl_fst (fun _ _ _ => ?_) ?_
    | with_reducible dsimp only | with_reducible split | with_reducible apply Fr.setPwr

theorem memTempRead_fr (s : State) (u : Nat) (rd : List MemTemp) : Fr 0x3023ac s (memTempRead s u rd) := by
  unfold memTempRead
  repeat' first
    | with_reducible apply Fr.refl | ((with_reducible apply sub_ok); exact rfl) | with_reducible apply Fr.ite
    | with_reducible apply Fr.post (applyTierBand_fr ..) | with_reducible apply Fr.post (dieTrips_fr ..)
    | with_reducible apply Fr.post (setF_fr ..) | with_reducible apply Fr.post (raiseEv_fr ..) | with_reducible dsimp only
    | with_reducible split | with_reducible apply Fr.setTier

end Sys2Proof.Machine
end

