-- ==== Sys2Proof/Laws/FrHostOps.lean ====
section
/-! SUPPORT. What each operation of Machine/HostOps.lean may touch, and that it keeps the invariant. -/
namespace Sys2Proof.Machine

theorem setHostState_fr (s : State) (c : Nat) (v : Nat) : Fr 0x28 s (setHostState s c v) := by
  unfold setHostState
  repeat' first
    | with_reducible apply Fr.refl | ((with_reducible apply sub_ok); exact rfl) | with_reducible apply Fr.post (setF_fr ..)
    | with_reducible apply Fr.post (raiseEv_fr ..) | with_reducible dsimp only

theorem setMb_fr (s : State) (c : Nat) (st : MbSt) : Fr 0x10000 s (setMb s c st) := by
  unfold setMb
  repeat' first
    | with_reducible apply Fr.refl | ((with_reducible apply sub_ok); exact rfl) | with_reducible apply Fr.post (putHost_fr ..)
    | with_reducible dsimp only

theorem haltMailbox_fr (s : State) (c : Nat) (which : Nat) (v : Nat) : Fr 0x10028 s (haltMailbox s c which v) := by
  unfold haltMailbox
  repeat' first
    | with_reducible apply Fr.refl | ((with_reducible apply sub_ok); exact rfl) | with_reducible apply Fr.ite
    | with_reducible apply Fr.post (setF_fr ..) | with_reducible apply Fr.post (raiseEv_fr ..)
    | with_reducible apply Fr.post (setMb_fr ..) | with_reducible dsimp only | with_reducible split

theorem sqTailWrite_fr (s : State) (c : Nat) (v : Nat) : Fr 0x10028 s (sqTailWrite s c v) := by
  unfold sqTailWrite
  repeat' first
    | with_reducible apply Fr.refl | ((with_reducible apply sub_ok); exact rfl) | with_reducible apply Fr.ite
    | with_reducible apply Fr.post (haltMailbox_fr ..) | with_reducible apply Fr.post (putHost_fr ..) | with_reducible dsimp only
    | with_reducible split

theorem cqHeadWrite_fr (s : State) (c : Nat) (v : Nat) : Fr 0x10028 s (cqHeadWrite s c v) := by
  unfold cqHeadWrite
  repeat' first
    | with_reducible apply Fr.refl | ((with_reducible apply sub_ok); exact rfl) | with_reducible apply Fr.ite
    | with_reducible apply Fr.post (haltMailbox_fr ..) | with_reducible apply Fr.post (putHost_fr ..) | with_reducible dsimp only
    | with_reducible split

theorem cancelBatches_fr (s : State) (f : Batch → Bool) : Fr 0x8000 s (cancelBatches s f) := by
  unfold cancelBatches
  repeat' first
    | with_reducible apply Fr.refl | ((with_reducible apply sub_ok); exact rfl) | with_reducible apply Fr.ite
    | with_reducible dsimp only | with_reducible split | with_reducible apply Fr.setServe

theorem dropPieces_fr (s : State) (c : Nat) : Fr 0x4000 s (dropPieces s c) := by
  unfold dropPieces
  repeat' first
    | with_reducible apply Fr.refl | ((with_reducible apply sub_ok); exact rfl) | with_reducible apply Fr.ite
    | with_reducible dsimp only | with_reducible split | with_reducible apply Fr.setLoft

theorem mailboxReset_fr (s : State) (c : Nat) : Fr 0x81c020 s (mailboxReset s c) := by
  unfold mailboxReset
  repeat' first
    | with_reducible apply Fr.refl | ((with_reducible apply sub_ok); exact rfl) | with_reducible apply Fr.post (raiseEv_fr ..)
    | with_reducible apply Fr.post (cancelBatches_fr ..) | with_reducible apply Fr.post (dropPieces_fr ..)
    | with_reducible apply Fr.post (putHost_fr ..) | with_reducible dsimp only | with_reducible apply Fr.setTack

theorem mbResetWrite_fr (s : State) (c : Nat) : Fr 0x81c020 s (mbResetWrite s c) := by
  unfold mbResetWrite
  repeat' first
    | with_reducible apply Fr.refl | ((with_reducible apply sub_ok); exact rfl) | with_reducible apply Fr.ite
    | with_reducible apply Fr.post (mailboxReset_fr ..) | with_reducible apply Fr.post (putHost_fr ..) | with_reducible dsimp only
    | with_reducible split

theorem openMailbox_fr (s : State) (c : Nat) : Fr 0x81c020 s (openMailbox s c) := by
  unfold openMailbox
  repeat' first
    | with_reducible apply Fr.refl | ((with_reducible apply sub_ok); exact rfl) | with_reducible apply Fr.ite
    | with_reducible apply Fr.post (setMb_fr ..) | with_reducible apply Fr.post (mailboxReset_fr ..) | with_reducible dsimp only
    | with_reducible split

theorem takeEntry_fr (s : State) (c : Nat) : Fr 0x18000 s (takeEntry s c) := by
  unfold takeEntry
  repeat' first
    | with_reducible apply Fr.refl | ((with_reducible apply sub_ok); exact rfl) | with_reducible apply Fr.ite
    | with_reducible apply Fr.post (putHost_fr ..) | with_reducible apply Fr.post (finishCmd_fr ..) | with_reducible dsimp only
    | with_reducible split | with_reducible apply Fr.setServe

theorem wordWritten_fr (s : State) (c : Nat) : Fr 0x8 s (wordWritten s c) := by
  unfold wordWritten
  repeat' first
    | with_reducible apply Fr.refl | ((with_reducible apply sub_ok); exact rfl) | with_reducible apply Fr.post (addF_fr ..)
    | with_reducible dsimp only

theorem runCmd_fr {m : Nat} {s0 s : State} {c op : Nat} {body : State → SubCmd → State} (hs : sub 0x10000 m = true)
    (hb : ∀ s k, Fr m s (body s k)) (h0 : Fr m s0 s) : Fr m s0 (runCmd s c op body) := by
  refine h0.trans ?_
  unfold runCmd
  dsimp only
  split
  · exact Fr.refl _ _
  split
  · exact Fr.refl _ _
  split
  · exact Fr.refl _ _
  have hp : ∀ x, Fr m s (putHost s c x) := fun x => (putHost_fr ..).mono (sub_trans rfl hs)
  split
  · exact Fr.post (finishCmd_fr ..) (sub_trans rfl hs) (hp _)
  split
  · exact Fr.post (finishCmd_fr ..) (sub_trans rfl hs) (hp _)
  · exact (hp _).trans (hb _ _)

theorem writeCompletion_fr (s : State) (c : Nat) : Fr 0x10008 s (writeCompletion s c) := by
  unfold writeCompletion
  repeat' first
    | with_reducible apply Fr.refl | ((with_reducible apply sub_ok); exact rfl) | with_reducible apply Fr.ite
    | with_reducible apply Fr.post (addF_fr ..) | with_reducible apply Fr.post (putHost_fr ..) | with_reducible dsimp only
    | with_reducible split

theorem ringCopy_fr (r : EventRec) (s : State) (c : Nat) : Fr 0x10028 s (ringCopy r s c) := by
  unfold ringCopy
  repeat' first
    | with_reducible apply Fr.refl | ((with_reducible apply sub_ok); exact rfl) | with_reducible apply Fr.ite
    | with_reducible apply Fr.post (setF_fr ..) | with_reducible apply Fr.post (raiseEv_fr ..)
    | with_reducible apply Fr.post (putHost_fr ..) | with_reducible dsimp only | with_reducible split

theorem popQueue_fr (s : State) : Fr 0x20 s (popQueue s) := by
  have h (e : EvLog) (he : e.queue = s.ev.queue.tail) : Fr 0x20 s { s with ev := e } :=
    Fr.setEv _ rfl (fun hq => by rw [he, List.length_tail]; omega) (Fr.refl _ _)
  unfold popQueue
  dsimp only
  split
  · exact Fr.post (raiseEv_fr ..) rfl (h _ rfl)
  · exact h _ rfl

theorem takeEvent_fr (s : State) : Fr 0x10028 s (takeEvent s) := by
  unfold takeEvent
  repeat' first
    | with_reducible apply Fr.refl | with_reducible assumption | ((with_reducible apply sub_ok); exact rfl)
    | with_reducible apply Fr.ite | with_reducible apply Fr.post (ringCopy_fr ..) | with_reducible apply Fr.post (popQueue_fr ..)
    | with_reducible refine Fr.foldl (fun _ _ _ => ?_) ?_ | with_reducible refine Fr.foldl_fst (fun _ _ _ => ?_) ?_
    | with_reducible dsimp only | with_reducible split

theorem enterEvent_fr (s : State) (r : EventRec) : Fr 0x28 s (enterEvent s r) := by
  unfold enterEvent
  split
  · exact Fr.post (bumpF_fr ..) rfl (Fr.setEv _ rfl id (Fr.refl _ _))
  · refine Fr.setEv _ rfl (fun _ => ?_) (Fr.refl _ _)
    simp only [List.length_append, List.length_singleton]
    omega

theorem writeIdentity_fr (s : State) : Fr 0x10000 s (writeIdentity s) := by
  unfold writeIdentity
  repeat' first
    | with_reducible apply Fr.refl | with_reducible assumption | ((with_reducible apply sub_ok); exact rfl)
    | with_reducible apply Fr.post (putHost_fr ..) | with_reducible refine Fr.foldl (fun _ _ _ => ?_) ?_
    | with_reducible refine Fr.foldl_fst (fun _ _ _ => ?_) ?_ | with_reducible dsimp only

theorem putSession_fr (s : State) (x : Session) : Fr 0x8000 s (putSession s x) := by
  unfold putSession
  repeat' first
    | with_reducible apply Fr.refl | ((with_reducible apply sub_ok); exact rfl) | with_reducible apply Fr.ite
    | with_reducible dsimp only | with_reducible split | with_reducible apply Fr.setServe

theorem sessionOpen_fr (s : State) (c : Nat) (k : SubCmd) : Fr 0x18004 s (sessionOpen s c k) := by
  unfold sessionOpen
  repeat' first
    | with_reducible apply Fr.refl | ((with_reducible apply sub_ok); exact rfl) | with_reducible apply Fr.ite
    | with_reducible apply Fr.post (drawn_fr ..) | with_reducible apply Fr.post (finishCmd_fr ..) | with_reducible dsimp only
    | with_reducible split | with_reducible apply Fr.setServe

theorem sessionClose_fr (s : State) (c : Nat) (k : SubCmd) : Fr 0x10000 s (sessionClose s c k) := by
  unfold sessionClose
  repeat' first
    | with_reducible apply Fr.refl | ((with_reducible apply sub_ok); exact rfl) | with_reducible apply Fr.ite
    | with_reducible apply Fr.post (finishCmd_fr ..) | with_reducible dsimp only | with_reducible split

theorem closeSessions_fr (s : State) (c : Nat) : Fr 0x18000 s (closeSessions s c) := by
  unfold closeSessions
  repeat' first
    | with_reducible apply Fr.refl | with_reducible assumption | ((with_reducible apply sub_ok); exact rfl)
    | with_reducible apply Fr.ite | with_reducible apply Fr.post (finishCmd_fr ..)
    | with_reducible refine Fr.foldl (fun _ _ _ => ?_) ?_ | with_reducible refine Fr.foldl_fst (fun _ _ _ => ?_) ?_
    | with_reducible dsimp only | with_reducible split | with_reducible apply Fr.setServe

theorem sessionInfo_fr (s : State) (c : Nat) (k : SubCmd) : Fr 0x10000 s (sessionInfo s c k) := by
  unfold sessionInfo
  repeat' first
    | with_reducible apply Fr.refl | ((with_reducible apply sub_ok); exact rfl) | with_reducible apply Fr.ite
    | with_reducible apply Fr.post (finishCmd_fr ..) | with_reducible dsimp only | with_reducible split

theorem discardCache_fr (gen : Nat) (s : State) (r : Nat) : Fr 0x8000 s (discardCache gen s r) := by
  unfold discardCache
  repeat' first
    | with_reducible apply Fr.refl | ((with_reducible apply sub_ok); exact rfl) | with_reducible apply Fr.ite
    | with_reducible apply Fr.post (putSession_fr ..) | with_reducible dsimp only | with_reducible split

theorem batchStart_fr (s : State) (c : Nat) (k : SubCmd) : Fr 0x1c028 s (batchStart s c k) := by
  unfold batchStart
  repeat' first
    | with_reducible apply Fr.refl | with_reducible assumption | ((with_reducible apply sub_ok); exact rfl)
    | with_reducible apply Fr.ite | with_reducible apply Fr.post (discardCache_fr ..) | with_reducible apply Fr.post (refOp_fr ..)
    | with_reducible apply Fr.post (finishCmd_fr ..) | with_reducible refine Fr.foldl (fun _ _ _ => ?_) ?_
    | with_reducible refine Fr.foldl_fst (fun _ _ _ => ?_) ?_ | with_reducible dsimp only | with_reducible split
    | with_reducible apply Fr.setServe

theorem endRequest_fr (b : Batch) (s : State) (e : Nat × Req × ReqOutcome) : Fr 0x18000 s (endRequest b s e) := by
  unfold endRequest
  repeat' first
    | with_reducible apply Fr.refl | ((with_reducible apply sub_ok); exact rfl) | with_reducible apply Fr.ite
    | with_reducible apply Fr.post (putSession_fr ..) | with_reducible apply Fr.post (putHost_fr ..) | with_reducible dsimp only
    | with_reducible split

theorem takeTurn_fr (s : State) (id : Nat) : Fr 0xc028 s (takeTurn s id) := by
  unfold takeTurn
  repeat' first
    | with_reducible apply Fr.refl | with_reducible assumption | ((with_reducible apply sub_ok); exact rfl)
    | with_reducible apply Fr.ite | with_reducible apply Fr.post (discardCache_fr ..)
    | with_reducible apply Fr.post (endReqs_fr ..) | with_reducible refine Fr.foldl (fun _ _ _ => ?_) ?_
    | with_reducible refine Fr.foldl_fst (fun _ _ _ => ?_) ?_ | with_reducible dsimp only | with_reducible split

theorem endBatch_fr (s : State) (b : Batch) (aborted : Bool) (outs : List ReqOutcome) : Fr 0x1c028 s (endBatch s b aborted outs) := by
  unfold endBatch
  repeat' first
    | with_reducible apply Fr.refl | with_reducible assumption | ((with_reducible apply sub_ok); exact rfl)
    | with_reducible apply Fr.ite | with_reducible apply Fr.post (endRequest_fr ..)
    | with_reducible apply Fr.post (takeTurn_fr ..) | with_reducible apply Fr.post (refOp_fr ..)
    | with_reducible apply Fr.post (finishCmd_fr ..) | with_reducible apply Fr.post (freeMigrated_fr ..)
    | with_reducible refine Fr.foldl (fun _ _ _ => ?_) ?_ | with_reducible refine Fr.foldl_fst (fun _ _ _ => ?_) ?_
    | with_reducible dsimp only | with_reducible split | with_reducible apply Fr.setServe

theorem batchCancel_fr (s : State) (c : Nat) (k : SubCmd) : Fr 0x18000 s (batchCancel s c k) := by
  unfold batchCancel
  repeat' first
    | with_reducible apply Fr.refl | ((with_reducible apply sub_ok); exact rfl) | with_reducible apply Fr.ite
    | with_reducible apply Fr.post (cancelBatches_fr ..) | with_reducible apply Fr.post (finishCmd_fr ..)
    | with_reducible dsimp only | with_reducible split

theorem beginBuild_fr (s : State) (c : Nat) (k : SubCmd) (y : Nat) (slot : Option Nat) (bs : List Nat) : Fr 0x1f82c s (beginBuild s c k y slot bs) := by
  unfold beginBuild
  repeat' first
    | with_reducible apply Fr.refl | ((with_reducible apply sub_ok); exact rfl) | with_reducible apply Fr.ite
    | with_reducible apply Fr.post (setF_fr ..) | with_reducible apply Fr.post (raiseEv_fr ..)
    | with_reducible apply Fr.post (drawn_fr ..) | with_reducible apply Fr.post (failBuild_fr ..)
    | with_reducible apply Fr.post (finishCmd_fr ..) | with_reducible apply Fr.post (baySet_fr ..)
    | with_reducible apply Fr.post (recordBuild_fr ..) | with_reducible dsimp only | with_reducible split
    | with_reducible apply Fr.setLoft

theorem bundleBegin_fr (s : State) (c : Nat) (k : SubCmd) : Fr 0x1f82c s (bundleBegin s c k) := by
  unfold bundleBegin
  repeat' first
    | with_reducible apply Fr.refl | ((with_reducible apply sub_ok); exact rfl) | with_reducible apply Fr.ite
    | with_reducible apply Fr.post (beginBuild_fr ..) | with_reducible apply Fr.post (finishCmd_fr ..) | with_reducible dsimp only
    | with_reducible split

theorem stagePiece_fr (s : State) (c : Nat) (k : SubCmd) (x : StagedChunk) (poff : Nat) (bs : List Nat) : Fr 0x1f82c s (stagePiece s c k x poff bs) := by
  unfold stagePiece
  repeat' first
    | with_reducible apply Fr.refl | ((with_reducible apply sub_ok); exact rfl) | with_reducible apply Fr.ite
    | with_reducible apply Fr.post (finishCmd_fr ..) | with_reducible apply Fr.post (writeRange_fr ..) | with_reducible dsimp only
    | with_reducible split | with_reducible apply Fr.setLoft

theorem bundlePiece_fr (s : State) (c : Nat) (k : SubCmd) : Fr 0x1f82c s (bundlePiece s c k) := by
  unfold bundlePiece
  repeat' first
    | with_reducible apply Fr.refl | ((with_reducible apply sub_ok); exact rfl) | with_reducible apply Fr.ite
    | with_reducible apply Fr.post (stagePiece_fr ..) | with_reducible apply Fr.post (finishCmd_fr ..) | with_reducible dsimp only
    | with_reducible split

theorem slotList_fr (s : State) (c : Nat) (k : SubCmd) : Fr 0x10004 s (slotList s c k) := by
  unfold slotList
  repeat' first
    | with_reducible apply Fr.refl | ((with_reducible apply sub_ok); exact rfl) | with_reducible apply Fr.ite
    | with_reducible apply Fr.post (drawn_fr ..) | with_reducible apply Fr.post (putHost_fr ..)
    | with_reducible apply Fr.post (finishCmd_fr ..) | with_reducible dsimp only | with_reducible split

theorem unitStopWrite_fr (s : State) (kind : Nat) (i : Nat) (cut : Bool) : Fr 0x5e03ac s (unitStopWrite s kind i cut) := by
  unfold unitStopWrite
  repeat' first
    | with_reducible apply Fr.refl | ((with_reducible apply sub_ok); exact rfl) | with_reducible apply Fr.ite
    | with_reducible apply Fr.post (bankCtrlWrite_fr ..) | with_reducible apply Fr.post (monCtrlWrite_fr ..)
    | with_reducible apply Fr.post (shuCtrlWrite_fr ..) | with_reducible apply Fr.post (drvCtrlWrite_fr ..)
    | with_reducible apply Fr.post (ringCtrlWrite_fr ..) | with_reducible apply Fr.post (farCtrlWrite_fr ..)
    | with_reducible apply Fr.post (shdCtrlWrite_fr ..) | with_reducible apply Fr.post (stlCtrlWrite_fr ..)
    | with_reducible dsimp only | with_reducible split

theorem unitStartWrite_fr (s : State) (kind : Nat) (i : Nat) (launch : Bool) : Fr 0x5e03ac s (unitStartWrite s kind i launch) := by
  unfold unitStartWrite
  repeat' first
    | with_reducible apply Fr.refl | ((with_reducible apply sub_ok); exact rfl) | with_reducible apply Fr.ite
    | with_reducible apply Fr.post (bankCtrlWrite_fr ..) | with_reducible apply Fr.post (monCtrlWrite_fr ..)
    | with_reducible apply Fr.post (shuCtrlWrite_fr ..) | with_reducible apply Fr.post (drvCtrlWrite_fr ..)
    | with_reducible apply Fr.post (ringCtrlWrite_fr ..) | with_reducible apply Fr.post (farCtrlWrite_fr ..)
    | with_reducible apply Fr.post (shdCtrlWrite_fr ..) | with_reducible apply Fr.post (stlCtrlWrite_fr ..)
    | with_reducible dsimp only | with_reducible split

theorem unitStop_fr (s : State) (c : Nat) (k : SubCmd) : Fr 0x5f03ac s (unitStop s c k) := by
  unfold unitStop
  repeat' first
    | with_reducible apply Fr.refl | ((with_reducible apply sub_ok); exact rfl) | with_reducible apply Fr.ite
    | with_reducible apply Fr.post (unitStopWrite_fr ..) | with_reducible apply Fr.post (putHost_fr ..)
    | with_reducible apply Fr.post (finishCmd_fr ..) | with_reducible dsimp only | with_reducible split

theorem unitStops_fr (s : State) (c : Nat) : Fr 0x18000 s (unitStops s c) := by
  unfold unitStops
  repeat' first
    | with_reducible apply Fr.refl | with_reducible assumption | ((with_reducible apply sub_ok); exact rfl)
    | with_reducible apply Fr.ite | with_reducible apply Fr.post (cancelBatches_fr ..)
    | with_reducible apply Fr.post (finishCmd_fr ..) | with_reducible refine Fr.foldl (fun _ _ _ => ?_) ?_
    | with_reducible refine Fr.foldl_fst (fun _ _ _ => ?_) ?_ | with_reducible dsimp only | with_reducible split

theorem unitStart_fr (s : State) (c : Nat) (k : SubCmd) : Fr 0x5f03ac s (unitStart s c k) := by
  unfold unitStart
  repeat' first
    | with_reducible apply Fr.refl | ((with_reducible apply sub_ok); exact rfl) | with_reducible apply Fr.ite
    | with_reducible apply Fr.post (unitStartWrite_fr ..) | with_reducible apply Fr.post (finishCmd_fr ..)
    | with_reducible dsimp only | with_reducible split

theorem calRun_fr (s : State) (c : Nat) (k : SubCmd) : Fr 0x110008 s (calRun s c k) := by
  unfold calRun
  repeat' first
    | with_reducible apply Fr.refl | with_reducible assumption | ((with_reducible apply sub_ok); exact rfl)
    | with_reducible apply Fr.ite | with_reducible apply Fr.post (queueRun_fr ..) | with_reducible apply Fr.post (farRunAll_fr ..)
    | with_reducible apply Fr.post (farLaneRunWrite_fr ..) | with_reducible apply Fr.post (finishCmd_fr ..)
    | with_reducible refine Fr.foldl (fun _ _ _ => ?_) ?_ | with_reducible refine Fr.foldl_fst (fun _ _ _ => ?_) ?_
    | with_reducible dsimp only | with_reducible split

theorem calStatus_fr (s : State) (c : Nat) (k : SubCmd) : Fr 0x10000 s (calStatus s c k) := by
  unfold calStatus
  repeat' first
    | with_reducible apply Fr.refl | ((with_reducible apply sub_ok); exact rfl) | with_reducible apply Fr.post (finishCmd_fr ..)
    | with_reducible dsimp only

theorem powerSet_fr (s : State) (c : Nat) (k : SubCmd) : Fr 0x10008 s (powerSet s c k) := by
  unfold powerSet
  repeat' first
    | with_reducible apply Fr.refl | ((with_reducible apply sub_ok); exact rfl) | with_reducible apply Fr.ite
    | with_reducible apply Fr.post (setF_fr ..) | with_reducible apply Fr.post (finishCmd_fr ..) | with_reducible dsimp only
    | with_reducible split

theorem capacitySet_fr (s : State) (c : Nat) (k : SubCmd) : Fr 0x18000 s (capacitySet s c k) := by
  unfold capacitySet
  repeat' first
    | with_reducible apply Fr.refl | ((with_reducible apply sub_ok); exact rfl) | with_reducible apply Fr.ite
    | with_reducible apply Fr.post (finishCmd_fr ..) | with_reducible dsimp only | with_reducible split
    | with_reducible apply Fr.setServe

theorem darkStart_fr (lock0 : Bool) (lock1 : Bool) (sws : List RingSweep) (s : State) (c : Nat) (k : SubCmd) : Fr 0x7f04ec s (darkStart lock0 lock1 sws s c k) := by
  unfold darkStart
  repeat' first
    | with_reducible apply Fr.refl | ((with_reducible apply sub_ok); exact rfl) | with_reducible apply Fr.ite
    | with_reducible apply Fr.post (relightWrite_fr ..) | with_reducible apply Fr.post (finishCmd_fr ..)
    | with_reducible dsimp only | with_reducible split

theorem darkEnds_fr (s : State) (c : Nat) : Fr 0x5b00ac s (darkEnds s c) := by
  unfold darkEnds
  repeat' first
    | with_reducible apply Fr.refl | with_reducible assumption | ((with_reducible apply sub_ok); exact rfl)
    | with_reducible apply Fr.ite | with_reducible apply Fr.post (goDark_fr ..) | with_reducible apply Fr.post (finishCmd_fr ..)
    | with_reducible refine Fr.foldl (fun _ _ _ => ?_) ?_ | with_reducible refine Fr.foldl_fst (fun _ _ _ => ?_) ?_
    | with_reducible dsimp only | with_reducible split

theorem herdSet_fr (s : State) (c : Nat) (k : SubCmd) : Fr 0x410008 s (herdSet s c k) := by
  unfold herdSet
  repeat' first
    | with_reducible apply Fr.refl | with_reducible assumption | ((with_reducible apply sub_ok); exact rfl)
    | with_reducible apply Fr.ite | with_reducible apply Fr.post (setF_fr ..) | with_reducible apply Fr.post (finishCmd_fr ..)
    | with_reducible refine Fr.foldl (fun _ _ _ => ?_) ?_ | with_reducible refine Fr.foldl_fst (fun _ _ _ => ?_) ?_
    | with_reducible dsimp only | with_reducible split | with_reducible apply Fr.setDrove

end Sys2Proof.Machine
end

