-- ==== Sys2Proof/Laws/FrTackOps.lean ====
section
/-! SUPPORT. What each operation of Machine/TackOps.lean may touch, and that it keeps the invariant. -/
namespace Sys2Proof.Machine

theorem showTack_fr (s : State) : Fr 0x8 s (showTack s) := by
  unfold showTack
  repeat' first
    | with_reducible apply Fr.refl | with_reducible assumption | ((with_reducible apply sub_ok); exact rfl)
    | with_reducible apply Fr.post (setF_fr ..) | with_reducible refine Fr.foldl (fun _ _ _ => ?_) ?_
    | with_reducible refine Fr.foldl_fst (fun _ _ _ => ?_) ?_ | with_reducible dsimp only

theorem countWrite_fr (s : State) : Fr 0x800008 s (countWrite s) := by
  unfold countWrite
  repeat' first
    | with_reducible apply Fr.refl | ((with_reducible apply sub_ok); exact rfl) | with_reducible apply Fr.post (setF_fr ..)
    | with_reducible dsimp only | with_reducible apply Fr.setTack

theorem setIndex_fr (s : State) (q : Nat) : Fr 0x800028 s (setIndex s q) := by
  unfold setIndex
  repeat' first
    | with_reducible apply Fr.refl | ((with_reducible apply sub_ok); exact rfl) | with_reducible apply Fr.ite
    | with_reducible apply Fr.post (setF_fr ..) | with_reducible apply Fr.post (raiseEv_fr ..) | with_reducible dsimp only
    | with_reducible split | with_reducible apply Fr.setTack

theorem deliverReport_fr (s : State) (r : SignReq) (bs : List Nat) : Fr 0x410004 s (deliverReport s r bs) := by
  unfold deliverReport
  repeat' first
    | with_reducible apply Fr.refl | with_reducible assumption | ((with_reducible apply sub_ok); exact rfl)
    | with_reducible apply Fr.ite | with_reducible apply Fr.post (c0Own_fr ..) | with_reducible apply Fr.post (putChallenge_fr ..)
    | with_reducible apply Fr.post (drawn_fr ..) | with_reducible apply Fr.post (putHost_fr ..)
    | with_reducible apply Fr.post (finishCmd_fr ..) | with_reducible refine Fr.foldl (fun _ _ _ => ?_) ?_
    | with_reducible refine Fr.foldl_fst (fun _ _ _ => ?_) ?_ | with_reducible dsimp only | with_reducible split

theorem refuseReport_fr (s : State) (r : SignReq) : Fr 0x10020 s (refuseReport s r) := by
  unfold refuseReport
  repeat' first
    | with_reducible apply Fr.refl | ((with_reducible apply sub_ok); exact rfl) | with_reducible apply Fr.ite
    | with_reducible apply Fr.post (raiseEv_fr ..) | with_reducible apply Fr.post (finishCmd_fr ..) | with_reducible dsimp only
    | with_reducible split

theorem signNext_fr (s : State) : Fr 0xc1002c s (signNext s) := by
  unfold signNext
  repeat' first
    | with_reducible apply Fr.refl | ((with_reducible apply sub_ok); exact rfl) | with_reducible apply Fr.ite
    | with_reducible apply Fr.post (drawn_fr ..) | with_reducible apply Fr.post (countWrite_fr ..)
    | with_reducible apply Fr.post (setIndex_fr ..) | with_reducible apply Fr.post (deliverReport_fr ..)
    | with_reducible apply Fr.post (refuseReport_fr ..) | with_reducible dsimp only | with_reducible split
    | with_reducible apply Fr.setTack

theorem treeBuilt_fr (s : State) : Fr 0x800008 s (treeBuilt s) := by
  unfold treeBuilt
  repeat' first
    | with_reducible apply Fr.refl | ((with_reducible apply sub_ok); exact rfl) | with_reducible apply Fr.ite
    | with_reducible apply Fr.post (setF_fr ..) | with_reducible dsimp only | with_reducible split
    | with_reducible apply Fr.setTack

theorem attestStart_fr (s : State) (c : Nat) (k : SubCmd) : Fr 0x810000 s (attestStart s c k) := by
  unfold attestStart
  repeat' first
    | with_reducible apply Fr.refl | ((with_reducible apply sub_ok); exact rfl) | with_reducible apply Fr.ite
    | with_reducible apply Fr.post (finishCmd_fr ..) | with_reducible dsimp only | with_reducible split
    | with_reducible apply Fr.setTack

theorem inboxRead_fr (s : State) (off : Nat) (n : Nat) : Fr 0xf82c s (inboxRead s off n).1 := by
  unfold inboxRead
  repeat' first
    | with_reducible apply Fr.refl | ((with_reducible apply sub_ok); exact rfl) | with_reducible apply Fr.ite
    | with_reducible apply Fr.post (readRange_fr ..) | with_reducible dsimp only | with_reducible split

theorem inboxWrite_fr (s : State) (off : Nat) (bs : List Nat) : Fr 0x1f82c s (inboxWrite s off bs) := by
  unfold inboxWrite
  repeat' first
    | with_reducible apply Fr.refl | ((with_reducible apply sub_ok); exact rfl) | with_reducible apply Fr.ite
    | with_reducible apply Fr.post (putHost_fr ..) | with_reducible apply Fr.post (writeRange_fr ..) | with_reducible dsimp only
    | with_reducible split

theorem endRequestInbox_fr (s : State) (h : List Nat) (status : Nat) (sigs : Nat) : Fr 0x81f82c s (endRequestInbox s h status sigs) := by
  unfold endRequestInbox
  repeat' first
    | with_reducible apply Fr.refl | ((with_reducible apply sub_ok); exact rfl) | with_reducible apply Fr.ite
    | with_reducible apply Fr.post (setF_fr ..) | with_reducible apply Fr.post (raiseEv_fr ..)
    | with_reducible apply Fr.post (inboxWrite_fr ..) | with_reducible dsimp only | with_reducible split
    | with_reducible apply Fr.setTack

theorem inboxImage_fr (s : State) (h : List Nat) : Fr 0xf82c s (inboxImage s h).1 := by
  unfold inboxImage
  repeat' first
    | with_reducible apply Fr.refl | ((with_reducible apply sub_ok); exact rfl) | with_reducible apply Fr.post (inboxRead_fr ..)
    | with_reducible dsimp only

theorem beginBlowing_fr (s : State) (h : List Nat) : Fr 0x80f82c s (beginBlowing s h) := by
  unfold beginBlowing
  repeat' first
    | with_reducible apply Fr.refl | ((with_reducible apply sub_ok); exact rfl) | with_reducible apply Fr.ite
    | with_reducible apply Fr.post (inboxRead_fr ..) | with_reducible dsimp only | with_reducible split
    | with_reducible apply Fr.setTack

theorem inboxPoll_fr (s : State) : Fr 0x81f82c s (inboxPoll s) := by
  unfold inboxPoll
  repeat' first
    | with_reducible apply Fr.refl | ((with_reducible apply sub_ok); exact rfl) | with_reducible apply Fr.ite
    | with_reducible apply Fr.post (setF_fr ..) | with_reducible apply Fr.post (inboxRead_fr ..)
    | with_reducible apply Fr.post (endRequestInbox_fr ..) | with_reducible apply Fr.post (beginBlowing_fr ..)
    | with_reducible dsimp only | with_reducible split

theorem inboxRequest_fr {m : Nat} {s : State} {kind : Nat} {ok : Bool} {act : State → List Nat → Option State}
    (hs : sub 0x81f82c m = true) (ha : ∀ s h t, act s h = some t → Fr m s t) : Fr m s (inboxRequest s kind ok act) := by
  unfold inboxRequest
  dsimp only
  have h1 : Fr m s (inboxRead s 0 256).1 := (inboxRead_fr ..).mono (sub_trans rfl hs)
  have h2 : Fr m s (inboxRead (inboxRead s 0 256).1 0x100 3388).1 := Fr.post (inboxRead_fr ..) (sub_trans rfl hs) h1
  split
  · exact Fr.refl _ _
  split
  · exact Fr.refl _ _
  split
  · exact Fr.post (endRequestInbox_fr ..) (sub_trans rfl hs) h2
  split
  · exact Fr.post (endRequestInbox_fr ..) (sub_trans rfl hs) h2
  · rename_i t ht
    split
    · exact Fr.post (endRequestInbox_fr ..) (sub_trans rfl hs) (Fr.post (showTack_fr ..) (sub_trans rfl hs) (h2.trans (ha _ _ _ ht)))
    · exact Fr.post (endRequestInbox_fr ..) (sub_trans rfl hs) h2

theorem installImage_fr (s : State) (h : List Nat) (t : State) (e : installImage s h = some t) : Fr 0x80f82c s t := by
  unfold installImage at e
  dsimp only at e
  split at e
  · split at e <;> (cases e; exact Fr.setTack _ rfl ((inboxImage_fr ..).mono rfl))
  · cases e

end Sys2Proof.Machine
end

