-- ==== Sys2Proof/Laws/FrSysOps.lean ====
section
/-! SUPPORT. What each operation of Machine/SysOps.lean may touch, and that it keeps the invariant. -/
namespace Sys2Proof.Machine

theorem nmWf_puts {α : Type} [DecidableEq α] (d : Nat → α) (f : Nat → α) (l : List Nat) (m : NMap α) (h : nmWf d m = true) :
    nmWf d (l.foldl (fun m c => nmPut d m c (f c)) m) = true := by
  induction l generalizing m with
  | nil => exact h
  | cons c t ih => exact ih _ (nmWf_put _ _ _ _ h)

theorem packageReset_fr (s : State) (cause : Nat) : Fr 0x3fffffc s (packageReset s cause) := by
  unfold packageReset
  dsimp only
  repeat' first
    | with_reducible apply Fr.post (setF_fr ..)
    | ((with_reducible apply sub_ok); exact rfl)
  refine Fr.foldl (fun _ _ h => ?_) ?_
  · split
    · exact Fr.post (setF_fr ..) rfl h
    · exact h
  · refine Fr.trans ((fusesBlown_fr s).mono rfl) ?_
    exact ⟨fun c hc => by cases c <;> first | rfl | exact absurd hc (by decide),
      fun h => by
        refine inv_of h (nmWf_filter _ _ _) id ?_ ?_ ?_ ?_ ?_ ?_ <;> intro _ <;> first | rfl | exact nmWf_puts _ _ _ _ rfl | exact Nat.zero_le _⟩

theorem packageResetUp_fr (s : State) (cause : Nat) : Fr 0x3fffffc s (packageResetUp s cause) := by
  unfold packageResetUp
  repeat' first
    | with_reducible apply Fr.refl | ((with_reducible apply sub_ok); exact rfl) | with_reducible apply Fr.ite
    | with_reducible apply Fr.post (packageReset_fr ..) | with_reducible dsimp only | with_reducible split

theorem powerOnReset_fr (s : State) (keepTrip : Bool) : Fr 0x3fffffe s (powerOnReset s keepTrip) := by
  unfold powerOnReset
  repeat' first
    | with_reducible apply Fr.refl | ((with_reducible apply sub_ok); exact rfl) | with_reducible apply Fr.ite
    | with_reducible apply Fr.post (setF_fr ..) | with_reducible apply Fr.post (coldState_fr ..) | with_reducible dsimp only
    | with_reducible split

theorem enterRecovery_fr (s : State) : Fr 0x810000 s (enterRecovery s) := by
  unfold enterRecovery
  repeat' first
    | with_reducible apply Fr.refl | with_reducible assumption | ((with_reducible apply sub_ok); exact rfl)
    | with_reducible apply Fr.post (setMb_fr ..) | with_reducible apply Fr.post (writeIdentity_fr ..)
    | with_reducible refine Fr.foldl (fun _ _ _ => ?_) ?_ | with_reducible refine Fr.foldl_fst (fun _ _ _ => ?_) ?_
    | with_reducible dsimp only | with_reducible apply Fr.setTack

theorem signerBoot_fr (s : State) : Fr 0x800028 s (signerBoot s) := by
  unfold signerBoot
  repeat' first
    | with_reducible apply Fr.refl | ((with_reducible apply sub_ok); exact rfl) | with_reducible apply Fr.ite
    | with_reducible apply Fr.post (setF_fr ..) | with_reducible apply Fr.post (countWrite_fr ..)
    | with_reducible apply Fr.post (setIndex_fr ..) | with_reducible dsimp only | with_reducible split
    | with_reducible apply Fr.setTack

theorem altEvent_fr (s : State) (kind : Nat) (fails : Nat) : Fr 0x800000 s (altEvent s kind fails) := by
  unfold altEvent
  repeat' first
    | with_reducible apply Fr.refl | ((with_reducible apply sub_ok); exact rfl) | with_reducible dsimp only
    | with_reducible apply Fr.setTack

theorem bootOstler_fr (s : State) : Fr 0x1810008 s (bootOstler s) := by
  unfold bootOstler
  repeat' first
    | with_reducible apply Fr.refl | ((with_reducible apply sub_ok); exact rfl) | with_reducible apply Fr.ite
    | with_reducible apply Fr.post (setF_fr ..) | with_reducible apply Fr.post (enterRecovery_fr ..)
    | with_reducible apply Fr.post (altEvent_fr ..) | with_reducible apply Fr.post (showTack_fr ..) | with_reducible dsimp only
    | with_reducible split | with_reducible apply Fr.setTack | with_reducible apply Fr.setSys

theorem boot_fr (s : State) (kat : Bool) (fuses : Bool) : Fr 0x1810028 s (boot s kat fuses) := by
  unfold boot
  repeat' first
    | with_reducible apply Fr.refl | ((with_reducible apply sub_ok); exact rfl) | with_reducible apply Fr.ite
    | with_reducible apply Fr.post (setF_fr ..) | with_reducible apply Fr.post (addF_fr ..)
    | with_reducible apply Fr.post (signerBoot_fr ..) | with_reducible apply Fr.post (altEvent_fr ..)
    | with_reducible apply Fr.post (bootOstler_fr ..) | with_reducible dsimp only | with_reducible split
    | with_reducible apply Fr.setTack

theorem ostlerRestart_fr (s : State) (cause : Nat) : Fr 0x3fffffc s (ostlerRestart s cause) := by
  unfold ostlerRestart
  repeat' first
    | with_reducible apply Fr.refl | with_reducible assumption | ((with_reducible apply sub_ok); exact rfl)
    | with_reducible apply Fr.ite | with_reducible apply Fr.post (setF_fr ..) | with_reducible apply Fr.post (addF_fr ..)
    | with_reducible apply Fr.post (farStop_fr ..) | with_reducible apply Fr.post (setMb_fr ..)
    | with_reducible apply Fr.post (failBuild_fr ..) | with_reducible apply Fr.post (putHost_fr ..)
    | with_reducible apply Fr.post (packageResetUp_fr ..) | with_reducible refine Fr.foldl (fun _ _ _ => ?_) ?_
    | with_reducible refine Fr.foldl_fst (fun _ _ _ => ?_) ?_ | with_reducible dsimp only | with_reducible split
    | with_reducible apply Fr.setLoft | with_reducible apply Fr.setSys | with_reducible apply Fr.setLoftSys

theorem endCommands_fr (s : State) : Fr 0x10000 s (endCommands s) := by
  unfold endCommands
  repeat' first
    | with_reducible apply Fr.refl | with_reducible assumption | ((with_reducible apply sub_ok); exact rfl)
    | with_reducible apply Fr.post (finishCmd_fr ..) | with_reducible refine Fr.foldl (fun _ _ _ => ?_) ?_
    | with_reducible refine Fr.foldl_fst (fun _ _ _ => ?_) ?_ | with_reducible dsimp only

theorem abortBatches_fr (s : State) : Fr 0xc028 s (abortBatches s) := by
  unfold abortBatches
  repeat' first
    | with_reducible apply Fr.refl | with_reducible assumption | ((with_reducible apply sub_ok); exact rfl)
    | with_reducible apply Fr.post (refOp_fr ..) | with_reducible apply Fr.post (freeMigrated_fr ..)
    | with_reducible refine Fr.foldl (fun _ _ _ => ?_) ?_ | with_reducible refine Fr.foldl_fst (fun _ _ _ => ?_) ?_
    | with_reducible dsimp only | with_reducible apply Fr.setServe

theorem discardCaches_fr (s : State) : Fr 0x8000 s (discardCaches s) := by
  unfold discardCaches
  repeat' first
    | with_reducible apply Fr.refl | ((with_reducible apply sub_ok); exact rfl) | with_reducible dsimp only
    | with_reducible apply Fr.setServe

theorem reloadOstler_fr (s t : State) (h : reloadOstler s = some t) : Fr 0x1800028 s t := by
  unfold reloadOstler at h
  split at h
  · cases h
  · have e := Option.some.inj h
    subst e
    refine Fr.setTackSys _ _ rfl (Fr.post (setF_fr ..) rfl (Fr.post (setF_fr ..) rfl (Fr.ite ?_ (Fr.refl _ _))))
    exact (raiseEv_fr ..).mono rfl

theorem trialAccepted_fr (s : State) : Fr 0x1800008 s (trialAccepted s) := by
  unfold trialAccepted
  repeat' first
    | with_reducible apply Fr.refl | ((with_reducible apply sub_ok); exact rfl) | with_reducible apply Fr.ite
    | with_reducible apply Fr.post (showTack_fr ..) | with_reducible dsimp only | with_reducible split
    | with_reducible apply Fr.setTack | with_reducible apply Fr.setSys | with_reducible apply Fr.setTackSys

theorem restartEnds_fr (s : State) (cause : Nat) : Fr 0x185c028 s (restartEnds s cause) := by
  unfold restartEnds
  repeat' first
    | with_reducible apply Fr.refl | with_reducible assumption | ((with_reducible apply sub_ok); exact rfl)
    | with_reducible apply Fr.ite | with_reducible apply Fr.post (calNext_fr ..) | with_reducible apply Fr.post (raiseEv_fr ..)
    | with_reducible apply Fr.post (openMailbox_fr ..) | with_reducible apply Fr.post (endCommands_fr ..)
    | with_reducible apply Fr.post (abortBatches_fr ..) | with_reducible apply Fr.post (discardCaches_fr ..)
    | with_reducible apply Fr.post (trialAccepted_fr ..) | with_reducible refine Fr.foldl (fun _ _ _ => ?_) ?_
    | with_reducible refine Fr.foldl_fst (fun _ _ _ => ?_) ?_ | with_reducible dsimp only | with_reducible split
    | with_reducible apply Fr.setLoft | with_reducible apply Fr.setSys | with_reducible apply Fr.setLoftSys

theorem applyStore_fr (s : State) : Fr 0x1001008 s (applyStore s) := by
  unfold applyStore
  repeat' first
    | with_reducible apply Fr.refl | with_reducible assumption | ((with_reducible apply sub_ok); exact rfl)
    | with_reducible apply Fr.ite | with_reducible apply Fr.post (wrReg_fr ..) | with_reducible apply Fr.post (setF_fr ..)
    | with_reducible apply Fr.post (addF_fr ..) | with_reducible refine Fr.foldl (fun _ _ _ => ?_) ?_
    | with_reducible refine Fr.foldl_fst (fun _ _ _ => ?_) ?_ | with_reducible dsimp only | with_reducible split
    | with_reducible apply Fr.setInteg | with_reducible apply Fr.setSys | with_reducible apply Fr.setIntegSys

theorem raiseBoot_fr (s : State) : Fr 0x800020 s (raiseBoot s) := by
  unfold raiseBoot
  repeat' first
    | with_reducible apply Fr.refl | with_reducible assumption | ((with_reducible apply sub_ok); exact rfl)
    | with_reducible apply Fr.post (raiseEv_fr ..) | with_reducible refine Fr.foldl (fun _ _ _ => ?_) ?_
    | with_reducible refine Fr.foldl_fst (fun _ _ _ => ?_) ?_ | with_reducible dsimp only | with_reducible apply Fr.setTack

theorem firstStart_fr (s : State) : Fr 0x1001028 s (firstStart s) := by
  unfold firstStart
  repeat' first
    | with_reducible apply Fr.refl | ((with_reducible apply sub_ok); exact rfl) | with_reducible apply Fr.ite
    | with_reducible apply Fr.post (raiseEv_fr ..) | with_reducible apply Fr.post (applyStore_fr ..) | with_reducible dsimp only
    | with_reducible split | with_reducible apply Fr.setInteg | with_reducible apply Fr.setSys

theorem ostlerStart_fr (s : State) : Fr 0x185d028 s (ostlerStart s) := by
  unfold ostlerStart
  repeat' first
    | with_reducible apply Fr.refl | ((with_reducible apply sub_ok); exact rfl) | with_reducible apply Fr.ite
    | with_reducible apply Fr.post (setF_fr ..) | with_reducible apply Fr.post (writeIdentity_fr ..)
    | with_reducible apply Fr.post (restartEnds_fr ..) | with_reducible apply Fr.post (raiseBoot_fr ..)
    | with_reducible apply Fr.post (firstStart_fr ..) | with_reducible dsimp only | with_reducible split
    | with_reducible apply Fr.setSys | with_reducible apply Fr.setTackSys | with_reducible apply Fr.setIntegTack

theorem unitTrained_fr (s : State) (u : Nat) : Fr 0x3008 s (unitTrained s u) := by
  unfold unitTrained
  repeat' first
    | with_reducible apply Fr.refl | ((with_reducible apply sub_ok); exact rfl) | with_reducible apply Fr.ite
    | with_reducible apply Fr.post (startLap_fr ..) | with_reducible apply Fr.post (setUnitState_fr ..)
    | with_reducible dsimp only | with_reducible split | with_reducible apply Fr.setInteg | with_reducible apply Fr.setTier

theorem ddrAbsent_fr (s : State) (down : Bool) : Fr 0x2008 s (ddrAbsent s down) := by
  unfold ddrAbsent
  repeat' first
    | with_reducible apply Fr.refl | with_reducible assumption | ((with_reducible apply sub_ok); exact rfl)
    | with_reducible apply Fr.post (setF_fr ..) | with_reducible apply Fr.post (setUnitState_fr ..)
    | with_reducible refine Fr.foldl (fun _ _ _ => ?_) ?_ | with_reducible refine Fr.foldl_fst (fun _ _ _ => ?_) ?_
    | with_reducible dsimp only | with_reducible apply Fr.setTier

theorem trainDdr_fr (s : State) (d : DdrTraining) : Fr 0x3028 s (trainDdr s d) := by
  unfold trainDdr
  repeat' first
    | with_reducible apply Fr.refl | with_reducible assumption | ((with_reducible apply sub_ok); exact rfl)
    | with_reducible apply Fr.ite | with_reducible apply Fr.post (setF_fr ..) | with_reducible apply Fr.post (raiseEv_fr ..)
    | with_reducible apply Fr.post (unitTrained_fr ..) | with_reducible apply Fr.post (ddrAbsent_fr ..)
    | with_reducible refine Fr.foldl (fun _ _ _ => ?_) ?_ | with_reducible refine Fr.foldl_fst (fun _ _ _ => ?_) ?_
    | with_reducible dsimp only | with_reducible split | with_reducible apply Fr.setTier

theorem trainMemory_fr (s : State) (hbm : Nat) (d : DdrTraining) : Fr 0x1003028 s (trainMemory s hbm d) := by
  unfold trainMemory
  repeat' first
    | with_reducible apply Fr.refl | with_reducible assumption | ((with_reducible apply sub_ok); exact rfl)
    | with_reducible apply Fr.ite | with_reducible apply Fr.post (unitTrained_fr ..)
    | with_reducible apply Fr.post (trainDdr_fr ..) | with_reducible apply Fr.post (setUnitState_fr ..)
    | with_reducible refine Fr.foldl (fun _ _ _ => ?_) ?_ | with_reducible refine Fr.foldl_fst (fun _ _ _ => ?_) ?_
    | with_reducible dsimp only | with_reducible split | with_reducible apply Fr.setSys

theorem lightGoes_fr (s : State) : Fr 0x17e04ec s (lightGoes s) := by
  unfold lightGoes
  repeat' first
    | with_reducible apply Fr.refl | ((with_reducible apply sub_ok); exact rfl) | with_reducible apply Fr.ite
    | with_reducible apply Fr.post (startBanks_fr ..) | with_reducible apply Fr.post (assignWrite_fr ..)
    | with_reducible apply Fr.post (farCtrlWrite_fr ..) | with_reducible dsimp only | with_reducible split
    | with_reducible apply Fr.setSys

theorem lightPhase_fr (s : State) (lock0 : Bool) (lock1 : Bool) (sws : List RingSweep) : Fr 0x1040000 s (lightPhase s lock0 lock1 sws) := by
  unfold lightPhase
  repeat' first
    | with_reducible apply Fr.refl | with_reducible assumption | ((with_reducible apply sub_ok); exact rfl)
    | with_reducible apply Fr.post (monCtrlWrite_fr ..) | with_reducible refine Fr.foldl (fun _ _ _ => ?_) ?_
    | with_reducible refine Fr.foldl_fst (fun _ _ _ => ?_) ?_ | with_reducible dsimp only | with_reducible apply Fr.setSys

theorem clearHalted_fr (s : State) (n : Nat) : Fr 0x208 s (clearHalted s n) := by
  unfold clearHalted
  repeat' first
    | with_reducible apply Fr.refl | with_reducible assumption | ((with_reducible apply sub_ok); exact rfl)
    | with_reducible apply Fr.ite | with_reducible apply Fr.post (chanCtrlWrite_fr ..)
    | with_reducible refine Fr.foldl (fun _ _ _ => ?_) ?_ | with_reducible refine Fr.foldl_fst (fun _ _ _ => ?_) ?_
    | with_reducible dsimp only | with_reducible split

theorem firmwareActs_fr (s : State) (r : EventRec) : Fr 0x328 s (firmwareActs s r) := by
  unfold firmwareActs
  repeat' first
    | with_reducible apply Fr.refl | ((with_reducible apply sub_ok); exact rfl) | with_reducible apply Fr.ite
    | with_reducible apply Fr.post (shedHalted_fr ..) | with_reducible apply Fr.post (clearHalted_fr ..)
    | with_reducible dsimp only | with_reducible split

theorem popEvent_fr (s : State) : Fr 0x10328 s (popEvent s) := by
  unfold popEvent
  repeat' first
    | with_reducible apply Fr.refl | ((with_reducible apply sub_ok); exact rfl) | with_reducible apply Fr.ite
    | with_reducible apply Fr.post (takeEvent_fr ..) | with_reducible apply Fr.post (firmwareActs_fr ..)
    | with_reducible dsimp only | with_reducible split

theorem levelChange_fr (s : State) (code : Nat) : Fr 0x28 s (levelChange s code) := by
  unfold levelChange
  repeat' first
    | with_reducible apply Fr.refl | ((with_reducible apply sub_ok); exact rfl) | with_reducible apply Fr.ite
    | with_reducible apply Fr.post (setF_fr ..) | with_reducible apply Fr.post (raiseEv_fr ..) | with_reducible dsimp only
    | with_reducible split

theorem retireShed_fr (s : State) (i : Nat) : Fr 0x128 s (retireShed s i) := by
  unfold retireShed
  repeat' first
    | with_reducible apply Fr.refl | ((with_reducible apply sub_ok); exact rfl) | with_reducible apply Fr.ite
    | with_reducible apply Fr.post (putShed_fr ..) | with_reducible apply Fr.post (shdCtrlWrite_fr ..)
    | with_reducible apply Fr.post (carryPlan_fr ..) | with_reducible dsimp only | with_reducible split

theorem retireFailed_fr (s : State) : Fr 0x5ec s (retireFailed s) := by
  unfold retireFailed
  repeat' first
    | with_reducible apply Fr.refl | with_reducible assumption | ((with_reducible apply sub_ok); exact rfl)
    | with_reducible apply Fr.post (retireShed_fr ..) | with_reducible apply Fr.post (retireStall_fr ..)
    | with_reducible refine Fr.foldl (fun _ _ _ => ?_) ?_ | with_reducible refine Fr.foldl_fst (fun _ _ _ => ?_) ?_
    | with_reducible dsimp only

theorem serviceReady_fr (s : State) (katStall : Nat) (katShed : Nat) : Fr 0x181fdec s (serviceReady s katStall katShed) := by
  unfold serviceReady
  repeat' first
    | with_reducible apply Fr.refl | with_reducible assumption | ((with_reducible apply sub_ok); exact rfl)
    | with_reducible apply Fr.ite | with_reducible apply Fr.post (setF_fr ..) | with_reducible apply Fr.post (raiseEv_fr ..)
    | with_reducible apply Fr.post (openMailbox_fr ..) | with_reducible apply Fr.post (placeStaging_fr ..)
    | with_reducible apply Fr.post (trialAccepted_fr ..) | with_reducible apply Fr.post (retireFailed_fr ..)
    | with_reducible refine Fr.foldl (fun _ _ _ => ?_) ?_ | with_reducible refine Fr.foldl_fst (fun _ _ _ => ?_) ?_
    | with_reducible dsimp only | with_reducible split | with_reducible apply Fr.setSys | with_reducible apply Fr.setTackSys

theorem revertTrial_fr (s : State) : Fr 0x3fffffc s (revertTrial s) := by
  unfold revertTrial
  repeat' first
    | with_reducible apply Fr.refl | ((with_reducible apply sub_ok); exact rfl)
    | with_reducible apply Fr.post (packageResetUp_fr ..) | with_reducible apply Fr.post (showTack_fr ..)
    | with_reducible dsimp only | with_reducible apply Fr.setTack

end Sys2Proof.Machine
end

