-- ==== Sys2Proof/Laws/FrBus.lean ====
section
/-! SUPPORT. What each operation of Machine/Bus.lean may touch, and that it keeps the invariant. -/
namespace Sys2Proof.Machine

theorem busTouch_fr (s : State) (req : Requester) (addr : Nat) (width : Nat) : Fr 0x10 s (busTouch s req addr width) := by
  unfold busTouch
  repeat' first
    | with_reducible apply Fr.refl | with_reducible assumption | ((with_reducible apply sub_ok); exact rfl)
    | with_reducible apply Fr.post (busForget_fr ..) | with_reducible refine Fr.foldl (fun _ _ _ => ?_) ?_
    | with_reducible refine Fr.foldl_fst (fun _ _ _ => ?_) ?_ | with_reducible dsimp only

theorem setReply_fr (s : State) (r : Reply) : Fr 0x10 s (setReply s r) := by
  unfold setReply
  repeat' first
    | with_reducible apply Fr.refl | ((with_reducible apply sub_ok); exact rfl) | with_reducible dsimp only
    | with_reducible apply Fr.setBus

theorem readClear_fr (s : State) (r : RegByte) : Fr 0x8 s (readClear s r) := by
  unfold readClear
  repeat' first
    | with_reducible apply Fr.refl | ((with_reducible apply sub_ok); exact rfl) | with_reducible apply Fr.ite
    | with_reducible apply Fr.post (wrReg_fr ..) | with_reducible dsimp only | with_reducible split

theorem busRead_fr (s : State) (req : Requester) (addr : Nat) (width : Nat) : Fr 0x18 s (busRead s req addr width) := by
  unfold busRead
  repeat' first
    | with_reducible apply Fr.refl | ((with_reducible apply sub_ok); exact rfl) | with_reducible apply Fr.ite
    | with_reducible apply Fr.post (busForget_fr ..) | with_reducible apply Fr.post (busTouch_fr ..)
    | with_reducible apply Fr.post (setReply_fr ..) | with_reducible apply Fr.post (readClear_fr ..) | with_reducible dsimp only
    | with_reducible split | with_reducible apply Fr.setBus

theorem writeFields_fr (s : State) (r : RegByte) (v : W64) : Fr 0x8 s (writeFields s r v) := by
  unfold writeFields
  repeat' first
    | with_reducible apply Fr.refl | ((with_reducible apply sub_ok); exact rfl) | with_reducible apply Fr.post (wrReg_fr ..)
    | with_reducible dsimp only

theorem kickWrite_fr (s : State) : Fr 0x1000000 s (kickWrite s) := by
  unfold kickWrite
  repeat' first
    | with_reducible apply Fr.refl | ((with_reducible apply sub_ok); exact rfl) | with_reducible dsimp only
    | with_reducible apply Fr.setSys

theorem evtCtrlWrite_fr (s : State) (v : Nat) : Fr 0x3fffffc s (evtCtrlWrite s v) := by
  unfold evtCtrlWrite
  repeat' first
    | with_reducible apply Fr.refl | ((with_reducible apply sub_ok); exact rfl) | with_reducible apply Fr.ite
    | with_reducible apply Fr.post (popQueue_fr ..) | with_reducible apply Fr.post (packageResetUp_fr ..)
    | with_reducible dsimp only | with_reducible split

theorem evtWdogWrite_fr (s : State) (v : Nat) : Fr 0x1000008 s (evtWdogWrite s v) := by
  unfold evtWdogWrite
  repeat' first
    | with_reducible apply Fr.refl | ((with_reducible apply sub_ok); exact rfl) | with_reducible apply Fr.ite
    | with_reducible apply Fr.post (setF_fr ..) | with_reducible apply Fr.post (kickWrite_fr ..) | with_reducible dsimp only
    | with_reducible split

theorem dlwinWrite_fr (s : State) (d : Nat) (v : Nat) : Fr 0x8 s (dlwinWrite s d v) := by
  unfold dlwinWrite
  repeat' first
    | with_reducible apply Fr.refl | ((with_reducible apply sub_ok); exact rfl) | with_reducible apply Fr.ite
    | with_reducible apply Fr.post (setF_fr ..) | with_reducible dsimp only | with_reducible split

theorem chanArmWrite_fr (s : State) (n : Nat) (c : Nat) (addr : Nat) : Fr 0x200 s (chanArmWrite s n c addr) := by
  unfold chanArmWrite
  repeat' first
    | with_reducible apply Fr.refl | ((with_reducible apply sub_ok); exact rfl) | with_reducible apply Fr.post (putChan_fr ..)
    | with_reducible dsimp only

theorem lteCtrlWrite_fr (s : State) (v : Nat) : Fr 0x7e04ec s (lteCtrlWrite s v) := by
  unfold lteCtrlWrite
  repeat' first
    | with_reducible apply Fr.refl | ((with_reducible apply sub_ok); exact rfl) | with_reducible apply Fr.ite
    | with_reducible apply Fr.post (drawn_fr ..) | with_reducible apply Fr.post (assignWrite_fr ..)
    | with_reducible apply Fr.post (relightWrite_fr ..) | with_reducible apply Fr.post (goDark_fr ..)
    | with_reducible apply Fr.post (restoreWrite_fr ..) | with_reducible dsimp only | with_reducible split

theorem writeActsA_fr : ∀ a ∈ writeActsA, ∀ s q w i v, Fr 0x3fffffc s (a.2 s q w i v) := by
  unfold writeActsA
  repeat' first
    | exact fun _ h => absurd h List.not_mem_nil
    | refine List.forall_mem_append.2 ⟨?_, ?_⟩
    | refine List.forall_mem_cons.2 ⟨fun s q w i v => ?_, ?_⟩
  all_goals dsimp only
  all_goals repeat' first
    | with_reducible apply Fr.refl
    | ((with_reducible apply sub_ok); exact rfl)
    | with_reducible apply Fr.post (bankCtrlWrite_fr ..)
    | with_reducible apply Fr.post (loopFieldWrite_fr ..)
    | with_reducible apply Fr.post (monCtrlWrite_fr ..)
    | with_reducible apply Fr.post (monCfgWrite_fr ..)
    | with_reducible apply Fr.post (trmCodeWrite_fr ..)
    | with_reducible apply Fr.post (tqArmWrite_fr ..)
    | with_reducible apply Fr.post (chanCtrlWrite_fr ..)
    | with_reducible apply Fr.post (shuCtrlWrite_fr ..)
    | with_reducible apply Fr.post (shuClassWrite_fr ..)
    | with_reducible apply Fr.post (shuSeedWrite_fr ..)
    | with_reducible apply Fr.post (sqArm_fr ..)
    | with_reducible apply Fr.post (c0Arm_fr ..)
    | with_reducible apply Fr.post (drvCtrlWrite_fr ..)
    | with_reducible apply Fr.post (drvCfgWrite_fr ..)
    | with_reducible apply Fr.post (wrReg_fr ..)
    | with_reducible apply Fr.post (setF_fr ..)
    | with_reducible apply Fr.post (addF_fr ..)
    | with_reducible apply Fr.post (drawn_fr ..)
    | with_reducible apply Fr.post (busForget_fr ..)
    | with_reducible apply Fr.post (lteCfgWrite_fr ..)
    | with_reducible apply Fr.post (assignWrite_fr ..)
    | with_reducible apply Fr.post (relightWrite_fr ..)
    | with_reducible apply Fr.post (goDark_fr ..)
    | with_reducible apply Fr.post (restoreWrite_fr ..)
    | with_reducible apply Fr.post (ringCtrlWrite_fr ..)
    | with_reducible apply Fr.post (ringCfgWrite_fr ..)
    | with_reducible apply Fr.post (setWide_fr ..)
    | with_reducible apply Fr.post (farCtrlWrite_fr ..)
    | with_reducible apply Fr.post (farStallCtrlWrite_fr ..)
    | with_reducible apply Fr.post (farLaneRunWrite_fr ..)
    | with_reducible apply Fr.post (farCfgWrite_fr ..)
    | with_reducible apply Fr.post (popQueue_fr ..)
    | with_reducible apply Fr.post (refOp_fr ..)
    | with_reducible apply Fr.post (shdCtrlWrite_fr ..)
    | with_reducible apply Fr.post (shdCfgWrite_fr ..)
    | with_reducible apply Fr.post (baySet_fr ..)
    | with_reducible apply Fr.post (packageResetUp_fr ..)
    | with_reducible apply Fr.post (putChan_fr ..)
    | with_reducible apply Fr.post (sidPubWrite_fr ..)
    | with_reducible apply Fr.post (sidRelWrite_fr ..)
    | with_reducible apply Fr.post (sidCtrlWrite_fr ..)
    | with_reducible apply Fr.post (sidCfgWrite_fr ..)
    | with_reducible apply Fr.post (grmCtrlWrite_fr ..)
    | with_reducible apply Fr.post (hndWrite_fr ..)
    | with_reducible apply Fr.post (softRepWrite_fr ..)
    | with_reducible apply Fr.post (flipCtrlWrite_fr ..)
    | with_reducible apply Fr.post (tierCfgWrite_fr ..)
    | with_reducible apply Fr.post (stlCfgWrite_fr ..)
    | with_reducible apply Fr.post (stlResetWrite_fr ..)
    | with_reducible apply Fr.post (stlCtrlWrite_fr ..)
    | with_reducible apply Fr.post (busTouch_fr ..)
    | with_reducible apply Fr.post (setReply_fr ..)
    | with_reducible apply Fr.post (readClear_fr ..)
    | with_reducible apply Fr.post (writeFields_fr ..)
    | with_reducible apply Fr.post (kickWrite_fr ..)
    | with_reducible apply Fr.post (evtCtrlWrite_fr ..)
    | with_reducible apply Fr.post (evtWdogWrite_fr ..)
    | with_reducible apply Fr.post (dlwinWrite_fr ..)
    | with_reducible apply Fr.post (chanArmWrite_fr ..)
    | with_reducible apply Fr.post (lteCtrlWrite_fr ..)
    | with_reducible apply Fr.post (regWriteAny_fr ..)
    | with_reducible apply Fr.post (lightWrite_fr ..)
    | with_reducible apply Fr.post (loftSwitch_fr ..)
    | with_reducible split

theorem writeActsB_fr : ∀ a ∈ writeActsB, ∀ s q w i v, Fr 0x3fffffc s (a.2 s q w i v) := by
  unfold writeActsB
  repeat' first
    | exact fun _ h => absurd h List.not_mem_nil
    | refine List.forall_mem_append.2 ⟨?_, ?_⟩
    | refine List.forall_mem_cons.2 ⟨fun s q w i v => ?_, ?_⟩
  all_goals dsimp only
  all_goals repeat' first
    | with_reducible apply Fr.refl
    | ((with_reducible apply sub_ok); exact rfl)
    | with_reducible apply Fr.post (bankCtrlWrite_fr ..)
    | with_reducible apply Fr.post (loopFieldWrite_fr ..)
    | with_reducible apply Fr.post (monCtrlWrite_fr ..)
    | with_reducible apply Fr.post (monCfgWrite_fr ..)
    | with_reducible apply Fr.post (trmCodeWrite_fr ..)
    | with_reducible apply Fr.post (tqArmWrite_fr ..)
    | with_reducible apply Fr.post (chanCtrlWrite_fr ..)
    | with_reducible apply Fr.post (shuCtrlWrite_fr ..)
    | with_reducible apply Fr.post (shuClassWrite_fr ..)
    | with_reducible apply Fr.post (shuSeedWrite_fr ..)
    | with_reducible apply Fr.post (sqArm_fr ..)
    | with_reducible apply Fr.post (c0Arm_fr ..)
    | with_reducible apply Fr.post (drvCtrlWrite_fr ..)
    | with_reducible apply Fr.post (drvCfgWrite_fr ..)
    | with_reducible apply Fr.post (wrReg_fr ..)
    | with_reducible apply Fr.post (setF_fr ..)
    | with_reducible apply Fr.post (addF_fr ..)
    | with_reducible apply Fr.post (drawn_fr ..)
    | with_reducible apply Fr.post (busForget_fr ..)
    | with_reducible apply Fr.post (lteCfgWrite_fr ..)
    | with_reducible apply Fr.post (assignWrite_fr ..)
    | with_reducible apply Fr.post (relightWrite_fr ..)
    | with_reducible apply Fr.post (goDark_fr ..)
    | with_reducible apply Fr.post (restoreWrite_fr ..)
    | with_reducible apply Fr.post (ringCtrlWrite_fr ..)
    | with_reducible apply Fr.post (ringCfgWrite_fr ..)
    | with_reducible apply Fr.post (setWide_fr ..)
    | with_reducible apply Fr.post (farCtrlWrite_fr ..)
    | with_reducible apply Fr.post (farStallCtrlWrite_fr ..)
    | with_reducible apply Fr.post (farLaneRunWrite_fr ..)
    | with_reducible apply Fr.post (farCfgWrite_fr ..)
    | with_reducible apply Fr.post (popQueue_fr ..)
    | with_reducible apply Fr.post (refOp_fr ..)
    | with_reducible apply Fr.post (shdCtrlWrite_fr ..)
    | with_reducible apply Fr.post (shdCfgWrite_fr ..)
    | with_reducible apply Fr.post (baySet_fr ..)
    | with_reducible apply Fr.post (packageResetUp_fr ..)
    | with_reducible apply Fr.post (putChan_fr ..)
    | with_reducible apply Fr.post (sidPubWrite_fr ..)
    | with_reducible apply Fr.post (sidRelWrite_fr ..)
    | with_reducible apply Fr.post (sidCtrlWrite_fr ..)
    | with_reducible apply Fr.post (sidCfgWrite_fr ..)
    | with_reducible apply Fr.post (grmCtrlWrite_fr ..)
    | with_reducible apply Fr.post (hndWrite_fr ..)
    | with_reducible apply Fr.post (softRepWrite_fr ..)
    | with_reducible apply Fr.post (flipCtrlWrite_fr ..)
    | with_reducible apply Fr.post (tierCfgWrite_fr ..)
    | with_reducible apply Fr.post (stlCfgWrite_fr ..)
    | with_reducible apply Fr.post (stlResetWrite_fr ..)
    | with_reducible apply Fr.post (stlCtrlWrite_fr ..)
    | with_reducible apply Fr.post (busTouch_fr ..)
    | with_reducible apply Fr.post (setReply_fr ..)
    | with_reducible apply Fr.post (readClear_fr ..)
    | with_reducible apply Fr.post (writeFields_fr ..)
    | with_reducible apply Fr.post (kickWrite_fr ..)
    | with_reducible apply Fr.post (evtCtrlWrite_fr ..)
    | with_reducible apply Fr.post (evtWdogWrite_fr ..)
    | with_reducible apply Fr.post (dlwinWrite_fr ..)
    | with_reducible apply Fr.post (chanArmWrite_fr ..)
    | with_reducible apply Fr.post (lteCtrlWrite_fr ..)
    | with_reducible apply Fr.post (regWriteAny_fr ..)
    | with_reducible apply Fr.post (lightWrite_fr ..)
    | with_reducible apply Fr.post (loftSwitch_fr ..)
    | with_reducible split

theorem writeActsC_fr : ∀ a ∈ writeActsC, ∀ s q w i v, Fr 0x3fffffc s (a.2 s q w i v) := by
  unfold writeActsC
  repeat' first
    | exact fun _ h => absurd h List.not_mem_nil
    | refine List.forall_mem_append.2 ⟨?_, ?_⟩
    | refine List.forall_mem_cons.2 ⟨fun s q w i v => ?_, ?_⟩
  all_goals dsimp only
  all_goals repeat' first
    | with_reducible apply Fr.refl
    | ((with_reducible apply sub_ok); exact rfl)
    | with_reducible apply Fr.post (bankCtrlWrite_fr ..)
    | with_reducible apply Fr.post (loopFieldWrite_fr ..)
    | with_reducible apply Fr.post (monCtrlWrite_fr ..)
    | with_reducible apply Fr.post (monCfgWrite_fr ..)
    | with_reducible apply Fr.post (trmCodeWrite_fr ..)
    | with_reducible apply Fr.post (tqArmWrite_fr ..)
    | with_reducible apply Fr.post (chanCtrlWrite_fr ..)
    | with_reducible apply Fr.post (shuCtrlWrite_fr ..)
    | with_reducible apply Fr.post (shuClassWrite_fr ..)
    | with_reducible apply Fr.post (shuSeedWrite_fr ..)
    | with_reducible apply Fr.post (sqArm_fr ..)
    | with_reducible apply Fr.post (c0Arm_fr ..)
    | with_reducible apply Fr.post (drvCtrlWrite_fr ..)
    | with_reducible apply Fr.post (drvCfgWrite_fr ..)
    | with_reducible apply Fr.post (wrReg_fr ..)
    | with_reducible apply Fr.post (setF_fr ..)
    | with_reducible apply Fr.post (addF_fr ..)
    | with_reducible apply Fr.post (drawn_fr ..)
    | with_reducible apply Fr.post (busForget_fr ..)
    | with_reducible apply Fr.post (lteCfgWrite_fr ..)
    | with_reducible apply Fr.post (assignWrite_fr ..)
    | with_reducible apply Fr.post (relightWrite_fr ..)
    | with_reducible apply Fr.post (goDark_fr ..)
    | with_reducible apply Fr.post (restoreWrite_fr ..)
    | with_reducible apply Fr.post (ringCtrlWrite_fr ..)
    | with_reducible apply Fr.post (ringCfgWrite_fr ..)
    | with_reducible apply Fr.post (setWide_fr ..)
    | with_reducible apply Fr.post (farCtrlWrite_fr ..)
    | with_reducible apply Fr.post (farStallCtrlWrite_fr ..)
    | with_reducible apply Fr.post (farLaneRunWrite_fr ..)
    | with_reducible apply Fr.post (farCfgWrite_fr ..)
    | with_reducible apply Fr.post (popQueue_fr ..)
    | with_reducible apply Fr.post (refOp_fr ..)
    | with_reducible apply Fr.post (shdCtrlWrite_fr ..)
    | with_reducible apply Fr.post (shdCfgWrite_fr ..)
    | with_reducible apply Fr.post (baySet_fr ..)
    | with_reducible apply Fr.post (packageResetUp_fr ..)
    | with_reducible apply Fr.post (putChan_fr ..)
    | with_reducible apply Fr.post (sidPubWrite_fr ..)
    | with_reducible apply Fr.post (sidRelWrite_fr ..)
    | with_reducible apply Fr.post (sidCtrlWrite_fr ..)
    | with_reducible apply Fr.post (sidCfgWrite_fr ..)
    | with_reducible apply Fr.post (grmCtrlWrite_fr ..)
    | with_reducible apply Fr.post (hndWrite_fr ..)
    | with_reducible apply Fr.post (softRepWrite_fr ..)
    | with_reducible apply Fr.post (flipCtrlWrite_fr ..)
    | with_reducible apply Fr.post (tierCfgWrite_fr ..)
    | with_reducible apply Fr.post (stlCfgWrite_fr ..)
    | with_reducible apply Fr.post (stlResetWrite_fr ..)
    | with_reducible apply Fr.post (stlCtrlWrite_fr ..)
    | with_reducible apply Fr.post (busTouch_fr ..)
    | with_reducible apply Fr.post (setReply_fr ..)
    | with_reducible apply Fr.post (readClear_fr ..)
    | with_reducible apply Fr.post (writeFields_fr ..)
    | with_reducible apply Fr.post (kickWrite_fr ..)
    | with_reducible apply Fr.post (evtCtrlWrite_fr ..)
    | with_reducible apply Fr.post (evtWdogWrite_fr ..)
    | with_reducible apply Fr.post (dlwinWrite_fr ..)
    | with_reducible apply Fr.post (chanArmWrite_fr ..)
    | with_reducible apply Fr.post (lteCtrlWrite_fr ..)
    | with_reducible apply Fr.post (regWriteAny_fr ..)
    | with_reducible apply Fr.post (lightWrite_fr ..)
    | with_reducible apply Fr.post (loftSwitch_fr ..)
    | with_reducible split

theorem regWriteAny_fr (s : State) (req : Requester) (r : RegByte) (v : Nat) : Fr 0x3fffffc s (regWriteAny s req r v) := by
  have hl : ∀ d f, writeAct d = some f → ∀ s q w i v, Fr 0x3fffffc s (f s q w i v) := by
    intro d f h
    obtain ⟨a, ha, rfl⟩ := Option.map_eq_some_iff.1 h
    have := List.mem_of_find?_eq_some ha
    split at this
    · exact writeActsA_fr _ this
    split at this
    · exact writeActsB_fr _ this
    · exact writeActsC_fr _ this
  unfold regWriteAny
  split
  · exact (loopFieldWrite_fr ..).mono rfl
  split
  · exact hl _ _ (by assumption) ..
  · exact (writeFields_fr ..).mono rfl

theorem lightWrite_fr (s : State) (r : RegByte) (v : Nat) : Fr 0x8 s (lightWrite s r v) := by
  unfold lightWrite
  repeat' first
    | with_reducible apply Fr.refl | ((with_reducible apply sub_ok); exact rfl) | with_reducible apply Fr.ite
    | with_reducible apply Fr.post (wrReg_fr ..) | with_reducible apply Fr.post (setF_fr ..) | with_reducible dsimp only
    | with_reducible split

theorem regWrite_fr (s : State) (req : Requester) (r : RegByte) (v : Nat) : Fr 0x3fffffc s (regWrite s req r v) := by
  unfold regWrite
  repeat' first
    | with_reducible apply Fr.refl | ((with_reducible apply sub_ok); exact rfl) | with_reducible apply Fr.ite
    | with_reducible apply Fr.post (regWriteAny_fr ..) | with_reducible apply Fr.post (lightWrite_fr ..)
    | with_reducible dsimp only | with_reducible split

theorem busWrite_fr (s : State) (req : Requester) (addr : Nat) (width : Nat) (v : Nat) : Fr 0x3fffffc s (busWrite s req addr width v) := by
  unfold busWrite
  repeat' first
    | with_reducible apply Fr.refl | ((with_reducible apply sub_ok); exact rfl) | with_reducible apply Fr.ite
    | with_reducible apply Fr.post (busForget_fr ..) | with_reducible apply Fr.post (busTouch_fr ..)
    | with_reducible apply Fr.post (setReply_fr ..) | with_reducible apply Fr.post (regWrite_fr ..) | with_reducible dsimp only
    | with_reducible split | with_reducible apply Fr.setBus

end Sys2Proof.Machine
end

