-- ==== Sys2Proof/Laws/FrCmdBus.lean ====
section
/-! SUPPORT. What each operation of Machine/CmdBus.lean may touch, and that it keeps the invariant. -/
namespace Sys2Proof.Machine

theorem execRegisterWrite_fr (req : Requester) (addr : BitVec 48) (width : Fin 65) (value : W64) (s : State) : Ends 0x3fffffc s (execRegisterWrite req addr width value s) := by
  unfold execRegisterWrite
  repeat' first
    | with_reducible apply Fr.refl | ((with_reducible apply sub_ok); exact rfl) | with_reducible apply Ends.next
    | with_reducible apply Ends.ite | with_reducible apply Fr.post (busWrite_fr ..) | with_reducible dsimp only

theorem execLowHalfWrite_fr (req : Requester) (addr : BitVec 48) (value : W32) (s : State) : Ends 0x3fffffc s (execLowHalfWrite req addr value s) := by
  unfold execLowHalfWrite
  repeat' first
    | with_reducible apply Fr.refl | ((with_reducible apply sub_ok); exact rfl) | with_reducible apply Ends.next
    | with_reducible apply Ends.ite | with_reducible apply Fr.post (busWrite_fr ..) | with_reducible dsimp only

theorem execHighHalfWrite_fr (req : Requester) (addr : BitVec 48) (value : W32) (s : State) : Ends 0x3fffffc s (execHighHalfWrite req addr value s) := by
  unfold execHighHalfWrite
  repeat' first
    | with_reducible apply Fr.refl | ((with_reducible apply sub_ok); exact rfl) | with_reducible apply Ends.next
    | with_reducible apply Ends.ite | with_reducible apply Fr.post (busWrite_fr ..) | with_reducible dsimp only

theorem execLowHalfRead_fr (req : Requester) (addr : BitVec 48) (s : State) : Ends 0x18 s (execLowHalfRead req addr s) := by
  unfold execLowHalfRead
  repeat' first
    | with_reducible apply Fr.refl | ((with_reducible apply sub_ok); exact rfl) | with_reducible apply Ends.next
    | with_reducible apply Ends.ite | with_reducible apply Fr.post (busRead_fr ..) | with_reducible dsimp only

theorem execHighHalfRead_fr (req : Requester) (addr : BitVec 48) (s : State) : Ends 0x18 s (execHighHalfRead req addr s) := by
  unfold execHighHalfRead
  repeat' first
    | with_reducible apply Fr.refl | ((with_reducible apply sub_ok); exact rfl) | with_reducible apply Ends.next
    | with_reducible apply Ends.ite | with_reducible apply Fr.post (busRead_fr ..) | with_reducible dsimp only

theorem execRcRead_fr (req : Requester) (addr : BitVec 48) (width : Fin 65) (s : State) : Ends 0x18 s (execRcRead req addr width s) := by
  unfold execRcRead
  repeat' first
    | with_reducible apply Fr.refl | ((with_reducible apply sub_ok); exact rfl) | with_reducible apply Ends.next
    | with_reducible apply Ends.ite | with_reducible apply Fr.post (busRead_fr ..) | with_reducible dsimp only

theorem execSeedWrite_fr (reg : ShuAt) (value : W64) (s : State) : Ends 0x218 s (execSeedWrite reg value s) := by
  unfold execSeedWrite
  repeat' first
    | with_reducible apply Fr.refl | ((with_reducible apply sub_ok); exact rfl) | with_reducible apply Ends.next
    | with_reducible apply Ends.ite | with_reducible apply Fr.post (shuSeedWrite_fr ..)
    | with_reducible apply Fr.post (busForget_fr ..) | with_reducible dsimp only

theorem execEventRecordArrival_fr (idx : List Nat) (s : State) : Ends 0x28 s (execEventRecordArrival idx s) := by
  unfold execEventRecordArrival
  repeat' first
    | with_reducible apply Fr.refl | with_reducible assumption | ((with_reducible apply sub_ok); exact rfl)
    | with_reducible apply Ends.next | with_reducible apply Fr.ite | with_reducible apply Ends.ite
    | with_reducible apply Fr.post (enterEvent_fr ..) | with_reducible refine Fr.foldl (fun _ _ _ => ?_) ?_
    | with_reducible refine Fr.foldl_fst (fun _ _ _ => ?_) ?_ | with_reducible dsimp only | with_reducible split
    | with_reducible refine Fr.setEv _ ?_ id ?_

theorem controlAccess_fr (s : State) (req : Requester) (a : Access) : Fr 0x3fffffc s (controlAccess s req a).s := by
  unfold controlAccess
  repeat' first
    | with_reducible apply Fr.refl | ((with_reducible apply sub_ok); exact rfl) | with_reducible apply Fr.ite
    | with_reducible apply Fr.post (busRead_fr ..) | with_reducible apply Fr.post (busWrite_fr ..) | with_reducible dsimp only
    | with_reducible split

theorem storeEnd_fr {m : Nat} {s : State} {w : State × Bool} (bytes : List Nat) (h : Fr m s w.1) : Fr m s (storeEnd w bytes).s := h

theorem memoryAccess_fr (s : State) (a : Access) : Fr 0xf82c s (memoryAccess s a).s := by
  unfold memoryAccess
  split
  · exact Fr.refl _ _
  split
  · exact storeEnd_fr _ ((memWriteBytes_fr ..).mono rfl)
  · exact storeEnd_fr _ ((memWriteBytes_fr ..).mono rfl)
  · dsimp only
    split
    · exact (memRead_fr ..).mono rfl
    · exact storeEnd_fr _ (Fr.post (memWriteBytes_fr ..) rfl ((memRead_fr ..).mono rfl))
  · exact (memRead_fr ..).mono rfl

theorem execLoadResultReturn_fr (shed : Fin 64) (thread : Fin 256) (idx : Nat) (s : State) : Ends 0x3fffffc s (execLoadResultReturn shed thread idx s) := by
  unfold execLoadResultReturn
  repeat' first
    | with_reducible apply Fr.refl | ((with_reducible apply sub_ok); exact rfl) | with_reducible apply Ends.next
    | with_reducible apply Fr.ite | with_reducible apply Ends.ite | with_reducible apply Fr.post (putThread_fr ..)
    | with_reducible apply Fr.post (controlAccess_fr ..) | with_reducible apply Fr.post (memoryAccess_fr ..)
    | with_reducible dsimp only | with_reducible split

end Sys2Proof.Machine
end

