-- ==== Sys2Proof/Laws/FrCmdDrove.lean ====
section
/-! SUPPORT. What each operation of Machine/CmdDrove.lean may touch, and that it keeps the invariant. -/
namespace Sys2Proof.Machine

theorem execSendArm_fr (reg : PortAt) (addr : BitVec 48) (s : State) : Ends 0x40f83c s (execSendArm reg addr s) := by
  unfold execSendArm
  repeat' first
    | with_reducible apply Fr.refl | ((with_reducible apply sub_ok); exact rfl) | with_reducible apply Ends.next
    | with_reducible apply Ends.ite | with_reducible apply Fr.post (sqArm_fr ..) | with_reducible apply Fr.post (busForget_fr ..)
    | with_reducible dsimp only

theorem execLaneFrameStart_fr (port : Fin 8) (s : State) : Ends 0x40f82c s (execLaneFrameStart port s) := by
  unfold execLaneFrameStart
  repeat' first
    | with_reducible apply Fr.refl | with_reducible assumption | ((with_reducible apply sub_ok); exact rfl)
    | with_reducible apply Ends.next | with_reducible apply Fr.ite | with_reducible apply Ends.ite
    | with_reducible apply Fr.post (putPort_fr ..) | with_reducible apply Fr.post (placeOn_fr ..)
    | with_reducible apply Fr.post (idleAir_fr ..) | with_reducible apply Fr.post (c0Direct_fr ..)
    | with_reducible apply Fr.post (c0Send_fr ..) | with_reducible apply Fr.post (c0SendOnly_fr ..)
    | with_reducible apply Fr.post (probeLane_fr ..) | with_reducible apply Fr.post (frameDue_fr ..)
    | with_reducible apply Fr.post (setF_fr ..) | with_reducible refine Fr.foldl (fun _ _ _ => ?_) ?_
    | with_reducible refine Fr.foldl_fst (fun _ _ _ => ?_) ?_ | with_reducible dsimp only | with_reducible split

theorem execDataFrameReceive_fr (port : Fin 8) (frame : DataFrame) (tagOk : Bool) (errs : List Nat) (s : State) : Ends 0x40f82c s (execDataFrameReceive port frame tagOk errs s) := by
  unfold execDataFrameReceive
  repeat' first
    | with_reducible apply Fr.refl | ((with_reducible apply sub_ok); exact rfl) | with_reducible apply Ends.next
    | with_reducible apply Ends.ite | with_reducible apply Fr.post (receiveData_fr ..) | with_reducible dsimp only

theorem execAckReceive_fr (port : Fin 8) (src : Fin 16) (entries : List AckEntry) (s : State) : Ends 0x400028 s (execAckReceive port src entries s) := by
  unfold execAckReceive
  repeat' first
    | with_reducible apply Fr.refl | with_reducible assumption | ((with_reducible apply sub_ok); exact rfl)
    | with_reducible apply Ends.next | with_reducible apply Ends.ite | with_reducible apply Fr.post (ackEntry_fr ..)
    | with_reducible refine Fr.foldl (fun _ _ _ => ?_) ?_ | with_reducible refine Fr.foldl_fst (fun _ _ _ => ?_) ?_
    | with_reducible dsimp only

theorem execFrameResendTimeout_fr (port : Fin 8) (key : ResendKey) (s : State) : Ends 0x400028 s (execFrameResendTimeout port key s) := by
  unfold execFrameResendTimeout
  repeat' first
    | with_reducible apply Fr.refl | ((with_reducible apply sub_ok); exact rfl) | with_reducible apply Ends.next
    | with_reducible apply Fr.ite | with_reducible apply Ends.ite | with_reducible apply Fr.post (putPort_fr ..)
    | with_reducible apply Fr.post (resend_fr ..) | with_reducible dsimp only | with_reducible split

theorem execTransferReceived_fr (port : Fin 8) (src : Fin 16) (xfer : W16) (s : State) : Ends 0x400040 s (execTransferReceived port src xfer s) := by
  unfold execTransferReceived
  repeat' first
    | with_reducible apply Fr.refl | ((with_reducible apply sub_ok); exact rfl) | with_reducible apply Ends.next
    | with_reducible apply Fr.ite | with_reducible apply Ends.ite | with_reducible apply Fr.post (putPort_fr ..)
    | with_reducible apply Fr.post (sendSbx_fr ..) | with_reducible dsimp only | with_reducible split

theorem execTransferDone_fr (port : Fin 8) (xfer : W16) (s : State) : Ends 0x400048 s (execTransferDone port xfer s) := by
  unfold execTransferDone
  repeat' first
    | with_reducible apply Fr.refl | ((with_reducible apply sub_ok); exact rfl) | with_reducible apply Ends.next
    | with_reducible apply Fr.ite | with_reducible apply Ends.ite | with_reducible apply Fr.post (putPort_fr ..)
    | with_reducible apply Fr.post (countSq_fr ..) | with_reducible apply Fr.post (sendSbx_fr ..) | with_reducible dsimp only
    | with_reducible split

theorem joinLost_fr (s : State) (p : Nat) (draw : Nat) : Fr 0x400028 s (joinLost s p draw) := by
  unfold joinLost
  repeat' first
    | with_reducible apply Fr.refl | ((with_reducible apply sub_ok); exact rfl) | with_reducible apply Fr.ite
    | with_reducible apply Fr.post (putPort_fr ..) | with_reducible apply Fr.post (slotLost_fr ..) | with_reducible dsimp only
    | with_reducible split

theorem execReservation_fr (port : Fin 8) (slot : Fin 32) (heard : Bool) (draw : Nat) (s : State) : Ends 0x400028 s (execReservation port slot heard draw s) := by
  unfold execReservation
  repeat' first
    | with_reducible apply Fr.refl | ((with_reducible apply sub_ok); exact rfl) | with_reducible apply Ends.next
    | with_reducible apply Fr.ite | with_reducible apply Ends.ite | with_reducible apply Fr.post (putPort_fr ..)
    | with_reducible apply Fr.post (slotLost_fr ..) | with_reducible apply Fr.post (joinLost_fr ..) | with_reducible dsimp only
    | with_reducible split

theorem execReservationBackoffEnd_fr (port : Fin 8) (s : State) : Ends 0x400000 s (execReservationBackoffEnd port s) := by
  unfold execReservationBackoffEnd
  repeat' first
    | with_reducible apply Fr.refl | ((with_reducible apply sub_ok); exact rfl) | with_reducible apply Ends.next
    | with_reducible apply Fr.ite | with_reducible apply Ends.ite | with_reducible apply Fr.post (putPort_fr ..)
    | with_reducible dsimp only | with_reducible split

theorem execGrant_fr (port : Fin 8) (heard : List ResReq) (owners : List Nat) (news : GrantNews) (s : State) : Ends 0x400028 s (execGrant port heard owners news s) := by
  unfold execGrant
  repeat' first
    | with_reducible apply Fr.refl | with_reducible assumption | ((with_reducible apply sub_ok); exact rfl)
    | with_reducible apply Ends.next | with_reducible apply Fr.ite | with_reducible apply Ends.ite
    | with_reducible apply Fr.post (putPort_fr ..) | with_reducible apply Fr.post (stranger_fr ..)
    | with_reducible apply Fr.post (leaderGrants_fr ..) | with_reducible apply Fr.post (sendGrant_fr ..)
    | with_reducible apply Fr.post (takeNews_fr ..) | with_reducible apply Fr.post (ownGrant_fr ..)
    | with_reducible apply Fr.post (setF_fr ..) | with_reducible refine Fr.foldl (fun _ _ _ => ?_) ?_
    | with_reducible refine Fr.foldl_fst (fun _ _ _ => ?_) ?_ | with_reducible dsimp only | with_reducible split

theorem ownSlotSend_fr (s : State) (p : Nat) : Fr 0x400008 s (ownSlotSend s p) := by
  unfold ownSlotSend
  repeat' first
    | with_reducible apply Fr.refl | ((with_reducible apply sub_ok); exact rfl) | with_reducible apply Fr.ite
    | with_reducible apply Fr.post (c0Direct_fr ..) | with_reducible apply Fr.post (c0SendOnly_fr ..) | with_reducible dsimp only
    | with_reducible split

theorem loopMeasured_fr (s : State) (p : Nat) (delay : Nat) : Fr 0x400028 s (loopMeasured s p delay) := by
  unfold loopMeasured
  repeat' first
    | with_reducible apply Fr.refl | ((with_reducible apply sub_ok); exact rfl) | with_reducible apply Fr.ite
    | with_reducible apply Fr.post (putPort_fr ..) | with_reducible apply Fr.post (portGoesDown_fr ..) | with_reducible dsimp only
    | with_reducible split

theorem execOwnedSlot_fr (slot : OwnSlot) (s : State) : Ends 0x400028 s (execOwnedSlot slot s) := by
  unfold execOwnedSlot
  repeat' first
    | with_reducible apply Fr.refl | ((with_reducible apply sub_ok); exact rfl) | with_reducible apply Ends.next
    | with_reducible apply Fr.ite | with_reducible apply Ends.ite | with_reducible apply Fr.post (ownSlotSend_fr ..)
    | with_reducible apply Fr.post (loopMeasured_fr ..) | with_reducible dsimp only | with_reducible split

theorem execMemberSilent_fr (port : Fin 8) (idx : Fin 16) (s : State) : Ends 0x40002c s (execMemberSilent port idx s) := by
  unfold execMemberSilent
  repeat' first
    | with_reducible apply Fr.refl | ((with_reducible apply sub_ok); exact rfl) | with_reducible apply Ends.next
    | with_reducible apply Fr.ite | with_reducible apply Ends.ite | with_reducible apply Fr.post (memberLeaves_fr ..)
    | with_reducible dsimp only | with_reducible split

theorem execLeaderElection_fr (port : Fin 8) (idx : Fin 16) (s : State) : Ends 0x40002c s (execLeaderElection port idx s) := by
  unfold execLeaderElection
  repeat' first
    | with_reducible apply Fr.refl | ((with_reducible apply sub_ok); exact rfl) | with_reducible apply Ends.next
    | with_reducible apply Fr.ite | with_reducible apply Ends.ite | with_reducible apply Fr.post (electLeader_fr ..)
    | with_reducible apply Fr.post (leadAlone_fr ..) | with_reducible dsimp only | with_reducible split

theorem execHandover_fr (port : Fin 8) (idx : Fin 16) (s : State) : Ends 0x400000 s (execHandover port idx s) := by
  unfold execHandover
  repeat' first
    | with_reducible apply Fr.refl | ((with_reducible apply sub_ok); exact rfl) | with_reducible apply Ends.next
    | with_reducible apply Fr.ite | with_reducible apply Ends.ite | with_reducible apply Fr.post (putPort_fr ..)
    | with_reducible apply Fr.post (c0Own_fr ..) | with_reducible dsimp only | with_reducible split

theorem execC0TxArm_fr (req : Requester) (port : Fin 8) (addr : BitVec 48) (s : State) : Ends 0x40f83c s (execC0TxArm req port addr s) := by
  unfold execC0TxArm
  repeat' first
    | with_reducible apply Fr.refl | ((with_reducible apply sub_ok); exact rfl) | with_reducible apply Ends.next
    | with_reducible apply Fr.ite | with_reducible apply Ends.ite | with_reducible apply Fr.post (c0Arm_fr ..)
    | with_reducible apply Fr.post (busForget_fr ..) | with_reducible dsimp only | with_reducible split

theorem execC0FrameReceive_fr (port : Fin 8) (frame : C0Frame) (tagOk : Bool) (errs : Nat) (s : State) : Ends 0x40f82c s (execC0FrameReceive port frame tagOk errs s) := by
  unfold execC0FrameReceive
  repeat' first
    | with_reducible apply Fr.refl | ((with_reducible apply sub_ok); exact rfl) | with_reducible apply Ends.next
    | with_reducible apply Fr.ite | with_reducible apply Ends.ite | with_reducible apply Fr.post (putPort_fr ..)
    | with_reducible apply Fr.post (c0Ring_fr ..) | with_reducible apply Fr.post (stranger_fr ..)
    | with_reducible apply Fr.post (countErrors_fr ..) | with_reducible apply Fr.post (oweC0Ack_fr ..) | with_reducible dsimp only
    | with_reducible split

theorem execEpochChange_fr (port : Fin 8) (reason : Fin 4) (epoch : W32) (starts : KeyStart) (s : State) : Ends 0x400004 s (execEpochChange port reason epoch starts s) := by
  unfold execEpochChange
  repeat' first
    | with_reducible apply Fr.refl | ((with_reducible apply sub_ok); exact rfl) | with_reducible apply Ends.next
    | with_reducible apply Fr.ite | with_reducible apply Ends.ite | with_reducible apply Fr.post (putPort_fr ..)
    | with_reducible apply Fr.post (openEpoch_fr ..) | with_reducible dsimp only | with_reducible split

theorem execAdmit_fr (port : Fin 8) (msg : AdmitMsg) (s : State) : Ends 0xc0002c s (execAdmit port msg s) := by
  unfold execAdmit
  repeat' first
    | with_reducible apply Fr.refl | ((with_reducible apply sub_ok); exact rfl) | with_reducible apply Ends.next
    | with_reducible apply Fr.ite | with_reducible apply Ends.ite | with_reducible apply Fr.post (putPort_fr ..)
    | with_reducible apply Fr.post (sendHerdKey_fr ..) | with_reducible apply Fr.post (portComesUp_fr ..)
    | with_reducible apply Fr.post (setF_fr ..) | with_reducible apply Fr.post (raiseEv_fr ..)
    | with_reducible apply Fr.post (drawn_fr ..) | with_reducible dsimp only | with_reducible split
    | with_reducible apply Fr.setTack

theorem execLeave_fr (port : Fin 8) (idx : Fin 16) (removed : Bool) (s : State) : Ends 0x40002c s (execLeave port idx removed s) := by
  unfold execLeave
  repeat' first
    | with_reducible apply Fr.refl | ((with_reducible apply sub_ok); exact rfl) | with_reducible apply Ends.next
    | with_reducible apply Fr.ite | with_reducible apply Ends.ite | with_reducible apply Fr.post (memberLeaves_fr ..)
    | with_reducible dsimp only | with_reducible split

theorem execLaneDrop_fr (port : Fin 8) (lane : Fin 32) (rx : Bool) (cause : Fin 5) (s : State) : Ends 0x500028 s (execLaneDrop port lane rx cause s) := by
  unfold execLaneDrop
  repeat' first
    | with_reducible apply Fr.refl | ((with_reducible apply sub_ok); exact rfl) | with_reducible apply Ends.next
    | with_reducible apply Fr.ite | with_reducible apply Ends.ite | with_reducible apply Fr.post (dropLane_fr ..)
    | with_reducible apply Fr.post (farrierAsks_fr ..) | with_reducible apply Fr.post (setF_fr ..) | with_reducible dsimp only
    | with_reducible split

theorem execLanemap_fr (port : Fin 8) (src : Fin 16) (tx : W32) (rx : W32) (s : State) : Ends 0x400000 s (execLanemap port src tx rx s) := by
  unfold execLanemap
  repeat' first
    | with_reducible apply Fr.refl | ((with_reducible apply sub_ok); exact rfl) | with_reducible apply Ends.next
    | with_reducible apply Fr.ite | with_reducible apply Ends.ite | with_reducible apply Fr.post (announceReturn_fr ..)
    | with_reducible apply Fr.post (farMasks_fr ..) | with_reducible dsimp only | with_reducible split

theorem execLaneProbe_fr (port : Fin 8) (lane : Fin 32) (rx : Bool) (ucw : Nat) (s : State) : Ends 0x400008 s (execLaneProbe port lane rx ucw s) := by
  unfold execLaneProbe
  repeat' first
    | with_reducible apply Fr.refl | ((with_reducible apply sub_ok); exact rfl) | with_reducible apply Ends.next
    | with_reducible apply Fr.ite | with_reducible apply Ends.ite | with_reducible apply Fr.post (putPort_fr ..)
    | with_reducible apply Fr.post (laneLater_fr ..) | with_reducible apply Fr.post (noteProbe_fr ..)
    | with_reducible apply Fr.post (announce_fr ..) | with_reducible apply Fr.post (bumpF_fr ..) | with_reducible dsimp only
    | with_reducible split

theorem execSuspend_fr (port : Fin 8) (idx : Fin 16) (s : State) : Ends 0x400000 s (execSuspend port idx s) := by
  unfold execSuspend
  repeat' first
    | with_reducible apply Fr.refl | ((with_reducible apply sub_ok); exact rfl) | with_reducible apply Ends.next
    | with_reducible apply Fr.ite | with_reducible apply Ends.ite | with_reducible apply Fr.post (putPort_fr ..)
    | with_reducible apply Fr.post (c0Own_fr ..) | with_reducible dsimp only | with_reducible split

theorem execResume_fr (port : Fin 8) (idx : Fin 16) (s : State) : Ends 0x400008 s (execResume port idx s) := by
  unfold execResume
  repeat' first
    | with_reducible apply Fr.refl | ((with_reducible apply sub_ok); exact rfl) | with_reducible apply Ends.next
    | with_reducible apply Fr.ite | with_reducible apply Ends.ite | with_reducible apply Fr.post (c0Own_fr ..)
    | with_reducible apply Fr.post (resumeNow_fr ..) | with_reducible dsimp only | with_reducible split

theorem execSuspensionTimeout_fr (port : Fin 8) (idx : Fin 16) (us : Nat) (s : State) : Ends 0x40002c s (execSuspensionTimeout port idx us s) := by
  unfold execSuspensionTimeout
  repeat' first
    | with_reducible apply Fr.refl | ((with_reducible apply sub_ok); exact rfl) | with_reducible apply Ends.next
    | with_reducible apply Fr.ite | with_reducible apply Ends.ite | with_reducible apply Fr.post (memberLeaves_fr ..)
    | with_reducible dsimp only | with_reducible split

theorem execPortStart_fr (req : Requester) (port : Fin 8) (s : State) : Ends 0x400028 s (execPortStart req port s) := by
  unfold execPortStart
  repeat' first
    | with_reducible apply Fr.refl | ((with_reducible apply sub_ok); exact rfl) | with_reducible apply Ends.next
    | with_reducible apply Fr.ite | with_reducible apply Ends.ite | with_reducible apply Fr.post (drvCtrlWrite_fr ..)
    | with_reducible dsimp only | with_reducible split

theorem execPortTrainingEnd_fr (port : Fin 8) (tx : W32) (rx : W32) (s : State) : Ends 0x40002c s (execPortTrainingEnd port tx rx s) := by
  unfold execPortTrainingEnd
  repeat' first
    | with_reducible apply Fr.refl | ((with_reducible apply sub_ok); exact rfl) | with_reducible apply Ends.next
    | with_reducible apply Fr.ite | with_reducible apply Ends.ite | with_reducible apply Fr.post (trainingEnds_fr ..)
    | with_reducible dsimp only | with_reducible split

theorem execAdmissionTimeout_fr (port : Fin 8) (s : State) : Ends 0x28 s (execAdmissionTimeout port s) := by
  unfold execAdmissionTimeout
  repeat' first
    | with_reducible apply Fr.refl | ((with_reducible apply sub_ok); exact rfl) | with_reducible apply Ends.next
    | with_reducible apply Fr.ite | with_reducible apply Ends.ite | with_reducible apply Fr.post (setF_fr ..)
    | with_reducible apply Fr.post (raiseEv_fr ..) | with_reducible dsimp only | with_reducible split

theorem execPortStop_fr (req : Requester) (port : Fin 8) (s : State) : Ends 0x400028 s (execPortStop req port s) := by
  unfold execPortStop
  repeat' first
    | with_reducible apply Fr.refl | ((with_reducible apply sub_ok); exact rfl) | with_reducible apply Ends.next
    | with_reducible apply Fr.ite | with_reducible apply Ends.ite | with_reducible apply Fr.post (drvCtrlWrite_fr ..)
    | with_reducible dsimp only | with_reducible split

theorem execPortStopped_fr (port : Fin 8) (s : State) : Ends 0x400028 s (execPortStopped port s) := by
  unfold execPortStopped
  repeat' first
    | with_reducible apply Fr.refl | ((with_reducible apply sub_ok); exact rfl) | with_reducible apply Ends.next
    | with_reducible apply Fr.ite | with_reducible apply Ends.ite | with_reducible apply Fr.post (portStops_fr ..)
    | with_reducible dsimp only | with_reducible split

theorem execDrvConfigWrite_fr (req : Requester) (reg : DrvCfgReg) (value : W64) (s : State) : Ends 0x38 s (execDrvConfigWrite req reg value s) := by
  unfold execDrvConfigWrite
  repeat' first
    | with_reducible apply Fr.refl | ((with_reducible apply sub_ok); exact rfl) | with_reducible apply Ends.next
    | with_reducible apply Fr.ite | with_reducible apply Ends.ite | with_reducible apply Fr.post (drvCfgWrite_fr ..)
    | with_reducible apply Fr.post (busForget_fr ..) | with_reducible dsimp only | with_reducible split

theorem execRxwinWrite_fr (reg : PortAt) (window : Fin 8) (part : WinPart) (value : W64) (s : State) : Ends 0x18 s (execRxwinWrite reg window part value s) := by
  unfold execRxwinWrite
  repeat' first
    | with_reducible apply Fr.refl | ((with_reducible apply sub_ok); exact rfl) | with_reducible apply Ends.next
    | with_reducible apply Fr.ite | with_reducible apply Ends.ite | with_reducible apply Fr.post (rxwinWrite_fr ..)
    | with_reducible apply Fr.post (busForget_fr ..) | with_reducible dsimp only | with_reducible split

end Sys2Proof.Machine
end

