-- ==== Sys2Proof/Laws/FrCmdFarrier.lean ====
section
/-! SUPPORT. What each operation of Machine/CmdFarrier.lean may touch, and that it keeps the invariant. -/
namespace Sys2Proof.Machine

theorem execFarrierStart_fr (req : Requester) (s : State) : Ends 0x5800ac s (execFarrierStart req s) := by
  unfold execFarrierStart
  repeat' first
    | with_reducible apply Fr.refl | ((with_reducible apply sub_ok); exact rfl) | with_reducible apply Ends.next
    | with_reducible apply Fr.ite | with_reducible apply Ends.ite | with_reducible apply Fr.post (farCtrlWrite_fr ..)
    | with_reducible dsimp only | with_reducible split

theorem execFarrierStop_fr (req : Requester) (s : State) : Ends 0x5800ac s (execFarrierStop req s) := by
  unfold execFarrierStop
  repeat' first
    | with_reducible apply Fr.refl | ((with_reducible apply sub_ok); exact rfl) | with_reducible apply Ends.next
    | with_reducible apply Fr.ite | with_reducible apply Ends.ite | with_reducible apply Fr.post (farCtrlWrite_fr ..)
    | with_reducible dsimp only | with_reducible split

theorem execRunall_fr (req : Requester) (s : State) : Ends 0x5800ac s (execRunall req s) := by
  unfold execRunall
  repeat' first
    | with_reducible apply Fr.refl | ((with_reducible apply sub_ok); exact rfl) | with_reducible apply Ends.next
    | with_reducible apply Fr.ite | with_reducible apply Ends.ite | with_reducible apply Fr.post (farCtrlWrite_fr ..)
    | with_reducible dsimp only | with_reducible split

theorem execFarStallRun_fr (req : Requester) (stall : Fin 16) (s : State) : Ends 0x100088 s (execFarStallRun req stall s) := by
  unfold execFarStallRun
  repeat' first
    | with_reducible apply Fr.refl | ((with_reducible apply sub_ok); exact rfl) | with_reducible apply Ends.next
    | with_reducible apply Fr.ite | with_reducible apply Ends.ite | with_reducible apply Fr.post (farStallCtrlWrite_fr ..)
    | with_reducible dsimp only | with_reducible split

theorem execFarStallRelease_fr (req : Requester) (stall : Fin 16) (s : State) : Ends 0x100088 s (execFarStallRelease req stall s) := by
  unfold execFarStallRelease
  repeat' first
    | with_reducible apply Fr.refl | ((with_reducible apply sub_ok); exact rfl) | with_reducible apply Ends.next
    | with_reducible apply Fr.ite | with_reducible apply Ends.ite | with_reducible apply Fr.post (farStallCtrlWrite_fr ..)
    | with_reducible dsimp only | with_reducible split

theorem execFarPortLanerun_fr (req : Requester) (port : Fin 8) (lanes : W32) (s : State) : Ends 0x100000 s (execFarPortLanerun req port lanes s) := by
  unfold execFarPortLanerun
  repeat' first
    | with_reducible apply Fr.refl | ((with_reducible apply sub_ok); exact rfl) | with_reducible apply Ends.next
    | with_reducible apply Fr.ite | with_reducible apply Ends.ite | with_reducible apply Fr.post (farLaneRunWrite_fr ..)
    | with_reducible dsimp only | with_reducible split

theorem execCalibrationAgeExpiry_fr (unit : FarUnit) (hours : Nat) (s : State) : Ends 0x100008 s (execCalibrationAgeExpiry unit hours s) := by
  unfold execCalibrationAgeExpiry
  repeat' first
    | with_reducible apply Fr.refl | ((with_reducible apply sub_ok); exact rfl) | with_reducible apply Ends.next
    | with_reducible apply Fr.ite | with_reducible apply Ends.ite | with_reducible apply Fr.post (queueRun_fr ..)
    | with_reducible apply Fr.post (queueLane_fr ..) | with_reducible dsimp only | with_reducible split

theorem execStallRunStart_fr (s : State) : Ends 0x100088 s (execStallRunStart s) := by
  unfold execStallRunStart
  repeat' first
    | with_reducible apply Fr.refl | ((with_reducible apply sub_ok); exact rfl) | with_reducible apply Ends.next
    | with_reducible apply Fr.ite | with_reducible apply Ends.ite | with_reducible apply Fr.post (setF_fr ..)
    | with_reducible apply Fr.post (holdFar_fr ..) | with_reducible apply Fr.post (showWork_fr ..) | with_reducible dsimp only
    | with_reducible split

theorem takeStall_fr (s : State) (w : FarWork) : Fr 0x180088 s (takeStall s w) := by
  unfold takeStall
  repeat' first
    | with_reducible apply Fr.refl | ((with_reducible apply sub_ok); exact rfl) | with_reducible apply Fr.ite
    | with_reducible apply Fr.post (putStall_fr ..) | with_reducible apply Fr.post (showWork_fr ..)
    | with_reducible apply Fr.post (beginAttempt_fr ..) | with_reducible apply Fr.post (farStops_fr ..)
    | with_reducible dsimp only | with_reducible split

theorem execFarrierQuiesced_fr (stall : Fin 16) (s : State) : Ends 0x180088 s (execFarrierQuiesced stall s) := by
  unfold execFarrierQuiesced
  repeat' first
    | with_reducible apply Fr.refl | ((with_reducible apply sub_ok); exact rfl) | with_reducible apply Ends.next
    | with_reducible apply Fr.ite | with_reducible apply Ends.ite | with_reducible apply Fr.post (takeStall_fr ..)
    | with_reducible apply Fr.post (beginAttempt_fr ..) | with_reducible apply Fr.post (farStops_fr ..)
    | with_reducible dsimp only | with_reducible split

theorem execAttemptEnd_fr (a : StallMeas) (b : StallMeas) (phaseOk : Bool) (refOk : Bool) (s : State) : Ends 0x1804ec s (execAttemptEnd a b phaseOk refOk s) := by
  unfold execAttemptEnd
  repeat' first
    | with_reducible apply Fr.refl | ((with_reducible apply sub_ok); exact rfl) | with_reducible apply Ends.next
    | with_reducible apply Fr.ite | with_reducible apply Ends.ite | with_reducible apply Fr.post (setF_fr ..)
    | with_reducible apply Fr.post (stepsMade_fr ..) | with_reducible apply Fr.post (acceptAttempt_fr ..)
    | with_reducible apply Fr.post (rejectAttempt_fr ..) | with_reducible apply Fr.post (farStops_fr ..)
    | with_reducible dsimp only | with_reducible split

theorem execReinterpolation_fr (stall : Fin 16) (verified : Bool) (s : State) : Ends 0x380088 s (execReinterpolation stall verified s) := by
  unfold execReinterpolation
  repeat' first
    | with_reducible apply Fr.refl | ((with_reducible apply sub_ok); exact rfl) | with_reducible apply Ends.next
    | with_reducible apply Fr.ite | with_reducible apply Ends.ite | with_reducible apply Fr.post (tripStallDone_fr ..)
    | with_reducible apply Fr.post (putStall_fr ..) | with_reducible apply Fr.post (writeCorrections_fr ..)
    | with_reducible apply Fr.post (queueRun_fr ..) | with_reducible apply Fr.post (reintDone_fr ..)
    | with_reducible apply Fr.post (holdFar_fr ..) | with_reducible apply Fr.post (endWork_fr ..)
    | with_reducible apply Fr.post (farStops_fr ..) | with_reducible apply Fr.post (letGo_fr ..) | with_reducible dsimp only
    | with_reducible split

theorem execPortLaneRun_fr (port : Fin 8) (a : LaneMeas) (b : LaneMeas) (s : State) : Ends 0x500028 s (execPortLaneRun port a b s) := by
  unfold execPortLaneRun
  repeat' first
    | with_reducible apply Fr.refl | ((with_reducible apply sub_ok); exact rfl) | with_reducible apply Ends.next
    | with_reducible apply Fr.ite | with_reducible apply Ends.ite | with_reducible apply Fr.post (acceptLane_fr ..)
    | with_reducible apply Fr.post (rejectLane_fr ..) | with_reducible dsimp only | with_reducible split

theorem execResidualStoreWrite_fr (unit : FarUnit) (elapsed : Nat) (s : State) : Ends 0x100000 s (execResidualStoreWrite unit elapsed s) := by
  unfold execResidualStoreWrite
  repeat' first
    | with_reducible apply Fr.refl | ((with_reducible apply sub_ok); exact rfl) | with_reducible apply Ends.next
    | with_reducible apply Fr.ite | with_reducible apply Ends.ite | with_reducible apply Fr.post (storeStall_fr ..)
    | with_reducible apply Fr.post (storePort_fr ..) | with_reducible dsimp only | with_reducible split

end Sys2Proof.Machine
end

