-- ==== Sys2Proof/Laws/FrHostBus.lean ====
section
/-! SUPPORT. What each operation of Machine/HostBus.lean may touch, and that it keeps the invariant. -/
namespace Sys2Proof.Machine

theorem apertureWindow_fr (ws : List (Nat × Nat)) (s : State) (w : Nat) : Fr 0xf82c s (apertureWindow ws s w) := by
  unfold apertureWindow
  repeat' first
    | with_reducible apply Fr.refl | ((with_reducible apply sub_ok); exact rfl) | with_reducible apply Fr.ite
    | with_reducible apply Fr.post (memWrite_fr ..) | with_reducible dsimp only | with_reducible split

theorem apertureWrite_fr (s : State) (c : Nat) (off : Nat) (bs : List (Option Byte)) : Fr 0x3fffffc s (apertureWrite s c off bs) := by
  unfold apertureWrite
  repeat' first
    | with_reducible apply Fr.refl | with_reducible assumption | ((with_reducible apply sub_ok); exact rfl)
    | with_reducible apply Fr.ite | with_reducible apply Fr.post (setF_fr ..) | with_reducible apply Fr.post (addF_fr ..)
    | with_reducible apply Fr.post (raiseEv_fr ..) | with_reducible apply Fr.post (putHost_fr ..)
    | with_reducible apply Fr.post (busWrite_fr ..) | with_reducible apply Fr.post (apertureWindow_fr ..)
    | with_reducible refine Fr.foldl (fun _ _ _ => ?_) ?_ | with_reducible refine Fr.foldl_fst (fun _ _ _ => ?_) ?_
    | with_reducible dsimp only | with_reducible split

theorem readerLine_fr (s : State) (c : Nat) (a : Nat) : Fr 0xf83c s (readerLine s c a).1 := by
  unfold readerLine
  repeat' first
    | with_reducible apply Fr.refl | ((with_reducible apply sub_ok); exact rfl) | with_reducible apply Fr.ite
    | with_reducible apply Fr.post (memRead_fr ..) | with_reducible apply Fr.post (busRead_fr ..) | with_reducible dsimp only
    | with_reducible split

theorem readerLines_fr (c n a off : Nat) (x : State × RdJob) : Fr 0x1f83c x.1 (readerLines c n a off x).1 := by
  induction n generalizing a off x with
  | zero => exact Fr.refl _ _
  | succ n ih =>
    unfold readerLines
    exact Fr.post (ih ..) rfl (Fr.post (putHost_fr ..) rfl ((readerLine_fr ..).mono rfl))

theorem rdGo_fr (s : State) (c : Nat) : Fr 0x1f83c s (rdGo s c) := by
  unfold rdGo
  repeat' first
    | with_reducible apply Fr.refl | ((with_reducible apply sub_ok); exact rfl) | with_reducible apply Fr.ite
    | with_reducible apply Fr.post (putHost_fr ..) | with_reducible apply Fr.post (readerLines_fr ..) | with_reducible dsimp only
    | with_reducible split

theorem readerDone_fr (s : State) (c : Nat) : Fr 0x10028 s (readerDone s c) := by
  unfold readerDone
  repeat' first
    | with_reducible apply Fr.refl | ((with_reducible apply sub_ok); exact rfl) | with_reducible apply Fr.ite
    | with_reducible apply Fr.post (setF_fr ..) | with_reducible apply Fr.post (raiseEv_fr ..)
    | with_reducible apply Fr.post (putHost_fr ..) | with_reducible dsimp only | with_reducible split

theorem mbCtrlWrite_fr (s : State) (c : Nat) (v : Nat) : Fr 0x81c020 s (mbCtrlWrite s c v) := by
  unfold mbCtrlWrite
  repeat' first
    | with_reducible apply Fr.refl | ((with_reducible apply sub_ok); exact rfl) | with_reducible apply Fr.ite
    | with_reducible apply Fr.post (mbResetWrite_fr ..) | with_reducible apply Fr.post (putHost_fr ..) | with_reducible dsimp only
    | with_reducible split

theorem doorWrite_fr (s : State) (c : Nat) (w : Nat) (v : Nat) : Fr 0x81f83c s (doorWrite s c w v) := by
  unfold doorWrite
  repeat' first
    | with_reducible apply Fr.refl | ((with_reducible apply sub_ok); exact rfl) | with_reducible apply Fr.ite
    | with_reducible apply Fr.post (sqTailWrite_fr ..) | with_reducible apply Fr.post (cqHeadWrite_fr ..)
    | with_reducible apply Fr.post (putHost_fr ..) | with_reducible apply Fr.post (rdGo_fr ..)
    | with_reducible apply Fr.post (mbCtrlWrite_fr ..) | with_reducible dsimp only | with_reducible split

theorem doorBurst_fr (s : State) (c : Nat) (ws : List (Nat × Nat)) : Fr 0x81f83c s (doorBurst s c ws) := by
  unfold doorBurst
  repeat' first
    | with_reducible apply Fr.refl | with_reducible assumption | ((with_reducible apply sub_ok); exact rfl)
    | with_reducible apply Fr.post (doorWrite_fr ..) | with_reducible refine Fr.foldl (fun _ _ _ => ?_) ?_
    | with_reducible refine Fr.foldl_fst (fun _ _ _ => ?_) ?_ | with_reducible dsimp only

theorem apertureUnits_fr (s : State) (c : Nat) (units : List (Nat × List (Option Byte))) : Fr 0x3fffffc s (apertureUnits s c units) := by
  unfold apertureUnits
  repeat' first
    | with_reducible apply Fr.refl | ((with_reducible apply sub_ok); exact rfl) | with_reducible apply Fr.ite
    | with_reducible apply Fr.post (apertureWrite_fr ..) | with_reducible dsimp only | with_reducible split

theorem porchBurst_fr (s : State) (c : Nat) (units : List (Nat × List (Option Byte))) : Fr 0x3fffffc s (porchBurst s c units) := by
  unfold porchBurst
  repeat' first
    | with_reducible apply Fr.refl | ((with_reducible apply sub_ok); exact rfl) | with_reducible apply Fr.post (addF_fr ..)
    | with_reducible apply Fr.post (putHost_fr ..) | with_reducible apply Fr.post (doorBurst_fr ..)
    | with_reducible apply Fr.post (apertureUnits_fr ..) | with_reducible dsimp only

theorem cfgWrite_fr (s : State) (c : Nat) (k : SubCmd) : Fr 0x3fffffc s (cfgWrite s c k) := by
  unfold cfgWrite
  repeat' first
    | with_reducible apply Fr.refl | ((with_reducible apply sub_ok); exact rfl) | with_reducible apply Fr.ite
    | with_reducible apply Fr.post (finishCmd_fr ..) | with_reducible apply Fr.post (busWrite_fr ..) | with_reducible dsimp only
    | with_reducible split

theorem cfgRead_fr (s : State) (c : Nat) (k : SubCmd) : Fr 0x10018 s (cfgRead s c k) := by
  unfold cfgRead
  repeat' first
    | with_reducible apply Fr.refl | ((with_reducible apply sub_ok); exact rfl) | with_reducible apply Fr.ite
    | with_reducible apply Fr.post (finishCmd_fr ..) | with_reducible apply Fr.post (busRead_fr ..) | with_reducible dsimp only
    | with_reducible split

end Sys2Proof.Machine
end

