-- ==== Sys2Proof/Laws/FrCmdHost.lean ====
section
/-! SUPPORT. What each operation of Machine/CmdHost.lean may touch, and that it keeps the invariant. -/
namespace Sys2Proof.Machine

theorem execPorchWrite_fr (chan : Fin 4) (bg : Fin 4) (ba : Fin 16) (col : Fin 64) (bytes : List (Option Byte)) (s : State) : Ends 0x3fffffc s (execPorchWrite chan bg ba col bytes s) := by
  unfold execPorchWrite
  repeat' first
    | with_reducible apply Fr.refl | ((with_reducible apply sub_ok); exact rfl) | with_reducible apply Ends.next
    | with_reducible apply Fr.ite | with_reducible apply Ends.ite | with_reducible apply Fr.post (porchBurst_fr ..)
    | with_reducible dsimp only | with_reducible split

theorem execPorchRead_fr (chan : Fin 4) (bg : Fin 4) (ba : Fin 16) (col : Fin 64) (long : Bool) (s : State) : Ends 0x1c s (execPorchRead chan bg ba col long s) := by
  unfold execPorchRead
  repeat' first
    | with_reducible apply Fr.refl | ((with_reducible apply sub_ok); exact rfl) | with_reducible apply Ends.next
    | with_reducible apply Fr.ite | with_reducible apply Ends.ite | with_reducible apply Fr.post (addF_fr ..)
    | with_reducible apply Fr.post (drawn_fr ..) | with_reducible apply Fr.post (setReply_fr ..) | with_reducible dsimp only
    | with_reducible split

theorem execRowActivate_fr (chan : Fin 4) (bg : Fin 4) (ba : Fin 16) (row : W16) (activate : Bool) (s : State) : Ends 0x10000 s (execRowActivate chan bg ba row activate s) := by
  unfold execRowActivate
  repeat' first
    | with_reducible apply Fr.refl | ((with_reducible apply sub_ok); exact rfl) | with_reducible apply Ends.next
    | with_reducible apply Fr.ite | with_reducible apply Ends.ite | with_reducible apply Fr.post (putHost_fr ..)
    | with_reducible dsimp only | with_reducible split

theorem execModeRegisterWrite_fr (chan : Fin 4) (reg : Byte) (value : Byte) (unsupported : Byte) (s : State) : Ends 0x10008 s (execModeRegisterWrite chan reg value unsupported s) := by
  unfold execModeRegisterWrite
  repeat' first
    | with_reducible apply Fr.refl | ((with_reducible apply sub_ok); exact rfl) | with_reducible apply Ends.next
    | with_reducible apply Fr.ite | with_reducible apply Ends.ite | with_reducible apply Fr.post (setF_fr ..)
    | with_reducible apply Fr.post (putHost_fr ..) | with_reducible dsimp only | with_reducible split

theorem execModeRegisterRead_fr (chan : Fin 4) (reg : Byte) (s : State) : Ends 0x10 s (execModeRegisterRead chan reg s) := by
  unfold execModeRegisterRead
  repeat' first
    | with_reducible apply Fr.refl | ((with_reducible apply sub_ok); exact rfl) | with_reducible apply Ends.next
    | with_reducible apply Fr.ite | with_reducible apply Ends.ite | with_reducible apply Fr.post (setReply_fr ..)
    | with_reducible dsimp only | with_reducible split

theorem execHostRefresh_fr (_chan : Fin 4) (s : State) : Ends 0x0 s (execHostRefresh _chan s) := by
  unfold execHostRefresh
  repeat' first
    | with_reducible apply Fr.refl | ((with_reducible apply sub_ok); exact rfl) | with_reducible apply Ends.next
    | with_reducible apply Ends.ite | with_reducible dsimp only

theorem execHostChannelReset_fr (chan : Fin 4) (s : State) : Ends 0x10028 s (execHostChannelReset chan s) := by
  unfold execHostChannelReset
  repeat' first
    | with_reducible apply Fr.refl | ((with_reducible apply sub_ok); exact rfl) | with_reducible apply Ends.next
    | with_reducible apply Fr.ite | with_reducible apply Ends.ite | with_reducible apply Fr.post (setF_fr ..)
    | with_reducible apply Fr.post (setHostState_fr ..) | with_reducible apply Fr.post (putHost_fr ..) | with_reducible dsimp only
    | with_reducible split

theorem execHostChannelTraining_fr (chan : Fin 4) (rate : Fin 16384) (bank16 : Bool) (fsp : Bool) (s : State) : Ends 0x28 s (execHostChannelTraining chan rate bank16 fsp s) := by
  unfold execHostChannelTraining
  repeat' first
    | with_reducible apply Fr.refl | ((with_reducible apply sub_ok); exact rfl) | with_reducible apply Ends.next
    | with_reducible apply Fr.ite | with_reducible apply Ends.ite | with_reducible apply Fr.post (setF_fr ..)
    | with_reducible apply Fr.post (setHostState_fr ..) | with_reducible dsimp only | with_reducible split

theorem hostMove_fr (s : State) (c : Nat) (frm : Nat) (to_ : Nat) : Fr 0x28 s (hostMove s c frm to_) := by
  unfold hostMove
  repeat' first
    | with_reducible apply Fr.refl | ((with_reducible apply sub_ok); exact rfl) | with_reducible apply Fr.ite
    | with_reducible apply Fr.post (setHostState_fr ..) | with_reducible dsimp only | with_reducible split

theorem execSelfRefreshEntry_fr (chan : Fin 4) (s : State) : Ends 0x28 s (execSelfRefreshEntry chan s) := by
  unfold execSelfRefreshEntry
  repeat' first
    | with_reducible apply Fr.refl | ((with_reducible apply sub_ok); exact rfl) | with_reducible apply Ends.next
    | with_reducible apply Ends.ite | with_reducible apply Fr.post (hostMove_fr ..) | with_reducible dsimp only

theorem execSelfRefreshExit_fr (chan : Fin 4) (s : State) : Ends 0x28 s (execSelfRefreshExit chan s) := by
  unfold execSelfRefreshExit
  repeat' first
    | with_reducible apply Fr.refl | ((with_reducible apply sub_ok); exact rfl) | with_reducible apply Ends.next
    | with_reducible apply Ends.ite | with_reducible apply Fr.post (hostMove_fr ..) | with_reducible dsimp only

theorem execPowerDownEntry_fr (chan : Fin 4) (s : State) : Ends 0x28 s (execPowerDownEntry chan s) := by
  unfold execPowerDownEntry
  repeat' first
    | with_reducible apply Fr.refl | ((with_reducible apply sub_ok); exact rfl) | with_reducible apply Ends.next
    | with_reducible apply Ends.ite | with_reducible apply Fr.post (hostMove_fr ..) | with_reducible dsimp only

theorem execPowerDownExit_fr (chan : Fin 4) (s : State) : Ends 0x28 s (execPowerDownExit chan s) := by
  unfold execPowerDownExit
  repeat' first
    | with_reducible apply Fr.refl | ((with_reducible apply sub_ok); exact rfl) | with_reducible apply Ends.next
    | with_reducible apply Ends.ite | with_reducible apply Fr.post (hostMove_fr ..) | with_reducible dsimp only

theorem execHostCkStart_fr (ck : CkChange) (s : State) : Ends 0x10028 s (execHostCkStart ck s) := by
  unfold execHostCkStart
  repeat' first
    | with_reducible apply Fr.refl | ((with_reducible apply sub_ok); exact rfl) | with_reducible apply Ends.next
    | with_reducible apply Fr.ite | with_reducible apply Ends.ite | with_reducible apply Fr.post (setHostState_fr ..)
    | with_reducible apply Fr.post (putHost_fr ..) | with_reducible apply Fr.post (hostMove_fr ..) | with_reducible dsimp only
    | with_reducible split

theorem execSqTailWrite_fr (chan : Fin 4) (tail : Fin 4096) (s : State) : Ends 0x10028 s (execSqTailWrite chan tail s) := by
  unfold execSqTailWrite
  repeat' first
    | with_reducible apply Fr.refl | ((with_reducible apply sub_ok); exact rfl) | with_reducible apply Ends.next
    | with_reducible apply Ends.ite | with_reducible apply Fr.post (sqTailWrite_fr ..)
    | with_reducible apply Fr.post (wordWritten_fr ..) | with_reducible dsimp only

theorem execCqHeadWrite_fr (chan : Fin 4) (head : Fin 4096) (s : State) : Ends 0x10028 s (execCqHeadWrite chan head s) := by
  unfold execCqHeadWrite
  repeat' first
    | with_reducible apply Fr.refl | ((with_reducible apply sub_ok); exact rfl) | with_reducible apply Ends.next
    | with_reducible apply Ends.ite | with_reducible apply Fr.post (cqHeadWrite_fr ..)
    | with_reducible apply Fr.post (wordWritten_fr ..) | with_reducible dsimp only

theorem execMailboxReset_fr (chan : Fin 4) (s : State) : Ends 0x81c028 s (execMailboxReset chan s) := by
  unfold execMailboxReset
  repeat' first
    | with_reducible apply Fr.refl | ((with_reducible apply sub_ok); exact rfl) | with_reducible apply Ends.next
    | with_reducible apply Ends.ite | with_reducible apply Fr.post (mbResetWrite_fr ..)
    | with_reducible apply Fr.post (wordWritten_fr ..) | with_reducible dsimp only

theorem execNoticeAck_fr (chan : Fin 4) (s : State) : Ends 0x81c028 s (execNoticeAck chan s) := by
  unfold execNoticeAck
  repeat' first
    | with_reducible apply Fr.refl | ((with_reducible apply sub_ok); exact rfl) | with_reducible apply Ends.next
    | with_reducible apply Ends.ite | with_reducible apply Fr.post (wordWritten_fr ..)
    | with_reducible apply Fr.post (mbCtrlWrite_fr ..) | with_reducible dsimp only

theorem execSubmissionTake_fr (chan : Fin 4) (s : State) : Ends 0x18000 s (execSubmissionTake chan s) := by
  unfold execSubmissionTake
  repeat' first
    | with_reducible apply Fr.refl | ((with_reducible apply sub_ok); exact rfl) | with_reducible apply Ends.next
    | with_reducible apply Fr.ite | with_reducible apply Ends.ite | with_reducible apply Fr.post (takeEntry_fr ..)
    | with_reducible dsimp only | with_reducible split

theorem execCompletionWrite_fr (chan : Fin 4) (s : State) : Ends 0x10008 s (execCompletionWrite chan s) := by
  unfold execCompletionWrite
  repeat' first
    | with_reducible apply Fr.refl | ((with_reducible apply sub_ok); exact rfl) | with_reducible apply Ends.next
    | with_reducible apply Fr.ite | with_reducible apply Ends.ite | with_reducible apply Fr.post (writeCompletion_fr ..)
    | with_reducible dsimp only | with_reducible split

theorem execIdentify_fr (chan : Fin 4) (s : State) : Ends 0x10000 s (execIdentify chan s) := by
  unfold execIdentify
  repeat' first
    | with_reducible apply Fr.refl | ((with_reducible apply sub_ok); exact rfl) | with_reducible apply Ends.next
    | with_reducible apply Ends.ite | with_reducible apply Fr.post (writeIdentity_fr ..)
    | with_reducible apply Fr.post (finishCmd_fr ..) | with_reducible apply runCmd_fr | with_reducible intro _ _
    | with_reducible dsimp only

theorem execStatus_fr (chan : Fin 4) (s : State) : Ends 0x10000 s (execStatus chan s) := by
  unfold execStatus
  repeat' first
    | with_reducible apply Fr.refl | ((with_reducible apply sub_ok); exact rfl) | with_reducible apply Ends.next
    | with_reducible apply Ends.ite | with_reducible apply Fr.post (finishCmd_fr ..) | with_reducible apply runCmd_fr
    | with_reducible intro _ _ | with_reducible dsimp only

theorem execAttest_fr (chan : Fin 4) (s : State) : Ends 0x810000 s (execAttest chan s) := by
  unfold execAttest
  repeat' first
    | with_reducible apply Fr.refl | ((with_reducible apply sub_ok); exact rfl) | with_reducible apply Ends.next
    | with_reducible apply Ends.ite | with_reducible apply Fr.post (attestStart_fr ..) | with_reducible apply runCmd_fr
    | with_reducible intro _ _ | with_reducible dsimp only

theorem execSessionOpen_fr (chan : Fin 4) (s : State) : Ends 0x18004 s (execSessionOpen chan s) := by
  unfold execSessionOpen
  repeat' first
    | with_reducible apply Fr.refl | ((with_reducible apply sub_ok); exact rfl) | with_reducible apply Ends.next
    | with_reducible apply Ends.ite | with_reducible apply Fr.post (sessionOpen_fr ..) | with_reducible apply runCmd_fr
    | with_reducible intro _ _ | with_reducible dsimp only

theorem execSessionClose_fr (chan : Fin 4) (s : State) : Ends 0x18000 s (execSessionClose chan s) := by
  unfold execSessionClose
  repeat' first
    | with_reducible apply Fr.refl | ((with_reducible apply sub_ok); exact rfl) | with_reducible apply Ends.next
    | with_reducible apply Ends.ite | with_reducible apply Fr.post (sessionClose_fr ..)
    | with_reducible apply Fr.post (closeSessions_fr ..) | with_reducible apply runCmd_fr | with_reducible intro _ _
    | with_reducible dsimp only

theorem execSessionInfo_fr (chan : Fin 4) (s : State) : Ends 0x10000 s (execSessionInfo chan s) := by
  unfold execSessionInfo
  repeat' first
    | with_reducible apply Fr.refl | ((with_reducible apply sub_ok); exact rfl) | with_reducible apply Ends.next
    | with_reducible apply Ends.ite | with_reducible apply Fr.post (sessionInfo_fr ..) | with_reducible apply runCmd_fr
    | with_reducible intro _ _ | with_reducible dsimp only

theorem execBatch_fr (chan : Fin 4) (s : State) : Ends 0x1c028 s (execBatch chan s) := by
  unfold execBatch
  repeat' first
    | with_reducible apply Fr.refl | ((with_reducible apply sub_ok); exact rfl) | with_reducible apply Ends.next
    | with_reducible apply Ends.ite | with_reducible apply Fr.post (batchStart_fr ..) | with_reducible apply runCmd_fr
    | with_reducible intro _ _ | with_reducible dsimp only

theorem execBatchAdmit_fr (chan : Fin 4) (s : State) : Ends 0x1c028 s (execBatchAdmit chan s) := by
  unfold execBatchAdmit
  repeat' first
    | with_reducible apply Fr.refl | ((with_reducible apply sub_ok); exact rfl) | with_reducible apply Ends.next
    | with_reducible apply Fr.ite | with_reducible apply Ends.ite | with_reducible apply Fr.post (takeEntry_fr ..)
    | with_reducible apply Fr.post (batchStart_fr ..) | with_reducible apply runCmd_fr | with_reducible intro _ _
    | with_reducible dsimp only | with_reducible split

theorem execBatchEnd_fr (place : Nat) (aborted : Bool) (outcomes : List ReqOutcome) (s : State) : Ends 0x1c028 s (execBatchEnd place aborted outcomes s) := by
  unfold execBatchEnd
  repeat' first
    | with_reducible apply Fr.refl | ((with_reducible apply sub_ok); exact rfl) | with_reducible apply Ends.next
    | with_reducible apply Fr.ite | with_reducible apply Ends.ite | with_reducible apply Fr.post (endBatch_fr ..)
    | with_reducible dsimp only | with_reducible split

theorem execBatchCancel_fr (chan : Fin 4) (s : State) : Ends 0x18000 s (execBatchCancel chan s) := by
  unfold execBatchCancel
  repeat' first
    | with_reducible apply Fr.refl | ((with_reducible apply sub_ok); exact rfl) | with_reducible apply Ends.next
    | with_reducible apply Ends.ite | with_reducible apply Fr.post (batchCancel_fr ..) | with_reducible apply runCmd_fr
    | with_reducible intro _ _ | with_reducible dsimp only

theorem execBundleBegin_fr (chan : Fin 4) (s : State) : Ends 0x1f82c s (execBundleBegin chan s) := by
  unfold execBundleBegin
  repeat' first
    | with_reducible apply Fr.refl | ((with_reducible apply sub_ok); exact rfl) | with_reducible apply Ends.next
    | with_reducible apply Ends.ite | with_reducible apply Fr.post (bundleBegin_fr ..) | with_reducible apply runCmd_fr
    | with_reducible intro _ _ | with_reducible dsimp only

theorem execBundlePiece_fr (chan : Fin 4) (s : State) : Ends 0x1f82c s (execBundlePiece chan s) := by
  unfold execBundlePiece
  repeat' first
    | with_reducible apply Fr.refl | ((with_reducible apply sub_ok); exact rfl) | with_reducible apply Ends.next
    | with_reducible apply Ends.ite | with_reducible apply Fr.post (bundlePiece_fr ..) | with_reducible apply runCmd_fr
    | with_reducible intro _ _ | with_reducible dsimp only

theorem execBundleAbort_fr (chan : Fin 4) (s : State) : Ends 0x14028 s (execBundleAbort chan s) := by
  unfold execBundleAbort
  repeat' first
    | with_reducible apply Fr.refl | ((with_reducible apply sub_ok); exact rfl) | with_reducible apply Ends.next
    | with_reducible apply Fr.ite | with_reducible apply Ends.ite | with_reducible apply Fr.post (failBuild_fr ..)
    | with_reducible apply Fr.post (finishCmd_fr ..) | with_reducible apply runCmd_fr | with_reducible intro _ _
    | with_reducible dsimp only | with_reducible split

theorem execBayDiscard_fr (chan : Fin 4) (s : State) : Ends 0x1c028 s (execBayDiscard chan s) := by
  unfold execBayDiscard
  repeat' first
    | with_reducible apply Fr.refl | ((with_reducible apply sub_ok); exact rfl) | with_reducible apply Ends.next
    | with_reducible apply Fr.ite | with_reducible apply Ends.ite | with_reducible apply Fr.post (finishCmd_fr ..)
    | with_reducible apply Fr.post (baySet_fr ..) | with_reducible apply runCmd_fr | with_reducible intro _ _
    | with_reducible dsimp only | with_reducible split

theorem execSwitch_fr (chan : Fin 4) (s : State) : Ends 0x14028 s (execSwitch chan s) := by
  unfold execSwitch
  repeat' first
    | with_reducible apply Fr.refl | ((with_reducible apply sub_ok); exact rfl) | with_reducible apply Ends.next
    | with_reducible apply Fr.ite | with_reducible apply Ends.ite | with_reducible apply Fr.post (finishCmd_fr ..)
    | with_reducible apply Fr.post (loftSwitch_fr ..) | with_reducible apply runCmd_fr | with_reducible intro _ _
    | with_reducible dsimp only | with_reducible split

theorem execSlotList_fr (chan : Fin 4) (s : State) : Ends 0x10004 s (execSlotList chan s) := by
  unfold execSlotList
  repeat' first
    | with_reducible apply Fr.refl | ((with_reducible apply sub_ok); exact rfl) | with_reducible apply Ends.next
    | with_reducible apply Ends.ite | with_reducible apply Fr.post (slotList_fr ..) | with_reducible apply runCmd_fr
    | with_reducible intro _ _ | with_reducible dsimp only

theorem execCalRun_fr (chan : Fin 4) (s : State) : Ends 0x110008 s (execCalRun chan s) := by
  unfold execCalRun
  repeat' first
    | with_reducible apply Fr.refl | ((with_reducible apply sub_ok); exact rfl) | with_reducible apply Ends.next
    | with_reducible apply Ends.ite | with_reducible apply Fr.post (calRun_fr ..) | with_reducible apply runCmd_fr
    | with_reducible intro _ _ | with_reducible dsimp only

theorem execCalStatus_fr (chan : Fin 4) (s : State) : Ends 0x10000 s (execCalStatus chan s) := by
  unfold execCalStatus
  repeat' first
    | with_reducible apply Fr.refl | ((with_reducible apply sub_ok); exact rfl) | with_reducible apply Ends.next
    | with_reducible apply Ends.ite | with_reducible apply Fr.post (calStatus_fr ..) | with_reducible apply runCmd_fr
    | with_reducible intro _ _ | with_reducible dsimp only

theorem execPowerSet_fr (chan : Fin 4) (s : State) : Ends 0x10008 s (execPowerSet chan s) := by
  unfold execPowerSet
  repeat' first
    | with_reducible apply Fr.refl | ((with_reducible apply sub_ok); exact rfl) | with_reducible apply Ends.next
    | with_reducible apply Ends.ite | with_reducible apply Fr.post (powerSet_fr ..) | with_reducible apply runCmd_fr
    | with_reducible intro _ _ | with_reducible dsimp only

theorem execCapacitySet_fr (chan : Fin 4) (s : State) : Ends 0x18000 s (execCapacitySet chan s) := by
  unfold execCapacitySet
  repeat' first
    | with_reducible apply Fr.refl | ((with_reducible apply sub_ok); exact rfl) | with_reducible apply Ends.next
    | with_reducible apply Ends.ite | with_reducible apply Fr.post (capacitySet_fr ..) | with_reducible apply runCmd_fr
    | with_reducible intro _ _ | with_reducible dsimp only

theorem execDark_fr (chan : Fin 4) (lock0 : Bool) (lock1 : Bool) (sweeps : List RingSweep) (s : State) : Ends 0x7f04ec s (execDark chan lock0 lock1 sweeps s) := by
  unfold execDark
  repeat' first
    | with_reducible apply Fr.refl | ((with_reducible apply sub_ok); exact rfl) | with_reducible apply Ends.next
    | with_reducible apply Ends.ite | with_reducible apply Fr.post (darkStart_fr ..)
    | with_reducible apply Fr.post (darkEnds_fr ..) | with_reducible apply runCmd_fr | with_reducible intro _ _
    | with_reducible dsimp only

theorem execUnitStop_fr (chan : Fin 4) (s : State) : Ends 0x5f83ac s (execUnitStop chan s) := by
  unfold execUnitStop
  repeat' first
    | with_reducible apply Fr.refl | ((with_reducible apply sub_ok); exact rfl) | with_reducible apply Ends.next
    | with_reducible apply Ends.ite | with_reducible apply Fr.post (unitStop_fr ..)
    | with_reducible apply Fr.post (unitStops_fr ..) | with_reducible apply runCmd_fr | with_reducible intro _ _
    | with_reducible dsimp only

theorem execUnitStart_fr (chan : Fin 4) (s : State) : Ends 0x5f03ac s (execUnitStart chan s) := by
  unfold execUnitStart
  repeat' first
    | with_reducible apply Fr.refl | ((with_reducible apply sub_ok); exact rfl) | with_reducible apply Ends.next
    | with_reducible apply Ends.ite | with_reducible apply Fr.post (unitStart_fr ..) | with_reducible apply runCmd_fr
    | with_reducible intro _ _ | with_reducible dsimp only

theorem execCfgWrite_fr (chan : Fin 4) (s : State) : Ends 0x3fffffc s (execCfgWrite chan s) := by
  unfold execCfgWrite
  repeat' first
    | with_reducible apply Fr.refl | ((with_reducible apply sub_ok); exact rfl) | with_reducible apply Ends.next
    | with_reducible apply Ends.ite | with_reducible apply Fr.post (cfgWrite_fr ..) | with_reducible apply runCmd_fr
    | with_reducible intro _ _ | with_reducible dsimp only

theorem execCfgRead_fr (chan : Fin 4) (s : State) : Ends 0x10018 s (execCfgRead chan s) := by
  unfold execCfgRead
  repeat' first
    | with_reducible apply Fr.refl | ((with_reducible apply sub_ok); exact rfl) | with_reducible apply Ends.next
    | with_reducible apply Ends.ite | with_reducible apply Fr.post (cfgRead_fr ..) | with_reducible apply runCmd_fr
    | with_reducible intro _ _ | with_reducible dsimp only

theorem execHerdSet_fr (chan : Fin 4) (s : State) : Ends 0x410008 s (execHerdSet chan s) := by
  unfold execHerdSet
  repeat' first
    | with_reducible apply Fr.refl | ((with_reducible apply sub_ok); exact rfl) | with_reducible apply Ends.next
    | with_reducible apply Ends.ite | with_reducible apply Fr.post (herdSet_fr ..) | with_reducible apply runCmd_fr
    | with_reducible intro _ _ | with_reducible dsimp only

theorem execEventFilter_fr (chan : Fin 4) (s : State) : Ends 0x2010000 s (execEventFilter chan s) := by
  unfold execEventFilter
  repeat' first
    | with_reducible apply Fr.refl | ((with_reducible apply sub_ok); exact rfl) | with_reducible apply Ends.next
    | with_reducible apply Ends.ite | with_reducible apply Fr.post (finishCmd_fr ..) | with_reducible apply runCmd_fr
    | with_reducible intro _ _ | with_reducible dsimp only | with_reducible apply Fr.setEvtFilter

theorem execApertureWrite_fr (chan : Fin 4) (unit : Fin 32768) (bytes : List (Option Byte)) (s : State) : Ends 0x3fffffc s (execApertureWrite chan unit bytes s) := by
  unfold execApertureWrite
  repeat' first
    | with_reducible apply Fr.refl | ((with_reducible apply sub_ok); exact rfl) | with_reducible apply Ends.next
    | with_reducible apply Fr.ite | with_reducible apply Ends.ite | with_reducible apply Fr.post (addF_fr ..)
    | with_reducible apply Fr.post (apertureWrite_fr ..) | with_reducible dsimp only | with_reducible split

theorem execRdGo_fr (chan : Fin 4) (s : State) : Ends 0x1f83c s (execRdGo chan s) := by
  unfold execRdGo
  repeat' first
    | with_reducible apply Fr.refl | ((with_reducible apply sub_ok); exact rfl) | with_reducible apply Ends.next
    | with_reducible apply Ends.ite | with_reducible apply Fr.post (wordWritten_fr ..) | with_reducible apply Fr.post (rdGo_fr ..)
    | with_reducible dsimp only

theorem execReaderDone_fr (chan : Fin 4) (s : State) : Ends 0x10028 s (execReaderDone chan s) := by
  unfold execReaderDone
  repeat' first
    | with_reducible apply Fr.refl | ((with_reducible apply sub_ok); exact rfl) | with_reducible apply Ends.next
    | with_reducible apply Ends.ite | with_reducible apply Fr.post (readerDone_fr ..) | with_reducible dsimp only

end Sys2Proof.Machine
end

