-- ==== Sys2Proof/Laws/FrCmdLight.lean ====
section
/-! SUPPORT. What each operation of Machine/CmdLight.lean may touch, and that it keeps the invariant. -/
namespace Sys2Proof.Machine

theorem execLteAssign_fr (req : Requester) (lock0 : Bool) (lock1 : Bool) (sweeps : List RingSweep) (s : State) : Ends 0x7e04ec s (execLteAssign req lock0 lock1 sweeps s) := by
  unfold execLteAssign
  repeat' first
    | with_reducible apply Fr.refl | ((with_reducible apply sub_ok); exact rfl) | with_reducible apply Ends.next
    | with_reducible apply Fr.ite | with_reducible apply Ends.ite | with_reducible apply Fr.post (assignWrite_fr ..)
    | with_reducible dsimp only | with_reducible split

theorem execLteRelight_fr (req : Requester) (lock0 : Bool) (lock1 : Bool) (sweeps : List RingSweep) (s : State) : Ends 0x7e04ec s (execLteRelight req lock0 lock1 sweeps s) := by
  unfold execLteRelight
  repeat' first
    | with_reducible apply Fr.refl | ((with_reducible apply sub_ok); exact rfl) | with_reducible apply Ends.next
    | with_reducible apply Fr.ite | with_reducible apply Ends.ite | with_reducible apply Fr.post (relightWrite_fr ..)
    | with_reducible dsimp only | with_reducible split

theorem execLteDark_fr (req : Requester) (s : State) : Ends 0x5a00ac s (execLteDark req s) := by
  unfold execLteDark
  repeat' first
    | with_reducible apply Fr.refl | ((with_reducible apply sub_ok); exact rfl) | with_reducible apply Ends.next
    | with_reducible apply Fr.ite | with_reducible apply Ends.ite | with_reducible apply Fr.post (goDark_fr ..)
    | with_reducible dsimp only | with_reducible split

theorem execLteRestore_fr (req : Requester) (pass0 : Bool) (pass1 : Bool) (s : State) : Ends 0x1e00ac s (execLteRestore req pass0 pass1 s) := by
  unfold execLteRestore
  repeat' first
    | with_reducible apply Fr.refl | ((with_reducible apply sub_ok); exact rfl) | with_reducible apply Ends.next
    | with_reducible apply Fr.ite | with_reducible apply Ends.ite | with_reducible apply Fr.post (restoreWrite_fr ..)
    | with_reducible dsimp only | with_reducible split

theorem execLightSequenceEnd_fr (s : State) : Ends 0x20028 s (execLightSequenceEnd s) := by
  unfold execLightSequenceEnd
  repeat' first
    | with_reducible apply Fr.refl | ((with_reducible apply sub_ok); exact rfl) | with_reducible apply Ends.next
    | with_reducible apply Fr.ite | with_reducible apply Ends.ite | with_reducible apply Fr.post (setF_fr ..)
    | with_reducible apply Fr.post (raiseEv_fr ..) | with_reducible dsimp only | with_reducible split
    | with_reducible apply Fr.setLight

theorem execPilotCheckDue_fr (ring : Fin 528) (s : State) : Ends 0x20000 s (execPilotCheckDue ring s) := by
  unfold execPilotCheckDue
  repeat' first
    | with_reducible apply Fr.refl | ((with_reducible apply sub_ok); exact rfl) | with_reducible apply Ends.next
    | with_reducible apply Fr.ite | with_reducible apply Ends.ite | with_reducible apply Fr.post (checkRing_fr ..)
    | with_reducible dsimp only | with_reducible split

theorem execPilotCheckResult_fr (ring : Fin 528) (meas : PilotMeas) (s : State) : Ends 0x3e04ec s (execPilotCheckResult ring meas s) := by
  unfold execPilotCheckResult
  repeat' first
    | with_reducible apply Fr.refl | ((with_reducible apply sub_ok); exact rfl) | with_reducible apply Ends.next
    | with_reducible apply Fr.ite | with_reducible apply Ends.ite | with_reducible apply Fr.post (checkResult_fr ..)
    | with_reducible dsimp only | with_reducible split

theorem execCombDieFailure_fr (die : Fin 2) (reason : Fin 4) (s : State) : Ends 0x5a00ac s (execCombDieFailure die reason s) := by
  unfold execCombDieFailure
  repeat' first
    | with_reducible apply Fr.refl | ((with_reducible apply sub_ok); exact rfl) | with_reducible apply Ends.next
    | with_reducible apply Fr.ite | with_reducible apply Ends.ite | with_reducible apply Fr.post (combFails_fr ..)
    | with_reducible dsimp only | with_reducible split

theorem execRedistributionSettled_fr (s : State) : Ends 0x1a00ac s (execRedistributionSettled s) := by
  unfold execRedistributionSettled
  repeat' first
    | with_reducible apply Fr.refl | ((with_reducible apply sub_ok); exact rfl) | with_reducible apply Ends.next
    | with_reducible apply Ends.ite | with_reducible apply Fr.post (redistSettled_fr ..) | with_reducible dsimp only

theorem execRingStop_fr (req : Requester) (ring : Fin 528) (s : State) : Ends 0x1a00ac s (execRingStop req ring s) := by
  unfold execRingStop
  repeat' first
    | with_reducible apply Fr.refl | ((with_reducible apply sub_ok); exact rfl) | with_reducible apply Ends.next
    | with_reducible apply Fr.ite | with_reducible apply Ends.ite | with_reducible apply Fr.post (ringStop_fr ..)
    | with_reducible dsimp only | with_reducible split

theorem execRingStart_fr (req : Requester) (ring : Fin 528) (s : State) : Ends 0xe0008 s (execRingStart req ring s) := by
  unfold execRingStart
  repeat' first
    | with_reducible apply Fr.refl | ((with_reducible apply sub_ok); exact rfl) | with_reducible apply Ends.next
    | with_reducible apply Fr.ite | with_reducible apply Ends.ite | with_reducible apply Fr.post (ringStart_fr ..)
    | with_reducible dsimp only | with_reducible split

theorem execRingRecheck_fr (req : Requester) (ring : Fin 528) (s : State) : Ends 0x20000 s (execRingRecheck req ring s) := by
  unfold execRingRecheck
  repeat' first
    | with_reducible apply Fr.refl | ((with_reducible apply sub_ok); exact rfl) | with_reducible apply Ends.next
    | with_reducible apply Fr.ite | with_reducible apply Ends.ite | with_reducible apply Fr.post (ringRecheck_fr ..)
    | with_reducible dsimp only | with_reducible split

theorem execRingCfgWrite_fr (req : Requester) (ring : Fin 528) (value : W32) (s : State) : Ends 0x28 s (execRingCfgWrite req ring value s) := by
  unfold execRingCfgWrite
  repeat' first
    | with_reducible apply Fr.refl | ((with_reducible apply sub_ok); exact rfl) | with_reducible apply Ends.next
    | with_reducible apply Fr.ite | with_reducible apply Ends.ite | with_reducible apply Fr.post (ringCfgWrite_fr ..)
    | with_reducible dsimp only | with_reducible split

theorem execLaserEnFall_fr (s : State) : Ends 0x5a00ac s (execLaserEnFall s) := by
  unfold execLaserEnFall
  repeat' first
    | with_reducible apply Fr.refl | ((with_reducible apply sub_ok); exact rfl) | with_reducible apply Ends.next
    | with_reducible apply Fr.ite | with_reducible apply Ends.ite | with_reducible apply Fr.post (goDark_fr ..)
    | with_reducible dsimp only | with_reducible split | with_reducible apply Fr.setLight

theorem execLaserEnRise_fr (s : State) : Ends 0x20000 s (execLaserEnRise s) := by
  unfold execLaserEnRise
  repeat' first
    | with_reducible apply Fr.refl | ((with_reducible apply sub_ok); exact rfl) | with_reducible apply Ends.next
    | with_reducible apply Ends.ite | with_reducible dsimp only | with_reducible apply Fr.setLight

end Sys2Proof.Machine
end

