-- ==== Sys2Proof/Laws/FrCmdLoft.lean ====
section
/-! SUPPORT. What each operation of Machine/CmdLoft.lean may touch, and that it keeps the invariant. -/
namespace Sys2Proof.Machine

theorem execChunkDigestCheck_fr (chunk : Nat) (repair : Bool) (s : State) : Ends 0x1f82c s (execChunkDigestCheck chunk repair s) := by
  unfold execChunkDigestCheck
  repeat' first
    | with_reducible apply Fr.refl | ((with_reducible apply sub_ok); exact rfl) | with_reducible apply Ends.next
    | with_reducible apply Fr.ite | with_reducible apply Ends.ite | with_reducible apply Fr.post (digestCheck_fr ..)
    | with_reducible dsimp only | with_reducible split

theorem execBaySet_fr (req : Requester) (bay : Fin 2) (state : Fin 8) (s : State) : Ends 0xc028 s (execBaySet req bay state s) := by
  unfold execBaySet
  repeat' first
    | with_reducible apply Fr.refl | ((with_reducible apply sub_ok); exact rfl) | with_reducible apply Ends.next
    | with_reducible apply Fr.ite | with_reducible apply Ends.ite | with_reducible apply Fr.post (baySet_fr ..)
    | with_reducible dsimp only | with_reducible split

theorem execLoftSwitch_fr (req : Requester) (bay : Fin 2) (s : State) : Ends 0x4028 s (execLoftSwitch req bay s) := by
  unfold execLoftSwitch
  repeat' first
    | with_reducible apply Fr.refl | ((with_reducible apply sub_ok); exact rfl) | with_reducible apply Ends.next
    | with_reducible apply Fr.ite | with_reducible apply Ends.ite | with_reducible apply Fr.post (loftSwitch_fr ..)
    | with_reducible dsimp only | with_reducible split

theorem execRefopIncrement_fr (req : Requester) (bay : Fin 2) (n : W16) (s : State) : Ends 0x4028 s (execRefopIncrement req bay n s) := by
  unfold execRefopIncrement
  repeat' first
    | with_reducible apply Fr.refl | ((with_reducible apply sub_ok); exact rfl) | with_reducible apply Ends.next
    | with_reducible apply Fr.ite | with_reducible apply Ends.ite | with_reducible apply Fr.post (refOp_fr ..)
    | with_reducible dsimp only | with_reducible split

theorem execRefopDecrement_fr (req : Requester) (bay : Fin 2) (n : W16) (s : State) : Ends 0x4028 s (execRefopDecrement req bay n s) := by
  unfold execRefopDecrement
  repeat' first
    | with_reducible apply Fr.refl | ((with_reducible apply sub_ok); exact rfl) | with_reducible apply Ends.next
    | with_reducible apply Fr.ite | with_reducible apply Ends.ite | with_reducible apply Fr.post (refOp_fr ..)
    | with_reducible dsimp only | with_reducible split

theorem execMigrationStart_fr (s : State) : Ends 0x4000 s (execMigrationStart s) := by
  unfold execMigrationStart
  repeat' first
    | with_reducible apply Fr.refl | ((with_reducible apply sub_ok); exact rfl) | with_reducible apply Ends.next
    | with_reducible apply Fr.ite | with_reducible apply Ends.ite | with_reducible dsimp only | with_reducible split
    | with_reducible apply Fr.setLoft

theorem execBandMigrated_fr (s : State) : Ends 0xf82c s (execBandMigrated s) := by
  unfold execBandMigrated
  repeat' first
    | with_reducible apply Fr.refl | ((with_reducible apply sub_ok); exact rfl) | with_reducible apply Ends.next
    | with_reducible apply Fr.ite | with_reducible apply Ends.ite | with_reducible apply Fr.post (setF_fr ..)
    | with_reducible apply Fr.post (raiseEv_fr ..) | with_reducible apply Fr.post (drawn_fr ..)
    | with_reducible apply Fr.post (putBay_fr ..) | with_reducible apply Fr.post (writeEntry_fr ..)
    | with_reducible apply Fr.post (settle_fr ..) | with_reducible apply Fr.post (copyRange_fr ..)
    | with_reducible apply Fr.post (freeMigrated_fr ..) | with_reducible dsimp only | with_reducible split
    | with_reducible apply Fr.setLoft

theorem execBuildTimeout_fr (s : State) : Ends 0x4028 s (execBuildTimeout s) := by
  unfold execBuildTimeout
  repeat' first
    | with_reducible apply Fr.refl | ((with_reducible apply sub_ok); exact rfl) | with_reducible apply Ends.next
    | with_reducible apply Fr.ite | with_reducible apply Ends.ite | with_reducible apply Fr.post (failBuild_fr ..)
    | with_reducible dsimp only | with_reducible split

end Sys2Proof.Machine
end

