-- ==== Sys2Proof/Laws/FrCmdMon.lean ====
section
/-! SUPPORT. What each operation of Machine/CmdMon.lean may touch, and that it keeps the invariant. -/
namespace Sys2Proof.Machine

theorem execAccumulatorLatch_fr (conv : Fin 48) (acc : Fin 128) (s : State) : Ends 0x40008 s (execAccumulatorLatch conv acc s) := by
  unfold execAccumulatorLatch
  repeat' first
    | with_reducible apply Fr.refl | ((with_reducible apply sub_ok); exact rfl) | with_reducible apply Ends.next
    | with_reducible apply Ends.ite | with_reducible apply Fr.post (accLatch_fr ..) | with_reducible dsimp only

theorem execMonitorStart_fr (req : Requester) (conv : Fin 48) (s : State) : Ends 0x40000 s (execMonitorStart req conv s) := by
  unfold execMonitorStart
  repeat' first
    | with_reducible apply Fr.refl | ((with_reducible apply sub_ok); exact rfl) | with_reducible apply Ends.next
    | with_reducible apply Fr.ite | with_reducible apply Ends.ite | with_reducible apply Fr.post (monCtrlWrite_fr ..)
    | with_reducible dsimp only | with_reducible split

theorem execMonitorStop_fr (req : Requester) (conv : Fin 48) (s : State) : Ends 0x40000 s (execMonitorStop req conv s) := by
  unfold execMonitorStop
  repeat' first
    | with_reducible apply Fr.refl | ((with_reducible apply sub_ok); exact rfl) | with_reducible apply Ends.next
    | with_reducible apply Fr.ite | with_reducible apply Ends.ite | with_reducible apply Fr.post (monCtrlWrite_fr ..)
    | with_reducible dsimp only | with_reducible split

theorem execMonitorCal_fr (req : Requester) (conv : Fin 48) (s : State) : Ends 0x40000 s (execMonitorCal req conv s) := by
  unfold execMonitorCal
  repeat' first
    | with_reducible apply Fr.refl | ((with_reducible apply sub_ok); exact rfl) | with_reducible apply Ends.next
    | with_reducible apply Fr.ite | with_reducible apply Ends.ite | with_reducible apply Fr.post (monCtrlWrite_fr ..)
    | with_reducible dsimp only | with_reducible split

theorem execCalibrationEnd_fr (conv : Fin 48) (ground : Nat) (ref : Nat) (s : State) : Ends 0x17e04ec s (execCalibrationEnd conv ground ref s) := by
  unfold execCalibrationEnd
  repeat' first
    | with_reducible apply Fr.refl | ((with_reducible apply sub_ok); exact rfl) | with_reducible apply Ends.next
    | with_reducible apply Fr.ite | with_reducible apply Ends.ite | with_reducible apply Fr.post (calEnd_fr ..)
    | with_reducible apply Fr.post (calNext_fr ..) | with_reducible apply Fr.post (lightGoes_fr ..) | with_reducible dsimp only
    | with_reducible split

theorem execAccConfigWrite_fr (req : Requester) (conv : Fin 48) (reg : MonReg) (value : W32) (s : State) : Ends 0x40028 s (execAccConfigWrite req conv reg value s) := by
  unfold execAccConfigWrite
  repeat' first
    | with_reducible apply Fr.refl | ((with_reducible apply sub_ok); exact rfl) | with_reducible apply Ends.next
    | with_reducible apply Fr.ite | with_reducible apply Ends.ite | with_reducible apply Fr.post (monCfgWrite_fr ..)
    | with_reducible dsimp only | with_reducible split

theorem execTrmCodeWrite_fr (req : Requester) (chan : Fin 1024) (code : BitVec 12) (x2 : Bool) (en : Bool) (s : State) : Ends 0x40008 s (execTrmCodeWrite req chan code x2 en s) := by
  unfold execTrmCodeWrite
  repeat' first
    | with_reducible apply Fr.refl | ((with_reducible apply sub_ok); exact rfl) | with_reducible apply Ends.next
    | with_reducible apply Fr.ite | with_reducible apply Ends.ite | with_reducible apply Fr.post (trmCodeWrite_fr ..)
    | with_reducible dsimp only | with_reducible split

theorem execRangeHoldRelease_fr (chan : Fin 1024) (s : State) : Ends 0x40000 s (execRangeHoldRelease chan s) := by
  unfold execRangeHoldRelease
  repeat' first
    | with_reducible apply Fr.refl | ((with_reducible apply sub_ok); exact rfl) | with_reducible apply Ends.next
    | with_reducible apply Ends.ite | with_reducible apply Fr.post (trmRelease_fr ..) | with_reducible dsimp only

theorem execConversion_fr (raw : List (BitVec 12)) (s : State) : Ends 0xc0008 s (execConversion raw s) := by
  unfold execConversion
  repeat' first
    | with_reducible apply Fr.refl | ((with_reducible apply sub_ok); exact rfl) | with_reducible apply Ends.next
    | with_reducible apply Ends.ite | with_reducible apply Fr.post (conversion_fr ..) | with_reducible dsimp only

end Sys2Proof.Machine
end

