-- ==== Sys2Proof/Laws/FrCmdPower.lean ====
section
/-! SUPPORT. What each operation of Machine/CmdPower.lean may touch, and that it keeps the invariant. -/
namespace Sys2Proof.Machine

theorem execPrechargeComplete_fr (refclk : Bool) (s : State) : Ends 0x200000 s (execPrechargeComplete refclk s) := by
  unfold execPrechargeComplete
  repeat' first
    | with_reducible apply Fr.refl | ((with_reducible apply sub_ok); exact rfl) | with_reducible apply Ends.next
    | with_reducible apply Fr.ite | with_reducible apply Ends.ite | with_reducible dsimp only | with_reducible split
    | with_reducible apply Fr.setPwr

theorem execRailValid_fr (s : State) : Ends 0x1200008 s (execRailValid s) := by
  unfold execRailValid
  repeat' first
    | with_reducible apply Fr.refl | ((with_reducible apply sub_ok); exact rfl) | with_reducible apply Ends.next
    | with_reducible apply Fr.ite | with_reducible apply Ends.ite | with_reducible apply Fr.post (setF_fr ..)
    | with_reducible dsimp only | with_reducible split | with_reducible apply Fr.setPwr | with_reducible apply Fr.setSys
    | with_reducible apply Fr.setPwrSys

theorem execRefclkRetry_fr (refclk : Bool) (s : State) : Ends 0x200000 s (execRefclkRetry refclk s) := by
  unfold execRefclkRetry
  repeat' first
    | with_reducible apply Fr.refl | ((with_reducible apply sub_ok); exact rfl) | with_reducible apply Ends.next
    | with_reducible apply Fr.ite | with_reducible apply Ends.ite | with_reducible dsimp only | with_reducible split
    | with_reducible apply Fr.setPwr

theorem execInputWarning_fr (ovr : Bool) (set : Bool) (vin : Fin 4096) (iin : Fin 4096) (s : State) : Ends 0x200028 s (execInputWarning ovr set vin iin s) := by
  unfold execInputWarning
  repeat' first
    | with_reducible apply Fr.refl | ((with_reducible apply sub_ok); exact rfl) | with_reducible apply Ends.next
    | with_reducible apply Fr.ite | with_reducible apply Ends.ite | with_reducible apply Fr.post (inputEvent_fr ..)
    | with_reducible apply Fr.post (setF_fr ..) | with_reducible dsimp only | with_reducible split
    | with_reducible apply Fr.setPwr

theorem execForcedDemand_fr (overcurrent : Bool) (begins : Bool) (vin : Fin 4096) (iin : Fin 4096) (s : State) : Ends 0x3000ac s (execForcedDemand overcurrent begins vin iin s) := by
  unfold execForcedDemand
  repeat' first
    | with_reducible apply Fr.refl | ((with_reducible apply sub_ok); exact rfl) | with_reducible apply Ends.next
    | with_reducible apply Fr.ite | with_reducible apply Ends.ite | with_reducible apply Fr.post (applyDemand_fr ..)
    | with_reducible apply Fr.post (showForce_fr ..) | with_reducible apply Fr.post (inputEvent_fr ..)
    | with_reducible apply Fr.post (setF_fr ..) | with_reducible dsimp only | with_reducible split
    | with_reducible apply Fr.setPwr

theorem execPackageTrip_fr (cause : Fin 8) (vin : Fin 4096) (iin : Fin 4096) (s : State) : Ends 0x3fffffe s (execPackageTrip cause vin iin s) := by
  unfold execPackageTrip
  repeat' first
    | with_reducible apply Fr.refl | ((with_reducible apply sub_ok); exact rfl) | with_reducible apply Ends.next
    | with_reducible apply Fr.ite | with_reducible apply Ends.ite | with_reducible apply Fr.post (packageTrip_fr ..)
    | with_reducible dsimp only | with_reducible split

theorem execBudgetUpdate_fr (vin : Fin 4096) (iin : Fin 4096) (s : State) : Ends 0x200008 s (execBudgetUpdate vin iin s) := by
  unfold execBudgetUpdate
  repeat' first
    | with_reducible apply Fr.refl | ((with_reducible apply sub_ok); exact rfl) | with_reducible apply Ends.next
    | with_reducible apply Ends.ite | with_reducible apply Fr.post (budgetUpdate_fr ..) | with_reducible dsimp only

theorem execPbudgetAbsent_fr (s : State) : Ends 0x200028 s (execPbudgetAbsent s) := by
  unfold execPbudgetAbsent
  repeat' first
    | with_reducible apply Fr.refl | ((with_reducible apply sub_ok); exact rfl) | with_reducible apply Ends.next
    | with_reducible apply Fr.ite | with_reducible apply Ends.ite | with_reducible apply Fr.post (setF_fr ..)
    | with_reducible apply Fr.post (raiseEv_fr ..) | with_reducible dsimp only | with_reducible split
    | with_reducible apply Fr.setPwr

theorem execPbudgetRestored_fr (s : State) : Ends 0x200028 s (execPbudgetRestored s) := by
  unfold execPbudgetRestored
  repeat' first
    | with_reducible apply Fr.refl | ((with_reducible apply sub_ok); exact rfl) | with_reducible apply Ends.next
    | with_reducible apply Fr.ite | with_reducible apply Ends.ite | with_reducible apply Fr.post (setF_fr ..)
    | with_reducible apply Fr.post (raiseEv_fr ..) | with_reducible dsimp only | with_reducible split
    | with_reducible apply Fr.setPwr

theorem execPbudgetSample_fr (sample : PbSample) (s : State) : Ends 0x200000 s (execPbudgetSample sample s) := by
  unfold execPbudgetSample
  repeat' first
    | with_reducible apply Fr.refl | ((with_reducible apply sub_ok); exact rfl) | with_reducible apply Ends.next
    | with_reducible apply Ends.ite | with_reducible apply Fr.post (pbSample_fr ..) | with_reducible dsimp only

theorem execPdemandUpdate_fr (p0 : Nat) (p1 : Nat) (s : State) : Ends 0x40008 s (execPdemandUpdate p0 p1 s) := by
  unfold execPdemandUpdate
  repeat' first
    | with_reducible apply Fr.refl | ((with_reducible apply sub_ok); exact rfl) | with_reducible apply Ends.next
    | with_reducible apply Fr.ite | with_reducible apply Ends.ite | with_reducible apply Fr.post (trmCodeWrite_fr ..)
    | with_reducible dsimp only | with_reducible split

theorem execShedDemandApply_fr (s : State) : Ends 0x3000ac s (execShedDemandApply s) := by
  unfold execShedDemandApply
  repeat' first
    | with_reducible apply Fr.refl | ((with_reducible apply sub_ok); exact rfl) | with_reducible apply Ends.next
    | with_reducible apply Ends.ite | with_reducible apply Fr.post (applyDemand_fr ..) | with_reducible dsimp only

theorem execStallUnpark_fr (stall : Fin 16) (s : State) : Ends 0x200080 s (execStallUnpark stall s) := by
  unfold execStallUnpark
  repeat' first
    | with_reducible apply Fr.refl | ((with_reducible apply sub_ok); exact rfl) | with_reducible apply Ends.next
    | with_reducible apply Fr.ite | with_reducible apply Ends.ite | with_reducible apply Fr.post (releaseThm_fr ..)
    | with_reducible dsimp only | with_reducible split | with_reducible apply Fr.setPwr

theorem execOverbudgetClear_fr (s : State) : Ends 0x8 s (execOverbudgetClear s) := by
  unfold execOverbudgetClear
  repeat' first
    | with_reducible apply Fr.refl | with_reducible assumption | ((with_reducible apply sub_ok); exact rfl)
    | with_reducible apply Ends.next | with_reducible apply Fr.ite | with_reducible apply Ends.ite
    | with_reducible apply Fr.post (setLp_fr ..) | with_reducible apply Fr.post (setF_fr ..)
    | with_reducible refine Fr.foldl (fun _ _ _ => ?_) ?_ | with_reducible refine Fr.foldl_fst (fun _ _ _ => ?_) ?_
    | with_reducible dsimp only | with_reducible split

theorem execSensorReading_fr (die : Fin 6) (readings : List Int) (s : State) : Ends 0x3fffffe s (execSensorReading die readings s) := by
  unfold execSensorReading
  repeat' first
    | with_reducible apply Fr.refl | ((with_reducible apply sub_ok); exact rfl) | with_reducible apply Ends.next
    | with_reducible apply Ends.ite | with_reducible apply Fr.post (sensorReading_fr ..) | with_reducible dsimp only

theorem execContactSensorRead_fr (readings : List (Option Int)) (s : State) : Ends 0x3fffffe s (execContactSensorRead readings s) := by
  unfold execContactSensorRead
  repeat' first
    | with_reducible apply Fr.refl | ((with_reducible apply sub_ok); exact rfl) | with_reducible apply Ends.next
    | with_reducible apply Ends.ite | with_reducible apply Fr.post (contactReading_fr ..) | with_reducible dsimp only

theorem execMemoryTempRead_fr (unit : Fin 20) (readings : List MemTemp) (s : State) : Ends 0x3023ac s (execMemoryTempRead unit readings s) := by
  unfold execMemoryTempRead
  repeat' first
    | with_reducible apply Fr.refl | ((with_reducible apply sub_ok); exact rfl) | with_reducible apply Ends.next
    | with_reducible apply Ends.ite | with_reducible apply Fr.post (memTempRead_fr ..) | with_reducible dsimp only

theorem execQuietPeriodEnd_fr (die : Fin 4) (s : State) : Ends 0x220088 s (execQuietPeriodEnd die s) := by
  unfold execQuietPeriodEnd
  repeat' first
    | with_reducible apply Fr.refl | ((with_reducible apply sub_ok); exact rfl) | with_reducible apply Ends.next
    | with_reducible apply Ends.ite | with_reducible apply Fr.post (quietEnds_fr ..) | with_reducible dsimp only

theorem execTripEnd_fr (die : Fin 4) (s : State) : Ends 0x200028 s (execTripEnd die s) := by
  unfold execTripEnd
  repeat' first
    | with_reducible apply Fr.refl | ((with_reducible apply sub_ok); exact rfl) | with_reducible apply Ends.next
    | with_reducible apply Ends.ite | with_reducible apply Fr.post (tripEnds_fr ..) | with_reducible dsimp only

theorem execHoldoffEnd_fr (die : Fin 4) (s : State) : Ends 0x8 s (execHoldoffEnd die s) := by
  unfold execHoldoffEnd
  repeat' first
    | with_reducible apply Fr.refl | ((with_reducible apply sub_ok); exact rfl) | with_reducible apply Ends.next
    | with_reducible apply Ends.ite | with_reducible apply Fr.post (setBitF_fr ..) | with_reducible dsimp only

theorem execRecoveryOverrun_fr (die : Fin 4) (ms : Nat) (s : State) : Ends 0x200020 s (execRecoveryOverrun die ms s) := by
  unfold execRecoveryOverrun
  repeat' first
    | with_reducible apply Fr.refl | ((with_reducible apply sub_ok); exact rfl) | with_reducible apply Ends.next
    | with_reducible apply Fr.ite | with_reducible apply Ends.ite | with_reducible apply Fr.post (putDie_fr ..)
    | with_reducible apply Fr.post (raiseEv_fr ..) | with_reducible dsimp only | with_reducible split

theorem execDieTripEnd_fr (die : Fin 4) (stack : Fin 9) (s : State) : Ends 0x200388 s (execDieTripEnd die stack s) := by
  unfold execDieTripEnd
  repeat' first
    | with_reducible apply Fr.refl | ((with_reducible apply sub_ok); exact rfl) | with_reducible apply Ends.next
    | with_reducible apply Fr.ite | with_reducible apply Ends.ite | with_reducible apply Fr.post (putDie_fr ..)
    | with_reducible apply Fr.post (dieTripEnds_fr ..) | with_reducible dsimp only | with_reducible split

end Sys2Proof.Machine
end

