-- ==== Sys2Proof/Laws/FrCmdRein.lean ====
section
/-! SUPPORT. What each operation of Machine/CmdRein.lean may touch, and that it keeps the invariant. -/
namespace Sys2Proof.Machine

theorem execLoopExecution_fr (loop : Fin 6144) (s : State) : Ends 0x1e04ec s (execLoopExecution loop s) := by
  unfold execLoopExecution
  repeat' first
    | with_reducible apply Fr.refl | ((with_reducible apply sub_ok); exact rfl) | with_reducible apply Ends.next
    | with_reducible apply Ends.ite | with_reducible apply Fr.post (runLoop_fr ..) | with_reducible dsimp only

theorem execOutputPhase_fr (s : State) : Ends 0x3e00ac s (execOutputPhase s) := by
  unfold execOutputPhase
  repeat' first
    | with_reducible apply Fr.refl | ((with_reducible apply sub_ok); exact rfl) | with_reducible apply Ends.next
    | with_reducible apply Ends.ite | with_reducible apply Fr.post (faultPhase_fr ..)
    | with_reducible apply Fr.post (outputPhase_fr ..) | with_reducible dsimp only

theorem execBankStop_fr (req : Requester) (bank : Fin 24) (s : State) : Ends 0x80028 s (execBankStop req bank s) := by
  unfold execBankStop
  repeat' first
    | with_reducible apply Fr.refl | ((with_reducible apply sub_ok); exact rfl) | with_reducible apply Ends.next
    | with_reducible apply Fr.ite | with_reducible apply Ends.ite | with_reducible apply Fr.post (bankCtrlWrite_fr ..)
    | with_reducible dsimp only | with_reducible split

theorem execBankStart_fr (req : Requester) (bank : Fin 24) (s : State) : Ends 0x80028 s (execBankStart req bank s) := by
  unfold execBankStart
  repeat' first
    | with_reducible apply Fr.refl | ((with_reducible apply sub_ok); exact rfl) | with_reducible apply Ends.next
    | with_reducible apply Fr.ite | with_reducible apply Ends.ite | with_reducible apply Fr.post (bankCtrlWrite_fr ..)
    | with_reducible dsimp only | with_reducible split

theorem execLoopFieldWrite_fr (req : Requester) (loop : Fin 6144) (word : LoopOffset) (value : W32) (s : State) : Ends 0x80028 s (execLoopFieldWrite req loop word value s) := by
  unfold execLoopFieldWrite
  repeat' first
    | with_reducible apply Fr.refl | ((with_reducible apply sub_ok); exact rfl) | with_reducible apply Ends.next
    | with_reducible apply Fr.ite | with_reducible apply Ends.ite | with_reducible apply Fr.post (loopFieldWrite_fr ..)
    | with_reducible dsimp only | with_reducible split

theorem execFreezeWrite_fr (req : Requester) (loop : Fin 6144) (freeze : Bool) (s : State) : Ends 0x80008 s (execFreezeWrite req loop freeze s) := by
  unfold execFreezeWrite
  repeat' first
    | with_reducible apply Fr.refl | ((with_reducible apply sub_ok); exact rfl) | with_reducible apply Ends.next
    | with_reducible apply Fr.ite | with_reducible apply Ends.ite | with_reducible apply Fr.post (setFreeze_fr ..)
    | with_reducible dsimp only | with_reducible split

end Sys2Proof.Machine
end

