-- ==== Sys2Proof/Laws/FrCmdShed.lean ====
section
/-! SUPPORT. What each operation of Machine/CmdShed.lean may touch, and that it keeps the invariant. -/
namespace Sys2Proof.Machine

theorem execScalarAdd_fr (shed : Fin 64) (thread : Fin 256) (rd : Fin 32) (ra : Fin 32) (rb : Fin 32) (mask : Fin 8) (s : State) : Ends 0xf92c s (execScalarAdd shed thread rd ra rb mask s) := by
  unfold execScalarAdd
  repeat' first
    | with_reducible apply Fr.refl | ((with_reducible apply sub_ok); exact rfl) | with_reducible apply Ends.next
    | with_reducible apply Ends.ite | with_reducible apply Fr.post (scalarOp_fr ..) | with_reducible dsimp only

theorem execScalarSub_fr (shed : Fin 64) (thread : Fin 256) (rd : Fin 32) (ra : Fin 32) (rb : Fin 32) (mask : Fin 8) (s : State) : Ends 0xf92c s (execScalarSub shed thread rd ra rb mask s) := by
  unfold execScalarSub
  repeat' first
    | with_reducible apply Fr.refl | ((with_reducible apply sub_ok); exact rfl) | with_reducible apply Ends.next
    | with_reducible apply Ends.ite | with_reducible apply Fr.post (scalarOp_fr ..) | with_reducible dsimp only

theorem execScalarLogic_fr (shed : Fin 64) (thread : Fin 256) (fn : LogicFn) (rd : Fin 32) (ra : Fin 32) (rb : Fin 32) (mask : Fin 8) (s : State) : Ends 0xf92c s (execScalarLogic shed thread fn rd ra rb mask s) := by
  unfold execScalarLogic
  repeat' first
    | with_reducible apply Fr.refl | ((with_reducible apply sub_ok); exact rfl) | with_reducible apply Ends.next
    | with_reducible apply Ends.ite | with_reducible apply Fr.post (scalarOp_fr ..) | with_reducible dsimp only

theorem execScalarShift_fr (shed : Fin 64) (thread : Fin 256) (fn : ShiftFn) (rd : Fin 32) (ra : Fin 32) (rb : Fin 32) (mask : Fin 8) (s : State) : Ends 0xf92c s (execScalarShift shed thread fn rd ra rb mask s) := by
  unfold execScalarShift
  repeat' first
    | with_reducible apply Fr.refl | ((with_reducible apply sub_ok); exact rfl) | with_reducible apply Ends.next
    | with_reducible apply Ends.ite | with_reducible apply Fr.post (scalarOp_fr ..) | with_reducible dsimp only

theorem execScalarCompare_fr (shed : Fin 64) (thread : Fin 256) (fn : CmpFn) (rd : Fin 32) (ra : Fin 32) (rb : Fin 32) (mask : Fin 8) (s : State) : Ends 0xf92c s (execScalarCompare shed thread fn rd ra rb mask s) := by
  unfold execScalarCompare
  repeat' first
    | with_reducible apply Fr.refl | ((with_reducible apply sub_ok); exact rfl) | with_reducible apply Ends.next
    | with_reducible apply Ends.ite | with_reducible apply Fr.post (scalarOp_fr ..) | with_reducible dsimp only

theorem execMul_fr (shed : Fin 64) (thread : Fin 256) (rd : Fin 32) (ra : Fin 32) (rb : Fin 32) (mask : Fin 8) (s : State) : Ends 0xf92c s (execMul shed thread rd ra rb mask s) := by
  unfold execMul
  repeat' first
    | with_reducible apply Fr.refl | ((with_reducible apply sub_ok); exact rfl) | with_reducible apply Ends.next
    | with_reducible apply Ends.ite | with_reducible apply Fr.post (scalarOp_fr ..) | with_reducible dsimp only

theorem execDiv_fr (shed : Fin 64) (thread : Fin 256) (rd : Fin 32) (ra : Fin 32) (rb : Fin 32) (mask : Fin 8) (s : State) : Ends 0xf92c s (execDiv shed thread rd ra rb mask s) := by
  unfold execDiv
  repeat' first
    | with_reducible apply Fr.refl | ((with_reducible apply sub_ok); exact rfl) | with_reducible apply Ends.next
    | with_reducible apply Ends.ite | with_reducible apply Fr.post (scalarOp_fr ..) | with_reducible dsimp only

theorem execScalarImmediate_fr (shed : Fin 64) (thread : Fin 256) (fn : ImmFn) (rd : Fin 32) (ra : Fin 32) (imm : BitVec 12) (s : State) : Ends 0xf92c s (execScalarImmediate shed thread fn rd ra imm s) := by
  unfold execScalarImmediate
  repeat' first
    | with_reducible apply Fr.refl | ((with_reducible apply sub_ok); exact rfl) | with_reducible apply Ends.next
    | with_reducible apply Ends.ite | with_reducible apply Fr.post (scalarOp_fr ..) | with_reducible dsimp only

theorem execLui_fr (shed : Fin 64) (thread : Fin 256) (rd : Fin 32) (imm : BitVec 12) (s : State) : Ends 0xf92c s (execLui shed thread rd imm s) := by
  unfold execLui
  repeat' first
    | with_reducible apply Fr.refl | ((with_reducible apply sub_ok); exact rfl) | with_reducible apply Ends.next
    | with_reducible apply Ends.ite | with_reducible apply Fr.post (scalarOp_fr ..) | with_reducible dsimp only

theorem branchOp_fr (s : State) (i : Nat) (t : Nat) (ra : Nat) (rb : Nat) (off : BitVec 15) (cond : W64 → W64 → Bool) : Fr 0xf92c s (branchOp s i t ra rb off cond) := by
  unfold branchOp
  repeat' first
    | with_reducible apply Fr.refl | ((with_reducible apply sub_ok); exact rfl) | with_reducible apply Fr.ite
    | with_reducible apply Fr.post (scalarOp_fr ..) | with_reducible dsimp only | with_reducible split

theorem execBranchEq_fr (shed : Fin 64) (thread : Fin 256) (ra : Fin 32) (rb : Fin 32) (off : BitVec 15) (s : State) : Ends 0xf92c s (execBranchEq shed thread ra rb off s) := by
  unfold execBranchEq
  repeat' first
    | with_reducible apply Fr.refl | ((with_reducible apply sub_ok); exact rfl) | with_reducible apply Ends.next
    | with_reducible apply Ends.ite | with_reducible apply Fr.post (branchOp_fr ..) | with_reducible dsimp only

theorem execBranchNe_fr (shed : Fin 64) (thread : Fin 256) (ra : Fin 32) (rb : Fin 32) (off : BitVec 15) (s : State) : Ends 0xf92c s (execBranchNe shed thread ra rb off s) := by
  unfold execBranchNe
  repeat' first
    | with_reducible apply Fr.refl | ((with_reducible apply sub_ok); exact rfl) | with_reducible apply Ends.next
    | with_reducible apply Ends.ite | with_reducible apply Fr.post (branchOp_fr ..) | with_reducible dsimp only

theorem execBranchLt_fr (shed : Fin 64) (thread : Fin 256) (ra : Fin 32) (rb : Fin 32) (off : BitVec 15) (s : State) : Ends 0xf92c s (execBranchLt shed thread ra rb off s) := by
  unfold execBranchLt
  repeat' first
    | with_reducible apply Fr.refl | ((with_reducible apply sub_ok); exact rfl) | with_reducible apply Ends.next
    | with_reducible apply Ends.ite | with_reducible apply Fr.post (branchOp_fr ..) | with_reducible dsimp only

theorem execBranchGe_fr (shed : Fin 64) (thread : Fin 256) (ra : Fin 32) (rb : Fin 32) (off : BitVec 15) (s : State) : Ends 0xf92c s (execBranchGe shed thread ra rb off s) := by
  unfold execBranchGe
  repeat' first
    | with_reducible apply Fr.refl | ((with_reducible apply sub_ok); exact rfl) | with_reducible apply Ends.next
    | with_reducible apply Ends.ite | with_reducible apply Fr.post (branchOp_fr ..) | with_reducible dsimp only

theorem execBranchLtu_fr (shed : Fin 64) (thread : Fin 256) (ra : Fin 32) (rb : Fin 32) (off : BitVec 15) (s : State) : Ends 0xf92c s (execBranchLtu shed thread ra rb off s) := by
  unfold execBranchLtu
  repeat' first
    | with_reducible apply Fr.refl | ((with_reducible apply sub_ok); exact rfl) | with_reducible apply Ends.next
    | with_reducible apply Ends.ite | with_reducible apply Fr.post (branchOp_fr ..) | with_reducible dsimp only

theorem execBranchGeu_fr (shed : Fin 64) (thread : Fin 256) (ra : Fin 32) (rb : Fin 32) (off : BitVec 15) (s : State) : Ends 0xf92c s (execBranchGeu shed thread ra rb off s) := by
  unfold execBranchGeu
  repeat' first
    | with_reducible apply Fr.refl | ((with_reducible apply sub_ok); exact rfl) | with_reducible apply Ends.next
    | with_reducible apply Ends.ite | with_reducible apply Fr.post (branchOp_fr ..) | with_reducible dsimp only

theorem execJumpToRegister_fr (shed : Fin 64) (thread : Fin 256) (ra : Fin 32) (s : State) : Ends 0xf92c s (execJumpToRegister shed thread ra s) := by
  unfold execJumpToRegister
  repeat' first
    | with_reducible apply Fr.refl | ((with_reducible apply sub_ok); exact rfl) | with_reducible apply Ends.next
    | with_reducible apply Ends.ite | with_reducible apply Fr.post (scalarOp_fr ..) | with_reducible dsimp only

theorem execJumpAndLink_fr (shed : Fin 64) (thread : Fin 256) (rd : Fin 32) (off : BitVec 20) (s : State) : Ends 0xf92c s (execJumpAndLink shed thread rd off s) := by
  unfold execJumpAndLink
  repeat' first
    | with_reducible apply Fr.refl | ((with_reducible apply sub_ok); exact rfl) | with_reducible apply Ends.next
    | with_reducible apply Ends.ite | with_reducible apply Fr.post (scalarOp_fr ..) | with_reducible dsimp only

theorem execScalarLoad_fr (shed : Fin 64) (thread : Fin 256) (size : Fin 8) (ord : Fin 4) (rd : Fin 32) (ra : Fin 32) (off : BitVec 12) (s : State) : Ends 0xf92c s (execScalarLoad shed thread size ord rd ra off s) := by
  unfold execScalarLoad
  repeat' first
    | with_reducible apply Fr.refl | ((with_reducible apply sub_ok); exact rfl) | with_reducible apply Ends.next
    | with_reducible apply Fr.ite | with_reducible apply Ends.ite | with_reducible apply issue_fr | with_reducible intro _ _
    | with_reducible apply IssueEnd.from_wait | with_reducible apply IssueEnd.from_trap | with_reducible apply IssueEnd.from_done
    | with_reducible apply IssueEnd.from_ite | with_reducible apply issueAccess_from | with_reducible dsimp only
    | with_reducible split

theorem execScalarStore_fr (shed : Fin 64) (thread : Fin 256) (size : Fin 8) (ord : Fin 4) (rs : Fin 32) (ra : Fin 32) (off : BitVec 12) (s : State) : Ends 0xf92c s (execScalarStore shed thread size ord rs ra off s) := by
  unfold execScalarStore
  repeat' first
    | with_reducible apply Fr.refl | ((with_reducible apply sub_ok); exact rfl) | with_reducible apply Ends.next
    | with_reducible apply Fr.ite | with_reducible apply Ends.ite | with_reducible apply issue_fr | with_reducible intro _ _
    | with_reducible apply IssueEnd.from_wait | with_reducible apply IssueEnd.from_trap | with_reducible apply IssueEnd.from_done
    | with_reducible apply IssueEnd.from_ite | with_reducible apply issueAccess_from | with_reducible dsimp only
    | with_reducible split

theorem execVectorLoad_fr (shed : Fin 64) (thread : Fin 256) (size : Fin 8) (ord : Fin 4) (vd : Fin 32) (ra : Fin 32) (off : BitVec 12) (s : State) : Ends 0xf92c s (execVectorLoad shed thread size ord vd ra off s) := by
  unfold execVectorLoad
  repeat' first
    | with_reducible apply Fr.refl | ((with_reducible apply sub_ok); exact rfl) | with_reducible apply Ends.next
    | with_reducible apply Fr.ite | with_reducible apply Ends.ite | with_reducible apply issue_fr | with_reducible intro _ _
    | with_reducible apply IssueEnd.from_wait | with_reducible apply IssueEnd.from_trap | with_reducible apply IssueEnd.from_done
    | with_reducible apply IssueEnd.from_ite | with_reducible apply issueAccess_from | with_reducible dsimp only
    | with_reducible split

theorem execVectorStore_fr (shed : Fin 64) (thread : Fin 256) (size : Fin 8) (ord : Fin 4) (vs : Fin 32) (ra : Fin 32) (off : BitVec 12) (s : State) : Ends 0xf92c s (execVectorStore shed thread size ord vs ra off s) := by
  unfold execVectorStore
  repeat' first
    | with_reducible apply Fr.refl | ((with_reducible apply sub_ok); exact rfl) | with_reducible apply Ends.next
    | with_reducible apply Fr.ite | with_reducible apply Ends.ite | with_reducible apply issue_fr | with_reducible intro _ _
    | with_reducible apply IssueEnd.from_wait | with_reducible apply IssueEnd.from_trap | with_reducible apply IssueEnd.from_done
    | with_reducible apply IssueEnd.from_ite | with_reducible apply issueAccess_from | with_reducible dsimp only
    | with_reducible split

theorem execVectorArith_fr (shed : Fin 64) (thread : Fin 256) (fn : VecFn) (ty : VecTy) (vd : Fin 32) (va : Fin 32) (vb : Fin 32) (mask : Fin 8) (s : State) : Ends 0xf92c s (execVectorArith shed thread fn ty vd va vb mask s) := by
  unfold execVectorArith
  repeat' first
    | with_reducible apply Fr.refl | ((with_reducible apply sub_ok); exact rfl) | with_reducible apply Ends.next
    | with_reducible apply Fr.ite | with_reducible apply Ends.ite | with_reducible apply Fr.post (drawn_fr ..)
    | with_reducible apply issue_fr | with_reducible intro _ _ | with_reducible apply IssueEnd.from_wait
    | with_reducible apply IssueEnd.from_trap | with_reducible apply IssueEnd.from_done | with_reducible apply IssueEnd.from_ite
    | with_reducible apply issueAccess_from | with_reducible dsimp only | with_reducible split

theorem execVfma_fr (shed : Fin 64) (thread : Fin 256) (ty : FmaTy) (vd : Fin 32) (va : Fin 32) (vb : Fin 32) (mask : Fin 8) (s : State) : Ends 0xf92c s (execVfma shed thread ty vd va vb mask s) := by
  unfold execVfma
  repeat' first
    | with_reducible apply Fr.refl | ((with_reducible apply sub_ok); exact rfl) | with_reducible apply Ends.next
    | with_reducible apply Fr.ite | with_reducible apply Ends.ite | with_reducible apply Fr.post (drawn_fr ..)
    | with_reducible apply issue_fr | with_reducible intro _ _ | with_reducible apply IssueEnd.from_wait
    | with_reducible apply IssueEnd.from_trap | with_reducible apply IssueEnd.from_done | with_reducible apply IssueEnd.from_ite
    | with_reducible apply issueAccess_from | with_reducible dsimp only | with_reducible split

theorem execVdot2_fr (shed : Fin 64) (thread : Fin 256) (vd : Fin 32) (va : Fin 32) (vb : Fin 32) (mask : Fin 8) (s : State) : Ends 0xf92c s (execVdot2 shed thread vd va vb mask s) := by
  unfold execVdot2
  repeat' first
    | with_reducible apply Fr.refl | ((with_reducible apply sub_ok); exact rfl) | with_reducible apply Ends.next
    | with_reducible apply Ends.ite | with_reducible apply Fr.post (drawn_fr ..) | with_reducible apply issue_fr
    | with_reducible intro _ _ | with_reducible apply IssueEnd.from_wait | with_reducible apply IssueEnd.from_trap
    | with_reducible apply IssueEnd.from_done | with_reducible apply IssueEnd.from_ite | with_reducible apply issueAccess_from
    | with_reducible dsimp only

theorem execBxdot8_fr (shed : Fin 64) (thread : Fin 256) (vd : Fin 32) (va : Fin 32) (vb : Fin 32) (xs : Fin 32) (s : State) : Ends 0xf92c s (execBxdot8 shed thread vd va vb xs s) := by
  unfold execBxdot8
  repeat' first
    | with_reducible apply Fr.refl | ((with_reducible apply sub_ok); exact rfl) | with_reducible apply Ends.next
    | with_reducible apply Ends.ite | with_reducible apply Fr.post (drawn_fr ..) | with_reducible apply issue_fr
    | with_reducible intro _ _ | with_reducible apply IssueEnd.from_wait | with_reducible apply IssueEnd.from_trap
    | with_reducible apply IssueEnd.from_done | with_reducible apply IssueEnd.from_ite | with_reducible apply issueAccess_from
    | with_reducible dsimp only

theorem execTobx4_fr (shed : Fin 64) (thread : Fin 256) (vd : Fin 32) (va : Fin 32) (xs : Fin 32) (slot : Fin 4) (rnd : Fin 4) (s : State) : Ends 0xf92c s (execTobx4 shed thread vd va xs slot rnd s) := by
  unfold execTobx4
  repeat' first
    | with_reducible apply Fr.refl | ((with_reducible apply sub_ok); exact rfl) | with_reducible apply Ends.next
    | with_reducible apply Fr.ite | with_reducible apply Ends.ite | with_reducible apply issue_fr | with_reducible intro _ _
    | with_reducible apply IssueEnd.from_wait | with_reducible apply IssueEnd.from_trap | with_reducible apply IssueEnd.from_done
    | with_reducible apply IssueEnd.from_ite | with_reducible apply issueAccess_from | with_reducible dsimp only
    | with_reducible split

theorem execTobx8_fr (shed : Fin 64) (thread : Fin 256) (vd : Fin 32) (va : Fin 32) (xs : Fin 32) (slot : Fin 4) (rnd : Fin 4) (s : State) : Ends 0xf92c s (execTobx8 shed thread vd va xs slot rnd s) := by
  unfold execTobx8
  repeat' first
    | with_reducible apply Fr.refl | ((with_reducible apply sub_ok); exact rfl) | with_reducible apply Ends.next
    | with_reducible apply Fr.ite | with_reducible apply Ends.ite | with_reducible apply issue_fr | with_reducible intro _ _
    | with_reducible apply IssueEnd.from_wait | with_reducible apply IssueEnd.from_trap | with_reducible apply IssueEnd.from_done
    | with_reducible apply IssueEnd.from_ite | with_reducible apply issueAccess_from | with_reducible dsimp only
    | with_reducible split

theorem execTobx16_fr (shed : Fin 64) (thread : Fin 256) (vd : Fin 32) (va : Fin 32) (xs : Fin 32) (slot : Fin 4) (rnd : Fin 4) (s : State) : Ends 0xf92c s (execTobx16 shed thread vd va xs slot rnd s) := by
  unfold execTobx16
  repeat' first
    | with_reducible apply Fr.refl | ((with_reducible apply sub_ok); exact rfl) | with_reducible apply Ends.next
    | with_reducible apply Fr.ite | with_reducible apply Ends.ite | with_reducible apply issue_fr | with_reducible intro _ _
    | with_reducible apply IssueEnd.from_wait | with_reducible apply IssueEnd.from_trap | with_reducible apply IssueEnd.from_done
    | with_reducible apply IssueEnd.from_ite | with_reducible apply issueAccess_from | with_reducible dsimp only
    | with_reducible split

theorem execFrombx4_fr (shed : Fin 64) (thread : Fin 256) (vd : Fin 32) (va : Fin 32) (xs : Fin 32) (group : Fin 8) (s : State) : Ends 0xf92c s (execFrombx4 shed thread vd va xs group s) := by
  unfold execFrombx4
  repeat' first
    | with_reducible apply Fr.refl | ((with_reducible apply sub_ok); exact rfl) | with_reducible apply Ends.next
    | with_reducible apply Fr.ite | with_reducible apply Ends.ite | with_reducible apply issue_fr | with_reducible intro _ _
    | with_reducible apply IssueEnd.from_wait | with_reducible apply IssueEnd.from_trap | with_reducible apply IssueEnd.from_done
    | with_reducible apply IssueEnd.from_ite | with_reducible apply issueAccess_from | with_reducible dsimp only
    | with_reducible split

theorem execFrombx8_fr (shed : Fin 64) (thread : Fin 256) (vd : Fin 32) (va : Fin 32) (xs : Fin 32) (group : Fin 8) (s : State) : Ends 0xf92c s (execFrombx8 shed thread vd va xs group s) := by
  unfold execFrombx8
  repeat' first
    | with_reducible apply Fr.refl | ((with_reducible apply sub_ok); exact rfl) | with_reducible apply Ends.next
    | with_reducible apply Fr.ite | with_reducible apply Ends.ite | with_reducible apply issue_fr | with_reducible intro _ _
    | with_reducible apply IssueEnd.from_wait | with_reducible apply IssueEnd.from_trap | with_reducible apply IssueEnd.from_done
    | with_reducible apply IssueEnd.from_ite | with_reducible apply issueAccess_from | with_reducible dsimp only
    | with_reducible split

theorem execFrombx16_fr (shed : Fin 64) (thread : Fin 256) (vd : Fin 32) (va : Fin 32) (xs : Fin 32) (group : Fin 8) (s : State) : Ends 0xf92c s (execFrombx16 shed thread vd va xs group s) := by
  unfold execFrombx16
  repeat' first
    | with_reducible apply Fr.refl | ((with_reducible apply sub_ok); exact rfl) | with_reducible apply Ends.next
    | with_reducible apply Fr.ite | with_reducible apply Ends.ite | with_reducible apply issue_fr | with_reducible intro _ _
    | with_reducible apply IssueEnd.from_wait | with_reducible apply IssueEnd.from_trap | with_reducible apply IssueEnd.from_done
    | with_reducible apply IssueEnd.from_ite | with_reducible apply issueAccess_from | with_reducible dsimp only
    | with_reducible split

theorem execF32tobf16_fr (shed : Fin 64) (thread : Fin 256) (vd : Fin 32) (va : Fin 32) (s : State) : Ends 0xf92c s (execF32tobf16 shed thread vd va s) := by
  unfold execF32tobf16
  repeat' first
    | with_reducible apply Fr.refl | ((with_reducible apply sub_ok); exact rfl) | with_reducible apply Ends.next
    | with_reducible apply Fr.ite | with_reducible apply Ends.ite | with_reducible apply issue_fr | with_reducible intro _ _
    | with_reducible apply IssueEnd.from_wait | with_reducible apply IssueEnd.from_trap | with_reducible apply IssueEnd.from_done
    | with_reducible apply IssueEnd.from_ite | with_reducible apply issueAccess_from | with_reducible dsimp only
    | with_reducible split

theorem execBf16tof32_fr (shed : Fin 64) (thread : Fin 256) (vd : Fin 32) (va : Fin 32) (half : Fin 2) (s : State) : Ends 0xf92c s (execBf16tof32 shed thread vd va half s) := by
  unfold execBf16tof32
  repeat' first
    | with_reducible apply Fr.refl | ((with_reducible apply sub_ok); exact rfl) | with_reducible apply Ends.next
    | with_reducible apply Ends.ite | with_reducible apply issue_fr | with_reducible intro _ _
    | with_reducible apply IssueEnd.from_wait | with_reducible apply IssueEnd.from_trap | with_reducible apply IssueEnd.from_done
    | with_reducible apply IssueEnd.from_ite | with_reducible apply issueAccess_from | with_reducible dsimp only

theorem atomicOp_fr (s : State) (i t func rd ra rb mask mod : Nat) : Fr 0xf92c s (atomicOp s i t func rd ra rb mask mod) := by
  unfold atomicOp
  refine issue_fr rfl (fun u th => ?_)
  dsimp only
  refine IssueEnd.from_ite (IssueEnd.from_trap ..) ?_
  have h := issueAccess_from 0xf92c u th (th.xr ra) (if mod % 4 = 2 then 4 else 8)
    (.atomic func (if mod % 4 = 2 then 4 else 8) rd (th.xr rb) (th.xr rd)) (mod / 4 % 2 == 1) (mod / 8 == 1)
  split
  · rename_i e
    rw [e] at h
    exact IssueEnd.from_ite (IssueEnd.from_trap ..) h
  · exact h

theorem execAtomicAdd_fr (shed : Fin 64) (thread : Fin 256) (rd : Fin 32) (ra : Fin 32) (rb : Fin 32) (mask : Fin 8) (mod : Fin 16) (s : State) : Ends 0xf92c s (execAtomicAdd shed thread rd ra rb mask mod s) := by
  unfold execAtomicAdd
  repeat' first
    | with_reducible apply Fr.refl | ((with_reducible apply sub_ok); exact rfl) | with_reducible apply Ends.next
    | with_reducible apply Ends.ite | with_reducible apply Fr.post (atomicOp_fr ..) | with_reducible dsimp only

theorem execAtomicAnd_fr (shed : Fin 64) (thread : Fin 256) (rd : Fin 32) (ra : Fin 32) (rb : Fin 32) (mask : Fin 8) (mod : Fin 16) (s : State) : Ends 0xf92c s (execAtomicAnd shed thread rd ra rb mask mod s) := by
  unfold execAtomicAnd
  repeat' first
    | with_reducible apply Fr.refl | ((with_reducible apply sub_ok); exact rfl) | with_reducible apply Ends.next
    | with_reducible apply Ends.ite | with_reducible apply Fr.post (atomicOp_fr ..) | with_reducible dsimp only

theorem execAtomicOr_fr (shed : Fin 64) (thread : Fin 256) (rd : Fin 32) (ra : Fin 32) (rb : Fin 32) (mask : Fin 8) (mod : Fin 16) (s : State) : Ends 0xf92c s (execAtomicOr shed thread rd ra rb mask mod s) := by
  unfold execAtomicOr
  repeat' first
    | with_reducible apply Fr.refl | ((with_reducible apply sub_ok); exact rfl) | with_reducible apply Ends.next
    | with_reducible apply Ends.ite | with_reducible apply Fr.post (atomicOp_fr ..) | with_reducible dsimp only

theorem execAtomicXor_fr (shed : Fin 64) (thread : Fin 256) (rd : Fin 32) (ra : Fin 32) (rb : Fin 32) (mask : Fin 8) (mod : Fin 16) (s : State) : Ends 0xf92c s (execAtomicXor shed thread rd ra rb mask mod s) := by
  unfold execAtomicXor
  repeat' first
    | with_reducible apply Fr.refl | ((with_reducible apply sub_ok); exact rfl) | with_reducible apply Ends.next
    | with_reducible apply Ends.ite | with_reducible apply Fr.post (atomicOp_fr ..) | with_reducible dsimp only

theorem execAtomicSwap_fr (shed : Fin 64) (thread : Fin 256) (rd : Fin 32) (ra : Fin 32) (rb : Fin 32) (mask : Fin 8) (mod : Fin 16) (s : State) : Ends 0xf92c s (execAtomicSwap shed thread rd ra rb mask mod s) := by
  unfold execAtomicSwap
  repeat' first
    | with_reducible apply Fr.refl | ((with_reducible apply sub_ok); exact rfl) | with_reducible apply Ends.next
    | with_reducible apply Ends.ite | with_reducible apply Fr.post (atomicOp_fr ..) | with_reducible dsimp only

theorem execAtomicCas_fr (shed : Fin 64) (thread : Fin 256) (rd : Fin 32) (ra : Fin 32) (rb : Fin 32) (mask : Fin 8) (mod : Fin 16) (s : State) : Ends 0xf92c s (execAtomicCas shed thread rd ra rb mask mod s) := by
  unfold execAtomicCas
  repeat' first
    | with_reducible apply Fr.refl | ((with_reducible apply sub_ok); exact rfl) | with_reducible apply Ends.next
    | with_reducible apply Ends.ite | with_reducible apply Fr.post (atomicOp_fr ..) | with_reducible dsimp only

theorem execAtomicMins_fr (shed : Fin 64) (thread : Fin 256) (rd : Fin 32) (ra : Fin 32) (rb : Fin 32) (mask : Fin 8) (mod : Fin 16) (s : State) : Ends 0xf92c s (execAtomicMins shed thread rd ra rb mask mod s) := by
  unfold execAtomicMins
  repeat' first
    | with_reducible apply Fr.refl | ((with_reducible apply sub_ok); exact rfl) | with_reducible apply Ends.next
    | with_reducible apply Ends.ite | with_reducible apply Fr.post (atomicOp_fr ..) | with_reducible dsimp only

theorem execAtomicMaxs_fr (shed : Fin 64) (thread : Fin 256) (rd : Fin 32) (ra : Fin 32) (rb : Fin 32) (mask : Fin 8) (mod : Fin 16) (s : State) : Ends 0xf92c s (execAtomicMaxs shed thread rd ra rb mask mod s) := by
  unfold execAtomicMaxs
  repeat' first
    | with_reducible apply Fr.refl | ((with_reducible apply sub_ok); exact rfl) | with_reducible apply Ends.next
    | with_reducible apply Ends.ite | with_reducible apply Fr.post (atomicOp_fr ..) | with_reducible dsimp only

theorem execAtomicMinu_fr (shed : Fin 64) (thread : Fin 256) (rd : Fin 32) (ra : Fin 32) (rb : Fin 32) (mask : Fin 8) (mod : Fin 16) (s : State) : Ends 0xf92c s (execAtomicMinu shed thread rd ra rb mask mod s) := by
  unfold execAtomicMinu
  repeat' first
    | with_reducible apply Fr.refl | ((with_reducible apply sub_ok); exact rfl) | with_reducible apply Ends.next
    | with_reducible apply Ends.ite | with_reducible apply Fr.post (atomicOp_fr ..) | with_reducible dsimp only

theorem execAtomicMaxu_fr (shed : Fin 64) (thread : Fin 256) (rd : Fin 32) (ra : Fin 32) (rb : Fin 32) (mask : Fin 8) (mod : Fin 16) (s : State) : Ends 0xf92c s (execAtomicMaxu shed thread rd ra rb mask mod s) := by
  unfold execAtomicMaxu
  repeat' first
    | with_reducible apply Fr.refl | ((with_reducible apply sub_ok); exact rfl) | with_reducible apply Ends.next
    | with_reducible apply Ends.ite | with_reducible apply Fr.post (atomicOp_fr ..) | with_reducible dsimp only

theorem execFence_fr (shed : Fin 64) (thread : Fin 256) (mask : Fin 8) (s : State) : Ends 0xf92c s (execFence shed thread mask s) := by
  unfold execFence
  repeat' first
    | with_reducible apply Fr.refl | ((with_reducible apply sub_ok); exact rfl) | with_reducible apply Ends.next
    | with_reducible apply Fr.ite | with_reducible apply Ends.ite | with_reducible apply issue_fr | with_reducible intro _ _
    | with_reducible apply IssueEnd.from_wait | with_reducible apply IssueEnd.from_trap | with_reducible apply IssueEnd.from_done
    | with_reducible apply IssueEnd.from_ite | with_reducible apply issueAccess_from | with_reducible dsimp only
    | with_reducible split

theorem execSbinc_fr (shed : Fin 64) (thread : Fin 256) (ra : Fin 32) (rb : Fin 32) (mask : Fin 8) (s : State) : Ends 0xf96c s (execSbinc shed thread ra rb mask s) := by
  unfold execSbinc
  repeat' first
    | with_reducible apply Fr.refl | ((with_reducible apply sub_ok); exact rfl) | with_reducible apply Ends.next
    | with_reducible apply Fr.ite | with_reducible apply Ends.ite | with_reducible apply Fr.post (sendSbx_fr ..)
    | with_reducible apply issue_fr | with_reducible intro _ _ | with_reducible apply IssueEnd.from_wait
    | with_reducible apply IssueEnd.from_trap | with_reducible apply IssueEnd.from_done | with_reducible apply IssueEnd.from_ite
    | with_reducible apply issueAccess_from | with_reducible dsimp only | with_reducible split

theorem execSbwait_fr (shed : Fin 64) (thread : Fin 256) (rd : Fin 32) (ra : Fin 32) (rb : Fin 32) (mask : Fin 8) (s : State) : Ends 0xf92c s (execSbwait shed thread rd ra rb mask s) := by
  unfold execSbwait
  repeat' first
    | with_reducible apply Fr.refl | ((with_reducible apply sub_ok); exact rfl) | with_reducible apply Ends.next
    | with_reducible apply Fr.ite | with_reducible apply Ends.ite | with_reducible apply issue_fr | with_reducible intro _ _
    | with_reducible apply IssueEnd.from_wait | with_reducible apply IssueEnd.from_trap | with_reducible apply IssueEnd.from_done
    | with_reducible apply IssueEnd.from_ite | with_reducible apply issueAccess_from | with_reducible dsimp only
    | with_reducible split

theorem execSbwaitWake_fr (shed : Fin 64) (thread : Fin 256) (s : State) : Ends 0x100 s (execSbwaitWake shed thread s) := by
  unfold execSbwaitWake
  repeat' first
    | with_reducible apply Fr.refl | ((with_reducible apply sub_ok); exact rfl) | with_reducible apply Ends.next
    | with_reducible apply Fr.ite | with_reducible apply Ends.ite | with_reducible apply Fr.post (putThread_fr ..)
    | with_reducible dsimp only | with_reducible split

theorem execSbwaitTimeout_fr (shed : Fin 64) (thread : Fin 256) (elapsed : Nat) (s : State) : Ends 0x100 s (execSbwaitTimeout shed thread elapsed s) := by
  unfold execSbwaitTimeout
  repeat' first
    | with_reducible apply Fr.refl | ((with_reducible apply sub_ok); exact rfl) | with_reducible apply Ends.next
    | with_reducible apply Fr.ite | with_reducible apply Ends.ite | with_reducible apply Fr.post (putThread_fr ..)
    | with_reducible dsimp only | with_reducible split

theorem execHalt_fr (shed : Fin 64) (thread : Fin 256) (mask : Fin 8) (s : State) : Ends 0xf92c s (execHalt shed thread mask s) := by
  unfold execHalt
  repeat' first
    | with_reducible apply Fr.refl | ((with_reducible apply sub_ok); exact rfl) | with_reducible apply Ends.next
    | with_reducible apply Fr.ite | with_reducible apply Ends.ite | with_reducible apply issue_fr | with_reducible intro _ _
    | with_reducible apply IssueEnd.from_wait | with_reducible apply IssueEnd.from_trap | with_reducible apply IssueEnd.from_done
    | with_reducible apply IssueEnd.from_ite | with_reducible apply issueAccess_from | with_reducible dsimp only
    | with_reducible split

theorem execCsrr_fr (shed : Fin 64) (thread : Fin 256) (rd : Fin 32) (csr : BitVec 12) (s : State) : Ends 0xf92c s (execCsrr shed thread rd csr s) := by
  unfold execCsrr
  repeat' first
    | with_reducible apply Fr.refl | ((with_reducible apply sub_ok); exact rfl) | with_reducible apply Ends.next
    | with_reducible apply Ends.ite | with_reducible apply Fr.post (drawn_fr ..) | with_reducible apply issue_fr
    | with_reducible intro _ _ | with_reducible apply IssueEnd.from_wait | with_reducible apply IssueEnd.from_trap
    | with_reducible apply IssueEnd.from_done | with_reducible apply IssueEnd.from_ite | with_reducible apply issueAccess_from
    | with_reducible dsimp only

theorem execCsrw_fr (shed : Fin 64) (thread : Fin 256) (ra : Fin 32) (csr : BitVec 12) (s : State) : Ends 0xf92c s (execCsrw shed thread ra csr s) := by
  unfold execCsrw
  repeat' first
    | with_reducible apply Fr.refl | ((with_reducible apply sub_ok); exact rfl) | with_reducible apply Ends.next
    | with_reducible apply Fr.ite | with_reducible apply Ends.ite | with_reducible apply issue_fr | with_reducible intro _ _
    | with_reducible apply IssueEnd.from_wait | with_reducible apply IssueEnd.from_trap | with_reducible apply IssueEnd.from_done
    | with_reducible apply IssueEnd.from_ite | with_reducible apply issueAccess_from | with_reducible dsimp only
    | with_reducible split

theorem execEret_fr (shed : Fin 64) (thread : Fin 256) (s : State) : Ends 0xf92c s (execEret shed thread s) := by
  unfold execEret
  repeat' first
    | with_reducible apply Fr.refl | ((with_reducible apply sub_ok); exact rfl) | with_reducible apply Ends.next
    | with_reducible apply Fr.ite | with_reducible apply Ends.ite | with_reducible apply issue_fr | with_reducible intro _ _
    | with_reducible apply IssueEnd.from_wait | with_reducible apply IssueEnd.from_trap | with_reducible apply IssueEnd.from_done
    | with_reducible apply IssueEnd.from_ite | with_reducible apply issueAccess_from | with_reducible dsimp only
    | with_reducible split

theorem execTrap_fr (shed : Fin 64) (thread : Fin 256) (imm : BitVec 12) (s : State) : Ends 0xf92c s (execTrap shed thread imm s) := by
  unfold execTrap
  repeat' first
    | with_reducible apply Fr.refl | ((with_reducible apply sub_ok); exact rfl) | with_reducible apply Ends.next
    | with_reducible apply Ends.ite | with_reducible apply issue_fr | with_reducible intro _ _
    | with_reducible apply IssueEnd.from_wait | with_reducible apply IssueEnd.from_trap | with_reducible apply IssueEnd.from_done
    | with_reducible apply IssueEnd.from_ite | with_reducible apply issueAccess_from | with_reducible dsimp only

theorem execExp2_fr (shed : Fin 64) (thread : Fin 256) (vd : Fin 32) (va : Fin 32) (mask : Fin 8) (s : State) : Ends 0xf92c s (execExp2 shed thread vd va mask s) := by
  unfold execExp2
  repeat' first
    | with_reducible apply Fr.refl | ((with_reducible apply sub_ok); exact rfl) | with_reducible apply Ends.next
    | with_reducible apply Ends.ite | with_reducible apply Fr.post (drawn_fr ..) | with_reducible apply issue_fr
    | with_reducible intro _ _ | with_reducible apply IssueEnd.from_wait | with_reducible apply IssueEnd.from_trap
    | with_reducible apply IssueEnd.from_done | with_reducible apply IssueEnd.from_ite | with_reducible apply issueAccess_from
    | with_reducible dsimp only

theorem execLog2_fr (shed : Fin 64) (thread : Fin 256) (vd : Fin 32) (va : Fin 32) (mask : Fin 8) (s : State) : Ends 0xf92c s (execLog2 shed thread vd va mask s) := by
  unfold execLog2
  repeat' first
    | with_reducible apply Fr.refl | ((with_reducible apply sub_ok); exact rfl) | with_reducible apply Ends.next
    | with_reducible apply Ends.ite | with_reducible apply Fr.post (drawn_fr ..) | with_reducible apply issue_fr
    | with_reducible intro _ _ | with_reducible apply IssueEnd.from_wait | with_reducible apply IssueEnd.from_trap
    | with_reducible apply IssueEnd.from_done | with_reducible apply IssueEnd.from_ite | with_reducible apply issueAccess_from
    | with_reducible dsimp only

theorem execRcp_fr (shed : Fin 64) (thread : Fin 256) (vd : Fin 32) (va : Fin 32) (mask : Fin 8) (s : State) : Ends 0xf92c s (execRcp shed thread vd va mask s) := by
  unfold execRcp
  repeat' first
    | with_reducible apply Fr.refl | ((with_reducible apply sub_ok); exact rfl) | with_reducible apply Ends.next
    | with_reducible apply Ends.ite | with_reducible apply Fr.post (drawn_fr ..) | with_reducible apply issue_fr
    | with_reducible intro _ _ | with_reducible apply IssueEnd.from_wait | with_reducible apply IssueEnd.from_trap
    | with_reducible apply IssueEnd.from_done | with_reducible apply IssueEnd.from_ite | with_reducible apply issueAccess_from
    | with_reducible dsimp only

theorem execRsqrt_fr (shed : Fin 64) (thread : Fin 256) (vd : Fin 32) (va : Fin 32) (mask : Fin 8) (s : State) : Ends 0xf92c s (execRsqrt shed thread vd va mask s) := by
  unfold execRsqrt
  repeat' first
    | with_reducible apply Fr.refl | ((with_reducible apply sub_ok); exact rfl) | with_reducible apply Ends.next
    | with_reducible apply Ends.ite | with_reducible apply Fr.post (drawn_fr ..) | with_reducible apply issue_fr
    | with_reducible intro _ _ | with_reducible apply IssueEnd.from_wait | with_reducible apply IssueEnd.from_trap
    | with_reducible apply IssueEnd.from_done | with_reducible apply IssueEnd.from_ite | with_reducible apply issueAccess_from
    | with_reducible dsimp only

theorem execSin_fr (shed : Fin 64) (thread : Fin 256) (vd : Fin 32) (va : Fin 32) (mask : Fin 8) (s : State) : Ends 0xf92c s (execSin shed thread vd va mask s) := by
  unfold execSin
  repeat' first
    | with_reducible apply Fr.refl | ((with_reducible apply sub_ok); exact rfl) | with_reducible apply Ends.next
    | with_reducible apply Ends.ite | with_reducible apply Fr.post (drawn_fr ..) | with_reducible apply issue_fr
    | with_reducible intro _ _ | with_reducible apply IssueEnd.from_wait | with_reducible apply IssueEnd.from_trap
    | with_reducible apply IssueEnd.from_done | with_reducible apply IssueEnd.from_ite | with_reducible apply issueAccess_from
    | with_reducible dsimp only

theorem execTanh_fr (shed : Fin 64) (thread : Fin 256) (vd : Fin 32) (va : Fin 32) (mask : Fin 8) (s : State) : Ends 0xf92c s (execTanh shed thread vd va mask s) := by
  unfold execTanh
  repeat' first
    | with_reducible apply Fr.refl | ((with_reducible apply sub_ok); exact rfl) | with_reducible apply Ends.next
    | with_reducible apply Ends.ite | with_reducible apply Fr.post (drawn_fr ..) | with_reducible apply issue_fr
    | with_reducible intro _ _ | with_reducible apply IssueEnd.from_wait | with_reducible apply IssueEnd.from_trap
    | with_reducible apply IssueEnd.from_done | with_reducible apply IssueEnd.from_ite | with_reducible apply issueAccess_from
    | with_reducible dsimp only

theorem execDeferredBusError_fr (shed : Fin 64) (thread : Fin 256) (s : State) : Ends 0x128 s (execDeferredBusError shed thread s) := by
  unfold execDeferredBusError
  repeat' first
    | with_reducible apply Fr.refl | ((with_reducible apply sub_ok); exact rfl) | with_reducible apply Ends.next
    | with_reducible apply Fr.ite | with_reducible apply Ends.ite | with_reducible apply Fr.post (putThread_fr ..)
    | with_reducible apply Fr.post (takeTrap_fr ..) | with_reducible dsimp only | with_reducible split

theorem execShedLaunch_fr (shed : Fin 64) (s : State) : Ends 0x100 s (execShedLaunch shed s) := by
  unfold execShedLaunch
  repeat' first
    | with_reducible apply Fr.refl | ((with_reducible apply sub_ok); exact rfl) | with_reducible apply Ends.next
    | with_reducible apply Ends.ite | with_reducible apply Fr.post (shdCtrlWrite_fr ..) | with_reducible dsimp only

theorem execShedResume_fr (shed : Fin 64) (s : State) : Ends 0x100 s (execShedResume shed s) := by
  unfold execShedResume
  repeat' first
    | with_reducible apply Fr.refl | ((with_reducible apply sub_ok); exact rfl) | with_reducible apply Ends.next
    | with_reducible apply Ends.ite | with_reducible apply Fr.post (shdCtrlWrite_fr ..) | with_reducible dsimp only

theorem execShedStop_fr (shed : Fin 64) (s : State) : Ends 0x100 s (execShedStop shed s) := by
  unfold execShedStop
  repeat' first
    | with_reducible apply Fr.refl | ((with_reducible apply sub_ok); exact rfl) | with_reducible apply Ends.next
    | with_reducible apply Ends.ite | with_reducible apply Fr.post (shdCtrlWrite_fr ..) | with_reducible dsimp only

theorem execShedStopped_fr (shed : Fin 64) (s : State) : Ends 0x128 s (execShedStopped shed s) := by
  unfold execShedStopped
  repeat' first
    | with_reducible apply Fr.refl | ((with_reducible apply sub_ok); exact rfl) | with_reducible apply Ends.next
    | with_reducible apply Fr.ite | with_reducible apply Ends.ite | with_reducible apply Fr.post (putShed_fr ..)
    | with_reducible apply Fr.post (carryPlan_fr ..) | with_reducible dsimp only | with_reducible split

theorem execIcinv_fr (shed : Fin 64) (s : State) : Ends 0x100 s (execIcinv shed s) := by
  unfold execIcinv
  repeat' first
    | with_reducible apply Fr.refl | ((with_reducible apply sub_ok); exact rfl) | with_reducible apply Ends.next
    | with_reducible apply Ends.ite | with_reducible apply Fr.post (shdCtrlWrite_fr ..) | with_reducible dsimp only

theorem execShedCfgWrite_fr (req : Requester) (shed : Fin 64) (reg : ShedCfgReg) (value : W64) (s : State) : Ends 0x138 s (execShedCfgWrite req shed reg value s) := by
  unfold execShedCfgWrite
  repeat' first
    | with_reducible apply Fr.refl | ((with_reducible apply sub_ok); exact rfl) | with_reducible apply Ends.next
    | with_reducible apply Fr.ite | with_reducible apply Ends.ite | with_reducible apply Fr.post (busForget_fr ..)
    | with_reducible apply Fr.post (shdCfgWrite_fr ..) | with_reducible dsimp only | with_reducible split

end Sys2Proof.Machine
end

