-- ==== Sys2Proof/Laws/FrCmdShunter.lean ====
section
/-! SUPPORT. What each operation of Machine/CmdShunter.lean may touch, and that it keeps the invariant. -/
namespace Sys2Proof.Machine

theorem execTileop_fr (shed : Fin 64) (thread : Fin 256) (w : Bool) (rd : Fin 32) (ra : Fin 32) (rb : Fin 32) (mask : Fin 8) (s : State) : Ends 0xf9ac s (execTileop shed thread w rd ra rb mask s) := by
  unfold execTileop
  repeat' first
    | with_reducible apply Fr.refl | ((with_reducible apply sub_ok); exact rfl) | with_reducible apply Ends.next
    | with_reducible apply Fr.ite | with_reducible apply Ends.ite | with_reducible apply Fr.post (queueTileOp_fr ..)
    | with_reducible apply issue_fr | with_reducible intro _ _ | with_reducible apply IssueEnd.from_wait
    | with_reducible apply IssueEnd.from_trap | with_reducible apply IssueEnd.from_done | with_reducible apply IssueEnd.from_ite
    | with_reducible apply issueAccess_from | with_reducible dsimp only | with_reducible split

theorem execChannelArm_fr (reg : ShuAt) (chan : Fin 8) (addr : BitVec 48) (s : State) : Ends 0x210 s (execChannelArm reg chan addr s) := by
  unfold execChannelArm
  repeat' first
    | with_reducible apply Fr.refl | ((with_reducible apply sub_ok); exact rfl) | with_reducible apply Ends.next
    | with_reducible apply Ends.ite | with_reducible apply Fr.post (busForget_fr ..)
    | with_reducible apply Fr.post (putChan_fr ..) | with_reducible dsimp only

theorem execArmResult_fr (shu : Fin 96) (chan : Fin 8) (s : State) : Ends 0xfe2c s (execArmResult shu chan s) := by
  unfold execArmResult
  repeat' first
    | with_reducible apply Fr.refl | ((with_reducible apply sub_ok); exact rfl) | with_reducible apply Ends.next
    | with_reducible apply Fr.ite | with_reducible apply Ends.ite | with_reducible apply Fr.post (armDesc_fr ..)
    | with_reducible apply Fr.post (putChan_fr ..) | with_reducible dsimp only | with_reducible split

theorem execChannelWaitSatisfied_fr (shu : Fin 96) (chan : Fin 8) (s : State) : Ends 0x200 s (execChannelWaitSatisfied shu chan s) := by
  unfold execChannelWaitSatisfied
  repeat' first
    | with_reducible apply Fr.refl | ((with_reducible apply sub_ok); exact rfl) | with_reducible apply Ends.next
    | with_reducible apply Fr.ite | with_reducible apply Ends.ite | with_reducible apply Fr.post (putChan_fr ..)
    | with_reducible dsimp only | with_reducible split

theorem execChannelHalted_fr (shu : Fin 96) (chan : Fin 8) (s : State) : Ends 0x6e8 s (execChannelHalted shu chan s) := by
  unfold execChannelHalted
  repeat' first
    | with_reducible apply Fr.refl | ((with_reducible apply sub_ok); exact rfl) | with_reducible apply Ends.next
    | with_reducible apply Fr.ite | with_reducible apply Ends.ite | with_reducible apply Fr.post (setF_fr ..)
    | with_reducible apply Fr.post (putChan_fr ..) | with_reducible apply Fr.post (weightSkew_fr ..)
    | with_reducible apply Fr.post (inputSkew_fr ..) | with_reducible dsimp only | with_reducible split

theorem execChannelClear_fr (shu : Fin 96) (chan : Fin 8) (drop : Bool) (s : State) : Ends 0x208 s (execChannelClear shu chan drop s) := by
  unfold execChannelClear
  repeat' first
    | with_reducible apply Fr.refl | ((with_reducible apply sub_ok); exact rfl) | with_reducible apply Ends.next
    | with_reducible apply Ends.ite | with_reducible apply Fr.post (chanCtrlWrite_fr ..) | with_reducible dsimp only

theorem execChannelClearComplete_fr (shu : Fin 96) (chan : Fin 8) (s : State) : Ends 0x688 s (execChannelClearComplete shu chan s) := by
  unfold execChannelClearComplete
  repeat' first
    | with_reducible apply Fr.refl | ((with_reducible apply sub_ok); exact rfl) | with_reducible apply Ends.next
    | with_reducible apply Fr.ite | with_reducible apply Ends.ite | with_reducible apply Fr.post (clearChan_fr ..)
    | with_reducible dsimp only | with_reducible split

theorem execShunterStop_fr (shu : Fin 96) (s : State) : Ends 0x200 s (execShunterStop shu s) := by
  unfold execShunterStop
  repeat' first
    | with_reducible apply Fr.refl | ((with_reducible apply sub_ok); exact rfl) | with_reducible apply Ends.next
    | with_reducible apply Ends.ite | with_reducible apply Fr.post (shuCtrlWrite_fr ..) | with_reducible dsimp only

theorem execShunterStopped_fr (shu : Fin 96) (s : State) : Ends 0x200 s (execShunterStopped shu s) := by
  unfold execShunterStopped
  repeat' first
    | with_reducible apply Fr.refl | ((with_reducible apply sub_ok); exact rfl) | with_reducible apply Ends.next
    | with_reducible apply Fr.ite | with_reducible apply Ends.ite | with_reducible apply Fr.post (putShu_fr ..)
    | with_reducible dsimp only | with_reducible split

theorem execShunterStart_fr (shu : Fin 96) (s : State) : Ends 0x200 s (execShunterStart shu s) := by
  unfold execShunterStart
  repeat' first
    | with_reducible apply Fr.refl | ((with_reducible apply sub_ok); exact rfl) | with_reducible apply Ends.next
    | with_reducible apply Ends.ite | with_reducible apply Fr.post (shuCtrlWrite_fr ..) | with_reducible dsimp only

theorem execShuClassWrite_fr (req : Requester) (shu : Fin 96) (cls : Fin 3) (value : W32) (s : State) : Ends 0x28 s (execShuClassWrite req shu cls value s) := by
  unfold execShuClassWrite
  repeat' first
    | with_reducible apply Fr.refl | ((with_reducible apply sub_ok); exact rfl) | with_reducible apply Ends.next
    | with_reducible apply Fr.ite | with_reducible apply Ends.ite | with_reducible apply Fr.post (shuClassWrite_fr ..)
    | with_reducible dsimp only | with_reducible split

theorem execSidPub_fr (die : Fin 4) (sid : Fin 256) (n : Fin 128) (s : State) : Ends 0x468 s (execSidPub die sid n s) := by
  unfold execSidPub
  repeat' first
    | with_reducible apply Fr.refl | ((with_reducible apply sub_ok); exact rfl) | with_reducible apply Ends.next
    | with_reducible apply Ends.ite | with_reducible apply Fr.post (sidPubWrite_fr ..) | with_reducible dsimp only

theorem execSidRel_fr (die : Fin 4) (sid : Fin 256) (n : Fin 128) (s : State) : Ends 0x468 s (execSidRel die sid n s) := by
  unfold execSidRel
  repeat' first
    | with_reducible apply Fr.refl | ((with_reducible apply sub_ok); exact rfl) | with_reducible apply Ends.next
    | with_reducible apply Ends.ite | with_reducible apply Fr.post (sidRelWrite_fr ..) | with_reducible dsimp only

theorem execSidCtrlReset_fr (req : Requester) (die : Fin 4) (sid : Fin 256) (s : State) : Ends 0x400 s (execSidCtrlReset req die sid s) := by
  unfold execSidCtrlReset
  repeat' first
    | with_reducible apply Fr.refl | ((with_reducible apply sub_ok); exact rfl) | with_reducible apply Ends.next
    | with_reducible apply Fr.ite | with_reducible apply Ends.ite | with_reducible apply Fr.post (sidCtrlWrite_fr ..)
    | with_reducible dsimp only | with_reducible split

theorem execSidingConfigWrite_fr (req : Requester) (die : Fin 4) (sid : Fin 256) (reg : SidReg) (value : W64) (s : State) : Ends 0x438 s (execSidingConfigWrite req die sid reg value s) := by
  unfold execSidingConfigWrite
  repeat' first
    | with_reducible apply Fr.refl | ((with_reducible apply sub_ok); exact rfl) | with_reducible apply Ends.next
    | with_reducible apply Fr.ite | with_reducible apply Ends.ite | with_reducible apply Fr.post (busForget_fr ..)
    | with_reducible apply Fr.post (sidCfgWrite_fr ..) | with_reducible dsimp only | with_reducible split

theorem execSidingDeadlock_fr (shu : Fin 96) (chan : Fin 8) (s : State) : Ends 0x220 s (execSidingDeadlock shu chan s) := by
  unfold execSidingDeadlock
  repeat' first
    | with_reducible apply Fr.refl | ((with_reducible apply sub_ok); exact rfl) | with_reducible apply Ends.next
    | with_reducible apply Fr.ite | with_reducible apply Ends.ite | with_reducible apply Fr.post (haltChan_fr ..)
    | with_reducible apply Fr.post (raiseEv_fr ..) | with_reducible dsimp only | with_reducible split

theorem execSignalBoxIncrement_fr (idx : Nat) (s : State) : Ends 0x48 s (execSignalBoxIncrement idx s) := by
  unfold execSignalBoxIncrement
  repeat' first
    | with_reducible apply Fr.refl | ((with_reducible apply sub_ok); exact rfl) | with_reducible apply Ends.next
    | with_reducible apply Fr.ite | with_reducible apply Ends.ite | with_reducible apply Fr.post (addF_fr ..)
    | with_reducible dsimp only | with_reducible split | with_reducible apply Fr.setSbxFlight

theorem execSbxCntWrite_fr (die : Fin 4) (box : Fin 1024) (value : W32) (s : State) : Ends 0x8 s (execSbxCntWrite die box value s) := by
  unfold execSbxCntWrite
  repeat' first
    | with_reducible apply Fr.refl | ((with_reducible apply sub_ok); exact rfl) | with_reducible apply Ends.next
    | with_reducible apply Ends.ite | with_reducible apply Fr.post (setF_fr ..) | with_reducible dsimp only

theorem execSbxIncWrite_fr (die : Fin 4) (box : Fin 1024) (value : W32) (s : State) : Ends 0x8 s (execSbxIncWrite die box value s) := by
  unfold execSbxIncWrite
  repeat' first
    | with_reducible apply Fr.refl | ((with_reducible apply sub_ok); exact rfl) | with_reducible apply Ends.next
    | with_reducible apply Ends.ite | with_reducible apply Fr.post (addF_fr ..) | with_reducible dsimp only

theorem execTqArm_fr (reg : StallAt) (addr : BitVec 48) (s : State) : Ends 0xf8bc s (execTqArm reg addr s) := by
  unfold execTqArm
  repeat' first
    | with_reducible apply Fr.refl | ((with_reducible apply sub_ok); exact rfl) | with_reducible apply Ends.next
    | with_reducible apply Ends.ite | with_reducible apply Fr.post (tqArmWrite_fr ..)
    | with_reducible apply Fr.post (busForget_fr ..) | with_reducible dsimp only

theorem execTileBufferEntry_fr (stall : Fin 16) (s : State) : Ends 0x280 s (execTileBufferEntry stall s) := by
  unfold execTileBufferEntry
  repeat' first
    | with_reducible apply Fr.refl | ((with_reducible apply sub_ok); exact rfl) | with_reducible apply Ends.next
    | with_reducible apply Fr.ite | with_reducible apply Ends.ite | with_reducible apply Fr.post (putStall_fr ..)
    | with_reducible apply Fr.post (putChan_fr ..) | with_reducible dsimp only | with_reducible split

theorem execInputVectorFetch_fr (stall : Fin 16) (s : State) : Ends 0x80 s (execInputVectorFetch stall s) := by
  unfold execInputVectorFetch
  repeat' first
    | with_reducible apply Fr.refl | with_reducible assumption | ((with_reducible apply sub_ok); exact rfl)
    | with_reducible apply Ends.next | with_reducible apply Fr.ite | with_reducible apply Ends.ite
    | with_reducible apply Fr.post (putStall_fr ..) | with_reducible refine Fr.foldl (fun _ _ _ => ?_) ?_
    | with_reducible refine Fr.foldl_fst (fun _ _ _ => ?_) ?_ | with_reducible dsimp only | with_reducible split

end Sys2Proof.Machine
end

