-- ==== Sys2Proof/Laws/FrCmdStall.lean ====
section
/-! SUPPORT. What each operation of Machine/CmdStall.lean may touch, and that it keeps the invariant. -/
namespace Sys2Proof.Machine

theorem execLoadAccept_fr (stall : Fin 16) (s : State) : Ends 0x88 s (execLoadAccept stall s) := by
  unfold execLoadAccept
  repeat' first
    | with_reducible apply Fr.refl | ((with_reducible apply sub_ok); exact rfl) | with_reducible apply Ends.next
    | with_reducible apply Fr.ite | with_reducible apply Ends.ite | with_reducible apply Fr.post (bumpF_fr ..)
    | with_reducible apply Fr.post (putStall_fr ..) | with_reducible dsimp only | with_reducible split

theorem execStringCyclesStart_fr (stall : Fin 16) (s : State) : Ends 0x80 s (execStringCyclesStart stall s) := by
  unfold execStringCyclesStart
  repeat' first
    | with_reducible apply Fr.refl | ((with_reducible apply sub_ok); exact rfl) | with_reducible apply Ends.next
    | with_reducible apply Fr.ite | with_reducible apply Ends.ite | with_reducible apply Fr.post (putStall_fr ..)
    | with_reducible dsimp only | with_reducible split

theorem execLoadComplete_fr (stall : Fin 16) (s : State) : Ends 0x80 s (execLoadComplete stall s) := by
  unfold execLoadComplete
  repeat' first
    | with_reducible apply Fr.refl | ((with_reducible apply sub_ok); exact rfl) | with_reducible apply Ends.next
    | with_reducible apply Fr.ite | with_reducible apply Ends.ite | with_reducible apply Fr.post (putStall_fr ..)
    | with_reducible dsimp only | with_reducible split

theorem execCommit_fr (stall : Fin 16) (s : State) : Ends 0x80 s (execCommit stall s) := by
  unfold execCommit
  repeat' first
    | with_reducible apply Fr.refl | ((with_reducible apply sub_ok); exact rfl) | with_reducible apply Ends.next
    | with_reducible apply Fr.ite | with_reducible apply Ends.ite | with_reducible apply Fr.post (putStall_fr ..)
    | with_reducible dsimp only | with_reducible split

theorem execHoldRefreshDue_fr (stall : Fin 16) (nodeB : Bool) (elapsed : Nat) (s : State) : Ends 0x80 s (execHoldRefreshDue stall nodeB elapsed s) := by
  unfold execHoldRefreshDue
  repeat' first
    | with_reducible apply Fr.refl | ((with_reducible apply sub_ok); exact rfl) | with_reducible apply Ends.next
    | with_reducible apply Fr.ite | with_reducible apply Ends.ite | with_reducible apply Fr.post (putStall_fr ..)
    | with_reducible dsimp only | with_reducible split

theorem execHoldRefreshStart_fr (stall : Fin 16) (s : State) : Ends 0x80 s (execHoldRefreshStart stall s) := by
  unfold execHoldRefreshStart
  repeat' first
    | with_reducible apply Fr.refl | ((with_reducible apply sub_ok); exact rfl) | with_reducible apply Ends.next
    | with_reducible apply Fr.ite | with_reducible apply Ends.ite | with_reducible apply Fr.post (putStall_fr ..)
    | with_reducible dsimp only | with_reducible split

theorem execHoldRefreshEnd_fr (stall : Fin 16) (s : State) : Ends 0x80 s (execHoldRefreshEnd stall s) := by
  unfold execHoldRefreshEnd
  repeat' first
    | with_reducible apply Fr.refl | ((with_reducible apply sub_ok); exact rfl) | with_reducible apply Ends.next
    | with_reducible apply Fr.ite | with_reducible apply Ends.ite | with_reducible apply Fr.post (putStall_fr ..)
    | with_reducible dsimp only | with_reducible split

theorem execBandChangeAtStall_fr (stall : Fin 16) (elapsedA : Nat) (elapsedB : Nat) (s : State) : Ends 0x80 s (execBandChangeAtStall stall elapsedA elapsedB s) := by
  unfold execBandChangeAtStall
  repeat' first
    | with_reducible apply Fr.refl | ((with_reducible apply sub_ok); exact rfl) | with_reducible apply Ends.next
    | with_reducible apply Ends.ite | with_reducible apply Fr.post (putStall_fr ..) | with_reducible dsimp only

theorem execTileOpHandover_fr (stall : Fin 16) (s : State) : Ends 0x80 s (execTileOpHandover stall s) := by
  unfold execTileOpHandover
  repeat' first
    | with_reducible apply Fr.refl | ((with_reducible apply sub_ok); exact rfl) | with_reducible apply Ends.next
    | with_reducible apply Fr.ite | with_reducible apply Ends.ite | with_reducible apply Fr.post (putStall_fr ..)
    | with_reducible dsimp only | with_reducible split

theorem execIssueAccept_fr (stall : Fin 16) (s : State) : Ends 0x4e8 s (execIssueAccept stall s) := by
  unfold execIssueAccept
  repeat' first
    | with_reducible apply Fr.refl | ((with_reducible apply sub_ok); exact rfl) | with_reducible apply Ends.next
    | with_reducible apply Fr.ite | with_reducible apply Ends.ite | with_reducible apply Fr.post (putStall_fr ..)
    | with_reducible apply Fr.post (voidOp_fr ..) | with_reducible dsimp only | with_reducible split

theorem execTileOpBegin_fr (stall : Fin 16) (s : State) : Ends 0x4e8 s (execTileOpBegin stall s) := by
  unfold execTileOpBegin
  repeat' first
    | with_reducible apply Fr.refl | with_reducible assumption | ((with_reducible apply sub_ok); exact rfl)
    | with_reducible apply Ends.next | with_reducible apply Fr.ite | with_reducible apply Ends.ite
    | with_reducible apply Fr.post (bumpF_fr ..) | with_reducible apply Fr.post (putStall_fr ..)
    | with_reducible apply Fr.post (voidOp_fr ..) | with_reducible apply Fr.post (resumeStall_fr ..)
    | with_reducible refine Fr.foldl (fun _ _ _ => ?_) ?_ | with_reducible refine Fr.foldl_fst (fun _ _ _ => ?_) ?_
    | with_reducible dsimp only | with_reducible split

theorem execPassEnd_fr (stall : Fin 16) (s : State) : Ends 0xac s (execPassEnd stall s) := by
  unfold execPassEnd
  repeat' first
    | with_reducible apply Fr.refl | ((with_reducible apply sub_ok); exact rfl) | with_reducible apply Ends.next
    | with_reducible apply Fr.ite | with_reducible apply Ends.ite | with_reducible apply Fr.post (endPass_fr ..)
    | with_reducible apply Fr.post (endRetry_fr ..) | with_reducible dsimp only | with_reducible split

theorem execRetryStart_fr (stall : Fin 16) (s : State) : Ends 0x80 s (execRetryStart stall s) := by
  unfold execRetryStart
  repeat' first
    | with_reducible apply Fr.refl | ((with_reducible apply sub_ok); exact rfl) | with_reducible apply Ends.next
    | with_reducible apply Fr.ite | with_reducible apply Ends.ite | with_reducible apply Fr.post (putStall_fr ..)
    | with_reducible dsimp only | with_reducible split

theorem execTileOpComplete_fr (stall : Fin 16) (s : State) : Ends 0x4c8 s (execTileOpComplete stall s) := by
  unfold execTileOpComplete
  repeat' first
    | with_reducible apply Fr.refl | ((with_reducible apply sub_ok); exact rfl) | with_reducible apply Ends.next
    | with_reducible apply Fr.ite | with_reducible apply Ends.ite | with_reducible apply Fr.post (addF_fr ..)
    | with_reducible apply Fr.post (sendSbx_fr ..) | with_reducible apply Fr.post (putStall_fr ..)
    | with_reducible apply Fr.post (dropVectors_fr ..) | with_reducible dsimp only | with_reducible split

theorem execStallStart_fr (stall : Fin 16) (s : State) : Ends 0xac s (execStallStart stall s) := by
  unfold execStallStart
  repeat' first
    | with_reducible apply Fr.refl | ((with_reducible apply sub_ok); exact rfl) | with_reducible apply Ends.next
    | with_reducible apply Ends.ite | with_reducible apply Fr.post (stlCtrlWrite_fr ..) | with_reducible dsimp only

theorem execStallStop_fr (stall : Fin 16) (s : State) : Ends 0xac s (execStallStop stall s) := by
  unfold execStallStop
  repeat' first
    | with_reducible apply Fr.refl | ((with_reducible apply sub_ok); exact rfl) | with_reducible apply Ends.next
    | with_reducible apply Ends.ite | with_reducible apply Fr.post (stlCtrlWrite_fr ..) | with_reducible dsimp only

theorem execStallStopCut_fr (stall : Fin 16) (s : State) : Ends 0xac s (execStallStopCut stall s) := by
  unfold execStallStopCut
  repeat' first
    | with_reducible apply Fr.refl | ((with_reducible apply sub_ok); exact rfl) | with_reducible apply Ends.next
    | with_reducible apply Ends.ite | with_reducible apply Fr.post (stlCtrlWrite_fr ..) | with_reducible dsimp only

theorem execStallStopped_fr (stall : Fin 16) (s : State) : Ends 0x4e8 s (execStallStopped stall s) := by
  unfold execStallStopped
  repeat' first
    | with_reducible apply Fr.refl | ((with_reducible apply sub_ok); exact rfl) | with_reducible apply Ends.next
    | with_reducible apply Fr.ite | with_reducible apply Ends.ite | with_reducible apply Fr.post (putStall_fr ..)
    | with_reducible apply Fr.post (retireEnds_fr ..) | with_reducible dsimp only | with_reducible split

theorem execStlCfgRange_fr (req : Requester) (stall : Fin 16) (range : Bool) (s : State) : Ends 0x4e8 s (execStlCfgRange req stall range s) := by
  unfold execStlCfgRange
  repeat' first
    | with_reducible apply Fr.refl | ((with_reducible apply sub_ok); exact rfl) | with_reducible apply Ends.next
    | with_reducible apply Fr.ite | with_reducible apply Ends.ite | with_reducible apply Fr.post (stlCfgWrite_fr ..)
    | with_reducible dsimp only | with_reducible split

theorem execStlCfgOffline_fr (req : Requester) (stall : Fin 16) (offline : Bool) (s : State) : Ends 0x4e8 s (execStlCfgOffline req stall offline s) := by
  unfold execStlCfgOffline
  repeat' first
    | with_reducible apply Fr.refl | ((with_reducible apply sub_ok); exact rfl) | with_reducible apply Ends.next
    | with_reducible apply Fr.ite | with_reducible apply Ends.ite | with_reducible apply Fr.post (stlCfgWrite_fr ..)
    | with_reducible dsimp only | with_reducible split

theorem execStlReset_fr (req : Requester) (stall : Fin 16) (s : State) : Ends 0x4e8 s (execStlReset req stall s) := by
  unfold execStlReset
  repeat' first
    | with_reducible apply Fr.refl | ((with_reducible apply sub_ok); exact rfl) | with_reducible apply Ends.next
    | with_reducible apply Fr.ite | with_reducible apply Ends.ite | with_reducible apply Fr.post (stlResetWrite_fr ..)
    | with_reducible dsimp only | with_reducible split

end Sys2Proof.Machine
end

