-- ==== Sys2Proof/Laws/FrCmdSys.lean ====
section
/-! SUPPORT. What each operation of Machine/CmdSys.lean may touch, and that it keeps the invariant. -/
namespace Sys2Proof.Machine

theorem execEventPop_fr (s : State) : Ends 0x10328 s (execEventPop s) := by
  unfold execEventPop
  repeat' first
    | with_reducible apply Fr.refl | ((with_reducible apply sub_ok); exact rfl) | with_reducible apply Ends.next
    | with_reducible apply Fr.ite | with_reducible apply Ends.ite | with_reducible apply Fr.post (popEvent_fr ..)
    | with_reducible dsimp only | with_reducible split

theorem execPowerOnReset_fr (keepTrip : Bool) (s : State) : Ends 0x3fffffe s (execPowerOnReset keepTrip s) := by
  unfold execPowerOnReset
  repeat' first
    | with_reducible apply Fr.refl | ((with_reducible apply sub_ok); exact rfl) | with_reducible apply Ends.next
    | with_reducible apply Ends.ite | with_reducible apply Fr.post (powerOnReset_fr ..) | with_reducible dsimp only

theorem execPackageReset_fr (cause : BitVec 3) (s : State) : Ends 0x3fffffc s (execPackageReset cause s) := by
  unfold execPackageReset
  repeat' first
    | with_reducible apply Fr.refl | ((with_reducible apply sub_ok); exact rfl) | with_reducible apply Ends.next
    | with_reducible apply Fr.ite | with_reducible apply Ends.ite | with_reducible apply Fr.post (packageResetUp_fr ..)
    | with_reducible dsimp only | with_reducible split

theorem execResetNLow_fr (micros : Nat) (s : State) : Ends 0x3fffffe s (execResetNLow micros s) := by
  unfold execResetNLow
  repeat' first
    | with_reducible apply Fr.refl | ((with_reducible apply sub_ok); exact rfl) | with_reducible apply Ends.next
    | with_reducible apply Fr.ite | with_reducible apply Ends.ite | with_reducible apply Fr.post (packageResetUp_fr ..)
    | with_reducible apply Fr.post (powerOnReset_fr ..) | with_reducible dsimp only | with_reducible split

theorem execPkgreset_fr (req : Requester) (key : BitVec 8) (s : State) : Ends 0x3fffffc s (execPkgreset req key s) := by
  unfold execPkgreset
  repeat' first
    | with_reducible apply Fr.refl | ((with_reducible apply sub_ok); exact rfl) | with_reducible apply Ends.next
    | with_reducible apply Fr.ite | with_reducible apply Ends.ite | with_reducible apply Fr.post (packageResetUp_fr ..)
    | with_reducible dsimp only | with_reducible split

theorem execOstlerMemoryError_fr (addr : BitVec 48) (s : State) : Ends 0x3fffffc s (execOstlerMemoryError addr s) := by
  unfold execOstlerMemoryError
  repeat' first
    | with_reducible apply Fr.refl | ((with_reducible apply sub_ok); exact rfl) | with_reducible apply Ends.next
    | with_reducible apply Fr.ite | with_reducible apply Ends.ite | with_reducible apply Fr.post (ostlerRestart_fr ..)
    | with_reducible dsimp only | with_reducible split | with_reducible apply Fr.setSys

theorem execOstlerRestart_fr (cause : BitVec 2) (s : State) : Ends 0x3fffffc s (execOstlerRestart cause s) := by
  unfold execOstlerRestart
  repeat' first
    | with_reducible apply Fr.refl | ((with_reducible apply sub_ok); exact rfl) | with_reducible apply Ends.next
    | with_reducible apply Fr.ite | with_reducible apply Ends.ite | with_reducible apply Fr.post (ostlerRestart_fr ..)
    | with_reducible dsimp only | with_reducible split

theorem execWatchdogKick_fr (req : Requester) (s : State) : Ends 0x1000000 s (execWatchdogKick req s) := by
  unfold execWatchdogKick
  repeat' first
    | with_reducible apply Fr.refl | ((with_reducible apply sub_ok); exact rfl) | with_reducible apply Ends.next
    | with_reducible apply Fr.ite | with_reducible apply Ends.ite | with_reducible apply Fr.post (kickWrite_fr ..)
    | with_reducible dsimp only | with_reducible split

theorem execWatchdogExpiry_fr (s : State) : Ends 0x3fffffc s (execWatchdogExpiry s) := by
  unfold execWatchdogExpiry
  repeat' first
    | with_reducible apply Fr.refl | ((with_reducible apply sub_ok); exact rfl) | with_reducible apply Ends.next
    | with_reducible apply Fr.ite | with_reducible apply Ends.ite | with_reducible apply Fr.post (ostlerRestart_fr ..)
    | with_reducible dsimp only | with_reducible split

theorem execPhaseOstlerStart_fr (s : State) : Ends 0x185d028 s (execPhaseOstlerStart s) := by
  unfold execPhaseOstlerStart
  split
  · split
    · split
      · exact Ends.next (Fr.post (enterRecovery_fr ..) rfl (Fr.setSys _ rfl (Fr.refl _ _)))
      · rename_i h
        have hu := (reloadOstler_fr _ _ h).mono (m := 0x185d028) rfl
        exact Ends.next (Fr.ite (Fr.post (restartEnds_fr ..) rfl hu) (Fr.post (ostlerStart_fr ..) rfl hu))
    · exact Ends.next (Fr.refl _ _)
  · exact Ends.next (Fr.ite ((ostlerStart_fr ..).mono rfl) (Fr.refl _ _))

theorem execPhaseMemory_fr (hbm : BitVec 8) (d : DdrTraining) (s : State) : Ends 0x1003028 s (execPhaseMemory hbm d s) := by
  unfold execPhaseMemory
  repeat' first
    | with_reducible apply Fr.refl | ((with_reducible apply sub_ok); exact rfl) | with_reducible apply Ends.next
    | with_reducible apply Fr.ite | with_reducible apply Ends.ite | with_reducible apply Fr.post (trainMemory_fr ..)
    | with_reducible dsimp only | with_reducible split

theorem execPhaseLight_fr (lock0 : Bool) (lock1 : Bool) (sweeps : List RingSweep) (s : State) : Ends 0x1040000 s (execPhaseLight lock0 lock1 sweeps s) := by
  unfold execPhaseLight
  repeat' first
    | with_reducible apply Fr.refl | ((with_reducible apply sub_ok); exact rfl) | with_reducible apply Ends.next
    | with_reducible apply Fr.ite | with_reducible apply Ends.ite | with_reducible apply Fr.post (lightPhase_fr ..)
    | with_reducible dsimp only | with_reducible split

theorem execPhaseServiceReady_fr (katStall : BitVec 16) (katShed : W64) (s : State) : Ends 0x181fdec s (execPhaseServiceReady katStall katShed s) := by
  unfold execPhaseServiceReady
  repeat' first
    | with_reducible apply Fr.refl | ((with_reducible apply sub_ok); exact rfl) | with_reducible apply Ends.next
    | with_reducible apply Ends.ite | with_reducible apply Fr.post (serviceReady_fr ..) | with_reducible dsimp only

theorem execPhaseOverrun_fr (phase : BitVec 3) (ms : W32) (s : State) : Ends 0x20 s (execPhaseOverrun phase ms s) := by
  unfold execPhaseOverrun
  repeat' first
    | with_reducible apply Fr.refl | ((with_reducible apply sub_ok); exact rfl) | with_reducible apply Ends.next
    | with_reducible apply Fr.ite | with_reducible apply Ends.ite | with_reducible apply Fr.post (raiseEv_fr ..)
    | with_reducible dsimp only | with_reducible split

theorem execServiceLevelChange_fr (code : BitVec 16) (s : State) : Ends 0x28 s (execServiceLevelChange code s) := by
  unfold execServiceLevelChange
  repeat' first
    | with_reducible apply Fr.refl | ((with_reducible apply sub_ok); exact rfl) | with_reducible apply Ends.next
    | with_reducible apply Ends.ite | with_reducible apply Fr.post (levelChange_fr ..) | with_reducible dsimp only

end Sys2Proof.Machine
end

