-- ==== Sys2Proof/Laws/FrCmdTack.lean ====
section
/-! SUPPORT. What each operation of Machine/CmdTack.lean may touch, and that it keeps the invariant. -/
namespace Sys2Proof.Machine

theorem execBoot_fr (kat : Bool) (fuses : Bool) (s : State) : Ends 0x1810028 s (execBoot kat fuses s) := by
  unfold execBoot
  repeat' first
    | with_reducible apply Fr.refl | ((with_reducible apply sub_ok); exact rfl) | with_reducible apply Ends.next
    | with_reducible apply Ends.ite | with_reducible apply Fr.post (boot_fr ..) | with_reducible dsimp only

theorem execInboxPoll_fr (s : State) : Ends 0x81f82c s (execInboxPoll s) := by
  unfold execInboxPoll
  repeat' first
    | with_reducible apply Fr.refl | ((with_reducible apply sub_ok); exact rfl) | with_reducible apply Ends.next
    | with_reducible apply Ends.ite | with_reducible apply Fr.post (inboxPoll_fr ..) | with_reducible dsimp only

theorem execOwnerSet_fr (storeOk : Bool) (s : State) : Ends 0x81f82c s (execOwnerSet storeOk s) :=
  Ends.next (inboxRequest_fr rfl (fun _ _ _ e => by cases e; exact Fr.setTack _ rfl (Fr.refl _ _)))

theorem execKeyEnrol_fr (storeOk : Bool) (s : State) : Ends 0x81f82c s (execKeyEnrol storeOk s) :=
  Ends.next (inboxRequest_fr rfl (fun _ _ _ e => by cases e; exact Fr.setTack _ rfl (Fr.refl _ _)))

theorem execKeyRevoke_fr (storeOk : Bool) (s : State) : Ends 0x81f82c s (execKeyRevoke storeOk s) :=
  Ends.next (inboxRequest_fr rfl (fun _ _ _ e => by cases e; exact Fr.setTack _ rfl (Fr.refl _ _)))

theorem execRollbackCommit_fr (s : State) : Ends 0x81f82c s (execRollbackCommit s) := by
  refine Ends.next (Fr.trans ((drawn_fr s).mono rfl) (inboxRequest_fr rfl (fun _ _ _ e => ?_)))
  have e := Option.some.inj e
  subst e
  exact Fr.post (raiseEv_fr ..) rfl ((setF_fr ..).mono rfl)

theorem execFwInstall_fr (storeOk : Bool) (s : State) : Ends 0x81f82c s (execFwInstall storeOk s) :=
  Ends.next (inboxRequest_fr rfl (fun _ _ _ e => (installImage_fr _ _ _ e).mono rfl))

theorem execTrialTimeout_fr (seconds : Nat) (s : State) : Ends 0x3fffffc s (execTrialTimeout seconds s) := by
  unfold execTrialTimeout
  repeat' first
    | with_reducible apply Fr.refl | ((with_reducible apply sub_ok); exact rfl) | with_reducible apply Ends.next
    | with_reducible apply Fr.ite | with_reducible apply Ends.ite | with_reducible apply Fr.post (revertTrial_fr ..)
    | with_reducible dsimp only | with_reducible split

theorem execSign_fr (s : State) : Ends 0xc1002c s (execSign s) := by
  unfold execSign
  repeat' first
    | with_reducible apply Fr.refl | ((with_reducible apply sub_ok); exact rfl) | with_reducible apply Ends.next
    | with_reducible apply Ends.ite | with_reducible apply Fr.post (signNext_fr ..) | with_reducible dsimp only

theorem execTreeBuildDone_fr (s : State) : Ends 0x800008 s (execTreeBuildDone s) := by
  unfold execTreeBuildDone
  repeat' first
    | with_reducible apply Fr.refl | ((with_reducible apply sub_ok); exact rfl) | with_reducible apply Ends.next
    | with_reducible apply Ends.ite | with_reducible apply Fr.post (treeBuilt_fr ..) | with_reducible dsimp only

end Sys2Proof.Machine
end

