-- ==== Sys2Proof/Laws/FrCmdTier.lean ====
section
/-! SUPPORT. What each operation of Machine/CmdTier.lean may touch, and that it keeps the invariant. -/
namespace Sys2Proof.Machine

theorem execMemoryRequest_fr (addr : BitVec 48) (kind : MemReqKind) (cls : Fin 4) (tRef : Bool) (s : State) : Ends 0x2008 s (execMemoryRequest addr kind cls tRef s) := by
  unfold execMemoryRequest
  repeat' first
    | with_reducible apply Fr.refl | ((with_reducible apply sub_ok); exact rfl) | with_reducible apply Ends.next
    | with_reducible apply Fr.ite | with_reducible apply Ends.ite | with_reducible apply Fr.post (countTRef_fr ..)
    | with_reducible dsimp only | with_reducible split | with_reducible apply Fr.setTier

theorem serveLane_fr (s : State) (q : MemReq) : Fr 0x2000 s (serveLane s q) := by
  unfold serveLane
  repeat' first
    | with_reducible apply Fr.refl | ((with_reducible apply sub_ok); exact rfl) | with_reducible apply Fr.ite
    | with_reducible dsimp only | with_reducible split | with_reducible apply Fr.setTier

theorem execMemoryRequestComplete_fr (idx : Nat) (s : State) : Ends 0xf82c s (execMemoryRequestComplete idx s) := by
  unfold execMemoryRequestComplete
  repeat' first
    | with_reducible apply Fr.refl | ((with_reducible apply sub_ok); exact rfl) | with_reducible apply Ends.next
    | with_reducible apply Fr.ite | with_reducible apply Ends.ite | with_reducible apply Fr.post (serveLane_fr ..)
    | with_reducible apply Fr.post (readAt_fr ..) | with_reducible apply Fr.post (writeAt_fr ..)
    | with_reducible apply Fr.post (settle_fr ..) | with_reducible dsimp only | with_reducible split
    | with_reducible apply Fr.setTier

theorem execRowIdleClose_fr (addr : BitVec 48) (s : State) : Ends 0x2000 s (execRowIdleClose addr s) := by
  unfold execRowIdleClose
  repeat' first
    | with_reducible apply Fr.refl | ((with_reducible apply sub_ok); exact rfl) | with_reducible apply Ends.next
    | with_reducible apply Fr.ite | with_reducible apply Ends.ite | with_reducible apply Fr.post (closeRowAt_fr ..)
    | with_reducible dsimp only | with_reducible split

theorem execDramRefresh_fr (addr : BitVec 48) (s : State) : Ends 0x2000 s (execDramRefresh addr s) := by
  unfold execDramRefresh
  repeat' first
    | with_reducible apply Fr.refl | with_reducible assumption | ((with_reducible apply sub_ok); exact rfl)
    | with_reducible apply Ends.next | with_reducible apply Fr.ite | with_reducible apply Ends.ite
    | with_reducible refine Fr.foldl (fun _ _ _ => ?_) ?_ | with_reducible refine Fr.foldl_fst (fun _ _ _ => ?_) ?_
    | with_reducible dsimp only | with_reducible split | with_reducible apply Fr.setTier

theorem execTierOfflineWrite_fr (req : Requester) (unit : Fin 20) (offline : Bool) (s : State) : Ends 0xf82c s (execTierOfflineWrite req unit offline s) := by
  unfold execTierOfflineWrite
  repeat' first
    | with_reducible apply Fr.refl | ((with_reducible apply sub_ok); exact rfl) | with_reducible apply Ends.next
    | with_reducible apply Fr.ite | with_reducible apply Ends.ite | with_reducible apply Fr.post (tierCfgWrite_fr ..)
    | with_reducible dsimp only | with_reducible split

theorem execPowerOnFill_fr (region : Fin 24) (bad : List (BitVec 48)) (again : List (BitVec 48)) (s : State) : Ends 0xf82c s (execPowerOnFill region bad again s) := by
  unfold execPowerOnFill
  repeat' first
    | with_reducible apply Fr.refl | ((with_reducible apply sub_ok); exact rfl) | with_reducible apply Ends.next
    | with_reducible apply Fr.ite | with_reducible apply Ends.ite | with_reducible apply Fr.post (clearRegion_fr ..)
    | with_reducible apply Fr.post (countFill_fr ..) | with_reducible apply Fr.post (fillRows_fr ..)
    | with_reducible apply Fr.post (fillVerdict_fr ..) | with_reducible dsimp only | with_reducible split
    | with_reducible apply Fr.setInteg

theorem execHandlingPeriodEnd_fr (region : Fin 24) (bank : Fin 64) (s : State) : Ends 0x1008 s (execHandlingPeriodEnd region bank s) := by
  unfold execHandlingPeriodEnd
  repeat' first
    | with_reducible apply Fr.refl | ((with_reducible apply sub_ok); exact rfl) | with_reducible apply Ends.next
    | with_reducible apply Fr.ite | with_reducible apply Ends.ite | with_reducible apply Fr.post (endHandling_fr ..)
    | with_reducible dsimp only | with_reducible split

theorem execHndWrite_fr (req : Requester) (region : Fin 24) (value : W64) (s : State) : Ends 0x1018 s (execHndWrite req region value s) := by
  unfold execHndWrite
  repeat' first
    | with_reducible apply Fr.refl | ((with_reducible apply sub_ok); exact rfl) | with_reducible apply Ends.next
    | with_reducible apply Fr.ite | with_reducible apply Ends.ite | with_reducible apply Fr.post (busForget_fr ..)
    | with_reducible apply Fr.post (hndWrite_fr ..) | with_reducible dsimp only | with_reducible split

theorem execPoisonWrite_fr (idx : Nat) (s : State) : Ends 0x2808 s (execPoisonWrite idx s) := by
  unfold execPoisonWrite
  repeat' first
    | with_reducible apply Fr.refl | ((with_reducible apply sub_ok); exact rfl) | with_reducible apply Ends.next
    | with_reducible apply Fr.ite | with_reducible apply Ends.ite | with_reducible apply Fr.post (storePoison_fr ..)
    | with_reducible dsimp only | with_reducible split

theorem execGroomRead_fr (groom : Fin 276) (s : State) : Ends 0xf82c s (execGroomRead groom s) := by
  unfold execGroomRead
  repeat' first
    | with_reducible apply Fr.refl | ((with_reducible apply sub_ok); exact rfl) | with_reducible apply Ends.next
    | with_reducible apply Fr.ite | with_reducible apply Ends.ite | with_reducible apply Fr.post (memRead_fr ..)
    | with_reducible apply Fr.post (endLap_fr ..) | with_reducible dsimp only | with_reducible split
    | with_reducible apply Fr.setInteg

theorem execGroomWriteBack_fr (idx : Nat) (s : State) : Ends 0x3808 s (execGroomWriteBack idx s) := by
  unfold execGroomWriteBack
  repeat' first
    | with_reducible apply Fr.refl | ((with_reducible apply sub_ok); exact rfl) | with_reducible apply Ends.next
    | with_reducible apply Fr.ite | with_reducible apply Ends.ite | with_reducible apply Fr.post (writeMangerByte_fr ..)
    | with_reducible apply Fr.post (writeBurst_fr ..) | with_reducible apply Fr.post (openRowAt_fr ..) | with_reducible dsimp only
    | with_reducible split | with_reducible refine Fr.setMem _ ?_ id ?_

theorem execGroomLapAlarm_fr (region : Fin 24) (s : State) : Ends 0x1028 s (execGroomLapAlarm region s) := by
  unfold execGroomLapAlarm
  repeat' first
    | with_reducible apply Fr.refl | ((with_reducible apply sub_ok); exact rfl) | with_reducible apply Ends.next
    | with_reducible apply Fr.ite | with_reducible apply Ends.ite | with_reducible apply Fr.post (setF_fr ..)
    | with_reducible apply Fr.post (raiseEv_fr ..) | with_reducible dsimp only | with_reducible split
    | with_reducible apply Fr.setInteg

theorem execGroomEnableWrite_fr (req : Requester) (value : W32) (s : State) : Ends 0x1008 s (execGroomEnableWrite req value s) := by
  unfold execGroomEnableWrite
  repeat' first
    | with_reducible apply Fr.refl | ((with_reducible apply sub_ok); exact rfl) | with_reducible apply Ends.next
    | with_reducible apply Fr.ite | with_reducible apply Ends.ite | with_reducible apply Fr.post (grmCtrlWrite_fr ..)
    | with_reducible dsimp only | with_reducible split

theorem execMgrSoftrep_fr (req : Requester) (die : Fin 4) (bank : Fin 64) (row : Fin 8192) (s : State) : Ends 0x1008 s (execMgrSoftrep req die bank row s) := by
  unfold execMgrSoftrep
  repeat' first
    | with_reducible apply Fr.refl | ((with_reducible apply sub_ok); exact rfl) | with_reducible apply Ends.next
    | with_reducible apply Fr.ite | with_reducible apply Ends.ite | with_reducible apply Fr.post (softRepWrite_fr ..)
    | with_reducible dsimp only | with_reducible split

theorem execSoftRepairCopy_fr (die : Fin 4) (bank : Fin 64) (s : State) : Ends 0x3828 s (execSoftRepairCopy die bank s) := by
  unfold execSoftRepairCopy
  repeat' first
    | with_reducible apply Fr.refl | ((with_reducible apply sub_ok); exact rfl) | with_reducible apply Ends.next
    | with_reducible apply Ends.ite | with_reducible apply Fr.post (softCopy_fr ..) | with_reducible dsimp only

theorem execFlipArm_fr (req : Requester) (s : State) : Ends 0x1008 s (execFlipArm req s) := by
  unfold execFlipArm
  repeat' first
    | with_reducible apply Fr.refl | ((with_reducible apply sub_ok); exact rfl) | with_reducible apply Ends.next
    | with_reducible apply Fr.ite | with_reducible apply Ends.ite | with_reducible apply Fr.post (flipCtrlWrite_fr ..)
    | with_reducible dsimp only | with_reducible split

theorem execFlipDisarm_fr (req : Requester) (s : State) : Ends 0x1008 s (execFlipDisarm req s) := by
  unfold execFlipDisarm
  repeat' first
    | with_reducible apply Fr.refl | ((with_reducible apply sub_ok); exact rfl) | with_reducible apply Ends.next
    | with_reducible apply Fr.ite | with_reducible apply Ends.ite | with_reducible apply Fr.post (flipCtrlWrite_fr ..)
    | with_reducible dsimp only | with_reducible split

theorem execOholdRelease_fr (req : Requester) (s : State) : Ends 0x8 s (execOholdRelease req s) := by
  unfold execOholdRelease
  repeat' first
    | with_reducible apply Fr.refl | ((with_reducible apply sub_ok); exact rfl) | with_reducible apply Ends.next
    | with_reducible apply Fr.ite | with_reducible apply Ends.ite | with_reducible apply Fr.post (setF_fr ..)
    | with_reducible dsimp only | with_reducible split

end Sys2Proof.Machine
end

