-- ==== Sys2Proof/Laws/FrTransfer.lean ====
section
/-! SUPPORT. What each operation of Machine/Transfer.lean may touch, and that it keeps the invariant. -/
namespace Sys2Proof.Machine

theorem putRun_fr (s : State) (n : Nat) (c : Nat) (r : Run) : Fr 0x200 s (putRun s n c r) := by
  unfold putRun
  repeat' first
    | with_reducible apply Fr.refl | ((with_reducible apply sub_ok); exact rfl) | with_reducible apply Fr.post (putChan_fr ..)
    | with_reducible dsimp only

theorem waitTimers_fr (s : State) (n : Nat) (m : Nat) : Fr 0x204 s (waitTimers s n m) := by
  unfold waitTimers
  repeat' first
    | with_reducible apply Fr.refl | with_reducible assumption | ((with_reducible apply sub_ok); exact rfl)
    | with_reducible apply Fr.ite | with_reducible apply Fr.post (drawn_fr ..) | with_reducible apply Fr.post (putChan_fr ..)
    | with_reducible refine Fr.foldl (fun _ _ _ => ?_) ?_ | with_reducible refine Fr.foldl_fst (fun _ _ _ => ?_) ?_
    | with_reducible refine Fr.foldl_by Flow.s (fun _ _ _ => ?_) ?_ | with_reducible dsimp only | with_reducible split

theorem waitMarks_fr (s : State) (n : Nat) : Fr 0x200 s (waitMarks s n) := by
  unfold waitMarks
  repeat' first
    | with_reducible apply Fr.refl | with_reducible assumption | ((with_reducible apply sub_ok); exact rfl)
    | with_reducible apply Fr.ite | with_reducible apply Fr.post (putChan_fr ..)
    | with_reducible refine Fr.foldl (fun _ _ _ => ?_) ?_ | with_reducible refine Fr.foldl_fst (fun _ _ _ => ?_) ?_
    | with_reducible refine Fr.foldl_by Flow.s (fun _ _ _ => ?_) ?_ | with_reducible dsimp only | with_reducible split

theorem haltUnreached_fr (s : State) (n : Nat) : Fr 0x220 s (haltUnreached s n) := by
  unfold haltUnreached
  repeat' first
    | with_reducible apply Fr.refl | with_reducible assumption | ((with_reducible apply sub_ok); exact rfl)
    | with_reducible apply Fr.ite | with_reducible apply Fr.post (unreachTarget_fr ..)
    | with_reducible refine Fr.foldl (fun _ _ _ => ?_) ?_ | with_reducible refine Fr.foldl_fst (fun _ _ _ => ?_) ?_
    | with_reducible refine Fr.foldl_by Flow.s (fun _ _ _ => ?_) ?_ | with_reducible dsimp only | with_reducible split

theorem countControl_fr (s : State) (n : Nat) (len : Nat) : Fr 0x8 s (countControl s n len) := by
  unfold countControl
  repeat' first
    | with_reducible apply Fr.refl | ((with_reducible apply sub_ok); exact rfl) | with_reducible apply Fr.ite
    | with_reducible apply Fr.post (addF_fr ..) | with_reducible dsimp only | with_reducible split

theorem writeLine_fr (s : State) (n : Nat) (c : Nat) (w : LineWrite) : Fr 0x3fffffc s (writeLine s n c w) := by
  unfold writeLine
  repeat' first
    | with_reducible apply Fr.refl | ((with_reducible apply sub_ok); exact rfl) | with_reducible apply Fr.ite
    | with_reducible apply Fr.post (countControl_fr ..) | with_reducible apply Fr.post (unreachTarget_fr ..)
    | with_reducible apply Fr.post (addF_fr ..) | with_reducible apply Fr.post (memWriteBytes_fr ..)
    | with_reducible apply Fr.post (busWrite_fr ..) | with_reducible dsimp only | with_reducible split

theorem issueTransfer_fr (s : State) (n : Nat) (c : Nat) : Fr 0x3fffffc s (issueTransfer s n c) := by
  unfold issueTransfer
  repeat' first
    | with_reducible apply Fr.refl | ((with_reducible apply sub_ok); exact rfl) | with_reducible apply Fr.ite
    | with_reducible apply Fr.post (putRun_fr ..) | with_reducible apply Fr.post (writeLine_fr ..)
    | with_reducible apply Fr.post (reserveSrc_fr ..) | with_reducible apply Fr.post (reserveDst_fr ..)
    | with_reducible apply Fr.post (takeTokens_fr ..) | with_reducible apply Fr.post (putStall_fr ..) | with_reducible dsimp only
    | with_reducible split

theorem issueOne_fr (s : State) (n : Nat) : Fr 0x3fffffc s (issueOne s n) := by
  unfold issueOne
  repeat' first
    | with_reducible apply Fr.refl | ((with_reducible apply sub_ok); exact rfl) | with_reducible apply Fr.ite
    | with_reducible apply Fr.post (haltUnreached_fr ..) | with_reducible apply Fr.post (issueTransfer_fr ..)
    | with_reducible apply Fr.post (putShu_fr ..) | with_reducible dsimp only | with_reducible split

theorem Flow.put_fr (f : Flow) (n : Nat) (a : Nat) (bs : List Nat) : Fr 0x3fffffc f.s (Flow.put f n a bs).s := by
  unfold Flow.put
  repeat' first
    | with_reducible apply Fr.refl | ((with_reducible apply sub_ok); exact rfl) | with_reducible apply Fr.ite
    | with_reducible apply Fr.post (countControl_fr ..) | with_reducible apply Fr.post (busWrite_fr ..)
    | with_reducible dsimp only | with_reducible split

theorem Flow.poison_fr (f : Flow) (n : Nat) (a : Nat) : Fr 0x8 f.s (Flow.poison f n a).s := by
  unfold Flow.poison
  repeat' first
    | with_reducible apply Fr.refl | ((with_reducible apply sub_ok); exact rfl) | with_reducible apply Fr.ite
    | with_reducible apply Fr.post (bumpF_fr ..) | with_reducible dsimp only | with_reducible split

theorem buildLine_fr (f : Flow) (key : Nat) (l : LineRef) : Fr 0x0 f.s (buildLine f key l).s := by
  unfold buildLine
  repeat' first
    | with_reducible apply Fr.refl | ((with_reducible apply sub_ok); exact rfl) | with_reducible dsimp only

theorem Flow.arrayBlock_fr (f : Flow) (n : Nat) (p : Nat) (b : Block) : Fr 0x3fffffc f.s (Flow.arrayBlock f n p b).s := by
  unfold Flow.arrayBlock
  repeat' first
    | with_reducible apply Fr.refl | ((with_reducible apply sub_ok); exact rfl) | with_reducible apply Fr.ite
    | with_reducible apply Fr.post (Flow.put_fr ..) | with_reducible apply Fr.post (Flow.poison_fr ..)
    | with_reducible apply Fr.post (buildLine_fr ..) | with_reducible dsimp only | with_reducible split

theorem carries_fr (s : State) (n : Nat) (r : Run) (slot : Nat) (op : Nat × Nat) : Fr 0x400 s (carries s n r slot op) := by
  unfold carries
  repeat' first
    | with_reducible apply Fr.refl | ((with_reducible apply sub_ok); exact rfl) | with_reducible apply Fr.ite
    | with_reducible apply Fr.post (putSid_fr ..) | with_reducible dsimp only | with_reducible split

theorem Flow.inputBlock_fr (f : Flow) (n : Nat) (p : Nat) (b : Block) : Fr 0x480 f.s (Flow.inputBlock f n p b).s := by
  unfold Flow.inputBlock
  repeat' first
    | with_reducible apply Fr.refl | ((with_reducible apply sub_ok); exact rfl) | with_reducible apply Fr.ite
    | with_reducible apply Fr.post (carries_fr ..) | with_reducible apply Fr.post (putStall_fr ..) | with_reducible dsimp only
    | with_reducible split

theorem Flow.weightBlock_fr (f : Flow) (p : Nat) (b : Block) : Fr 0x0 f.s (Flow.weightBlock f p b).s := by
  unfold Flow.weightBlock
  repeat' first
    | with_reducible apply Fr.refl | ((with_reducible apply sub_ok); exact rfl) | with_reducible apply Fr.ite
    | with_reducible dsimp only | with_reducible split

theorem Flow.portCount_fr (f : Flow) (n : Nat) (b : Block) : Fr 0x8 f.s (Flow.portCount f n b).s := by
  unfold Flow.portCount
  repeat' first
    | with_reducible apply Fr.refl | ((with_reducible apply sub_ok); exact rfl) | with_reducible apply Fr.ite
    | with_reducible apply Fr.post (bumpF_fr ..) | with_reducible apply Fr.post (addF_fr ..) | with_reducible dsimp only
    | with_reducible split

theorem Flow.block_fr (f : Flow) (n : Nat) (p : Nat) (b : Block) : Fr 0x3fffffc f.s (Flow.block f n p b).s := by
  unfold Flow.block
  repeat' first
    | with_reducible apply Fr.refl | ((with_reducible apply sub_ok); exact rfl) | with_reducible apply Fr.ite
    | with_reducible apply Fr.post (Flow.arrayBlock_fr ..) | with_reducible apply Fr.post (Flow.inputBlock_fr ..)
    | with_reducible apply Fr.post (Flow.weightBlock_fr ..) | with_reducible apply Fr.post (Flow.portCount_fr ..)
    | with_reducible dsimp only | with_reducible split

theorem Flow.convert_fr (f : Flow) (n : Nat) (p : Nat) (srcs : List Src) : Fr 0x3fffffc f.s (Flow.convert f n p srcs).s := by
  unfold Flow.convert
  repeat' first
    | with_reducible apply Fr.refl | ((with_reducible apply sub_ok); exact rfl) | with_reducible apply Fr.ite
    | with_reducible apply Fr.post (Flow.block_fr ..) | with_reducible apply Fr.post (bumpF_fr ..)
    | with_reducible apply Fr.post (putShu_fr ..) | with_reducible dsimp only | with_reducible split

theorem Flow.elem_fr (f : Flow) (n : Nat) (p : Nat) (bits : Nat) (lost : Bool) : Fr 0x3fffffc f.s (Flow.elem f n p bits lost).s := by
  unfold Flow.elem
  repeat' first
    | with_reducible apply Fr.refl | ((with_reducible apply sub_ok); exact rfl) | with_reducible apply Fr.ite
    | with_reducible apply Fr.post (Flow.put_fr ..) | with_reducible apply Fr.post (Flow.poison_fr ..) | with_reducible dsimp only
    | with_reducible split

theorem Flow.gather_fr (f : Flow) (n : Nat) (p : Nat) (b : Option Nat) : Fr 0x3fffffc f.s (Flow.gather f n p b).s := by
  unfold Flow.gather
  repeat' first
    | with_reducible apply Fr.refl | ((with_reducible apply sub_ok); exact rfl) | with_reducible apply Fr.ite
    | with_reducible apply Fr.post (Flow.convert_fr ..) | with_reducible dsimp only | with_reducible split

theorem Flow.unit_fr (f : Flow) (n : Nat) (p : Nat) (u : SrcUnit) : Fr 0x3fffffc f.s (Flow.unit f n p u).s := by
  unfold Flow.unit
  repeat' first
    | with_reducible apply Fr.refl | with_reducible assumption | ((with_reducible apply sub_ok); exact rfl)
    | with_reducible apply Fr.ite | with_reducible apply Fr.post (Flow.block_fr ..)
    | with_reducible apply Fr.post (Flow.convert_fr ..) | with_reducible apply Fr.post (Flow.elem_fr ..)
    | with_reducible apply Fr.post (Flow.gather_fr ..) | with_reducible refine Fr.foldl (fun _ _ _ => ?_) ?_
    | with_reducible refine Fr.foldl_fst (fun _ _ _ => ?_) ?_ | with_reducible refine Fr.foldl_by Flow.s (fun _ _ _ => ?_) ?_
    | with_reducible dsimp only | with_reducible split

theorem readControl_fr (s : State) (n : Nat) (a0 : List Loc) : Fr 0x18 s (readControl s n a0).1 := by
  induction a0 generalizing s n
  · unfold readControl
    repeat' first
      | with_reducible apply Fr.refl | ((with_reducible apply sub_ok); exact rfl) | with_reducible apply Fr.ite
      | with_reducible apply Fr.post (busRead_fr ..) | with_reducible dsimp only | with_reducible split
  · rename_i ih
    unfold readControl
    repeat' first
      | with_reducible apply Fr.post (ih ..) | with_reducible apply Fr.refl | ((with_reducible apply sub_ok); exact rfl)
      | with_reducible apply Fr.ite | with_reducible apply Fr.post (busRead_fr ..) | with_reducible dsimp only
      | with_reducible split

theorem readData_fr (s : State) (n : Nat) (r : Run) (x : Xfer) (units : List Loc) : Fr 0xf83c s (readData s n r x units).1 := by
  unfold readData
  repeat' first
    | with_reducible apply Fr.refl | ((with_reducible apply sub_ok); exact rfl) | with_reducible apply Fr.ite
    | with_reducible apply Fr.post (readControl_fr ..) | with_reducible apply Fr.post (memRead_fr ..) | with_reducible dsimp only
    | with_reducible split

theorem countFailed_fr (s t : State) (a : Nat) : Fr 0x8 t (countFailed s t a) :=
  Fr.ite ((bumpF_fr ..).mono rfl) (Fr.refl _ _)

theorem countWritten_fr (s : State) (n : Nat) (bytes : List Nat) (poisons : List Nat) : Fr 0x8 s (countWritten s n bytes poisons) := by
  unfold countWritten
  repeat' first
    | with_reducible apply Fr.refl | ((with_reducible apply sub_ok); exact rfl) | with_reducible apply Fr.post (bumpF_fr ..)
    | with_reducible apply Fr.post (addF_fr ..) | with_reducible dsimp only

theorem writeWindow_fr (n : Nat) (c : Nat) (ws : List Nat) (ps : List Nat) (m : NMap Nat) (s : State) (w : Nat) : Fr 0xfa2c s (writeWindow n c ws ps m s w) := by
  unfold writeWindow
  repeat' first
    | with_reducible apply Fr.refl | ((with_reducible apply sub_ok); exact rfl) | with_reducible apply Fr.ite
    | with_reducible apply Fr.post (countFailed_fr ..) | with_reducible apply Fr.post (countWritten_fr ..)
    | with_reducible apply Fr.post (unreachTarget_fr ..) | with_reducible apply Fr.post (memWrite_fr ..)
    | with_reducible dsimp only | with_reducible split

theorem writeAll_fr (s : State) (n : Nat) (c : Nat) (ws : List (Nat × Nat)) (ps : List Nat) : Fr 0xfa2c s (writeAll s n c ws ps) := by
  unfold writeAll
  repeat' first
    | with_reducible apply Fr.refl | with_reducible assumption | ((with_reducible apply sub_ok); exact rfl)
    | with_reducible apply Fr.post (writeWindow_fr ..) | with_reducible refine Fr.foldl (fun _ _ _ => ?_) ?_
    | with_reducible refine Fr.foldl_fst (fun _ _ _ => ?_) ?_ | with_reducible refine Fr.foldl_by Flow.s (fun _ _ _ => ?_) ?_
    | with_reducible dsimp only

theorem flushLines_fr (f : Flow) (n : Nat) (ps : List Nat) : Fr 0x0 f.s (flushLines f n ps).s := by
  unfold flushLines
  repeat' first
    | with_reducible apply Fr.refl | with_reducible assumption | ((with_reducible apply sub_ok); exact rfl)
    | with_reducible apply Fr.ite | with_reducible apply Fr.post (buildLine_fr ..)
    | with_reducible refine Fr.foldl (fun _ _ _ => ?_) ?_ | with_reducible refine Fr.foldl_fst (fun _ _ _ => ?_) ?_
    | with_reducible refine Fr.foldl_by Flow.s (fun _ _ _ => ?_) ?_ | with_reducible dsimp only | with_reducible split

theorem markReturned_fr (s : State) (n : Nat) (r : Run) (old : Nat) : Fr 0x440 s (markReturned s n r old) := by
  unfold markReturned
  repeat' first
    | with_reducible apply Fr.refl | ((with_reducible apply sub_ok); exact rfl) | with_reducible apply Fr.ite
    | with_reducible apply Fr.post (putSid_fr ..) | with_reducible apply Fr.post (sidSweep_fr ..) | with_reducible dsimp only
    | with_reducible split

theorem dataReturn_fr (s : State) (n : Nat) (c : Nat) (r : Run) (x : Xfer) (p0 : Nat) (cnt : Nat) (lead : Bool) : Fr 0x3fffffc s (dataReturn s n c r x p0 cnt lead) := by
  unfold dataReturn
  repeat' first
    | with_reducible apply Fr.refl | with_reducible assumption | ((with_reducible apply sub_ok); exact rfl)
    | with_reducible apply Fr.ite | with_reducible apply Fr.post (putRun_fr ..) | with_reducible apply Fr.post (Flow.unit_fr ..)
    | with_reducible apply Fr.post (readData_fr ..) | with_reducible apply Fr.post (writeAll_fr ..)
    | with_reducible apply Fr.post (flushLines_fr ..) | with_reducible apply Fr.post (markReturned_fr ..)
    | with_reducible apply Fr.post (unreachTarget_fr ..) | with_reducible refine Fr.foldl (fun _ _ _ => ?_) ?_
    | with_reducible refine Fr.foldl_fst (fun _ _ _ => ?_) ?_ | with_reducible refine Fr.foldl_by Flow.s (fun _ _ _ => ?_) ?_
    | with_reducible dsimp only | with_reducible split

theorem readLineBytes_fr (s : State) (n : Nat) (a : Nat) : Fr 0xf83c s (readLineBytes s n a).1 := by
  unfold readLineBytes
  repeat' first
    | with_reducible apply Fr.refl | ((with_reducible apply sub_ok); exact rfl) | with_reducible apply Fr.ite
    | with_reducible apply Fr.post (memRead_fr ..) | with_reducible apply Fr.post (busRead_fr ..) | with_reducible dsimp only
    | with_reducible split

theorem lineReturn_fr (s : State) (n : Nat) (c : Nat) (r : Run) (x : Xfer) (slot : Nat) (line : Nat) (need : Nat) (expect : Nat) : Fr 0xfa3c s (lineReturn s n c r x slot line need expect) := by
  unfold lineReturn
  repeat' first
    | with_reducible apply Fr.refl | ((with_reducible apply sub_ok); exact rfl) | with_reducible apply Fr.ite
    | with_reducible apply Fr.post (putRun_fr ..) | with_reducible apply Fr.post (readLineBytes_fr ..)
    | with_reducible apply Fr.post (haltChan_fr ..) | with_reducible apply Fr.post (unreachTarget_fr ..)
    | with_reducible apply Fr.post (raiseEv_fr ..) | with_reducible dsimp only | with_reducible split

theorem readReturn_fr (s : State) (n : Nat) (c : Nat) : Fr 0x3fffffc s (readReturn s n c) := by
  unfold readReturn
  repeat' first
    | with_reducible apply Fr.refl | ((with_reducible apply sub_ok); exact rfl) | with_reducible apply Fr.ite
    | with_reducible apply Fr.post (dataReturn_fr ..) | with_reducible apply Fr.post (lineReturn_fr ..)
    | with_reducible dsimp only | with_reducible split

theorem publishSlots_fr (s : State) (n : Nat) (c : Nat) (a0 : Nat) : Fr 0x640 s (publishSlots s n c a0) := by
  induction a0 generalizing s n c
  · unfold publishSlots
    repeat' first
      | with_reducible apply Fr.refl | ((with_reducible apply sub_ok); exact rfl) | with_reducible apply Fr.ite
      | with_reducible apply Fr.post (putRun_fr ..) | with_reducible apply Fr.post (putSid_fr ..)
      | with_reducible apply Fr.post (sidPublish_fr ..) | with_reducible dsimp only | with_reducible split
  · rename_i ih
    unfold publishSlots
    repeat' first
      | with_reducible apply Fr.post (ih ..) | with_reducible apply Fr.refl | ((with_reducible apply sub_ok); exact rfl)
      | with_reducible apply Fr.ite | with_reducible apply Fr.post (putRun_fr ..) | with_reducible apply Fr.post (putSid_fr ..)
      | with_reducible apply Fr.post (sidPublish_fr ..) | with_reducible dsimp only | with_reducible split

theorem endWalk_fr (s : State) (n : Nat) (c : Nat) : Fr 0x648 s (endWalk s n c) := by
  unfold endWalk
  repeat' first
    | with_reducible apply Fr.refl | ((with_reducible apply sub_ok); exact rfl) | with_reducible apply Fr.ite
    | with_reducible apply Fr.post (completeDesc_fr ..) | with_reducible dsimp only | with_reducible split

theorem ackTransfer_fr (s : State) (n : Nat) (c : Nat) : Fr 0x648 s (ackTransfer s n c) := by
  unfold ackTransfer
  repeat' first
    | with_reducible apply Fr.refl | ((with_reducible apply sub_ok); exact rfl) | with_reducible apply Fr.ite
    | with_reducible apply Fr.post (putRun_fr ..) | with_reducible apply Fr.post (publishSlots_fr ..)
    | with_reducible apply Fr.post (endWalk_fr ..) | with_reducible apply Fr.post (setF_fr ..) | with_reducible dsimp only
    | with_reducible split

end Sys2Proof.Machine
end

