-- ==== Sys2Proof/Laws/FrCmdTransfer.lean ====
section
/-! SUPPORT. What each operation of Machine/CmdTransfer.lean may touch, and that it keeps the invariant. -/
namespace Sys2Proof.Machine

theorem execTransferIssue_fr (shu : Fin 96) (cycles : Nat) (s : State) : Ends 0x3fffffc s (execTransferIssue shu cycles s) := by
  unfold execTransferIssue
  repeat' first
    | with_reducible apply Fr.refl | ((with_reducible apply sub_ok); exact rfl) | with_reducible apply Ends.next
    | with_reducible apply Fr.ite | with_reducible apply Ends.ite | with_reducible apply Fr.post (waitTimers_fr ..)
    | with_reducible apply Fr.post (waitMarks_fr ..) | with_reducible apply Fr.post (issueOne_fr ..)
    | with_reducible apply Fr.post (addTokens_fr ..) | with_reducible dsimp only | with_reducible split

theorem execTransferReadReturn_fr (shu : Fin 96) (chan : Fin 8) (s : State) : Ends 0x3fffffc s (execTransferReadReturn shu chan s) := by
  unfold execTransferReadReturn
  repeat' first
    | with_reducible apply Fr.refl | ((with_reducible apply sub_ok); exact rfl) | with_reducible apply Ends.next
    | with_reducible apply Ends.ite | with_reducible apply Fr.post (readReturn_fr ..) | with_reducible dsimp only

theorem execTransferAck_fr (shu : Fin 96) (chan : Fin 8) (s : State) : Ends 0x648 s (execTransferAck shu chan s) := by
  unfold execTransferAck
  repeat' first
    | with_reducible apply Fr.refl | ((with_reducible apply sub_ok); exact rfl) | with_reducible apply Ends.next
    | with_reducible apply Ends.ite | with_reducible apply Fr.post (ackTransfer_fr ..) | with_reducible dsimp only

end Sys2Proof.Machine
end

