-- ==== Sys2Proof/Laws/State.lean ====
section
/-! SUPPORT. What each basic update leaves: one lemma per component of the state and update, and what the accessors read after it. -/
namespace Sys2Proof.Machine

variable (s : State)

section
variable (x0 : List Instr) (x1 : W64) (x2 : Nat) (x3 : NMap W64) (x4 : Bus) (x5 : EvLog) (x6 : List SbxInc) (x7 : NMap Stall) (x8 : NMap Shed) (x9 : NMap Shunter) (x10 : NMap Siding) (x11 : Mem) (x12 : Integ) (x13 : Tier) (x14 : Loft) (x15 : Serve) (x16 : NMap HChan) (x17 : Light) (x18 : Mon) (x19 : Rein) (x20 : Far) (x21 : Pwr) (x22 : Drove) (x23 : Tack) (x24 : Sys) (x25 : Nat)

theorem State.pending_mk : (State.mk x0 x1 x2 x3 x4 x5 x6 x7 x8 x9 x10 x11 x12 x13 x14 x15 x16 x17 x18 x19 x20 x21 x22 x23 x24 x25).pending = x0 := rfl
theorem State.time_mk : (State.mk x0 x1 x2 x3 x4 x5 x6 x7 x8 x9 x10 x11 x12 x13 x14 x15 x16 x17 x18 x19 x20 x21 x22 x23 x24 x25).time = x1 := rfl
theorem State.freeCtr_mk : (State.mk x0 x1 x2 x3 x4 x5 x6 x7 x8 x9 x10 x11 x12 x13 x14 x15 x16 x17 x18 x19 x20 x21 x22 x23 x24 x25).freeCtr = x2 := rfl
theorem State.regs_mk : (State.mk x0 x1 x2 x3 x4 x5 x6 x7 x8 x9 x10 x11 x12 x13 x14 x15 x16 x17 x18 x19 x20 x21 x22 x23 x24 x25).regs = x3 := rfl
theorem State.bus_mk : (State.mk x0 x1 x2 x3 x4 x5 x6 x7 x8 x9 x10 x11 x12 x13 x14 x15 x16 x17 x18 x19 x20 x21 x22 x23 x24 x25).bus = x4 := rfl
theorem State.ev_mk : (State.mk x0 x1 x2 x3 x4 x5 x6 x7 x8 x9 x10 x11 x12 x13 x14 x15 x16 x17 x18 x19 x20 x21 x22 x23 x24 x25).ev = x5 := rfl
theorem State.sbxFlight_mk : (State.mk x0 x1 x2 x3 x4 x5 x6 x7 x8 x9 x10 x11 x12 x13 x14 x15 x16 x17 x18 x19 x20 x21 x22 x23 x24 x25).sbxFlight = x6 := rfl
theorem State.stall_mk : (State.mk x0 x1 x2 x3 x4 x5 x6 x7 x8 x9 x10 x11 x12 x13 x14 x15 x16 x17 x18 x19 x20 x21 x22 x23 x24 x25).stall = x7 := rfl
theorem State.shed_mk : (State.mk x0 x1 x2 x3 x4 x5 x6 x7 x8 x9 x10 x11 x12 x13 x14 x15 x16 x17 x18 x19 x20 x21 x22 x23 x24 x25).shed = x8 := rfl
theorem State.shu_mk : (State.mk x0 x1 x2 x3 x4 x5 x6 x7 x8 x9 x10 x11 x12 x13 x14 x15 x16 x17 x18 x19 x20 x21 x22 x23 x24 x25).shu = x9 := rfl
theorem State.sid_mk : (State.mk x0 x1 x2 x3 x4 x5 x6 x7 x8 x9 x10 x11 x12 x13 x14 x15 x16 x17 x18 x19 x20 x21 x22 x23 x24 x25).sid = x10 := rfl
theorem State.mem_mk : (State.mk x0 x1 x2 x3 x4 x5 x6 x7 x8 x9 x10 x11 x12 x13 x14 x15 x16 x17 x18 x19 x20 x21 x22 x23 x24 x25).mem = x11 := rfl
theorem State.integ_mk : (State.mk x0 x1 x2 x3 x4 x5 x6 x7 x8 x9 x10 x11 x12 x13 x14 x15 x16 x17 x18 x19 x20 x21 x22 x23 x24 x25).integ = x12 := rfl
theorem State.tier_mk : (State.mk x0 x1 x2 x3 x4 x5 x6 x7 x8 x9 x10 x11 x12 x13 x14 x15 x16 x17 x18 x19 x20 x21 x22 x23 x24 x25).tier = x13 := rfl
theorem State.loft_mk : (State.mk x0 x1 x2 x3 x4 x5 x6 x7 x8 x9 x10 x11 x12 x13 x14 x15 x16 x17 x18 x19 x20 x21 x22 x23 x24 x25).loft = x14 := rfl
theorem State.serve_mk : (State.mk x0 x1 x2 x3 x4 x5 x6 x7 x8 x9 x10 x11 x12 x13 x14 x15 x16 x17 x18 x19 x20 x21 x22 x23 x24 x25).serve = x15 := rfl
theorem State.host_mk : (State.mk x0 x1 x2 x3 x4 x5 x6 x7 x8 x9 x10 x11 x12 x13 x14 x15 x16 x17 x18 x19 x20 x21 x22 x23 x24 x25).host = x16 := rfl
theorem State.light_mk : (State.mk x0 x1 x2 x3 x4 x5 x6 x7 x8 x9 x10 x11 x12 x13 x14 x15 x16 x17 x18 x19 x20 x21 x22 x23 x24 x25).light = x17 := rfl
theorem State.mon_mk : (State.mk x0 x1 x2 x3 x4 x5 x6 x7 x8 x9 x10 x11 x12 x13 x14 x15 x16 x17 x18 x19 x20 x21 x22 x23 x24 x25).mon = x18 := rfl
theorem State.rein_mk : (State.mk x0 x1 x2 x3 x4 x5 x6 x7 x8 x9 x10 x11 x12 x13 x14 x15 x16 x17 x18 x19 x20 x21 x22 x23 x24 x25).rein = x19 := rfl
theorem State.far_mk : (State.mk x0 x1 x2 x3 x4 x5 x6 x7 x8 x9 x10 x11 x12 x13 x14 x15 x16 x17 x18 x19 x20 x21 x22 x23 x24 x25).far = x20 := rfl
theorem State.pwr_mk : (State.mk x0 x1 x2 x3 x4 x5 x6 x7 x8 x9 x10 x11 x12 x13 x14 x15 x16 x17 x18 x19 x20 x21 x22 x23 x24 x25).pwr = x21 := rfl
theorem State.drove_mk : (State.mk x0 x1 x2 x3 x4 x5 x6 x7 x8 x9 x10 x11 x12 x13 x14 x15 x16 x17 x18 x19 x20 x21 x22 x23 x24 x25).drove = x22 := rfl
theorem State.tack_mk : (State.mk x0 x1 x2 x3 x4 x5 x6 x7 x8 x9 x10 x11 x12 x13 x14 x15 x16 x17 x18 x19 x20 x21 x22 x23 x24 x25).tack = x23 := rfl
theorem State.sys_mk : (State.mk x0 x1 x2 x3 x4 x5 x6 x7 x8 x9 x10 x11 x12 x13 x14 x15 x16 x17 x18 x19 x20 x21 x22 x23 x24 x25).sys = x24 := rfl
theorem State.evtFilter_mk : (State.mk x0 x1 x2 x3 x4 x5 x6 x7 x8 x9 x10 x11 x12 x13 x14 x15 x16 x17 x18 x19 x20 x21 x22 x23 x24 x25).evtFilter = x25 := rfl

end

theorem rdReg_congr {t s : State} (b : Nat) (h : t.regs = s.regs) : rdReg t b = rdReg s b := by
  simp only [rdReg, h]
theorem getF_congr {t s : State} (g : Field) (w2 i2 k2 : Nat) (h : t.regs = s.regs) : getF t g w2 i2 k2 = getF s g w2 i2 k2 := by
  simp only [getF, rdReg, h]
theorem getStall_congr {t s : State} (k2 : Nat) (h : t.stall = s.stall) : getStall t k2 = getStall s k2 := by
  simp only [getStall, h]
theorem getShed_congr {t s : State} (i2 : Nat) (h : t.shed = s.shed) : getShed t i2 = getShed s i2 := by
  simp only [getShed, h]
theorem getThread_congr {t s : State} (i2 t2 : Nat) (h : t.shed = s.shed) : getThread t i2 t2 = getThread s i2 t2 := by
  simp only [getThread, getShed, h]
theorem getShu_congr {t s : State} (n2 : Nat) (h : t.shu = s.shu) : getShu t n2 = getShu s n2 := by
  simp only [getShu, h]
theorem getChan_congr {t s : State} (n2 c2 : Nat) (h : t.shu = s.shu) : getChan t n2 c2 = getChan s n2 c2 := by
  simp only [getChan, getShu, h]
theorem getSid_congr {t s : State} (d2 i2 : Nat) (h : t.sid = s.sid) : getSid t d2 i2 = getSid s d2 i2 := by
  simp only [getSid, h]
theorem getHost_congr {t s : State} (c2 : Nat) (h : t.host = s.host) : getHost t c2 = getHost s c2 := by
  simp only [getHost, h]
theorem getPort_congr {t s : State} (p2 : Nat) (h : t.drove = s.drove) : getPort t p2 = getPort s p2 := by
  simp only [getPort, h]
theorem getFar_congr {t s : State} (k2 : Nat) (h : t.far = s.far) : getFar t k2 = getFar s k2 := by
  simp only [getFar, h]
theorem getFarPort_congr {t s : State} (p2 : Nat) (h : t.far = s.far) : getFarPort t p2 = getFarPort s p2 := by
  simp only [getFarPort, h]
theorem getConv_congr {t s : State} (m2 : Nat) (h : t.mon = s.mon) : getConv t m2 = getConv s m2 := by
  simp only [getConv, h]
theorem getAcc_congr {t s : State} (m2 a2 : Nat) (h : t.mon = s.mon) : getAcc t m2 a2 = getAcc s m2 a2 := by
  simp only [getAcc, h]
theorem getTrim_congr {t s : State} (c2 : Nat) (h : t.mon = s.mon) : getTrim t c2 = getTrim s c2 := by
  simp only [getTrim, h]
theorem getLoop_congr {t s : State} (i2 : Nat) (h : t.rein = s.rein) : getLoop t i2 = getLoop s i2 := by
  simp only [getLoop, h]
theorem getBay_congr {t s : State} (y2 : Nat) (h : t.loft = s.loft) : getBay t y2 = getBay s y2 := by
  simp only [getBay, h]
theorem getDie_congr {t s : State} (d2 : Nat) (h : t.pwr = s.pwr) : getDie t d2 = getDie s d2 := by
  simp only [getDie, h]

@[simp] theorem wrReg_pending (a : Nat) (v : W64) : (wrReg s a v).pending = s.pending := State.pending_mk ..
@[simp] theorem wrReg_time (a : Nat) (v : W64) : (wrReg s a v).time = s.time := State.time_mk ..
@[simp] theorem wrReg_freeCtr (a : Nat) (v : W64) : (wrReg s a v).freeCtr = s.freeCtr := State.freeCtr_mk ..
@[simp] theorem wrReg_bus (a : Nat) (v : W64) : (wrReg s a v).bus = s.bus := State.bus_mk ..
@[simp] theorem wrReg_ev (a : Nat) (v : W64) : (wrReg s a v).ev = s.ev := State.ev_mk ..
@[simp] theorem wrReg_sbxFlight (a : Nat) (v : W64) : (wrReg s a v).sbxFlight = s.sbxFlight := State.sbxFlight_mk ..
@[simp] theorem wrReg_stall (a : Nat) (v : W64) : (wrReg s a v).stall = s.stall := State.stall_mk ..
@[simp] theorem wrReg_shed (a : Nat) (v : W64) : (wrReg s a v).shed = s.shed := State.shed_mk ..
@[simp] theorem wrReg_shu (a : Nat) (v : W64) : (wrReg s a v).shu = s.shu := State.shu_mk ..
@[simp] theorem wrReg_sid (a : Nat) (v : W64) : (wrReg s a v).sid = s.sid := State.sid_mk ..
@[simp] theorem wrReg_mem (a : Nat) (v : W64) : (wrReg s a v).mem = s.mem := State.mem_mk ..
@[simp] theorem wrReg_integ (a : Nat) (v : W64) : (wrReg s a v).integ = s.integ := State.integ_mk ..
@[simp] theorem wrReg_tier (a : Nat) (v : W64) : (wrReg s a v).tier = s.tier := State.tier_mk ..
@[simp] theorem wrReg_loft (a : Nat) (v : W64) : (wrReg s a v).loft = s.loft := State.loft_mk ..
@[simp] theorem wrReg_serve (a : Nat) (v : W64) : (wrReg s a v).serve = s.serve := State.serve_mk ..
@[simp] theorem wrReg_host (a : Nat) (v : W64) : (wrReg s a v).host = s.host := State.host_mk ..
@[simp] theorem wrReg_light (a : Nat) (v : W64) : (wrReg s a v).light = s.light := State.light_mk ..
@[simp] theorem wrReg_mon (a : Nat) (v : W64) : (wrReg s a v).mon = s.mon := State.mon_mk ..
@[simp] theorem wrReg_rein (a : Nat) (v : W64) : (wrReg s a v).rein = s.rein := State.rein_mk ..
@[simp] theorem wrReg_far (a : Nat) (v : W64) : (wrReg s a v).far = s.far := State.far_mk ..
@[simp] theorem wrReg_pwr (a : Nat) (v : W64) : (wrReg s a v).pwr = s.pwr := State.pwr_mk ..
@[simp] theorem wrReg_drove (a : Nat) (v : W64) : (wrReg s a v).drove = s.drove := State.drove_mk ..
@[simp] theorem wrReg_tack (a : Nat) (v : W64) : (wrReg s a v).tack = s.tack := State.tack_mk ..
@[simp] theorem wrReg_sys (a : Nat) (v : W64) : (wrReg s a v).sys = s.sys := State.sys_mk ..
@[simp] theorem wrReg_evtFilter (a : Nat) (v : W64) : (wrReg s a v).evtFilter = s.evtFilter := State.evtFilter_mk ..
@[simp] theorem getStall_wrReg (a : Nat) (v : W64) (k2 : Nat) : getStall (wrReg s a v) k2 = getStall s k2 := getStall_congr k2 (wrReg_stall ..)
@[simp] theorem getShed_wrReg (a : Nat) (v : W64) (i2 : Nat) : getShed (wrReg s a v) i2 = getShed s i2 := getShed_congr i2 (wrReg_shed ..)
@[simp] theorem getThread_wrReg (a : Nat) (v : W64) (i2 t2 : Nat) : getThread (wrReg s a v) i2 t2 = getThread s i2 t2 := getThread_congr i2 t2 (wrReg_shed ..)
@[simp] theorem getShu_wrReg (a : Nat) (v : W64) (n2 : Nat) : getShu (wrReg s a v) n2 = getShu s n2 := getShu_congr n2 (wrReg_shu ..)
@[simp] theorem getChan_wrReg (a : Nat) (v : W64) (n2 c2 : Nat) : getChan (wrReg s a v) n2 c2 = getChan s n2 c2 := getChan_congr n2 c2 (wrReg_shu ..)
@[simp] theorem getSid_wrReg (a : Nat) (v : W64) (d2 i2 : Nat) : getSid (wrReg s a v) d2 i2 = getSid s d2 i2 := getSid_congr d2 i2 (wrReg_sid ..)
@[simp] theorem getHost_wrReg (a : Nat) (v : W64) (c2 : Nat) : getHost (wrReg s a v) c2 = getHost s c2 := getHost_congr c2 (wrReg_host ..)
@[simp] theorem getPort_wrReg (a : Nat) (v : W64) (p2 : Nat) : getPort (wrReg s a v) p2 = getPort s p2 := getPort_congr p2 (wrReg_drove ..)
@[simp] theorem getFar_wrReg (a : Nat) (v : W64) (k2 : Nat) : getFar (wrReg s a v) k2 = getFar s k2 := getFar_congr k2 (wrReg_far ..)
@[simp] theorem getFarPort_wrReg (a : Nat) (v : W64) (p2 : Nat) : getFarPort (wrReg s a v) p2 = getFarPort s p2 := getFarPort_congr p2 (wrReg_far ..)
@[simp] theorem getConv_wrReg (a : Nat) (v : W64) (m2 : Nat) : getConv (wrReg s a v) m2 = getConv s m2 := getConv_congr m2 (wrReg_mon ..)
@[simp] theorem getAcc_wrReg (a : Nat) (v : W64) (m2 a2 : Nat) : getAcc (wrReg s a v) m2 a2 = getAcc s m2 a2 := getAcc_congr m2 a2 (wrReg_mon ..)
@[simp] theorem getTrim_wrReg (a : Nat) (v : W64) (c2 : Nat) : getTrim (wrReg s a v) c2 = getTrim s c2 := getTrim_congr c2 (wrReg_mon ..)
@[simp] theorem getLoop_wrReg (a : Nat) (v : W64) (i2 : Nat) : getLoop (wrReg s a v) i2 = getLoop s i2 := getLoop_congr i2 (wrReg_rein ..)
@[simp] theorem getBay_wrReg (a : Nat) (v : W64) (y2 : Nat) : getBay (wrReg s a v) y2 = getBay s y2 := getBay_congr y2 (wrReg_loft ..)
@[simp] theorem getDie_wrReg (a : Nat) (v : W64) (d2 : Nat) : getDie (wrReg s a v) d2 = getDie s d2 := getDie_congr d2 (wrReg_pwr ..)

@[simp] theorem setF_pending (f : Field) (x w i k : Nat) : (setF s f x w i k).pending = s.pending := wrReg_pending ..
@[simp] theorem setF_time (f : Field) (x w i k : Nat) : (setF s f x w i k).time = s.time := wrReg_time ..
@[simp] theorem setF_freeCtr (f : Field) (x w i k : Nat) : (setF s f x w i k).freeCtr = s.freeCtr := wrReg_freeCtr ..
@[simp] theorem setF_bus (f : Field) (x w i k : Nat) : (setF s f x w i k).bus = s.bus := wrReg_bus ..
@[simp] theorem setF_ev (f : Field) (x w i k : Nat) : (setF s f x w i k).ev = s.ev := wrReg_ev ..
@[simp] theorem setF_sbxFlight (f : Field) (x w i k : Nat) : (setF s f x w i k).sbxFlight = s.sbxFlight := wrReg_sbxFlight ..
@[simp] theorem setF_stall (f : Field) (x w i k : Nat) : (setF s f x w i k).stall = s.stall := wrReg_stall ..
@[simp] theorem setF_shed (f : Field) (x w i k : Nat) : (setF s f x w i k).shed = s.shed := wrReg_shed ..
@[simp] theorem setF_shu (f : Field) (x w i k : Nat) : (setF s f x w i k).shu = s.shu := wrReg_shu ..
@[simp] theorem setF_sid (f : Field) (x w i k : Nat) : (setF s f x w i k).sid = s.sid := wrReg_sid ..
@[simp] theorem setF_mem (f : Field) (x w i k : Nat) : (setF s f x w i k).mem = s.mem := wrReg_mem ..
@[simp] theorem setF_integ (f : Field) (x w i k : Nat) : (setF s f x w i k).integ = s.integ := wrReg_integ ..
@[simp] theorem setF_tier (f : Field) (x w i k : Nat) : (setF s f x w i k).tier = s.tier := wrReg_tier ..
@[simp] theorem setF_loft (f : Field) (x w i k : Nat) : (setF s f x w i k).loft = s.loft := wrReg_loft ..
@[simp] theorem setF_serve (f : Field) (x w i k : Nat) : (setF s f x w i k).serve = s.serve := wrReg_serve ..
@[simp] theorem setF_host (f : Field) (x w i k : Nat) : (setF s f x w i k).host = s.host := wrReg_host ..
@[simp] theorem setF_light (f : Field) (x w i k : Nat) : (setF s f x w i k).light = s.light := wrReg_light ..
@[simp] theorem setF_mon (f : Field) (x w i k : Nat) : (setF s f x w i k).mon = s.mon := wrReg_mon ..
@[simp] theorem setF_rein (f : Field) (x w i k : Nat) : (setF s f x w i k).rein = s.rein := wrReg_rein ..
@[simp] theorem setF_far (f : Field) (x w i k : Nat) : (setF s f x w i k).far = s.far := wrReg_far ..
@[simp] theorem setF_pwr (f : Field) (x w i k : Nat) : (setF s f x w i k).pwr = s.pwr := wrReg_pwr ..
@[simp] theorem setF_drove (f : Field) (x w i k : Nat) : (setF s f x w i k).drove = s.drove := wrReg_drove ..
@[simp] theorem setF_tack (f : Field) (x w i k : Nat) : (setF s f x w i k).tack = s.tack := wrReg_tack ..
@[simp] theorem setF_sys (f : Field) (x w i k : Nat) : (setF s f x w i k).sys = s.sys := wrReg_sys ..
@[simp] theorem setF_evtFilter (f : Field) (x w i k : Nat) : (setF s f x w i k).evtFilter = s.evtFilter := wrReg_evtFilter ..
@[simp] theorem getStall_setF (f : Field) (x w i k : Nat) (k2 : Nat) : getStall (setF s f x w i k) k2 = getStall s k2 := getStall_congr k2 (setF_stall ..)
@[simp] theorem getShed_setF (f : Field) (x w i k : Nat) (i2 : Nat) : getShed (setF s f x w i k) i2 = getShed s i2 := getShed_congr i2 (setF_shed ..)
@[simp] theorem getThread_setF (f : Field) (x w i k : Nat) (i2 t2 : Nat) : getThread (setF s f x w i k) i2 t2 = getThread s i2 t2 := getThread_congr i2 t2 (setF_shed ..)
@[simp] theorem getShu_setF (f : Field) (x w i k : Nat) (n2 : Nat) : getShu (setF s f x w i k) n2 = getShu s n2 := getShu_congr n2 (setF_shu ..)
@[simp] theorem getChan_setF (f : Field) (x w i k : Nat) (n2 c2 : Nat) : getChan (setF s f x w i k) n2 c2 = getChan s n2 c2 := getChan_congr n2 c2 (setF_shu ..)
@[simp] theorem getSid_setF (f : Field) (x w i k : Nat) (d2 i2 : Nat) : getSid (setF s f x w i k) d2 i2 = getSid s d2 i2 := getSid_congr d2 i2 (setF_sid ..)
@[simp] theorem getHost_setF (f : Field) (x w i k : Nat) (c2 : Nat) : getHost (setF s f x w i k) c2 = getHost s c2 := getHost_congr c2 (setF_host ..)
@[simp] theorem getPort_setF (f : Field) (x w i k : Nat) (p2 : Nat) : getPort (setF s f x w i k) p2 = getPort s p2 := getPort_congr p2 (setF_drove ..)
@[simp] theorem getFar_setF (f : Field) (x w i k : Nat) (k2 : Nat) : getFar (setF s f x w i k) k2 = getFar s k2 := getFar_congr k2 (setF_far ..)
@[simp] theorem getFarPort_setF (f : Field) (x w i k : Nat) (p2 : Nat) : getFarPort (setF s f x w i k) p2 = getFarPort s p2 := getFarPort_congr p2 (setF_far ..)
@[simp] theorem getConv_setF (f : Field) (x w i k : Nat) (m2 : Nat) : getConv (setF s f x w i k) m2 = getConv s m2 := getConv_congr m2 (setF_mon ..)
@[simp] theorem getAcc_setF (f : Field) (x w i k : Nat) (m2 a2 : Nat) : getAcc (setF s f x w i k) m2 a2 = getAcc s m2 a2 := getAcc_congr m2 a2 (setF_mon ..)
@[simp] theorem getTrim_setF (f : Field) (x w i k : Nat) (c2 : Nat) : getTrim (setF s f x w i k) c2 = getTrim s c2 := getTrim_congr c2 (setF_mon ..)
@[simp] theorem getLoop_setF (f : Field) (x w i k : Nat) (i2 : Nat) : getLoop (setF s f x w i k) i2 = getLoop s i2 := getLoop_congr i2 (setF_rein ..)
@[simp] theorem getBay_setF (f : Field) (x w i k : Nat) (y2 : Nat) : getBay (setF s f x w i k) y2 = getBay s y2 := getBay_congr y2 (setF_loft ..)
@[simp] theorem getDie_setF (f : Field) (x w i k : Nat) (d2 : Nat) : getDie (setF s f x w i k) d2 = getDie s d2 := getDie_congr d2 (setF_pwr ..)

@[simp] theorem bumpF_pending (f : Field) (n w i k : Nat) : (bumpF s f n w i k).pending = s.pending := setF_pending ..
@[simp] theorem bumpF_time (f : Field) (n w i k : Nat) : (bumpF s f n w i k).time = s.time := setF_time ..
@[simp] theorem bumpF_freeCtr (f : Field) (n w i k : Nat) : (bumpF s f n w i k).freeCtr = s.freeCtr := setF_freeCtr ..
@[simp] theorem bumpF_bus (f : Field) (n w i k : Nat) : (bumpF s f n w i k).bus = s.bus := setF_bus ..
@[simp] theorem bumpF_ev (f : Field) (n w i k : Nat) : (bumpF s f n w i k).ev = s.ev := setF_ev ..
@[simp] theorem bumpF_sbxFlight (f : Field) (n w i k : Nat) : (bumpF s f n w i k).sbxFlight = s.sbxFlight := setF_sbxFlight ..
@[simp] theorem bumpF_stall (f : Field) (n w i k : Nat) : (bumpF s f n w i k).stall = s.stall := setF_stall ..
@[simp] theorem bumpF_shed (f : Field) (n w i k : Nat) : (bumpF s f n w i k).shed = s.shed := setF_shed ..
@[simp] theorem bumpF_shu (f : Field) (n w i k : Nat) : (bumpF s f n w i k).shu = s.shu := setF_shu ..
@[simp] theorem bumpF_sid (f : Field) (n w i k : Nat) : (bumpF s f n w i k).sid = s.sid := setF_sid ..
@[simp] theorem bumpF_mem (f : Field) (n w i k : Nat) : (bumpF s f n w i k).mem = s.mem := setF_mem ..
@[simp] theorem bumpF_integ (f : Field) (n w i k : Nat) : (bumpF s f n w i k).integ = s.integ := setF_integ ..
@[simp] theorem bumpF_tier (f : Field) (n w i k : Nat) : (bumpF s f n w i k).tier = s.tier := setF_tier ..
@[simp] theorem bumpF_loft (f : Field) (n w i k : Nat) : (bumpF s f n w i k).loft = s.loft := setF_loft ..
@[simp] theorem bumpF_serve (f : Field) (n w i k : Nat) : (bumpF s f n w i k).serve = s.serve := setF_serve ..
@[simp] theorem bumpF_host (f : Field) (n w i k : Nat) : (bumpF s f n w i k).host = s.host := setF_host ..
@[simp] theorem bumpF_light (f : Field) (n w i k : Nat) : (bumpF s f n w i k).light = s.light := setF_light ..
@[simp] theorem bumpF_mon (f : Field) (n w i k : Nat) : (bumpF s f n w i k).mon = s.mon := setF_mon ..
@[simp] theorem bumpF_rein (f : Field) (n w i k : Nat) : (bumpF s f n w i k).rein = s.rein := setF_rein ..
@[simp] theorem bumpF_far (f : Field) (n w i k : Nat) : (bumpF s f n w i k).far = s.far := setF_far ..
@[simp] theorem bumpF_pwr (f : Field) (n w i k : Nat) : (bumpF s f n w i k).pwr = s.pwr := setF_pwr ..
@[simp] theorem bumpF_drove (f : Field) (n w i k : Nat) : (bumpF s f n w i k).drove = s.drove := setF_drove ..
@[simp] theorem bumpF_tack (f : Field) (n w i k : Nat) : (bumpF s f n w i k).tack = s.tack := setF_tack ..
@[simp] theorem bumpF_sys (f : Field) (n w i k : Nat) : (bumpF s f n w i k).sys = s.sys := setF_sys ..
@[simp] theorem bumpF_evtFilter (f : Field) (n w i k : Nat) : (bumpF s f n w i k).evtFilter = s.evtFilter := setF_evtFilter ..
@[simp] theorem getStall_bumpF (f : Field) (n w i k : Nat) (k2 : Nat) : getStall (bumpF s f n w i k) k2 = getStall s k2 := getStall_congr k2 (bumpF_stall ..)
@[simp] theorem getShed_bumpF (f : Field) (n w i k : Nat) (i2 : Nat) : getShed (bumpF s f n w i k) i2 = getShed s i2 := getShed_congr i2 (bumpF_shed ..)
@[simp] theorem getThread_bumpF (f : Field) (n w i k : Nat) (i2 t2 : Nat) : getThread (bumpF s f n w i k) i2 t2 = getThread s i2 t2 := getThread_congr i2 t2 (bumpF_shed ..)
@[simp] theorem getShu_bumpF (f : Field) (n w i k : Nat) (n2 : Nat) : getShu (bumpF s f n w i k) n2 = getShu s n2 := getShu_congr n2 (bumpF_shu ..)
@[simp] theorem getChan_bumpF (f : Field) (n w i k : Nat) (n2 c2 : Nat) : getChan (bumpF s f n w i k) n2 c2 = getChan s n2 c2 := getChan_congr n2 c2 (bumpF_shu ..)
@[simp] theorem getSid_bumpF (f : Field) (n w i k : Nat) (d2 i2 : Nat) : getSid (bumpF s f n w i k) d2 i2 = getSid s d2 i2 := getSid_congr d2 i2 (bumpF_sid ..)
@[simp] theorem getHost_bumpF (f : Field) (n w i k : Nat) (c2 : Nat) : getHost (bumpF s f n w i k) c2 = getHost s c2 := getHost_congr c2 (bumpF_host ..)
@[simp] theorem getPort_bumpF (f : Field) (n w i k : Nat) (p2 : Nat) : getPort (bumpF s f n w i k) p2 = getPort s p2 := getPort_congr p2 (bumpF_drove ..)
@[simp] theorem getFar_bumpF (f : Field) (n w i k : Nat) (k2 : Nat) : getFar (bumpF s f n w i k) k2 = getFar s k2 := getFar_congr k2 (bumpF_far ..)
@[simp] theorem getFarPort_bumpF (f : Field) (n w i k : Nat) (p2 : Nat) : getFarPort (bumpF s f n w i k) p2 = getFarPort s p2 := getFarPort_congr p2 (bumpF_far ..)
@[simp] theorem getConv_bumpF (f : Field) (n w i k : Nat) (m2 : Nat) : getConv (bumpF s f n w i k) m2 = getConv s m2 := getConv_congr m2 (bumpF_mon ..)
@[simp] theorem getAcc_bumpF (f : Field) (n w i k : Nat) (m2 a2 : Nat) : getAcc (bumpF s f n w i k) m2 a2 = getAcc s m2 a2 := getAcc_congr m2 a2 (bumpF_mon ..)
@[simp] theorem getTrim_bumpF (f : Field) (n w i k : Nat) (c2 : Nat) : getTrim (bumpF s f n w i k) c2 = getTrim s c2 := getTrim_congr c2 (bumpF_mon ..)
@[simp] theorem getLoop_bumpF (f : Field) (n w i k : Nat) (i2 : Nat) : getLoop (bumpF s f n w i k) i2 = getLoop s i2 := getLoop_congr i2 (bumpF_rein ..)
@[simp] theorem getBay_bumpF (f : Field) (n w i k : Nat) (y2 : Nat) : getBay (bumpF s f n w i k) y2 = getBay s y2 := getBay_congr y2 (bumpF_loft ..)
@[simp] theorem getDie_bumpF (f : Field) (n w i k : Nat) (d2 : Nat) : getDie (bumpF s f n w i k) d2 = getDie s d2 := getDie_congr d2 (bumpF_pwr ..)

@[simp] theorem addF_pending (f : Field) (n w i k : Nat) : (addF s f n w i k).pending = s.pending := setF_pending ..
@[simp] theorem addF_time (f : Field) (n w i k : Nat) : (addF s f n w i k).time = s.time := setF_time ..
@[simp] theorem addF_freeCtr (f : Field) (n w i k : Nat) : (addF s f n w i k).freeCtr = s.freeCtr := setF_freeCtr ..
@[simp] theorem addF_bus (f : Field) (n w i k : Nat) : (addF s f n w i k).bus = s.bus := setF_bus ..
@[simp] theorem addF_ev (f : Field) (n w i k : Nat) : (addF s f n w i k).ev = s.ev := setF_ev ..
@[simp] theorem addF_sbxFlight (f : Field) (n w i k : Nat) : (addF s f n w i k).sbxFlight = s.sbxFlight := setF_sbxFlight ..
@[simp] theorem addF_stall (f : Field) (n w i k : Nat) : (addF s f n w i k).stall = s.stall := setF_stall ..
@[simp] theorem addF_shed (f : Field) (n w i k : Nat) : (addF s f n w i k).shed = s.shed := setF_shed ..
@[simp] theorem addF_shu (f : Field) (n w i k : Nat) : (addF s f n w i k).shu = s.shu := setF_shu ..
@[simp] theorem addF_sid (f : Field) (n w i k : Nat) : (addF s f n w i k).sid = s.sid := setF_sid ..
@[simp] theorem addF_mem (f : Field) (n w i k : Nat) : (addF s f n w i k).mem = s.mem := setF_mem ..
@[simp] theorem addF_integ (f : Field) (n w i k : Nat) : (addF s f n w i k).integ = s.integ := setF_integ ..
@[simp] theorem addF_tier (f : Field) (n w i k : Nat) : (addF s f n w i k).tier = s.tier := setF_tier ..
@[simp] theorem addF_loft (f : Field) (n w i k : Nat) : (addF s f n w i k).loft = s.loft := setF_loft ..
@[simp] theorem addF_serve (f : Field) (n w i k : Nat) : (addF s f n w i k).serve = s.serve := setF_serve ..
@[simp] theorem addF_host (f : Field) (n w i k : Nat) : (addF s f n w i k).host = s.host := setF_host ..
@[simp] theorem addF_light (f : Field) (n w i k : Nat) : (addF s f n w i k).light = s.light := setF_light ..
@[simp] theorem addF_mon (f : Field) (n w i k : Nat) : (addF s f n w i k).mon = s.mon := setF_mon ..
@[simp] theorem addF_rein (f : Field) (n w i k : Nat) : (addF s f n w i k).rein = s.rein := setF_rein ..
@[simp] theorem addF_far (f : Field) (n w i k : Nat) : (addF s f n w i k).far = s.far := setF_far ..
@[simp] theorem addF_pwr (f : Field) (n w i k : Nat) : (addF s f n w i k).pwr = s.pwr := setF_pwr ..
@[simp] theorem addF_drove (f : Field) (n w i k : Nat) : (addF s f n w i k).drove = s.drove := setF_drove ..
@[simp] theorem addF_tack (f : Field) (n w i k : Nat) : (addF s f n w i k).tack = s.tack := setF_tack ..
@[simp] theorem addF_sys (f : Field) (n w i k : Nat) : (addF s f n w i k).sys = s.sys := setF_sys ..
@[simp] theorem addF_evtFilter (f : Field) (n w i k : Nat) : (addF s f n w i k).evtFilter = s.evtFilter := setF_evtFilter ..
@[simp] theorem getStall_addF (f : Field) (n w i k : Nat) (k2 : Nat) : getStall (addF s f n w i k) k2 = getStall s k2 := getStall_congr k2 (addF_stall ..)
@[simp] theorem getShed_addF (f : Field) (n w i k : Nat) (i2 : Nat) : getShed (addF s f n w i k) i2 = getShed s i2 := getShed_congr i2 (addF_shed ..)
@[simp] theorem getThread_addF (f : Field) (n w i k : Nat) (i2 t2 : Nat) : getThread (addF s f n w i k) i2 t2 = getThread s i2 t2 := getThread_congr i2 t2 (addF_shed ..)
@[simp] theorem getShu_addF (f : Field) (n w i k : Nat) (n2 : Nat) : getShu (addF s f n w i k) n2 = getShu s n2 := getShu_congr n2 (addF_shu ..)
@[simp] theorem getChan_addF (f : Field) (n w i k : Nat) (n2 c2 : Nat) : getChan (addF s f n w i k) n2 c2 = getChan s n2 c2 := getChan_congr n2 c2 (addF_shu ..)
@[simp] theorem getSid_addF (f : Field) (n w i k : Nat) (d2 i2 : Nat) : getSid (addF s f n w i k) d2 i2 = getSid s d2 i2 := getSid_congr d2 i2 (addF_sid ..)
@[simp] theorem getHost_addF (f : Field) (n w i k : Nat) (c2 : Nat) : getHost (addF s f n w i k) c2 = getHost s c2 := getHost_congr c2 (addF_host ..)
@[simp] theorem getPort_addF (f : Field) (n w i k : Nat) (p2 : Nat) : getPort (addF s f n w i k) p2 = getPort s p2 := getPort_congr p2 (addF_drove ..)
@[simp] theorem getFar_addF (f : Field) (n w i k : Nat) (k2 : Nat) : getFar (addF s f n w i k) k2 = getFar s k2 := getFar_congr k2 (addF_far ..)
@[simp] theorem getFarPort_addF (f : Field) (n w i k : Nat) (p2 : Nat) : getFarPort (addF s f n w i k) p2 = getFarPort s p2 := getFarPort_congr p2 (addF_far ..)
@[simp] theorem getConv_addF (f : Field) (n w i k : Nat) (m2 : Nat) : getConv (addF s f n w i k) m2 = getConv s m2 := getConv_congr m2 (addF_mon ..)
@[simp] theorem getAcc_addF (f : Field) (n w i k : Nat) (m2 a2 : Nat) : getAcc (addF s f n w i k) m2 a2 = getAcc s m2 a2 := getAcc_congr m2 a2 (addF_mon ..)
@[simp] theorem getTrim_addF (f : Field) (n w i k : Nat) (c2 : Nat) : getTrim (addF s f n w i k) c2 = getTrim s c2 := getTrim_congr c2 (addF_mon ..)
@[simp] theorem getLoop_addF (f : Field) (n w i k : Nat) (i2 : Nat) : getLoop (addF s f n w i k) i2 = getLoop s i2 := getLoop_congr i2 (addF_rein ..)
@[simp] theorem getBay_addF (f : Field) (n w i k : Nat) (y2 : Nat) : getBay (addF s f n w i k) y2 = getBay s y2 := getBay_congr y2 (addF_loft ..)
@[simp] theorem getDie_addF (f : Field) (n w i k : Nat) (d2 : Nat) : getDie (addF s f n w i k) d2 = getDie s d2 := getDie_congr d2 (addF_pwr ..)

@[simp] theorem raiseEv_pending (code unit addr detail : Nat) (n : Bool) : (raiseEv s code unit addr detail n).pending = s.pending := State.pending_mk ..
@[simp] theorem raiseEv_time (code unit addr detail : Nat) (n : Bool) : (raiseEv s code unit addr detail n).time = s.time := State.time_mk ..
@[simp] theorem raiseEv_freeCtr (code unit addr detail : Nat) (n : Bool) : (raiseEv s code unit addr detail n).freeCtr = s.freeCtr := State.freeCtr_mk ..
@[simp] theorem raiseEv_regs (code unit addr detail : Nat) (n : Bool) : (raiseEv s code unit addr detail n).regs = s.regs := State.regs_mk ..
@[simp] theorem raiseEv_bus (code unit addr detail : Nat) (n : Bool) : (raiseEv s code unit addr detail n).bus = s.bus := State.bus_mk ..
@[simp] theorem raiseEv_sbxFlight (code unit addr detail : Nat) (n : Bool) : (raiseEv s code unit addr detail n).sbxFlight = s.sbxFlight := State.sbxFlight_mk ..
@[simp] theorem raiseEv_stall (code unit addr detail : Nat) (n : Bool) : (raiseEv s code unit addr detail n).stall = s.stall := State.stall_mk ..
@[simp] theorem raiseEv_shed (code unit addr detail : Nat) (n : Bool) : (raiseEv s code unit addr detail n).shed = s.shed := State.shed_mk ..
@[simp] theorem raiseEv_shu (code unit addr detail : Nat) (n : Bool) : (raiseEv s code unit addr detail n).shu = s.shu := State.shu_mk ..
@[simp] theorem raiseEv_sid (code unit addr detail : Nat) (n : Bool) : (raiseEv s code unit addr detail n).sid = s.sid := State.sid_mk ..
@[simp] theorem raiseEv_mem (code unit addr detail : Nat) (n : Bool) : (raiseEv s code unit addr detail n).mem = s.mem := State.mem_mk ..
@[simp] theorem raiseEv_integ (code unit addr detail : Nat) (n : Bool) : (raiseEv s code unit addr detail n).integ = s.integ := State.integ_mk ..
@[simp] theorem raiseEv_tier (code unit addr detail : Nat) (n : Bool) : (raiseEv s code unit addr detail n).tier = s.tier := State.tier_mk ..
@[simp] theorem raiseEv_loft (code unit addr detail : Nat) (n : Bool) : (raiseEv s code unit addr detail n).loft = s.loft := State.loft_mk ..
@[simp] theorem raiseEv_serve (code unit addr detail : Nat) (n : Bool) : (raiseEv s code unit addr detail n).serve = s.serve := State.serve_mk ..
@[simp] theorem raiseEv_host (code unit addr detail : Nat) (n : Bool) : (raiseEv s code unit addr detail n).host = s.host := State.host_mk ..
@[simp] theorem raiseEv_light (code unit addr detail : Nat) (n : Bool) : (raiseEv s code unit addr detail n).light = s.light := State.light_mk ..
@[simp] theorem raiseEv_mon (code unit addr detail : Nat) (n : Bool) : (raiseEv s code unit addr detail n).mon = s.mon := State.mon_mk ..
@[simp] theorem raiseEv_rein (code unit addr detail : Nat) (n : Bool) : (raiseEv s code unit addr detail n).rein = s.rein := State.rein_mk ..
@[simp] theorem raiseEv_far (code unit addr detail : Nat) (n : Bool) : (raiseEv s code unit addr detail n).far = s.far := State.far_mk ..
@[simp] theorem raiseEv_pwr (code unit addr detail : Nat) (n : Bool) : (raiseEv s code unit addr detail n).pwr = s.pwr := State.pwr_mk ..
@[simp] theorem raiseEv_drove (code unit addr detail : Nat) (n : Bool) : (raiseEv s code unit addr detail n).drove = s.drove := State.drove_mk ..
@[simp] theorem raiseEv_tack (code unit addr detail : Nat) (n : Bool) : (raiseEv s code unit addr detail n).tack = s.tack := State.tack_mk ..
@[simp] theorem raiseEv_sys (code unit addr detail : Nat) (n : Bool) : (raiseEv s code unit addr detail n).sys = s.sys := State.sys_mk ..
@[simp] theorem raiseEv_evtFilter (code unit addr detail : Nat) (n : Bool) : (raiseEv s code unit addr detail n).evtFilter = s.evtFilter := State.evtFilter_mk ..
@[simp] theorem rdReg_raiseEv (code unit addr detail : Nat) (n : Bool) (b : Nat) : rdReg (raiseEv s code unit addr detail n) b = rdReg s b := rdReg_congr b (raiseEv_regs ..)
@[simp] theorem getF_raiseEv (code unit addr detail : Nat) (n : Bool) (g : Field) (w2 i2 k2 : Nat) : getF (raiseEv s code unit addr detail n) g w2 i2 k2 = getF s g w2 i2 k2 := getF_congr g w2 i2 k2 (raiseEv_regs ..)
@[simp] theorem getStall_raiseEv (code unit addr detail : Nat) (n : Bool) (k2 : Nat) : getStall (raiseEv s code unit addr detail n) k2 = getStall s k2 := getStall_congr k2 (raiseEv_stall ..)
@[simp] theorem getShed_raiseEv (code unit addr detail : Nat) (n : Bool) (i2 : Nat) : getShed (raiseEv s code unit addr detail n) i2 = getShed s i2 := getShed_congr i2 (raiseEv_shed ..)
@[simp] theorem getThread_raiseEv (code unit addr detail : Nat) (n : Bool) (i2 t2 : Nat) : getThread (raiseEv s code unit addr detail n) i2 t2 = getThread s i2 t2 := getThread_congr i2 t2 (raiseEv_shed ..)
@[simp] theorem getShu_raiseEv (code unit addr detail : Nat) (n : Bool) (n2 : Nat) : getShu (raiseEv s code unit addr detail n) n2 = getShu s n2 := getShu_congr n2 (raiseEv_shu ..)
@[simp] theorem getChan_raiseEv (code unit addr detail : Nat) (n : Bool) (n2 c2 : Nat) : getChan (raiseEv s code unit addr detail n) n2 c2 = getChan s n2 c2 := getChan_congr n2 c2 (raiseEv_shu ..)
@[simp] theorem getSid_raiseEv (code unit addr detail : Nat) (n : Bool) (d2 i2 : Nat) : getSid (raiseEv s code unit addr detail n) d2 i2 = getSid s d2 i2 := getSid_congr d2 i2 (raiseEv_sid ..)
@[simp] theorem getHost_raiseEv (code unit addr detail : Nat) (n : Bool) (c2 : Nat) : getHost (raiseEv s code unit addr detail n) c2 = getHost s c2 := getHost_congr c2 (raiseEv_host ..)
@[simp] theorem getPort_raiseEv (code unit addr detail : Nat) (n : Bool) (p2 : Nat) : getPort (raiseEv s code unit addr detail n) p2 = getPort s p2 := getPort_congr p2 (raiseEv_drove ..)
@[simp] theorem getFar_raiseEv (code unit addr detail : Nat) (n : Bool) (k2 : Nat) : getFar (raiseEv s code unit addr detail n) k2 = getFar s k2 := getFar_congr k2 (raiseEv_far ..)
@[simp] theorem getFarPort_raiseEv (code unit addr detail : Nat) (n : Bool) (p2 : Nat) : getFarPort (raiseEv s code unit addr detail n) p2 = getFarPort s p2 := getFarPort_congr p2 (raiseEv_far ..)
@[simp] theorem getConv_raiseEv (code unit addr detail : Nat) (n : Bool) (m2 : Nat) : getConv (raiseEv s code unit addr detail n) m2 = getConv s m2 := getConv_congr m2 (raiseEv_mon ..)
@[simp] theorem getAcc_raiseEv (code unit addr detail : Nat) (n : Bool) (m2 a2 : Nat) : getAcc (raiseEv s code unit addr detail n) m2 a2 = getAcc s m2 a2 := getAcc_congr m2 a2 (raiseEv_mon ..)
@[simp] theorem getTrim_raiseEv (code unit addr detail : Nat) (n : Bool) (c2 : Nat) : getTrim (raiseEv s code unit addr detail n) c2 = getTrim s c2 := getTrim_congr c2 (raiseEv_mon ..)
@[simp] theorem getLoop_raiseEv (code unit addr detail : Nat) (n : Bool) (i2 : Nat) : getLoop (raiseEv s code unit addr detail n) i2 = getLoop s i2 := getLoop_congr i2 (raiseEv_rein ..)
@[simp] theorem getBay_raiseEv (code unit addr detail : Nat) (n : Bool) (y2 : Nat) : getBay (raiseEv s code unit addr detail n) y2 = getBay s y2 := getBay_congr y2 (raiseEv_loft ..)
@[simp] theorem getDie_raiseEv (code unit addr detail : Nat) (n : Bool) (d2 : Nat) : getDie (raiseEv s code unit addr detail n) d2 = getDie s d2 := getDie_congr d2 (raiseEv_pwr ..)

@[simp] theorem drawn_pending : (drawn s).pending = s.pending := State.pending_mk ..
@[simp] theorem drawn_time : (drawn s).time = s.time := State.time_mk ..
@[simp] theorem drawn_regs : (drawn s).regs = s.regs := State.regs_mk ..
@[simp] theorem drawn_bus : (drawn s).bus = s.bus := State.bus_mk ..
@[simp] theorem drawn_ev : (drawn s).ev = s.ev := State.ev_mk ..
@[simp] theorem drawn_sbxFlight : (drawn s).sbxFlight = s.sbxFlight := State.sbxFlight_mk ..
@[simp] theorem drawn_stall : (drawn s).stall = s.stall := State.stall_mk ..
@[simp] theorem drawn_shed : (drawn s).shed = s.shed := State.shed_mk ..
@[simp] theorem drawn_shu : (drawn s).shu = s.shu := State.shu_mk ..
@[simp] theorem drawn_sid : (drawn s).sid = s.sid := State.sid_mk ..
@[simp] theorem drawn_mem : (drawn s).mem = s.mem := State.mem_mk ..
@[simp] theorem drawn_integ : (drawn s).integ = s.integ := State.integ_mk ..
@[simp] theorem drawn_tier : (drawn s).tier = s.tier := State.tier_mk ..
@[simp] theorem drawn_loft : (drawn s).loft = s.loft := State.loft_mk ..
@[simp] theorem drawn_serve : (drawn s).serve = s.serve := State.serve_mk ..
@[simp] theorem drawn_host : (drawn s).host = s.host := State.host_mk ..
@[simp] theorem drawn_light : (drawn s).light = s.light := State.light_mk ..
@[simp] theorem drawn_mon : (drawn s).mon = s.mon := State.mon_mk ..
@[simp] theorem drawn_rein : (drawn s).rein = s.rein := State.rein_mk ..
@[simp] theorem drawn_far : (drawn s).far = s.far := State.far_mk ..
@[simp] theorem drawn_pwr : (drawn s).pwr = s.pwr := State.pwr_mk ..
@[simp] theorem drawn_drove : (drawn s).drove = s.drove := State.drove_mk ..
@[simp] theorem drawn_tack : (drawn s).tack = s.tack := State.tack_mk ..
@[simp] theorem drawn_sys : (drawn s).sys = s.sys := State.sys_mk ..
@[simp] theorem drawn_evtFilter : (drawn s).evtFilter = s.evtFilter := State.evtFilter_mk ..
@[simp] theorem rdReg_drawn (b : Nat) : rdReg (drawn s) b = rdReg s b := rdReg_congr b (drawn_regs ..)
@[simp] theorem getF_drawn (g : Field) (w2 i2 k2 : Nat) : getF (drawn s) g w2 i2 k2 = getF s g w2 i2 k2 := getF_congr g w2 i2 k2 (drawn_regs ..)
@[simp] theorem getStall_drawn (k2 : Nat) : getStall (drawn s) k2 = getStall s k2 := getStall_congr k2 (drawn_stall ..)
@[simp] theorem getShed_drawn (i2 : Nat) : getShed (drawn s) i2 = getShed s i2 := getShed_congr i2 (drawn_shed ..)
@[simp] theorem getThread_drawn (i2 t2 : Nat) : getThread (drawn s) i2 t2 = getThread s i2 t2 := getThread_congr i2 t2 (drawn_shed ..)
@[simp] theorem getShu_drawn (n2 : Nat) : getShu (drawn s) n2 = getShu s n2 := getShu_congr n2 (drawn_shu ..)
@[simp] theorem getChan_drawn (n2 c2 : Nat) : getChan (drawn s) n2 c2 = getChan s n2 c2 := getChan_congr n2 c2 (drawn_shu ..)
@[simp] theorem getSid_drawn (d2 i2 : Nat) : getSid (drawn s) d2 i2 = getSid s d2 i2 := getSid_congr d2 i2 (drawn_sid ..)
@[simp] theorem getHost_drawn (c2 : Nat) : getHost (drawn s) c2 = getHost s c2 := getHost_congr c2 (drawn_host ..)
@[simp] theorem getPort_drawn (p2 : Nat) : getPort (drawn s) p2 = getPort s p2 := getPort_congr p2 (drawn_drove ..)
@[simp] theorem getFar_drawn (k2 : Nat) : getFar (drawn s) k2 = getFar s k2 := getFar_congr k2 (drawn_far ..)
@[simp] theorem getFarPort_drawn (p2 : Nat) : getFarPort (drawn s) p2 = getFarPort s p2 := getFarPort_congr p2 (drawn_far ..)
@[simp] theorem getConv_drawn (m2 : Nat) : getConv (drawn s) m2 = getConv s m2 := getConv_congr m2 (drawn_mon ..)
@[simp] theorem getAcc_drawn (m2 a2 : Nat) : getAcc (drawn s) m2 a2 = getAcc s m2 a2 := getAcc_congr m2 a2 (drawn_mon ..)
@[simp] theorem getTrim_drawn (c2 : Nat) : getTrim (drawn s) c2 = getTrim s c2 := getTrim_congr c2 (drawn_mon ..)
@[simp] theorem getLoop_drawn (i2 : Nat) : getLoop (drawn s) i2 = getLoop s i2 := getLoop_congr i2 (drawn_rein ..)
@[simp] theorem getBay_drawn (y2 : Nat) : getBay (drawn s) y2 = getBay s y2 := getBay_congr y2 (drawn_loft ..)
@[simp] theorem getDie_drawn (d2 : Nat) : getDie (drawn s) d2 = getDie s d2 := getDie_congr d2 (drawn_pwr ..)

@[simp] theorem sendSbx_pending (d b n : Nat) : (sendSbx s d b n).pending = s.pending := State.pending_mk ..
@[simp] theorem sendSbx_time (d b n : Nat) : (sendSbx s d b n).time = s.time := State.time_mk ..
@[simp] theorem sendSbx_freeCtr (d b n : Nat) : (sendSbx s d b n).freeCtr = s.freeCtr := State.freeCtr_mk ..
@[simp] theorem sendSbx_regs (d b n : Nat) : (sendSbx s d b n).regs = s.regs := State.regs_mk ..
@[simp] theorem sendSbx_bus (d b n : Nat) : (sendSbx s d b n).bus = s.bus := State.bus_mk ..
@[simp] theorem sendSbx_ev (d b n : Nat) : (sendSbx s d b n).ev = s.ev := State.ev_mk ..
@[simp] theorem sendSbx_stall (d b n : Nat) : (sendSbx s d b n).stall = s.stall := State.stall_mk ..
@[simp] theorem sendSbx_shed (d b n : Nat) : (sendSbx s d b n).shed = s.shed := State.shed_mk ..
@[simp] theorem sendSbx_shu (d b n : Nat) : (sendSbx s d b n).shu = s.shu := State.shu_mk ..
@[simp] theorem sendSbx_sid (d b n : Nat) : (sendSbx s d b n).sid = s.sid := State.sid_mk ..
@[simp] theorem sendSbx_mem (d b n : Nat) : (sendSbx s d b n).mem = s.mem := State.mem_mk ..
@[simp] theorem sendSbx_integ (d b n : Nat) : (sendSbx s d b n).integ = s.integ := State.integ_mk ..
@[simp] theorem sendSbx_tier (d b n : Nat) : (sendSbx s d b n).tier = s.tier := State.tier_mk ..
@[simp] theorem sendSbx_loft (d b n : Nat) : (sendSbx s d b n).loft = s.loft := State.loft_mk ..
@[simp] theorem sendSbx_serve (d b n : Nat) : (sendSbx s d b n).serve = s.serve := State.serve_mk ..
@[simp] theorem sendSbx_host (d b n : Nat) : (sendSbx s d b n).host = s.host := State.host_mk ..
@[simp] theorem sendSbx_light (d b n : Nat) : (sendSbx s d b n).light = s.light := State.light_mk ..
@[simp] theorem sendSbx_mon (d b n : Nat) : (sendSbx s d b n).mon = s.mon := State.mon_mk ..
@[simp] theorem sendSbx_rein (d b n : Nat) : (sendSbx s d b n).rein = s.rein := State.rein_mk ..
@[simp] theorem sendSbx_far (d b n : Nat) : (sendSbx s d b n).far = s.far := State.far_mk ..
@[simp] theorem sendSbx_pwr (d b n : Nat) : (sendSbx s d b n).pwr = s.pwr := State.pwr_mk ..
@[simp] theorem sendSbx_drove (d b n : Nat) : (sendSbx s d b n).drove = s.drove := State.drove_mk ..
@[simp] theorem sendSbx_tack (d b n : Nat) : (sendSbx s d b n).tack = s.tack := State.tack_mk ..
@[simp] theorem sendSbx_sys (d b n : Nat) : (sendSbx s d b n).sys = s.sys := State.sys_mk ..
@[simp] theorem sendSbx_evtFilter (d b n : Nat) : (sendSbx s d b n).evtFilter = s.evtFilter := State.evtFilter_mk ..
@[simp] theorem rdReg_sendSbx (d b n : Nat) (b : Nat) : rdReg (sendSbx s d b n) b = rdReg s b := rdReg_congr b (sendSbx_regs ..)
@[simp] theorem getF_sendSbx (d b n : Nat) (g : Field) (w2 i2 k2 : Nat) : getF (sendSbx s d b n) g w2 i2 k2 = getF s g w2 i2 k2 := getF_congr g w2 i2 k2 (sendSbx_regs ..)
@[simp] theorem getStall_sendSbx (d b n : Nat) (k2 : Nat) : getStall (sendSbx s d b n) k2 = getStall s k2 := getStall_congr k2 (sendSbx_stall ..)
@[simp] theorem getShed_sendSbx (d b n : Nat) (i2 : Nat) : getShed (sendSbx s d b n) i2 = getShed s i2 := getShed_congr i2 (sendSbx_shed ..)
@[simp] theorem getThread_sendSbx (d b n : Nat) (i2 t2 : Nat) : getThread (sendSbx s d b n) i2 t2 = getThread s i2 t2 := getThread_congr i2 t2 (sendSbx_shed ..)
@[simp] theorem getShu_sendSbx (d b n : Nat) (n2 : Nat) : getShu (sendSbx s d b n) n2 = getShu s n2 := getShu_congr n2 (sendSbx_shu ..)
@[simp] theorem getChan_sendSbx (d b n : Nat) (n2 c2 : Nat) : getChan (sendSbx s d b n) n2 c2 = getChan s n2 c2 := getChan_congr n2 c2 (sendSbx_shu ..)
@[simp] theorem getSid_sendSbx (d b n : Nat) (d2 i2 : Nat) : getSid (sendSbx s d b n) d2 i2 = getSid s d2 i2 := getSid_congr d2 i2 (sendSbx_sid ..)
@[simp] theorem getHost_sendSbx (d b n : Nat) (c2 : Nat) : getHost (sendSbx s d b n) c2 = getHost s c2 := getHost_congr c2 (sendSbx_host ..)
@[simp] theorem getPort_sendSbx (d b n : Nat) (p2 : Nat) : getPort (sendSbx s d b n) p2 = getPort s p2 := getPort_congr p2 (sendSbx_drove ..)
@[simp] theorem getFar_sendSbx (d b n : Nat) (k2 : Nat) : getFar (sendSbx s d b n) k2 = getFar s k2 := getFar_congr k2 (sendSbx_far ..)
@[simp] theorem getFarPort_sendSbx (d b n : Nat) (p2 : Nat) : getFarPort (sendSbx s d b n) p2 = getFarPort s p2 := getFarPort_congr p2 (sendSbx_far ..)
@[simp] theorem getConv_sendSbx (d b n : Nat) (m2 : Nat) : getConv (sendSbx s d b n) m2 = getConv s m2 := getConv_congr m2 (sendSbx_mon ..)
@[simp] theorem getAcc_sendSbx (d b n : Nat) (m2 a2 : Nat) : getAcc (sendSbx s d b n) m2 a2 = getAcc s m2 a2 := getAcc_congr m2 a2 (sendSbx_mon ..)
@[simp] theorem getTrim_sendSbx (d b n : Nat) (c2 : Nat) : getTrim (sendSbx s d b n) c2 = getTrim s c2 := getTrim_congr c2 (sendSbx_mon ..)
@[simp] theorem getLoop_sendSbx (d b n : Nat) (i2 : Nat) : getLoop (sendSbx s d b n) i2 = getLoop s i2 := getLoop_congr i2 (sendSbx_rein ..)
@[simp] theorem getBay_sendSbx (d b n : Nat) (y2 : Nat) : getBay (sendSbx s d b n) y2 = getBay s y2 := getBay_congr y2 (sendSbx_loft ..)
@[simp] theorem getDie_sendSbx (d b n : Nat) (d2 : Nat) : getDie (sendSbx s d b n) d2 = getDie s d2 := getDie_congr d2 (sendSbx_pwr ..)

@[simp] theorem setReply_pending (r : Reply) : (setReply s r).pending = s.pending := State.pending_mk ..
@[simp] theorem setReply_time (r : Reply) : (setReply s r).time = s.time := State.time_mk ..
@[simp] theorem setReply_freeCtr (r : Reply) : (setReply s r).freeCtr = s.freeCtr := State.freeCtr_mk ..
@[simp] theorem setReply_regs (r : Reply) : (setReply s r).regs = s.regs := State.regs_mk ..
@[simp] theorem setReply_ev (r : Reply) : (setReply s r).ev = s.ev := State.ev_mk ..
@[simp] theorem setReply_sbxFlight (r : Reply) : (setReply s r).sbxFlight = s.sbxFlight := State.sbxFlight_mk ..
@[simp] theorem setReply_stall (r : Reply) : (setReply s r).stall = s.stall := State.stall_mk ..
@[simp] theorem setReply_shed (r : Reply) : (setReply s r).shed = s.shed := State.shed_mk ..
@[simp] theorem setReply_shu (r : Reply) : (setReply s r).shu = s.shu := State.shu_mk ..
@[simp] theorem setReply_sid (r : Reply) : (setReply s r).sid = s.sid := State.sid_mk ..
@[simp] theorem setReply_mem (r : Reply) : (setReply s r).mem = s.mem := State.mem_mk ..
@[simp] theorem setReply_integ (r : Reply) : (setReply s r).integ = s.integ := State.integ_mk ..
@[simp] theorem setReply_tier (r : Reply) : (setReply s r).tier = s.tier := State.tier_mk ..
@[simp] theorem setReply_loft (r : Reply) : (setReply s r).loft = s.loft := State.loft_mk ..
@[simp] theorem setReply_serve (r : Reply) : (setReply s r).serve = s.serve := State.serve_mk ..
@[simp] theorem setReply_host (r : Reply) : (setReply s r).host = s.host := State.host_mk ..
@[simp] theorem setReply_light (r : Reply) : (setReply s r).light = s.light := State.light_mk ..
@[simp] theorem setReply_mon (r : Reply) : (setReply s r).mon = s.mon := State.mon_mk ..
@[simp] theorem setReply_rein (r : Reply) : (setReply s r).rein = s.rein := State.rein_mk ..
@[simp] theorem setReply_far (r : Reply) : (setReply s r).far = s.far := State.far_mk ..
@[simp] theorem setReply_pwr (r : Reply) : (setReply s r).pwr = s.pwr := State.pwr_mk ..
@[simp] theorem setReply_drove (r : Reply) : (setReply s r).drove = s.drove := State.drove_mk ..
@[simp] theorem setReply_tack (r : Reply) : (setReply s r).tack = s.tack := State.tack_mk ..
@[simp] theorem setReply_sys (r : Reply) : (setReply s r).sys = s.sys := State.sys_mk ..
@[simp] theorem setReply_evtFilter (r : Reply) : (setReply s r).evtFilter = s.evtFilter := State.evtFilter_mk ..
@[simp] theorem rdReg_setReply (r : Reply) (b : Nat) : rdReg (setReply s r) b = rdReg s b := rdReg_congr b (setReply_regs ..)
@[simp] theorem getF_setReply (r : Reply) (g : Field) (w2 i2 k2 : Nat) : getF (setReply s r) g w2 i2 k2 = getF s g w2 i2 k2 := getF_congr g w2 i2 k2 (setReply_regs ..)
@[simp] theorem getStall_setReply (r : Reply) (k2 : Nat) : getStall (setReply s r) k2 = getStall s k2 := getStall_congr k2 (setReply_stall ..)
@[simp] theorem getShed_setReply (r : Reply) (i2 : Nat) : getShed (setReply s r) i2 = getShed s i2 := getShed_congr i2 (setReply_shed ..)
@[simp] theorem getThread_setReply (r : Reply) (i2 t2 : Nat) : getThread (setReply s r) i2 t2 = getThread s i2 t2 := getThread_congr i2 t2 (setReply_shed ..)
@[simp] theorem getShu_setReply (r : Reply) (n2 : Nat) : getShu (setReply s r) n2 = getShu s n2 := getShu_congr n2 (setReply_shu ..)
@[simp] theorem getChan_setReply (r : Reply) (n2 c2 : Nat) : getChan (setReply s r) n2 c2 = getChan s n2 c2 := getChan_congr n2 c2 (setReply_shu ..)
@[simp] theorem getSid_setReply (r : Reply) (d2 i2 : Nat) : getSid (setReply s r) d2 i2 = getSid s d2 i2 := getSid_congr d2 i2 (setReply_sid ..)
@[simp] theorem getHost_setReply (r : Reply) (c2 : Nat) : getHost (setReply s r) c2 = getHost s c2 := getHost_congr c2 (setReply_host ..)
@[simp] theorem getPort_setReply (r : Reply) (p2 : Nat) : getPort (setReply s r) p2 = getPort s p2 := getPort_congr p2 (setReply_drove ..)
@[simp] theorem getFar_setReply (r : Reply) (k2 : Nat) : getFar (setReply s r) k2 = getFar s k2 := getFar_congr k2 (setReply_far ..)
@[simp] theorem getFarPort_setReply (r : Reply) (p2 : Nat) : getFarPort (setReply s r) p2 = getFarPort s p2 := getFarPort_congr p2 (setReply_far ..)
@[simp] theorem getConv_setReply (r : Reply) (m2 : Nat) : getConv (setReply s r) m2 = getConv s m2 := getConv_congr m2 (setReply_mon ..)
@[simp] theorem getAcc_setReply (r : Reply) (m2 a2 : Nat) : getAcc (setReply s r) m2 a2 = getAcc s m2 a2 := getAcc_congr m2 a2 (setReply_mon ..)
@[simp] theorem getTrim_setReply (r : Reply) (c2 : Nat) : getTrim (setReply s r) c2 = getTrim s c2 := getTrim_congr c2 (setReply_mon ..)
@[simp] theorem getLoop_setReply (r : Reply) (i2 : Nat) : getLoop (setReply s r) i2 = getLoop s i2 := getLoop_congr i2 (setReply_rein ..)
@[simp] theorem getBay_setReply (r : Reply) (y2 : Nat) : getBay (setReply s r) y2 = getBay s y2 := getBay_congr y2 (setReply_loft ..)
@[simp] theorem getDie_setReply (r : Reply) (d2 : Nat) : getDie (setReply s r) d2 = getDie s d2 := getDie_congr d2 (setReply_pwr ..)

@[simp] theorem busForget_pending (req : Requester) (addr : Nat) : (busForget s req addr).pending = s.pending := State.pending_mk ..
@[simp] theorem busForget_time (req : Requester) (addr : Nat) : (busForget s req addr).time = s.time := State.time_mk ..
@[simp] theorem busForget_freeCtr (req : Requester) (addr : Nat) : (busForget s req addr).freeCtr = s.freeCtr := State.freeCtr_mk ..
@[simp] theorem busForget_regs (req : Requester) (addr : Nat) : (busForget s req addr).regs = s.regs := State.regs_mk ..
@[simp] theorem busForget_ev (req : Requester) (addr : Nat) : (busForget s req addr).ev = s.ev := State.ev_mk ..
@[simp] theorem busForget_sbxFlight (req : Requester) (addr : Nat) : (busForget s req addr).sbxFlight = s.sbxFlight := State.sbxFlight_mk ..
@[simp] theorem busForget_stall (req : Requester) (addr : Nat) : (busForget s req addr).stall = s.stall := State.stall_mk ..
@[simp] theorem busForget_shed (req : Requester) (addr : Nat) : (busForget s req addr).shed = s.shed := State.shed_mk ..
@[simp] theorem busForget_shu (req : Requester) (addr : Nat) : (busForget s req addr).shu = s.shu := State.shu_mk ..
@[simp] theorem busForget_sid (req : Requester) (addr : Nat) : (busForget s req addr).sid = s.sid := State.sid_mk ..
@[simp] theorem busForget_mem (req : Requester) (addr : Nat) : (busForget s req addr).mem = s.mem := State.mem_mk ..
@[simp] theorem busForget_integ (req : Requester) (addr : Nat) : (busForget s req addr).integ = s.integ := State.integ_mk ..
@[simp] theorem busForget_tier (req : Requester) (addr : Nat) : (busForget s req addr).tier = s.tier := State.tier_mk ..
@[simp] theorem busForget_loft (req : Requester) (addr : Nat) : (busForget s req addr).loft = s.loft := State.loft_mk ..
@[simp] theorem busForget_serve (req : Requester) (addr : Nat) : (busForget s req addr).serve = s.serve := State.serve_mk ..
@[simp] theorem busForget_host (req : Requester) (addr : Nat) : (busForget s req addr).host = s.host := State.host_mk ..
@[simp] theorem busForget_light (req : Requester) (addr : Nat) : (busForget s req addr).light = s.light := State.light_mk ..
@[simp] theorem busForget_mon (req : Requester) (addr : Nat) : (busForget s req addr).mon = s.mon := State.mon_mk ..
@[simp] theorem busForget_rein (req : Requester) (addr : Nat) : (busForget s req addr).rein = s.rein := State.rein_mk ..
@[simp] theorem busForget_far (req : Requester) (addr : Nat) : (busForget s req addr).far = s.far := State.far_mk ..
@[simp] theorem busForget_pwr (req : Requester) (addr : Nat) : (busForget s req addr).pwr = s.pwr := State.pwr_mk ..
@[simp] theorem busForget_drove (req : Requester) (addr : Nat) : (busForget s req addr).drove = s.drove := State.drove_mk ..
@[simp] theorem busForget_tack (req : Requester) (addr : Nat) : (busForget s req addr).tack = s.tack := State.tack_mk ..
@[simp] theorem busForget_sys (req : Requester) (addr : Nat) : (busForget s req addr).sys = s.sys := State.sys_mk ..
@[simp] theorem busForget_evtFilter (req : Requester) (addr : Nat) : (busForget s req addr).evtFilter = s.evtFilter := State.evtFilter_mk ..
@[simp] theorem rdReg_busForget (req : Requester) (addr : Nat) (b : Nat) : rdReg (busForget s req addr) b = rdReg s b := rdReg_congr b (busForget_regs ..)
@[simp] theorem getF_busForget (req : Requester) (addr : Nat) (g : Field) (w2 i2 k2 : Nat) : getF (busForget s req addr) g w2 i2 k2 = getF s g w2 i2 k2 := getF_congr g w2 i2 k2 (busForget_regs ..)
@[simp] theorem getStall_busForget (req : Requester) (addr : Nat) (k2 : Nat) : getStall (busForget s req addr) k2 = getStall s k2 := getStall_congr k2 (busForget_stall ..)
@[simp] theorem getShed_busForget (req : Requester) (addr : Nat) (i2 : Nat) : getShed (busForget s req addr) i2 = getShed s i2 := getShed_congr i2 (busForget_shed ..)
@[simp] theorem getThread_busForget (req : Requester) (addr : Nat) (i2 t2 : Nat) : getThread (busForget s req addr) i2 t2 = getThread s i2 t2 := getThread_congr i2 t2 (busForget_shed ..)
@[simp] theorem getShu_busForget (req : Requester) (addr : Nat) (n2 : Nat) : getShu (busForget s req addr) n2 = getShu s n2 := getShu_congr n2 (busForget_shu ..)
@[simp] theorem getChan_busForget (req : Requester) (addr : Nat) (n2 c2 : Nat) : getChan (busForget s req addr) n2 c2 = getChan s n2 c2 := getChan_congr n2 c2 (busForget_shu ..)
@[simp] theorem getSid_busForget (req : Requester) (addr : Nat) (d2 i2 : Nat) : getSid (busForget s req addr) d2 i2 = getSid s d2 i2 := getSid_congr d2 i2 (busForget_sid ..)
@[simp] theorem getHost_busForget (req : Requester) (addr : Nat) (c2 : Nat) : getHost (busForget s req addr) c2 = getHost s c2 := getHost_congr c2 (busForget_host ..)
@[simp] theorem getPort_busForget (req : Requester) (addr : Nat) (p2 : Nat) : getPort (busForget s req addr) p2 = getPort s p2 := getPort_congr p2 (busForget_drove ..)
@[simp] theorem getFar_busForget (req : Requester) (addr : Nat) (k2 : Nat) : getFar (busForget s req addr) k2 = getFar s k2 := getFar_congr k2 (busForget_far ..)
@[simp] theorem getFarPort_busForget (req : Requester) (addr : Nat) (p2 : Nat) : getFarPort (busForget s req addr) p2 = getFarPort s p2 := getFarPort_congr p2 (busForget_far ..)
@[simp] theorem getConv_busForget (req : Requester) (addr : Nat) (m2 : Nat) : getConv (busForget s req addr) m2 = getConv s m2 := getConv_congr m2 (busForget_mon ..)
@[simp] theorem getAcc_busForget (req : Requester) (addr : Nat) (m2 a2 : Nat) : getAcc (busForget s req addr) m2 a2 = getAcc s m2 a2 := getAcc_congr m2 a2 (busForget_mon ..)
@[simp] theorem getTrim_busForget (req : Requester) (addr : Nat) (c2 : Nat) : getTrim (busForget s req addr) c2 = getTrim s c2 := getTrim_congr c2 (busForget_mon ..)
@[simp] theorem getLoop_busForget (req : Requester) (addr : Nat) (i2 : Nat) : getLoop (busForget s req addr) i2 = getLoop s i2 := getLoop_congr i2 (busForget_rein ..)
@[simp] theorem getBay_busForget (req : Requester) (addr : Nat) (y2 : Nat) : getBay (busForget s req addr) y2 = getBay s y2 := getBay_congr y2 (busForget_loft ..)
@[simp] theorem getDie_busForget (req : Requester) (addr : Nat) (d2 : Nat) : getDie (busForget s req addr) d2 = getDie s d2 := getDie_congr d2 (busForget_pwr ..)

@[simp] theorem putStall_pending (k : Nat) (x : Stall) : (putStall s k x).pending = s.pending := State.pending_mk ..
@[simp] theorem putStall_time (k : Nat) (x : Stall) : (putStall s k x).time = s.time := State.time_mk ..
@[simp] theorem putStall_freeCtr (k : Nat) (x : Stall) : (putStall s k x).freeCtr = s.freeCtr := State.freeCtr_mk ..
@[simp] theorem putStall_regs (k : Nat) (x : Stall) : (putStall s k x).regs = s.regs := State.regs_mk ..
@[simp] theorem putStall_bus (k : Nat) (x : Stall) : (putStall s k x).bus = s.bus := State.bus_mk ..
@[simp] theorem putStall_ev (k : Nat) (x : Stall) : (putStall s k x).ev = s.ev := State.ev_mk ..
@[simp] theorem putStall_sbxFlight (k : Nat) (x : Stall) : (putStall s k x).sbxFlight = s.sbxFlight := State.sbxFlight_mk ..
@[simp] theorem putStall_shed (k : Nat) (x : Stall) : (putStall s k x).shed = s.shed := State.shed_mk ..
@[simp] theorem putStall_shu (k : Nat) (x : Stall) : (putStall s k x).shu = s.shu := State.shu_mk ..
@[simp] theorem putStall_sid (k : Nat) (x : Stall) : (putStall s k x).sid = s.sid := State.sid_mk ..
@[simp] theorem putStall_mem (k : Nat) (x : Stall) : (putStall s k x).mem = s.mem := State.mem_mk ..
@[simp] theorem putStall_integ (k : Nat) (x : Stall) : (putStall s k x).integ = s.integ := State.integ_mk ..
@[simp] theorem putStall_tier (k : Nat) (x : Stall) : (putStall s k x).tier = s.tier := State.tier_mk ..
@[simp] theorem putStall_loft (k : Nat) (x : Stall) : (putStall s k x).loft = s.loft := State.loft_mk ..
@[simp] theorem putStall_serve (k : Nat) (x : Stall) : (putStall s k x).serve = s.serve := State.serve_mk ..
@[simp] theorem putStall_host (k : Nat) (x : Stall) : (putStall s k x).host = s.host := State.host_mk ..
@[simp] theorem putStall_light (k : Nat) (x : Stall) : (putStall s k x).light = s.light := State.light_mk ..
@[simp] theorem putStall_mon (k : Nat) (x : Stall) : (putStall s k x).mon = s.mon := State.mon_mk ..
@[simp] theorem putStall_rein (k : Nat) (x : Stall) : (putStall s k x).rein = s.rein := State.rein_mk ..
@[simp] theorem putStall_far (k : Nat) (x : Stall) : (putStall s k x).far = s.far := State.far_mk ..
@[simp] theorem putStall_pwr (k : Nat) (x : Stall) : (putStall s k x).pwr = s.pwr := State.pwr_mk ..
@[simp] theorem putStall_drove (k : Nat) (x : Stall) : (putStall s k x).drove = s.drove := State.drove_mk ..
@[simp] theorem putStall_tack (k : Nat) (x : Stall) : (putStall s k x).tack = s.tack := State.tack_mk ..
@[simp] theorem putStall_sys (k : Nat) (x : Stall) : (putStall s k x).sys = s.sys := State.sys_mk ..
@[simp] theorem putStall_evtFilter (k : Nat) (x : Stall) : (putStall s k x).evtFilter = s.evtFilter := State.evtFilter_mk ..
@[simp] theorem rdReg_putStall (k : Nat) (x : Stall) (b : Nat) : rdReg (putStall s k x) b = rdReg s b := rdReg_congr b (putStall_regs ..)
@[simp] theorem getF_putStall (k : Nat) (x : Stall) (g : Field) (w2 i2 k2 : Nat) : getF (putStall s k x) g w2 i2 k2 = getF s g w2 i2 k2 := getF_congr g w2 i2 k2 (putStall_regs ..)
@[simp] theorem getShed_putStall (k : Nat) (x : Stall) (i2 : Nat) : getShed (putStall s k x) i2 = getShed s i2 := getShed_congr i2 (putStall_shed ..)
@[simp] theorem getThread_putStall (k : Nat) (x : Stall) (i2 t2 : Nat) : getThread (putStall s k x) i2 t2 = getThread s i2 t2 := getThread_congr i2 t2 (putStall_shed ..)
@[simp] theorem getShu_putStall (k : Nat) (x : Stall) (n2 : Nat) : getShu (putStall s k x) n2 = getShu s n2 := getShu_congr n2 (putStall_shu ..)
@[simp] theorem getChan_putStall (k : Nat) (x : Stall) (n2 c2 : Nat) : getChan (putStall s k x) n2 c2 = getChan s n2 c2 := getChan_congr n2 c2 (putStall_shu ..)
@[simp] theorem getSid_putStall (k : Nat) (x : Stall) (d2 i2 : Nat) : getSid (putStall s k x) d2 i2 = getSid s d2 i2 := getSid_congr d2 i2 (putStall_sid ..)
@[simp] theorem getHost_putStall (k : Nat) (x : Stall) (c2 : Nat) : getHost (putStall s k x) c2 = getHost s c2 := getHost_congr c2 (putStall_host ..)
@[simp] theorem getPort_putStall (k : Nat) (x : Stall) (p2 : Nat) : getPort (putStall s k x) p2 = getPort s p2 := getPort_congr p2 (putStall_drove ..)
@[simp] theorem getFar_putStall (k : Nat) (x : Stall) (k2 : Nat) : getFar (putStall s k x) k2 = getFar s k2 := getFar_congr k2 (putStall_far ..)
@[simp] theorem getFarPort_putStall (k : Nat) (x : Stall) (p2 : Nat) : getFarPort (putStall s k x) p2 = getFarPort s p2 := getFarPort_congr p2 (putStall_far ..)
@[simp] theorem getConv_putStall (k : Nat) (x : Stall) (m2 : Nat) : getConv (putStall s k x) m2 = getConv s m2 := getConv_congr m2 (putStall_mon ..)
@[simp] theorem getAcc_putStall (k : Nat) (x : Stall) (m2 a2 : Nat) : getAcc (putStall s k x) m2 a2 = getAcc s m2 a2 := getAcc_congr m2 a2 (putStall_mon ..)
@[simp] theorem getTrim_putStall (k : Nat) (x : Stall) (c2 : Nat) : getTrim (putStall s k x) c2 = getTrim s c2 := getTrim_congr c2 (putStall_mon ..)
@[simp] theorem getLoop_putStall (k : Nat) (x : Stall) (i2 : Nat) : getLoop (putStall s k x) i2 = getLoop s i2 := getLoop_congr i2 (putStall_rein ..)
@[simp] theorem getBay_putStall (k : Nat) (x : Stall) (y2 : Nat) : getBay (putStall s k x) y2 = getBay s y2 := getBay_congr y2 (putStall_loft ..)
@[simp] theorem getDie_putStall (k : Nat) (x : Stall) (d2 : Nat) : getDie (putStall s k x) d2 = getDie s d2 := getDie_congr d2 (putStall_pwr ..)

@[simp] theorem putShed_pending (i : Nat) (x : Shed) : (putShed s i x).pending = s.pending := State.pending_mk ..
@[simp] theorem putShed_time (i : Nat) (x : Shed) : (putShed s i x).time = s.time := State.time_mk ..
@[simp] theorem putShed_freeCtr (i : Nat) (x : Shed) : (putShed s i x).freeCtr = s.freeCtr := State.freeCtr_mk ..
@[simp] theorem putShed_regs (i : Nat) (x : Shed) : (putShed s i x).regs = s.regs := State.regs_mk ..
@[simp] theorem putShed_bus (i : Nat) (x : Shed) : (putShed s i x).bus = s.bus := State.bus_mk ..
@[simp] theorem putShed_ev (i : Nat) (x : Shed) : (putShed s i x).ev = s.ev := State.ev_mk ..
@[simp] theorem putShed_sbxFlight (i : Nat) (x : Shed) : (putShed s i x).sbxFlight = s.sbxFlight := State.sbxFlight_mk ..
@[simp] theorem putShed_stall (i : Nat) (x : Shed) : (putShed s i x).stall = s.stall := State.stall_mk ..
@[simp] theorem putShed_shu (i : Nat) (x : Shed) : (putShed s i x).shu = s.shu := State.shu_mk ..
@[simp] theorem putShed_sid (i : Nat) (x : Shed) : (putShed s i x).sid = s.sid := State.sid_mk ..
@[simp] theorem putShed_mem (i : Nat) (x : Shed) : (putShed s i x).mem = s.mem := State.mem_mk ..
@[simp] theorem putShed_integ (i : Nat) (x : Shed) : (putShed s i x).integ = s.integ := State.integ_mk ..
@[simp] theorem putShed_tier (i : Nat) (x : Shed) : (putShed s i x).tier = s.tier := State.tier_mk ..
@[simp] theorem putShed_loft (i : Nat) (x : Shed) : (putShed s i x).loft = s.loft := State.loft_mk ..
@[simp] theorem putShed_serve (i : Nat) (x : Shed) : (putShed s i x).serve = s.serve := State.serve_mk ..
@[simp] theorem putShed_host (i : Nat) (x : Shed) : (putShed s i x).host = s.host := State.host_mk ..
@[simp] theorem putShed_light (i : Nat) (x : Shed) : (putShed s i x).light = s.light := State.light_mk ..
@[simp] theorem putShed_mon (i : Nat) (x : Shed) : (putShed s i x).mon = s.mon := State.mon_mk ..
@[simp] theorem putShed_rein (i : Nat) (x : Shed) : (putShed s i x).rein = s.rein := State.rein_mk ..
@[simp] theorem putShed_far (i : Nat) (x : Shed) : (putShed s i x).far = s.far := State.far_mk ..
@[simp] theorem putShed_pwr (i : Nat) (x : Shed) : (putShed s i x).pwr = s.pwr := State.pwr_mk ..
@[simp] theorem putShed_drove (i : Nat) (x : Shed) : (putShed s i x).drove = s.drove := State.drove_mk ..
@[simp] theorem putShed_tack (i : Nat) (x : Shed) : (putShed s i x).tack = s.tack := State.tack_mk ..
@[simp] theorem putShed_sys (i : Nat) (x : Shed) : (putShed s i x).sys = s.sys := State.sys_mk ..
@[simp] theorem putShed_evtFilter (i : Nat) (x : Shed) : (putShed s i x).evtFilter = s.evtFilter := State.evtFilter_mk ..
@[simp] theorem rdReg_putShed (i : Nat) (x : Shed) (b : Nat) : rdReg (putShed s i x) b = rdReg s b := rdReg_congr b (putShed_regs ..)
@[simp] theorem getF_putShed (i : Nat) (x : Shed) (g : Field) (w2 i2 k2 : Nat) : getF (putShed s i x) g w2 i2 k2 = getF s g w2 i2 k2 := getF_congr g w2 i2 k2 (putShed_regs ..)
@[simp] theorem getStall_putShed (i : Nat) (x : Shed) (k2 : Nat) : getStall (putShed s i x) k2 = getStall s k2 := getStall_congr k2 (putShed_stall ..)
@[simp] theorem getShu_putShed (i : Nat) (x : Shed) (n2 : Nat) : getShu (putShed s i x) n2 = getShu s n2 := getShu_congr n2 (putShed_shu ..)
@[simp] theorem getChan_putShed (i : Nat) (x : Shed) (n2 c2 : Nat) : getChan (putShed s i x) n2 c2 = getChan s n2 c2 := getChan_congr n2 c2 (putShed_shu ..)
@[simp] theorem getSid_putShed (i : Nat) (x : Shed) (d2 i2 : Nat) : getSid (putShed s i x) d2 i2 = getSid s d2 i2 := getSid_congr d2 i2 (putShed_sid ..)
@[simp] theorem getHost_putShed (i : Nat) (x : Shed) (c2 : Nat) : getHost (putShed s i x) c2 = getHost s c2 := getHost_congr c2 (putShed_host ..)
@[simp] theorem getPort_putShed (i : Nat) (x : Shed) (p2 : Nat) : getPort (putShed s i x) p2 = getPort s p2 := getPort_congr p2 (putShed_drove ..)
@[simp] theorem getFar_putShed (i : Nat) (x : Shed) (k2 : Nat) : getFar (putShed s i x) k2 = getFar s k2 := getFar_congr k2 (putShed_far ..)
@[simp] theorem getFarPort_putShed (i : Nat) (x : Shed) (p2 : Nat) : getFarPort (putShed s i x) p2 = getFarPort s p2 := getFarPort_congr p2 (putShed_far ..)
@[simp] theorem getConv_putShed (i : Nat) (x : Shed) (m2 : Nat) : getConv (putShed s i x) m2 = getConv s m2 := getConv_congr m2 (putShed_mon ..)
@[simp] theorem getAcc_putShed (i : Nat) (x : Shed) (m2 a2 : Nat) : getAcc (putShed s i x) m2 a2 = getAcc s m2 a2 := getAcc_congr m2 a2 (putShed_mon ..)
@[simp] theorem getTrim_putShed (i : Nat) (x : Shed) (c2 : Nat) : getTrim (putShed s i x) c2 = getTrim s c2 := getTrim_congr c2 (putShed_mon ..)
@[simp] theorem getLoop_putShed (i : Nat) (x : Shed) (i2 : Nat) : getLoop (putShed s i x) i2 = getLoop s i2 := getLoop_congr i2 (putShed_rein ..)
@[simp] theorem getBay_putShed (i : Nat) (x : Shed) (y2 : Nat) : getBay (putShed s i x) y2 = getBay s y2 := getBay_congr y2 (putShed_loft ..)
@[simp] theorem getDie_putShed (i : Nat) (x : Shed) (d2 : Nat) : getDie (putShed s i x) d2 = getDie s d2 := getDie_congr d2 (putShed_pwr ..)

@[simp] theorem putThread_pending (i t : Nat) (x : Thread) : (putThread s i t x).pending = s.pending := putShed_pending ..
@[simp] theorem putThread_time (i t : Nat) (x : Thread) : (putThread s i t x).time = s.time := putShed_time ..
@[simp] theorem putThread_freeCtr (i t : Nat) (x : Thread) : (putThread s i t x).freeCtr = s.freeCtr := putShed_freeCtr ..
@[simp] theorem putThread_regs (i t : Nat) (x : Thread) : (putThread s i t x).regs = s.regs := putShed_regs ..
@[simp] theorem putThread_bus (i t : Nat) (x : Thread) : (putThread s i t x).bus = s.bus := putShed_bus ..
@[simp] theorem putThread_ev (i t : Nat) (x : Thread) : (putThread s i t x).ev = s.ev := putShed_ev ..
@[simp] theorem putThread_sbxFlight (i t : Nat) (x : Thread) : (putThread s i t x).sbxFlight = s.sbxFlight := putShed_sbxFlight ..
@[simp] theorem putThread_stall (i t : Nat) (x : Thread) : (putThread s i t x).stall = s.stall := putShed_stall ..
@[simp] theorem putThread_shu (i t : Nat) (x : Thread) : (putThread s i t x).shu = s.shu := putShed_shu ..
@[simp] theorem putThread_sid (i t : Nat) (x : Thread) : (putThread s i t x).sid = s.sid := putShed_sid ..
@[simp] theorem putThread_mem (i t : Nat) (x : Thread) : (putThread s i t x).mem = s.mem := putShed_mem ..
@[simp] theorem putThread_integ (i t : Nat) (x : Thread) : (putThread s i t x).integ = s.integ := putShed_integ ..
@[simp] theorem putThread_tier (i t : Nat) (x : Thread) : (putThread s i t x).tier = s.tier := putShed_tier ..
@[simp] theorem putThread_loft (i t : Nat) (x : Thread) : (putThread s i t x).loft = s.loft := putShed_loft ..
@[simp] theorem putThread_serve (i t : Nat) (x : Thread) : (putThread s i t x).serve = s.serve := putShed_serve ..
@[simp] theorem putThread_host (i t : Nat) (x : Thread) : (putThread s i t x).host = s.host := putShed_host ..
@[simp] theorem putThread_light (i t : Nat) (x : Thread) : (putThread s i t x).light = s.light := putShed_light ..
@[simp] theorem putThread_mon (i t : Nat) (x : Thread) : (putThread s i t x).mon = s.mon := putShed_mon ..
@[simp] theorem putThread_rein (i t : Nat) (x : Thread) : (putThread s i t x).rein = s.rein := putShed_rein ..
@[simp] theorem putThread_far (i t : Nat) (x : Thread) : (putThread s i t x).far = s.far := putShed_far ..
@[simp] theorem putThread_pwr (i t : Nat) (x : Thread) : (putThread s i t x).pwr = s.pwr := putShed_pwr ..
@[simp] theorem putThread_drove (i t : Nat) (x : Thread) : (putThread s i t x).drove = s.drove := putShed_drove ..
@[simp] theorem putThread_tack (i t : Nat) (x : Thread) : (putThread s i t x).tack = s.tack := putShed_tack ..
@[simp] theorem putThread_sys (i t : Nat) (x : Thread) : (putThread s i t x).sys = s.sys := putShed_sys ..
@[simp] theorem putThread_evtFilter (i t : Nat) (x : Thread) : (putThread s i t x).evtFilter = s.evtFilter := putShed_evtFilter ..
@[simp] theorem rdReg_putThread (i t : Nat) (x : Thread) (b : Nat) : rdReg (putThread s i t x) b = rdReg s b := rdReg_congr b (putThread_regs ..)
@[simp] theorem getF_putThread (i t : Nat) (x : Thread) (g : Field) (w2 i2 k2 : Nat) : getF (putThread s i t x) g w2 i2 k2 = getF s g w2 i2 k2 := getF_congr g w2 i2 k2 (putThread_regs ..)
@[simp] theorem getStall_putThread (i t : Nat) (x : Thread) (k2 : Nat) : getStall (putThread s i t x) k2 = getStall s k2 := getStall_congr k2 (putThread_stall ..)
@[simp] theorem getShu_putThread (i t : Nat) (x : Thread) (n2 : Nat) : getShu (putThread s i t x) n2 = getShu s n2 := getShu_congr n2 (putThread_shu ..)
@[simp] theorem getChan_putThread (i t : Nat) (x : Thread) (n2 c2 : Nat) : getChan (putThread s i t x) n2 c2 = getChan s n2 c2 := getChan_congr n2 c2 (putThread_shu ..)
@[simp] theorem getSid_putThread (i t : Nat) (x : Thread) (d2 i2 : Nat) : getSid (putThread s i t x) d2 i2 = getSid s d2 i2 := getSid_congr d2 i2 (putThread_sid ..)
@[simp] theorem getHost_putThread (i t : Nat) (x : Thread) (c2 : Nat) : getHost (putThread s i t x) c2 = getHost s c2 := getHost_congr c2 (putThread_host ..)
@[simp] theorem getPort_putThread (i t : Nat) (x : Thread) (p2 : Nat) : getPort (putThread s i t x) p2 = getPort s p2 := getPort_congr p2 (putThread_drove ..)
@[simp] theorem getFar_putThread (i t : Nat) (x : Thread) (k2 : Nat) : getFar (putThread s i t x) k2 = getFar s k2 := getFar_congr k2 (putThread_far ..)
@[simp] theorem getFarPort_putThread (i t : Nat) (x : Thread) (p2 : Nat) : getFarPort (putThread s i t x) p2 = getFarPort s p2 := getFarPort_congr p2 (putThread_far ..)
@[simp] theorem getConv_putThread (i t : Nat) (x : Thread) (m2 : Nat) : getConv (putThread s i t x) m2 = getConv s m2 := getConv_congr m2 (putThread_mon ..)
@[simp] theorem getAcc_putThread (i t : Nat) (x : Thread) (m2 a2 : Nat) : getAcc (putThread s i t x) m2 a2 = getAcc s m2 a2 := getAcc_congr m2 a2 (putThread_mon ..)
@[simp] theorem getTrim_putThread (i t : Nat) (x : Thread) (c2 : Nat) : getTrim (putThread s i t x) c2 = getTrim s c2 := getTrim_congr c2 (putThread_mon ..)
@[simp] theorem getLoop_putThread (i t : Nat) (x : Thread) (i2 : Nat) : getLoop (putThread s i t x) i2 = getLoop s i2 := getLoop_congr i2 (putThread_rein ..)
@[simp] theorem getBay_putThread (i t : Nat) (x : Thread) (y2 : Nat) : getBay (putThread s i t x) y2 = getBay s y2 := getBay_congr y2 (putThread_loft ..)
@[simp] theorem getDie_putThread (i t : Nat) (x : Thread) (d2 : Nat) : getDie (putThread s i t x) d2 = getDie s d2 := getDie_congr d2 (putThread_pwr ..)

@[simp] theorem putShu_pending (n : Nat) (x : Shunter) : (putShu s n x).pending = s.pending := State.pending_mk ..
@[simp] theorem putShu_time (n : Nat) (x : Shunter) : (putShu s n x).time = s.time := State.time_mk ..
@[simp] theorem putShu_freeCtr (n : Nat) (x : Shunter) : (putShu s n x).freeCtr = s.freeCtr := State.freeCtr_mk ..
@[simp] theorem putShu_regs (n : Nat) (x : Shunter) : (putShu s n x).regs = s.regs := State.regs_mk ..
@[simp] theorem putShu_bus (n : Nat) (x : Shunter) : (putShu s n x).bus = s.bus := State.bus_mk ..
@[simp] theorem putShu_ev (n : Nat) (x : Shunter) : (putShu s n x).ev = s.ev := State.ev_mk ..
@[simp] theorem putShu_sbxFlight (n : Nat) (x : Shunter) : (putShu s n x).sbxFlight = s.sbxFlight := State.sbxFlight_mk ..
@[simp] theorem putShu_stall (n : Nat) (x : Shunter) : (putShu s n x).stall = s.stall := State.stall_mk ..
@[simp] theorem putShu_shed (n : Nat) (x : Shunter) : (putShu s n x).shed = s.shed := State.shed_mk ..
@[simp] theorem putShu_sid (n : Nat) (x : Shunter) : (putShu s n x).sid = s.sid := State.sid_mk ..
@[simp] theorem putShu_mem (n : Nat) (x : Shunter) : (putShu s n x).mem = s.mem := State.mem_mk ..
@[simp] theorem putShu_integ (n : Nat) (x : Shunter) : (putShu s n x).integ = s.integ := State.integ_mk ..
@[simp] theorem putShu_tier (n : Nat) (x : Shunter) : (putShu s n x).tier = s.tier := State.tier_mk ..
@[simp] theorem putShu_loft (n : Nat) (x : Shunter) : (putShu s n x).loft = s.loft := State.loft_mk ..
@[simp] theorem putShu_serve (n : Nat) (x : Shunter) : (putShu s n x).serve = s.serve := State.serve_mk ..
@[simp] theorem putShu_host (n : Nat) (x : Shunter) : (putShu s n x).host = s.host := State.host_mk ..
@[simp] theorem putShu_light (n : Nat) (x : Shunter) : (putShu s n x).light = s.light := State.light_mk ..
@[simp] theorem putShu_mon (n : Nat) (x : Shunter) : (putShu s n x).mon = s.mon := State.mon_mk ..
@[simp] theorem putShu_rein (n : Nat) (x : Shunter) : (putShu s n x).rein = s.rein := State.rein_mk ..
@[simp] theorem putShu_far (n : Nat) (x : Shunter) : (putShu s n x).far = s.far := State.far_mk ..
@[simp] theorem putShu_pwr (n : Nat) (x : Shunter) : (putShu s n x).pwr = s.pwr := State.pwr_mk ..
@[simp] theorem putShu_drove (n : Nat) (x : Shunter) : (putShu s n x).drove = s.drove := State.drove_mk ..
@[simp] theorem putShu_tack (n : Nat) (x : Shunter) : (putShu s n x).tack = s.tack := State.tack_mk ..
@[simp] theorem putShu_sys (n : Nat) (x : Shunter) : (putShu s n x).sys = s.sys := State.sys_mk ..
@[simp] theorem putShu_evtFilter (n : Nat) (x : Shunter) : (putShu s n x).evtFilter = s.evtFilter := State.evtFilter_mk ..
@[simp] theorem rdReg_putShu (n : Nat) (x : Shunter) (b : Nat) : rdReg (putShu s n x) b = rdReg s b := rdReg_congr b (putShu_regs ..)
@[simp] theorem getF_putShu (n : Nat) (x : Shunter) (g : Field) (w2 i2 k2 : Nat) : getF (putShu s n x) g w2 i2 k2 = getF s g w2 i2 k2 := getF_congr g w2 i2 k2 (putShu_regs ..)
@[simp] theorem getStall_putShu (n : Nat) (x : Shunter) (k2 : Nat) : getStall (putShu s n x) k2 = getStall s k2 := getStall_congr k2 (putShu_stall ..)
@[simp] theorem getShed_putShu (n : Nat) (x : Shunter) (i2 : Nat) : getShed (putShu s n x) i2 = getShed s i2 := getShed_congr i2 (putShu_shed ..)
@[simp] theorem getThread_putShu (n : Nat) (x : Shunter) (i2 t2 : Nat) : getThread (putShu s n x) i2 t2 = getThread s i2 t2 := getThread_congr i2 t2 (putShu_shed ..)
@[simp] theorem getSid_putShu (n : Nat) (x : Shunter) (d2 i2 : Nat) : getSid (putShu s n x) d2 i2 = getSid s d2 i2 := getSid_congr d2 i2 (putShu_sid ..)
@[simp] theorem getHost_putShu (n : Nat) (x : Shunter) (c2 : Nat) : getHost (putShu s n x) c2 = getHost s c2 := getHost_congr c2 (putShu_host ..)
@[simp] theorem getPort_putShu (n : Nat) (x : Shunter) (p2 : Nat) : getPort (putShu s n x) p2 = getPort s p2 := getPort_congr p2 (putShu_drove ..)
@[simp] theorem getFar_putShu (n : Nat) (x : Shunter) (k2 : Nat) : getFar (putShu s n x) k2 = getFar s k2 := getFar_congr k2 (putShu_far ..)
@[simp] theorem getFarPort_putShu (n : Nat) (x : Shunter) (p2 : Nat) : getFarPort (putShu s n x) p2 = getFarPort s p2 := getFarPort_congr p2 (putShu_far ..)
@[simp] theorem getConv_putShu (n : Nat) (x : Shunter) (m2 : Nat) : getConv (putShu s n x) m2 = getConv s m2 := getConv_congr m2 (putShu_mon ..)
@[simp] theorem getAcc_putShu (n : Nat) (x : Shunter) (m2 a2 : Nat) : getAcc (putShu s n x) m2 a2 = getAcc s m2 a2 := getAcc_congr m2 a2 (putShu_mon ..)
@[simp] theorem getTrim_putShu (n : Nat) (x : Shunter) (c2 : Nat) : getTrim (putShu s n x) c2 = getTrim s c2 := getTrim_congr c2 (putShu_mon ..)
@[simp] theorem getLoop_putShu (n : Nat) (x : Shunter) (i2 : Nat) : getLoop (putShu s n x) i2 = getLoop s i2 := getLoop_congr i2 (putShu_rein ..)
@[simp] theorem getBay_putShu (n : Nat) (x : Shunter) (y2 : Nat) : getBay (putShu s n x) y2 = getBay s y2 := getBay_congr y2 (putShu_loft ..)
@[simp] theorem getDie_putShu (n : Nat) (x : Shunter) (d2 : Nat) : getDie (putShu s n x) d2 = getDie s d2 := getDie_congr d2 (putShu_pwr ..)

@[simp] theorem putChan_pending (n c : Nat) (x : Chan) : (putChan s n c x).pending = s.pending := putShu_pending ..
@[simp] theorem putChan_time (n c : Nat) (x : Chan) : (putChan s n c x).time = s.time := putShu_time ..
@[simp] theorem putChan_freeCtr (n c : Nat) (x : Chan) : (putChan s n c x).freeCtr = s.freeCtr := putShu_freeCtr ..
@[simp] theorem putChan_regs (n c : Nat) (x : Chan) : (putChan s n c x).regs = s.regs := putShu_regs ..
@[simp] theorem putChan_bus (n c : Nat) (x : Chan) : (putChan s n c x).bus = s.bus := putShu_bus ..
@[simp] theorem putChan_ev (n c : Nat) (x : Chan) : (putChan s n c x).ev = s.ev := putShu_ev ..
@[simp] theorem putChan_sbxFlight (n c : Nat) (x : Chan) : (putChan s n c x).sbxFlight = s.sbxFlight := putShu_sbxFlight ..
@[simp] theorem putChan_stall (n c : Nat) (x : Chan) : (putChan s n c x).stall = s.stall := putShu_stall ..
@[simp] theorem putChan_shed (n c : Nat) (x : Chan) : (putChan s n c x).shed = s.shed := putShu_shed ..
@[simp] theorem putChan_sid (n c : Nat) (x : Chan) : (putChan s n c x).sid = s.sid := putShu_sid ..
@[simp] theorem putChan_mem (n c : Nat) (x : Chan) : (putChan s n c x).mem = s.mem := putShu_mem ..
@[simp] theorem putChan_integ (n c : Nat) (x : Chan) : (putChan s n c x).integ = s.integ := putShu_integ ..
@[simp] theorem putChan_tier (n c : Nat) (x : Chan) : (putChan s n c x).tier = s.tier := putShu_tier ..
@[simp] theorem putChan_loft (n c : Nat) (x : Chan) : (putChan s n c x).loft = s.loft := putShu_loft ..
@[simp] theorem putChan_serve (n c : Nat) (x : Chan) : (putChan s n c x).serve = s.serve := putShu_serve ..
@[simp] theorem putChan_host (n c : Nat) (x : Chan) : (putChan s n c x).host = s.host := putShu_host ..
@[simp] theorem putChan_light (n c : Nat) (x : Chan) : (putChan s n c x).light = s.light := putShu_light ..
@[simp] theorem putChan_mon (n c : Nat) (x : Chan) : (putChan s n c x).mon = s.mon := putShu_mon ..
@[simp] theorem putChan_rein (n c : Nat) (x : Chan) : (putChan s n c x).rein = s.rein := putShu_rein ..
@[simp] theorem putChan_far (n c : Nat) (x : Chan) : (putChan s n c x).far = s.far := putShu_far ..
@[simp] theorem putChan_pwr (n c : Nat) (x : Chan) : (putChan s n c x).pwr = s.pwr := putShu_pwr ..
@[simp] theorem putChan_drove (n c : Nat) (x : Chan) : (putChan s n c x).drove = s.drove := putShu_drove ..
@[simp] theorem putChan_tack (n c : Nat) (x : Chan) : (putChan s n c x).tack = s.tack := putShu_tack ..
@[simp] theorem putChan_sys (n c : Nat) (x : Chan) : (putChan s n c x).sys = s.sys := putShu_sys ..
@[simp] theorem putChan_evtFilter (n c : Nat) (x : Chan) : (putChan s n c x).evtFilter = s.evtFilter := putShu_evtFilter ..
@[simp] theorem rdReg_putChan (n c : Nat) (x : Chan) (b : Nat) : rdReg (putChan s n c x) b = rdReg s b := rdReg_congr b (putChan_regs ..)
@[simp] theorem getF_putChan (n c : Nat) (x : Chan) (g : Field) (w2 i2 k2 : Nat) : getF (putChan s n c x) g w2 i2 k2 = getF s g w2 i2 k2 := getF_congr g w2 i2 k2 (putChan_regs ..)
@[simp] theorem getStall_putChan (n c : Nat) (x : Chan) (k2 : Nat) : getStall (putChan s n c x) k2 = getStall s k2 := getStall_congr k2 (putChan_stall ..)
@[simp] theorem getShed_putChan (n c : Nat) (x : Chan) (i2 : Nat) : getShed (putChan s n c x) i2 = getShed s i2 := getShed_congr i2 (putChan_shed ..)
@[simp] theorem getThread_putChan (n c : Nat) (x : Chan) (i2 t2 : Nat) : getThread (putChan s n c x) i2 t2 = getThread s i2 t2 := getThread_congr i2 t2 (putChan_shed ..)
@[simp] theorem getSid_putChan (n c : Nat) (x : Chan) (d2 i2 : Nat) : getSid (putChan s n c x) d2 i2 = getSid s d2 i2 := getSid_congr d2 i2 (putChan_sid ..)
@[simp] theorem getHost_putChan (n c : Nat) (x : Chan) (c2 : Nat) : getHost (putChan s n c x) c2 = getHost s c2 := getHost_congr c2 (putChan_host ..)
@[simp] theorem getPort_putChan (n c : Nat) (x : Chan) (p2 : Nat) : getPort (putChan s n c x) p2 = getPort s p2 := getPort_congr p2 (putChan_drove ..)
@[simp] theorem getFar_putChan (n c : Nat) (x : Chan) (k2 : Nat) : getFar (putChan s n c x) k2 = getFar s k2 := getFar_congr k2 (putChan_far ..)
@[simp] theorem getFarPort_putChan (n c : Nat) (x : Chan) (p2 : Nat) : getFarPort (putChan s n c x) p2 = getFarPort s p2 := getFarPort_congr p2 (putChan_far ..)
@[simp] theorem getConv_putChan (n c : Nat) (x : Chan) (m2 : Nat) : getConv (putChan s n c x) m2 = getConv s m2 := getConv_congr m2 (putChan_mon ..)
@[simp] theorem getAcc_putChan (n c : Nat) (x : Chan) (m2 a2 : Nat) : getAcc (putChan s n c x) m2 a2 = getAcc s m2 a2 := getAcc_congr m2 a2 (putChan_mon ..)
@[simp] theorem getTrim_putChan (n c : Nat) (x : Chan) (c2 : Nat) : getTrim (putChan s n c x) c2 = getTrim s c2 := getTrim_congr c2 (putChan_mon ..)
@[simp] theorem getLoop_putChan (n c : Nat) (x : Chan) (i2 : Nat) : getLoop (putChan s n c x) i2 = getLoop s i2 := getLoop_congr i2 (putChan_rein ..)
@[simp] theorem getBay_putChan (n c : Nat) (x : Chan) (y2 : Nat) : getBay (putChan s n c x) y2 = getBay s y2 := getBay_congr y2 (putChan_loft ..)
@[simp] theorem getDie_putChan (n c : Nat) (x : Chan) (d2 : Nat) : getDie (putChan s n c x) d2 = getDie s d2 := getDie_congr d2 (putChan_pwr ..)

@[simp] theorem putSid_pending (d i : Nat) (x : Siding) : (putSid s d i x).pending = s.pending := State.pending_mk ..
@[simp] theorem putSid_time (d i : Nat) (x : Siding) : (putSid s d i x).time = s.time := State.time_mk ..
@[simp] theorem putSid_freeCtr (d i : Nat) (x : Siding) : (putSid s d i x).freeCtr = s.freeCtr := State.freeCtr_mk ..
@[simp] theorem putSid_regs (d i : Nat) (x : Siding) : (putSid s d i x).regs = s.regs := State.regs_mk ..
@[simp] theorem putSid_bus (d i : Nat) (x : Siding) : (putSid s d i x).bus = s.bus := State.bus_mk ..
@[simp] theorem putSid_ev (d i : Nat) (x : Siding) : (putSid s d i x).ev = s.ev := State.ev_mk ..
@[simp] theorem putSid_sbxFlight (d i : Nat) (x : Siding) : (putSid s d i x).sbxFlight = s.sbxFlight := State.sbxFlight_mk ..
@[simp] theorem putSid_stall (d i : Nat) (x : Siding) : (putSid s d i x).stall = s.stall := State.stall_mk ..
@[simp] theorem putSid_shed (d i : Nat) (x : Siding) : (putSid s d i x).shed = s.shed := State.shed_mk ..
@[simp] theorem putSid_shu (d i : Nat) (x : Siding) : (putSid s d i x).shu = s.shu := State.shu_mk ..
@[simp] theorem putSid_mem (d i : Nat) (x : Siding) : (putSid s d i x).mem = s.mem := State.mem_mk ..
@[simp] theorem putSid_integ (d i : Nat) (x : Siding) : (putSid s d i x).integ = s.integ := State.integ_mk ..
@[simp] theorem putSid_tier (d i : Nat) (x : Siding) : (putSid s d i x).tier = s.tier := State.tier_mk ..
@[simp] theorem putSid_loft (d i : Nat) (x : Siding) : (putSid s d i x).loft = s.loft := State.loft_mk ..
@[simp] theorem putSid_serve (d i : Nat) (x : Siding) : (putSid s d i x).serve = s.serve := State.serve_mk ..
@[simp] theorem putSid_host (d i : Nat) (x : Siding) : (putSid s d i x).host = s.host := State.host_mk ..
@[simp] theorem putSid_light (d i : Nat) (x : Siding) : (putSid s d i x).light = s.light := State.light_mk ..
@[simp] theorem putSid_mon (d i : Nat) (x : Siding) : (putSid s d i x).mon = s.mon := State.mon_mk ..
@[simp] theorem putSid_rein (d i : Nat) (x : Siding) : (putSid s d i x).rein = s.rein := State.rein_mk ..
@[simp] theorem putSid_far (d i : Nat) (x : Siding) : (putSid s d i x).far = s.far := State.far_mk ..
@[simp] theorem putSid_pwr (d i : Nat) (x : Siding) : (putSid s d i x).pwr = s.pwr := State.pwr_mk ..
@[simp] theorem putSid_drove (d i : Nat) (x : Siding) : (putSid s d i x).drove = s.drove := State.drove_mk ..
@[simp] theorem putSid_tack (d i : Nat) (x : Siding) : (putSid s d i x).tack = s.tack := State.tack_mk ..
@[simp] theorem putSid_sys (d i : Nat) (x : Siding) : (putSid s d i x).sys = s.sys := State.sys_mk ..
@[simp] theorem putSid_evtFilter (d i : Nat) (x : Siding) : (putSid s d i x).evtFilter = s.evtFilter := State.evtFilter_mk ..
@[simp] theorem rdReg_putSid (d i : Nat) (x : Siding) (b : Nat) : rdReg (putSid s d i x) b = rdReg s b := rdReg_congr b (putSid_regs ..)
@[simp] theorem getF_putSid (d i : Nat) (x : Siding) (g : Field) (w2 i2 k2 : Nat) : getF (putSid s d i x) g w2 i2 k2 = getF s g w2 i2 k2 := getF_congr g w2 i2 k2 (putSid_regs ..)
@[simp] theorem getStall_putSid (d i : Nat) (x : Siding) (k2 : Nat) : getStall (putSid s d i x) k2 = getStall s k2 := getStall_congr k2 (putSid_stall ..)
@[simp] theorem getShed_putSid (d i : Nat) (x : Siding) (i2 : Nat) : getShed (putSid s d i x) i2 = getShed s i2 := getShed_congr i2 (putSid_shed ..)
@[simp] theorem getThread_putSid (d i : Nat) (x : Siding) (i2 t2 : Nat) : getThread (putSid s d i x) i2 t2 = getThread s i2 t2 := getThread_congr i2 t2 (putSid_shed ..)
@[simp] theorem getShu_putSid (d i : Nat) (x : Siding) (n2 : Nat) : getShu (putSid s d i x) n2 = getShu s n2 := getShu_congr n2 (putSid_shu ..)
@[simp] theorem getChan_putSid (d i : Nat) (x : Siding) (n2 c2 : Nat) : getChan (putSid s d i x) n2 c2 = getChan s n2 c2 := getChan_congr n2 c2 (putSid_shu ..)
@[simp] theorem getHost_putSid (d i : Nat) (x : Siding) (c2 : Nat) : getHost (putSid s d i x) c2 = getHost s c2 := getHost_congr c2 (putSid_host ..)
@[simp] theorem getPort_putSid (d i : Nat) (x : Siding) (p2 : Nat) : getPort (putSid s d i x) p2 = getPort s p2 := getPort_congr p2 (putSid_drove ..)
@[simp] theorem getFar_putSid (d i : Nat) (x : Siding) (k2 : Nat) : getFar (putSid s d i x) k2 = getFar s k2 := getFar_congr k2 (putSid_far ..)
@[simp] theorem getFarPort_putSid (d i : Nat) (x : Siding) (p2 : Nat) : getFarPort (putSid s d i x) p2 = getFarPort s p2 := getFarPort_congr p2 (putSid_far ..)
@[simp] theorem getConv_putSid (d i : Nat) (x : Siding) (m2 : Nat) : getConv (putSid s d i x) m2 = getConv s m2 := getConv_congr m2 (putSid_mon ..)
@[simp] theorem getAcc_putSid (d i : Nat) (x : Siding) (m2 a2 : Nat) : getAcc (putSid s d i x) m2 a2 = getAcc s m2 a2 := getAcc_congr m2 a2 (putSid_mon ..)
@[simp] theorem getTrim_putSid (d i : Nat) (x : Siding) (c2 : Nat) : getTrim (putSid s d i x) c2 = getTrim s c2 := getTrim_congr c2 (putSid_mon ..)
@[simp] theorem getLoop_putSid (d i : Nat) (x : Siding) (i2 : Nat) : getLoop (putSid s d i x) i2 = getLoop s i2 := getLoop_congr i2 (putSid_rein ..)
@[simp] theorem getBay_putSid (d i : Nat) (x : Siding) (y2 : Nat) : getBay (putSid s d i x) y2 = getBay s y2 := getBay_congr y2 (putSid_loft ..)
@[simp] theorem getDie_putSid (d i : Nat) (x : Siding) (d2 : Nat) : getDie (putSid s d i x) d2 = getDie s d2 := getDie_congr d2 (putSid_pwr ..)

@[simp] theorem putHost_pending (c : Nat) (x : HChan) : (putHost s c x).pending = s.pending := State.pending_mk ..
@[simp] theorem putHost_time (c : Nat) (x : HChan) : (putHost s c x).time = s.time := State.time_mk ..
@[simp] theorem putHost_freeCtr (c : Nat) (x : HChan) : (putHost s c x).freeCtr = s.freeCtr := State.freeCtr_mk ..
@[simp] theorem putHost_regs (c : Nat) (x : HChan) : (putHost s c x).regs = s.regs := State.regs_mk ..
@[simp] theorem putHost_bus (c : Nat) (x : HChan) : (putHost s c x).bus = s.bus := State.bus_mk ..
@[simp] theorem putHost_ev (c : Nat) (x : HChan) : (putHost s c x).ev = s.ev := State.ev_mk ..
@[simp] theorem putHost_sbxFlight (c : Nat) (x : HChan) : (putHost s c x).sbxFlight = s.sbxFlight := State.sbxFlight_mk ..
@[simp] theorem putHost_stall (c : Nat) (x : HChan) : (putHost s c x).stall = s.stall := State.stall_mk ..
@[simp] theorem putHost_shed (c : Nat) (x : HChan) : (putHost s c x).shed = s.shed := State.shed_mk ..
@[simp] theorem putHost_shu (c : Nat) (x : HChan) : (putHost s c x).shu = s.shu := State.shu_mk ..
@[simp] theorem putHost_sid (c : Nat) (x : HChan) : (putHost s c x).sid = s.sid := State.sid_mk ..
@[simp] theorem putHost_mem (c : Nat) (x : HChan) : (putHost s c x).mem = s.mem := State.mem_mk ..
@[simp] theorem putHost_integ (c : Nat) (x : HChan) : (putHost s c x).integ = s.integ := State.integ_mk ..
@[simp] theorem putHost_tier (c : Nat) (x : HChan) : (putHost s c x).tier = s.tier := State.tier_mk ..
@[simp] theorem putHost_loft (c : Nat) (x : HChan) : (putHost s c x).loft = s.loft := State.loft_mk ..
@[simp] theorem putHost_serve (c : Nat) (x : HChan) : (putHost s c x).serve = s.serve := State.serve_mk ..
@[simp] theorem putHost_light (c : Nat) (x : HChan) : (putHost s c x).light = s.light := State.light_mk ..
@[simp] theorem putHost_mon (c : Nat) (x : HChan) : (putHost s c x).mon = s.mon := State.mon_mk ..
@[simp] theorem putHost_rein (c : Nat) (x : HChan) : (putHost s c x).rein = s.rein := State.rein_mk ..
@[simp] theorem putHost_far (c : Nat) (x : HChan) : (putHost s c x).far = s.far := State.far_mk ..
@[simp] theorem putHost_pwr (c : Nat) (x : HChan) : (putHost s c x).pwr = s.pwr := State.pwr_mk ..
@[simp] theorem putHost_drove (c : Nat) (x : HChan) : (putHost s c x).drove = s.drove := State.drove_mk ..
@[simp] theorem putHost_tack (c : Nat) (x : HChan) : (putHost s c x).tack = s.tack := State.tack_mk ..
@[simp] theorem putHost_sys (c : Nat) (x : HChan) : (putHost s c x).sys = s.sys := State.sys_mk ..
@[simp] theorem putHost_evtFilter (c : Nat) (x : HChan) : (putHost s c x).evtFilter = s.evtFilter := State.evtFilter_mk ..
@[simp] theorem rdReg_putHost (c : Nat) (x : HChan) (b : Nat) : rdReg (putHost s c x) b = rdReg s b := rdReg_congr b (putHost_regs ..)
@[simp] theorem getF_putHost (c : Nat) (x : HChan) (g : Field) (w2 i2 k2 : Nat) : getF (putHost s c x) g w2 i2 k2 = getF s g w2 i2 k2 := getF_congr g w2 i2 k2 (putHost_regs ..)
@[simp] theorem getStall_putHost (c : Nat) (x : HChan) (k2 : Nat) : getStall (putHost s c x) k2 = getStall s k2 := getStall_congr k2 (putHost_stall ..)
@[simp] theorem getShed_putHost (c : Nat) (x : HChan) (i2 : Nat) : getShed (putHost s c x) i2 = getShed s i2 := getShed_congr i2 (putHost_shed ..)
@[simp] theorem getThread_putHost (c : Nat) (x : HChan) (i2 t2 : Nat) : getThread (putHost s c x) i2 t2 = getThread s i2 t2 := getThread_congr i2 t2 (putHost_shed ..)
@[simp] theorem getShu_putHost (c : Nat) (x : HChan) (n2 : Nat) : getShu (putHost s c x) n2 = getShu s n2 := getShu_congr n2 (putHost_shu ..)
@[simp] theorem getChan_putHost (c : Nat) (x : HChan) (n2 c2 : Nat) : getChan (putHost s c x) n2 c2 = getChan s n2 c2 := getChan_congr n2 c2 (putHost_shu ..)
@[simp] theorem getSid_putHost (c : Nat) (x : HChan) (d2 i2 : Nat) : getSid (putHost s c x) d2 i2 = getSid s d2 i2 := getSid_congr d2 i2 (putHost_sid ..)
@[simp] theorem getPort_putHost (c : Nat) (x : HChan) (p2 : Nat) : getPort (putHost s c x) p2 = getPort s p2 := getPort_congr p2 (putHost_drove ..)
@[simp] theorem getFar_putHost (c : Nat) (x : HChan) (k2 : Nat) : getFar (putHost s c x) k2 = getFar s k2 := getFar_congr k2 (putHost_far ..)
@[simp] theorem getFarPort_putHost (c : Nat) (x : HChan) (p2 : Nat) : getFarPort (putHost s c x) p2 = getFarPort s p2 := getFarPort_congr p2 (putHost_far ..)
@[simp] theorem getConv_putHost (c : Nat) (x : HChan) (m2 : Nat) : getConv (putHost s c x) m2 = getConv s m2 := getConv_congr m2 (putHost_mon ..)
@[simp] theorem getAcc_putHost (c : Nat) (x : HChan) (m2 a2 : Nat) : getAcc (putHost s c x) m2 a2 = getAcc s m2 a2 := getAcc_congr m2 a2 (putHost_mon ..)
@[simp] theorem getTrim_putHost (c : Nat) (x : HChan) (c2 : Nat) : getTrim (putHost s c x) c2 = getTrim s c2 := getTrim_congr c2 (putHost_mon ..)
@[simp] theorem getLoop_putHost (c : Nat) (x : HChan) (i2 : Nat) : getLoop (putHost s c x) i2 = getLoop s i2 := getLoop_congr i2 (putHost_rein ..)
@[simp] theorem getBay_putHost (c : Nat) (x : HChan) (y2 : Nat) : getBay (putHost s c x) y2 = getBay s y2 := getBay_congr y2 (putHost_loft ..)
@[simp] theorem getDie_putHost (c : Nat) (x : HChan) (d2 : Nat) : getDie (putHost s c x) d2 = getDie s d2 := getDie_congr d2 (putHost_pwr ..)

@[simp] theorem putPort_pending (p : Nat) (x : Port) : (putPort s p x).pending = s.pending := State.pending_mk ..
@[simp] theorem putPort_time (p : Nat) (x : Port) : (putPort s p x).time = s.time := State.time_mk ..
@[simp] theorem putPort_freeCtr (p : Nat) (x : Port) : (putPort s p x).freeCtr = s.freeCtr := State.freeCtr_mk ..
@[simp] theorem putPort_regs (p : Nat) (x : Port) : (putPort s p x).regs = s.regs := State.regs_mk ..
@[simp] theorem putPort_bus (p : Nat) (x : Port) : (putPort s p x).bus = s.bus := State.bus_mk ..
@[simp] theorem putPort_ev (p : Nat) (x : Port) : (putPort s p x).ev = s.ev := State.ev_mk ..
@[simp] theorem putPort_sbxFlight (p : Nat) (x : Port) : (putPort s p x).sbxFlight = s.sbxFlight := State.sbxFlight_mk ..
@[simp] theorem putPort_stall (p : Nat) (x : Port) : (putPort s p x).stall = s.stall := State.stall_mk ..
@[simp] theorem putPort_shed (p : Nat) (x : Port) : (putPort s p x).shed = s.shed := State.shed_mk ..
@[simp] theorem putPort_shu (p : Nat) (x : Port) : (putPort s p x).shu = s.shu := State.shu_mk ..
@[simp] theorem putPort_sid (p : Nat) (x : Port) : (putPort s p x).sid = s.sid := State.sid_mk ..
@[simp] theorem putPort_mem (p : Nat) (x : Port) : (putPort s p x).mem = s.mem := State.mem_mk ..
@[simp] theorem putPort_integ (p : Nat) (x : Port) : (putPort s p x).integ = s.integ := State.integ_mk ..
@[simp] theorem putPort_tier (p : Nat) (x : Port) : (putPort s p x).tier = s.tier := State.tier_mk ..
@[simp] theorem putPort_loft (p : Nat) (x : Port) : (putPort s p x).loft = s.loft := State.loft_mk ..
@[simp] theorem putPort_serve (p : Nat) (x : Port) : (putPort s p x).serve = s.serve := State.serve_mk ..
@[simp] theorem putPort_host (p : Nat) (x : Port) : (putPort s p x).host = s.host := State.host_mk ..
@[simp] theorem putPort_light (p : Nat) (x : Port) : (putPort s p x).light = s.light := State.light_mk ..
@[simp] theorem putPort_mon (p : Nat) (x : Port) : (putPort s p x).mon = s.mon := State.mon_mk ..
@[simp] theorem putPort_rein (p : Nat) (x : Port) : (putPort s p x).rein = s.rein := State.rein_mk ..
@[simp] theorem putPort_far (p : Nat) (x : Port) : (putPort s p x).far = s.far := State.far_mk ..
@[simp] theorem putPort_pwr (p : Nat) (x : Port) : (putPort s p x).pwr = s.pwr := State.pwr_mk ..
@[simp] theorem putPort_tack (p : Nat) (x : Port) : (putPort s p x).tack = s.tack := State.tack_mk ..
@[simp] theorem putPort_sys (p : Nat) (x : Port) : (putPort s p x).sys = s.sys := State.sys_mk ..
@[simp] theorem putPort_evtFilter (p : Nat) (x : Port) : (putPort s p x).evtFilter = s.evtFilter := State.evtFilter_mk ..
@[simp] theorem rdReg_putPort (p : Nat) (x : Port) (b : Nat) : rdReg (putPort s p x) b = rdReg s b := rdReg_congr b (putPort_regs ..)
@[simp] theorem getF_putPort (p : Nat) (x : Port) (g : Field) (w2 i2 k2 : Nat) : getF (putPort s p x) g w2 i2 k2 = getF s g w2 i2 k2 := getF_congr g w2 i2 k2 (putPort_regs ..)
@[simp] theorem getStall_putPort (p : Nat) (x : Port) (k2 : Nat) : getStall (putPort s p x) k2 = getStall s k2 := getStall_congr k2 (putPort_stall ..)
@[simp] theorem getShed_putPort (p : Nat) (x : Port) (i2 : Nat) : getShed (putPort s p x) i2 = getShed s i2 := getShed_congr i2 (putPort_shed ..)
@[simp] theorem getThread_putPort (p : Nat) (x : Port) (i2 t2 : Nat) : getThread (putPort s p x) i2 t2 = getThread s i2 t2 := getThread_congr i2 t2 (putPort_shed ..)
@[simp] theorem getShu_putPort (p : Nat) (x : Port) (n2 : Nat) : getShu (putPort s p x) n2 = getShu s n2 := getShu_congr n2 (putPort_shu ..)
@[simp] theorem getChan_putPort (p : Nat) (x : Port) (n2 c2 : Nat) : getChan (putPort s p x) n2 c2 = getChan s n2 c2 := getChan_congr n2 c2 (putPort_shu ..)
@[simp] theorem getSid_putPort (p : Nat) (x : Port) (d2 i2 : Nat) : getSid (putPort s p x) d2 i2 = getSid s d2 i2 := getSid_congr d2 i2 (putPort_sid ..)
@[simp] theorem getHost_putPort (p : Nat) (x : Port) (c2 : Nat) : getHost (putPort s p x) c2 = getHost s c2 := getHost_congr c2 (putPort_host ..)
@[simp] theorem getFar_putPort (p : Nat) (x : Port) (k2 : Nat) : getFar (putPort s p x) k2 = getFar s k2 := getFar_congr k2 (putPort_far ..)
@[simp] theorem getFarPort_putPort (p : Nat) (x : Port) (p2 : Nat) : getFarPort (putPort s p x) p2 = getFarPort s p2 := getFarPort_congr p2 (putPort_far ..)
@[simp] theorem getConv_putPort (p : Nat) (x : Port) (m2 : Nat) : getConv (putPort s p x) m2 = getConv s m2 := getConv_congr m2 (putPort_mon ..)
@[simp] theorem getAcc_putPort (p : Nat) (x : Port) (m2 a2 : Nat) : getAcc (putPort s p x) m2 a2 = getAcc s m2 a2 := getAcc_congr m2 a2 (putPort_mon ..)
@[simp] theorem getTrim_putPort (p : Nat) (x : Port) (c2 : Nat) : getTrim (putPort s p x) c2 = getTrim s c2 := getTrim_congr c2 (putPort_mon ..)
@[simp] theorem getLoop_putPort (p : Nat) (x : Port) (i2 : Nat) : getLoop (putPort s p x) i2 = getLoop s i2 := getLoop_congr i2 (putPort_rein ..)
@[simp] theorem getBay_putPort (p : Nat) (x : Port) (y2 : Nat) : getBay (putPort s p x) y2 = getBay s y2 := getBay_congr y2 (putPort_loft ..)
@[simp] theorem getDie_putPort (p : Nat) (x : Port) (d2 : Nat) : getDie (putPort s p x) d2 = getDie s d2 := getDie_congr d2 (putPort_pwr ..)

@[simp] theorem putFar_pending (k : Nat) (x : FarStall) : (putFar s k x).pending = s.pending := State.pending_mk ..
@[simp] theorem putFar_time (k : Nat) (x : FarStall) : (putFar s k x).time = s.time := State.time_mk ..
@[simp] theorem putFar_freeCtr (k : Nat) (x : FarStall) : (putFar s k x).freeCtr = s.freeCtr := State.freeCtr_mk ..
@[simp] theorem putFar_regs (k : Nat) (x : FarStall) : (putFar s k x).regs = s.regs := State.regs_mk ..
@[simp] theorem putFar_bus (k : Nat) (x : FarStall) : (putFar s k x).bus = s.bus := State.bus_mk ..
@[simp] theorem putFar_ev (k : Nat) (x : FarStall) : (putFar s k x).ev = s.ev := State.ev_mk ..
@[simp] theorem putFar_sbxFlight (k : Nat) (x : FarStall) : (putFar s k x).sbxFlight = s.sbxFlight := State.sbxFlight_mk ..
@[simp] theorem putFar_stall (k : Nat) (x : FarStall) : (putFar s k x).stall = s.stall := State.stall_mk ..
@[simp] theorem putFar_shed (k : Nat) (x : FarStall) : (putFar s k x).shed = s.shed := State.shed_mk ..
@[simp] theorem putFar_shu (k : Nat) (x : FarStall) : (putFar s k x).shu = s.shu := State.shu_mk ..
@[simp] theorem putFar_sid (k : Nat) (x : FarStall) : (putFar s k x).sid = s.sid := State.sid_mk ..
@[simp] theorem putFar_mem (k : Nat) (x : FarStall) : (putFar s k x).mem = s.mem := State.mem_mk ..
@[simp] theorem putFar_integ (k : Nat) (x : FarStall) : (putFar s k x).integ = s.integ := State.integ_mk ..
@[simp] theorem putFar_tier (k : Nat) (x : FarStall) : (putFar s k x).tier = s.tier := State.tier_mk ..
@[simp] theorem putFar_loft (k : Nat) (x : FarStall) : (putFar s k x).loft = s.loft := State.loft_mk ..
@[simp] theorem putFar_serve (k : Nat) (x : FarStall) : (putFar s k x).serve = s.serve := State.serve_mk ..
@[simp] theorem putFar_host (k : Nat) (x : FarStall) : (putFar s k x).host = s.host := State.host_mk ..
@[simp] theorem putFar_light (k : Nat) (x : FarStall) : (putFar s k x).light = s.light := State.light_mk ..
@[simp] theorem putFar_mon (k : Nat) (x : FarStall) : (putFar s k x).mon = s.mon := State.mon_mk ..
@[simp] theorem putFar_rein (k : Nat) (x : FarStall) : (putFar s k x).rein = s.rein := State.rein_mk ..
@[simp] theorem putFar_pwr (k : Nat) (x : FarStall) : (putFar s k x).pwr = s.pwr := State.pwr_mk ..
@[simp] theorem putFar_drove (k : Nat) (x : FarStall) : (putFar s k x).drove = s.drove := State.drove_mk ..
@[simp] theorem putFar_tack (k : Nat) (x : FarStall) : (putFar s k x).tack = s.tack := State.tack_mk ..
@[simp] theorem putFar_sys (k : Nat) (x : FarStall) : (putFar s k x).sys = s.sys := State.sys_mk ..
@[simp] theorem putFar_evtFilter (k : Nat) (x : FarStall) : (putFar s k x).evtFilter = s.evtFilter := State.evtFilter_mk ..
@[simp] theorem rdReg_putFar (k : Nat) (x : FarStall) (b : Nat) : rdReg (putFar s k x) b = rdReg s b := rdReg_congr b (putFar_regs ..)
@[simp] theorem getF_putFar (k : Nat) (x : FarStall) (g : Field) (w2 i2 k2 : Nat) : getF (putFar s k x) g w2 i2 k2 = getF s g w2 i2 k2 := getF_congr g w2 i2 k2 (putFar_regs ..)
@[simp] theorem getStall_putFar (k : Nat) (x : FarStall) (k2 : Nat) : getStall (putFar s k x) k2 = getStall s k2 := getStall_congr k2 (putFar_stall ..)
@[simp] theorem getShed_putFar (k : Nat) (x : FarStall) (i2 : Nat) : getShed (putFar s k x) i2 = getShed s i2 := getShed_congr i2 (putFar_shed ..)
@[simp] theorem getThread_putFar (k : Nat) (x : FarStall) (i2 t2 : Nat) : getThread (putFar s k x) i2 t2 = getThread s i2 t2 := getThread_congr i2 t2 (putFar_shed ..)
@[simp] theorem getShu_putFar (k : Nat) (x : FarStall) (n2 : Nat) : getShu (putFar s k x) n2 = getShu s n2 := getShu_congr n2 (putFar_shu ..)
@[simp] theorem getChan_putFar (k : Nat) (x : FarStall) (n2 c2 : Nat) : getChan (putFar s k x) n2 c2 = getChan s n2 c2 := getChan_congr n2 c2 (putFar_shu ..)
@[simp] theorem getSid_putFar (k : Nat) (x : FarStall) (d2 i2 : Nat) : getSid (putFar s k x) d2 i2 = getSid s d2 i2 := getSid_congr d2 i2 (putFar_sid ..)
@[simp] theorem getHost_putFar (k : Nat) (x : FarStall) (c2 : Nat) : getHost (putFar s k x) c2 = getHost s c2 := getHost_congr c2 (putFar_host ..)
@[simp] theorem getPort_putFar (k : Nat) (x : FarStall) (p2 : Nat) : getPort (putFar s k x) p2 = getPort s p2 := getPort_congr p2 (putFar_drove ..)
@[simp] theorem getConv_putFar (k : Nat) (x : FarStall) (m2 : Nat) : getConv (putFar s k x) m2 = getConv s m2 := getConv_congr m2 (putFar_mon ..)
@[simp] theorem getAcc_putFar (k : Nat) (x : FarStall) (m2 a2 : Nat) : getAcc (putFar s k x) m2 a2 = getAcc s m2 a2 := getAcc_congr m2 a2 (putFar_mon ..)
@[simp] theorem getTrim_putFar (k : Nat) (x : FarStall) (c2 : Nat) : getTrim (putFar s k x) c2 = getTrim s c2 := getTrim_congr c2 (putFar_mon ..)
@[simp] theorem getLoop_putFar (k : Nat) (x : FarStall) (i2 : Nat) : getLoop (putFar s k x) i2 = getLoop s i2 := getLoop_congr i2 (putFar_rein ..)
@[simp] theorem getBay_putFar (k : Nat) (x : FarStall) (y2 : Nat) : getBay (putFar s k x) y2 = getBay s y2 := getBay_congr y2 (putFar_loft ..)
@[simp] theorem getDie_putFar (k : Nat) (x : FarStall) (d2 : Nat) : getDie (putFar s k x) d2 = getDie s d2 := getDie_congr d2 (putFar_pwr ..)

@[simp] theorem putFarPort_pending (p : Nat) (x : FarPort) : (putFarPort s p x).pending = s.pending := State.pending_mk ..
@[simp] theorem putFarPort_time (p : Nat) (x : FarPort) : (putFarPort s p x).time = s.time := State.time_mk ..
@[simp] theorem putFarPort_freeCtr (p : Nat) (x : FarPort) : (putFarPort s p x).freeCtr = s.freeCtr := State.freeCtr_mk ..
@[simp] theorem putFarPort_regs (p : Nat) (x : FarPort) : (putFarPort s p x).regs = s.regs := State.regs_mk ..
@[simp] theorem putFarPort_bus (p : Nat) (x : FarPort) : (putFarPort s p x).bus = s.bus := State.bus_mk ..
@[simp] theorem putFarPort_ev (p : Nat) (x : FarPort) : (putFarPort s p x).ev = s.ev := State.ev_mk ..
@[simp] theorem putFarPort_sbxFlight (p : Nat) (x : FarPort) : (putFarPort s p x).sbxFlight = s.sbxFlight := State.sbxFlight_mk ..
@[simp] theorem putFarPort_stall (p : Nat) (x : FarPort) : (putFarPort s p x).stall = s.stall := State.stall_mk ..
@[simp] theorem putFarPort_shed (p : Nat) (x : FarPort) : (putFarPort s p x).shed = s.shed := State.shed_mk ..
@[simp] theorem putFarPort_shu (p : Nat) (x : FarPort) : (putFarPort s p x).shu = s.shu := State.shu_mk ..
@[simp] theorem putFarPort_sid (p : Nat) (x : FarPort) : (putFarPort s p x).sid = s.sid := State.sid_mk ..
@[simp] theorem putFarPort_mem (p : Nat) (x : FarPort) : (putFarPort s p x).mem = s.mem := State.mem_mk ..
@[simp] theorem putFarPort_integ (p : Nat) (x : FarPort) : (putFarPort s p x).integ = s.integ := State.integ_mk ..
@[simp] theorem putFarPort_tier (p : Nat) (x : FarPort) : (putFarPort s p x).tier = s.tier := State.tier_mk ..
@[simp] theorem putFarPort_loft (p : Nat) (x : FarPort) : (putFarPort s p x).loft = s.loft := State.loft_mk ..
@[simp] theorem putFarPort_serve (p : Nat) (x : FarPort) : (putFarPort s p x).serve = s.serve := State.serve_mk ..
@[simp] theorem putFarPort_host (p : Nat) (x : FarPort) : (putFarPort s p x).host = s.host := State.host_mk ..
@[simp] theorem putFarPort_light (p : Nat) (x : FarPort) : (putFarPort s p x).light = s.light := State.light_mk ..
@[simp] theorem putFarPort_mon (p : Nat) (x : FarPort) : (putFarPort s p x).mon = s.mon := State.mon_mk ..
@[simp] theorem putFarPort_rein (p : Nat) (x : FarPort) : (putFarPort s p x).rein = s.rein := State.rein_mk ..
@[simp] theorem putFarPort_pwr (p : Nat) (x : FarPort) : (putFarPort s p x).pwr = s.pwr := State.pwr_mk ..
@[simp] theorem putFarPort_drove (p : Nat) (x : FarPort) : (putFarPort s p x).drove = s.drove := State.drove_mk ..
@[simp] theorem putFarPort_tack (p : Nat) (x : FarPort) : (putFarPort s p x).tack = s.tack := State.tack_mk ..
@[simp] theorem putFarPort_sys (p : Nat) (x : FarPort) : (putFarPort s p x).sys = s.sys := State.sys_mk ..
@[simp] theorem putFarPort_evtFilter (p : Nat) (x : FarPort) : (putFarPort s p x).evtFilter = s.evtFilter := State.evtFilter_mk ..
@[simp] theorem rdReg_putFarPort (p : Nat) (x : FarPort) (b : Nat) : rdReg (putFarPort s p x) b = rdReg s b := rdReg_congr b (putFarPort_regs ..)
@[simp] theorem getF_putFarPort (p : Nat) (x : FarPort) (g : Field) (w2 i2 k2 : Nat) : getF (putFarPort s p x) g w2 i2 k2 = getF s g w2 i2 k2 := getF_congr g w2 i2 k2 (putFarPort_regs ..)
@[simp] theorem getStall_putFarPort (p : Nat) (x : FarPort) (k2 : Nat) : getStall (putFarPort s p x) k2 = getStall s k2 := getStall_congr k2 (putFarPort_stall ..)
@[simp] theorem getShed_putFarPort (p : Nat) (x : FarPort) (i2 : Nat) : getShed (putFarPort s p x) i2 = getShed s i2 := getShed_congr i2 (putFarPort_shed ..)
@[simp] theorem getThread_putFarPort (p : Nat) (x : FarPort) (i2 t2 : Nat) : getThread (putFarPort s p x) i2 t2 = getThread s i2 t2 := getThread_congr i2 t2 (putFarPort_shed ..)
@[simp] theorem getShu_putFarPort (p : Nat) (x : FarPort) (n2 : Nat) : getShu (putFarPort s p x) n2 = getShu s n2 := getShu_congr n2 (putFarPort_shu ..)
@[simp] theorem getChan_putFarPort (p : Nat) (x : FarPort) (n2 c2 : Nat) : getChan (putFarPort s p x) n2 c2 = getChan s n2 c2 := getChan_congr n2 c2 (putFarPort_shu ..)
@[simp] theorem getSid_putFarPort (p : Nat) (x : FarPort) (d2 i2 : Nat) : getSid (putFarPort s p x) d2 i2 = getSid s d2 i2 := getSid_congr d2 i2 (putFarPort_sid ..)
@[simp] theorem getHost_putFarPort (p : Nat) (x : FarPort) (c2 : Nat) : getHost (putFarPort s p x) c2 = getHost s c2 := getHost_congr c2 (putFarPort_host ..)
@[simp] theorem getPort_putFarPort (p : Nat) (x : FarPort) (p2 : Nat) : getPort (putFarPort s p x) p2 = getPort s p2 := getPort_congr p2 (putFarPort_drove ..)
@[simp] theorem getConv_putFarPort (p : Nat) (x : FarPort) (m2 : Nat) : getConv (putFarPort s p x) m2 = getConv s m2 := getConv_congr m2 (putFarPort_mon ..)
@[simp] theorem getAcc_putFarPort (p : Nat) (x : FarPort) (m2 a2 : Nat) : getAcc (putFarPort s p x) m2 a2 = getAcc s m2 a2 := getAcc_congr m2 a2 (putFarPort_mon ..)
@[simp] theorem getTrim_putFarPort (p : Nat) (x : FarPort) (c2 : Nat) : getTrim (putFarPort s p x) c2 = getTrim s c2 := getTrim_congr c2 (putFarPort_mon ..)
@[simp] theorem getLoop_putFarPort (p : Nat) (x : FarPort) (i2 : Nat) : getLoop (putFarPort s p x) i2 = getLoop s i2 := getLoop_congr i2 (putFarPort_rein ..)
@[simp] theorem getBay_putFarPort (p : Nat) (x : FarPort) (y2 : Nat) : getBay (putFarPort s p x) y2 = getBay s y2 := getBay_congr y2 (putFarPort_loft ..)
@[simp] theorem getDie_putFarPort (p : Nat) (x : FarPort) (d2 : Nat) : getDie (putFarPort s p x) d2 = getDie s d2 := getDie_congr d2 (putFarPort_pwr ..)

@[simp] theorem putConv_pending (m : Nat) (x : Converter) : (putConv s m x).pending = s.pending := State.pending_mk ..
@[simp] theorem putConv_time (m : Nat) (x : Converter) : (putConv s m x).time = s.time := State.time_mk ..
@[simp] theorem putConv_freeCtr (m : Nat) (x : Converter) : (putConv s m x).freeCtr = s.freeCtr := State.freeCtr_mk ..
@[simp] theorem putConv_regs (m : Nat) (x : Converter) : (putConv s m x).regs = s.regs := State.regs_mk ..
@[simp] theorem putConv_bus (m : Nat) (x : Converter) : (putConv s m x).bus = s.bus := State.bus_mk ..
@[simp] theorem putConv_ev (m : Nat) (x : Converter) : (putConv s m x).ev = s.ev := State.ev_mk ..
@[simp] theorem putConv_sbxFlight (m : Nat) (x : Converter) : (putConv s m x).sbxFlight = s.sbxFlight := State.sbxFlight_mk ..
@[simp] theorem putConv_stall (m : Nat) (x : Converter) : (putConv s m x).stall = s.stall := State.stall_mk ..
@[simp] theorem putConv_shed (m : Nat) (x : Converter) : (putConv s m x).shed = s.shed := State.shed_mk ..
@[simp] theorem putConv_shu (m : Nat) (x : Converter) : (putConv s m x).shu = s.shu := State.shu_mk ..
@[simp] theorem putConv_sid (m : Nat) (x : Converter) : (putConv s m x).sid = s.sid := State.sid_mk ..
@[simp] theorem putConv_mem (m : Nat) (x : Converter) : (putConv s m x).mem = s.mem := State.mem_mk ..
@[simp] theorem putConv_integ (m : Nat) (x : Converter) : (putConv s m x).integ = s.integ := State.integ_mk ..
@[simp] theorem putConv_tier (m : Nat) (x : Converter) : (putConv s m x).tier = s.tier := State.tier_mk ..
@[simp] theorem putConv_loft (m : Nat) (x : Converter) : (putConv s m x).loft = s.loft := State.loft_mk ..
@[simp] theorem putConv_serve (m : Nat) (x : Converter) : (putConv s m x).serve = s.serve := State.serve_mk ..
@[simp] theorem putConv_host (m : Nat) (x : Converter) : (putConv s m x).host = s.host := State.host_mk ..
@[simp] theorem putConv_light (m : Nat) (x : Converter) : (putConv s m x).light = s.light := State.light_mk ..
@[simp] theorem putConv_rein (m : Nat) (x : Converter) : (putConv s m x).rein = s.rein := State.rein_mk ..
@[simp] theorem putConv_far (m : Nat) (x : Converter) : (putConv s m x).far = s.far := State.far_mk ..
@[simp] theorem putConv_pwr (m : Nat) (x : Converter) : (putConv s m x).pwr = s.pwr := State.pwr_mk ..
@[simp] theorem putConv_drove (m : Nat) (x : Converter) : (putConv s m x).drove = s.drove := State.drove_mk ..
@[simp] theorem putConv_tack (m : Nat) (x : Converter) : (putConv s m x).tack = s.tack := State.tack_mk ..
@[simp] theorem putConv_sys (m : Nat) (x : Converter) : (putConv s m x).sys = s.sys := State.sys_mk ..
@[simp] theorem putConv_evtFilter (m : Nat) (x : Converter) : (putConv s m x).evtFilter = s.evtFilter := State.evtFilter_mk ..
@[simp] theorem rdReg_putConv (m : Nat) (x : Converter) (b : Nat) : rdReg (putConv s m x) b = rdReg s b := rdReg_congr b (putConv_regs ..)
@[simp] theorem getF_putConv (m : Nat) (x : Converter) (g : Field) (w2 i2 k2 : Nat) : getF (putConv s m x) g w2 i2 k2 = getF s g w2 i2 k2 := getF_congr g w2 i2 k2 (putConv_regs ..)
@[simp] theorem getStall_putConv (m : Nat) (x : Converter) (k2 : Nat) : getStall (putConv s m x) k2 = getStall s k2 := getStall_congr k2 (putConv_stall ..)
@[simp] theorem getShed_putConv (m : Nat) (x : Converter) (i2 : Nat) : getShed (putConv s m x) i2 = getShed s i2 := getShed_congr i2 (putConv_shed ..)
@[simp] theorem getThread_putConv (m : Nat) (x : Converter) (i2 t2 : Nat) : getThread (putConv s m x) i2 t2 = getThread s i2 t2 := getThread_congr i2 t2 (putConv_shed ..)
@[simp] theorem getShu_putConv (m : Nat) (x : Converter) (n2 : Nat) : getShu (putConv s m x) n2 = getShu s n2 := getShu_congr n2 (putConv_shu ..)
@[simp] theorem getChan_putConv (m : Nat) (x : Converter) (n2 c2 : Nat) : getChan (putConv s m x) n2 c2 = getChan s n2 c2 := getChan_congr n2 c2 (putConv_shu ..)
@[simp] theorem getSid_putConv (m : Nat) (x : Converter) (d2 i2 : Nat) : getSid (putConv s m x) d2 i2 = getSid s d2 i2 := getSid_congr d2 i2 (putConv_sid ..)
@[simp] theorem getHost_putConv (m : Nat) (x : Converter) (c2 : Nat) : getHost (putConv s m x) c2 = getHost s c2 := getHost_congr c2 (putConv_host ..)
@[simp] theorem getPort_putConv (m : Nat) (x : Converter) (p2 : Nat) : getPort (putConv s m x) p2 = getPort s p2 := getPort_congr p2 (putConv_drove ..)
@[simp] theorem getFar_putConv (m : Nat) (x : Converter) (k2 : Nat) : getFar (putConv s m x) k2 = getFar s k2 := getFar_congr k2 (putConv_far ..)
@[simp] theorem getFarPort_putConv (m : Nat) (x : Converter) (p2 : Nat) : getFarPort (putConv s m x) p2 = getFarPort s p2 := getFarPort_congr p2 (putConv_far ..)
@[simp] theorem getLoop_putConv (m : Nat) (x : Converter) (i2 : Nat) : getLoop (putConv s m x) i2 = getLoop s i2 := getLoop_congr i2 (putConv_rein ..)
@[simp] theorem getBay_putConv (m : Nat) (x : Converter) (y2 : Nat) : getBay (putConv s m x) y2 = getBay s y2 := getBay_congr y2 (putConv_loft ..)
@[simp] theorem getDie_putConv (m : Nat) (x : Converter) (d2 : Nat) : getDie (putConv s m x) d2 = getDie s d2 := getDie_congr d2 (putConv_pwr ..)

@[simp] theorem putAcc_pending (m a : Nat) (x : Acc) : (putAcc s m a x).pending = s.pending := State.pending_mk ..
@[simp] theorem putAcc_time (m a : Nat) (x : Acc) : (putAcc s m a x).time = s.time := State.time_mk ..
@[simp] theorem putAcc_freeCtr (m a : Nat) (x : Acc) : (putAcc s m a x).freeCtr = s.freeCtr := State.freeCtr_mk ..
@[simp] theorem putAcc_regs (m a : Nat) (x : Acc) : (putAcc s m a x).regs = s.regs := State.regs_mk ..
@[simp] theorem putAcc_bus (m a : Nat) (x : Acc) : (putAcc s m a x).bus = s.bus := State.bus_mk ..
@[simp] theorem putAcc_ev (m a : Nat) (x : Acc) : (putAcc s m a x).ev = s.ev := State.ev_mk ..
@[simp] theorem putAcc_sbxFlight (m a : Nat) (x : Acc) : (putAcc s m a x).sbxFlight = s.sbxFlight := State.sbxFlight_mk ..
@[simp] theorem putAcc_stall (m a : Nat) (x : Acc) : (putAcc s m a x).stall = s.stall := State.stall_mk ..
@[simp] theorem putAcc_shed (m a : Nat) (x : Acc) : (putAcc s m a x).shed = s.shed := State.shed_mk ..
@[simp] theorem putAcc_shu (m a : Nat) (x : Acc) : (putAcc s m a x).shu = s.shu := State.shu_mk ..
@[simp] theorem putAcc_sid (m a : Nat) (x : Acc) : (putAcc s m a x).sid = s.sid := State.sid_mk ..
@[simp] theorem putAcc_mem (m a : Nat) (x : Acc) : (putAcc s m a x).mem = s.mem := State.mem_mk ..
@[simp] theorem putAcc_integ (m a : Nat) (x : Acc) : (putAcc s m a x).integ = s.integ := State.integ_mk ..
@[simp] theorem putAcc_tier (m a : Nat) (x : Acc) : (putAcc s m a x).tier = s.tier := State.tier_mk ..
@[simp] theorem putAcc_loft (m a : Nat) (x : Acc) : (putAcc s m a x).loft = s.loft := State.loft_mk ..
@[simp] theorem putAcc_serve (m a : Nat) (x : Acc) : (putAcc s m a x).serve = s.serve := State.serve_mk ..
@[simp] theorem putAcc_host (m a : Nat) (x : Acc) : (putAcc s m a x).host = s.host := State.host_mk ..
@[simp] theorem putAcc_light (m a : Nat) (x : Acc) : (putAcc s m a x).light = s.light := State.light_mk ..
@[simp] theorem putAcc_rein (m a : Nat) (x : Acc) : (putAcc s m a x).rein = s.rein := State.rein_mk ..
@[simp] theorem putAcc_far (m a : Nat) (x : Acc) : (putAcc s m a x).far = s.far := State.far_mk ..
@[simp] theorem putAcc_pwr (m a : Nat) (x : Acc) : (putAcc s m a x).pwr = s.pwr := State.pwr_mk ..
@[simp] theorem putAcc_drove (m a : Nat) (x : Acc) : (putAcc s m a x).drove = s.drove := State.drove_mk ..
@[simp] theorem putAcc_tack (m a : Nat) (x : Acc) : (putAcc s m a x).tack = s.tack := State.tack_mk ..
@[simp] theorem putAcc_sys (m a : Nat) (x : Acc) : (putAcc s m a x).sys = s.sys := State.sys_mk ..
@[simp] theorem putAcc_evtFilter (m a : Nat) (x : Acc) : (putAcc s m a x).evtFilter = s.evtFilter := State.evtFilter_mk ..
@[simp] theorem rdReg_putAcc (m a : Nat) (x : Acc) (b : Nat) : rdReg (putAcc s m a x) b = rdReg s b := rdReg_congr b (putAcc_regs ..)
@[simp] theorem getF_putAcc (m a : Nat) (x : Acc) (g : Field) (w2 i2 k2 : Nat) : getF (putAcc s m a x) g w2 i2 k2 = getF s g w2 i2 k2 := getF_congr g w2 i2 k2 (putAcc_regs ..)
@[simp] theorem getStall_putAcc (m a : Nat) (x : Acc) (k2 : Nat) : getStall (putAcc s m a x) k2 = getStall s k2 := getStall_congr k2 (putAcc_stall ..)
@[simp] theorem getShed_putAcc (m a : Nat) (x : Acc) (i2 : Nat) : getShed (putAcc s m a x) i2 = getShed s i2 := getShed_congr i2 (putAcc_shed ..)
@[simp] theorem getThread_putAcc (m a : Nat) (x : Acc) (i2 t2 : Nat) : getThread (putAcc s m a x) i2 t2 = getThread s i2 t2 := getThread_congr i2 t2 (putAcc_shed ..)
@[simp] theorem getShu_putAcc (m a : Nat) (x : Acc) (n2 : Nat) : getShu (putAcc s m a x) n2 = getShu s n2 := getShu_congr n2 (putAcc_shu ..)
@[simp] theorem getChan_putAcc (m a : Nat) (x : Acc) (n2 c2 : Nat) : getChan (putAcc s m a x) n2 c2 = getChan s n2 c2 := getChan_congr n2 c2 (putAcc_shu ..)
@[simp] theorem getSid_putAcc (m a : Nat) (x : Acc) (d2 i2 : Nat) : getSid (putAcc s m a x) d2 i2 = getSid s d2 i2 := getSid_congr d2 i2 (putAcc_sid ..)
@[simp] theorem getHost_putAcc (m a : Nat) (x : Acc) (c2 : Nat) : getHost (putAcc s m a x) c2 = getHost s c2 := getHost_congr c2 (putAcc_host ..)
@[simp] theorem getPort_putAcc (m a : Nat) (x : Acc) (p2 : Nat) : getPort (putAcc s m a x) p2 = getPort s p2 := getPort_congr p2 (putAcc_drove ..)
@[simp] theorem getFar_putAcc (m a : Nat) (x : Acc) (k2 : Nat) : getFar (putAcc s m a x) k2 = getFar s k2 := getFar_congr k2 (putAcc_far ..)
@[simp] theorem getFarPort_putAcc (m a : Nat) (x : Acc) (p2 : Nat) : getFarPort (putAcc s m a x) p2 = getFarPort s p2 := getFarPort_congr p2 (putAcc_far ..)
@[simp] theorem getLoop_putAcc (m a : Nat) (x : Acc) (i2 : Nat) : getLoop (putAcc s m a x) i2 = getLoop s i2 := getLoop_congr i2 (putAcc_rein ..)
@[simp] theorem getBay_putAcc (m a : Nat) (x : Acc) (y2 : Nat) : getBay (putAcc s m a x) y2 = getBay s y2 := getBay_congr y2 (putAcc_loft ..)
@[simp] theorem getDie_putAcc (m a : Nat) (x : Acc) (d2 : Nat) : getDie (putAcc s m a x) d2 = getDie s d2 := getDie_congr d2 (putAcc_pwr ..)

@[simp] theorem putTrim_pending (c : Nat) (x : Trim) : (putTrim s c x).pending = s.pending := State.pending_mk ..
@[simp] theorem putTrim_time (c : Nat) (x : Trim) : (putTrim s c x).time = s.time := State.time_mk ..
@[simp] theorem putTrim_freeCtr (c : Nat) (x : Trim) : (putTrim s c x).freeCtr = s.freeCtr := State.freeCtr_mk ..
@[simp] theorem putTrim_regs (c : Nat) (x : Trim) : (putTrim s c x).regs = s.regs := State.regs_mk ..
@[simp] theorem putTrim_bus (c : Nat) (x : Trim) : (putTrim s c x).bus = s.bus := State.bus_mk ..
@[simp] theorem putTrim_ev (c : Nat) (x : Trim) : (putTrim s c x).ev = s.ev := State.ev_mk ..
@[simp] theorem putTrim_sbxFlight (c : Nat) (x : Trim) : (putTrim s c x).sbxFlight = s.sbxFlight := State.sbxFlight_mk ..
@[simp] theorem putTrim_stall (c : Nat) (x : Trim) : (putTrim s c x).stall = s.stall := State.stall_mk ..
@[simp] theorem putTrim_shed (c : Nat) (x : Trim) : (putTrim s c x).shed = s.shed := State.shed_mk ..
@[simp] theorem putTrim_shu (c : Nat) (x : Trim) : (putTrim s c x).shu = s.shu := State.shu_mk ..
@[simp] theorem putTrim_sid (c : Nat) (x : Trim) : (putTrim s c x).sid = s.sid := State.sid_mk ..
@[simp] theorem putTrim_mem (c : Nat) (x : Trim) : (putTrim s c x).mem = s.mem := State.mem_mk ..
@[simp] theorem putTrim_integ (c : Nat) (x : Trim) : (putTrim s c x).integ = s.integ := State.integ_mk ..
@[simp] theorem putTrim_tier (c : Nat) (x : Trim) : (putTrim s c x).tier = s.tier := State.tier_mk ..
@[simp] theorem putTrim_loft (c : Nat) (x : Trim) : (putTrim s c x).loft = s.loft := State.loft_mk ..
@[simp] theorem putTrim_serve (c : Nat) (x : Trim) : (putTrim s c x).serve = s.serve := State.serve_mk ..
@[simp] theorem putTrim_host (c : Nat) (x : Trim) : (putTrim s c x).host = s.host := State.host_mk ..
@[simp] theorem putTrim_light (c : Nat) (x : Trim) : (putTrim s c x).light = s.light := State.light_mk ..
@[simp] theorem putTrim_rein (c : Nat) (x : Trim) : (putTrim s c x).rein = s.rein := State.rein_mk ..
@[simp] theorem putTrim_far (c : Nat) (x : Trim) : (putTrim s c x).far = s.far := State.far_mk ..
@[simp] theorem putTrim_pwr (c : Nat) (x : Trim) : (putTrim s c x).pwr = s.pwr := State.pwr_mk ..
@[simp] theorem putTrim_drove (c : Nat) (x : Trim) : (putTrim s c x).drove = s.drove := State.drove_mk ..
@[simp] theorem putTrim_tack (c : Nat) (x : Trim) : (putTrim s c x).tack = s.tack := State.tack_mk ..
@[simp] theorem putTrim_sys (c : Nat) (x : Trim) : (putTrim s c x).sys = s.sys := State.sys_mk ..
@[simp] theorem putTrim_evtFilter (c : Nat) (x : Trim) : (putTrim s c x).evtFilter = s.evtFilter := State.evtFilter_mk ..
@[simp] theorem rdReg_putTrim (c : Nat) (x : Trim) (b : Nat) : rdReg (putTrim s c x) b = rdReg s b := rdReg_congr b (putTrim_regs ..)
@[simp] theorem getF_putTrim (c : Nat) (x : Trim) (g : Field) (w2 i2 k2 : Nat) : getF (putTrim s c x) g w2 i2 k2 = getF s g w2 i2 k2 := getF_congr g w2 i2 k2 (putTrim_regs ..)
@[simp] theorem getStall_putTrim (c : Nat) (x : Trim) (k2 : Nat) : getStall (putTrim s c x) k2 = getStall s k2 := getStall_congr k2 (putTrim_stall ..)
@[simp] theorem getShed_putTrim (c : Nat) (x : Trim) (i2 : Nat) : getShed (putTrim s c x) i2 = getShed s i2 := getShed_congr i2 (putTrim_shed ..)
@[simp] theorem getThread_putTrim (c : Nat) (x : Trim) (i2 t2 : Nat) : getThread (putTrim s c x) i2 t2 = getThread s i2 t2 := getThread_congr i2 t2 (putTrim_shed ..)
@[simp] theorem getShu_putTrim (c : Nat) (x : Trim) (n2 : Nat) : getShu (putTrim s c x) n2 = getShu s n2 := getShu_congr n2 (putTrim_shu ..)
@[simp] theorem getChan_putTrim (c : Nat) (x : Trim) (n2 c2 : Nat) : getChan (putTrim s c x) n2 c2 = getChan s n2 c2 := getChan_congr n2 c2 (putTrim_shu ..)
@[simp] theorem getSid_putTrim (c : Nat) (x : Trim) (d2 i2 : Nat) : getSid (putTrim s c x) d2 i2 = getSid s d2 i2 := getSid_congr d2 i2 (putTrim_sid ..)
@[simp] theorem getHost_putTrim (c : Nat) (x : Trim) (c2 : Nat) : getHost (putTrim s c x) c2 = getHost s c2 := getHost_congr c2 (putTrim_host ..)
@[simp] theorem getPort_putTrim (c : Nat) (x : Trim) (p2 : Nat) : getPort (putTrim s c x) p2 = getPort s p2 := getPort_congr p2 (putTrim_drove ..)
@[simp] theorem getFar_putTrim (c : Nat) (x : Trim) (k2 : Nat) : getFar (putTrim s c x) k2 = getFar s k2 := getFar_congr k2 (putTrim_far ..)
@[simp] theorem getFarPort_putTrim (c : Nat) (x : Trim) (p2 : Nat) : getFarPort (putTrim s c x) p2 = getFarPort s p2 := getFarPort_congr p2 (putTrim_far ..)
@[simp] theorem getLoop_putTrim (c : Nat) (x : Trim) (i2 : Nat) : getLoop (putTrim s c x) i2 = getLoop s i2 := getLoop_congr i2 (putTrim_rein ..)
@[simp] theorem getBay_putTrim (c : Nat) (x : Trim) (y2 : Nat) : getBay (putTrim s c x) y2 = getBay s y2 := getBay_congr y2 (putTrim_loft ..)
@[simp] theorem getDie_putTrim (c : Nat) (x : Trim) (d2 : Nat) : getDie (putTrim s c x) d2 = getDie s d2 := getDie_congr d2 (putTrim_pwr ..)

@[simp] theorem putLoop_pending (i : Nat) (x : LoopSt) : (putLoop s i x).pending = s.pending := State.pending_mk ..
@[simp] theorem putLoop_time (i : Nat) (x : LoopSt) : (putLoop s i x).time = s.time := State.time_mk ..
@[simp] theorem putLoop_freeCtr (i : Nat) (x : LoopSt) : (putLoop s i x).freeCtr = s.freeCtr := State.freeCtr_mk ..
@[simp] theorem putLoop_regs (i : Nat) (x : LoopSt) : (putLoop s i x).regs = s.regs := State.regs_mk ..
@[simp] theorem putLoop_bus (i : Nat) (x : LoopSt) : (putLoop s i x).bus = s.bus := State.bus_mk ..
@[simp] theorem putLoop_ev (i : Nat) (x : LoopSt) : (putLoop s i x).ev = s.ev := State.ev_mk ..
@[simp] theorem putLoop_sbxFlight (i : Nat) (x : LoopSt) : (putLoop s i x).sbxFlight = s.sbxFlight := State.sbxFlight_mk ..
@[simp] theorem putLoop_stall (i : Nat) (x : LoopSt) : (putLoop s i x).stall = s.stall := State.stall_mk ..
@[simp] theorem putLoop_shed (i : Nat) (x : LoopSt) : (putLoop s i x).shed = s.shed := State.shed_mk ..
@[simp] theorem putLoop_shu (i : Nat) (x : LoopSt) : (putLoop s i x).shu = s.shu := State.shu_mk ..
@[simp] theorem putLoop_sid (i : Nat) (x : LoopSt) : (putLoop s i x).sid = s.sid := State.sid_mk ..
@[simp] theorem putLoop_mem (i : Nat) (x : LoopSt) : (putLoop s i x).mem = s.mem := State.mem_mk ..
@[simp] theorem putLoop_integ (i : Nat) (x : LoopSt) : (putLoop s i x).integ = s.integ := State.integ_mk ..
@[simp] theorem putLoop_tier (i : Nat) (x : LoopSt) : (putLoop s i x).tier = s.tier := State.tier_mk ..
@[simp] theorem putLoop_loft (i : Nat) (x : LoopSt) : (putLoop s i x).loft = s.loft := State.loft_mk ..
@[simp] theorem putLoop_serve (i : Nat) (x : LoopSt) : (putLoop s i x).serve = s.serve := State.serve_mk ..
@[simp] theorem putLoop_host (i : Nat) (x : LoopSt) : (putLoop s i x).host = s.host := State.host_mk ..
@[simp] theorem putLoop_light (i : Nat) (x : LoopSt) : (putLoop s i x).light = s.light := State.light_mk ..
@[simp] theorem putLoop_mon (i : Nat) (x : LoopSt) : (putLoop s i x).mon = s.mon := State.mon_mk ..
@[simp] theorem putLoop_far (i : Nat) (x : LoopSt) : (putLoop s i x).far = s.far := State.far_mk ..
@[simp] theorem putLoop_pwr (i : Nat) (x : LoopSt) : (putLoop s i x).pwr = s.pwr := State.pwr_mk ..
@[simp] theorem putLoop_drove (i : Nat) (x : LoopSt) : (putLoop s i x).drove = s.drove := State.drove_mk ..
@[simp] theorem putLoop_tack (i : Nat) (x : LoopSt) : (putLoop s i x).tack = s.tack := State.tack_mk ..
@[simp] theorem putLoop_sys (i : Nat) (x : LoopSt) : (putLoop s i x).sys = s.sys := State.sys_mk ..
@[simp] theorem putLoop_evtFilter (i : Nat) (x : LoopSt) : (putLoop s i x).evtFilter = s.evtFilter := State.evtFilter_mk ..
@[simp] theorem rdReg_putLoop (i : Nat) (x : LoopSt) (b : Nat) : rdReg (putLoop s i x) b = rdReg s b := rdReg_congr b (putLoop_regs ..)
@[simp] theorem getF_putLoop (i : Nat) (x : LoopSt) (g : Field) (w2 i2 k2 : Nat) : getF (putLoop s i x) g w2 i2 k2 = getF s g w2 i2 k2 := getF_congr g w2 i2 k2 (putLoop_regs ..)
@[simp] theorem getStall_putLoop (i : Nat) (x : LoopSt) (k2 : Nat) : getStall (putLoop s i x) k2 = getStall s k2 := getStall_congr k2 (putLoop_stall ..)
@[simp] theorem getShed_putLoop (i : Nat) (x : LoopSt) (i2 : Nat) : getShed (putLoop s i x) i2 = getShed s i2 := getShed_congr i2 (putLoop_shed ..)
@[simp] theorem getThread_putLoop (i : Nat) (x : LoopSt) (i2 t2 : Nat) : getThread (putLoop s i x) i2 t2 = getThread s i2 t2 := getThread_congr i2 t2 (putLoop_shed ..)
@[simp] theorem getShu_putLoop (i : Nat) (x : LoopSt) (n2 : Nat) : getShu (putLoop s i x) n2 = getShu s n2 := getShu_congr n2 (putLoop_shu ..)
@[simp] theorem getChan_putLoop (i : Nat) (x : LoopSt) (n2 c2 : Nat) : getChan (putLoop s i x) n2 c2 = getChan s n2 c2 := getChan_congr n2 c2 (putLoop_shu ..)
@[simp] theorem getSid_putLoop (i : Nat) (x : LoopSt) (d2 i2 : Nat) : getSid (putLoop s i x) d2 i2 = getSid s d2 i2 := getSid_congr d2 i2 (putLoop_sid ..)
@[simp] theorem getHost_putLoop (i : Nat) (x : LoopSt) (c2 : Nat) : getHost (putLoop s i x) c2 = getHost s c2 := getHost_congr c2 (putLoop_host ..)
@[simp] theorem getPort_putLoop (i : Nat) (x : LoopSt) (p2 : Nat) : getPort (putLoop s i x) p2 = getPort s p2 := getPort_congr p2 (putLoop_drove ..)
@[simp] theorem getFar_putLoop (i : Nat) (x : LoopSt) (k2 : Nat) : getFar (putLoop s i x) k2 = getFar s k2 := getFar_congr k2 (putLoop_far ..)
@[simp] theorem getFarPort_putLoop (i : Nat) (x : LoopSt) (p2 : Nat) : getFarPort (putLoop s i x) p2 = getFarPort s p2 := getFarPort_congr p2 (putLoop_far ..)
@[simp] theorem getConv_putLoop (i : Nat) (x : LoopSt) (m2 : Nat) : getConv (putLoop s i x) m2 = getConv s m2 := getConv_congr m2 (putLoop_mon ..)
@[simp] theorem getAcc_putLoop (i : Nat) (x : LoopSt) (m2 a2 : Nat) : getAcc (putLoop s i x) m2 a2 = getAcc s m2 a2 := getAcc_congr m2 a2 (putLoop_mon ..)
@[simp] theorem getTrim_putLoop (i : Nat) (x : LoopSt) (c2 : Nat) : getTrim (putLoop s i x) c2 = getTrim s c2 := getTrim_congr c2 (putLoop_mon ..)
@[simp] theorem getBay_putLoop (i : Nat) (x : LoopSt) (y2 : Nat) : getBay (putLoop s i x) y2 = getBay s y2 := getBay_congr y2 (putLoop_loft ..)
@[simp] theorem getDie_putLoop (i : Nat) (x : LoopSt) (d2 : Nat) : getDie (putLoop s i x) d2 = getDie s d2 := getDie_congr d2 (putLoop_pwr ..)

@[simp] theorem putBay_pending (y : Nat) (x : Bay) : (putBay s y x).pending = s.pending := State.pending_mk ..
@[simp] theorem putBay_time (y : Nat) (x : Bay) : (putBay s y x).time = s.time := State.time_mk ..
@[simp] theorem putBay_freeCtr (y : Nat) (x : Bay) : (putBay s y x).freeCtr = s.freeCtr := State.freeCtr_mk ..
@[simp] theorem putBay_regs (y : Nat) (x : Bay) : (putBay s y x).regs = s.regs := State.regs_mk ..
@[simp] theorem putBay_bus (y : Nat) (x : Bay) : (putBay s y x).bus = s.bus := State.bus_mk ..
@[simp] theorem putBay_ev (y : Nat) (x : Bay) : (putBay s y x).ev = s.ev := State.ev_mk ..
@[simp] theorem putBay_sbxFlight (y : Nat) (x : Bay) : (putBay s y x).sbxFlight = s.sbxFlight := State.sbxFlight_mk ..
@[simp] theorem putBay_stall (y : Nat) (x : Bay) : (putBay s y x).stall = s.stall := State.stall_mk ..
@[simp] theorem putBay_shed (y : Nat) (x : Bay) : (putBay s y x).shed = s.shed := State.shed_mk ..
@[simp] theorem putBay_shu (y : Nat) (x : Bay) : (putBay s y x).shu = s.shu := State.shu_mk ..
@[simp] theorem putBay_sid (y : Nat) (x : Bay) : (putBay s y x).sid = s.sid := State.sid_mk ..
@[simp] theorem putBay_mem (y : Nat) (x : Bay) : (putBay s y x).mem = s.mem := State.mem_mk ..
@[simp] theorem putBay_integ (y : Nat) (x : Bay) : (putBay s y x).integ = s.integ := State.integ_mk ..
@[simp] theorem putBay_tier (y : Nat) (x : Bay) : (putBay s y x).tier = s.tier := State.tier_mk ..
@[simp] theorem putBay_serve (y : Nat) (x : Bay) : (putBay s y x).serve = s.serve := State.serve_mk ..
@[simp] theorem putBay_host (y : Nat) (x : Bay) : (putBay s y x).host = s.host := State.host_mk ..
@[simp] theorem putBay_light (y : Nat) (x : Bay) : (putBay s y x).light = s.light := State.light_mk ..
@[simp] theorem putBay_mon (y : Nat) (x : Bay) : (putBay s y x).mon = s.mon := State.mon_mk ..
@[simp] theorem putBay_rein (y : Nat) (x : Bay) : (putBay s y x).rein = s.rein := State.rein_mk ..
@[simp] theorem putBay_far (y : Nat) (x : Bay) : (putBay s y x).far = s.far := State.far_mk ..
@[simp] theorem putBay_pwr (y : Nat) (x : Bay) : (putBay s y x).pwr = s.pwr := State.pwr_mk ..
@[simp] theorem putBay_drove (y : Nat) (x : Bay) : (putBay s y x).drove = s.drove := State.drove_mk ..
@[simp] theorem putBay_tack (y : Nat) (x : Bay) : (putBay s y x).tack = s.tack := State.tack_mk ..
@[simp] theorem putBay_sys (y : Nat) (x : Bay) : (putBay s y x).sys = s.sys := State.sys_mk ..
@[simp] theorem putBay_evtFilter (y : Nat) (x : Bay) : (putBay s y x).evtFilter = s.evtFilter := State.evtFilter_mk ..
@[simp] theorem rdReg_putBay (y : Nat) (x : Bay) (b : Nat) : rdReg (putBay s y x) b = rdReg s b := rdReg_congr b (putBay_regs ..)
@[simp] theorem getF_putBay (y : Nat) (x : Bay) (g : Field) (w2 i2 k2 : Nat) : getF (putBay s y x) g w2 i2 k2 = getF s g w2 i2 k2 := getF_congr g w2 i2 k2 (putBay_regs ..)
@[simp] theorem getStall_putBay (y : Nat) (x : Bay) (k2 : Nat) : getStall (putBay s y x) k2 = getStall s k2 := getStall_congr k2 (putBay_stall ..)
@[simp] theorem getShed_putBay (y : Nat) (x : Bay) (i2 : Nat) : getShed (putBay s y x) i2 = getShed s i2 := getShed_congr i2 (putBay_shed ..)
@[simp] theorem getThread_putBay (y : Nat) (x : Bay) (i2 t2 : Nat) : getThread (putBay s y x) i2 t2 = getThread s i2 t2 := getThread_congr i2 t2 (putBay_shed ..)
@[simp] theorem getShu_putBay (y : Nat) (x : Bay) (n2 : Nat) : getShu (putBay s y x) n2 = getShu s n2 := getShu_congr n2 (putBay_shu ..)
@[simp] theorem getChan_putBay (y : Nat) (x : Bay) (n2 c2 : Nat) : getChan (putBay s y x) n2 c2 = getChan s n2 c2 := getChan_congr n2 c2 (putBay_shu ..)
@[simp] theorem getSid_putBay (y : Nat) (x : Bay) (d2 i2 : Nat) : getSid (putBay s y x) d2 i2 = getSid s d2 i2 := getSid_congr d2 i2 (putBay_sid ..)
@[simp] theorem getHost_putBay (y : Nat) (x : Bay) (c2 : Nat) : getHost (putBay s y x) c2 = getHost s c2 := getHost_congr c2 (putBay_host ..)
@[simp] theorem getPort_putBay (y : Nat) (x : Bay) (p2 : Nat) : getPort (putBay s y x) p2 = getPort s p2 := getPort_congr p2 (putBay_drove ..)
@[simp] theorem getFar_putBay (y : Nat) (x : Bay) (k2 : Nat) : getFar (putBay s y x) k2 = getFar s k2 := getFar_congr k2 (putBay_far ..)
@[simp] theorem getFarPort_putBay (y : Nat) (x : Bay) (p2 : Nat) : getFarPort (putBay s y x) p2 = getFarPort s p2 := getFarPort_congr p2 (putBay_far ..)
@[simp] theorem getConv_putBay (y : Nat) (x : Bay) (m2 : Nat) : getConv (putBay s y x) m2 = getConv s m2 := getConv_congr m2 (putBay_mon ..)
@[simp] theorem getAcc_putBay (y : Nat) (x : Bay) (m2 a2 : Nat) : getAcc (putBay s y x) m2 a2 = getAcc s m2 a2 := getAcc_congr m2 a2 (putBay_mon ..)
@[simp] theorem getTrim_putBay (y : Nat) (x : Bay) (c2 : Nat) : getTrim (putBay s y x) c2 = getTrim s c2 := getTrim_congr c2 (putBay_mon ..)
@[simp] theorem getLoop_putBay (y : Nat) (x : Bay) (i2 : Nat) : getLoop (putBay s y x) i2 = getLoop s i2 := getLoop_congr i2 (putBay_rein ..)
@[simp] theorem getDie_putBay (y : Nat) (x : Bay) (d2 : Nat) : getDie (putBay s y x) d2 = getDie s d2 := getDie_congr d2 (putBay_pwr ..)

@[simp] theorem putDie_pending (d : Nat) (x : Die) : (putDie s d x).pending = s.pending := State.pending_mk ..
@[simp] theorem putDie_time (d : Nat) (x : Die) : (putDie s d x).time = s.time := State.time_mk ..
@[simp] theorem putDie_freeCtr (d : Nat) (x : Die) : (putDie s d x).freeCtr = s.freeCtr := State.freeCtr_mk ..
@[simp] theorem putDie_regs (d : Nat) (x : Die) : (putDie s d x).regs = s.regs := State.regs_mk ..
@[simp] theorem putDie_bus (d : Nat) (x : Die) : (putDie s d x).bus = s.bus := State.bus_mk ..
@[simp] theorem putDie_ev (d : Nat) (x : Die) : (putDie s d x).ev = s.ev := State.ev_mk ..
@[simp] theorem putDie_sbxFlight (d : Nat) (x : Die) : (putDie s d x).sbxFlight = s.sbxFlight := State.sbxFlight_mk ..
@[simp] theorem putDie_stall (d : Nat) (x : Die) : (putDie s d x).stall = s.stall := State.stall_mk ..
@[simp] theorem putDie_shed (d : Nat) (x : Die) : (putDie s d x).shed = s.shed := State.shed_mk ..
@[simp] theorem putDie_shu (d : Nat) (x : Die) : (putDie s d x).shu = s.shu := State.shu_mk ..
@[simp] theorem putDie_sid (d : Nat) (x : Die) : (putDie s d x).sid = s.sid := State.sid_mk ..
@[simp] theorem putDie_mem (d : Nat) (x : Die) : (putDie s d x).mem = s.mem := State.mem_mk ..
@[simp] theorem putDie_integ (d : Nat) (x : Die) : (putDie s d x).integ = s.integ := State.integ_mk ..
@[simp] theorem putDie_tier (d : Nat) (x : Die) : (putDie s d x).tier = s.tier := State.tier_mk ..
@[simp] theorem putDie_loft (d : Nat) (x : Die) : (putDie s d x).loft = s.loft := State.loft_mk ..
@[simp] theorem putDie_serve (d : Nat) (x : Die) : (putDie s d x).serve = s.serve := State.serve_mk ..
@[simp] theorem putDie_host (d : Nat) (x : Die) : (putDie s d x).host = s.host := State.host_mk ..
@[simp] theorem putDie_light (d : Nat) (x : Die) : (putDie s d x).light = s.light := State.light_mk ..
@[simp] theorem putDie_mon (d : Nat) (x : Die) : (putDie s d x).mon = s.mon := State.mon_mk ..
@[simp] theorem putDie_rein (d : Nat) (x : Die) : (putDie s d x).rein = s.rein := State.rein_mk ..
@[simp] theorem putDie_far (d : Nat) (x : Die) : (putDie s d x).far = s.far := State.far_mk ..
@[simp] theorem putDie_drove (d : Nat) (x : Die) : (putDie s d x).drove = s.drove := State.drove_mk ..
@[simp] theorem putDie_tack (d : Nat) (x : Die) : (putDie s d x).tack = s.tack := State.tack_mk ..
@[simp] theorem putDie_sys (d : Nat) (x : Die) : (putDie s d x).sys = s.sys := State.sys_mk ..
@[simp] theorem putDie_evtFilter (d : Nat) (x : Die) : (putDie s d x).evtFilter = s.evtFilter := State.evtFilter_mk ..
@[simp] theorem rdReg_putDie (d : Nat) (x : Die) (b : Nat) : rdReg (putDie s d x) b = rdReg s b := rdReg_congr b (putDie_regs ..)
@[simp] theorem getF_putDie (d : Nat) (x : Die) (g : Field) (w2 i2 k2 : Nat) : getF (putDie s d x) g w2 i2 k2 = getF s g w2 i2 k2 := getF_congr g w2 i2 k2 (putDie_regs ..)
@[simp] theorem getStall_putDie (d : Nat) (x : Die) (k2 : Nat) : getStall (putDie s d x) k2 = getStall s k2 := getStall_congr k2 (putDie_stall ..)
@[simp] theorem getShed_putDie (d : Nat) (x : Die) (i2 : Nat) : getShed (putDie s d x) i2 = getShed s i2 := getShed_congr i2 (putDie_shed ..)
@[simp] theorem getThread_putDie (d : Nat) (x : Die) (i2 t2 : Nat) : getThread (putDie s d x) i2 t2 = getThread s i2 t2 := getThread_congr i2 t2 (putDie_shed ..)
@[simp] theorem getShu_putDie (d : Nat) (x : Die) (n2 : Nat) : getShu (putDie s d x) n2 = getShu s n2 := getShu_congr n2 (putDie_shu ..)
@[simp] theorem getChan_putDie (d : Nat) (x : Die) (n2 c2 : Nat) : getChan (putDie s d x) n2 c2 = getChan s n2 c2 := getChan_congr n2 c2 (putDie_shu ..)
@[simp] theorem getSid_putDie (d : Nat) (x : Die) (d2 i2 : Nat) : getSid (putDie s d x) d2 i2 = getSid s d2 i2 := getSid_congr d2 i2 (putDie_sid ..)
@[simp] theorem getHost_putDie (d : Nat) (x : Die) (c2 : Nat) : getHost (putDie s d x) c2 = getHost s c2 := getHost_congr c2 (putDie_host ..)
@[simp] theorem getPort_putDie (d : Nat) (x : Die) (p2 : Nat) : getPort (putDie s d x) p2 = getPort s p2 := getPort_congr p2 (putDie_drove ..)
@[simp] theorem getFar_putDie (d : Nat) (x : Die) (k2 : Nat) : getFar (putDie s d x) k2 = getFar s k2 := getFar_congr k2 (putDie_far ..)
@[simp] theorem getFarPort_putDie (d : Nat) (x : Die) (p2 : Nat) : getFarPort (putDie s d x) p2 = getFarPort s p2 := getFarPort_congr p2 (putDie_far ..)
@[simp] theorem getConv_putDie (d : Nat) (x : Die) (m2 : Nat) : getConv (putDie s d x) m2 = getConv s m2 := getConv_congr m2 (putDie_mon ..)
@[simp] theorem getAcc_putDie (d : Nat) (x : Die) (m2 a2 : Nat) : getAcc (putDie s d x) m2 a2 = getAcc s m2 a2 := getAcc_congr m2 a2 (putDie_mon ..)
@[simp] theorem getTrim_putDie (d : Nat) (x : Die) (c2 : Nat) : getTrim (putDie s d x) c2 = getTrim s c2 := getTrim_congr c2 (putDie_mon ..)
@[simp] theorem getLoop_putDie (d : Nat) (x : Die) (i2 : Nat) : getLoop (putDie s d x) i2 = getLoop s i2 := getLoop_congr i2 (putDie_rein ..)
@[simp] theorem getBay_putDie (d : Nat) (x : Die) (y2 : Nat) : getBay (putDie s d x) y2 = getBay s y2 := getBay_congr y2 (putDie_loft ..)

@[simp] theorem setRawByte_pending (a v : Nat) : (setRawByte s a v).pending = s.pending := State.pending_mk ..
@[simp] theorem setRawByte_time (a v : Nat) : (setRawByte s a v).time = s.time := State.time_mk ..
@[simp] theorem setRawByte_freeCtr (a v : Nat) : (setRawByte s a v).freeCtr = s.freeCtr := State.freeCtr_mk ..
@[simp] theorem setRawByte_regs (a v : Nat) : (setRawByte s a v).regs = s.regs := State.regs_mk ..
@[simp] theorem setRawByte_bus (a v : Nat) : (setRawByte s a v).bus = s.bus := State.bus_mk ..
@[simp] theorem setRawByte_ev (a v : Nat) : (setRawByte s a v).ev = s.ev := State.ev_mk ..
@[simp] theorem setRawByte_sbxFlight (a v : Nat) : (setRawByte s a v).sbxFlight = s.sbxFlight := State.sbxFlight_mk ..
@[simp] theorem setRawByte_stall (a v : Nat) : (setRawByte s a v).stall = s.stall := State.stall_mk ..
@[simp] theorem setRawByte_shed (a v : Nat) : (setRawByte s a v).shed = s.shed := State.shed_mk ..
@[simp] theorem setRawByte_shu (a v : Nat) : (setRawByte s a v).shu = s.shu := State.shu_mk ..
@[simp] theorem setRawByte_sid (a v : Nat) : (setRawByte s a v).sid = s.sid := State.sid_mk ..
@[simp] theorem setRawByte_integ (a v : Nat) : (setRawByte s a v).integ = s.integ := State.integ_mk ..
@[simp] theorem setRawByte_tier (a v : Nat) : (setRawByte s a v).tier = s.tier := State.tier_mk ..
@[simp] theorem setRawByte_loft (a v : Nat) : (setRawByte s a v).loft = s.loft := State.loft_mk ..
@[simp] theorem setRawByte_serve (a v : Nat) : (setRawByte s a v).serve = s.serve := State.serve_mk ..
@[simp] theorem setRawByte_host (a v : Nat) : (setRawByte s a v).host = s.host := State.host_mk ..
@[simp] theorem setRawByte_light (a v : Nat) : (setRawByte s a v).light = s.light := State.light_mk ..
@[simp] theorem setRawByte_mon (a v : Nat) : (setRawByte s a v).mon = s.mon := State.mon_mk ..
@[simp] theorem setRawByte_rein (a v : Nat) : (setRawByte s a v).rein = s.rein := State.rein_mk ..
@[simp] theorem setRawByte_far (a v : Nat) : (setRawByte s a v).far = s.far := State.far_mk ..
@[simp] theorem setRawByte_pwr (a v : Nat) : (setRawByte s a v).pwr = s.pwr := State.pwr_mk ..
@[simp] theorem setRawByte_drove (a v : Nat) : (setRawByte s a v).drove = s.drove := State.drove_mk ..
@[simp] theorem setRawByte_tack (a v : Nat) : (setRawByte s a v).tack = s.tack := State.tack_mk ..
@[simp] theorem setRawByte_sys (a v : Nat) : (setRawByte s a v).sys = s.sys := State.sys_mk ..
@[simp] theorem setRawByte_evtFilter (a v : Nat) : (setRawByte s a v).evtFilter = s.evtFilter := State.evtFilter_mk ..
@[simp] theorem rdReg_setRawByte (a v : Nat) (b : Nat) : rdReg (setRawByte s a v) b = rdReg s b := rdReg_congr b (setRawByte_regs ..)
@[simp] theorem getF_setRawByte (a v : Nat) (g : Field) (w2 i2 k2 : Nat) : getF (setRawByte s a v) g w2 i2 k2 = getF s g w2 i2 k2 := getF_congr g w2 i2 k2 (setRawByte_regs ..)
@[simp] theorem getStall_setRawByte (a v : Nat) (k2 : Nat) : getStall (setRawByte s a v) k2 = getStall s k2 := getStall_congr k2 (setRawByte_stall ..)
@[simp] theorem getShed_setRawByte (a v : Nat) (i2 : Nat) : getShed (setRawByte s a v) i2 = getShed s i2 := getShed_congr i2 (setRawByte_shed ..)
@[simp] theorem getThread_setRawByte (a v : Nat) (i2 t2 : Nat) : getThread (setRawByte s a v) i2 t2 = getThread s i2 t2 := getThread_congr i2 t2 (setRawByte_shed ..)
@[simp] theorem getShu_setRawByte (a v : Nat) (n2 : Nat) : getShu (setRawByte s a v) n2 = getShu s n2 := getShu_congr n2 (setRawByte_shu ..)
@[simp] theorem getChan_setRawByte (a v : Nat) (n2 c2 : Nat) : getChan (setRawByte s a v) n2 c2 = getChan s n2 c2 := getChan_congr n2 c2 (setRawByte_shu ..)
@[simp] theorem getSid_setRawByte (a v : Nat) (d2 i2 : Nat) : getSid (setRawByte s a v) d2 i2 = getSid s d2 i2 := getSid_congr d2 i2 (setRawByte_sid ..)
@[simp] theorem getHost_setRawByte (a v : Nat) (c2 : Nat) : getHost (setRawByte s a v) c2 = getHost s c2 := getHost_congr c2 (setRawByte_host ..)
@[simp] theorem getPort_setRawByte (a v : Nat) (p2 : Nat) : getPort (setRawByte s a v) p2 = getPort s p2 := getPort_congr p2 (setRawByte_drove ..)
@[simp] theorem getFar_setRawByte (a v : Nat) (k2 : Nat) : getFar (setRawByte s a v) k2 = getFar s k2 := getFar_congr k2 (setRawByte_far ..)
@[simp] theorem getFarPort_setRawByte (a v : Nat) (p2 : Nat) : getFarPort (setRawByte s a v) p2 = getFarPort s p2 := getFarPort_congr p2 (setRawByte_far ..)
@[simp] theorem getConv_setRawByte (a v : Nat) (m2 : Nat) : getConv (setRawByte s a v) m2 = getConv s m2 := getConv_congr m2 (setRawByte_mon ..)
@[simp] theorem getAcc_setRawByte (a v : Nat) (m2 a2 : Nat) : getAcc (setRawByte s a v) m2 a2 = getAcc s m2 a2 := getAcc_congr m2 a2 (setRawByte_mon ..)
@[simp] theorem getTrim_setRawByte (a v : Nat) (c2 : Nat) : getTrim (setRawByte s a v) c2 = getTrim s c2 := getTrim_congr c2 (setRawByte_mon ..)
@[simp] theorem getLoop_setRawByte (a v : Nat) (i2 : Nat) : getLoop (setRawByte s a v) i2 = getLoop s i2 := getLoop_congr i2 (setRawByte_rein ..)
@[simp] theorem getBay_setRawByte (a v : Nat) (y2 : Nat) : getBay (setRawByte s a v) y2 = getBay s y2 := getBay_congr y2 (setRawByte_loft ..)
@[simp] theorem getDie_setRawByte (a v : Nat) (d2 : Nat) : getDie (setRawByte s a v) d2 = getDie s d2 := getDie_congr d2 (setRawByte_pwr ..)

@[simp] theorem setByteSynd_pending (a v : Nat) : (setByteSynd s a v).pending = s.pending := State.pending_mk ..
@[simp] theorem setByteSynd_time (a v : Nat) : (setByteSynd s a v).time = s.time := State.time_mk ..
@[simp] theorem setByteSynd_freeCtr (a v : Nat) : (setByteSynd s a v).freeCtr = s.freeCtr := State.freeCtr_mk ..
@[simp] theorem setByteSynd_regs (a v : Nat) : (setByteSynd s a v).regs = s.regs := State.regs_mk ..
@[simp] theorem setByteSynd_bus (a v : Nat) : (setByteSynd s a v).bus = s.bus := State.bus_mk ..
@[simp] theorem setByteSynd_ev (a v : Nat) : (setByteSynd s a v).ev = s.ev := State.ev_mk ..
@[simp] theorem setByteSynd_sbxFlight (a v : Nat) : (setByteSynd s a v).sbxFlight = s.sbxFlight := State.sbxFlight_mk ..
@[simp] theorem setByteSynd_stall (a v : Nat) : (setByteSynd s a v).stall = s.stall := State.stall_mk ..
@[simp] theorem setByteSynd_shed (a v : Nat) : (setByteSynd s a v).shed = s.shed := State.shed_mk ..
@[simp] theorem setByteSynd_shu (a v : Nat) : (setByteSynd s a v).shu = s.shu := State.shu_mk ..
@[simp] theorem setByteSynd_sid (a v : Nat) : (setByteSynd s a v).sid = s.sid := State.sid_mk ..
@[simp] theorem setByteSynd_integ (a v : Nat) : (setByteSynd s a v).integ = s.integ := State.integ_mk ..
@[simp] theorem setByteSynd_tier (a v : Nat) : (setByteSynd s a v).tier = s.tier := State.tier_mk ..
@[simp] theorem setByteSynd_loft (a v : Nat) : (setByteSynd s a v).loft = s.loft := State.loft_mk ..
@[simp] theorem setByteSynd_serve (a v : Nat) : (setByteSynd s a v).serve = s.serve := State.serve_mk ..
@[simp] theorem setByteSynd_host (a v : Nat) : (setByteSynd s a v).host = s.host := State.host_mk ..
@[simp] theorem setByteSynd_light (a v : Nat) : (setByteSynd s a v).light = s.light := State.light_mk ..
@[simp] theorem setByteSynd_mon (a v : Nat) : (setByteSynd s a v).mon = s.mon := State.mon_mk ..
@[simp] theorem setByteSynd_rein (a v : Nat) : (setByteSynd s a v).rein = s.rein := State.rein_mk ..
@[simp] theorem setByteSynd_far (a v : Nat) : (setByteSynd s a v).far = s.far := State.far_mk ..
@[simp] theorem setByteSynd_pwr (a v : Nat) : (setByteSynd s a v).pwr = s.pwr := State.pwr_mk ..
@[simp] theorem setByteSynd_drove (a v : Nat) : (setByteSynd s a v).drove = s.drove := State.drove_mk ..
@[simp] theorem setByteSynd_tack (a v : Nat) : (setByteSynd s a v).tack = s.tack := State.tack_mk ..
@[simp] theorem setByteSynd_sys (a v : Nat) : (setByteSynd s a v).sys = s.sys := State.sys_mk ..
@[simp] theorem setByteSynd_evtFilter (a v : Nat) : (setByteSynd s a v).evtFilter = s.evtFilter := State.evtFilter_mk ..
@[simp] theorem rdReg_setByteSynd (a v : Nat) (b : Nat) : rdReg (setByteSynd s a v) b = rdReg s b := rdReg_congr b (setByteSynd_regs ..)
@[simp] theorem getF_setByteSynd (a v : Nat) (g : Field) (w2 i2 k2 : Nat) : getF (setByteSynd s a v) g w2 i2 k2 = getF s g w2 i2 k2 := getF_congr g w2 i2 k2 (setByteSynd_regs ..)
@[simp] theorem getStall_setByteSynd (a v : Nat) (k2 : Nat) : getStall (setByteSynd s a v) k2 = getStall s k2 := getStall_congr k2 (setByteSynd_stall ..)
@[simp] theorem getShed_setByteSynd (a v : Nat) (i2 : Nat) : getShed (setByteSynd s a v) i2 = getShed s i2 := getShed_congr i2 (setByteSynd_shed ..)
@[simp] theorem getThread_setByteSynd (a v : Nat) (i2 t2 : Nat) : getThread (setByteSynd s a v) i2 t2 = getThread s i2 t2 := getThread_congr i2 t2 (setByteSynd_shed ..)
@[simp] theorem getShu_setByteSynd (a v : Nat) (n2 : Nat) : getShu (setByteSynd s a v) n2 = getShu s n2 := getShu_congr n2 (setByteSynd_shu ..)
@[simp] theorem getChan_setByteSynd (a v : Nat) (n2 c2 : Nat) : getChan (setByteSynd s a v) n2 c2 = getChan s n2 c2 := getChan_congr n2 c2 (setByteSynd_shu ..)
@[simp] theorem getSid_setByteSynd (a v : Nat) (d2 i2 : Nat) : getSid (setByteSynd s a v) d2 i2 = getSid s d2 i2 := getSid_congr d2 i2 (setByteSynd_sid ..)
@[simp] theorem getHost_setByteSynd (a v : Nat) (c2 : Nat) : getHost (setByteSynd s a v) c2 = getHost s c2 := getHost_congr c2 (setByteSynd_host ..)
@[simp] theorem getPort_setByteSynd (a v : Nat) (p2 : Nat) : getPort (setByteSynd s a v) p2 = getPort s p2 := getPort_congr p2 (setByteSynd_drove ..)
@[simp] theorem getFar_setByteSynd (a v : Nat) (k2 : Nat) : getFar (setByteSynd s a v) k2 = getFar s k2 := getFar_congr k2 (setByteSynd_far ..)
@[simp] theorem getFarPort_setByteSynd (a v : Nat) (p2 : Nat) : getFarPort (setByteSynd s a v) p2 = getFarPort s p2 := getFarPort_congr p2 (setByteSynd_far ..)
@[simp] theorem getConv_setByteSynd (a v : Nat) (m2 : Nat) : getConv (setByteSynd s a v) m2 = getConv s m2 := getConv_congr m2 (setByteSynd_mon ..)
@[simp] theorem getAcc_setByteSynd (a v : Nat) (m2 a2 : Nat) : getAcc (setByteSynd s a v) m2 a2 = getAcc s m2 a2 := getAcc_congr m2 a2 (setByteSynd_mon ..)
@[simp] theorem getTrim_setByteSynd (a v : Nat) (c2 : Nat) : getTrim (setByteSynd s a v) c2 = getTrim s c2 := getTrim_congr c2 (setByteSynd_mon ..)
@[simp] theorem getLoop_setByteSynd (a v : Nat) (i2 : Nat) : getLoop (setByteSynd s a v) i2 = getLoop s i2 := getLoop_congr i2 (setByteSynd_rein ..)
@[simp] theorem getBay_setByteSynd (a v : Nat) (y2 : Nat) : getBay (setByteSynd s a v) y2 = getBay s y2 := getBay_congr y2 (setByteSynd_loft ..)
@[simp] theorem getDie_setByteSynd (a v : Nat) (d2 : Nat) : getDie (setByteSynd s a v) d2 = getDie s d2 := getDie_congr d2 (setByteSynd_pwr ..)

@[simp] theorem setBurstDev_pending (a v : Nat) : (setBurstDev s a v).pending = s.pending := State.pending_mk ..
@[simp] theorem setBurstDev_time (a v : Nat) : (setBurstDev s a v).time = s.time := State.time_mk ..
@[simp] theorem setBurstDev_freeCtr (a v : Nat) : (setBurstDev s a v).freeCtr = s.freeCtr := State.freeCtr_mk ..
@[simp] theorem setBurstDev_regs (a v : Nat) : (setBurstDev s a v).regs = s.regs := State.regs_mk ..
@[simp] theorem setBurstDev_bus (a v : Nat) : (setBurstDev s a v).bus = s.bus := State.bus_mk ..
@[simp] theorem setBurstDev_ev (a v : Nat) : (setBurstDev s a v).ev = s.ev := State.ev_mk ..
@[simp] theorem setBurstDev_sbxFlight (a v : Nat) : (setBurstDev s a v).sbxFlight = s.sbxFlight := State.sbxFlight_mk ..
@[simp] theorem setBurstDev_stall (a v : Nat) : (setBurstDev s a v).stall = s.stall := State.stall_mk ..
@[simp] theorem setBurstDev_shed (a v : Nat) : (setBurstDev s a v).shed = s.shed := State.shed_mk ..
@[simp] theorem setBurstDev_shu (a v : Nat) : (setBurstDev s a v).shu = s.shu := State.shu_mk ..
@[simp] theorem setBurstDev_sid (a v : Nat) : (setBurstDev s a v).sid = s.sid := State.sid_mk ..
@[simp] theorem setBurstDev_integ (a v : Nat) : (setBurstDev s a v).integ = s.integ := State.integ_mk ..
@[simp] theorem setBurstDev_tier (a v : Nat) : (setBurstDev s a v).tier = s.tier := State.tier_mk ..
@[simp] theorem setBurstDev_loft (a v : Nat) : (setBurstDev s a v).loft = s.loft := State.loft_mk ..
@[simp] theorem setBurstDev_serve (a v : Nat) : (setBurstDev s a v).serve = s.serve := State.serve_mk ..
@[simp] theorem setBurstDev_host (a v : Nat) : (setBurstDev s a v).host = s.host := State.host_mk ..
@[simp] theorem setBurstDev_light (a v : Nat) : (setBurstDev s a v).light = s.light := State.light_mk ..
@[simp] theorem setBurstDev_mon (a v : Nat) : (setBurstDev s a v).mon = s.mon := State.mon_mk ..
@[simp] theorem setBurstDev_rein (a v : Nat) : (setBurstDev s a v).rein = s.rein := State.rein_mk ..
@[simp] theorem setBurstDev_far (a v : Nat) : (setBurstDev s a v).far = s.far := State.far_mk ..
@[simp] theorem setBurstDev_pwr (a v : Nat) : (setBurstDev s a v).pwr = s.pwr := State.pwr_mk ..
@[simp] theorem setBurstDev_drove (a v : Nat) : (setBurstDev s a v).drove = s.drove := State.drove_mk ..
@[simp] theorem setBurstDev_tack (a v : Nat) : (setBurstDev s a v).tack = s.tack := State.tack_mk ..
@[simp] theorem setBurstDev_sys (a v : Nat) : (setBurstDev s a v).sys = s.sys := State.sys_mk ..
@[simp] theorem setBurstDev_evtFilter (a v : Nat) : (setBurstDev s a v).evtFilter = s.evtFilter := State.evtFilter_mk ..
@[simp] theorem rdReg_setBurstDev (a v : Nat) (b : Nat) : rdReg (setBurstDev s a v) b = rdReg s b := rdReg_congr b (setBurstDev_regs ..)
@[simp] theorem getF_setBurstDev (a v : Nat) (g : Field) (w2 i2 k2 : Nat) : getF (setBurstDev s a v) g w2 i2 k2 = getF s g w2 i2 k2 := getF_congr g w2 i2 k2 (setBurstDev_regs ..)
@[simp] theorem getStall_setBurstDev (a v : Nat) (k2 : Nat) : getStall (setBurstDev s a v) k2 = getStall s k2 := getStall_congr k2 (setBurstDev_stall ..)
@[simp] theorem getShed_setBurstDev (a v : Nat) (i2 : Nat) : getShed (setBurstDev s a v) i2 = getShed s i2 := getShed_congr i2 (setBurstDev_shed ..)
@[simp] theorem getThread_setBurstDev (a v : Nat) (i2 t2 : Nat) : getThread (setBurstDev s a v) i2 t2 = getThread s i2 t2 := getThread_congr i2 t2 (setBurstDev_shed ..)
@[simp] theorem getShu_setBurstDev (a v : Nat) (n2 : Nat) : getShu (setBurstDev s a v) n2 = getShu s n2 := getShu_congr n2 (setBurstDev_shu ..)
@[simp] theorem getChan_setBurstDev (a v : Nat) (n2 c2 : Nat) : getChan (setBurstDev s a v) n2 c2 = getChan s n2 c2 := getChan_congr n2 c2 (setBurstDev_shu ..)
@[simp] theorem getSid_setBurstDev (a v : Nat) (d2 i2 : Nat) : getSid (setBurstDev s a v) d2 i2 = getSid s d2 i2 := getSid_congr d2 i2 (setBurstDev_sid ..)
@[simp] theorem getHost_setBurstDev (a v : Nat) (c2 : Nat) : getHost (setBurstDev s a v) c2 = getHost s c2 := getHost_congr c2 (setBurstDev_host ..)
@[simp] theorem getPort_setBurstDev (a v : Nat) (p2 : Nat) : getPort (setBurstDev s a v) p2 = getPort s p2 := getPort_congr p2 (setBurstDev_drove ..)
@[simp] theorem getFar_setBurstDev (a v : Nat) (k2 : Nat) : getFar (setBurstDev s a v) k2 = getFar s k2 := getFar_congr k2 (setBurstDev_far ..)
@[simp] theorem getFarPort_setBurstDev (a v : Nat) (p2 : Nat) : getFarPort (setBurstDev s a v) p2 = getFarPort s p2 := getFarPort_congr p2 (setBurstDev_far ..)
@[simp] theorem getConv_setBurstDev (a v : Nat) (m2 : Nat) : getConv (setBurstDev s a v) m2 = getConv s m2 := getConv_congr m2 (setBurstDev_mon ..)
@[simp] theorem getAcc_setBurstDev (a v : Nat) (m2 a2 : Nat) : getAcc (setBurstDev s a v) m2 a2 = getAcc s m2 a2 := getAcc_congr m2 a2 (setBurstDev_mon ..)
@[simp] theorem getTrim_setBurstDev (a v : Nat) (c2 : Nat) : getTrim (setBurstDev s a v) c2 = getTrim s c2 := getTrim_congr c2 (setBurstDev_mon ..)
@[simp] theorem getLoop_setBurstDev (a v : Nat) (i2 : Nat) : getLoop (setBurstDev s a v) i2 = getLoop s i2 := getLoop_congr i2 (setBurstDev_rein ..)
@[simp] theorem getBay_setBurstDev (a v : Nat) (y2 : Nat) : getBay (setBurstDev s a v) y2 = getBay s y2 := getBay_congr y2 (setBurstDev_loft ..)
@[simp] theorem getDie_setBurstDev (a v : Nat) (d2 : Nat) : getDie (setBurstDev s a v) d2 = getDie s d2 := getDie_congr d2 (setBurstDev_pwr ..)

/-! Reading what was written. -/

theorem rdReg_wrReg (a b : Nat) (v : W64) : rdReg (wrReg s a v) b = if b = a then v else rdReg s b := nmGet_put regReset s.regs a b v

@[simp] theorem rdReg_wrReg_same (a : Nat) (v : W64) : rdReg (wrReg s a v) a = v := by rw [rdReg_wrReg, if_pos rfl]

theorem rdReg_wrReg_ne {a b : Nat} (v : W64) (h : b ≠ a) : rdReg (wrReg s a v) b = rdReg s b := by rw [rdReg_wrReg, if_neg h]

theorem rdReg_setF_ne {f : Field} {x w i k b : Nat} (h : b ≠ f.reg.addr w i k) : rdReg (setF s f x w i k) b = rdReg s b :=
  rdReg_wrReg_ne s _ h

/-- A field that lies in a register of 64 bits reads as what was written, cut to its length. -/
theorem getF_setF_same {f : Field} (x w i k : Nat) (h : f.lo + f.len ≤ 64) : getF (setF s f x w i k) f w i k = x % 2 ^ f.len := by
  simp only [getF, setF, rdReg_wrReg_same]
  exact bitsOf_insBits_same _ x h

/-- A saturating counter after an addition. -/
theorem getF_bumpF_same {f : Field} (n w i k : Nat) (h : f.lo + f.len ≤ 64) :
    getF (bumpF s f n w i k) f w i k = min (2 ^ f.len - 1) (getF s f w i k + n) := by
  have hp : 0 < 2 ^ f.len := Nat.pow_pos (by decide)
  rw [bumpF, getF_setF_same _ _ _ _ _ h, Nat.mod_eq_of_lt (by omega)]

/-- A counter that wraps after an addition. -/
theorem getF_addF_same {f : Field} (n w i k : Nat) (h : f.lo + f.len ≤ 64) :
    getF (addF s f n w i k) f w i k = (getF s f w i k + n) % 2 ^ f.len := by
  rw [addF, getF_setF_same _ _ _ _ _ h, Nat.mod_mod]

theorem rdReg_bumpF_ne {f : Field} {n w i k b : Nat} (h : b ≠ f.reg.addr w i k) : rdReg (bumpF s f n w i k) b = rdReg s b :=
  rdReg_setF_ne s h

theorem rdReg_addF_ne {f : Field} {n w i k b : Nat} (h : b ≠ f.reg.addr w i k) : rdReg (addF s f n w i k) b = rdReg s b :=
  rdReg_setF_ne s h

/-- Another field of the same register keeps its value. -/
theorem getF_setF_bits {f g : Field} (x w i k w2 i2 k2 : Nat) (ha : g.reg.addr w2 i2 k2 = f.reg.addr w i k) (hf : f.lo + f.len ≤ 64)
    (hg : g.lo + g.len ≤ 64) (hd : f.lo + f.len ≤ g.lo ∨ g.lo + g.len ≤ f.lo) : getF (setF s f x w i k) g w2 i2 k2 = getF s g w2 i2 k2 := by
  simp only [getF, setF, ha, rdReg_wrReg_same]
  exact bitsOf_insBits_other _ x hf hg hd

/-- A field of another register keeps its value. -/
theorem getF_setF_reg {f g : Field} (x w i k w2 i2 k2 : Nat) (ha : g.reg.addr w2 i2 k2 ≠ f.reg.addr w i k) :
    getF (setF s f x w i k) g w2 i2 k2 = getF s g w2 i2 k2 := by
  simp only [getF, rdReg_setF_ne s ha]

@[simp] theorem getStall_putStall_same (k : Nat) (x : Stall) : getStall (putStall s k x) k = x := nmGet_put_same _ _ _ _
theorem getStall_putStall_ne (k : Nat) (x : Stall) {k2 : Nat} (h : k2 ≠ k) : getStall (putStall s k x) k2 = getStall s k2 := nmGet_put_ne _ _ _ _ _ h
@[simp] theorem getShed_putShed_same (k : Nat) (x : Shed) : getShed (putShed s k x) k = x := nmGet_put_same _ _ _ _
theorem getShed_putShed_ne (k : Nat) (x : Shed) {k2 : Nat} (h : k2 ≠ k) : getShed (putShed s k x) k2 = getShed s k2 := nmGet_put_ne _ _ _ _ _ h
@[simp] theorem getShu_putShu_same (k : Nat) (x : Shunter) : getShu (putShu s k x) k = x := nmGet_put_same _ _ _ _
theorem getShu_putShu_ne (k : Nat) (x : Shunter) {k2 : Nat} (h : k2 ≠ k) : getShu (putShu s k x) k2 = getShu s k2 := nmGet_put_ne _ _ _ _ _ h
@[simp] theorem getHost_putHost_same (k : Nat) (x : HChan) : getHost (putHost s k x) k = x := nmGet_put_same _ _ _ _
theorem getHost_putHost_ne (k : Nat) (x : HChan) {k2 : Nat} (h : k2 ≠ k) : getHost (putHost s k x) k2 = getHost s k2 := nmGet_put_ne _ _ _ _ _ h
@[simp] theorem getPort_putPort_same (k : Nat) (x : Port) : getPort (putPort s k x) k = x := nmGet_put_same _ _ _ _
theorem getPort_putPort_ne (k : Nat) (x : Port) {k2 : Nat} (h : k2 ≠ k) : getPort (putPort s k x) k2 = getPort s k2 := nmGet_put_ne _ _ _ _ _ h
@[simp] theorem getFar_putFar_same (k : Nat) (x : FarStall) : getFar (putFar s k x) k = x := nmGet_put_same _ _ _ _
theorem getFar_putFar_ne (k : Nat) (x : FarStall) {k2 : Nat} (h : k2 ≠ k) : getFar (putFar s k x) k2 = getFar s k2 := nmGet_put_ne _ _ _ _ _ h
@[simp] theorem getFarPort_putFarPort_same (k : Nat) (x : FarPort) : getFarPort (putFarPort s k x) k = x := nmGet_put_same _ _ _ _
theorem getFarPort_putFarPort_ne (k : Nat) (x : FarPort) {k2 : Nat} (h : k2 ≠ k) : getFarPort (putFarPort s k x) k2 = getFarPort s k2 := nmGet_put_ne _ _ _ _ _ h
@[simp] theorem getConv_putConv_same (k : Nat) (x : Converter) : getConv (putConv s k x) k = x := nmGet_put_same _ _ _ _
theorem getConv_putConv_ne (k : Nat) (x : Converter) {k2 : Nat} (h : k2 ≠ k) : getConv (putConv s k x) k2 = getConv s k2 := nmGet_put_ne _ _ _ _ _ h
@[simp] theorem getTrim_putTrim_same (k : Nat) (x : Trim) : getTrim (putTrim s k x) k = x := nmGet_put_same _ _ _ _
theorem getTrim_putTrim_ne (k : Nat) (x : Trim) {k2 : Nat} (h : k2 ≠ k) : getTrim (putTrim s k x) k2 = getTrim s k2 := nmGet_put_ne _ _ _ _ _ h
@[simp] theorem getLoop_putLoop_same (k : Nat) (x : LoopSt) : getLoop (putLoop s k x) k = x := nmGet_put_same _ _ _ _
theorem getLoop_putLoop_ne (k : Nat) (x : LoopSt) {k2 : Nat} (h : k2 ≠ k) : getLoop (putLoop s k x) k2 = getLoop s k2 := nmGet_put_ne _ _ _ _ _ h
@[simp] theorem getBay_putBay_same (k : Nat) (x : Bay) : getBay (putBay s k x) k = x := nmGet_put_same _ _ _ _
theorem getBay_putBay_ne (k : Nat) (x : Bay) {k2 : Nat} (h : k2 ≠ k) : getBay (putBay s k x) k2 = getBay s k2 := nmGet_put_ne _ _ _ _ _ h
@[simp] theorem getDie_putDie_same (k : Nat) (x : Die) : getDie (putDie s k x) k = x := nmGet_put_same _ _ _ _
theorem getDie_putDie_ne (k : Nat) (x : Die) {k2 : Nat} (h : k2 ≠ k) : getDie (putDie s k x) k2 = getDie s k2 := nmGet_put_ne _ _ _ _ _ h
@[simp] theorem getSid_putSid_same (d i : Nat) (x : Siding) : getSid (putSid s d i x) d i = x := nmGet_put_same _ _ _ _
theorem getSid_putSid_ne (d i : Nat) (x : Siding) {d2 i2 : Nat} (h : 256 * d2 + i2 ≠ 256 * d + i) : getSid (putSid s d i x) d2 i2 = getSid s d2 i2 := nmGet_put_ne _ _ _ _ _ h
@[simp] theorem getAcc_putAcc_same (d i : Nat) (x : Acc) : getAcc (putAcc s d i x) d i = x := nmGet_put_same _ _ _ _
theorem getAcc_putAcc_ne (d i : Nat) (x : Acc) {d2 i2 : Nat} (h : 128 * d2 + i2 ≠ 128 * d + i) : getAcc (putAcc s d i x) d2 i2 = getAcc s d2 i2 := nmGet_put_ne _ _ _ _ _ h

@[simp] theorem getThread_putThread_same (i t : Nat) (x : Thread) : getThread (putThread s i t x) i t = x := by
  simp [getThread, putThread]

theorem getThread_putThread_ne (i t : Nat) (x : Thread) {i2 t2 : Nat} (h : i2 ≠ i ∨ t2 ≠ t) :
    getThread (putThread s i t x) i2 t2 = getThread s i2 t2 := by
  by_cases hi : i2 = i
  · subst hi
    have ht : t2 ≠ t := h.resolve_left (fun f => f rfl)
    simp [getThread, putThread, nmGet_put_ne _ _ _ _ _ ht]
  · simp [getThread, putThread, getShed_putShed_ne s i _ hi]

@[simp] theorem getChan_putChan_same (n c : Nat) (x : Chan) : getChan (putChan s n c x) n c = x := by
  simp [getChan, putChan]

theorem getChan_putChan_ne (n c : Nat) (x : Chan) {n2 c2 : Nat} (h : n2 ≠ n ∨ c2 ≠ c) : getChan (putChan s n c x) n2 c2 = getChan s n2 c2 := by
  by_cases hi : n2 = n
  · subst hi
    have ht : c2 ≠ c := h.resolve_left (fun f => f rfl)
    simp [getChan, putChan, nmGet_put_ne _ _ _ _ _ ht]
  · simp [getChan, putChan, getShu_putShu_ne s n _ hi]

@[simp] theorem raiseEv_inFlight (code unit addr detail : Nat) (n : Bool) :
    (raiseEv s code unit addr detail n).ev.inFlight = s.ev.inFlight ++
      [{ time := s.time, code := code, unit := unit, nested := n, afterLoss := false, addr := addr, detail := detail }] := rfl

@[simp] theorem raiseEv_queue (code unit addr detail : Nat) (n : Bool) : (raiseEv s code unit addr detail n).ev.queue = s.ev.queue := rfl

@[simp] theorem sendSbx_flight (d b n : Nat) : (sendSbx s d b n).sbxFlight = s.sbxFlight ++ [⟨d, b, n⟩] := rfl

@[simp] theorem setReply_reply (r : Reply) : (setReply s r).bus.reply = r := rfl

@[simp] theorem drawn_freeCtr : (drawn s).freeCtr = s.freeCtr + 1 := rfl

end Sys2Proof.Machine
end

