-- ==== Sys2Proof/WellFormed.lean ====
section
/-! DEFINITION. Which commands are well formed: those whose operands a sender of the spec can give. Every other command has its meaning
too; a claim may take well-formedness as a premise. -/
namespace Sys2Proof

/-- R420, R441: a write burst carries 32 or 64 bytes. -/
def burstOk (l : List (Option Byte)) : Bool := l.length == 32 || l.length == 64

/-- R276: each ring is swept once, and a sweep measures every code of the heater. -/
def sweepsOk (l : List RingSweep) : Bool := decide (l.map (·.ring)).Nodup && l.all (fun x => !x.power.isEmpty)

/-- R206: a request asks for 1 to 8 bursts, or writes 1 to 512 bytes. -/
def memReqOk : MemReqKind → Bool
  | .read k => decide (1 ≤ k ∧ k ≤ 8)
  | .write b => decide (1 ≤ b.length ∧ b.length ≤ 512)

/-- R368: the sensors of a die: 32 of a stall die, 8 of a Loom, 12 of a comb die. -/
def dieSensors (g : Nat) : Nat := if g < 4 then 32 else if g = 4 then 8 else 12

/-- Tables 15.3, 15.6: the ranges of a frame's header fields. -/
def frameOk (f : DataFrame) : Bool :=
  decide (f.src < 16) && decide (f.lane < 32) && decide (f.index < 4096) && decide (f.nframes ≤ 4096) && f.payload.all (fun b => decide (b < 256))

/-- R403: an admission has four steps, and an index of 0 to 15. -/
def admitOk (m : AdmitMsg) : Bool := decide (1 ≤ m.step ∧ m.step ≤ 4) && decide (m.idx < 16)

/-- A payload is a list of bytes. -/
def bytesOk (l : List Nat) : Bool := l.all (fun b => decide (b < 256))

/-- The operands of a command are in the ranges the spec gives them. -/
def Instr.operandsOk : Instr → Bool
  | .registerWrite _ _ w _ => decide (1 ≤ w.val)
  | .rcRead _ _ w => decide (1 ≤ w.val)
  | .eventRecordArrival idx => !idx.isEmpty && decide idx.Nodup
  | .memoryRequest _ k _ _ => memReqOk k
  | .lteAssign _ _ _ l => sweepsOk l
  | .lteRelight _ _ _ l => sweepsOk l
  | .dark _ _ _ l => sweepsOk l
  | .phaseLight _ _ l => sweepsOk l
  | .combDieFailure _ r => decide (1 ≤ r.val)
  | .conversion raw => raw.length == 48
  | .packageTrip c _ _ => decide (1 ≤ c.val)
  | .sensorReading g l => l.length == dieSensors g
  | .contactSensorRead l => l.length == 6
  | .memoryTempRead u l => if u.val < 8 then l.length == 1 else decide (l.length ≤ 2)
  | .dataFrameReceive _ f _ _ => frameOk f
  | .c0FrameReceive _ f _ _ => decide (f.src < 16) && bytesOk f.payload
  | .epochChange _ r _ _ => decide (1 ≤ r.val)
  | .admitFrame _ m => admitOk m
  | .laneDrop _ _ _ c => decide (1 ≤ c.val)
  | .porchWrite _ _ _ _ b => burstOk b
  | .apertureWrite _ _ b => burstOk b
  | .packageReset c => decide (1 ≤ c.toNat ∧ c.toNat ≤ 4)
  | .ostlerRestart c => decide (1 ≤ c.toNat)
  | .phaseOverrun p _ => decide (1 ≤ p.toNat ∧ p.toNat ≤ 6)
  | .batchEnd _ _ o => o.all (fun x => decide (x.status < 65536) && decide (x.reason ≤ 3))
  | _ => true

/-- R24: which of the three originators may send a command that writes one register: the farrier its own registers and the string range, the
light block a ring's line, and ostler firmware any. Other requesters reach what the register's path lets them reach (R15). -/
def Instr.senderOk : Instr → Bool
  | .stlCfgRange r _ _ => r != .light
  | .stlCfgOffline r _ _ => r != .light && r != .farrier
  | .stlReset r _ => r != .light && r != .farrier
  | .shedCfgWrite r _ _ _ => r != .light && r != .farrier
  | .shuClassWrite r _ _ _ => r != .light && r != .farrier
  | .sidCtrlReset r _ _ => r != .light && r != .farrier
  | .sidingConfigWrite r _ _ _ _ => r != .light && r != .farrier
  | .tierOfflineWrite r _ _ => r != .light && r != .farrier
  | .hndWrite r _ _ => r != .light && r != .farrier
  | .groomEnableWrite r _ => r != .light && r != .farrier
  | .mgrSoftrep r _ _ _ => r != .light && r != .farrier
  | .flipArm r => r != .light && r != .farrier
  | .flipDisarm r => r != .light && r != .farrier
  | .oholdRelease r => r != .light && r != .farrier
  | .baySet r _ _ => r != .light && r != .farrier
  | .loftSwitch r _ => r != .light && r != .farrier
  | .refopIncrement r _ _ => r != .light && r != .farrier
  | .refopDecrement r _ _ => r != .light && r != .farrier
  | .lteAssign r _ _ _ => r != .light && r != .farrier
  | .lteRelight r _ _ _ => r != .light && r != .farrier
  | .lteDark r => r != .light && r != .farrier
  | .lteRestore r _ _ => r != .light && r != .farrier
  | .ringStop r _ => r != .light && r != .farrier
  | .ringStart r _ => r != .light && r != .farrier
  | .ringRecheck r _ => r != .light && r != .farrier
  | .ringCfgWrite r _ _ => r != .farrier
  | .monitorStart r _ => r != .light && r != .farrier
  | .monitorStop r _ => r != .light && r != .farrier
  | .monitorCal r _ => r != .light && r != .farrier
  | .accConfigWrite r _ _ _ => r != .light && r != .farrier
  | .trmCodeWrite r _ _ _ _ => r != .light && r != .farrier
  | .bankStop r _ => r != .light && r != .farrier
  | .bankStart r _ => r != .light && r != .farrier
  | .loopFieldWrite r _ _ _ => r != .light && r != .farrier
  | .freezeWrite r _ _ => r != .light && r != .farrier
  | .farrierStart r => r != .light
  | .farrierStop r => r != .light
  | .runall r => r != .light
  | .farStallRun r _ => r != .light
  | .farStallRelease r _ => r != .light
  | .farPortLanerun r _ _ => r != .light
  | .c0TxArm r _ _ => r != .light && r != .farrier
  | .portStart r _ => r != .light && r != .farrier
  | .portStop r _ => r != .light && r != .farrier
  | .drvConfigWrite r _ _ => r != .light && r != .farrier
  | .seedWrite a _ => a.req != .light && a.req != .farrier
  | .channelArm a _ _ => a.req != .light && a.req != .farrier
  | .tqArm a _ => a.req != .light && a.req != .farrier
  | .sendArm a _ => a.req != .light && a.req != .farrier
  | .rxwinWrite a _ _ _ => a.req != .light && a.req != .farrier
  | .pkgreset r _ => r != .light && r != .farrier
  | .watchdogKick r => r != .light && r != .farrier
  | _ => true

/-- The command is one its sender can give. -/
def Instr.wellFormed (i : Instr) : Bool := i.operandsOk && i.senderOk

end Sys2Proof
end

