-- ==== Sys2Proof/Tests/Slice0.lean ====
section
/-! SUPPORT. For every statement of Certificates/Slice0/Obligations.lean that has hypotheses, a theorem that shows for each of its
clauses states and operands that meet the clause's hypotheses together (where two clauses have the same hypotheses, once; where the
hypotheses of one are among another's, the other's). Then tests of single commands, of the decoder and of well-formedness. -/
namespace Sys2Proof.Tests
set_option Elab.async false
open Sys2Proof Sys2Proof.Machine

theorem conj4 {a b c d e : Prop} (h : a ∧ b ∧ c ∧ d) (k : e) : a ∧ b ∧ c ∧ d ∧ e := ⟨h.1, h.2.1, h.2.2.1, h.2.2.2, k⟩

/-- The reset state with one record replaced. -/
def stallAt (k : Nat) (x : Stall) : State := putStall .reset k x
def shedAt (i : Nat) (x : Shed) : State := putShed .reset i x
/-- Shed 63 runs with the line at 0 cached, thread 255 as given. -/
def threadAt (th : Thread) : State := shedAt 63 { state := .run, thr := [(255, th)], icache := [⟨0, List.replicate 64 0⟩] }
def aThread : Thread := { running := true, x := [(4, 64)] }
def aReady : State := threadAt aThread

/-- Whether the line at the PC of a thread is cached, and holds an instruction there. -/
def cachedAt (s : State) (i n : Nat) : Bool :=
  let a := (getThread s i n).pc.toNat
  ((getShed s i).icache.find? (fun l => l.addr == a / 64 * 64)).any (fun l => !illegalWord (ofBytes ((l.bytes.drop (a % 64)).take 4)))

/-- A thread that may issue at a cached instruction issues, and its fetch changes nothing. -/
theorem issues_of {s : State} {i n : Nat} {rs : List RegRef}
    (h : mayIssueThread s i n = true ∧ (getThread s i n).ready rs = true ∧ (getThread s i n).pc.toNat % 4 = 0
      ∧ inMap (getThread s i n).pc.toNat = true ∧ regionAt (getThread s i n).pc.toNat ≠ .control ∧ cachedAt s i n = true) :
    Issues s s i n rs := by
  obtain ⟨a, b, c, d, e, f⟩ := h
  refine ⟨a, b, ?_⟩
  unfold cachedAt at f
  dsimp only at f
  generalize hl : (getShed s i).icache.find? _ = o at f
  cases o with
  | none => cases f
  | some l =>
    simp [fetchInstr, fetchWord, c, d, e, hl] at f ⊢
    simp [f]

/-- A descriptor of one BF16 element from memory to memory, at the address 0x30000000. -/
def okDesc : List (Nat × Byte) :=
  [(0x30000000, 0x40), (0x30000001, 0x8B), (0x30000010, 1), (0x30000014, 1), (0x30000017, 1), (0x3000001A, 1), (0x3000001D, 1)]
def shuAt (n : Nat) (x : Shunter) : State := putShu .reset n x
def chanAt (n c : Nat) (x : Chan) : State := shuAt n { chans := [(c, x)] }
def armAt (x : Chan) (m : List (Nat × Byte)) : State := { chanAt 95 7 { x with arms := [0x30000000] } with mem := { bytes := m } }
/-- Channel 7 of shunter 95 may issue the read of its one element. -/
def oneDesc : StreamDesc := { sfmt := 5, dfmt := 5, cls := 1, cnt := [1], src := { str := [0] }, dst := { str := [0] } }
def oneElem : State := shuAt 95 { state := .run, chans := [(7, { state := .active, run := some { d := oneDesc } })] }
def reaches : Next → Bool
  | .unreach _ => false
  | _ => true
theorem none_unreach {s : State} {n : Nat} (h : ∀ c < 8, reaches (chanNext s n c) = true) : ∀ c < 8, ∀ a, chanNext s n c ≠ .unreach a := by
  intro c hc a e
  have := h c hc
  rw [e] at this
  cases this
def sidConf : State := setF .reset Fld.SID_CFG_SLOTS 64 3 255
def aXfer (returned : Bool) : Xfer := { kind := .data 0 1 false, addr := 0, len := 64, returned := returned }
def inputPortStream : Chan := { bindI := true, state := .active, run := some { d := { dstk := 3, cnt := [1] } } }
/-- Channels 6 and 7 of shunter 95 wait for slots of sidings 0 and 1, which the other one is to publish. -/
def fromSiding (n : Nat) : Chan :=
  { state := .active, run := some { d := { srck := 1, ssid := n, cnt := [1], src := { str := [0] } } }, waitOn := some (n, false),
    waitCnt := 2 ^ 20 }
def crossed : State :=
  putSid (putSid (shuAt 95 { chans := [(6, fromSiding 1), (7, fromSiding 0)] }) 3 0 { prod := some 190 }) 3 1 { prod := some 191 }
def deadlocked : State := setF (setF crossed Fld.SID_ELEMS_ELEMS 32 3 0) Fld.SID_ELEMS_ELEMS 32 3 1
def memBare (m : Mem) : State := { State.reset with mem := m }
def aChunk (digest : Nat) : ChunkRec := { tensor := 0, first := 0, n := 1, bytes := 64, digest := digest }
def aSet (chunks : List ChunkRec) (bands : List BandPlace) : LoftSet :=
  { keySlot := 0, modelId := 0, version := 0, floor := 0, hdrHash := 0, chunks := chunks, bands := bands }
def aBand : BandPlace :=
  { tensor := 0, band := 0, kind := 0, layer := 0, hot := 0, blk := false, scaleOff := 0, ib0 := 0, bytes := 32, addr := 0x10000000000 }
def repairPiece : StagedChunk := { chunk := 0, bay := 1, repair := true, addr := 0, bytes := 64, got := [(0, 64)] }
/-- Bay 1 holds a set of one chunk, and a piece of it for repair lies in staging at address 0. -/
def staging (digest : Nat) (m : Mem) : State :=
  { State.reset with mem := m, loft := { bays := [(1, { set := some (aSet [aChunk digest] []) })], staged := [repairPiece] } }
/-- Bay 1 is active, and its set's one band lies in DDR5. -/
def migrant (bands : List BandPlace) (on : Bool) : State :=
  let s : State := { State.reset with loft := { bays := [(1, { set := some (aSet [] bands) })], migrating := on } }
  let s := (List.range 8).foldl (fun s k => setF s Fld.HBM_STATUS_STATE 0 k) s
  setF (setF s Fld.LFT_ACTIVE_VALID 1) Fld.LFT_ACTIVE_BAY 1
theorem nextMigrant_aBand : nextMigrant [aBand] = some (0, aBand) := by decide +kernel
/-- Some place is found for it, wherever the free choice falls. -/
theorem placed (on : Bool) : ∃ a, findPlace (migrant [aBand] on) [] 1 [0] 32 = some a := by
  unfold findPlace
  dsimp only
  split
  · exact ⟨_, rfl⟩
  · exact ⟨0x1000000000, by cases on <;> decide +kernel⟩
theorem migrantPlace_of {s : State} {y : Nat} {t : LoftSet} {x : Nat × BandPlace} {l : List Nat} {a : Nat}
    (h1 : (getBay s y).set = some t) (h2 : nextMigrant t.bands = some x) (h3 : ¬ tierFree s 1 < x.2.bytes)
    (h4 : x.2.stacks x.2.band = l) (h5 : findStack s [] l x.2.bytes = some a) : migrantPlace s y = some (x.1, x.2, a) := by
  subst h4
  unfold migrantPlace
  rw [h1]
  dsimp only
  rw [h2]
  dsimp only
  rw [if_neg h3, h5]
  rfl
theorem migrates (on : Bool) : ∃ a, migrantPlace (migrant [aBand] on) 1 = some (0, aBand, a) := by
  obtain ⟨a, ha⟩ := placed on
  refine ⟨a, migrantPlace_of (x := (0, aBand)) (t := aSet [] [aBand]) (l := [0, 1, 2, 3, 4, 5, 6, 7]) ?_ nextMigrant_aBand ?_ ?_ ?_⟩
  · cases on <;> decide +kernel
  · cases on <;> decide +kernel
  · decide
  · unfold findStack
    rw [List.findSome?_cons]
    have hb : aBand.bytes = 32 := by decide
    rw [hb, ha]
def loopOn (kind : Nat) : State :=
  let s := setF .reset Fld.RN_BANK_STATUS_STATE 0 0 23
  setF (setF s Fld.RN_LP_CTRL_EN 1 23 255) Fld.RN_LP_INA_KIND kind 23 255
def loopSrc (kind idx last : Nat) : SrcRead := readSrc (loopOn 0) 6143 kind idx last true

def farAt (f : Far) : State := setF { State.reset with far := f } Fld.FAR_STATUS_STATE 0
def aWork (owns reint : Bool) : FarWork := { stall := 15, reint := reint, owns := owns, tr := some 400 }
def pwrAt (p : Pwr) : State := { State.reset with pwr := p }
def dieAt (x : Die) : State := putDie .reset 3 x
def lightAt (l : Light) : State := { State.reset with light := l }
def portAt (x : Port) : State := putPort .reset 7 x
def portIn (st : Nat) : State := setF .reset Fld.DRV_STATUS_STATE st 7
def starUp (x : Port) : State := setF (setF (portAt x) Fld.DRV_STATUS_STATE portUp 7) Fld.DRV_STATUS_MODE 1 7
/-- Member 15 is admitted at port 7. -/
def withMember (s : State) : State := setF s Fld.DRV_MEMBERS_ADMITTED 0x8001 7
def aFrame (herd addr : Nat) : DataFrame := { herd := herd, src := 15, kind := 1, dst := 0, lane := 31, epoch := 0, addr := addr, lines := 1 }
def anOut (frame : Nat) : OutFrame := { index := 4095, frame := frame, lane := 31, resends := 7, again := false }
def aTransfer : Outgoing := { num := 65535, d := { dst := 15, len := 64 }, next := 1, out := [anOut 0] }
def doneTransfer : Outgoing := { num := 65535, d := { dst := 15, len := 64 }, next := 1, out := [] }
/-- A send descriptor of 64 bytes from address 0 to member 15, class 1, at address 0. -/
def sendMem : State :=
  let s := setF (setF .reset Fld.DRV_STATUS_STATE portUp 7) Fld.DRV_MEMBERS_ADMITTED 0x8000 7
  { s with mem := { bytes := [(14, 15), (15, 1), (16, 64)] } }
def anAdmit (step : Nat) : AdmitMsg := { step := step, idx := 15, identity := 1 }
def leads (s : State) : State := setF s Fld.DRV_STATUS_LEADER 1 7
def roster (s : State) : State := { s with drove := { s.drove with roster := [(15, 1)] } }
theorem cellDiffs_self (a : NMap Int) : cellDiffs a a = (0, 0) := by
  unfold cellDiffs
  generalize List.range 16384 = l
  induction l with
  | nil => rfl
  | cons c l ih => simpa [List.foldl_cons] using ih
theorem attemptCause_empty : attemptCause (toMap []) (toMap []) true true = 0 := by
  have h : lanesAgree (toMap []) (toMap []) = true := by decide +kernel
  simp [attemptCause, cellDiffs_self, h]
def silent : State :=
  setF (setF { State.reset with drove := { port := [(7, { frame := 256 })] } } Fld.DRV_STATUS_STATE portUp 7) Fld.DRV_STATUS_MODE 1 7

/-- What a bus access reaches, seen through a test of the register. -/
def wholeWith (t : Target) (p : RegByte → Bool) : Bool := match t with
  | .whole r => p r
  | _ => false
def halfWith (t : Target) (high : Bool) (p : RegByte → Bool) : Bool := match t with
  | .half r h => h == high && p r
  | _ => false
theorem whole_of {t : Target} {p : RegByte → Bool} (h : wholeWith t p = true) : ∃ r, t = .whole r ∧ p r = true := by
  cases t with
  | whole r => exact ⟨r, rfl, h⟩
  | _ => simp [wholeWith] at h
theorem half_of {t : Target} {b : Bool} {p : RegByte → Bool} (h : halfWith t b p = true) : ∃ r, t = .half r b ∧ p r = true := by
  cases t with
  | half r c =>
    simp only [halfWith, Bool.and_eq_true, beq_iff_eq] at h
    exact ⟨r, by rw [h.1], h.2⟩
  | _ => simp [halfWith] at h
def isBad : Target → Bool
  | .bad => true
  | _ => false
theorem bad_of {t : Target} (h : isBad t = true) : t = .bad := by
  cases t <;> simp_all [isBad]
/-- A register whose write is that of its fields. -/
def plainReg (r : RegByte) : Bool := (writeAct r.desc).isNone && r.desc.blk != 8
theorem plain_of {r : RegByte} (h : plainReg r = true) : writeAct r.desc = none ∧ r.desc.blk ≠ 8 := by
  simp only [plainReg, Bool.and_eq_true, bne_iff_ne, Option.isNone_iff_eq_none] at h
  exact h
def stageReg : BitVec 48 := BitVec.ofNat 48 (Reg.LFT_STAGE_BASE.addr 0 0 0)
theorem half_low : ∃ r, busTarget .ostler stageReg.toNat 4 = .half r false ∧ plainReg r = true := half_of (by decide +kernel)
theorem half_high : ∃ r, busTarget .ostler (stageReg.toNat + 4) 4 = .half r true ∧ plainReg r = true := half_of (by decide +kernel)
theorem whole_reg : ∃ r, busTarget .ostler stageReg.toNat (8 : Fin 65) = .whole r ∧ plainReg r = true := whole_of (by decide +kernel)
def busAt (b : Bus) : State := { State.reset with bus := b }
theorem hidden_regs : ∀ j : Fin 8, ((regByteAt (stageReg.toNat + j)).all (·.desc.bridleOnly)) = true := by decide +kernel
theorem hidden_there {j : Nat} {r : RegByte} (hj : j < (8 : Fin 65).val) (hr : regByteAt (stageReg.toNat + j) = some r) :
    r.desc.bridleOnly = true := by
  have h := hidden_regs ⟨j, hj⟩
  simpa [hr] using h
theorem hidden_byte : ∃ r, visibleAt .ostler stageReg.toNat = some r ∧ r.desc.bridleOnly = true := by
  have h : (visibleAt .ostler stageReg.toNat).any (·.desc.bridleOnly) = true := by decide +kernel
  simpa [Option.any_eq_true] using h
theorem none_there : ∀ j : Fin 64, (visibleAt .ostler ((0x8F000000 : BitVec 48).toNat + j)).isNone = true := by decide +kernel
theorem starts {s : State} {c op : Nat} {k : SubCmd}
    (h : firmwareRuns s = true ∧ frontCmd (getHost s c) = some k ∧ k.op = op
      ∧ (getF s Fld.EVT_SVC_LEVEL ≠ 5 ∨ worksUnderNone op = true) ∧ reservedOk k = true) : CmdStarts s c op k := h
def rec_ (unit : Nat) : EventRec := { time := 0, code := 0x1001, unit := unit, nested := false, afterLoss := false, addr := 0, detail := 0 }
def evAt (e : EvLog) : State := { State.reset with ev := e, sys := { ostlerUp := true } }
def anAccess (k : AccKind) (addr : Nat) : Access := { addr := addr, kind := k, acquire := false, pc := 0, preTrap := false }
def hostAt (x : HChan) : State := putHost .reset 3 x
def hostIn (st : Nat) (x : HChan) : State := setF (hostAt x) Fld.HPT_STATUS_STATE st 3
/-- Ostler firmware runs, at service level FULL. -/
def served (x : HChan) : State := setF { hostAt x with sys := { ostlerUp := true } } Fld.EVT_SVC_LEVEL 0
/-- A submission entry by its fields: byte number and value. -/
def entry (l : List (Nat × Nat)) : Nat := l.foldl (fun a x => a + x.2 * 2 ^ (8 * x.1)) 0
def cmd (op : Nat) (l : List (Nat × Nat)) : SubCmd := { id := 0, op := op, cid := 0, entry := entry ((0, op) :: l) }
def taken (op : Nat) (l : List (Nat × Nat)) : State := served { cmds := [cmd op l] }
def aSession (id : Nat) : Session :=
  { id := id, maxtok := 0, kvtok := 0, kvfmt := 0, tier := 1, adapter := 0, bytes := 0, addr := none, tokens := 0, gen := 0, lost := false }
def withSession (s : State) : State := { s with serve := { sessions := [aSession 0xFFFFFFFF] } }
def aBatch (cmd : Nat) : Batch := { id := 0, chan := 3, cmd := cmd, bay := 1, gen := 0, resOff := 0, reqs := [], cancelled := false }
def withBatch (s : State) : State := { s with serve := { batches := [aBatch 1] } }
def activeOne (s : State) : State := setF (setF s Fld.LFT_ACTIVE_VALID 1) Fld.LFT_ACTIVE_BAY 1
def batchCmd : SubCmd := { id := 1, op := 0x0201, cid := 9, entry := 0x0201, started := true }
def cancels : State := served { cmds := [batchCmd, cmd 0x0202 [(16, 9)]] }
def trap63 : Nat := Reg.SHD_TRAPVEC.addr 63 0 0
def aBuild (chunks : List ChunkRec) : Build := { bay := 1, slot := none, set := aSet chunks [] }
def withBuild (s : State) (chunks : List ChunkRec) : State := { s with loft := { build := some (aBuild chunks) } }
def railsUp (phase : Nat) (y : Sys) : State := setF { State.reset with pwr := { rails := .valid }, sys := y } Fld.EVT_SVC_PHASE phase
def aSign : SignReq := { chan := 11, cmd := 0, purpose := 2, nonce := [], eph := [], off := 0 }
def signing (x : Nat) : State := setF { State.reset with tack := { signs := [aSign] } } Fld.TCK_STATUS_SIGNER x
/-- In recovery, a request header lies in the inbox of porch channel 0. -/
def inboxBytes (version : Byte) : NMap Byte :=
  (List.zip (List.range 8) inboxMagic).map (fun x => (dataBase + x.1, BitVec.ofNat 8 x.2)) ++ [(dataBase + 8, version), (dataBase + 10, 1)]
def recovering (version : Byte) : State :=
  { putHost .reset 0 { porch := inboxBytes version } with tack := { runTkf := some {}, recovery := true } }

/-! The tack room's checks: a digest is a free value, so the states hold its bytes without knowing them. -/
theorem ofBytes_range' (f : Nat → Nat) : ∀ (n lo d : Nat), (∀ i, i < n → f (lo + i) % 256 = d / 256 ^ i % 256) →
    ofBytes ((List.range' lo n).map f) = d % 256 ^ n
  | 0, _, _, _ => by simp [ofBytes, Nat.mod_one]
  | n + 1, lo, d, h => by
    have h0 := h 0 (by omega)
    have ht := ofBytes_range' f n (lo + 1) (d / 256) (fun i hi => by
      have := h (i + 1) (by omega)
      rw [show lo + 1 + i = lo + (i + 1) by omega, this, Nat.div_div_eq_div_mul, Nat.pow_succ, Nat.mul_comm])
    simp only [List.range'_succ, List.map_cons, ofBytes, ht]
    simp only [Nat.add_zero, Nat.pow_zero, Nat.div_one] at h0
    rw [h0, Nat.pow_succ, Nat.mul_comm (256 ^ n) 256, Nat.mod_mul]
theorem range_field (f : Nat → Nat) (n lo k : Nat) (h : lo + k ≤ n) :
    (((List.range n).map f).drop lo).take k = (List.range' lo k).map f := by
  rw [← List.map_drop, ← List.map_take, List.range_eq_range']
  congr 1
  apply List.ext_getElem
  · simp; omega
  · intro i h1 h2; simp
/-- The 48 bytes of a digest, least significant first, from `lo` on. -/
def digestAt (lo d : Nat) : NMap Byte := (List.range' lo 48).map (fun j => (j, BitVec.ofNat 8 (d / 256 ^ (j - lo))))
theorem nmFind_range' (g : Nat → Byte) (r : NMap Byte) : ∀ (n a k : Nat), a ≤ k → k < a + n →
    nmFind ((List.range' a n).map (fun j => (j, g j)) ++ r) k = some (g k)
  | 0, a, k, h1, h2 => by omega
  | n + 1, a, k, h1, h2 => by
    simp only [List.range'_succ, List.map_cons, List.cons_append, nmFind]
    split
    · next e => rw [e]
    · next e => exact nmFind_range' g r n (a + 1) k (by omega) (by omega)
theorem nmFind_skip (g : Nat → Byte) (r : NMap Byte) : ∀ (n a k : Nat), k < a ∨ a + n ≤ k →
    nmFind ((List.range' a n).map (fun j => (j, g j)) ++ r) k = nmFind r k
  | 0, a, k, _ => by simp
  | n + 1, a, k, h => by
    simp only [List.range'_succ, List.map_cons, List.cons_append, nmFind]
    rw [if_neg (by omega)]
    exact nmFind_skip g r n (a + 1) k (by omega)
theorem find_digest (lo d i : Nat) (r : NMap Byte) (h : i < 48) : nmFind (digestAt lo d ++ r) (lo + i) = some (BitVec.ofNat 8 (d / 256 ^ i)) := by
  unfold digestAt
  rw [nmFind_range' (fun j => BitVec.ofNat 8 (d / 256 ^ (j - lo))) r 48 lo (lo + i) (by omega) (by omega), Nat.add_sub_cancel_left]
theorem skip_digest (lo d k : Nat) (r : NMap Byte) (h : k < lo ∨ lo + 48 ≤ k) : nmFind (digestAt lo d ++ r) k = nmFind r k :=
  nmFind_skip (fun j => BitVec.ofNat 8 (d / 256 ^ (j - lo))) r 48 lo k h
theorem bits_lt {w : Nat} (k : Nat) (x : BitVec w) (h : w = 8 * k) : x.toNat < 256 ^ k := by
  subst h
  have := x.isLt
  rwa [Nat.pow_mul] at this
theorem digest_lt (l : List Nat) : Config.sha384 l < 256 ^ 48 := bits_lt 48 (Config.sha384Bits l) rfl
/-- A digest held in a byte table is the field read there. -/
theorem digest_field (l : List Nat) (p : NMap Byte) (lo n base : Nat) (h : lo + 48 ≤ n)
    (hp : ∀ i, i < 48 → nmFind p (base + lo + i) = some (BitVec.ofNat 8 (Config.sha384 l / 256 ^ i))) :
    fieldOf ((List.range n).map (fun i => (nmGet (fun _ => (0 : Byte)) p (base + i)).toNat)) lo 48 = Config.sha384 l := by
  unfold fieldOf
  rw [range_field _ n lo 48 h, ofBytes_range' _ 48 lo (Config.sha384 l), Nat.mod_eq_of_lt (digest_lt l)]
  intro i hi
  unfold nmGet
  rw [show base + (lo + i) = base + lo + i by omega, hp i hi]
  simp

/-- The digest of the device's identity. -/
def devDigest : Nat := Config.sha384 (idKeyEc 0)
/-- Staging at address 0 holds a request: its bytes beside the device identity. -/
def requestAt (kind arg : Byte) (t : Tack) : State :=
  let s := setF (setF .reset Fld.TCK_STATUS_INBOX_BUSY 1) Fld.EVT_SVC_PHASE 7
  let s := setF s Fld.LFT_STAGE_BASE_BASE 0
  { s with
    tack := t
    mem := { bytes := digestAt 24 devDigest ++
      [(8, 1), (10, kind), (11, arg), (16, 1), (0x100, 96), (0x104, 0xD4), (0x105, 0x0C)] } }
def reqHeader (s : State) : List Nat := (inboxRead s 0 256).2.1
def reqSig (s : State) : List Nat := (inboxRead (inboxRead s 0 256).1 0x100 3388).2.1
def reqAfter (s : State) : State := (inboxRead (inboxRead s 0 256).1 0x100 3388).1
theorem clean_bytes (s : State) (d b a n : Nat) (h1 : s.mem.pendPoison = []) (h2 : s.mem.synd = []) :
    (readManger s d b a n false).bytes = (List.range n).map (fun i => rawByte s (a + i)) := by
  have hg : ∀ x, guardByte s x = (rawByte s x, 0) := by
    intro x
    have : byteSynd s x = 0 := by simp [byteSynd, h2, nmGet, nmFind]
    simp [guardByte, h1, this, guardAct]
  have hb : ∀ s : MemRead, s.bytes = s.bytes := fun _ => rfl
  unfold readManger
  simp only [hg]
  split <;> simp [Function.comp_def]
theorem readRange_one (s : State) : (readRange s (0 + 0) 256).2.1 = (readManger s 0 0 0 256 false).bytes := by
  have hm : (memRead s 0 256).bytes = (readManger s 0 0 0 256 false).bytes := rfl
  unfold readRange
  simp [ceilDiv, hm]
theorem header_bytes (s : State) (h1 : s.mem.pendPoison = []) (h2 : s.mem.synd = []) (hr : s.tack.recovery = false) (hb : stageBase s = 0) :
    reqHeader s = (List.range 256).map (fun i => rawByte s (0 + i)) := by
  unfold reqHeader inboxRead
  rw [if_neg (by rw [hr]; decide), hb, readRange_one, clean_bytes s 0 0 0 256 h1 h2]
theorem device_field (kind arg : Byte) (t : Tack) (hr : t.recovery = false) (hb : stageBase (requestAt kind arg t) = 0) :
    fieldOf (reqHeader (requestAt kind arg t)) 24 48 = devDigest := by
  rw [header_bytes _ rfl rfl hr hb]
  exact digest_field (idKeyEc 0)
    (digestAt 24 devDigest ++ [(8, 1), (10, kind), (11, arg), (16, 1), (0x100, 96), (0x104, 0xD4), (0x105, 0x0C)]) 24 256 0 (by omega)
    (fun i hi => find_digest 24 devDigest i _ hi)
theorem checks_pass {s : State} {h sig : List Nat} (h1 : fieldOf h 24 48 = devDigest) (h2 : s.tack.secret = 0)
    (h3 : getF s Fld.TCK_OWNSEQ_SEQ < fieldOf h 16 8)
    (h4 : s.tack.owner.isSome = false
      ∨ (sigShape sig = true ∧ sigEc (s.tack.owner.getD []) h sig = true ∧ sigHss (s.tack.owner.getD []) h sig = true))
    (h5 : ((s.tack.recovery && fieldOf h 10 1 != 5)
      || (s.tack.owner.isNone && (fieldOf h 10 1 == 2 || fieldOf h 10 1 == 3 || fieldOf h 10 1 == 4))
      || (fieldOf h 10 1 == 4 && (s.tack.tkf.trial || s.tack.osf.trial))) = false)
    (h6 : fieldOf h 10 1 = 4 → rollbackK s < fieldOf h 11 1 ∧ fieldOf h 11 1 ≤ 128 ∧ fieldOf h 11 1 ≤ imageSvn s.tack.runTkf
      ∧ fieldOf h 11 1 ≤ imageSvn s.tack.runOsf) : requestRefused s h sig = (0, 0) := by
  have hd : fieldOf h 24 48 = deviceId s := by rw [h1, deviceId, h2, devDigest]
  have h4' : (s.tack.owner.isSome && !((sigShape sig && sigEc (s.tack.owner.getD []) h sig)
      && (sigShape sig && sigHss (s.tack.owner.getD []) h sig))) = false := by
    rcases h4 with h4 | ⟨a, b, c⟩
    · simp [h4]
    · simp [a, b, c]
  unfold requestRefused
  dsimp only
  rw [if_neg (fun h => h hd), if_neg (Nat.not_le.mpr h3), if_neg (by rw [h4']; simp), if_neg (by rw [h5]; simp), if_neg]
  rintro ⟨a, b⟩
  exact b (h6 a)
def ownedTack : Tack :=
  { runTkf := some { hdr := List.replicate 12 1 }, runOsf := some { hdr := List.replicate 12 1 }, owner := some [] }
def freeTack : Tack := { ownedTack with owner := none }
/-- What `checks_pass` asks of the state after the reads, the header and the signature, but for the digest and the signatures' verdicts. -/
def checksOk (s : State) (h sig : List Nat) : Bool :=
  s.tack.secret == 0 && decide (getF s Fld.TCK_OWNSEQ_SEQ < fieldOf h 16 8) && (s.tack.owner.isNone || sigShape sig)
    && !((s.tack.recovery && fieldOf h 10 1 != 5) || (s.tack.owner.isNone && (fieldOf h 10 1 == 2 || fieldOf h 10 1 == 3 || fieldOf h 10 1 == 4))
      || (fieldOf h 10 1 == 4 && (s.tack.tkf.trial || s.tack.osf.trial)))
    && (fieldOf h 10 1 != 4 || decide (rollbackK s < fieldOf h 11 1 ∧ fieldOf h 11 1 ≤ 128 ∧ fieldOf h 11 1 ≤ imageSvn s.tack.runTkf
      ∧ fieldOf h 11 1 ≤ imageSvn s.tack.runOsf))
def requestReady (s : State) (kind : Nat) : Bool :=
  let a := inboxRead s 0 256
  let g := inboxRead a.1 0x100 3388
  inboxOpen s && getF s Fld.TCK_STATUS_INBOX_BUSY == 1 && fieldOf a.2.1 10 1 == kind && checksOk g.1 a.2.1 g.2.1
theorem request_passes {s : State} {kind : Nat} (hd : fieldOf (reqHeader s) 24 48 = devDigest) (hr : requestReady s kind = true)
    (hs : (reqAfter s).tack.owner.isNone = true
      ∨ ((∀ k m g, Config.ecdsaOk k m g = true) ∧ (∀ k m g, Config.hssOk k m g = true))) :
    RequestPasses s kind (reqHeader s) (reqAfter s) := by
  simp only [requestReady, checksOk, Bool.and_eq_true, beq_iff_eq, decide_eq_true_eq, Bool.not_eq_true', Bool.or_eq_true, bne_iff_ne] at hr
  obtain ⟨⟨⟨o, b⟩, k⟩, ⟨⟨⟨c, q⟩, g⟩, n⟩, v⟩ := hr
  refine ⟨o, b, rfl, k, rfl, checks_pass hd c q ?_ n ?_⟩
  · rcases hs with hs | ⟨he, hh⟩
    · exact .inl (by simpa using hs)
    · rcases g with g | g
      · exact .inl (by change (inboxRead (inboxRead s 0 256).1 0x100 3388).1.tack.owner.isSome = false; simpa using g)
      · exact .inr ⟨g, he _ _ _, hh _ _ _⟩
  · intro h4
    rcases v with v | v
    · exact absurd h4 v
    · exact v
/-- A request whose signatures need no check passes. -/
theorem passes_unowned : RequestPasses (requestAt 1 0 freeTack) 1 (reqHeader (requestAt 1 0 freeTack)) (reqAfter (requestAt 1 0 freeTack)) :=
  request_passes (device_field 1 0 freeTack rfl (by decide +kernel)) (by decide +kernel) (.inl (by decide +kernel))
/-- Where the free value accepts signatures, an owned device's request passes. -/
theorem passes_owned (he : ∀ k m g, Config.ecdsaOk k m g = true) (hh : ∀ k m g, Config.hssOk k m g = true) (kind arg : Byte)
    (hb : stageBase (requestAt kind arg ownedTack) = 0) (hr : requestReady (requestAt kind arg ownedTack) kind.toNat = true) :
    RequestPasses (requestAt kind arg ownedTack) kind.toNat (reqHeader (requestAt kind arg ownedTack)) (reqAfter (requestAt kind arg ownedTack)) :=
  request_passes (device_field kind arg ownedTack rfl hb) hr (.inr ⟨he, hh⟩)
theorem ready_enrol : requestReady (requestAt 2 7 ownedTack) 2 = true := by decide +kernel
theorem ready_revoke : requestReady (requestAt 3 7 ownedTack) 3 = true := by decide +kernel
theorem ready_rollback : requestReady (requestAt 4 1 ownedTack) 4 = true := by decide +kernel

/-- An image of a kind without a body, at offset 0 of a byte table. -/
def emptyDigest : Nat := Config.sha384 []
def imageTable (base : Nat) (kind : Byte) : NMap Byte :=
  (List.zip (List.range 8) [0x59, 0x4C, 0x56, 0x53, 0x46, 0x57, 0x49, 0x4D]).map (fun x => (base + x.1, x.2)) ++ [(base + 8, 1), (base + 10, kind)]
def anImage (kind : Byte) : Image :=
  { hdr := (List.range 256).map (fun i => (nmGet (fun _ => (0 : Byte)) (digestAt 32 emptyDigest ++ imageTable 0 kind) (0 + i)).toNat)
    sig := [96, 0, 0, 0, 0xD4, 0x0C, 0, 0] }
theorem image_passes (he : ∀ k m g, Config.ecdsaOk k m g = true) (hh : ∀ k m g, Config.hssOk k m g = true) {s : State} {kind : Nat} {i : Image}
    (h1 : imageHeaderOk kind i = true) (hk : (i.hdr.drop 80).take 157 = List.replicate 157 0)
    (hr : s.tack.fwRootEc = Config.sha384 (List.replicate 97 0)) (hq : s.tack.fwRootHss = Config.sha384 (List.replicate 60 0))
    (hg : sigShape i.sig = true) (hb : rollbackK s ≤ fieldOf i.hdr 11 1) (hd : i.body = []) (hf : fieldOf i.hdr 32 48 = emptyDigest) :
    imageFails s kind i = 0 := by
  unfold imageFails
  dsimp only
  rw [if_neg (by rw [h1]; decide), hk, List.take_replicate, List.drop_replicate, if_neg (fun h => h hr.symm), if_neg (fun h => h hq.symm),
    if_neg (by simp [hg, sigEc, sigHss, he, hh]), if_neg (Nat.not_lt.mpr hb), if_neg (by rw [hd, hf]; exact fun h => h rfl)]
def rootTack (t : Tack) : Tack := { t with fwRootEc := Config.sha384 (List.replicate 97 0), fwRootHss := Config.sha384 (List.replicate 60 0) }
def bootAt (os : Option Image) : State :=
  { railsUp 1 {} with tack := rootTack { tkf := { primary := some (anImage 1) }, osf := { primary := os } } }
theorem anImage_passes (he : ∀ k m g, Config.ecdsaOk k m g = true) (hh : ∀ k m g, Config.hssOk k m g = true) {s : State}
    (hr : s.tack.fwRootEc = Config.sha384 (List.replicate 97 0)) (hq : s.tack.fwRootHss = Config.sha384 (List.replicate 60 0))
    (hb : rollbackK s = 0) : imageFails s 1 (anImage 1) = 0 ∧ imageFails s 2 (anImage 2) = 0 := by
  have hf : ∀ kind, fieldOf (anImage kind).hdr 32 48 = emptyDigest := fun kind =>
    digest_field [] (digestAt 32 emptyDigest ++ imageTable 0 kind) 32 256 0 (by omega) (fun i hi => find_digest 32 emptyDigest i _ hi)
  constructor <;>
  exact image_passes he hh (by decide +kernel) (by decide +kernel) hr hq (by decide +kernel) (by rw [hb]; exact Nat.zero_le _) rfl (hf _)
theorem pick_primary {s : State} {kind : Nat} {x : Slots} {i : Image} (hx : x.primary = some i) (h : imageFails s kind i = 0) :
    pickImage s kind x = some (i, false, 0) := by
  unfold pickImage
  rw [hx]
  simp [h]
theorem picks_both (he : ∀ k m g, Config.ecdsaOk k m g = true) (hh : ∀ k m g, Config.hssOk k m g = true) :
    pickImage (bootAt (some (anImage 2))) 1 (bootAt (some (anImage 2))).tack.tkf = some (anImage 1, false, 0)
      ∧ pickImage (bootAt (some (anImage 2))) 2 (bootAt (some (anImage 2))).tack.osf = some (anImage 2, false, 0) := by
  have h := anImage_passes he hh (s := bootAt (some (anImage 2))) rfl rfl (by decide +kernel)
  exact ⟨pick_primary rfl h.1, pick_primary rfl h.2⟩
theorem picks_one (he : ∀ k m g, Config.ecdsaOk k m g = true) (hh : ∀ k m g, Config.hssOk k m g = true) :
    pickImage (bootAt none) 1 (bootAt none).tack.tkf = some (anImage 1, false, 0) := by
  have h := anImage_passes he hh (s := bootAt none) rfl rfl (by decide +kernel)
  exact pick_primary rfl h.1
def restartAt (os : Option Image) : State :=
  { railsUp 7 { restarting := some 3 } with tack := rootTack { osf := { primary := os } } }
theorem picks_osf (he : ∀ k m g, Config.ecdsaOk k m g = true) (hh : ∀ k m g, Config.hssOk k m g = true) :
    pickImage (restartAt (some (anImage 2))) 2 (restartAt (some (anImage 2))).tack.osf = some (anImage 2, false, 0) :=
  pick_primary rfl (anImage_passes he hh (s := restartAt (some (anImage 2))) rfl rfl (by decide +kernel)).2

/-- In recovery, a request of kind 5 lies in porch channel 0; the image it carries is at offset 0x1000, or there is none. -/
def installTable : NMap Byte :=
  digestAt (dataBase + 24) devDigest ++ (digestAt (dataBase + 0x1020) emptyDigest ++
    ([(dataBase + 8, 1), (dataBase + 10, 5), (dataBase + 16, 1), (dataBase + 229, 0x3C), (dataBase + 230, 0x0E)]
      ++ imageTable (dataBase + 0x1000) 1
      ++ [(dataBase + 0x1100, 96), (dataBase + 0x1104, 0xD4), (dataBase + 0x1105, 0x0C)]))
def bareTable : NMap Byte := digestAt (dataBase + 24) devDigest ++ [(dataBase + 8, 1), (dataBase + 10, 5), (dataBase + 16, 1)]
def installAt (p : NMap Byte) : State :=
  { setF { State.reset with host := [(0, { porch := p })] } Fld.TCK_STATUS_INBOX_BUSY 1 with tack := rootTack { runTkf := some {}, recovery := true } }
theorem install_header (p : NMap Byte) :
    reqHeader (installAt p) = (List.range 256).map (fun i => (nmGet (fun _ => (0 : Byte)) p (dataBase + i)).toNat) := by
  unfold reqHeader inboxRead
  rw [if_pos (show (installAt p).tack.recovery = true from rfl)]
  rfl
theorem install_passes (p r : NMap Byte) (hp : p = digestAt (dataBase + 24) devDigest ++ r) (hr : requestReady (installAt p) 5 = true)
    (ho : (reqAfter (installAt p)).tack.owner.isNone = true) : RequestPasses (installAt p) 5 (reqHeader (installAt p)) (reqAfter (installAt p)) := by
  refine request_passes ?_ hr (.inl ho)
  rw [install_header]
  exact digest_field (idKeyEc 0) p 24 256 dataBase (by omega) (fun i hi => by rw [hp]; exact find_digest _ devDigest i _ hi)
theorem install_some {s : State} {h : List Nat} (hk : fieldOf (inboxImage s h).2.hdr 10 1 = 1) (hf : imageFails s 1 (inboxImage s h).2 = 0) :
    (installImage s h).isSome = true := by
  unfold installImage
  dsimp only
  rw [hk, if_pos ⟨.inl rfl, hf⟩, if_pos rfl]
  rfl
theorem porch_take (x : HChan) (off n k : Nat) (h : k ≤ n) :
    (porchRaw x off n).take k = (List.range k).map (fun i => (nmGet (fun _ => (0 : Byte)) x.porch (off + i)).toNat) := by
  have := range_field (fun i => (nmGet (fun _ => (0 : Byte)) x.porch (off + i)).toNat) n 0 k (by omega)
  rw [List.drop_zero, ← List.range_eq_range'] at this
  exact this
theorem installs (he : ∀ k m g, Config.ecdsaOk k m g = true) (hh : ∀ k m g, Config.hssOk k m g = true) :
    (installImage (reqAfter (installAt installTable)) (reqHeader (installAt installTable))).isSome = true := by
  have hl : fieldOf (reqHeader (installAt installTable)) 229 4 = 3644 := by decide +kernel
  have hd : (inboxImage (reqAfter (installAt installTable)) (reqHeader (installAt installTable))).2.hdr
      = (List.range 256).map (fun i => (nmGet (fun _ => (0 : Byte)) installTable (dataBase + 0x1000 + i)).toNat) := by
    unfold inboxImage
    rw [hl]
    unfold inboxRead
    rw [if_pos (by decide +kernel)]
    dsimp only
    refine (porch_take _ _ 3644 256 (by omega)).trans ?_
    rw [show (getHost (reqAfter (installAt installTable)) 0).porch = installTable from rfl]
  refine install_some (by decide +kernel) (image_passes he hh (by decide +kernel) (by decide +kernel) rfl rfl (by decide +kernel) (by decide +kernel)
    (by decide +kernel) ?_)
  rw [hd]
  exact digest_field [] installTable 32 256 (dataBase + 0x1000) (by omega) (fun i hi => by
    unfold installTable
    rw [show dataBase + 0x1000 + 32 + i = dataBase + 0x1020 + i by omega, skip_digest _ _ _ _ (.inr (by omega))]
    exact find_digest _ emptyDigest i _ hi)

/-- A member's certificate and report for a join: an identity of zeros, whose digest the parts name. -/
def zeroId : Nat := Config.sha384 (List.replicate 97 0)
def sigZero : List Nat := [96, 0, 0, 0, 0xD4, 0x0C, 0, 0] ++ List.replicate 3380 0
def bodyZero : List Nat := (List.range 1024).map (fun i => (nmGet (fun _ => (0 : Byte)) (digestAt 16 zeroId ++ [(10, 2)]) (0 + i)).toNat)
def certZero : List Nat := (List.range 256).map (fun i => (nmGet (fun _ => (0 : Byte)) (digestAt 32 zeroId ++ []) (0 + i)).toNat)
def reportZero : List Nat := bodyZero ++ (sigZero ++ (certZero ++ sigZero))
theorem sig_length : sigZero.length = 3388 := by decide +kernel
theorem body_take : reportZero.take 1024 = bodyZero := List.take_left' (by simp [bodyZero])
theorem sig_take : (reportZero.drop 1024).take 3388 = sigZero := by
  rw [show reportZero.drop 1024 = sigZero ++ (certZero ++ sigZero) from List.drop_left' (by simp [bodyZero])]
  exact List.take_left' sig_length
theorem cert_drop : reportZero.drop 4412 = certZero ++ sigZero := by
  rw [show 4412 = 1024 + 3388 from rfl, ← List.drop_drop,
    show reportZero.drop 1024 = sigZero ++ (certZero ++ sigZero) from List.drop_left' (by simp [bodyZero])]
  exact List.drop_left' sig_length
theorem body_id : fieldOf bodyZero 16 48 = zeroId :=
  digest_field (List.replicate 97 0) (digestAt 16 zeroId ++ [(10, 2)]) 16 1024 0 (by omega) (fun i hi => find_digest 16 zeroId i _ hi)
theorem cert_id : fieldOf certZero 32 48 = zeroId :=
  digest_field (List.replicate 97 0) (digestAt 32 zeroId ++ []) 32 256 0 (by omega) (fun i hi => find_digest 32 zeroId i _ hi)
theorem report_ok (he : ∀ k m g, Config.ecdsaOk k m g = true) (hh : ∀ k m g, Config.hssOk k m g = true) {s : State}
    (h1 : s.tack.mfgRootEc = Config.sha384 (Config.mfgKey.take 97)) (h2 : s.tack.mfgRootHss = Config.sha384 (Config.mfgKey.drop 97)) :
    reportOk s [] reportZero = true := by
  have hs : sigShape sigZero = true := by decide +kernel
  have hk : ((certZero.drop 80).take 157).take 97 = List.replicate 97 0 := by decide +kernel
  have hn : (bodyZero.drop 64).take 48 = padNat 48 [] := by decide +kernel
  have hp : fieldOf bodyZero 10 2 = 2 := by decide +kernel
  have hl : reportZero.length = 8056 := by decide +kernel
  have hc : (certZero ++ sigZero).take 256 = certZero := List.take_left' (by simp [certZero])
  have hd : (certZero ++ sigZero).drop 256 = sigZero := List.drop_left' (by simp [certZero])
  unfold reportOk
  dsimp only
  rw [body_take, sig_take, cert_drop, hc, hd, hk, hn, hp, hl, body_id, cert_id, h1, h2]
  simp only [pairOk, sigEc, sigHss, he, hh, hs, zeroId, beq_self_eq_true, Bool.and_self]
def joinTack : Tack := { mfgRootEc := Config.sha384 (Config.mfgKey.take 97), mfgRootHss := Config.sha384 (Config.mfgKey.drop 97) }
def joining (s : State) : State := { s with tack := joinTack, drove := { s.drove with roster := [(15, zeroId)] } }
def admitZero (step : Nat) : AdmitMsg := { step := step, idx := 15, report := reportZero }
theorem admit_ok (he : ∀ k m g, Config.ecdsaOk k m g = true) (hh : ∀ k m g, Config.hssOk k m g = true) {s : State} {p step : Nat}
    (hs : step = 2 ∨ step = 3) (h1 : s.tack = joinTack) (h2 : s.drove.roster = [(15, zeroId)]) (h3 : (getPort s p).challenge = [])
    (h4 : getF s Fld.TCK_HERDMIN_MIN = 0) : admitRefused s p (admitZero step) = 0 := by
  have hr := report_ok he hh (s := s) (by rw [h1]; rfl) (by rw [h1]; rfl)
  have hb : bitOf (fieldOf bodyZero 135 1) 0 = false := by decide +kernel
  have hf : nmFind [(15, zeroId)] 15 = some zeroId := rfl
  unfold admitRefused admitZero
  dsimp only
  rw [body_take, body_id, h2, h3, h4, hb]
  rcases hs with rfl | rfl <;> simp [nmGet, nmFind, hr]
def aStage : Stage := { kind := 0, clampEn := false, c0 := ⟨0, 0⟩, c1 := ⟨0, 0⟩, c2 := ⟨0, 0⟩, limHi := ⟨0, 0⟩, limLo := ⟨0, 0⟩, se := 0, s0 := 0, s1 := 0 }
def aRun : StageRun := { st := aStage, v := ⟨0, 0⟩, y := 0, sign := 1, dInt := ⟨0, 0⟩, hi := false, lo := false, ovf := 0 }
theorem whole_farrier : ∃ r, busTarget .farrier stageReg.toNat (8 : Fin 65) = .whole r ∧ farrierTarget r = false := by
  obtain ⟨r, h, p⟩ := whole_of (t := busTarget .farrier stageReg.toNat (8 : Fin 65)) (p := fun r => !farrierTarget r) (by decide +kernel)
  exact ⟨r, h, by simpa using p⟩
theorem whole_light : ∃ r, busTarget .light stageReg.toNat (8 : Fin 65) = .whole r ∧ plainReg r = true := whole_of (by decide +kernel)
/-- A BATCH entry of one request is at the head of the submission queue of channel 3. -/
def batchEntry : SubCmd := cmd 0x0201 [(16, dataBase), (20, 1), (24, dataBase)]
def batchPorch : NMap Byte := (List.range 32).map (fun i => (submitBase + i, BitVec.ofNat 8 (batchEntry.entry / 256 ^ i)))
def batchHead : State := activeOne (served { state := .ready, sqTail := 1, porch := batchPorch })
def aReq : Req := { session := 1, rec_ := 0, bound := true, ended := none }
def oneReq : Batch := { aBatch 1 with reqs := [aReq] }
def running (l : List Batch) : State :=
  setF (setF { served { cmds := [batchCmd] } with serve := { batches := l } } Fld.LFT_BAY_STATUS_STATE 3 0 1) Fld.LFT_BAY_REFS_REFS 1 0 1
def startAgain (os : Option Image) : State :=
  { railsUp 2 { restarting := some 3 } with tack := rootTack { osf := { primary := os } } }
theorem rollback_drawn : requestReady (drawn (requestAt 4 1 ownedTack)) 4 = true := by decide +kernel
theorem passes_drawn (he : ∀ k m g, Config.ecdsaOk k m g = true) (hh : ∀ k m g, Config.hssOk k m g = true) :
    RequestPasses (drawn (requestAt 4 1 ownedTack)) 4 (reqHeader (drawn (requestAt 4 1 ownedTack))) (reqAfter (drawn (requestAt 4 1 ownedTack))) := by
  refine request_passes ?_ rollback_drawn (.inr ⟨he, hh⟩)
  rw [header_bytes _ rfl rfl rfl (by decide +kernel)]
  exact digest_field (idKeyEc 0)
    (digestAt 24 devDigest ++ [(8, 1), (10, 4), (11, 1), (16, 1), (0x100, 96), (0x104, 0xD4), (0x105, 0x0C)]) 24 256 0 (by omega)
    (fun i hi => find_digest 24 devDigest i _ hi)
/-- The input of loop 6143 reads the sample it read before. -/
def stale : State :=
  { setF (loopOn 1) Fld.ACC_STAT_VALID 1 0 0 with rein := { loops := [(6143, { first := false, pseq := [0] })] } }
def loopA : SrcRead := loopSrc (lpF (loopOn 0) Fld.RN_LP_INA_KIND 6143) (lpF (loopOn 0) Fld.RN_LP_INA_INDEX 6143) 64
def loopSp : SrcRead := loopSrc (lpF (loopOn 0) Fld.RN_LP_SPSRC_KIND 6143) (lpF (loopOn 0) Fld.RN_LP_SPSRC_INDEX 6143) 64
def loopRuns : List StageRun := runStages (lwVal (slewed (loopOn 0) 6143 loopSp)) (lwVal 0) none 0 (lwVal loopA.lw) ((List.range 5).map (readStage (loopOn 0) 6143))
theorem loop_y : (loopRuns.getLast?.map (fun z => onGrid z.st.se z.y)).isSome = true := by decide +kernel
def loopY : Dy := (loopRuns.getLast?.map (fun z => onGrid z.st.se z.y)).get loop_y
def loopRaw : Nat × Bool × Bool := destValue (lpF (loopOn 0) Fld.RN_LP_DEST_DKIND 6143) loopY
def loopFin : List (StageRun × Bool) :=
  (List.zip loopRuns ((List.range 5).map (fun k => windup loopRuns k loopRaw.2.1 loopRaw.2.2))).map (fun z => renorm (updateInt z.1 z.2))
theorem loop_x : loopFin.getLast?.isSome = true := by decide +kernel
def loopX : StageRun × Bool := loopFin.getLast?.get loop_x
theorem wit_StallLoad :
  (∃ (k : Fin 16) (s : State) (tl : Tile) (rest : List Tile), (getStall s k).buffer = tl :: rest ∧ (getStall s k).accepts = true ∧ (getStall
    s k).staged.length < 2)
  ∧ (∃ (k : Fin 16) (s : State), (getStall s k).accepts = true ∧ (getStall s k).farOwns = false ∧ (getStall s k).strings = .free ∧ (getStall s
    k).awaiting = false ∧ (getStall s k).active.due = false ∧ (getStall s k).staged ≠ [])
  ∧ (∃ (k : Fin 16) (s : State) (nt : NodeTile) (rest : List NodeTile), (getStall s k).strings = .load ∧ (getStall s k).staged = nt :: rest)
  ∧ (∃ (k : Fin 16) (s : State), (getStall s k).awaiting = true ∧ (getStall s k).idle.tile.seq ≤ (getStall s k).cursor ∧ (getStall s
    k).issue.all (fun o => decide ((getStall s k).idle.tile.seq ≤ o.tileSeq)) = true ∧ (getStall s k).retries = [] ∧ (getStall s
    k).modulating = false ∧ (getStall s k).farOwns = false ∧ ((getStall s k).state = .run ∨ (getStall s k).state = .stopping)) :=
  ⟨⟨15, stallAt 15 { state := .run, buffer := [{}] }, {}, [], by decide +kernel⟩,
  ⟨15, stallAt 15 { state := .run, staged := [{}] }, by decide +kernel⟩,
  ⟨15, stallAt 15 { strings := .load, staged := [{}] }, {}, [], by decide +kernel⟩,
  ⟨15, stallAt 15 { state := .stopping, issue := [{ tileSeq := 0 }], awaiting := true }, by decide +kernel⟩⟩

theorem wit_HoldRefresh :
  (∃ (k : Fin 16) (b : Bool) (e : Nat) (s : State), (getStall s k).refreshed b = true ∧ refreshInterval (getStall s k).band ≤ e + 48)
  ∧ (∃ (k : Fin 16) (s : State), (getStall s k).strings = .free ∧ (getStall s k).farOwns = false ∧ (getStall s k).active.due = true ∧
    (getStall s k).refreshed (getStall s k).activeB = true)
  ∧ (∃ (k : Fin 16) (s : State), (getStall s k).strings = .free ∧ (getStall s k).farOwns = false ∧ (getStall s k).active.due = false ∧
    (getStall s k).idle.due = true ∧ (getStall s k).refreshed (!(getStall s k).activeB) = true)
  ∧ (∃ (k : Fin 16) (b : Bool) (s : State), (getStall s k).strings = .refresh b) :=
  ⟨⟨15, false, 449952, stallAt 15 { nodeA := { loaded := true } }, by decide +kernel⟩,
  ⟨15, stallAt 15 { nodeA := { loaded := true, due := true } }, by decide +kernel⟩,
  ⟨15, stallAt 15 { awaiting := true, nodeB := { loaded := true, due := true } }, by decide +kernel⟩,
  ⟨15, true, stallAt 15 { strings := .refresh true }, by decide +kernel⟩⟩

theorem wit_TileOps :
  (∃ (k : Fin 16) (s : State) (q : QOp) (rest : List QOp), (getStall s k).tq = q :: rest ∧ (getStall s k).entry.length < 4 ∧ (getStall s
    k).accepts = true ∧ (getStall s k).issue.length < 4 ∧ (q.d.waitEn = false ∨ sbxReached s (k / 4) q.d.waitSbx q.d.waitValue = true))
  ∧ (∃ (k : Fin 16) (s : State) (q : QOp) (rest : List QOp), (getStall s k).entry = q :: rest ∧ (getStall s k).accepts = true ∧ (getStall s
    k).issue.length < 4 ∧ (getStall s k).inputVoid = false ∧ (getStall s k).weightVoid = false)
  ∧ (∃ (k : Fin 16) (s : State) (o : OpRun) (rest : List OpRun) (f : VecFetch), (getStall s k).issue = o :: rest ∧ (getStall s k).mayIssue =
    true ∧ o.begun = false ∧ (getStall s k).modulating = false ∧ (getStall s k).retries = [] ∧ o.tileSeq = (getStall s k).actSeq ∧
    pauseOver s k = true ∧ ((getStall s k).active.loaded = false ∨ o.d.wfmt = (getStall s k).active.tile.fmt) ∧ (getStall s
    k).fetches.find? (fun f => f.id == o.id) = some f ∧ o.n ≤ f.vecs.length)
  ∧ (∃ (k : Fin 16) (s : State) (o : OpRun) (rest : List OpRun), (getStall s k).retries = [] ∧ (getStall s k).modulating = true ∧ (getStall s
    k).issue = o :: rest ∧ o.hasLow = false ∧ rest.all (fun q => !q.begun) = true)
  ∧ (∃ (k : Fin 16) (s : State) (o : OpRun) (rest : List OpRun), (getStall s k).retries = [] ∧ (getStall s k).modulating = true ∧ (getStall s
    k).issue = o :: rest ∧ o.hasLow = true ∧ o.begun = true)
  ∧ (∃ (k : Fin 16) (s : State) (r : Retry) (rest : List Retry), (getStall s k).retries = r :: rest ∧ r.running = true)
  ∧ (∃ (k : Fin 16) (s : State) (r : Retry) (rest : List Retry), (getStall s k).retries = r :: rest ∧ (getStall s k).mayIssue = true ∧
    (getStall s k).modulating = false ∧ r.running = false ∧ (getStall s k).drain.length < 2)
  ∧ (∃ (k : Fin 16) (s : State) (o : OpRun) (rest : List OpRun), (getStall s k).finishing = o :: rest ∧ (getStall s k).retries.any (fun r =>
    r.o.id == o.id) = false ∧ o.never = false) :=
  ⟨⟨15, stallAt 15 { state := .run, tq := [{}], entry := [{}, {}, {}] }, {}, [], by decide +kernel⟩,
  ⟨15, stallAt 15 { state := .run, entry := [{}] }, {}, [], by decide +kernel⟩,
  ⟨15, stallAt 15 { state := .run, issue := [{ n := 1 }], fetches := [{ vecs := [{}] }] }, { n := 1 }, [], { vecs := [{}] },
    by decide +kernel⟩,
  ⟨15, stallAt 15 { modulating := true, issue := [{}] }, {}, [], by decide +kernel⟩,
  ⟨15, stallAt 15 { modulating := true, issue := [{ d := { xfmt := 1 }, begun := true }] }, { d := { xfmt := 1 }, begun := true }, [],
    by decide +kernel⟩,
  ⟨15, stallAt 15 { retries := [{ running := true }] }, { running := true }, [], by decide +kernel⟩,
  ⟨15, stallAt 15 { state := .run, retries := [{}], drain := [0] }, {}, [], by decide +kernel⟩,
  ⟨15, stallAt 15 { finishing := [{}] }, {}, [], by decide +kernel⟩⟩

theorem wit_StallControl :
  (∃ (k : Fin 16) (s : State), (getStall s k).state = .run)
  ∧ (∃ (k : Fin 16) (s : State), ((getStall s k).state = .run ∨ (getStall s k).state = .stopping) ∧ (getStall s k).modulating = false ∧
    (getStall s k).retries = [])
  ∧ (∃ (k : Fin 16) (s : State) (o : OpRun) (rest : List OpRun), ((getStall s k).state = .run ∨ (getStall s k).state = .stopping) ∧ (getStall
    s k).retries = [] ∧ (getStall s k).issue = o :: rest ∧ (getStall s k).modulating = true ∧ o.vDone < o.n)
  ∧ (∃ (k : Fin 16) (s : State), (getStall s k).state = .stopping ∧ (getStall s k).strings ≠ .load ∧ (getStall s k).modulating = false ∧
    (getStall s k).retries = [] ∧ (getStall s k).finishing = [] ∧ (getStall s k).retiring = none ∧ ((getStall s k).issue = [] ∨ (getStall
    s k).cutting = true))
  ∧ (∃ (k : Fin 16) (s : State) (d : Bool), (getStall s k).state = .stopping ∧ (getStall s k).strings ≠ .load ∧ (getStall s k).modulating =
    false ∧ (getStall s k).retries = [] ∧ (getStall s k).finishing = [] ∧ (getStall s k).retiring = some d ∧ (getStall s k).cutting =
    true)
  ∧ (∃ (req : Requester) (k : Fin 16) (s : State), req.bridle = true ∧ (getStall s k).state = .stopped ∧ (getStall s k).issue = [] ∧ (getStall
    s k).waits = false ∧ getF s Fld.STL_CFG_OFFLINE k = 0)
  ∧ (∃ (req : Requester) (k : Fin 16) (s : State), req.bridle = true ∧ (getStall s k).still req = true ∧ (getStall s k).issue = [] ∧ (getStall
    s k).waits = false ∧ (getStall s k).entry = [])
  ∧ (∃ (req : Requester) (k : Fin 16) (s : State), req.bridle = true ∧ (getStall s k).still req = true ∧ (getStall s k).issue = [] ∧ (getStall
    s k).finishing = []) :=
  ⟨⟨15, stallAt 15 { state := .run }, by decide +kernel⟩,
  ⟨15, stallAt 15 { state := .stopping }, by decide +kernel⟩,
  ⟨15, stallAt 15 { state := .stopping, modulating := true, issue := [{ n := 1 }] }, { n := 1 }, [], by decide +kernel⟩,
  ⟨15, stallAt 15 { state := .stopping, issue := [{}], cutting := true }, by decide +kernel⟩,
  ⟨15, stallAt 15 { state := .stopping, issue := [{}], cutting := true, retiring := some true }, true, by decide +kernel⟩,
  ⟨.ostler, 15, .reset, by decide +kernel⟩,
  ⟨.ostler, 15, stallAt 15 {}, by decide +kernel⟩,
  ⟨.ostler, 0, .reset, by decide +kernel⟩⟩

theorem wit_ScalarArithmetic :
  (∃ (i : Fin 64) (n : Fin 256) (fn : LogicFn) (rd ra rb : Fin 32) (s u : State), Issues s u i n [.x rd, .x ra, .x rb] ∧ logicKnown 0 fn =
    true)
  ∧ (∃ (i : Fin 64) (n : Fin 256) (fn : CmpFn) (rd ra rb : Fin 32) (s u : State), Issues s u i n [.x rd, .x ra, .x rb] ∧ cmpKnown 0 fn = true)
  ∧ (∃ (i : Fin 64) (n : Fin 256) (fn : ImmFn) (rd ra : Fin 32) (s u : State), Issues s u i n [.x rd, .x ra] ∧ immKnown fn = true)
  ∧ (∃ (i : Fin 64) (n : Fin 256) (rd : Fin 32) (s u : State), Issues s u i n [.x rd]) :=
  ⟨⟨63, 255, .xor, 31, 31, 31, aReady, aReady, issues_of (by decide +kernel), by decide +kernel⟩,
  ⟨63, 255, .ltu, 31, 31, 31, aReady, aReady, issues_of (by decide +kernel), by decide +kernel⟩,
  ⟨63, 255, .cmp .ltu, 31, 31, aReady, aReady, issues_of (by decide +kernel), by decide +kernel⟩,
  ⟨63, 255, 31, aReady, aReady, issues_of (by decide +kernel)⟩⟩

theorem wit_BranchesAndJumps :
  (∃ (i : Fin 64) (n : Fin 256) (ra rb : Fin 32) (s u : State), Issues s u i n [.x ra, .x rb])
  ∧ (∃ (i : Fin 64) (n : Fin 256) (ra : Fin 32) (s u : State), Issues s u i n [.x ra])
  ∧ (∃ (i : Fin 64) (n : Fin 256) (rd : Fin 32) (s u : State), Issues s u i n [.x rd]) :=
  ⟨⟨63, 255, 31, 31, aReady, aReady, issues_of (by decide +kernel)⟩,
  ⟨63, 255, 31, aReady, aReady, issues_of (by decide +kernel)⟩,
  ⟨63, 255, 31, aReady, aReady, issues_of (by decide +kernel)⟩⟩

theorem wit_LoadsAndStores :
  (∃ (i : Fin 64) (n : Fin 256) (size : Fin 4) (rd ra : Fin 32) (off : BitVec 12) (s u : State), Issues s u i n [.x rd, .x ra] ∧ ((getThread
    s i n).xr ra + off.signExtend 64).toNat % 2 ^ size.val = 0 ∧ inMap ((getThread s i n).xr ra + off.signExtend 64).toNat = true ∧
    (getThread s i n).mayAccess = true)
  ∧ (∃ (i : Fin 64) (n : Fin 256) (size : Fin 4) (ord : Fin 3) (rs ra : Fin 32) (off : BitVec 12) (s u : State), Issues s u i n [.x rs, .x ra]
    ∧ ((getThread s i n).xr ra + off.signExtend 64).toNat % 2 ^ size.val = 0 ∧ inMap ((getThread s i n).xr ra + off.signExtend 64).toNat =
    true ∧ (getThread s i n).mayAccess = true ∧ (ord ≠ 2 ∨ (getThread s i n).out = []))
  ∧ (∃ (i : Fin 64) (n : Fin 256) (vd ra : Fin 32) (off : BitVec 12) (s u : State), Issues s u i n [.v vd, .x ra] ∧ ((getThread s i n).xr ra +
    off.signExtend 64).toNat % 64 = 0 ∧ inMap ((getThread s i n).xr ra + off.signExtend 64).toNat = true ∧ (getThread s i n).mayAccess =
    true)
  ∧ (∃ (i : Fin 64) (n : Fin 256) (ord : Fin 3) (vs ra : Fin 32) (off : BitVec 12) (s u : State), Issues s u i n [.v vs, .x ra] ∧ ((getThread
    s i n).xr ra + off.signExtend 64).toNat % 64 = 0 ∧ inMap ((getThread s i n).xr ra + off.signExtend 64).toNat = true ∧ (getThread s i
    n).mayAccess = true ∧ (ord ≠ 2 ∨ (getThread s i n).out = [])) :=
  ⟨⟨63, 255, 3, 31, 4, 8, aReady, aReady, issues_of (by decide +kernel), by decide +kernel⟩,
  ⟨63, 255, 3, 2, 31, 4, 8, aReady, aReady, issues_of (by decide +kernel), by decide +kernel⟩,
  ⟨63, 255, 31, 4, 64, aReady, aReady, issues_of (by decide +kernel), by decide +kernel⟩,
  ⟨63, 255, 2, 31, 4, 64, aReady, aReady, issues_of (by decide +kernel), by decide +kernel⟩⟩

theorem wit_Atomics :
  ∃ (i : Fin 64) (n : Fin 256) (rd ra rb : Fin 32) (m : Fin 16) (s u : State), Issues s u i n [.x rd, .x ra, .x rb] ∧ 2 ≤ m.val % 4 ∧
    ((getThread s i n).xr ra).toNat % (if m.val % 4 = 2 then 4 else 8) = 0 ∧ ((getThread s i n).xr ra).toNat < 0x40000000 ∧ inMap
    ((getThread s i n).xr ra).toNat = true ∧ (getThread s i n).mayAccess = true ∧ (8 ≤ m.val → (getThread s i n).out = []) :=
  ⟨63, 255, 31, 4, 31, 15, aReady, aReady, issues_of (by decide +kernel), by decide +kernel⟩

theorem wit_VectorInstructions :
  (∃ (i : Fin 64) (n : Fin 256) (fn : VecFn) (vd va vb : Fin 32) (s u : State), Issues s u i n [.v vd, .v va, .v vb] ∧ vecKnown fn = true)
  ∧ (∃ (i : Fin 64) (n : Fin 256) (vd va : Fin 32) (s u : State), Issues s u i n [.v vd, .v va]) :=
  ⟨⟨63, 255, .mul, 31, 31, 31, aReady, aReady, issues_of (by decide +kernel), by decide +kernel⟩,
  ⟨63, 255, 31, 31, aReady, aReady, issues_of (by decide +kernel)⟩⟩

theorem wit_FormatConversions :
  (∃ (i : Fin 64) (n : Fin 256) (vd va xs : Fin 32) (slot rnd : Fin 4) (s u : State), Issues s u i n [.v vd, .v va, .v (va + 1), .x xs] ∧
    tobxLegal 4 rnd slot va = true)
  ∧ (∃ (i : Fin 64) (n : Fin 256) (vd va xs : Fin 32) (slot rnd : Fin 4) (s u : State), Issues s u i n [.v vd, .v va, .v (va + 1), .x xs] ∧
    tobxLegal 8 rnd slot va = true)
  ∧ (∃ (i : Fin 64) (n : Fin 256) (vd va xs : Fin 32) (slot rnd : Fin 4) (s u : State), Issues s u i n [.v vd, .v va, .v (va + 1), .x xs] ∧
    tobxLegal 16 rnd slot va = true)
  ∧ (∃ (i : Fin 64) (n : Fin 256) (vd va xs : Fin 32) (g : Fin 8) (s u : State), Issues s u i n [.v vd, .v va, .x xs] ∧ frombxLegal 4 g =
    true)
  ∧ (∃ (i : Fin 64) (n : Fin 256) (vd va xs : Fin 32) (g : Fin 8) (s u : State), Issues s u i n [.v vd, .v va, .x xs] ∧ frombxLegal 8 g =
    true)
  ∧ (∃ (i : Fin 64) (n : Fin 256) (vd va xs : Fin 32) (g : Fin 8) (s u : State), Issues s u i n [.v vd, .v va, .x xs] ∧ frombxLegal 16 g =
    true)
  ∧ (∃ (i : Fin 64) (n : Fin 256) (vd va : Fin 32) (s u : State), Issues s u i n [.v vd, .v va, .v (va + 1)] ∧ va.val % 2 = 0)
  ∧ (∃ (i : Fin 64) (n : Fin 256) (vd va : Fin 32) (s u : State), Issues s u i n [.v vd, .v va])
  ∧ (∃ (i : Fin 64) (n : Fin 256) (vd va vb xs : Fin 32) (s u : State), Issues s u i n [.v vd, .v va, .v vb, .x xs]) :=
  ⟨⟨63, 255, 31, 30, 31, 3, 1, aReady, aReady, issues_of (by decide +kernel), by decide +kernel⟩,
  ⟨63, 255, 31, 30, 31, 1, 1, aReady, aReady, issues_of (by decide +kernel), by decide +kernel⟩,
  ⟨63, 255, 31, 30, 31, 0, 1, aReady, aReady, issues_of (by decide +kernel), by decide +kernel⟩,
  ⟨63, 255, 31, 31, 31, 7, aReady, aReady, issues_of (by decide +kernel), by decide +kernel⟩,
  ⟨63, 255, 31, 31, 31, 3, aReady, aReady, issues_of (by decide +kernel), by decide +kernel⟩,
  ⟨63, 255, 31, 31, 31, 1, aReady, aReady, issues_of (by decide +kernel), by decide +kernel⟩,
  ⟨63, 255, 31, 30, aReady, aReady, issues_of (by decide +kernel), by decide +kernel⟩,
  ⟨63, 255, 31, 31, aReady, aReady, issues_of (by decide +kernel)⟩,
  ⟨63, 255, 31, 31, 31, 31, aReady, aReady, issues_of (by decide +kernel)⟩⟩

theorem wit_ThreadSynchronisation :
  (∃ (i : Fin 64) (n : Fin 256) (s u : State), Issues s u i n [])
  ∧ (∃ (i : Fin 64) (n : Fin 256) (ra rb : Fin 32) (s u : State), Issues s u i n [.x ra, .x rb] ∧ ((getThread s i n).xr ra).toNat < 1024 ∧
    (getThread s i n).out = [] ∧ (getThread s i n).fence = false)
  ∧ (∃ (i : Fin 64) (n : Fin 256) (rd ra rb : Fin 32) (s u : State), Issues s u i n [.x rd, .x ra, .x rb] ∧ ((getThread s i n).xr ra).toNat <
    1024)
  ∧ (∃ (i : Fin 64) (n : Fin 256) (rd box v : Nat) (s : State), (getThread s i n).wait = .sbwait rd box v ∧ (getShed s i).state = .run ∧
    sbxReached s (i / 16) box v = true)
  ∧ (∃ (i : Fin 64) (n : Fin 256) (rd box v e : Nat) (s : State), (getThread s i n).wait = .sbwait rd box v ∧ (getShed s i).state = .run ∧
    (getThread s i n).twait ≠ 0 ∧ (getThread s i n).twait ≤ e)
  ∧ (∃ (i : Fin 64) (n : Fin 256) (rd ra rb : Fin 32) (s u : State), Issues s u i n [.x rd, .x ra, .v rb] ∧ ((getThread s i n).xr ra).toNat <
    4 ∧ (getThread s i n).fence = false ∧ tqFull u (4 * (i / 16) + ((getThread s i n).xr ra).toNat) = false) :=
  ⟨⟨63, 255, aReady, aReady, issues_of (by decide +kernel)⟩,
  ⟨63, 255, 4, 4, aReady, aReady, issues_of (by decide +kernel), by decide +kernel⟩,
  ⟨63, 255, 31, 4, 31, aReady, aReady, issues_of (by decide +kernel), by decide +kernel⟩,
  ⟨63, 255, 31, 1023, 0, threadAt { wait := .sbwait 31 1023 0 }, by decide +kernel⟩,
  ⟨63, 255, 31, 1023, 1, 9, threadAt { wait := .sbwait 31 1023 1, twait := 9 }, by decide +kernel⟩,
  ⟨63, 255, 31, 0, 31, aReady, aReady, issues_of (by decide +kernel), by decide +kernel⟩⟩

theorem wit_ThreadControl :
  (∃ (i : Fin 64) (n : Fin 256) (rd : Fin 32) (s u : State), Issues s u i n [.x rd])
  ∧ (∃ (i : Fin 64) (n : Fin 256) (ra : Fin 32) (csr : BitVec 12) (s u : State), Issues s u i n [.x ra] ∧ (csr.toNat < 0x040 ∨ 0x043 <
    csr.toNat ∨ (getThread s i n).handler = true))
  ∧ (∃ (i : Fin 64) (n : Fin 256) (s u : State), Issues s u i n [] ∧ (getThread s i n).handler = true)
  ∧ (∃ (i : Fin 64) (n : Fin 256) (s u : State), Issues s u i n [] ∧ rdReg u (Reg.SHD_TRAPVEC.addr i 0 0) ≠ 0 ∧ (getThread u i n).handler =
    false)
  ∧ (∃ (i : Fin 64) (n : Fin 256) (e : DefErr) (rest : List DefErr) (s : State), (getThread s i n).errs = e :: rest ∧ (getShed s i).state =
    .run ∧ (getThread s i n).running = true ∧ (getThread s i n).wait = .none ∧ e.preTrap = false ∧ (getThread s i n).handler = false ∧
    rdReg s (Reg.SHD_TRAPVEC.addr i 0 0) ≠ 0)
  ∧ (∃ (i : Fin 64) (n : Fin 256) (e : DefErr) (rest : List DefErr) (s : State), (getThread s i n).errs = e :: rest ∧ (getShed s i).state =
    .run ∧ (getThread s i n).running = true ∧ (getThread s i n).wait = .none ∧ e.preTrap = true)
  ∧ (∃ (i : Fin 64) (n : Fin 256) (rd ra rb : Fin 32) (m : Fin 8) (s u : State) (j q : Nat), Issues s u i n [.x rd, .x ra, .x rb] ∧ m ≠ 0 ∧
    rdReg u (Reg.SHD_TRAPVEC.addr i 0 0) ≠ 0 ∧ (getThread u i n).handler = false ∧ (j ≠ i.val ∨ q ≠ n.val))
  ∧ (∃ (i : Fin 64) (n : Fin 256) (fn : LogicFn) (rd ra rb : Fin 32) (m : Fin 8) (s u : State), Issues s u i n [.x rd, .x ra, .x rb] ∧ (m ≠ 0
    ∨ logicKnown 0 fn = false) ∧ rdReg u (Reg.SHD_TRAPVEC.addr i 0 0) = 0)
  ∧ (∃ (i : Fin 64) (n : Fin 256) (s u : State), Issues s u i n [] ∧ rdReg u (Reg.SHD_TRAPVEC.addr i 0 0) ≠ 0 ∧ (getThread u i n).handler =
    true)
  ∧ (∃ (i : Fin 64) (cause : Nat) (s : State), rdReg s (Reg.SHD_TRAPVEC.addr i 0 0) = 0 ∧ cause < 32) :=
  ⟨⟨63, 255, 31, aReady, aReady, issues_of (by decide +kernel)⟩,
  ⟨63, 255, 31, 0x043, threadAt { running := true, handler := true }, threadAt { running := true, handler := true }, issues_of
    (by decide +kernel), by decide +kernel⟩,
  ⟨63, 255, threadAt { running := true, handler := true }, threadAt { running := true, handler := true }, issues_of (by decide +kernel),
    by decide +kernel⟩,
  ⟨63, 255, wrReg aReady (Reg.SHD_TRAPVEC.addr 63 0 0) 64, wrReg aReady (Reg.SHD_TRAPVEC.addr 63 0 0) 64, issues_of (by decide +kernel),
    by decide +kernel⟩,
  ⟨63, 255, { cause := 17, addr := 0, pc := 0, preTrap := false }, [], wrReg (threadAt { running := true, errs := [{ cause := 17, addr := 0, pc := 0, preTrap := false }] })
    (Reg.SHD_TRAPVEC.addr 63 0 0) 64, by decide +kernel⟩,
  ⟨63, 255, { cause := 17, addr := 0, pc := 0, preTrap := true }, [], threadAt { running := true, errs := [{ cause := 17, addr := 0, pc := 0, preTrap := true }] },
    by decide +kernel⟩,
  ⟨63, 255, 31, 31, 31, 7, wrReg aReady (Reg.SHD_TRAPVEC.addr 63 0 0) 64, wrReg aReady (Reg.SHD_TRAPVEC.addr 63 0 0) 64, 63, 254, issues_of
    (by decide +kernel), by decide +kernel⟩,
  ⟨63, 255, .and, 31, 31, 31, 7, aReady, aReady, issues_of (by decide +kernel), by decide +kernel⟩,
  ⟨63, 255, wrReg (threadAt { aThread with handler := true }) (Reg.SHD_TRAPVEC.addr 63 0 0) 64, wrReg (threadAt { aThread with handler := true })
    (Reg.SHD_TRAPVEC.addr 63 0 0) 64, issues_of (by decide +kernel), by decide +kernel⟩,
  ⟨63, 31, .reset, by decide +kernel⟩⟩

theorem wit_ShedControl :
  (∃ (i : Fin 64) (n : Fin 256) (s : State), (getShed s i).state = .stopped ∧ bitOf (getF s Fld.SHD_THR_EN_EN i (n / 32)) (n % 32) = true ∧
    bitOf (getF s Fld.SHD_COREDIS_DIS i) (n / 8) = false)
  ∧ (∃ (i : Fin 64) (s : State), (getShed s i).state = .run)
  ∧ (∃ (i : Fin 64) (s : State), (getShed s i).state = .stopping ∧ (getShed s i).thr.all (fun x => x.2.out.isEmpty && x.2.errs.isEmpty) =
    true)
  ∧ (∃ (req : Requester) (i : Fin 64) (s : State), req.bridle = true ∧ (getShed s i).state = .stopped) :=
  ⟨⟨63, 255, setF .reset Fld.SHD_THR_EN_EN 0x80000000 63 7, by decide +kernel⟩,
  ⟨63, aReady, by decide +kernel⟩,
  ⟨63, shedAt 63 { state := .stopping }, by decide +kernel⟩,
  ⟨.ostler, 63, .reset, by decide +kernel⟩⟩

theorem wit_ChannelCommands :
  (∃ (n : Fin 96) (c : Fin 8) (a : Nat) (rest : List Nat) (m : MemRead) (s u : State), (getChan s n c).arms = a :: rest ∧ u = putChan s n c
    { getChan s n c with arms := rest } ∧ armPreStatus u n c a = 0 ∧ memRead u a 128 = m ∧ m.failed = false ∧ streamRsvdOk m.bytes = true
    ∧ streamStatus m.s n c (parseStream a m.bytes) ≠ 0)
  ∧ (∃ (n : Fin 96) (c : Fin 8) (a : Nat) (rest : List Nat) (m : MemRead) (s u : State), (getChan s n c).arms = a :: rest ∧ u = putChan s n c
    { getChan s n c with arms := rest } ∧ armPreStatus u n c a = 0 ∧ memRead u a 128 = m ∧ m.failed = false ∧ streamRsvdOk m.bytes = true
    ∧ streamStatus m.s n c (parseStream a m.bytes) = 0 ∧ (getChan s n c).state = .idle)
  ∧ (∃ (n : Fin 96) (c : Fin 8) (a : Nat) (rest : List Nat) (m : MemRead) (s u : State), (getChan s n c).arms = a :: rest ∧ u = putChan s n c
    { getChan s n c with arms := rest } ∧ armPreStatus u n c a = 0 ∧ memRead u a 128 = m ∧ m.failed = false ∧ streamRsvdOk m.bytes = true
    ∧ streamStatus m.s n c (parseStream a m.bytes) = 0 ∧ (getChan s n c).state ≠ .idle)
  ∧ (∃ (n : Fin 96) (c : Fin 8) (a : Nat) (rest : List Nat) (s : State), (getChan s n c).arms = a :: rest ∧ a % 128 ≠ 0)
  ∧ (∃ (n : Fin 96) (c : Fin 8) (r : Run) (s : State), (getChan s n c).run = some r ∧ (getChan s n c).state = .wait ∧ (getShu s n).state ≠
    .stopped ∧ sbxReached s (shuDie n) r.d.waitSbx r.d.waitValue = true)
  ∧ (∃ (n : Fin 96) (c : Fin 8) (s : State), (getChan s n c).halting = 3 ∧ (getChan s n c).state ≠ .halted ∧ (getChan s n c).outstanding = 0 ∧
    (chanNext s n c).ready = false)
  ∧ (∃ (n : Fin 96) (c : Fin 8) (s : State), (getChan s n c).bindW = false ∧ (getChan s n c).bindI = false ∧ (getChan s n c).bindD = false)
  ∧ (∃ (n : Fin 96) (s : State), (getStall s (shuStall n)).state = .stopped ∧ (getStall s (shuStall n)).issue = [])
  ∧ (∃ (n : Fin 96) (c : Fin 8) (s : State), (getChan s n c).bindW = true ∧ (getStall s (shuStall n)).state ≠ .stopped)
  ∧ (∃ (n : Fin 96) (c : Fin 8) (s : State), (getChan s n c).clearing = true ∧ (getChan s n c).outstanding = 0 ∧ ((getChan s n c).shadow =
    none ∨ (getChan s n c).drop = true)) :=
  ⟨⟨95, 7, 0x30000000, [], _, armAt {} [], _, by decide +kernel, rfl, by decide +kernel, rfl, by decide +kernel⟩,
  ⟨95, 7, 0x30000000, [], _, armAt {} okDesc, _, by decide +kernel, rfl, by decide +kernel, rfl, by decide +kernel⟩,
  ⟨95, 7, 0x30000000, [], _, armAt { state := .active } okDesc, _, by decide +kernel, rfl, by decide +kernel, rfl, by decide +kernel⟩,
  ⟨95, 7, 1, [], chanAt 95 7 { arms := [1] }, by decide +kernel⟩,
  ⟨95, 7, {}, chanAt 95 7 { run := some {}, state := .wait }, by decide +kernel⟩,
  ⟨95, 7, chanAt 95 7 { halting := 3 }, by decide +kernel⟩,
  ⟨95, 7, .reset, by decide +kernel⟩,
  ⟨95, .reset, by decide +kernel⟩,
  ⟨79, 7, putStall (chanAt 79 7 { bindW := true }) 15 { state := .run }, by decide +kernel⟩,
  ⟨95, 7, chanAt 95 7 { clearing := true }, by decide +kernel⟩⟩

theorem wit_ShunterCommands :
  (∃ (n : Fin 96) (s : State), (getShu s n).state = .run)
  ∧ (∃ (n : Fin 96) (s : State), (getShu s n).state = .stopping ∧ (getShu s n).outstanding = 0)
  ∧ (∃ (n : Fin 96) (s : State), (getShu s n).state = .stopped)
  ∧ (∃ (req : Requester), req.bridle = true) :=
  ⟨⟨95, .reset, by decide +kernel⟩,
  ⟨95, shuAt 95 { state := .stopping }, by decide +kernel⟩,
  ⟨95, shuAt 95 { state := .stopped }, by decide +kernel⟩,
  ⟨.ostler, by decide +kernel⟩⟩

theorem wit_TransferCommands :
  (∃ (n : Fin 96) (m c count sn dn : Nat) (lead : Bool) (loc : Loc) (keys : List (Nat × Nat)) (r : Run) (s u : State), (getShu s n).state =
    .run ∧ u = waitTimers (addTokens s n m) n m ∧ (∀ c' < 8, ∀ a, chanNext u n c' ≠ .unreach a) ∧ (getShu u n).outstanding < 512 ∧
    pickChan u n = some c ∧ (getChan u n c).run = some r ∧ chanNext u n c = .data count lead loc sn dn keys)
  ∧ (∃ (n : Fin 96) (s : State), (getShu s n).state = .stopped)
  ∧ (∃ (n c : Nat) (s : State), (getShu (haltUnreached s n) n).outstanding < 512 ∧ pickChan (haltUnreached s n) n = some c)
  ∧ (∃ (n : Fin 96) (c : Fin 8) (r : Run) (x : Xfer) (p k : Nat) (lead : Bool) (s : State), (getChan s n c).run = some r ∧ r.xfers.find? (fun
    x => !x.returned) = some x ∧ x.kind = .data p k lead ∧ r.stopAt = none ∧ xferReturns s n r x = true ∧ (r.d.srcKind = .drain ∨
    inControl x.addr = true ∨ reachable s x.addr = true))
  ∧ (∃ (n : Fin 96) (c : Fin 8) (r : Run) (x : Xfer) (rest : List Xfer) (p k : Nat) (lead : Bool) (s : State), (getChan s n c).run = some r ∧
    r.xfers = x :: rest ∧ mayAck s n c r x = true ∧ x.kind = .data p k lead ∧ r.d.dstKind ≠ .siding ∧ rest ≠ [])
  ∧ (∃ (n : Fin 96) (c : Fin 8) (r : Run) (x : Xfer) (s : State), (getChan s n c).run = some r ∧ r.xfers = [x] ∧ mayAck s n c r x = true ∧ (∀
    p k lead, x.kind = .data p k lead → r.d.total ≤ min (r.upTo p k) r.written) ∧ r.d.dstKind ≠ .siding ∧ r.d.total ≤ r.pos ∧ (∀ sl,
    x.kind = .lineWrite sl → r.d.total ≤ r.done) ∧ (∀ a b e g, x.kind ≠ .line a b e g) ∧ r.pendLW = [] ∧ r.ready = [] ∧ (getChan s n
    c).state = .active ∧ (getChan s n c).clearing = false ∧ (getChan s n c).halting = 0 ∧ (getChan s n c).shadow = none) :=
  ⟨⟨95, 0, 7, 1, 0, 0, false, ⟨0, 2⟩, [], _, oneElem, _, by decide +kernel, rfl, none_unreach (by decide +kernel), by decide +kernel,
    by decide +kernel, rfl, by decide +kernel⟩,
  ⟨95, shuAt 95 { state := .stopped }, by decide +kernel⟩,
  ⟨95, 7, chanAt 95 7 { state := .active, run := some { d := { cls := 1 }, pendLW := [{ slot := 0, addr := 0, bytes := [] }] } },
    by decide +kernel⟩,
  ⟨95, 7, { d := { srck := 2 }, xfers := [aXfer false] }, aXfer false, 0, 1, false, chanAt 95 7 { run := some { d := { srck := 2 }, xfers := [aXfer false] } },
    by decide +kernel⟩,
  ⟨95, 7, { xfers := [aXfer true, aXfer true] }, aXfer true, [aXfer true], 0, 1, false, chanAt 95 7 { run := some { xfers := [aXfer true, aXfer true] } },
    by decide +kernel⟩,
  ⟨95, 7, { d := { cnt := [1] }, pos := 1, conv := 1, xfers := [aXfer true] }, aXfer true, chanAt 95 7 { state := .active, run := some { d := { cnt := [1] }, pos := 1, conv := 1, xfers := [aXfer true] } },
    by decide +kernel, by decide +kernel, by decide +kernel, (by intro p k l h; cases h; decide +kernel), by decide +kernel,
    by decide +kernel, (by intro _ h; cases h), (by intro _ _ _ _ h; cases h), by decide +kernel⟩⟩

theorem wit_SidingsAndBoxes :
  (∃ (d : Fin 4) (i : Fin 256) (n : Fin 128) (s : State), (getSid s d i).prod = none ∧ n.val ≤ sidFree s d i ∧ n ≠ 0)
  ∧ (∃ (d : Fin 4) (i : Fin 256) (n : Fin 128) (s : State), (getSid s d i).prod = none ∧ sidFree s d i < n.val)
  ∧ (∃ (d : Fin 4) (i : Fin 256) (n : Fin 128) (s : State), (getSid s d i).cons = none ∧ n.val ≤ (getSid s d i).fill ∧ n ≠ 0 ∧ sidSlots s d i
    ≠ 0)
  ∧ (∃ (d : Fin 4) (i : Fin 256) (s : State), (getSid s d i).prod ≠ none)
  ∧ (∃ (req : Requester) (d : Fin 4) (i : Fin 256) (v : W64) (s : State), req.bridle = true ∧ (getSid s d i).prod = none ∧ (getSid s d i).cons
    = none ∧ rdReg s (Reg.SID_BASE.addr d i 0) ≠ v &&& BitVec.ofNat 64 (Reg.SID_BASE.rw i))
  ∧ (∃ (j : Nat) (x : SbxInc) (s : State), s.sbxFlight[j]? = some x) :=
  ⟨⟨3, 255, 64, sidConf, by decide +kernel⟩,
  ⟨3, 255, 1, .reset, by decide +kernel⟩,
  ⟨3, 255, 64, putSid sidConf 3 255 { fill := 64 }, by decide +kernel⟩,
  ⟨3, 255, putSid sidConf 3 255 { prod := some 0 }, by decide +kernel⟩,
  ⟨.ostler, 3, 255, 0x1000, .reset, by decide +kernel⟩,
  ⟨0, { die := 3, box := 1023, inc := 1 }, { State.reset with sbxFlight := [{ die := 3, box := 1023, inc := 1 }] }, by decide +kernel⟩⟩

theorem wit_StallPorts :
  (∃ (w : StallAt) (a : BitVec 48) (k : Nat) (m : MemRead) (s u : State), w.stall.val = k ∧ u = busForget s w.req (Reg.SHU_TQ_ARM.addr
    (evenShu k) 0 0) ∧ tqFull s k = false ∧ a.toNat % 16 = 0 ∧ shuDie (evenShu k) = a.toNat / 0x10000000 ∧ reachable s a.toNat = true ∧
    memRead (setF (addF u Fld.SHU_TQ_STATUS_SEQ 1 (evenShu k)) Fld.SHU_TQ_STATUS_FULL 0 (evenShu k)) a.toNat 16 = m ∧ m.failed = false)
  ∧ (∃ (k : Nat) (bs : List Nat) (s : State), tileOpStatus s k bs = 0)
  ∧ (∃ (w : StallAt) (k : Nat) (s : State), w.stall.val = k ∧ tqFull s k = true)
  ∧ (∃ (w : StallAt) (a : BitVec 48) (k : Nat) (s : State), w.stall.val = k ∧ tqFull s k = false ∧ a.toNat % 16 ≠ 0)
  ∧ (∃ (w : StallAt) (a : BitVec 48) (k : Nat) (s : State), w.stall.val = k ∧ tqFull s k = false ∧ a.toNat % 16 = 0 ∧ (shuDie (evenShu k) ≠
    a.toNat / 0x10000000 ∨ reachable s a.toNat = false))
  ∧ (∃ (k : Fin 16) (c : Nat) (r : Run) (tl : Tile) (rest : List Tile) (s : State), portChan s k .weight = some c ∧ (getChan s (evenShu k)
    c).run = some r ∧ r.ready = tl :: rest ∧ (getStall s k).buffer.length < 2)
  ∧ (∃ (k : Fin 16) (c : Nat) (q : QOp) (rest : List QOp) (r : Run) (s : State), (getStall s k).toFetch = q :: rest ∧ portChan s k .input =
    some c ∧ (getChan s (oddShu k) c).run = some r ∧ r.d.dstKind = .input ∧ (getChan s (oddShu k) c).state = .active ∧ (getChan s (oddShu
    k) c).halting = 0 ∧ (getChan s (oddShu k) c).clearing = false ∧ (getShu s (oddShu k)).state = .run ∧ (q.d.waitEn = false ∨ sbxReached
    s (stallDie k) q.d.waitSbx q.d.waitValue = true) ∧ r.pos + (getStall s k).inGrant < r.d.total ∧ ((getStall s k).fetches.map
    (·.bytes)).foldl (· + ·) 0 + (q.d.vcnt + 1) * (if q.d.xfmt = 0 then 64 else 128) ≤ 1048576)
  ∧ (∃ (n : Fin 96) (c : Fin 8) (sa sb : Nat) (pa pb : Bool) (n2 c2 : Nat) (s : State), chanNext s n c = .waitSid sa pa ∧ (getChan s n
    c).waitOn = some (sa, pa) ∧ deadlockWindow s (shuDie n) ≤ (getChan s n c).waitCnt ∧ sidParty s (shuDie n) sa pa = some (n2, c2) ∧
    chanNext s n2 c2 = .waitSid sb pb ∧ sidParty s (shuDie n) sb pb = some (n.val, c.val) ∧ ((getChan s n c).halting = 0 ∨ (getChan s n2
    c2).halting = 0)) :=
  ⟨⟨⟨.ostler, 15⟩, 0x30000000, 15, memRead (setF (addF (busForget .reset .ostler (Reg.SHU_TQ_ARM.addr 78 0 0)) Fld.SHU_TQ_STATUS_SEQ 1 78)
    Fld.SHU_TQ_STATUS_FULL 0 78) 0x30000000 16, .reset, busForget .reset .ostler (Reg.SHU_TQ_ARM.addr 78 0 0), rfl, rfl, conj4
    (by decide +kernel) ⟨rfl, by decide +kernel⟩⟩,
  ⟨15, [1, 0, 0, 0, 0, 0, 0, 0, 0, 0, 0, 0, 0, 0, 0, 0], .reset, by decide +kernel⟩,
  ⟨⟨.ostler, 15⟩, 15, stallAt 15 { tq := List.replicate 16 {} }, by decide +kernel⟩,
  ⟨⟨.ostler, 15⟩, 0x30000008, 15, .reset, by decide +kernel⟩,
  ⟨⟨.ostler, 15⟩, 0, 15, .reset, by decide +kernel⟩,
  ⟨15, 7, { ready := [{}] }, {}, [], chanAt 78 7 { bindW := true, run := some { ready := [{}] } }, by decide +kernel⟩,
  ⟨15, 7, {}, [], { d := { dstk := 3, cnt := [1] } }, putStall (chanAt 79 7 inputPortStream) 15 { toFetch := [{}] }, by decide +kernel⟩,
  ⟨95, 7, 0, 1, false, false, 95, 6, deadlocked, by decide +kernel⟩⟩

theorem wit_MemoryRequests :
  (∃ (a : BitVec 48) (k : MemReqKind) (n : Nat) (s : State), regionAt a.toNat = .hbm n ∧ reachable s a.toNat = true ∧ reqBursts a.toNat k ≠
    0)
  ∧ (∃ (a : BitVec 48), regionAt a.toNat = .outside)
  ∧ (∃ (j : Nat) (q : MemReq) (n : Nat) (m : MemRead) (s : State), s.tier.queue[j]? = some q ∧ q.kind = .read n ∧ (∀ y ∈ s.tier.queue.take j,
    y.cls ≠ q.cls) ∧ inTurn s q = true ∧ s.integ.lost = [] ∧ readAt (serveLane { s with tier := { s.tier with queue := s.tier.queue.eraseIdx j } }
    q) q.addr (64 * n) = m)
  ∧ (∃ (a : BitVec 48) (s : State), s.tier.queue.any (fun q => (bankAddr s q.addr).key == (bankAddr s a.toNat).key) = false) :=
  ⟨⟨0x6FFFFFFE00, .read 8, 7, setF .reset Fld.HBM_STATUS_STATE 0 7, by decide +kernel⟩,
  ⟨0x7000000000, by decide +kernel⟩,
  ⟨1, { addr := 0, cls := 2, kind := .read 8 }, 8, _, { State.reset with tier := { queue := [{ addr := 0, cls := 3, kind := .read 8 }, { addr := 0, cls := 2, kind := .read 8 }] } },
    conj4 (by decide +kernel) ⟨by decide +kernel, rfl⟩⟩,
  ⟨0x6FFFFFFFC0, .reset, by decide +kernel⟩⟩

theorem wit_TierService :
  (∃ (req : Requester) (u : Fin 20) (s : State), req.bridle = true ∧ unitState s u = tierOffline ∧ s.tier.trained.contains u.val = true)
  ∧ (∃ (req : Requester) (u : Fin 20) (s : State), req.bridle = true ∧ (unitState s u = tierReady ∨ unitState s u = tierTraining))
  ∧ (∃ (d : Fin 4) (s : State), s.integ.fillDue.contains d.val = true)
  ∧ (∃ (r : Fin 24) (s : State), 4 ≤ r.val ∧ s.integ.fillDue.contains r.val = true ∧ (s.integ.retired.filter (inRegion r)).length ≤ 1024 ∧
    unitState s (r - 4) = tierTraining) :=
  ⟨⟨.ostler, 19, { setF .reset Fld.DDR_STATUS_STATE 2 11 with tier := { trained := [19] } }, by decide +kernel⟩,
  ⟨.ostler, 19, setF .reset Fld.DDR_STATUS_STATE 0 11, by decide +kernel⟩,
  ⟨3, { State.reset with integ := { fillDue := [3] } }, by decide +kernel⟩,
  ⟨23, setF { State.reset with integ := { fillDue := [23] } } Fld.DDR_STATUS_STATE 1 11, by decide +kernel⟩⟩

theorem wit_Grooming :
  (∃ (g : Fin 276) (s u : State), groomEnabled s (groomRegion g) = true ∧ (lapStart s (groomRegion g)).isSome = true ∧ groomSkips s g =
    false ∧ groomAt s g < groomWindows s (groomRegion g) ∧ bankIdle s (groomAddr g (groomAt s g)) = true ∧ u = (memRead s (groomAddr g
    (groomAt s g)) 512 true).s ∧ groomSkips u g = false ∧ groomAt s g + 1 < groomWindows u (groomRegion g))
  ∧ (∃ (g : Fin 276) (s u : State), groomEnabled s (groomRegion g) = true ∧ (lapStart s (groomRegion g)).isSome = true ∧ groomSkips s g =
    false ∧ groomAt s g < groomWindows s (groomRegion g) ∧ bankIdle s (groomAddr g (groomAt s g)) = true ∧ u = (memRead s (groomAddr g
    (groomAt s g)) 512 true).s ∧ groomAt s g + 1 = groomWindows u (groomRegion g) ∧ (∀ j ∈ regionGrooms (groomRegion g), j ≠ g.val →
    groomWindows u (groomRegion g) ≤ groomAt u j))
  ∧ (∃ (j a d b : Nat) (s : State), s.mem.pendFix[j]? = some a ∧ reachable s a = true ∧ regionAt a = .manger d b ∧ (guardByte s a).2 = 1)
  ∧ (∃ (j a d b : Nat) (s : State), s.mem.pendPoison[j]? = some a ∧ reachable s a = true ∧ regionAt a = .manger d b)
  ∧ (∃ (j a n : Nat) (s : State), s.mem.pendPoison[j]? = some a ∧ reachable s a = true ∧ bankIdle s a = true ∧ regionAt a = .hbm n)
  ∧ (∃ (r : Fin 24) (s : State), groomEnabled s r = true ∧ lapMax s r ≤ lapMs s r ∧ s.integ.lapAlarmed.contains r.val = false)
  ∧ (∃ (req : Requester), req.bridle = true) :=
  ⟨⟨275, setF (setF (setF { State.reset with integ := { lapStart := [(23, some 0)] } } Fld.GRM_CTRL_EN_DDR 1) Fld.DDR_STATUS_STATE 0 11)
    Fld.DDR_TOP_TOP 0x10000010000, _, conj4 (by decide +kernel) ⟨by decide +kernel, rfl, by decide +kernel⟩⟩,
  ⟨275, setF (setF (setF { State.reset with integ := { lapStart := [(23, some 0)], groomPos := (275, 9) :: (List.range 11).map (fun i => (264 + i, 10)) } }
    Fld.GRM_CTRL_EN_DDR 1) Fld.DDR_STATUS_STATE 0 11) Fld.DDR_TOP_TOP 0x10000010000, _, conj4 (by decide +kernel) ⟨by decide +kernel, rfl,
    by decide +kernel⟩⟩,
  ⟨0, 0x3FFFFFFF, 3, 63, memBare { pendFix := [0x3FFFFFFF], synd := [(0x3FFFFFFF, 1)] }, by decide +kernel⟩,
  ⟨0, 0x3FFFFFFF, 3, 63, memBare { pendPoison := [0x3FFFFFFF] }, by decide +kernel⟩,
  ⟨0, 0x6FFFFFFFC0, 7, setF (memBare { pendPoison := [0x6FFFFFFFC0] }) Fld.HBM_STATUS_STATE 0 7, by decide +kernel⟩,
  ⟨23, setF (setF .reset Fld.GRM_CTRL_EN_DDR 1) Fld.GRM_LAPMAX_DDR_MS 0, by decide +kernel⟩,
  ⟨.ostler, by decide +kernel⟩⟩

theorem wit_RepairsAndFlips :
  (∃ (req : Requester) (d : Fin 4) (b : Fin 64) (row : Fin 8192) (s : State), req.bridle = true ∧ getF s Fld.MGR_REPST_RES d = 0 ∧ bitOf
    (getF s Fld.MGR_OFFLINE_OFF d) b = false ∧ softRow s d b row = false ∧ softLeft s d b ≠ 0)
  ∧ (∃ (d : Fin 4) (b : Fin 64) (c : RepairCopy) (s : State), s.integ.copies.find? (fun c => c.die == d.val && c.bank == b.val) = some c ∧
    bitOf (getF s Fld.MGR_OFFLINE_OFF d) b = false ∧ softRow s d b c.row = false ∧ getF s Fld.MGR_SPARE_SROWS d b < 4 ∧ c.row < 8192 ∧
    c.byReg = true ∧ nmGet (fun _ => 0) s.integ.softHeld d = 0)
  ∧ (∃ (r : Fin 24) (b : Fin 64) (s : State), r.val < 4 ∧ handling s (regionOf r b) = true ∧ handlingOver s (regionOf r b) = true)
  ∧ (∃ (req : Requester) (r : Fin 24) (s : State), req.bridle = true ∧ 4 ≤ r.val ∧ handling s (regionOf r 0) = true) :=
  ⟨⟨.ostler, 3, 63, 8191, .reset, by decide +kernel⟩,
  ⟨3, 63, { die := 3, bank := 63, row := 8191, byReg := true }, { State.reset with integ := { copies := [{ die := 3, bank := 63, row := 8191, byReg := true }] } },
    by decide +kernel⟩,
  ⟨3, 63, { setF .reset Fld.MGR_HND_HND (2 ^ 63) 3 with time := 2 ^ 63 }, by decide +kernel⟩,
  ⟨.ostler, 23, setF .reset Fld.ECC_HND_HND 1 19, by decide +kernel⟩⟩

theorem wit_MangerBytes :
  (∃ (a d b v : Nat) (s : State) (x : Nat), regionAt a = .manger d b ∧ s.integ.flip = none ∧ s.integ.lost = [] ∧ v < 256 ∧ x ≠ a)
  ∧ (∃ (a d b : Nat) (bs : List Nat) (s : State) (i : Nat), regionAt a = .manger d b ∧ s.integ.flip = none ∧ s.integ.lost = [] ∧ i <
    bs.length)
  ∧ (∃ (a d b : Nat) (bs : List Nat) (s : State) (x : Nat), regionAt a = .manger d b ∧ s.integ.flip = none ∧ s.integ.lost = [] ∧ (x < a ∨ a +
    bs.length ≤ x)) :=
  ⟨⟨0x3FFFFFFF, 3, 63, 255, .reset, 0x3FFFFFFE, by decide +kernel⟩,
  ⟨0x3FFFFFFF, 3, 63, [255], .reset, 0, by decide +kernel⟩,
  ⟨0x3FFFFFFF, 3, 63, [255], .reset, 0x3FFFFFFE, by decide +kernel⟩⟩

theorem wit_BurstWrites :
  (∃ (a n : Nat) (bs : List Nat) (s : State) (x : Nat), regionAt a = .hbm n ∧ a % 64 = 0 ∧ bs.length = 64 ∧ (∀ x ∈ bs, x < 256) ∧
    s.integ.flip = none ∧ s.integ.lost = [] ∧ (x < a ∨ a + 64 ≤ x))
  ∧ (∃ (a n : Nat) (bs : List Nat) (s : State) (x : Nat), regionAt a = .hbm n ∧ a % 64 = 0 ∧ bs.length = 64 ∧ (∀ x ∈ bs, x < 256) ∧
    s.integ.flip = none ∧ s.integ.lost = [] ∧ x ≠ a)
  ∧ (∃ (r : Region) (a : Nat) (vs : List (Option Nat)) (s : State), vs.length = 64 ∧ vs.all (·.isSome) = false ∧ vs.all (·.isNone) = false ∧
    (readBursts s r a 1 false).failed = true ∧ handling s r = false) :=
  ⟨⟨0x6FFFFFFFC0, 7, List.replicate 64 255, .reset, 0x6FFFFFFFBF, by decide +kernel⟩,
  ⟨0x6FFFFFFFC0, 7, List.replicate 64 255, .reset, 0x6FFFFFFFC1, by decide +kernel⟩,
  ⟨.hbm 7, 0x6FFFFFFFC0, none :: List.replicate 63 (some 255), memBare { pendPoison := [0x6FFFFFFFC0] }, by decide +kernel⟩⟩

theorem wit_GuardCode :
  ∃ (i j : Fin 13), i < j :=
  ⟨0, 12, by decide +kernel⟩

theorem wit_BaysAndBuilds :
  (∃ (req : Requester) (y : Fin 2) (s : State), req.bridle = true ∧ bayState s y = 0 ∧ bayState s (1 - y) ≠ 1)
  ∧ (∃ (req : Requester) (y : Fin 2) (s : State), req.bridle = true ∧ bayState s y = 2)
  ∧ (∃ (req : Requester) (y : Fin 2) (n : W16) (s : State), req.bridle = true ∧ bayState s y = 3 ∧ n ≠ 0)
  ∧ (∃ (req : Requester) (y : Fin 2) (n : W16) (s : State), req.bridle = true ∧ n ≠ 0 ∧ n.toNat ≤ getF s Fld.LFT_BAY_REFS_REFS 0 y ∧ (bayState
    s y ≠ 4 ∨ n.toNat < getF s Fld.LFT_BAY_REFS_REFS 0 y))
  ∧ (∃ (req : Requester) (y : Fin 2) (n : W16) (s : State), req.bridle = true ∧ n ≠ 0 ∧ n.toNat ≤ getF s Fld.LFT_BAY_REFS_REFS 0 y ∧ bayState
    s y = 4 ∧ n.toNat = getF s Fld.LFT_BAY_REFS_REFS 0 y)
  ∧ (∃ (c : Nat) (x : StagedChunk) (set : LoftSet) (k : ChunkRec) (s u v : State), s.loft.staged.find? (fun x => x.chunk == c && x.repair ==
    true && x.complete) = some x ∧ (getBay s x.bay).set = some set ∧ set.chunks[x.chunk]? = some k ∧ u = (readRange s x.addr k.bytes).1 ∧
    v = { u with loft := { u.loft with staged := u.loft.staged.erase x } } ∧ (readRange s x.addr k.bytes).2.2 = false ∧ Config.sha384
    (readRange s x.addr k.bytes).2.1 = k.digest ∧ chunkGoes s k set.bands = true)
  ∧ (∃ (c bad : Nat) (x : StagedChunk) (set : LoftSet) (k : ChunkRec) (s u v : State), s.loft.staged.find? (fun x => x.chunk == c && x.repair
    == true && x.complete) = some x ∧ (getBay s x.bay).set = some set ∧ set.chunks[x.chunk]? = some k ∧ u = (readRange s x.addr k.bytes).1
    ∧ v = { u with loft := { u.loft with staged := u.loft.staged.erase x } } ∧ bad = (if reachable s x.addr = false then 0x000B else if
    (readRange s x.addr k.bytes).2.2 = true then 0x0008 else 0x0009) ∧ ((readRange s x.addr k.bytes).2.2 = true ∨ Config.sha384 (readRange
    s x.addr k.bytes).2.1 ≠ k.digest))
  ∧ (∃ (b : Build) (s : State), s.loft.build = some b ∧ b.slot = none ∧ b.bay < 2 ∧ getF s Fld.LFT_BTIMEOUT_S ≠ 0)
  ∧ (∃ (y : Nat) (s : State), activeBay s = some y ∧ s.loft.migrating = false ∧ (migrantPlace s y).isSome = true)
  ∧ (∃ (y : Nat) (s : State), activeBay s = some y ∧ s.loft.migrating = true ∧ migrantPlace s y = none)
  ∧ (∃ (y i a : Nat) (b : BandPlace) (s c e : State), activeBay s = some y ∧ s.loft.migrating = true ∧ migrantPlace s y = some (i, b, a) ∧
    rangeAccepts s b.addr b.bytes 3 = true ∧ c = copyBursts s b.addr a (b.bytes / 64) ∧ c.integ.lost = [] ∧ e = writeEntry (putBay (drawn
    c) y { getBay c y with set := (getBay c y).set.map (fun x => { x with bands := listSet x.bands i { b with addr := a } }) }) y i { b with addr := a }
    ∧ e.integ.lost = []) :=
  ⟨⟨.ostler, 1, .reset, by decide +kernel⟩,
  ⟨.ostler, 1, setF .reset Fld.LFT_BAY_STATUS_STATE 2 0 1, by decide +kernel⟩,
  ⟨.ostler, 1, 1, setF .reset Fld.LFT_BAY_STATUS_STATE 3 0 1, by decide +kernel⟩,
  ⟨.ostler, 1, 65535, setF .reset Fld.LFT_BAY_REFS_REFS 65535 0 1, by decide +kernel⟩,
  ⟨.ostler, 1, 65535, setF (setF .reset Fld.LFT_BAY_REFS_REFS 65535 0 1) Fld.LFT_BAY_STATUS_STATE 4 0 1, by decide +kernel⟩,
  ⟨0, repairPiece, aSet [aChunk (Config.sha384 (List.replicate 64 0))] [], aChunk (Config.sha384 (List.replicate 64 0)), staging
    (Config.sha384 (List.replicate 64 0)) {}, _, _, by decide +kernel, rfl, rfl, rfl, rfl, by decide +kernel, congrArg Config.sha384
    (by decide +kernel), by decide +kernel⟩,
  ⟨0, 0x0008, repairPiece, aSet [aChunk 0] [], aChunk 0, staging 0 { pendPoison := [63] }, _, _, by decide +kernel, by decide +kernel,
    by decide +kernel, rfl, rfl, by decide +kernel⟩,
  ⟨{ bay := 1, slot := none, set := aSet [] [] }, setF { State.reset with loft := { build := some { bay := 1, slot := none, set := aSet [] [] } } }
    Fld.LFT_BTIMEOUT_S 1, by decide +kernel⟩,
  ⟨1, migrant [aBand] false, by decide +kernel, by decide +kernel, by rw [(migrates false).choose_spec]; rfl⟩,
  ⟨1, migrant [] true, by decide +kernel⟩,
  ⟨1, 0, (migrates true).choose, aBand, migrant [aBand] true, _, _, by decide +kernel, by decide +kernel, (migrates true).choose_spec,
    by decide +kernel, rfl, by decide +kernel, rfl, by decide +kernel⟩⟩

theorem wit_MonitorConverters :
  (∃ (req : Requester) (m : Fin 48) (s : State), req.bridle = true ∧ monState s m = monStopped)
  ∧ (∃ (req : Requester) (m : Fin 48) (s : State), req.bridle = true ∧ monState s m = monRun)
  ∧ (∃ (req : Requester) (m : Fin 48) (s : State), req.bridle = true ∧ monState s m ≠ monCal)
  ∧ (∃ (m : Fin 48) (g r : Nat) (gain : Int) (s : State), monState s m = monCal ∧ s.mon.calQueue = [] ∧ s.sys.lightDue = none ∧ calGain ((r :
    Int) - g) = some gain ∧ calOffset g ≤ 512 ∧ gain.natAbs ≤ 1311)
  ∧ (∃ (req : Requester) (m : Fin 48) (a : Fin 128) (v : W32) (s : State), req.bridle = true ∧ v.toNat % 4 ≠ 3 ∧ v.toNat / 4 % 4 ≠ 3 ∧ v.toNat
    / 16 % 1024 ≠ 0 ∧ (monState s m = monStopped ∨ getF s Fld.ACC_CFG_RUN m a = 0))
  ∧ (∃ (req : Requester) (m : Fin 48) (a : Fin 128) (v : W32) (s : State), req.bridle = true ∧ v.toNat % 2 ^ 22 = (rdReg s (Reg.ACC_CFG.addr m
    a 0)).toNat - 4 * ((rdReg s (Reg.ACC_CFG.addr m a 0)).toNat / 4 % 4))
  ∧ (∃ (req : Requester) (m : Fin 48) (a : Fin 128) (v : W32) (s : State), req.bridle = true ∧ v.toNat % 2 ^ 22 ≠ (rdReg s (Reg.ACC_CFG.addr m
    a 0)).toNat - 4 * ((rdReg s (Reg.ACC_CFG.addr m a 0)).toNat / 4 % 4) ∧ (v.toNat % 4 = 3 ∨ v.toNat / 4 % 4 = 3 ∨ v.toNat / 16 % 1024 =
    0 ∨ (monState s m ≠ monStopped ∧ getF s Fld.ACC_CFG_RUN m a ≠ 0)))
  ∧ (∃ (m : Fin 48) (a : Fin 128) (e : AccEnd) (s : State), (getAcc s m a).ended = some e) :=
  ⟨⟨.ostler, 47, setF .reset Fld.MON_STATUS_STATE 1 47, by decide +kernel⟩,
  ⟨.ostler, 47, setF .reset Fld.MON_STATUS_STATE 0 47, by decide +kernel⟩,
  ⟨.ostler, 47, setF .reset Fld.MON_STATUS_STATE 1 47, by decide +kernel⟩,
  ⟨47, 1048576, 108423168, 0, setF .reset Fld.MON_STATUS_STATE 2 47, by decide +kernel⟩,
  ⟨.ostler, 47, 127, 0x3FF0, setF .reset Fld.MON_STATUS_STATE 1 47, by decide +kernel⟩,
  ⟨.ostler, 47, 127, 16, .reset, by decide +kernel⟩,
  ⟨.ostler, 47, 127, 3, .reset, by decide +kernel⟩,
  ⟨47, 127, { acc := {}, valid := true }, { State.reset with mon := { acc := [(6143, { ended := some { acc := {}, valid := true } })] } },
    by decide +kernel⟩⟩

theorem wit_ConversionsAndTrims :
  (∃ (s : State), s.mon.k % 400 ≠ 0)
  ∧ (∃ (s : State), s.mon.k % 400 = 0 ∧ s.mon.k < 400 * 2 ^ 64)
  ∧ (∃ (req : Requester) (c : Fin 1024) (x2 : Bool) (s : State), req.bridle = true ∧ (getTrim s c).hold = none ∧ ((getTrim s c).parked = true
    ∨ (getTrim s c).x2 = x2))
  ∧ (∃ (req : Requester) (c : Fin 1024) (x2 : Bool) (s : State), req.bridle = true ∧ (getTrim s c).hold = none ∧ (getTrim s c).parked = false
    ∧ (getTrim s c).x2 ≠ x2)
  ∧ (∃ (c : Fin 1024) (v : Nat) (x2 : Bool) (s : State), (getTrim s c).hold = some (v, x2, true)) :=
  ⟨⟨{ State.reset with mon := { k := 399 } }, by decide +kernel⟩,
  ⟨{ State.reset with mon := { k := 400 * (2 ^ 64 - 1) } }, by decide +kernel⟩,
  ⟨.ostler, 1023, true, .reset, by decide +kernel⟩,
  ⟨.ostler, 1023, true, { State.reset with mon := { trim := [(1023, { parked := false })] } }, by decide +kernel⟩,
  ⟨1023, 4095, true, { State.reset with mon := { trim := [(1023, { hold := some (4095, true, true) })] } }, by decide +kernel⟩⟩

theorem wit_LoopExecution :
  (∃ (i : Fin 6144) (s : State), bankState s (i / 256) ≠ bankStopped ∧ lpF s Fld.RN_LP_CTRL_EN i = 1 ∧ (getLoop s i).ran = false ∧ lpF s
    Fld.RN_LP_RUN_FREEZE i = 0 ∧ frameNow s % classFrames (lpF s Fld.RN_LP_CTRL_CLASS i) = lpF s Fld.RN_LP_CTRL_FOFF i ∧ (readSrc s i (lpF
    s Fld.RN_LP_INA_KIND i) (lpF s Fld.RN_LP_INA_INDEX i) ((getLoop s i).pseq.getD 0 64) (getLoop s i).first).invalid = true)
  ∧ (∃ (i : Fin 6144) (s : State), bankState s (i / 256) ≠ bankStopped ∧ lpF s Fld.RN_LP_CTRL_EN i = 1 ∧ (getLoop s i).ran = false ∧ lpF s
    Fld.RN_LP_RUN_FREEZE i = 0 ∧ frameNow s % classFrames (lpF s Fld.RN_LP_CTRL_CLASS i) = lpF s Fld.RN_LP_CTRL_FOFF i ∧ (readSrc s i (lpF
    s Fld.RN_LP_INA_KIND i) (lpF s Fld.RN_LP_INA_INDEX i) ((getLoop s i).pseq.getD 0 64) (getLoop s i).first).stale = true)
  ∧ (∃ (i : Fin 6144) (a sp : SrcRead) (runs : List StageRun) (y : Dy) (fin : List (StageRun × Bool)) (x : StageRun × Bool) (raw : Nat × Bool
    × Bool) (s : State), bankState s (i / 256) ≠ bankStopped ∧ lpF s Fld.RN_LP_CTRL_EN i = 1 ∧ (getLoop s i).ran = false ∧ lpF s
    Fld.RN_LP_RUN_FREEZE i = 0 ∧ frameNow s % classFrames (lpF s Fld.RN_LP_CTRL_CLASS i) = lpF s Fld.RN_LP_CTRL_FOFF i ∧ (∀ k : Fin 5,
    getF s Fld.RN_ST_CFG_KIND (i / 256) (i % 256) k ≠ 2) ∧ (i.val < 4624 ∨ 4720 ≤ i.val) ∧ lpF s Fld.RN_LP_FETIME_FETIME i = 0 ∧ ((getLoop
    s i).first = false ∨ lpF s Fld.RN_LP_CTRL_BUMPLESS i ≠ 1) ∧ readSrc s i (lpF s Fld.RN_LP_INA_KIND i) (lpF s Fld.RN_LP_INA_INDEX i)
    ((getLoop s i).pseq.getD 0 64) (getLoop s i).first = a ∧ readSrc s i (lpF s Fld.RN_LP_SPSRC_KIND i) (lpF s Fld.RN_LP_SPSRC_INDEX i)
    ((getLoop s i).pseq.getD 2 64) (getLoop s i).first = sp ∧ a.invalid = false ∧ a.stale = false ∧ runs = runStages (lwVal (slewed s i
    sp)) (lwVal 0) none 0 (lwVal a.lw) ((List.range 5).map (readStage s i)) ∧ runs.getLast?.map (fun z => onGrid z.st.se z.y) = some y ∧
    raw = destValue (lpF s Fld.RN_LP_DEST_DKIND i) y ∧ fin = (List.zip runs ((List.range 5).map (fun k => windup runs k raw.2.1
    raw.2.2))).map (fun z => renorm (updateInt z.1 z.2)) ∧ fin.getLast? = some x)
  ∧ (∃ (st : Stage), st.kind = 0)
  ∧ (∃ (st : Stage), st.kind = 1)
  ∧ (∃ (st : Stage), st.kind = 2)
  ∧ (∃ (st : Stage), st.kind = 3)
  ∧ (∃ (st : Stage), st.kind = 4)
  ∧ (∃ (st : Stage), st.kind = 5)
  ∧ (∃ (st : Stage), st.kind = 6)
  ∧ (∃ (st : Stage), st.kind = 7)
  ∧ (∃ (x : StageRun), x.st.kind = 4 ∧ x.st.clampEn = false)
  ∧ (∃ (x : StageRun), x.st.kind = 5)
  ∧ (∃ (i : Fin 6144) (err : Nat) (s : State), s.rein.faults = [(i.val, err)] ∧ s.rein.grown = [] ∧ lpF s Fld.RN_LP_CTRL_FEACT i = 1 ∧ lpF s
    Fld.RN_LP_CTRL_OWNER i = 0 ∧ (∀ x ∈ s.rein.buf, x.1 = i.val))
  ∧ (∃ (i : Fin 6144) (lw v : Nat) (s : State), s.rein.faults = [] ∧ s.rein.grown = [] ∧ s.rein.buf = [(i.val, lw, v + 1)] ∧ lpF s
    Fld.RN_LP_DEST_DKIND i = 2)
  ∧ (∃ (i k : Nat) (s : State), s.rein.faults = [] ∧ s.rein.grown = [(i, k)] ∧ s.rein.buf = []) :=
  ⟨⟨6143, loopOn 1, by decide +kernel⟩,
  ⟨6143, stale, by decide +kernel⟩,
  ⟨6143, loopA, loopSp, loopRuns, loopY, loopFin, loopX, loopRaw, loopOn 0, conj4 (by decide +kernel) (conj4 (by decide +kernel)
    ⟨by decide +kernel, rfl, rfl, by decide +kernel, by decide +kernel, rfl, (Option.some_get _).symm, rfl, rfl, (Option.some_get
    _).symm⟩)⟩,
  ⟨{ aStage with kind := 0 }, by decide +kernel⟩,
  ⟨{ aStage with kind := 1 }, by decide +kernel⟩,
  ⟨{ aStage with kind := 2 }, by decide +kernel⟩,
  ⟨{ aStage with kind := 3 }, by decide +kernel⟩,
  ⟨{ aStage with kind := 4 }, by decide +kernel⟩,
  ⟨{ aStage with kind := 5 }, by decide +kernel⟩,
  ⟨{ aStage with kind := 6 }, by decide +kernel⟩,
  ⟨{ aStage with kind := 7 }, by decide +kernel⟩,
  ⟨{ aRun with st := { aStage with kind := 4 } }, by decide +kernel⟩,
  ⟨{ aRun with st := { aStage with kind := 5 } }, by decide +kernel⟩,
  ⟨6143, 0, setF { State.reset with rein := { faults := [(6143, 0)], buf := [(6143, 5, 1)] } } Fld.RN_LP_CTRL_FEACT 1 23 255,
    by decide +kernel⟩,
  ⟨6143, 5, 0, setF { State.reset with rein := { buf := [(6143, 5, 1)] } } Fld.RN_LP_DEST_DKIND 2 23 255, by decide +kernel⟩,
  ⟨6143, 4, { State.reset with rein := { grown := [(6143, 4)] } }, by decide +kernel⟩⟩

theorem wit_BanksAndLoops :
  (∃ (req : Requester) (b : Fin 24) (s : State), req.bridle = true ∧ bankState s b = bankRun)
  ∧ (∃ (req : Requester) (b : Fin 24) (s : State), req.bridle = true ∧ bankState s b = bankStopped ∧ (∀ q : Fin 256, loopRefused s (256 * b +
    q) = 0))
  ∧ (∃ (req : Requester) (b : Fin 24) (q : Fin 256) (s : State), req.bridle = true ∧ bankState s b = bankStopped ∧ loopRefused s (256 * b + q)
    ≠ 0 ∧ (∀ p : Fin 256, p < q → loopRefused s (256 * b + p) = 0))
  ∧ (∃ (req : Requester) (i : Fin 6144) (w : LoopOffset) (r : RegByte) (s : State), req.bridle = true ∧ stoppedOnly (4 * w.val) = true ∧
    regByteAt (loopAddr i (4 * w.val)) = some r ∧ bankState s (i / 256) = bankStopped)
  ∧ (∃ (req : Requester) (i : Fin 6144) (w : LoopOffset) (s : State), req.bridle = true ∧ stoppedOnly (4 * w.val) = true ∧ bankState s (i /
    256) ≠ bankStopped)
  ∧ (∃ (req : Requester) (i : Fin 6144) (s : State), req.bridle = true ∧ lpF s Fld.RN_LP_RUN_FREEZE i = 1) :=
  ⟨⟨.ostler, 23, setF .reset Fld.RN_BANK_STATUS_STATE bankRun 0 23, by decide +kernel⟩,
  ⟨.ostler, 23, setF .reset Fld.RN_BANK_STATUS_STATE bankStopped 0 23, by decide +kernel⟩,
  ⟨.ostler, 23, 255, setF (setF (setF .reset Fld.RN_BANK_STATUS_STATE bankStopped 0 23) Fld.RN_LP_CTRL_EN 1 23 255) Fld.RN_LP_CTRL_FEACT 3
    23 255, by decide +kernel⟩,
  (by obtain ⟨r, h⟩ := Option.isSome_iff_exists.mp (show (regByteAt (loopAddr (6143 : Fin 6144) (4 * (55 : Fin 64)))).isSome = true
    by decide +kernel); exact ⟨.ostler, 6143, 55, r, setF .reset Fld.RN_BANK_STATUS_STATE bankStopped 0 23, by decide +kernel,
    by decide +kernel, h, by decide +kernel⟩),
  ⟨.ostler, 6143, 55, setF .reset Fld.RN_BANK_STATUS_STATE bankRun 0 23, by decide +kernel⟩,
  ⟨.ostler, 6143, setF .reset Fld.RN_LP_RUN_FREEZE 1 23 255, by decide +kernel⟩⟩

theorem wit_LightSequences :
  (∃ (req : Requester) (s : State), req.bridle = true ∧ s.light.laserEn = true ∧ combState s 0 = combOff ∧ combState s 1 = combOff)
  ∧ (∃ (s : State), combState s 0 = combLocked)
  ∧ (∃ (s : State), s.light.running = true)
  ∧ (∃ (k : Fin 2) (s : State), combState s k = combLocked)
  ∧ (∃ (s : State), s.light.switching = true)
  ∧ (∃ (req : Requester) (s : State), req.bridle = true ∧ combState s 0 = combFailed ∧ s.light.laserEn = true) :=
  ⟨⟨.ostler, lightAt { laserEn := true }, by decide +kernel⟩,
  ⟨setF .reset Fld.LTE_STATUS_COMB0 combLocked, by decide +kernel⟩,
  ⟨lightAt { running := true }, by decide +kernel⟩,
  ⟨1, setF .reset Fld.LTE_STATUS_COMB1 combLocked, by decide +kernel⟩,
  ⟨lightAt { switching := true }, by decide +kernel⟩,
  ⟨.ostler, setF (lightAt { laserEn := true }) Fld.LTE_STATUS_COMB0 combFailed, by decide +kernel⟩⟩

theorem wit_PilotChecks :
  (∃ (req : Requester) (r : Fin 528) (s : State), req.bridle = true ∧ ringState s r = ringLocked ∧ s.light.checks.contains r.val = false)
  ∧ (∃ (r : Fin 528) (p : PilotMeas) (s : State), s.light.checks.find? (fun x => ringConv x == ringConv r) = some r.val ∧ 16 ≤ r.val ∧
    pilotOutcome s (ringLine s r) p = .pass ∧ onLostLine s r = false)
  ∧ (∃ (r : Fin 528) (p : PilotMeas) (s : State), s.light.checks.find? (fun x => ringConv x == ringConv r) = some r.val ∧ ringState s r =
    ringLocked ∧ pilotOutcome s (ringLine s r) p = .unknown)
  ∧ (∃ (req : Requester) (r : Fin 528) (s : State), req.bridle = true ∧ ringState s r = ringOff ∧ (getTrim s (heaterChan r)).hold = none)
  ∧ (∃ (req : Requester) (r : Fin 528) (s : State), req.bridle = true ∧ ringState s r ≠ ringOff) :=
  ⟨⟨.ostler, 527, setF .reset Fld.LTE_RING_STATUS_STATE ringLocked 0 527, by decide +kernel⟩,
  ⟨527, { mean := 1, full := 8, amp := [0, 0, 65535, 0, 0] }, lightAt { checks := [527] }, by decide +kernel⟩,
  ⟨527, { mean := 1, full := 8, amp := [0, 0, 0, 0, 0] }, setF (lightAt { checks := [527] }) Fld.LTE_RING_STATUS_STATE ringLocked 0 527,
    by decide +kernel⟩,
  ⟨.ostler, 527, .reset, by decide +kernel⟩,
  ⟨.ostler, 527, setF .reset Fld.LTE_RING_STATUS_STATE ringLocked 0 527, by decide +kernel⟩⟩

theorem wit_FarrierControl :
  (∃ (req : Requester) (s : State), req.bridle = true ∧ farState s = farStopped ∧ s.far.setsRead = true)
  ∧ (∃ (req : Requester) (s : State), req.bridle = true ∧ farState s = farRun ∧ s.far.work = none)
  ∧ (∃ (req : Requester) (w : FarWork) (s : State), req.bridle = true ∧ farState s = farRun ∧ s.far.work = some w ∧ w.abandoned = false)
  ∧ (∃ (req : Requester) (k : Fin 16) (s : State), req.bridle = true ∧ getF s Fld.FAR_STALL_STATUS_CAL k = 2 ∧ (∀ w, s.far.work = some w →
    w.stall ≠ k))
  ∧ (∃ (k : Fin 16) (h : Nat) (s : State), getF s Fld.FAR_MAXAGE_HOURS ≠ 0 ∧ getF s Fld.FAR_MAXAGE_HOURS ≤ h ∧ getF s Fld.FAR_STALL_STATUS_CAL
    k ≠ 0)
  ∧ (∃ (k : Fin 16) (h : Nat) (s : State), (if getF s Fld.FAR_NVINT_S = 0 then 3600 else getF s Fld.FAR_NVINT_S) ≤ h ∧ (getFar s
    k).set.changed = true) :=
  ⟨⟨.ostler, setF { State.reset with far := { setsRead := true } } Fld.FAR_STATUS_STATE farStopped, by decide +kernel⟩,
  ⟨.ostler, setF .reset Fld.FAR_STATUS_STATE farRun, by decide +kernel⟩,
  ⟨.ostler, aWork true true, farAt { work := some (aWork true true) }, by decide +kernel⟩,
  ⟨.ostler, 15, setF .reset Fld.FAR_STALL_STATUS_CAL 2 15, by decide +kernel, by decide +kernel, by intro w h; nomatch h⟩,
  ⟨15, 1, setF (setF .reset Fld.FAR_MAXAGE_HOURS 1) Fld.FAR_STALL_STATUS_CAL 1 15, by decide +kernel⟩,
  ⟨15, 4294967295, putFar .reset 15 { set := { changed := true } }, by decide +kernel⟩⟩

theorem wit_FarrierRuns :
  (∃ (k : Nat) (s : State), farState s = farRun ∧ s.far.work = none ∧ farPick s = some k ∧ k < 16)
  ∧ (∃ (k : Fin 16) (w : FarWork) (s : State), s.far.work = some w ∧ w.stall = k ∧ w.owns = false ∧ w.reint = false ∧ (getStall s k).quiet =
    true ∧ (getStall s k).thm = [] ∧ (getStall s k).lte = [] ∧ farState s ≠ farStopping)
  ∧ (∃ (a b : StallMeas) (w : FarWork) (s : State), s.far.work = some w ∧ w.owns = true ∧ w.reint = false ∧ w.abandoned = false ∧ farState s =
    farRun ∧ w.stall < 16 ∧ attemptCause (toMap a.field) (toMap b.field) true true = 0)
  ∧ (∃ (w : FarWork) (s : State), s.far.work = some w ∧ w.owns = true ∧ w.reint = false ∧ w.abandoned = false ∧ farState s = farRun ∧ w.stall
    < 16 ∧ w.attempt < 3)
  ∧ (∃ (w : FarWork) (s : State), s.far.work = some w ∧ w.owns = true ∧ w.reint = false ∧ w.abandoned = false ∧ farState s = farStopping)
  ∧ (∃ (k : Fin 16) (w : FarWork) (s : State), farState s = farRun ∧ s.far.work = some w ∧ w.stall = k ∧ w.reint = true ∧ w.owns = true ∧
    (getStall s k).farKept = false)
  ∧ (∃ (p : Fin 8) (j : Nat) (a b : LaneMeas) (s : State), (getFarPort s p).lane = some j ∧ (getPort s p).released = some j ∧ (getPort s
    p).returned = false ∧ farState s = farRun ∧ j < 32 ∧ laneAgree a b = true)
  ∧ (∃ (p : Fin 8) (j : Nat) (a b : LaneMeas) (s : State), (getFarPort s p).lane = some j ∧ (getPort s p).released = some j ∧ (getPort s
    p).returned = false ∧ farState s = farRun ∧ laneAgree a b = false ∧ (getFarPort s p).rejects < 2) :=
  ⟨⟨15, farAt { stall := [(15, { run := true })] }, by decide +kernel⟩,
  ⟨15, aWork false false, farAt { work := some (aWork false false) }, by decide +kernel⟩,
  ⟨{ field := [] }, { field := [] }, aWork true false, farAt { work := some (aWork true false) }, conj4 (by decide +kernel)
    ⟨by decide +kernel, by decide +kernel, attemptCause_empty⟩⟩,
  ⟨aWork true false, farAt { work := some (aWork true false) }, by decide +kernel⟩,
  ⟨aWork true false, setF (farAt { work := some (aWork true false) }) Fld.FAR_STATUS_STATE farStopping, by decide +kernel⟩,
  ⟨15, aWork true true, farAt { work := some (aWork true true) }, by decide +kernel⟩,
  ⟨7, 31, { txlvl := 2, rxthr := 0, phase := 2 }, { txlvl := 0, rxthr := 2, phase := 0 }, putPort (farAt { port := [(7, { lane := some 31 })] })
    7 { released := some 31 }, by decide +kernel⟩,
  ⟨7, 31, { txlvl := 3, rxthr := 0, phase := 2 }, { txlvl := 0, rxthr := 2, phase := 0 }, putPort (farAt { port := [(7, { lane := some 31, rejects := 1 })] })
    7 { released := some 31 }, by decide +kernel⟩⟩

theorem wit_PowerInput :
  (∃ (s : State), s.pwr.rails = .precharge)
  ∧ (∃ (s : State), s.pwr.rails = .noClock)
  ∧ (∃ (s : State), s.pwr.rails = .rising)
  ∧ (∃ (cause : Fin 8) (vin iin : Fin 4096) (s : State), s.pwr.rails ≠ .off ∧ tripCondition s cause vin iin = true)
  ∧ (∃ (vin : Fin 4096) (s : State), s.pwr.ovWarn = false ∧ 2368 < vin.val)
  ∧ (∃ (vin : Fin 4096) (s : State), s.pwr.ovWarn = true ∧ 2 * vin.val < 4704)
  ∧ (∃ (vin : Fin 4096) (s : State), getF s Fld.PWR_STATUS_UVWARN = 0 ∧ vin.val < 1408)
  ∧ (∃ (vin : Fin 4096) (s : State), getF s Fld.PWR_STATUS_UVWARN = 1 ∧ 2848 < 2 * vin.val)
  ∧ (∃ (iin : Fin 4096) (s : State), s.pwr.forceOc = false ∧ 3328 < iin.val ∧ s.pwr.u ≤ 1023)
  ∧ (∃ (iin : Fin 4096) (s : State), s.pwr.forceOc = true ∧ s.pwr.forceUv = false ∧ iin.val < 2944 ∧ s.pwr.u ≤ 1023)
  ∧ (∃ (vin : Fin 4096) (s : State), s.pwr.forceUv = false ∧ vin.val < 1280 ∧ s.pwr.u ≤ 1023)
  ∧ (∃ (vin : Fin 4096) (s : State), s.pwr.forceUv = true ∧ s.pwr.forceOc = false ∧ 1344 < vin.val ∧ s.pwr.u ≤ 1023) :=
  ⟨⟨.reset, by decide +kernel⟩,
  ⟨pwrAt { rails := .noClock }, by decide +kernel⟩,
  ⟨pwrAt { rails := .rising }, by decide +kernel⟩,
  ⟨1, 1151, 0, .reset, by decide +kernel⟩,
  ⟨2369, .reset, by decide +kernel⟩,
  ⟨2351, pwrAt { ovWarn := true }, by decide +kernel⟩,
  ⟨1407, .reset, by decide +kernel⟩,
  ⟨1425, setF .reset Fld.PWR_STATUS_UVWARN 1, by decide +kernel⟩,
  ⟨3329, pwrAt { u := 1023 }, by decide +kernel⟩,
  ⟨2943, pwrAt { forceOc := true, u := 1023 }, by decide +kernel⟩,
  ⟨1279, pwrAt { u := 1023 }, by decide +kernel⟩,
  ⟨1345, pwrAt { forceUv := true }, by decide +kernel⟩⟩

theorem wit_BudgetAndDemand :
  (∃ (s : State), inForce s Fld.PWR_PBCFG_MODE < 2 ∧ s.pwr.absent = false ∧ s.pwr.badSample = true)
  ∧ (∃ (s : State), inForce s Fld.PWR_PBCFG_MODE < 2 ∧ s.pwr.absent = true ∧ s.pwr.badSample = false)
  ∧ (∃ (mv : Nat) (s : State), inForce s Fld.PWR_PBCFG_MODE = 0 ∧ 500 ≤ mv ∧ mv ≤ 10000)
  ∧ (∃ (s : State), s.sys.ostlerUp = true ∧ s.light.dark = false ∧ (∀ c ∈ [254, 255], (getTrim s c).hold = none ∧ ((getTrim s c).parked = true
    ∨ (getTrim s c).x2 = true)))
  ∧ (∃ (s : State), s.pwr.forceUv = false ∧ s.pwr.forceOc = false ∧ s.pwr.u ≤ 1023)
  ∧ (∃ (k : Fin 16) (s : State), k.val ∈ s.pwr.parked ∧ k.val ∉ parkOrder.take (parkOf (demandInForce s)))
  ∧ (∃ (s : State), getF s Fld.PWR_STATUS_OVERBUDGET = 1 ∧ s.pwr.u < 768) :=
  ⟨⟨pwrAt { absent := false }, by decide +kernel⟩,
  ⟨pwrAt { badSample := false }, by decide +kernel⟩,
  ⟨10000, .reset, by decide +kernel⟩,
  ⟨{ State.reset with sys := { ostlerUp := true } }, by decide +kernel⟩,
  ⟨.reset, by decide +kernel⟩,
  ⟨1, pwrAt { parked := [1] }, by decide +kernel⟩,
  ⟨setF (pwrAt { u := 767 }) Fld.PWR_STATUS_OVERBUDGET 1, by decide +kernel⟩⟩

theorem wit_ThermalControl :
  (∃ (die : Fin 6) (rd : List Int), rd.length = sensorCount die ∧ (∀ x ∈ rd, -100 ≤ x ∧ x < 1360))
  ∧ (∃ (a b c e f : Int), a < 1120 ∧ b < 1120 ∧ c < 2000 ∧ e < 720 ∧ f < 1040)
  ∧ (∃ (c : Int), 2000 ≤ c)
  ∧ (∃ (x : Int), -60 ≤ x ∧ x < 100)
  ∧ (∃ (d : Fin 4) (s : State), (getDie s d).rate = .quiet ∧ (getDie s d).dieTrip = false ∧ (getDie s d).stackTrip = [])
  ∧ (∃ (d : Fin 4) (s : State), (getDie s d).rate = .checking ∧ (∀ i : Fin 4, ThmWhy.rateTrip ∉ (getStall s (4 * d + i)).thm))
  ∧ (∃ (d : Fin 4) (ms : Nat) (s : State), (getDie s d).rate ≠ .none ∧ (getDie s d).overrun = false ∧ (if inForce s Fld.THM_RECMAX_MS = 0 then
    40 else inForce s Fld.THM_RECMAX_MS) ≤ ms)
  ∧ (∃ (d : Fin 4) (s : State), (getDie s d).dieTrip = true ∧ (getDie s d).stackTrip = [] ∧ sext 16 (getF s Fld.THM_DIE_T 0 d) < 1520) :=
  ⟨⟨5, List.replicate 12 1359, by decide +kernel⟩,
  ⟨1119, 1119, 1999, 719, 1039, by decide +kernel⟩,
  ⟨2000, by decide +kernel⟩,
  ⟨99, by decide +kernel⟩,
  ⟨3, dieAt { rate := .quiet }, by decide +kernel⟩,
  ⟨3, dieAt { rate := .checking }, by decide +kernel⟩,
  ⟨3, 4294967295, dieAt { rate := .checking }, by decide +kernel⟩,
  ⟨3, dieAt { dieTrip := true }, by decide +kernel⟩⟩

theorem wit_DroveSending :
  (∃ (w : PortAt) (p : Nat) (addr : BitVec 48) (r : State × List Nat) (s : State), w.port.val = p ∧ readLoose (busForget s w.req
    (Reg.DRV_SQ_ARM.addr p 0 0)) addr.toNat 32 = r ∧ sendStatus r.1 p addr.toNat r.2 = 0)
  ∧ (∃ (w : PortAt) (p : Nat) (addr : BitVec 48) (r : State × List Nat) (s : State), w.port.val = p ∧ readLoose (busForget s w.req
    (Reg.DRV_SQ_ARM.addr p 0 0)) addr.toNat 32 = r ∧ sendStatus r.1 p addr.toNat r.2 ≠ 0)
  ∧ (∃ (p : Fin 8) (s : State), portState s p ≠ portStopped ∧ portState s p ≠ portDownSt)
  ∧ (∃ (p : Fin 8) (src : Fin 16) (e : AckEntry) (o : Outgoing) (g : OutFrame) (s : State), e.lane ≠ 255 ∧ (getPort s p).flight = [o] ∧ sentIn
    o src e = some g ∧ e.status = 0)
  ∧ (∃ (p : Fin 8) (src : Fin 16) (e : AckEntry) (o : Outgoing) (g : OutFrame) (s : State), e.lane ≠ 255 ∧ (getPort s p).flight = [o] ∧ sentIn
    o src e = some g ∧ e.status = 1)
  ∧ (∃ (p : Fin 8) (num : W16) (i : Fin 4096) (o : Outgoing) (g : OutFrame) (s : State), (getPort s p).flight = [o] ∧ o.num = num.toNat ∧
    memberSuspended s p o.d.dst = false ∧ o.out = [g] ∧ g.index = i.val ∧ g.again = false ∧ g.frame + 4 ≤ (getPort s p).frame ∧ g.resends
    < 8)
  ∧ (∃ (p : Fin 8) (k : Nat) (o : OutC0) (s : State), (getPort s p).c0out[k]? = some o ∧ o.again = false ∧ memberSuspended s p o.f.dst = false
    ∧ o.frame + 4 ≤ (getPort s p).frame ∧ o.resends < 8)
  ∧ (∃ (p : Fin 8) (x : W16) (o : Outgoing) (s : State), (getPort s p).flight.find? (fun o => o.num == x.toNat) = some o ∧ o.out = [] ∧ o.next
    = o.d.nframes ∧ o.d.doneEn = false) :=
  ⟨⟨⟨.ostler, 7⟩, 7, 0, readLoose (busForget sendMem .ostler (Reg.DRV_SQ_ARM.addr 7 0 0)) 0 32, sendMem, rfl, rfl, by decide +kernel⟩,
  ⟨⟨.ostler, 7⟩, 7, 0, readLoose (busForget .reset .ostler (Reg.DRV_SQ_ARM.addr 7 0 0)) 0 32, .reset, rfl, rfl, by decide +kernel⟩,
  ⟨7, portIn portUp, by decide +kernel⟩,
  ⟨7, 15, { frame := 0, lane := 31, status := 0 }, aTransfer, anOut 0, portAt { flight := [aTransfer] }, by decide +kernel⟩,
  ⟨7, 15, { frame := 0, lane := 31, status := 1 }, aTransfer, anOut 0, portAt { flight := [aTransfer] }, by decide +kernel⟩,
  ⟨7, 65535, 4095, aTransfer, anOut 0, portAt { flight := [aTransfer], frame := 4 }, by decide +kernel⟩,
  ⟨7, 0, { f := {}, frame := 0, resends := 7, again := false }, portAt { c0out := [{ f := {}, frame := 0, resends := 7, again := false }], frame := 4 },
    by decide +kernel⟩,
  ⟨7, 65535, doneTransfer, portAt { flight := [doneTransfer] }, by decide +kernel⟩⟩

theorem wit_DroveReceiving :
  (∃ (errs : List Nat), (∃ e ∈ errs, 15 < e))
  ∧ (∃ (p : Fin 8) (f : DataFrame) (ok : Bool) (s : State), f.lane < 32 ∧ (f.herd ≠ herdId s ∨ admitted s p f.src = false ∨ ok = false))
  ∧ (∃ (p : Fin 8) (f : DataFrame) (s : State), f.lane < 32 ∧ f.herd = herdId s ∧ admitted s p f.src = true ∧ epochOk s p f.epoch = true ∧
    f.kind = 1 ∧ f.lines ≠ 0 ∧ f.dst = ownIndex s ∧ f.src ≠ ownIndex s ∧ windowTakes (getPort s p) f = false)
  ∧ (∃ (p : Fin 8) (f : DataFrame) (s : State), f.lane < 32 ∧ f.herd = herdId s ∧ admitted s p f.src = true ∧ epochOk s p f.epoch = true ∧
    f.kind = 1 ∧ f.lines ≠ 0 ∧ f.dst = ownIndex s ∧ f.src ≠ ownIndex s ∧ windowTakes (getPort s p) f = true ∧ (getPort s
    p).incoming.length < 64 ∧ rangeAccepts s f.addr (64 * f.lines) f.cls = true)
  ∧ (∃ (p : Fin 8) (f : DataFrame) (s : State), f.lane < 32 ∧ f.herd = herdId s ∧ admitted s p f.src = true ∧ epochOk s p f.epoch = true ∧
    f.kind = 1 ∧ f.lines ≠ 0 ∧ f.dst = ownIndex s ∧ f.src ≠ ownIndex s ∧ windowTakes (getPort s p) f = true ∧ (getPort s
    p).incoming.length < 64 ∧ rangeAccepts s f.addr (64 * f.lines) f.cls = false)
  ∧ (∃ (p : Fin 8) (src : Fin 16) (x : W16) (y : Incoming) (s : State), (getPort s p).incoming.find? (fun t => t.src == src.val && t.xfer ==
    x.toNat) = some y ∧ (∀ i, i < y.nframes → i ∈ y.got) ∧ bitOf y.rsbx 14 = false)
  ∧ (∃ (req : Requester) (p : Fin 8) (addr : BitVec 48) (r : State × List Nat) (s : State), req.bridle = true ∧ (getPort s p).c0tx.length < 8
    ∧ readLoose (busForget s req (Reg.DRV_C0TX_ARM.addr p 0 0)) addr.toNat 640 = r)
  ∧ (∃ (req : Requester) (p : Fin 8) (s : State), req.bridle = true ∧ 8 ≤ (getPort s p).c0tx.length)
  ∧ (∃ (p : Fin 8) (f : C0Frame) (s : State), f.type ≠ c0Admit ∧ f.herd = herdId s ∧ admitted s p f.src = true ∧ epochOk s p f.epoch = true ∧
    f.src ≠ ownIndex s ∧ c0Answered f = true ∧ (f.dst = 255 ∨ f.dst = ownIndex s) ∧ (getPort s p).acks.contains ⟨f.src, ⟨f.frame % 2 ^ 32,
    255, 0⟩⟩ = false)
  ∧ (∃ (p : Fin 8) (f : C0Frame) (s : State), f.type = c0Admit ∧ f.pos ≠ 1 ∧ f.pos ≠ 2 ∧ f.pos ≠ 4 ∧ portState s p ≠ portAdmitting ∧ admitted
    s p f.src = false)
  ∧ (∃ (f : C0Frame) (n : Nat), 15 < n ∧ f.lane < 32)
  ∧ (∃ (a : PortAt) (p : Nat), a.port.val = p) :=
  ⟨⟨[16], by decide +kernel⟩,
  ⟨7, aFrame 1 0, true, .reset, by decide +kernel⟩,
  ⟨7, aFrame 0 0, withMember .reset, by decide +kernel⟩,
  ⟨7, aFrame 0 64, withMember (portAt { win := [(7, (64, 64, 0x18000))] }), by decide +kernel⟩,
  ⟨7, { aFrame 0 0x20000000000 with cls := 1 }, { withMember (portAt { win := [(7, (0x20000000000, 64, 0x18000))] }) with tier := { overLimit := [8] } },
    by decide +kernel⟩,
  ⟨7, 15, 65535, { src := 15, xfer := 65535, nframes := 1, got := [0], rsbx := 0 }, portAt { incoming := [{ src := 15, xfer := 65535, nframes := 1, got := [0], rsbx := 0 }] },
    by decide +kernel⟩,
  ⟨.ostler, 7, 0, readLoose (busForget .reset .ostler (Reg.DRV_C0TX_ARM.addr 7 0 0)) 0 640, .reset, by decide +kernel, by decide +kernel,
    rfl⟩,
  ⟨.ostler, 7, portAt { c0tx := List.replicate 8 {} }, by decide +kernel⟩,
  ⟨7, { src := 15, dst := 255, type := 5 }, withMember .reset, by decide +kernel⟩,
  ⟨7, { src := 15, dst := 255, type := c0Admit, pos := 0 }, .reset, by decide +kernel⟩,
  ⟨{ src := 15, dst := 255, type := 5, lane := 31 }, 16, by decide +kernel⟩,
  ⟨⟨.ostler, 7⟩, 7, by decide +kernel⟩⟩

theorem wit_StarAccess :
  (∃ (p : Fin 8) (r : ResReq) (s : State), portStar s p = true ∧ portState s p = portUp ∧ portSuspended s p = false ∧ (getPort s p).backoff
    = none ∧ (getPort s p).silence = 0 ∧ wanted s p = some r ∧ portLeads s p = false)
  ∧ (∃ (p : Fin 8) (s : State), portStar s p = true ∧ portState s p = portUp ∧ portSuspended s p = false ∧ (getPort s p).backoff = none ∧
    (getPort s p).silence = 0 ∧ (wanted s p).isSome = true)
  ∧ (∃ (p : Fin 8) (s : State), (getPort s p).backoff = some 0)
  ∧ (∃ (p : Fin 8) (heard : List ResReq) (s : State), portStar s p = true ∧ portState s p = portUp ∧ portLeads s p = false ∧ (getPort s
    p).silence = 0 ∧ (∀ r ∈ heard, admitted s p r.src = true))
  ∧ (∃ (p : Fin 8) (r : ResReq) (s : State), portStar s p = true ∧ portState s p = portUp ∧ (getPort s p).silence = 0 ∧ admitted s p r.src =
    false ∧ portLeads s p = false)
  ∧ (∃ (p : Fin 8) (s : State), portStar s p = true ∧ portState s p = portUp ∧ portSuspended s p = false ∧ c0Ready (getPort s p) = [] ∧
    (getPort s p).silence = 0)
  ∧ (∃ (p : Fin 8) (i : Fin 16) (s : State), portStar s p = true ∧ portState s p = portUp ∧ i.val ≠ ownIndex s ∧ memberSuspended s p i = false
    ∧ (nmGet (fun _ => ({} : Heard)) (getPort s p).heard i).at_ + 256 ≤ (getPort s p).frame ∧ admitted s p i = true)
  ∧ (∃ (p : Fin 8) (i : Fin 16) (s : State), portState s p = portAdmitting ∧ i.val = ownIndex s) :=
  ⟨⟨7, { src := 0, dst := 15, lanes := 1, cls := 1 }, starUp { sq := [{ dst := 15 }] }, by decide +kernel⟩,
  ⟨7, starUp { sq := [{ dst := 15 }] }, by decide +kernel⟩,
  ⟨7, portAt { backoff := some 0 }, by decide +kernel⟩,
  ⟨7, [], starUp {}, by decide +kernel⟩,
  ⟨7, { src := 0, dst := 15, lanes := 1, cls := 1 }, starUp {}, by decide +kernel⟩,
  ⟨7, starUp {}, by decide +kernel⟩,
  ⟨7, 15, withMember silent, by decide +kernel⟩,
  ⟨7, 0, portIn portAdmitting, by decide +kernel⟩⟩

theorem wit_HerdControl :
  (∃ (p : Fin 8) (s : State), portState s p = portUp ∧ portLeads s p = true ∧ (getPort s p).newEpoch = none ∧ (getPort s p).epochAt + 2 ^ 30
    ≤ (getPort s p).frame)
  ∧ (∃ (p : Fin 8) (s : State), portState s p = portUp ∧ portLeads s p = false)
  ∧ (∃ (p : Fin 8) (m : AdmitMsg) (s : State), portState s p = portUp ∧ portLeads s p = true ∧ (m.step = 1 ∨ m.step = 3) ∧ admitRefused s p m
    ≠ 0)
  ∧ (∃ (m : AdmitMsg) (s : State), m.step = 3 ∧ nmFind s.drove.roster (m.idx % 16) ≠ some (fieldOf (m.report.take 1024) 16 48))
  ∧ (∃ (m : AdmitMsg) (s : State), m.step = 3 ∧ nmFind s.drove.roster (m.idx % 16) = some (fieldOf (m.report.take 1024) 16 48))
  ∧ (∃ (p : Fin 8) (m : AdmitMsg) (s : State), portState s p = portAdmitting ∧ m.step = 4 ∧ (getPort s p).vouched = true ∧ m.exchanged = true)
  ∧ (∃ (p : Fin 8) (i : Fin 16) (e f why : Nat) (s : State), i.val ≠ ownIndex s ∧ admitted s p i = true ∧ portLeads s p = true ∧ (getPort s
    p).newEpoch = some (e, some f, why))
  ∧ (∃ (p : Fin 8) (i : Fin 16) (s : State), portStar s p = true ∧ portState s p = portUp ∧ admitted s p i = true ∧ getF s
    Fld.DRV_STATUS_LEADIDX p ≠ i.val)
  ∧ (∃ (p : Fin 8) (i : Fin 16) (s : State), memberSuspended s p i = true ∧ (i.val = ownIndex s → laneOn s p (getF s Fld.DRV_CFG_CTLLANE p)
    false = true ∧ laneOn s p (getF s Fld.DRV_CFG_CTLLANE p) true = true))
  ∧ (∃ (p : Fin 8) (i : Fin 16) (s : State), memberSuspended s p i = true ∧ i.val ≠ ownIndex s ∧ admitted s p i = true) :=
  ⟨⟨7, leads (setF (portAt { frame := 2 ^ 30 }) Fld.DRV_STATUS_STATE portUp 7), by decide +kernel⟩,
  ⟨7, portIn portUp, by decide +kernel⟩,
  ⟨7, anAdmit 1, leads (portIn portUp), by decide +kernel⟩,
  ⟨anAdmit 3, .reset, by decide +kernel⟩,
  ⟨{ anAdmit 3 with report := [] }, { State.reset with drove := { roster := [(15, 0)] } }, by decide +kernel⟩,
  ⟨7, anAdmit 4, setF (portAt { vouched := true }) Fld.DRV_STATUS_STATE portAdmitting 7, by decide +kernel⟩,
  ⟨7, 15, 1, 0, 0, leads (withMember (portAt { newEpoch := some (1, some 0, 0) })), by decide +kernel⟩,
  ⟨7, 15, withMember (starUp {}), by decide +kernel⟩,
  ⟨7, 15, setF (withMember .reset) Fld.DRV_MEMBERS_SUSPENDED 0x8000 7, by decide +kernel⟩,
  ⟨7, 15, setF (withMember .reset) Fld.DRV_MEMBERS_SUSPENDED 0x8000 7, by decide +kernel⟩⟩

/-- The clauses that need signatures to verify, which a free value decides: with one that accepts. -/
theorem wit_HerdControl_signed (he : ∀ k m g, Config.ecdsaOk k m g = true) (hh : ∀ k m g, Config.hssOk k m g = true) :
  (∃ (p : Fin 8) (m : AdmitMsg) (s : State), portState s p = portUp ∧ portLeads s p = true ∧ m.step = 3 ∧ admitRefused s p m = 0)
  ∧ (∃ (nonce rep cert : List Nat) (s : State), cert = rep.drop 4412 ∧ reportOk s nonce rep = true)
  ∧ (∃ (p : Fin 8) (m : AdmitMsg) (s : State), portState s p = portAdmitting ∧ m.step = 2 ∧ admitRefused s p m = 0) :=
  ⟨⟨7, admitZero 3, joining (leads (portIn portUp)), by decide +kernel, by decide +kernel, rfl, admit_ok he hh (.inr rfl) rfl rfl
    (by decide +kernel) (by decide +kernel)⟩,
  ⟨[], reportZero, certZero ++ sigZero, joining .reset, cert_drop.symm, report_ok he hh rfl rfl⟩,
  ⟨7, admitZero 2, joining (portIn portAdmitting), by decide +kernel, rfl, admit_ok he hh (.inl rfl) rfl rfl (by decide +kernel)
    (by decide +kernel)⟩⟩

theorem wit_LanesAndPorts :
  (∃ (p : Fin 8) (j : Fin 32) (rx : Bool) (s : State), laneRingUp s p j rx = false ∧ laneOn s p j rx = true ∧ (getFarPort s p).lane = none)
  ∧ (∃ (p : Fin 8) (j : Fin 32) (rx : Bool) (c : Fin 5) (s : State), c.val = 4 ∧ laneOn s p j rx = true)
  ∧ (∃ (p : Fin 8) (i : Fin 16) (s : State), portState s p = portUp ∧ portStar s p = true ∧ i.val ≠ ownIndex s)
  ∧ (∃ (p : Fin 8) (j : Fin 32) (rx : Bool) (s : State), laneOn s p j rx = false ∧ laneCause s p j rx = 2 ∧ probeDue s p j rx = true)
  ∧ (∃ (req : Requester) (p : Fin 8) (s : State), req.bridle = true ∧ portState s p = portStopped)
  ∧ (∃ (p : Fin 8) (s : State), portState s p = portTraining ∧ (getFarPort s p).lane = none)
  ∧ (∃ (p : Fin 8) (s : State), portState s p = portAdmitting)
  ∧ (∃ (req : Requester) (p : Fin 8) (s : State), req.bridle = true ∧ portState s p = portUp)
  ∧ (∃ (p : Fin 8) (s : State), portState s p = portStopping ∧ (getFarPort s p).lane = none)
  ∧ (∃ (p : Fin 8) (j : Nat) (s : State), portState s p = portStopping ∧ (getFarPort s p).lane = some j ∧ (getPort s p).released ≠ some j)
  ∧ (∃ (req : Requester) (p : Fin 8) (s : State), req.bridle = true ∧ portState s p ≠ portStopped) :=
  ⟨⟨7, 31, true, setF .reset Fld.DRV_RXLANES_LANES 0x80000000 7, by decide +kernel⟩,
  ⟨7, 31, true, 4, setF .reset Fld.DRV_RXLANES_LANES 0x80000000 7, by decide +kernel⟩,
  ⟨7, 15, starUp {}, by decide +kernel⟩,
  ⟨7, 31, true, { setF (setF .reset Fld.DRV_LSTAT_RXCAUSE 2 7 31) Fld.LTE_RING_STATUS_OOS 0 0 (laneRing 7 31 true) with time := 0xFFFFFFFFFF },
    by decide +kernel⟩,
  ⟨.ostler, 7, portIn portStopped, by decide +kernel⟩,
  ⟨7, portIn portTraining, by decide +kernel⟩,
  ⟨7, portIn portAdmitting, by decide +kernel⟩,
  ⟨.ostler, 7, portIn portUp, by decide +kernel⟩,
  ⟨7, portIn portStopping, by decide +kernel⟩,
  ⟨7, 31, { portIn portStopping with far := { port := [(7, { lane := some 31 })] } }, by decide +kernel⟩,
  ⟨.ostler, 7, portIn portUp, by decide +kernel⟩⟩

theorem wit_RegisterAccess :
  (∃ (req : Requester) (addr : BitVec 48) (w : Fin 65), (∀ j, j < w.val → visibleAt req (addr.toNat + j) = none))
  ∧ (∃ (req : Requester) (addr : BitVec 48) (w : Fin 65), busTarget req addr.toNat w = .bad)
  ∧ (∃ (req : Requester) (addr : Nat) (r : RegByte), visibleAt req addr = some r ∧ r.desc.bridleOnly = true)
  ∧ (∃ (addr : Nat), regByteAt addr = none)
  ∧ (∃ (req : Requester) (addr : BitVec 48) (w : Fin 65) (r : RegByte), busTarget req addr.toNat w = .whole r ∧ req ≠ .light ∧ (req = .farrier
    → farrierTarget r = true ∧ r.desc.is Reg.STL_CFG = false) ∧ writeAct r.desc = none ∧ r.desc.blk ≠ 8)
  ∧ (∃ (req : Requester) (addr : BitVec 48) (w : Fin 65) (r : RegByte), busTarget req addr.toNat w = .whole r ∧ ((req = .farrier ∧
    farrierTarget r = false) ∨ (req = .light ∧ r.desc.is Reg.STL_ID = false ∧ r.desc.is Reg.LTE_RING_CFG = false ∧ r.desc.is
    Reg.LTE_SPARES = false)))
  ∧ (∃ (addr : BitVec 48) (w : Fin 65) (r : RegByte), busTarget .light addr.toNat w = .whole r)
  ∧ (∃ (req : Requester) (addr : BitVec 48) (r : RegByte), busTarget req addr.toNat 4 = .half r false)
  ∧ (∃ (req : Requester) (addr : BitVec 48) (r : RegByte) (s : State), busTarget req (addr.toNat + 4) 4 = .half r true ∧ halfOf s.bus.held req
    r.addr = none)
  ∧ (∃ (req : Requester) (addr : BitVec 48) (lo : Nat) (r : RegByte) (s : State), busTarget req (addr.toNat + 4) 4 = .half r true ∧ halfOf
    s.bus.held req r.addr = some lo ∧ req ≠ .light ∧ (req = .farrier → farrierTarget r = true ∧ r.desc.is Reg.STL_CFG = false) ∧ writeAct
    r.desc = none ∧ r.desc.blk ≠ 8)
  ∧ (∃ (req : Requester) (addr : BitVec 48) (v : Nat) (r : RegByte) (s : State), busTarget req (addr.toNat + 4) 4 = .half r true ∧ halfOf
    s.bus.latched req r.addr = some v)
  ∧ (∃ (req : Requester) (addr : BitVec 48) (r : RegByte) (s : State), busTarget req (addr.toNat + 4) 4 = .half r true ∧ halfOf s.bus.latched
    req r.addr = none) :=
  ⟨⟨.ostler, 0x8F000000, 64, fun j hj => Option.isNone_iff_eq_none.mp (none_there ⟨j, hj⟩)⟩,
  ⟨.ostler, stageReg, 9, bad_of (by decide +kernel)⟩,
  (by obtain ⟨r, h⟩ := hidden_byte; exact ⟨.ostler, stageReg.toNat, r, h⟩),
  ⟨0, Option.isNone_iff_eq_none.mp (by decide +kernel)⟩,
  (by obtain ⟨r, h, p⟩ := whole_reg; exact ⟨.ostler, stageReg, 8, r, h, by decide, (fun e => by cases e), plain_of p⟩),
  (by obtain ⟨r, h, p⟩ := whole_farrier; exact ⟨.farrier, stageReg, 8, r, h, .inl ⟨rfl, p⟩⟩),
  (by obtain ⟨r, h, _⟩ := whole_light; exact ⟨stageReg, 8, r, h⟩),
  (by obtain ⟨r, h, _⟩ := half_low; exact ⟨.ostler, stageReg, r, h⟩),
  (by obtain ⟨r, h, _⟩ := half_high; exact ⟨.ostler, stageReg, r, .reset, h, rfl⟩),
  (by obtain ⟨r, h, p⟩ := half_high; exact ⟨.ostler, stageReg, 1, r, busAt { held := [{ req := .ostler, addr := r.addr, val := 1 }] }, h, by
    simp [halfOf, busAt], by decide, (fun e => by cases e), plain_of p⟩),
  (by obtain ⟨r, h, _⟩ := half_high; exact ⟨.ostler, stageReg, 1, r, busAt { latched := [{ req := .ostler, addr := r.addr, val := 1 }] }, h,
    by simp [halfOf, busAt]⟩),
  (by obtain ⟨r, h, _⟩ := half_high; exact ⟨.ostler, stageReg, r, .reset, h, rfl⟩)⟩

theorem wit_EventQueue :
  (∃ (r : EventRec) (s : State), s.ev.inFlight = [r] ∧ s.ev.queue.length < 256)
  ∧ (∃ (r : EventRec) (s : State), s.ev.inFlight = [r] ∧ 256 ≤ s.ev.queue.length)
  ∧ (∃ (a b : EventRec) (s : State), s.ev.inFlight = [a, b] ∧ b.unit < a.unit ∧ s.ev.queue.length < 255 ∧ s.ev.afterLoss = false)
  ∧ (∃ (s : State), firmwareRuns s = true ∧ s.ev.queue ≠ [] ∧ s.ev.episode = 0)
  ∧ (∃ (s : State), firmwareRuns s = true ∧ s.ev.queue ≠ [] ∧ 0 < s.ev.episode ∧ s.ev.queue.length ≤ 129)
  ∧ (∃ (i : Fin 64) (n : Fin 256) (a : Access) (w rd : Nat) (s : State), (getThread s i n).out = [a] ∧ a.kind = .load w rd ∧ inControl a.addr
    = false ∧ reachable s a.addr = true ∧ accepts s a.addr 1 = true ∧ (memRead s a.addr w).failed = false)
  ∧ (∃ (i : Fin 64) (n : Fin 256) (a : Access) (vd : Nat) (m : MemRead) (s : State), (getThread s i n).out = [a] ∧ a.kind = .vload vd ∧
    inControl a.addr = false ∧ reachable s a.addr = true ∧ accepts s a.addr 1 = true ∧ memRead s a.addr 64 = m ∧ m.failed = false)
  ∧ (∃ (i : Fin 64) (n : Fin 256) (a : Access) (bs : List Byte) (u s : State), (getThread s i n).out = [a] ∧ (a.kind = .store bs ∨ a.kind =
    .vstore bs) ∧ inControl a.addr = false ∧ reachable s a.addr = true ∧ accepts s a.addr 1 = true ∧ memWriteBytes s a.addr (bs.map
    (·.toNat)) = (u, false))
  ∧ (∃ (i : Fin 64) (n : Fin 256) (a : Access) (func size rd : Nat) (x y : W64) (m : MemRead) (u s : State), (getThread s i n).out = [a] ∧
    a.kind = .atomic func size rd x y ∧ inControl a.addr = false ∧ reachable s a.addr = true ∧ accepts s a.addr 1 = true ∧ memRead s
    a.addr size = m ∧ m.failed = false ∧ memWriteBytes m.s a.addr (toBytes size (atomicFn func size (ofBytes m.bytes) x.toNat y.toNat)) =
    (u, false))
  ∧ (∃ (i : Fin 64) (n : Fin 256) (a : Access) (bs : List Byte) (s : State), (getThread s i n).out = [a] ∧ a.kind = .store bs ∧ inControl
    a.addr = false ∧ reachable s a.addr = false) :=
  ⟨⟨rec_ 0, evAt { inFlight := [rec_ 0], queue := List.replicate 255 (rec_ 0) }, by decide +kernel⟩,
  ⟨rec_ 0, evAt { inFlight := [rec_ 0], queue := List.replicate 256 (rec_ 0) }, by decide +kernel⟩,
  ⟨rec_ 1, rec_ 0, evAt { inFlight := [rec_ 1, rec_ 0], queue := List.replicate 254 (rec_ 0) }, by decide +kernel⟩,
  ⟨evAt { queue := [rec_ 0] }, by decide +kernel⟩,
  ⟨evAt { queue := List.replicate 129 (rec_ 0), episode := 1 }, by decide +kernel⟩,
  ⟨63, 255, anAccess (.load 8 31) 0, 8, 31, threadAt { out := [anAccess (.load 8 31) 0] }, by decide +kernel⟩,
  ⟨63, 255, anAccess (.vload 31) 0, 31, _, threadAt { out := [anAccess (.vload 31) 0] }, by decide +kernel, rfl, by decide +kernel,
    by decide +kernel, by decide +kernel, rfl, by decide +kernel⟩,
  ⟨63, 255, anAccess (.store [0]) 0, [0], (memWriteBytes (threadAt { out := [anAccess (.store [0]) 0] }) 0 [0]).1, threadAt { out := [anAccess (.store [0]) 0] },
    by decide +kernel, .inl rfl, by decide +kernel, by decide +kernel, by decide +kernel, Prod.ext rfl (by decide +kernel)⟩,
  ⟨63, 255, anAccess (.atomic 0 8 31 1 0) 0, 0, 8, 31, 1, 0, _, (memWriteBytes (memRead (threadAt { out := [anAccess (.atomic 0 8 31 1 0) 0] })
    0 8).s 0 (toBytes 8 (atomicFn 0 8 (ofBytes (memRead (threadAt { out := [anAccess (.atomic 0 8 31 1 0) 0] }) 0 8).bytes) 1 0))).1,
    threadAt { out := [anAccess (.atomic 0 8 31 1 0) 0] }, by decide +kernel, rfl, by decide +kernel, by decide +kernel,
    by decide +kernel, rfl, by decide +kernel, Prod.ext rfl (by decide +kernel)⟩,
  ⟨63, 255, anAccess (.store [0]) 0x40000000, [0], threadAt { out := [anAccess (.store [0]) 0x40000000] }, by decide +kernel⟩⟩

theorem wit_HostChannels :
  (∃ (c : Fin 4) (rate : Fin 16384) (b : Bool) (s : State), hostState s c = hostTraining ∧ 1600 ≤ rate.val ∧ rate.val ≤ 8533 ∧ (b = false ∨
    rate.val ≤ 3200))
  ∧ (∃ (c : Fin 4) (s : State), hostState s c = hostSelfRefresh)
  ∧ (∃ (c : Fin 4) (s : State), hostState s c = hostPowerDown)
  ∧ (∃ (c : Fin 4) (s : State), hostState s c = hostAbsent)
  ∧ (∃ (c : Fin 4) (s : State), hostState s c ≠ hostAbsent)
  ∧ (∃ (c : Fin 4) (s : State), (getHost s c).ck = true)
  ∧ (∃ (c : Fin 4) (s : State), (hostState s c = hostTraining ∨ hostState s c = hostActive))
  ∧ (∃ (c bg : Fin 4) (ba : Fin 16) (col : Fin 64) (o : Nat) (bytes : List (Option Byte)) (s : State), hostState s c = hostActive ∧
    burstOffset s c bg ba col 0 = some o ∧ hostOwns o = true ∧ bytes.length = 32) :=
  ⟨⟨3, 8533, false, hostIn hostTraining {}, by decide +kernel⟩,
  ⟨3, hostIn hostSelfRefresh {}, by decide +kernel⟩,
  ⟨3, hostIn hostPowerDown {}, by decide +kernel⟩,
  ⟨3, hostIn hostAbsent {}, by decide +kernel⟩,
  ⟨3, hostIn hostActive {}, by decide +kernel⟩,
  ⟨3, hostAt { ck := true }, by decide +kernel⟩,
  ⟨3, hostIn hostActive {}, by decide +kernel⟩,
  ⟨3, 3, 15, 63, 0x10FFE0, List.replicate 32 (some 255), hostIn hostActive { rows := [(15, 34)] }, by decide +kernel⟩⟩

theorem wit_ApertureAndReader :
  (∃ (c : Fin 4) (bytes : List (Option Byte)) (s : State), hostState s c = hostActive ∧ (bytes.length = 32 ∨ bytes.length = 64) ∧ ((getHost
    s c).winEn = false ∨ getF s Fld.HPT_CFG_AP_ALLOW = 0))
  ∧ (∃ (c : Fin 4) (u : Fin 32768) (s : State), hostState s c = hostActive ∧ (getHost s c).winEn = true ∧ getF s Fld.HPT_CFG_AP_ALLOW = 1 ∧
    regionAt ((getHost s c).winBase + 32 * u.val) = .outside)
  ∧ (∃ (c : Fin 4) (s : State), (getHost s c).rdBusy = false ∧ getF s Fld.HPT_CFG_RD_ALLOW = 1 ∧ (getHost s c).rdAddr % 64 ≠ 0)
  ∧ (∃ (c : Fin 4) (s : State), (getHost s c).rdBusy = false ∧ getF s Fld.HPT_CFG_RD_ALLOW = 1 ∧ (getHost s c).rdAddr % 64 = 0 ∧ (getHost s
    c).rdLen = 64 ∧ inData (getHost s c).rdDest 64 = true ∧ inControl (getHost s c).rdAddr = false ∧ reachable s (getHost s c).rdAddr =
    true ∧ (memRead s (getHost s c).rdAddr 64).failed = false)
  ∧ (∃ (s : State), getF s Fld.HPT_CFG_RD_ALLOW = 0)
  ∧ (∃ (c : Fin 4) (j : RdJob) (s : State), (getHost s c).rdJob = some j) :=
  ⟨⟨3, List.replicate 64 none, hostIn hostActive {}, by decide +kernel⟩,
  ⟨3, 32767, setF (hostIn hostActive { winEn := true, winBase := 0x7000000000 }) Fld.HPT_CFG_AP_ALLOW 1, by decide +kernel⟩,
  ⟨3, setF (hostAt { rdAddr := 63 }) Fld.HPT_CFG_RD_ALLOW 1, by decide +kernel⟩,
  ⟨3, setF (hostAt { rdAddr := 0x3FFFFFC0, rdLen := 64, rdDest := dataBase }) Fld.HPT_CFG_RD_ALLOW 1, by decide +kernel⟩,
  ⟨setF .reset Fld.HPT_CFG_RD_ALLOW 0, by decide +kernel⟩,
  ⟨3, { result := 0, lines := 0, bad := 0 }, hostAt { rdJob := some { result := 0, lines := 0, bad := 0 } }, by decide +kernel⟩⟩

theorem wit_MailboxEntries :
  (∃ (c : Fin 4) (v : Fin 4096) (s : State), ((getHost s c).sqTail + 4096 - (getHost s c).sqHead) % 4096 ≤ (v.val + 4096 - (getHost s
    c).sqHead) % 4096)
  ∧ (∃ (c : Fin 4) (v : Fin 4096) (s : State), (v.val + 4096 - (getHost s c).cqHead) % 4096 ≤ ((getHost s c).cqTail + 4096 - (getHost s
    c).cqHead) % 4096)
  ∧ (∃ (c : Fin 4) (s : State), firmwareRuns s = true ∧ ((getHost s c).state = .ready ∨ (getHost s c).state = .halted))
  ∧ (∃ (c : Fin 4) (s : State), mayTake s c = true ∧ (cmdFields (nextEntry (getHost s c) % 65536)).isSome = true)
  ∧ (∃ (c : Fin 4) (s : State), ((getHost s c).state = .booting ∨ (getHost s c).state = .halted))
  ∧ (∃ (c : Fin 4) (s : State), mayTake s c = false)
  ∧ (∃ (c : Fin 4) (k : SubCmd) (s : State), firmwareRuns s = true ∧ (getHost s c).cmds.find? (fun k => k.ended.isSome) = some k ∧ (getHost s
    c).state ≠ .halted ∧ k.silent = false)
  ∧ (∃ (c : Fin 4) (k : SubCmd) (s : State), firmwareRuns s = true ∧ frontCmd (getHost s c) = some k ∧ k.op = 0x0101 ∧ getF s
    Fld.EVT_SVC_LEVEL = 5)
  ∧ (∃ (c : Fin 4) (k : SubCmd) (s : State), firmwareRuns s = true ∧ frontCmd (getHost s c) = some k ∧ k.op = 0x0101 ∧ getF s
    Fld.EVT_SVC_LEVEL ≠ 5 ∧ reservedOk k = false) :=
  ⟨⟨3, 4095, hostAt { sqTail := 4095 }, by decide +kernel⟩,
  ⟨3, 4095, hostAt { cqTail := 4095 }, by decide +kernel⟩,
  ⟨3, served { state := .halted }, by decide +kernel⟩,
  ⟨3, served { state := .ready, sqTail := 1, porch := [(submitBase, 1)] }, by decide +kernel⟩,
  ⟨3, hostAt { state := .halted }, by decide +kernel⟩,
  ⟨3, .reset, by decide +kernel⟩,
  ⟨3, { cmd 1 [] with ended := some (0, 0) }, served { state := .ready, cmds := [{ cmd 1 [] with ended := some (0, 0) }] },
    by decide +kernel⟩,
  ⟨3, cmd 0x0101 [], setF (taken 0x0101 []) Fld.EVT_SVC_LEVEL 5, by decide +kernel⟩,
  ⟨3, cmd 0x0101 [(127, 1)], taken 0x0101 [(127, 1)], by decide +kernel⟩⟩

theorem wit_ServingCommands :
  (∃ (c : Fin 4) (k : SubCmd) (s : State), CmdStarts s c 0x0001 k)
  ∧ (∃ (c : Fin 4) (k : SubCmd) (s : State), CmdStarts s c 0x0002 k)
  ∧ (∃ (c : Fin 4) (k : SubCmd) (s : State), CmdStarts s c 0x0003 k ∧ inData (k.field 64 4) 8056 = true ∧ getF s Fld.TCK_STATUS_SIGNER < 2)
  ∧ (∃ (c : Fin 4) (k : SubCmd) (s : State), CmdStarts s c 0x0003 k ∧ inData (k.field 64 4) 8056 = true ∧ (getF s Fld.TCK_STATUS_SIGNER = 2 ∨
    getF s Fld.TCK_STATUS_SIGNER = 3))
  ∧ (∃ (c : Fin 4) (k : SubCmd) (s : State), CmdStarts s c 0x0101 k ∧ k.field 24 1 = 0 ∧ k.field 25 1 = 1 ∧ k.field 26 1 < 64 ∧ k.field 16 4 ≤
    4194304 ∧ s.serve.sessions.length < 65535 ∧ sessionBytes s 1 + ceilDiv (k.field 16 4 * k.field 20 4) 2097152 * 2097152 ≤
    s.serve.resHbm)
  ∧ (∃ (c : Fin 4) (k : SubCmd) (s : State), CmdStarts s c 0x0102 k ∧ (getHost s c).cmds = [k] ∧ (∀ d : Fin 4, d ≠ c → waitingCmds s d 0x0102
    = []) ∧ (findSession s (k.field 16 4)).isSome = true ∧ sessionBusy s (k.field 16 4) = false)
  ∧ (∃ (c : Fin 4) (k : SubCmd) (x : Session) (s : State), CmdStarts s c 0x0103 k ∧ findSession s (k.field 16 4) = some x)
  ∧ (∃ (c : Fin 4) (k : SubCmd) (s : State), CmdStarts s c 0x0103 k ∧ findSession s (k.field 16 4) = none)
  ∧ (∃ (c : Fin 4) (k : SubCmd) (y : Nat) (s : State), CmdStarts s c 0x0201 k ∧ 1 ≤ k.field 20 2 ∧ k.field 20 2 ≤ 4096 ∧ inData (k.field 16 4)
    (64 * k.field 20 2) = true ∧ inData (k.field 24 4) (16 * k.field 20 2) = true ∧ activeBay s = some y ∧ darkOrWaiting (cmdBegun s c k)
    = false)
  ∧ (∃ (c : Fin 4) (k : SubCmd) (y : Nat) (u s : State), nextEntry (getHost s c) % 65536 = 0x0201 ∧ mayTake s c = true ∧ u = takeEntry s c ∧
    CmdStarts u c 0x0201 k ∧ 1 ≤ k.field 20 2 ∧ k.field 20 2 ≤ 4096 ∧ inData (k.field 16 4) (64 * k.field 20 2) = true ∧ inData (k.field
    24 4) (16 * k.field 20 2) = true ∧ activeBay u = some y ∧ darkOrWaiting (cmdBegun u c k) = false)
  ∧ (∃ (i : Nat) (b : Batch) (ab : Bool) (s : State), firmwareRuns s = true ∧ s.serve.batches[i]? = some b ∧ (b.cancelled = true ∨ ab = true ∨
    batchWaits s i b = false) ∧ b.chan < 4 ∧ (∃ k ∈ (getHost s b.chan).cmds, k.id = b.cmd ∧ k.ended = none))
  ∧ (∃ (i : Nat) (b : Batch) (ab : Bool) (s : State), firmwareRuns s = true ∧ s.serve.batches[i]? = some b ∧ b.cancelled = false ∧ ab = false
    ∧ batchWaits s i b = true)
  ∧ (∃ (b : Batch) (q : Req) (o r : ReqOutcome) (n : Nat) (s : State), firmwareRuns s = true ∧ s.serve.batches = [b] ∧ b.reqs = [q] ∧ b.chan <
    4 ∧ b.bay < 2 ∧ bayState s b.bay = 3 ∧ (∃ k ∈ (getHost s b.chan).cmds, k.id = b.cmd ∧ k.ended = none) ∧ r = reqResult b q o ∧ n = (if
    q.bound then 1 else 0) ∧ n ≤ getF s Fld.LFT_BAY_REFS_REFS 0 b.bay)
  ∧ (∃ (c : Fin 4) (k : SubCmd) (ids : List Nat) (s : State), CmdStarts s c 0x0202 k ∧ ids = ((getHost s c).cmds.filter (fun j => j.op ==
    0x0201 && j.cid == k.field 16 4)).map (·.id) ∧ s.serve.batches.any (fun b => b.chan == c.val && ids.contains b.cmd) = true)
  ∧ (∃ (c : Fin 4) (k : SubCmd) (ids : List Nat) (s : State), CmdStarts s c 0x0202 k ∧ ids = ((getHost s c).cmds.filter (fun j => j.op ==
    0x0201 && j.cid == k.field 16 4)).map (·.id) ∧ s.serve.batches.any (fun b => b.chan == c.val && ids.contains b.cmd) = false)
  ∧ (∃ (c : Fin 4) (k : SubCmd) (s : State), CmdStarts s c 0x0306 k ∧ k.field 16 1 < 2 ∧ inData (k.field 20 4) 2048 = true)
  ∧ (∃ (c : Fin 4) (k : SubCmd) (s : State), CmdStarts s c 0x0402 k)
  ∧ (∃ (c : Fin 4) (k : SubCmd) (v : Nat) (s : State), CmdStarts s c 0x0604 k ∧ (k.field 24 1 = 4 ∨ k.field 24 1 = 8) ∧ inControl (k.field 16
    8) = true ∧ (busRead (cmdBegun s c k) .ostler (k.field 16 8) (k.field 24 1)).bus.reply = .data v)
  ∧ (∃ (c : Fin 4) (k : SubCmd) (s : State), CmdStarts s c 0x0604 k ∧ (k.field 24 1 = 4 ∨ k.field 24 1 = 8) ∧ inControl (k.field 16 8) = true
    ∧ (busRead (cmdBegun s c k) .ostler (k.field 16 8) (k.field 24 1)).bus.reply = .busError)
  ∧ (∃ (c : Fin 4) (k : SubCmd) (s : State), CmdStarts s c 0x0801 k) :=
  ⟨⟨3, cmd 0x0001 [], taken 0x0001 [], starts (by decide +kernel)⟩,
  ⟨3, cmd 0x0002 [], taken 0x0002 [], starts (by decide +kernel)⟩,
  ⟨3, cmd 0x0003 [(64, dataBase)], setF (taken 0x0003 [(64, dataBase)]) Fld.TCK_STATUS_SIGNER 1, starts (by decide +kernel),
    by decide +kernel⟩,
  ⟨3, cmd 0x0003 [(64, dataBase)], setF (taken 0x0003 [(64, dataBase)]) Fld.TCK_STATUS_SIGNER 3, starts (by decide +kernel),
    by decide +kernel⟩,
  ⟨3, cmd 0x0101 [(16, 4194304), (25, 1), (26, 63)], taken 0x0101 [(16, 4194304), (25, 1), (26, 63)], starts (by decide +kernel),
    by decide +kernel⟩,
  ⟨3, cmd 0x0102 [(16, 0xFFFFFFFF)], withSession (taken 0x0102 [(16, 0xFFFFFFFF)]), starts (by decide +kernel), by decide +kernel⟩,
  ⟨3, cmd 0x0103 [(16, 0xFFFFFFFF)], aSession 0xFFFFFFFF, withSession (taken 0x0103 [(16, 0xFFFFFFFF)]), starts (by decide +kernel),
    by decide +kernel⟩,
  ⟨3, cmd 0x0103 [], taken 0x0103 [], starts (by decide +kernel), by decide +kernel⟩,
  ⟨3, cmd 0x0201 [(16, dataBase), (20, 4096), (24, dataBase)], 1, activeOne (taken 0x0201 [(16, dataBase), (20, 4096), (24, dataBase)]),
    starts (by decide +kernel), by decide +kernel⟩,
  ⟨3, batchEntry, 1, takeEntry batchHead 3, batchHead, by decide +kernel, by decide +kernel, rfl, starts (by decide +kernel),
    by decide +kernel⟩,
  ⟨0, aBatch 1, true, running [aBatch 1], by decide +kernel⟩,
  ⟨1, oneReq, false, running [{ oneReq with id := 1 }, oneReq], by decide +kernel⟩,
  ⟨oneReq, aReq, {}, {}, 1, running [oneReq], by decide +kernel⟩,
  ⟨3, cmd 0x0202 [(16, 9)], [1], withBatch cancels, starts (by decide +kernel), by decide +kernel⟩,
  ⟨3, cmd 0x0202 [(16, 9)], [1], cancels, starts (by decide +kernel), by decide +kernel⟩,
  ⟨3, cmd 0x0306 [(16, 1), (20, dataBase)], taken 0x0306 [(16, 1), (20, dataBase)], starts (by decide +kernel), by decide +kernel⟩,
  ⟨3, cmd 0x0402 [], taken 0x0402 [], starts (by decide +kernel)⟩,
  ⟨3, cmd 0x0604 [(16, trap63), (24, 8)], 0, taken 0x0604 [(16, trap63), (24, 8)], starts (by decide +kernel), by decide +kernel⟩,
  ⟨3, cmd 0x0604 [(16, trap63 + 2), (24, 4)], taken 0x0604 [(16, trap63 + 2), (24, 4)], starts (by decide +kernel), by decide +kernel⟩,
  ⟨3, cmd 0x0801 [(16, 0xFFFF)], taken 0x0801 [(16, 0xFFFF)], starts (by decide +kernel)⟩⟩

theorem wit_ControlCommands :
  (∃ (c : Fin 4) (k : SubCmd) (y : Nat) (bs : List Nat) (r : BundleCheck) (s : State), CmdStarts s c 0x0301 k ∧ k.field 16 1 = y ∧ y < 2 ∧
    inData (k.field 20 4) (k.field 24 4) = true ∧ getF s Fld.TCK_STATUS_INBOX_BUSY ≠ 1 ∧ s.loft.build = none ∧ bayState s 0 ≠ 1 ∧ bayState
    s 1 ≠ 1 ∧ bs = porchRaw (getHost s c) (k.field 20 4) (k.field 24 4) ∧ fieldOf bs 10 2 ≠ 1 ∧ bayState s y = 0 ∧ checkBundle s bs
    (enrolledKey s) (runningFw s) (baseMatches s y) = r)
  ∧ (∃ (c : Fin 4) (k : SubCmd) (s : State), CmdStarts s c 0x0301 k ∧ k.field 16 1 < 2 ∧ inData (k.field 20 4) (k.field 24 4) = true ∧ getF s
    Fld.TCK_STATUS_INBOX_BUSY = 1)
  ∧ (∃ (c : Fin 4) (k : SubCmd) (s : State), CmdStarts s c 0x0301 k ∧ k.field 16 1 < 2 ∧ inData (k.field 20 4) (k.field 24 4) = true ∧ getF s
    Fld.TCK_STATUS_INBOX_BUSY ≠ 1 ∧ s.loft.build.isSome = true)
  ∧ (∃ (c : Fin 4) (k : SubCmd) (b : Build) (ch : ChunkRec) (a : Nat) (s : State), CmdStarts s c 0x0302 k ∧ k.field 32 1 = 0 ∧ s.loft.build =
    some b ∧ b.set.chunks[k.field 16 4]? = some ch ∧ inData (k.field 28 4) (k.field 24 4) = true ∧ k.field 24 4 ≤ 16777216 ∧ k.field 20 4
    + k.field 24 4 ≤ ch.bytes ∧ k.field 24 4 < ch.bytes ∧ b.copied.contains (k.field 16 4) = false ∧ s.loft.staged.find? (fun x => x.chunk
    == k.field 16 4 && x.repair == false) = none ∧ stagePlace s ch.bytes = some a)
  ∧ (∃ (c : Fin 4) (k : SubCmd) (s : State), CmdStarts s c 0x0303 k ∧ s.loft.build = none)
  ∧ (∃ (c : Fin 4) (k : SubCmd) (s : State), CmdStarts s c 0x0303 k ∧ s.loft.build.isSome = true)
  ∧ (∃ (c : Fin 4) (k : SubCmd) (s : State), CmdStarts s c 0x0304 k ∧ k.field 16 1 < 2 ∧ bayState s (k.field 16 1) = 2)
  ∧ (∃ (c : Fin 4) (k : SubCmd) (s : State), CmdStarts s c 0x0305 k ∧ switchTurn s c = true ∧ k.field 16 1 < 2 ∧ (bayState s (k.field 16 1) =
    2 ∨ bayState s (k.field 16 1) = 4))
  ∧ (∃ (c : Fin 4) (k : SubCmd) (s : State), CmdStarts s c 0x0305 k ∧ switchTurn s c = true ∧ k.field 16 1 < 2 ∧ bayState s (k.field 16 1) ≠ 2
    ∧ bayState s (k.field 16 1) ≠ 4)
  ∧ (∃ (c : Fin 4) (s : State), switchTurn s c = false)
  ∧ (∃ (c : Fin 4) (k : SubCmd) (s : State), CmdStarts s c 0x0401 k ∧ k.field 18 1 < 2)
  ∧ (∃ (c : Fin 4) (k : SubCmd) (s : State), CmdStarts s c 0x0501 k ∧ k.field 17 1 = 15 ∧ k.field 16 1 < 4 ∧ k.field 18 2 < 2048 ∧ k.field 20
    2 < 2048 ∧ k.field 22 2 < 2048)
  ∧ (∃ (c : Fin 4) (k : SubCmd) (s : State), CmdStarts s c 0x0502 k ∧ k.field 16 8 ≤ tierCapacity s 1 - tierUsed s 1 ∧ k.field 24 8 ≤
    tierCapacity s 2 - tierUsed s 2 ∧ sessionBytes s 1 ≤ k.field 16 8 ∧ sessionBytes s 2 ≤ k.field 24 8)
  ∧ (∃ (c : Fin 4) (k : SubCmd) (s : State), CmdStarts s c 0x0503 k ∧ (getHost s c).cmds = [k] ∧ k.field 16 1 = 1 ∧ s.serve.batches = [])
  ∧ (∃ (c : Fin 4) (k : SubCmd) (s : State), CmdStarts s c 0x0503 k ∧ (getHost s c).cmds = [k] ∧ k.field 16 1 = 1 ∧ s.serve.batches ≠ [])
  ∧ (∃ (c : Fin 4) (k : SubCmd) (s : State), CmdStarts s c 0x0601 k ∧ unitRefused (k.field 16 1) (k.field 18 2) (k.field 20 1) = 0 ∧ k.field
    16 1 = 0 ∧ (getStall s (k.field 18 2)).state = .run)
  ∧ (∃ (c : Fin 4) (k : SubCmd) (s : State), CmdStarts s c 0x0602 k ∧ unitRefused (k.field 16 1) (k.field 18 2) (k.field 20 1) = 0 ∧ k.field
    16 1 = 0 ∧ (getStall s (k.field 18 2)).state = .stopped)
  ∧ (∃ (c : Fin 4) (k : SubCmd) (s : State), CmdStarts s c 0x0603 k ∧ (k.field 32 1 = 4 ∨ k.field 32 1 = 8) ∧ inControl (k.field 16 8) = true
    ∧ cfgDenied (k.field 16 8) (k.field 32 1) (k.field 24 8) = true)
  ∧ (∃ (c : Fin 4) (k : SubCmd) (r : RegByte) (v : W64) (s : State), CmdStarts s c 0x0603 k ∧ (k.field 32 1 = 4 ∨ k.field 32 1 = 8) ∧
    inControl (k.field 16 8) = true ∧ cfgDenied (k.field 16 8) (k.field 32 1) (k.field 24 8) = false ∧ busTarget .ostler (k.field 16 8)
    (k.field 32 1) = .whole r ∧ writeAct r.desc = none ∧ r.desc.blk ≠ 8 ∧ v = BitVec.ofNat 64 (k.field 24 8 % 256 ^ k.field 32 1))
  ∧ (∃ (c : Fin 4) (k : SubCmd) (s : State), CmdStarts s c 0x0701 k ∧ 1 ≤ k.field 25 1 ∧ k.field 25 1 ≤ 16 ∧ k.field 24 1 < k.field 25 1 ∧
    inData (k.field 28 4) (48 * k.field 25 1) = true ∧ (∀ p : Fin 8, portState s p = portStopped)) :=
  ⟨⟨3, cmd 0x0301 [(16, 1), (20, dataBase), (24, 64)], 1, _, _, taken 0x0301 [(16, 1), (20, dataBase), (24, 64)], starts (by decide +kernel),
    conj4 (by decide +kernel) ⟨by decide +kernel, by decide +kernel, by decide +kernel, rfl, by decide +kernel, by decide +kernel, rfl⟩⟩,
  ⟨3, cmd 0x0301 [(16, 1), (20, dataBase), (24, 64)], setF (taken 0x0301 [(16, 1), (20, dataBase), (24, 64)]) Fld.TCK_STATUS_INBOX_BUSY 1,
    starts (by decide +kernel), by decide +kernel⟩,
  ⟨3, cmd 0x0301 [(16, 1), (20, dataBase), (24, 64)], withBuild (taken 0x0301 [(16, 1), (20, dataBase), (24, 64)]) [], starts
    (by decide +kernel), by decide +kernel⟩,
  ⟨3, cmd 0x0302 [(24, 63), (28, dataBase)], aBuild [aChunk 0], aChunk 0, getF .reset Fld.LFT_STAGE_BASE_BASE, withBuild (setF (taken 0x0302
    [(24, 63), (28, dataBase)]) Fld.LFT_STAGE_SIZE_MIB 1) [aChunk 0], starts (by decide +kernel), by decide +kernel⟩,
  ⟨3, cmd 0x0303 [], taken 0x0303 [], starts (by decide +kernel), by decide +kernel⟩,
  ⟨3, cmd 0x0303 [], withBuild (taken 0x0303 []) [], starts (by decide +kernel), by decide +kernel⟩,
  ⟨3, cmd 0x0304 [(16, 1)], setF (taken 0x0304 [(16, 1)]) Fld.LFT_BAY_STATUS_STATE 2 0 1, starts (by decide +kernel), by decide +kernel⟩,
  ⟨3, cmd 0x0305 [(16, 1)], setF (taken 0x0305 [(16, 1)]) Fld.LFT_BAY_STATUS_STATE 4 0 1, starts (by decide +kernel), by decide +kernel⟩,
  ⟨3, cmd 0x0305 [(16, 1)], taken 0x0305 [(16, 1)], starts (by decide +kernel), by decide +kernel⟩,
  ⟨3, { served { cmds := [{ cmd 0x0305 [(16, 1)] with order := 1 }] } with host := [(0, { cmds := [cmd 0x0305 [(16, 1)]] }), (3, { cmds := [{ cmd 0x0305 [(16, 1)] with order := 1 }] })] },
    by decide +kernel⟩,
  ⟨3, cmd 0x0401 [(18, 1)], taken 0x0401 [(18, 1)], starts (by decide +kernel), by decide +kernel⟩,
  ⟨3, cmd 0x0501 [(16, 3), (17, 15), (18, 2047), (20, 2047), (22, 2047)], taken 0x0501 [(16, 3), (17, 15), (18, 2047), (20, 2047), (22,
    2047)], starts (by decide +kernel), by decide +kernel⟩,
  ⟨3, cmd 0x0502 [], taken 0x0502 [], starts (by decide +kernel), by decide +kernel⟩,
  ⟨3, cmd 0x0503 [(16, 1)], taken 0x0503 [(16, 1)], starts (by decide +kernel), by decide +kernel⟩,
  ⟨3, cmd 0x0503 [(16, 1)], withBatch (taken 0x0503 [(16, 1)]), starts (by decide +kernel), by decide +kernel⟩,
  ⟨3, cmd 0x0601 [(18, 15)], putStall (taken 0x0601 [(18, 15)]) 15 { state := .run }, starts (by decide +kernel), by decide +kernel⟩,
  ⟨3, cmd 0x0602 [(18, 15)], taken 0x0602 [(18, 15)], starts (by decide +kernel), by decide +kernel⟩,
  ⟨3, cmd 0x0603 [(16, 0x8D000000), (32, 4)], taken 0x0603 [(16, 0x8D000000), (32, 4)], starts (by decide +kernel), by decide +kernel⟩,
  (by obtain ⟨r, h, p⟩ := whole_of (t := busTarget .ostler ((cmd 0x0603 [(16, stageReg.toNat), (32, 8)]).field 16 8) ((cmd 0x0603 [(16,
    stageReg.toNat), (32, 8)]).field 32 1)) (p := plainReg) (by decide +kernel); exact ⟨3, cmd 0x0603 [(16, stageReg.toNat), (32, 8)], r,
    _, taken 0x0603 [(16, stageReg.toNat), (32, 8)], starts (by decide +kernel), by decide +kernel, by decide +kernel, by decide +kernel,
    h, (plain_of p).1, (plain_of p).2, rfl⟩),
  ⟨3, cmd 0x0701 [(24, 15), (25, 16), (28, dataBase)], taken 0x0701 [(24, 15), (25, 16), (28, dataBase)], starts (by decide +kernel),
    by decide +kernel⟩⟩

theorem wit_TackRoomBoot :
  (∃ (a b : Bool) (s : State), s.pwr.rails = .valid ∧ s.sys.ostlerUp = false ∧ phaseHeld s = 1 ∧ s.tack.romStop = false ∧ s.tack.runTkf =
    none ∧ (a && b) = false)
  ∧ (∃ (n : Nat), n < 60)
  ∧ (∃ (n : Nat) (s : State), 60 ≤ n ∧ s.sys.trialDue = true ∧ s.pwr.rails = .valid)
  ∧ (∃ (r : SignReq) (s : State), s.tack.signs = [r] ∧ getF s Fld.TCK_STATUS_SIGNER = signerReady ∧ treeMissing s = false ∧ 1 ≤ getF s
    Fld.TCK_LMS_LEFT_LEFT ∧ getF s Fld.TCK_LMS_LEFT_LEFT ≤ 2 ^ 30)
  ∧ (∃ (r : SignReq) (s : State), s.tack.signs = [r] ∧ (getF s Fld.TCK_STATUS_SIGNER = signerDisabled ∨ getF s Fld.TCK_STATUS_SIGNER =
    signerExhausted) ∧ 4 ≤ r.chan)
  ∧ (∃ (s : State), getF s Fld.TCK_STATUS_SIGNER = signerBuilding) :=
  ⟨⟨true, false, railsUp 1 {}, by decide +kernel⟩,
  ⟨59, by decide +kernel⟩,
  ⟨60, railsUp 1 { trialDue := true }, by decide +kernel⟩,
  ⟨aSign, setF (signing 0) Fld.TCK_LMS_LEFT_LEFT (2 ^ 30), by decide +kernel⟩,
  ⟨aSign, signing 3, by decide +kernel⟩,
  ⟨signing 1, by decide +kernel⟩⟩

/-- The clauses that need signatures to verify, which a free value decides: with one that accepts. -/
theorem wit_TackRoomBoot_signed (he : ∀ k m g, Config.ecdsaOk k m g = true) (hh : ∀ k m g, Config.hssOk k m g = true) :
  (∃ (i j : Image) (q : Nat) (s : State), s.pwr.rails = .valid ∧ s.sys.ostlerUp = false ∧ phaseHeld s = 1 ∧ s.tack.romStop = false ∧
    s.tack.runTkf = none ∧ pickImage s 1 s.tack.tkf = some (i, false, 0) ∧ pickImage s 2 s.tack.osf = some (j, false, 0) ∧ s.sys.held =
    false ∧ resMark s.tack = some q)
  ∧ (∃ (i : Image) (s : State), s.pwr.rails = .valid ∧ s.sys.ostlerUp = false ∧ phaseHeld s = 1 ∧ s.tack.romStop = false ∧ s.tack.runTkf =
    none ∧ pickImage s 1 s.tack.tkf = some (i, false, 0) ∧ pickImage s 2 s.tack.osf = none) :=
  ⟨⟨anImage 1, anImage 2, 0, bootAt (some (anImage 2)), rfl, rfl, by decide +kernel, rfl, rfl, (picks_both he hh).1, (picks_both he hh).2,
    rfl, rfl⟩,
  ⟨anImage 1, bootAt none, rfl, rfl, by decide +kernel, rfl, rfl, picks_one he hh, rfl⟩⟩

theorem wit_TackRoomRequests :
  (∃ (s : State), inboxOpen s = true ∧ getF s Fld.TCK_STATUS_INBOX_BUSY = 0 ∧ (inboxRead s 0 256).2.2 = false ∧ (inboxRead s 0 256).2.1.take
    8 = inboxMagic ∧ requestFormatOk (inboxRead s 0 256).2.1 = true)
  ∧ (∃ (s : State), inboxOpen s = true ∧ getF s Fld.TCK_STATUS_INBOX_BUSY = 0 ∧ (inboxRead s 0 256).2.2 = false ∧ (inboxRead s 0 256).2.1.take
    8 = inboxMagic ∧ requestFormatOk (inboxRead s 0 256).2.1 = false)
  ∧ (∃ (h : List Nat) (u s : State), RequestPasses s 1 h u)
  ∧ (∃ (h : List Nat) (u s : State), RequestPasses s 5 h u ∧ installImage u h = none) :=
  ⟨⟨recovering 1, by decide +kernel⟩,
  ⟨recovering 0, by decide +kernel⟩,
  ⟨reqHeader (requestAt 1 0 freeTack), reqAfter (requestAt 1 0 freeTack), requestAt 1 0 freeTack, passes_unowned⟩,
  ⟨reqHeader (installAt bareTable), reqAfter (installAt bareTable), installAt bareTable, install_passes bareTable _ rfl (by decide +kernel)
    (by decide +kernel), Option.isNone_iff_eq_none.mp (by decide +kernel)⟩⟩

/-- The clauses that need signatures to verify, which a free value decides: with one that accepts. -/
theorem wit_TackRoomRequests_signed (he : ∀ k m g, Config.ecdsaOk k m g = true) (hh : ∀ k m g, Config.hssOk k m g = true) :
  (∃ (h : List Nat) (u s : State), RequestPasses s 2 h u)
  ∧ (∃ (h : List Nat) (u s : State), RequestPasses s 3 h u)
  ∧ (∃ (h : List Nat) (u s : State), RequestPasses (drawn s) 4 h u)
  ∧ (∃ (h : List Nat) (u v s : State), RequestPasses s 5 h u ∧ installImage u h = some v) :=
  ⟨⟨reqHeader (requestAt 2 7 ownedTack), reqAfter (requestAt 2 7 ownedTack), requestAt 2 7 ownedTack, passes_owned he hh 2 7
    (by decide +kernel) ready_enrol⟩,
  ⟨reqHeader (requestAt 3 7 ownedTack), reqAfter (requestAt 3 7 ownedTack), requestAt 3 7 ownedTack, passes_owned he hh 3 7
    (by decide +kernel) ready_revoke⟩,
  ⟨reqHeader (drawn (requestAt 4 1 ownedTack)), reqAfter (drawn (requestAt 4 1 ownedTack)), requestAt 4 1 ownedTack, passes_drawn he hh⟩,
  ⟨reqHeader (installAt installTable), reqAfter (installAt installTable), (installImage _ _).get (installs he hh), installAt installTable,
    install_passes installTable _ rfl (by decide +kernel) (by decide +kernel), (Option.some_get (installs he hh)).symm⟩⟩

theorem wit_ResetsAndRestarts :
  (∃ (s : State), s.pwr.rails ≠ .off)
  ∧ (∃ (cause : BitVec 3) (s : State), s.pwr.rails = .valid ∧ 1 ≤ cause.toNat ∧ cause.toNat ≤ 4)
  ∧ (∃ (us : Nat), us < 10)
  ∧ (∃ (us : Nat) (s : State), 10 ≤ us ∧ s.sys.tripped = false ∧ s.pwr.rails = .valid)
  ∧ (∃ (us : Nat) (s : State), 10 ≤ us ∧ s.sys.tripped = true ∧ s.pwr.rails = .off)
  ∧ (∃ (req : Requester) (s : State), s.pwr.rails = .valid ∧ req.bridle = true)
  ∧ (∃ (req : Requester) (key : BitVec 8), (req.bridle = false ∨ key ≠ 0xB5))
  ∧ (∃ (cause : BitVec 2) (s : State), firmwareRuns s = true ∧ cause ≠ 0 ∧ phaseHeld s = 7 ∧ (s.sys.restarts.filter (fun t => decide ((s.time
    - t).toNat < 600000000000))).length < 2)
  ∧ (∃ (cause : BitVec 2) (s : State), firmwareRuns s = true ∧ cause ≠ 0 ∧ s.pwr.rails = .valid ∧ 2 ≤ (s.sys.restarts.filter (fun t => decide
    ((s.time - t).toNat < 600000000000))).length)
  ∧ (∃ (s : State), watchdogExpired s = true ∧ phaseHeld s = 7 ∧ (s.sys.restarts.filter (fun t => decide ((s.time - t).toNat <
    600000000000))).length < 2)
  ∧ (∃ (s : State), watchdogExpired s = false)
  ∧ (∃ (c : Nat) (s : State), s.sys.restarting = some c ∧ s.pwr.rails = .valid ∧ phaseHeld s = 7 ∧ pickImage s 2 s.tack.osf = none) :=
  ⟨⟨pwrAt { rails := .valid }, by decide +kernel⟩,
  ⟨4, railsUp 7 {}, by decide +kernel⟩,
  ⟨9, by decide +kernel⟩,
  ⟨10, railsUp 7 {}, by decide +kernel⟩,
  ⟨10, { railsUp 7 { tripped := true } with pwr := { rails := .off } }, by decide +kernel⟩,
  ⟨.ostler, railsUp 7 {}, by decide +kernel⟩,
  ⟨.rein, 0xB5, by decide +kernel⟩,
  ⟨3, railsUp 7 { ostlerUp := true, restarts := [0] }, by decide +kernel⟩,
  ⟨3, railsUp 7 { ostlerUp := true, restarts := [0, 0] }, by decide +kernel⟩,
  ⟨{ railsUp 7 { ostlerUp := true, restarts := [0] } with time := 2 ^ 40 }, by decide +kernel⟩,
  ⟨.reset, by decide +kernel⟩,
  ⟨3, railsUp 7 { restarting := some 3 }, by decide +kernel⟩⟩

/-- The clauses that need signatures to verify, which a free value decides: with one that accepts. -/
theorem wit_ResetsAndRestarts_signed (he : ∀ k m g, Config.ecdsaOk k m g = true) (hh : ∀ k m g, Config.hssOk k m g = true) :
  (∃ (c : Nat) (j : Image) (alt : Bool) (n : Nat) (s : State), s.sys.restarting = some c ∧ s.pwr.rails = .valid ∧ phaseHeld s = 7 ∧
    pickImage s 2 s.tack.osf = some (j, alt, n))
  ∧ (∃ (c : Nat) (j : Image) (alt : Bool) (n : Nat) (s : State), s.sys.restarting = some c ∧ s.pwr.rails = .valid ∧ phaseHeld s = 2 ∧
    pickImage s 2 s.tack.osf = some (j, alt, n)) :=
  ⟨⟨3, anImage 2, false, 0, restartAt (some (anImage 2)), rfl, rfl, by decide +kernel, picks_osf he hh⟩,
  ⟨3, anImage 2, false, 0, startAgain (some (anImage 2)), rfl, rfl, by decide +kernel, pick_primary rfl (anImage_passes he hh (s :=
    startAgain (some (anImage 2))) rfl rfl (by decide +kernel)).2⟩⟩

theorem wit_StartUpPhases :
  (∃ (s : State), s.sys.restarting = none ∧ s.sys.ostlerUp = true ∧ phaseHeld s = 2)
  ∧ (∃ (d : DdrTraining) (s : State), firmwareRuns s = true ∧ phaseHeld s = 3 ∧ s.sys.memDone = false ∧ ddrSound d = true ∧ d.modules = 0)
  ∧ (∃ (s : State), firmwareRuns s = true ∧ phaseHeld s = 3 ∧ s.sys.lightDone = false ∧ (∀ m : Fin 48, monState s m ≠ monCal))
  ∧ (∃ (m : Fin 48) (l0 l1 : Bool) (w : List RingSweep) (s : State), firmwareRuns s = true ∧ s.sys.lightDue = some (l0, l1, w) ∧
    s.light.laserEn = true ∧ monState s m = monCal ∧ (getConv s m).back ≠ monCal ∧ s.mon.calQueue = [] ∧ (∀ n : Fin 48, (getConv s n).cal
    = false ∧ (n ≠ m → monState s n ≠ monCal)) ∧ farState s = farStopped)
  ∧ (∃ (s : State), phaseNow s = 6 ∧ firmwareRuns s = true)
  ∧ (∃ (n : BitVec 3) (ms : W32) (s : State), s.pwr.rails = .valid ∧ inPhase s n.toNat = true ∧ 1 ≤ n.toNat ∧ n.toNat ≤ 6 ∧ phaseWorst
    s.sys.pkg n.toNat < ms.toNat)
  ∧ (∃ (s : State), phaseHeld s = 7 ∧ firmwareRuns s = true ∧ serviceLevel s ≠ getF s Fld.EVT_SVC_LEVEL)
  ∧ (∃ (s : State), serviceLevel s = getF s Fld.EVT_SVC_LEVEL) :=
  ⟨⟨railsUp 2 { ostlerUp := true }, by decide +kernel⟩,
  ⟨{ modules := 0 }, railsUp 3 { ostlerUp := true }, by decide +kernel⟩,
  ⟨railsUp 3 { ostlerUp := true }, by decide +kernel⟩,
  ⟨47, true, false, [], setF (setF { railsUp 3 { ostlerUp := true, lightDue := some (true, false, []) } with light := { laserEn := true } }
    Fld.FAR_STATUS_STATE farStopped) Fld.MON_STATUS_STATE 2 47, by decide +kernel⟩,
  ⟨railsUp 3 { ostlerUp := true, memDone := true, lightDone := true }, by decide +kernel⟩,
  ⟨6, 331, railsUp 3 { memDone := true, lightDone := true }, by decide +kernel⟩,
  ⟨setF (railsUp 7 { ostlerUp := true }) Fld.EVT_SVC_LEVEL 0, by decide +kernel⟩,
  ⟨setF .reset Fld.EVT_SVC_LEVEL 5, by decide +kernel⟩⟩

theorem wit_SwitchRule :
  (∃ (req : Requester) (y : Fin 2) (s : State), req.bridle = true ∧ (bayState s y = 2 ∨ bayState s y = 4))
  ∧ (∃ (req : Requester) (y : Fin 2) (s : State), req.bridle = true ∧ bayState s y ≠ 2 ∧ bayState s y ≠ 4) :=
  ⟨⟨.ostler, 1, setF .reset Fld.LFT_BAY_STATUS_STATE 4 0 1, by decide +kernel⟩,
  ⟨.ostler, 1, .reset, by decide +kernel⟩⟩

theorem wit_MailboxProtocolErrors :
  (∃ (c : Fin 4) (v : Fin 4096) (s : State), ((getHost s c).state = .ready ∨ (getHost s c).state = .restarting) ∧ (v.val + 4096 - (getHost s
    c).sqHead) % 4096 < ((getHost s c).sqTail + 4096 - (getHost s c).sqHead) % 4096)
  ∧ (∃ (c : Fin 4) (v : Fin 4096) (s : State), ((getHost s c).state = .ready ∨ (getHost s c).state = .restarting) ∧ ((getHost s c).cqTail +
    4096 - (getHost s c).cqHead) % 4096 < (v.val + 4096 - (getHost s c).cqHead) % 4096)
  ∧ (∃ (c : Fin 4) (k : SubCmd) (s : State), (getHost s c).state = .halted ∧ firmwareRuns s = true ∧ (getHost s c).cmds.find? (fun k =>
    k.ended.isSome) = some k)
  ∧ (∃ (c : Fin 4) (k : SubCmd) (s : State), (getHost s c).state = .halted ∧ CmdStarts s c 0x0402 k) :=
  ⟨⟨3, 0, hostAt { state := .ready, sqTail := 1 }, by decide +kernel⟩,
  ⟨3, 1, hostAt { state := .ready }, by decide +kernel⟩,
  ⟨3, { cmd 1 [] with ended := some (0, 0) }, served { state := .halted, cmds := [{ cmd 1 [] with ended := some (0, 0) }] },
    by decide +kernel⟩,
  ⟨3, cmd 0x0402 [], served { state := .halted, cmds := [cmd 0x0402 []] }, by decide +kernel, starts (by decide +kernel)⟩⟩

theorem wit_ConfigurationHidden :
  ∃ (req : Requester) (addr : BitVec 48) (w : Fin 65), req.bridle = false ∧ (∀ j r, j < w.val → regByteAt (addr.toNat + j) = some r →
    r.desc.bridleOnly = true) :=
  ⟨.rein, stageReg, 8, rfl, fun _ _ hj hr => hidden_there hj hr⟩

theorem wit_StepRule :
  (∃ (c : Instr) (q : List Instr) (s : State), s.pending = c :: q)
  ∧ (∃ (s : State), s.pending = []) :=
  ⟨⟨.watchdogKick .ostler, [.eventPop], { State.reset with pending := [.watchdogKick .ostler, .eventPop] }, by decide +kernel⟩,
  ⟨.reset, by decide +kernel⟩⟩

theorem wit_StepKeepsInvariant :
  ∃ (s t : State), s.inv = true ∧ step s = .next t :=
  ⟨.reset, idle .reset, by decide +kernel, rfl⟩

theorem wit_CommandFrames :
  ∃ (c : Instr) (q : List Instr) (s t : State), s.pending = c :: q ∧ step s = .next t :=
  ⟨.loadAccept 15, [], { State.reset with pending := [.loadAccept 15] }, .reset, rfl, rfl⟩

/-! Tests of single definitions against the spec's worked examples. -/

/-- No row of the command table gives bits. -/
theorem test_decode_none : decodeTableWord 32 0x12345678 = none := rfl
theorem test_with_fetch_word : State.reset.withFetchWord 32 0 = State.reset := rfl

/-- R8: the example of a stall register at offset 0x0040 of stall 9 lies at 0x0000_8009_0040; STL_CTRL of stall 9 lies in the same window. -/
theorem test_register_address : Reg.STL_CTRL.addr 9 0 0 / 0x10000 = 0x8009 := by decide
/-- Table 0.6: general shunter instance 13 has UNIT 0x020D. -/
theorem test_unit : unitOf 2 13 = 0x020D := by decide

/-- Chapter 02's worked conversion: 0.30, −1.10, 0.05, 2.60 and −2.90 into BX4: E = 0x80, mantissas 1, −2, 0, 5, −6. -/
def workedBlock : List Src := [0x3E99999A, 0xBF8CCCCD, 0x3D4CCCCD, 0x40266666, 0xC039999A].map (fpSrc 24) ++ List.replicate 27 (fpSrc 24 0)
theorem test_convert_rne : (convert .rne 4 workedBlock []).blk = ⟨0x80, [1, -2, 0, 5, -6] ++ List.replicate 27 0⟩ := by decide +kernel
theorem test_convert_rtz : (convert .rtz 4 workedBlock []).blk = ⟨0x80, [0, -2, 0, 5, -5] ++ List.replicate 27 0⟩ := by decide +kernel
/-- The same element under RS: a draw of 0x4000 rounds 0.60 up, 0xC000 down; −2.20 rounds to −2 below 52,428. -/
theorem test_convert_rs :
    ((convert .rs 4 workedBlock (0x4000 :: 52000 :: List.replicate 30 0)).blk.m.take 2) = [1, -2]
      ∧ ((convert .rs 4 workedBlock (0xC000 :: 53000 :: List.replicate 30 0)).blk.m.take 2) = [0, -3] := by decide +kernel
/-- Chapter 02: with IB0 = 0x2A00 the scale byte of block 200 lies at 0x0010_0040_00E8, and its line carries FIRST_BLOCK 0x2AA8. -/
theorem test_scale_byte : scaleByteAddr 0x1000400000 200 = 0x10004000E8 ∧ scaleExpect 0x2A00 200 = 0x2AA8 := by decide
/-- Chapter 02: mantissa 5 of BX4 widened to BX8 is 80; 2.5 and −3.0 in BF16 are 0x4020 and 0xC040. -/
theorem test_widen : (widen 4 8 ⟨0x80, [5]⟩).m = [80] := by decide
theorem test_bf16 : (elemToFp 8 4 0x80 5).bits = 0x4020 ∧ (elemToFp 8 4 0x80 (-6)).bits = 0xC040 := by decide +kernel
/-- R69's example: q = −80, T = 51, trims +20 and −3 give code 0x231. -/
theorem test_cell_code : cellCode (-80) 51 20 (-3) = 0x231 := by decide +kernel
/-- R70: T[80] = 51. -/
theorem test_transfer : transferAt .reset 9 80 = 51 := by decide +kernel

/-- Chapter 08's example: data 0xA5 at 0x1234_5678 has check bits 0x17; d5 inverted gives syndrome 0x16, which restores it. -/
theorem test_guard_check : guardCheck 0xA5 0x12345678 = 0x17 ∧ guardCheck 0x85 0x12345678 ^^^ 0x17 = 0x16 := by decide +kernel
theorem test_guard_fix : guardAct 0x16 = .fixData 5 ∧ 0x85 ^^^ 2 ^ 5 = 0xA5 := by decide
/-- The same byte read at 0x1234_5478, the address of a wrong row, has syndrome 0x06: uncorrectable. -/
theorem test_guard_row : guardCheck 0xA5 (0x12345678 ^^^ 0x200) ^^^ 0x17 = 0x06 ∧ guardAct 0x06 = .bad := by decide +kernel

/-- Chapter 13's example: γ of +12 at 65 °C and +20 at 80 °C interpolates to 14 at 68.0 °C and 15 at 70.0 °C. -/
def workedSet : CalSet := { points := [[], [], [(2000, 12), (2001, -2)], [(2000, 20), (2001, -1)], []], resid := [(2000, 2), (2001, 1)] }
theorem test_interp : interpAt workedSet false 2000 1088 = 14 ∧ interpAt workedSet false 2001 1088 = -2 := by decide +kernel
theorem test_correction : correction workedSet 2000 1120 = 17 ∧ correction workedSet 2001 1120 = -1 := by decide +kernel

/-- Table 14.5: u = 128/256 is the tie and gives a pause of 128 S-cycles. -/
theorem test_pause : pauseOf 128 = 128 := by decide +kernel
/-- Chapter 16's example: submission entry 4,095 lies in row 17, bank 15, unit 60. -/
theorem test_porch_offset : porchOffset 17 15 60 = submitBase + 4095 * 128 := by decide
/-- A row of the upper half reaches the same bytes. -/
theorem test_porch_mirror : porchOffset 1041 15 60 = porchOffset 17 15 60 := by decide
/-- R301's example: r − g = 52,915.2 sixteenths, in the 2,048ths of one that 2,048 conversions give, makes GAIN −602. -/
theorem test_cal_gain : calGain 108370330 = some (-602) := by decide +kernel

/-! Tests of single commands. -/

/-- The state a command leaves. -/
def after (c : Instr) (s : State) : State := match exec c s with
  | .next t => t
  | _ => s

/-- R135: x3 := x4 + x4, and the PC moves on by 4. -/
theorem test_scalar_add : (getThread (after (.scalarAdd 63 255 3 4 4 0) aReady) 63 255).xr 3 = 128
    ∧ (getThread (after (.scalarAdd 63 255 3 4 4 0) aReady) 63 255).pc = 4 := by decide +kernel
/-- R143: with a MASK the same instruction is illegal, and without a handler the thread halts (R150). -/
theorem test_scalar_illegal : (getThread (after (.scalarAdd 63 255 3 4 4 1) aReady) 63 255).running = false := by decide +kernel
/-- x0 reads as 0 and discards writes. -/
theorem test_x0 : (getThread (after (.scalarAdd 63 255 0 4 4 0) aReady) 63 255).xr 0 = 0 := by decide +kernel
/-- R478: the 257th record is lost. -/
theorem test_event_lost : (after (.eventRecordArrival [0]) (evAt { inFlight := [rec_ 0], queue := List.replicate 256 (rec_ 0) })).ev.queue.length = 256 := by
  decide +kernel
/-- R259: a switch to a bay that is EMPTY has no effect on ACTIVE. -/
theorem test_switch_empty : getF (after (.loftSwitch .ostler 1) .reset) Fld.LFT_ACTIVE_VALID = 0 := by decide +kernel
/-- R427: SQ_TAIL moved back halts the mailbox. -/
theorem test_tail_back : (getHost (after (.sqTailWrite 3 0) (hostAt { state := .ready, sqTail := 1 })) 3).state = .halted := by decide +kernel
/-- R14, R15: a shunter's write of a configuration register has no effect. -/
theorem test_hidden : rdReg (after (.registerWrite (.shunter 95) stageReg 8 0) .reset) stageReg.toNat = rdReg .reset stageReg.toNat := by decide +kernel
/-- The same write by ostler firmware takes effect. -/
theorem test_visible : rdReg (after (.registerWrite .ostler stageReg 8 0x200) .reset) stageReg.toNat = 0x200 := by decide +kernel
/-- R10: a low half is held until the high half is written. -/
theorem test_low_half : rdReg (after (.lowHalfWrite .ostler stageReg 0x400) .reset) stageReg.toNat = rdReg .reset stageReg.toNat
    ∧ rdReg (after (.highHalfWrite .ostler stageReg 0x10) (after (.lowHalfWrite .ostler stageReg 0x400) .reset)) stageReg.toNat = 0x1000000400 := by
  decide +kernel
/-- With no command waiting, 1 ns passes. -/
theorem test_idle : step .reset = .next { State.reset with time := 1 } := rfl
/-- The state after reset meets the invariant. -/
theorem test_reset_inv : State.reset.inv = true := by decide +kernel

/-! Well-formedness: an ill-formed term for each check, which the check refuses. -/

theorem test_wf_register_write : (Instr.registerWrite .ostler 0 0 0).wellFormed = false := rfl
theorem test_wf_rc_read : (Instr.rcRead .ostler 0 0).wellFormed = false := rfl
theorem test_wf_event_empty : (Instr.eventRecordArrival []).wellFormed = false := rfl
theorem test_wf_event_twice : (Instr.eventRecordArrival [0, 0]).wellFormed = false := by decide
theorem test_wf_memory_request : (Instr.memoryRequest 0 (.read 9) 0 false).wellFormed = false := by decide
theorem test_wf_memory_write : (Instr.memoryRequest 0 (.write []) 0 false).wellFormed = false := by decide
theorem test_wf_sweep : (Instr.lteAssign .ostler true true [⟨0, [], []⟩]).wellFormed = false := by decide
theorem test_wf_sweep_twice : (Instr.lteRelight .ostler true true [⟨0, [1], []⟩, ⟨0, [1], []⟩]).wellFormed = false := by decide
theorem test_wf_dark : (Instr.dark 0 true true [⟨0, [], []⟩]).wellFormed = false := by decide
theorem test_wf_phase_light : (Instr.phaseLight true true [⟨0, [], []⟩]).wellFormed = false := by decide
theorem test_wf_comb : (Instr.combDieFailure 0 0).wellFormed = false := rfl
theorem test_wf_conversion : (Instr.conversion []).wellFormed = false := rfl
theorem test_wf_trip : (Instr.packageTrip 0 0 0).wellFormed = false := rfl
theorem test_wf_sensors : (Instr.sensorReading 4 []).wellFormed = false := by decide
theorem test_wf_contact : (Instr.contactSensorRead []).wellFormed = false := rfl
theorem test_wf_memory_temp : (Instr.memoryTempRead 0 []).wellFormed = false := by decide
theorem test_wf_data_frame : (Instr.dataFrameReceive 0 { lane := 32 } true []).wellFormed = false := by decide
theorem test_wf_c0_frame : (Instr.c0FrameReceive 0 { src := 16 } true 0).wellFormed = false := by decide
theorem test_wf_epoch : (Instr.epochChange 0 0 0 ⟨0, 0⟩).wellFormed = false := rfl
theorem test_wf_admit : (Instr.admitFrame 0 { step := 5, idx := 0 }).wellFormed = false := by decide
theorem test_wf_lane_drop : (Instr.laneDrop 0 0 true 0).wellFormed = false := rfl
theorem test_wf_porch_write : (Instr.porchWrite 0 0 0 0 []).wellFormed = false := rfl
theorem test_wf_aperture_write : (Instr.apertureWrite 0 0 []).wellFormed = false := rfl
theorem test_wf_package_reset : (Instr.packageReset 5).wellFormed = false := by decide
theorem test_wf_restart : (Instr.ostlerRestart 0).wellFormed = false := by decide
theorem test_wf_overrun : (Instr.phaseOverrun 7 0).wellFormed = false := by decide
theorem test_wf_batch_end : (Instr.batchEnd 0 true [{ reason := 4 }]).wellFormed = false := by decide
theorem test_wf_sender : (Instr.stlReset .farrier 0).wellFormed = false := by decide

end Sys2Proof.Tests
end

section
/-! SUPPORT. What every command of the device does, read off the lemmas of Laws/ one command at a time: it ends in a next state
reached within its footprint. The frame and the invariant of `step` follow. -/
namespace Sys2Proof.Machine

/-! The step: the front command, or the tick where none waits. -/

theorem step_nil {s : State} (h : s.pending = []) : step s = .next (tick s) := by
  rw [step, h, idle]

theorem step_cons {c : Instr} {q : List Instr} {s : State} (h : s.pending = c :: q) : step s = exec c { s with pending := q } := by
  rw [step, h]

/-! Masks and footprints. -/

/-- The components, in the order of their bits: it reads a component back from its bit. -/
def Comp.ofIdx (n : Nat) : Option Comp :=
  [Comp.pending, .time, .freeCtr, .regs, .bus, .ev, .sbxFlight, .stall, .shed, .shu, .sid, .mem, .integ, .tier, .loft, .serve, .host,
    .light, .mon, .rein, .far, .pwr, .drove, .tack, .sys, .evtFilter][n]?

theorem Comp.ofIdx_idx (c : Comp) : Comp.ofIdx c.idx = some c := by cases c <;> rfl

theorem Comp.idx_inj {c d : Comp} (h : c.idx = d.idx) : c = d := by
  have hc : some c = some d := by rw [← c.ofIdx_idx, ← d.ofIdx_idx, h]
  exact Option.some.inj hc

/-- A bit of a mask that grows from `m` by the components of `l`. -/
theorem testBit_foldl_idx (l : List Comp) (m i : Nat) :
    (l.foldl (fun m c => m ||| 2 ^ c.idx) m).testBit i = (m.testBit i || l.any (fun c => c.idx == i)) := by
  induction l generalizing m with
  | nil => simp
  | cons c l ih =>
    have hbit : decide (c.idx = i) = (c.idx == i) := rfl
    rw [List.foldl_cons, ih, Nat.testBit_or, Nat.testBit_two_pow, hbit, List.any_cons, Bool.or_assoc]

theorem testBit_maskOf {l : List Comp} {c : Comp} (h : c ∉ l) : (maskOf l).testBit c.idx = false := by
  have hbits : (maskOf l).testBit c.idx = l.any (fun d => d.idx == c.idx) := by
    rw [maskOf, testBit_foldl_idx, Nat.zero_testBit, Bool.false_or]
  rw [hbits, List.any_eq_false]
  intro d hd he
  exact h (Comp.idx_inj (beq_iff_eq.mp he) ▸ hd)

/-- An operation of a mask touches what the mask lists. -/
theorem Fr.touches_maskOf {l : List Comp} {m : Nat} {s t : State} (h : Fr m s t) (hs : sub m (maskOf l) = true) : Touches l s t :=
  h.touches hs fun _ => testBit_maskOf

/-- Each command ends in a next state, reached within its footprint, and keeps the invariant. -/
theorem exec_ends (c : Instr) (s : State) : Ends (maskOf (footprint c)) s (exec c s) := by
  cases c with dsimp only [footprint, exec]
  | registerWrite => exact (execRegisterWrite_fr ..).mono rfl
  | lowHalfWrite => exact (execLowHalfWrite_fr ..).mono rfl
  | highHalfWrite => exact (execHighHalfWrite_fr ..).mono rfl
  | lowHalfRead => exact (execLowHalfRead_fr ..).mono rfl
  | highHalfRead => exact (execHighHalfRead_fr ..).mono rfl
  | rcRead => exact (execRcRead_fr ..).mono rfl
  | eventRecordArrival => exact (execEventRecordArrival_fr ..).mono rfl
  | seedWrite => exact (execSeedWrite_fr ..).mono rfl
  | loadAccept => exact (execLoadAccept_fr ..).mono rfl
  | stringCyclesStart => exact (execStringCyclesStart_fr ..).mono rfl
  | loadComplete => exact (execLoadComplete_fr ..).mono rfl
  | commit => exact (execCommit_fr ..).mono rfl
  | holdRefreshDue => exact (execHoldRefreshDue_fr ..).mono rfl
  | holdRefreshStart => exact (execHoldRefreshStart_fr ..).mono rfl
  | holdRefreshEnd => exact (execHoldRefreshEnd_fr ..).mono rfl
  | bandChangeAtStall => exact (execBandChangeAtStall_fr ..).mono rfl
  | tileOpHandover => exact (execTileOpHandover_fr ..).mono rfl
  | issueAccept => exact (execIssueAccept_fr ..).mono rfl
  | tileOpBegin => exact (execTileOpBegin_fr ..).mono rfl
  | passEnd => exact (execPassEnd_fr ..).mono rfl
  | retryStart => exact (execRetryStart_fr ..).mono rfl
  | tileOpComplete => exact (execTileOpComplete_fr ..).mono rfl
  | stallStart => exact (execStallStart_fr ..).mono rfl
  | stallStop => exact (execStallStop_fr ..).mono rfl
  | stallStopCut => exact (execStallStopCut_fr ..).mono rfl
  | stallStopped => exact (execStallStopped_fr ..).mono rfl
  | stlCfgRange => exact (execStlCfgRange_fr ..).mono rfl
  | stlCfgOffline => exact (execStlCfgOffline_fr ..).mono rfl
  | stlReset => exact (execStlReset_fr ..).mono rfl
  | scalarAdd => exact (execScalarAdd_fr ..).mono rfl
  | scalarSub => exact (execScalarSub_fr ..).mono rfl
  | scalarLogic => exact (execScalarLogic_fr ..).mono rfl
  | scalarShift => exact (execScalarShift_fr ..).mono rfl
  | scalarCompare => exact (execScalarCompare_fr ..).mono rfl
  | mul => exact (execMul_fr ..).mono rfl
  | div => exact (execDiv_fr ..).mono rfl
  | scalarImmediate => exact (execScalarImmediate_fr ..).mono rfl
  | lui => exact (execLui_fr ..).mono rfl
  | branchEq => exact (execBranchEq_fr ..).mono rfl
  | branchNe => exact (execBranchNe_fr ..).mono rfl
  | branchLt => exact (execBranchLt_fr ..).mono rfl
  | branchGe => exact (execBranchGe_fr ..).mono rfl
  | branchLtu => exact (execBranchLtu_fr ..).mono rfl
  | branchGeu => exact (execBranchGeu_fr ..).mono rfl
  | jumpToRegister => exact (execJumpToRegister_fr ..).mono rfl
  | jumpAndLink => exact (execJumpAndLink_fr ..).mono rfl
  | scalarLoad => exact (execScalarLoad_fr ..).mono rfl
  | scalarStore => exact (execScalarStore_fr ..).mono rfl
  | vectorLoad => exact (execVectorLoad_fr ..).mono rfl
  | vectorStore => exact (execVectorStore_fr ..).mono rfl
  | loadResultReturn => exact (execLoadResultReturn_fr ..).mono rfl
  | vectorArith => exact (execVectorArith_fr ..).mono rfl
  | vfma => exact (execVfma_fr ..).mono rfl
  | vdot2 => exact (execVdot2_fr ..).mono rfl
  | bxdot8 => exact (execBxdot8_fr ..).mono rfl
  | tobx4 => exact (execTobx4_fr ..).mono rfl
  | tobx8 => exact (execTobx8_fr ..).mono rfl
  | tobx16 => exact (execTobx16_fr ..).mono rfl
  | frombx4 => exact (execFrombx4_fr ..).mono rfl
  | frombx8 => exact (execFrombx8_fr ..).mono rfl
  | frombx16 => exact (execFrombx16_fr ..).mono rfl
  | f32tobf16 => exact (execF32tobf16_fr ..).mono rfl
  | bf16tof32 => exact (execBf16tof32_fr ..).mono rfl
  | atomicAdd => exact (execAtomicAdd_fr ..).mono rfl
  | atomicAnd => exact (execAtomicAnd_fr ..).mono rfl
  | atomicOr => exact (execAtomicOr_fr ..).mono rfl
  | atomicXor => exact (execAtomicXor_fr ..).mono rfl
  | atomicSwap => exact (execAtomicSwap_fr ..).mono rfl
  | atomicCas => exact (execAtomicCas_fr ..).mono rfl
  | atomicMins => exact (execAtomicMins_fr ..).mono rfl
  | atomicMaxs => exact (execAtomicMaxs_fr ..).mono rfl
  | atomicMinu => exact (execAtomicMinu_fr ..).mono rfl
  | atomicMaxu => exact (execAtomicMaxu_fr ..).mono rfl
  | fence => exact (execFence_fr ..).mono rfl
  | sbinc => exact (execSbinc_fr ..).mono rfl
  | sbwait => exact (execSbwait_fr ..).mono rfl
  | sbwaitWake => exact (execSbwaitWake_fr ..).mono rfl
  | sbwaitTimeout => exact (execSbwaitTimeout_fr ..).mono rfl
  | halt => exact (execHalt_fr ..).mono rfl
  | tileop => exact (execTileop_fr ..).mono rfl
  | csrr => exact (execCsrr_fr ..).mono rfl
  | csrw => exact (execCsrw_fr ..).mono rfl
  | eret => exact (execEret_fr ..).mono rfl
  | trap => exact (execTrap_fr ..).mono rfl
  | exp2 => exact (execExp2_fr ..).mono rfl
  | log2 => exact (execLog2_fr ..).mono rfl
  | rcp => exact (execRcp_fr ..).mono rfl
  | rsqrt => exact (execRsqrt_fr ..).mono rfl
  | sin => exact (execSin_fr ..).mono rfl
  | tanh => exact (execTanh_fr ..).mono rfl
  | deferredBusError => exact (execDeferredBusError_fr ..).mono rfl
  | shedLaunch => exact (execShedLaunch_fr ..).mono rfl
  | shedResume => exact (execShedResume_fr ..).mono rfl
  | shedStop => exact (execShedStop_fr ..).mono rfl
  | shedStopped => exact (execShedStopped_fr ..).mono rfl
  | icinv => exact (execIcinv_fr ..).mono rfl
  | shedCfgWrite => exact (execShedCfgWrite_fr ..).mono rfl
  | channelArm => exact (execChannelArm_fr ..).mono rfl
  | armResult => exact (execArmResult_fr ..).mono rfl
  | channelWaitSatisfied => exact (execChannelWaitSatisfied_fr ..).mono rfl
  | transferIssue => exact (execTransferIssue_fr ..).mono rfl
  | transferReadReturn => exact (execTransferReadReturn_fr ..).mono rfl
  | transferAck => exact (execTransferAck_fr ..).mono rfl
  | channelHalted => exact (execChannelHalted_fr ..).mono rfl
  | channelClear => exact (execChannelClear_fr ..).mono rfl
  | channelClearComplete => exact (execChannelClearComplete_fr ..).mono rfl
  | shunterStop => exact (execShunterStop_fr ..).mono rfl
  | shunterStopped => exact (execShunterStopped_fr ..).mono rfl
  | shunterStart => exact (execShunterStart_fr ..).mono rfl
  | shuClassWrite => exact (execShuClassWrite_fr ..).mono rfl
  | sidPub => exact (execSidPub_fr ..).mono rfl
  | sidRel => exact (execSidRel_fr ..).mono rfl
  | sidCtrlReset => exact (execSidCtrlReset_fr ..).mono rfl
  | sidingConfigWrite => exact (execSidingConfigWrite_fr ..).mono rfl
  | sidingDeadlock => exact (execSidingDeadlock_fr ..).mono rfl
  | signalBoxIncrement => exact (execSignalBoxIncrement_fr ..).mono rfl
  | sbxCntWrite => exact (execSbxCntWrite_fr ..).mono rfl
  | sbxIncWrite => exact (execSbxIncWrite_fr ..).mono rfl
  | tqArm => exact (execTqArm_fr ..).mono rfl
  | tileBufferEntry => exact (execTileBufferEntry_fr ..).mono rfl
  | inputVectorFetch => exact (execInputVectorFetch_fr ..).mono rfl
  | memoryRequest => exact (execMemoryRequest_fr ..).mono rfl
  | memoryRequestComplete => exact (execMemoryRequestComplete_fr ..).mono rfl
  | rowIdleClose => exact (execRowIdleClose_fr ..).mono rfl
  | dramRefresh => exact (execDramRefresh_fr ..).mono rfl
  | memoryTempRead => exact (execMemoryTempRead_fr ..).mono rfl
  | tierOfflineWrite => exact (execTierOfflineWrite_fr ..).mono rfl
  | powerOnFill => exact (execPowerOnFill_fr ..).mono rfl
  | handlingPeriodEnd => exact (execHandlingPeriodEnd_fr ..).mono rfl
  | hndWrite => exact (execHndWrite_fr ..).mono rfl
  | poisonWrite => exact (execPoisonWrite_fr ..).mono rfl
  | groomRead => exact (execGroomRead_fr ..).mono rfl
  | groomWriteBack => exact (execGroomWriteBack_fr ..).mono rfl
  | groomLapAlarm => exact (execGroomLapAlarm_fr ..).mono rfl
  | groomEnableWrite => exact (execGroomEnableWrite_fr ..).mono rfl
  | mgrSoftrep => exact (execMgrSoftrep_fr ..).mono rfl
  | softRepairCopy => exact (execSoftRepairCopy_fr ..).mono rfl
  | flipArm => exact (execFlipArm_fr ..).mono rfl
  | flipDisarm => exact (execFlipDisarm_fr ..).mono rfl
  | ostlerMemoryError => exact (execOstlerMemoryError_fr ..).mono rfl
  | oholdRelease => exact (execOholdRelease_fr ..).mono rfl
  | chunkDigestCheck => exact (execChunkDigestCheck_fr ..).mono rfl
  | baySet => exact (execBaySet_fr ..).mono rfl
  | loftSwitch => exact (execLoftSwitch_fr ..).mono rfl
  | refopIncrement => exact (execRefopIncrement_fr ..).mono rfl
  | refopDecrement => exact (execRefopDecrement_fr ..).mono rfl
  | migrationStart => exact (execMigrationStart_fr ..).mono rfl
  | bandMigrated => exact (execBandMigrated_fr ..).mono rfl
  | buildTimeout => exact (execBuildTimeout_fr ..).mono rfl
  | lteAssign => exact (execLteAssign_fr ..).mono rfl
  | lteRelight => exact (execLteRelight_fr ..).mono rfl
  | lteDark => exact (execLteDark_fr ..).mono rfl
  | lteRestore => exact (execLteRestore_fr ..).mono rfl
  | lightSequenceEnd => exact (execLightSequenceEnd_fr ..).mono rfl
  | pilotCheckDue => exact (execPilotCheckDue_fr ..).mono rfl
  | pilotCheckResult => exact (execPilotCheckResult_fr ..).mono rfl
  | combDieFailure => exact (execCombDieFailure_fr ..).mono rfl
  | redistributionSettled => exact (execRedistributionSettled_fr ..).mono rfl
  | ringStop => exact (execRingStop_fr ..).mono rfl
  | ringStart => exact (execRingStart_fr ..).mono rfl
  | ringRecheck => exact (execRingRecheck_fr ..).mono rfl
  | ringCfgWrite => exact (execRingCfgWrite_fr ..).mono rfl
  | accumulatorLatch => exact (execAccumulatorLatch_fr ..).mono rfl
  | monitorStart => exact (execMonitorStart_fr ..).mono rfl
  | monitorStop => exact (execMonitorStop_fr ..).mono rfl
  | monitorCal => exact (execMonitorCal_fr ..).mono rfl
  | calibrationEnd => exact (execCalibrationEnd_fr ..).mono rfl
  | accConfigWrite => exact (execAccConfigWrite_fr ..).mono rfl
  | trmCodeWrite => exact (execTrmCodeWrite_fr ..).mono rfl
  | rangeHoldRelease => exact (execRangeHoldRelease_fr ..).mono rfl
  | loopExecution => exact (execLoopExecution_fr ..).mono rfl
  | outputPhase => exact (execOutputPhase_fr ..).mono rfl
  | bankStop => exact (execBankStop_fr ..).mono rfl
  | bankStart => exact (execBankStart_fr ..).mono rfl
  | loopFieldWrite => exact (execLoopFieldWrite_fr ..).mono rfl
  | freezeWrite => exact (execFreezeWrite_fr ..).mono rfl
  | farrierStart => exact (execFarrierStart_fr ..).mono rfl
  | farrierStop => exact (execFarrierStop_fr ..).mono rfl
  | runall => exact (execRunall_fr ..).mono rfl
  | farStallRun => exact (execFarStallRun_fr ..).mono rfl
  | farStallRelease => exact (execFarStallRelease_fr ..).mono rfl
  | farPortLanerun => exact (execFarPortLanerun_fr ..).mono rfl
  | calibrationAgeExpiry => exact (execCalibrationAgeExpiry_fr ..).mono rfl
  | farrierQuiesced => exact (execFarrierQuiesced_fr ..).mono rfl
  | stallRunStart => exact (execStallRunStart_fr ..).mono rfl
  | attemptEnd => exact (execAttemptEnd_fr ..).mono rfl
  | reinterpolation => exact (execReinterpolation_fr ..).mono rfl
  | portLaneRun => exact (execPortLaneRun_fr ..).mono rfl
  | residualStoreWrite => exact (execResidualStoreWrite_fr ..).mono rfl
  | prechargeComplete => exact (execPrechargeComplete_fr ..).mono rfl
  | railValid => exact (execRailValid_fr ..).mono rfl
  | refclkRetry => exact (execRefclkRetry_fr ..).mono rfl
  | inputWarning => exact (execInputWarning_fr ..).mono rfl
  | forcedDemand => exact (execForcedDemand_fr ..).mono rfl
  | packageTrip => exact (execPackageTrip_fr ..).mono rfl
  | budgetUpdate => exact (execBudgetUpdate_fr ..).mono rfl
  | pbudgetAbsent => exact (execPbudgetAbsent_fr ..).mono rfl
  | pbudgetRestored => exact (execPbudgetRestored_fr ..).mono rfl
  | pdemandUpdate => exact (execPdemandUpdate_fr ..).mono rfl
  | shedDemandApply => exact (execShedDemandApply_fr ..).mono rfl
  | stallUnpark => exact (execStallUnpark_fr ..).mono rfl
  | overbudgetClear => exact (execOverbudgetClear_fr ..).mono rfl
  | sensorReading => exact (execSensorReading_fr ..).mono rfl
  | contactSensorRead => exact (execContactSensorRead_fr ..).mono rfl
  | quietPeriodEnd => exact (execQuietPeriodEnd_fr ..).mono rfl
  | tripEnd => exact (execTripEnd_fr ..).mono rfl
  | holdoffEnd => exact (execHoldoffEnd_fr ..).mono rfl
  | recoveryOverrun => exact (execRecoveryOverrun_fr ..).mono rfl
  | dieTripEnd => exact (execDieTripEnd_fr ..).mono rfl
  | sendArm => exact (execSendArm_fr ..).mono rfl
  | laneFrameStart => exact (execLaneFrameStart_fr ..).mono rfl
  | dataFrameReceive => exact (execDataFrameReceive_fr ..).mono rfl
  | ackReceive => exact (execAckReceive_fr ..).mono rfl
  | frameResendTimeout => exact (execFrameResendTimeout_fr ..).mono rfl
  | transferReceived => exact (execTransferReceived_fr ..).mono rfl
  | transferDone => exact (execTransferDone_fr ..).mono rfl
  | reservation => exact (execReservation_fr ..).mono rfl
  | reservationBackoffEnd => exact (execReservationBackoffEnd_fr ..).mono rfl
  | grant => exact (execGrant_fr ..).mono rfl
  | ownedSlot => exact (execOwnedSlot_fr ..).mono rfl
  | memberSilent => exact (execMemberSilent_fr ..).mono rfl
  | leaderElection => exact (execLeaderElection_fr ..).mono rfl
  | handover => exact (execHandover_fr ..).mono rfl
  | c0TxArm => exact (execC0TxArm_fr ..).mono rfl
  | c0FrameReceive => exact (execC0FrameReceive_fr ..).mono rfl
  | epochChange => exact (execEpochChange_fr ..).mono rfl
  | admitFrame => exact (execAdmit_fr ..).mono rfl
  | leave => exact (execLeave_fr ..).mono rfl
  | laneDrop => exact (execLaneDrop_fr ..).mono rfl
  | lanemap => exact (execLanemap_fr ..).mono rfl
  | laneProbe => exact (execLaneProbe_fr ..).mono rfl
  | suspend => exact (execSuspend_fr ..).mono rfl
  | resume => exact (execResume_fr ..).mono rfl
  | suspensionTimeout => exact (execSuspensionTimeout_fr ..).mono rfl
  | portStart => exact (execPortStart_fr ..).mono rfl
  | portTrainingEnd => exact (execPortTrainingEnd_fr ..).mono rfl
  | admissionTimeout => exact (execAdmissionTimeout_fr ..).mono rfl
  | portStop => exact (execPortStop_fr ..).mono rfl
  | portStopped => exact (execPortStopped_fr ..).mono rfl
  | drvConfigWrite => exact (execDrvConfigWrite_fr ..).mono rfl
  | rxwinWrite => exact (execRxwinWrite_fr ..).mono rfl
  | porchWrite => exact (execPorchWrite_fr ..).mono rfl
  | porchRead => exact (execPorchRead_fr ..).mono rfl
  | modeRegisterWrite => exact (execModeRegisterWrite_fr ..).mono rfl
  | modeRegisterRead => exact (execModeRegisterRead_fr ..).mono rfl
  | hostRefresh => exact (execHostRefresh_fr ..).mono rfl
  | hostChannelReset => exact (execHostChannelReset_fr ..).mono rfl
  | sqTailWrite => exact (execSqTailWrite_fr ..).mono rfl
  | cqHeadWrite => exact (execCqHeadWrite_fr ..).mono rfl
  | mailboxReset => exact (execMailboxReset_fr ..).mono rfl
  | noticeAck => exact (execNoticeAck_fr ..).mono rfl
  | submissionTake => exact (execSubmissionTake_fr ..).mono rfl
  | completionWrite => exact (execCompletionWrite_fr ..).mono rfl
  | identify => exact (execIdentify_fr ..).mono rfl
  | status => exact (execStatus_fr ..).mono rfl
  | attest => exact (execAttest_fr ..).mono rfl
  | sessionOpen => exact (execSessionOpen_fr ..).mono rfl
  | sessionClose => exact (execSessionClose_fr ..).mono rfl
  | sessionInfo => exact (execSessionInfo_fr ..).mono rfl
  | batch => exact (execBatch_fr ..).mono rfl
  | batchAdmit => exact (execBatchAdmit_fr ..).mono rfl
  | batchEnd => exact (execBatchEnd_fr ..).mono rfl
  | batchCancel => exact (execBatchCancel_fr ..).mono rfl
  | bundleBegin => exact (execBundleBegin_fr ..).mono rfl
  | bundlePiece => exact (execBundlePiece_fr ..).mono rfl
  | bundleAbort => exact (execBundleAbort_fr ..).mono rfl
  | bayDiscard => exact (execBayDiscard_fr ..).mono rfl
  | switch => exact (execSwitch_fr ..).mono rfl
  | slotList => exact (execSlotList_fr ..).mono rfl
  | calRun => exact (execCalRun_fr ..).mono rfl
  | calStatus => exact (execCalStatus_fr ..).mono rfl
  | powerSet => exact (execPowerSet_fr ..).mono rfl
  | capacitySet => exact (execCapacitySet_fr ..).mono rfl
  | dark => exact (execDark_fr ..).mono rfl
  | unitStop => exact (execUnitStop_fr ..).mono rfl
  | unitStart => exact (execUnitStart_fr ..).mono rfl
  | cfgWrite => exact (execCfgWrite_fr ..).mono rfl
  | cfgRead => exact (execCfgRead_fr ..).mono rfl
  | herdSet => exact (execHerdSet_fr ..).mono rfl
  | eventFilter => exact (execEventFilter_fr ..).mono rfl
  | apertureWrite => exact (execApertureWrite_fr ..).mono rfl
  | rdGo => exact (execRdGo_fr ..).mono rfl
  | readerDone => exact (execReaderDone_fr ..).mono rfl
  | boot => exact (execBoot_fr ..).mono rfl
  | inboxPoll => exact (execInboxPoll_fr ..).mono rfl
  | ownerSet => exact (execOwnerSet_fr ..).mono rfl
  | keyEnrol => exact (execKeyEnrol_fr ..).mono rfl
  | keyRevoke => exact (execKeyRevoke_fr ..).mono rfl
  | rollbackCommit => exact (execRollbackCommit_fr ..).mono rfl
  | fwInstall => exact (execFwInstall_fr ..).mono rfl
  | trialTimeout => exact (execTrialTimeout_fr ..).mono rfl
  | sign => exact (execSign_fr ..).mono rfl
  | treeBuildDone => exact (execTreeBuildDone_fr ..).mono rfl
  | powerOnReset => exact (execPowerOnReset_fr ..).mono rfl
  | packageReset => exact (execPackageReset_fr ..).mono rfl
  | resetNLow => exact (execResetNLow_fr ..).mono rfl
  | pkgreset => exact (execPkgreset_fr ..).mono rfl
  | ostlerRestart => exact (execOstlerRestart_fr ..).mono rfl
  | watchdogKick => exact (execWatchdogKick_fr ..).mono rfl
  | watchdogExpiry => exact (execWatchdogExpiry_fr ..).mono rfl
  | phaseOstlerStart => exact (execPhaseOstlerStart_fr ..).mono rfl
  | phaseMemory => exact (execPhaseMemory_fr ..).mono rfl
  | phaseLight => exact (execPhaseLight_fr ..).mono rfl
  | phaseServiceReady => exact (execPhaseServiceReady_fr ..).mono rfl
  | phaseOverrun => exact (execPhaseOverrun_fr ..).mono rfl
  | serviceLevelChange => exact (execServiceLevelChange_fr ..).mono rfl
  | eventPop => exact (execEventPop_fr ..).mono rfl
  | laserEnFall => exact (execLaserEnFall_fr ..).mono rfl
  | laserEnRise => exact (execLaserEnRise_fr ..).mono rfl
  | conversion => exact (execConversion_fr ..).mono rfl
  | pbudgetSample => exact (execPbudgetSample_fr ..).mono rfl
  | hostChannelTraining => exact (execHostChannelTraining_fr ..).mono rfl
  | selfRefreshEntry => exact (execSelfRefreshEntry_fr ..).mono rfl
  | selfRefreshExit => exact (execSelfRefreshExit_fr ..).mono rfl
  | powerDownEntry => exact (execPowerDownEntry_fr ..).mono rfl
  | powerDownExit => exact (execPowerDownExit_fr ..).mono rfl
  | hostCkStart => exact (execHostCkStart_fr ..).mono rfl
  | rowActivate => exact (execRowActivate_fr ..).mono rfl

/-- No command touches the queue of waiting commands. -/
theorem pending_not_mem_footprint (c : Instr) : Comp.pending ∉ footprint c := by
  have h : (footprint c).contains .pending = false := by cases c <;> rfl
  simpa using h

/-- Settles O60: `exec_ends`, and that no footprint lists the queue. -/
theorem commandFrames : Obligations.CommandFrames := by
  have frame (c : Instr) (s : State) : ∃ t, exec c s = .next t ∧ t.pending = s.pending ∧ Touches (footprint c) s t := by
    obtain ⟨t, ht, hfr⟩ := exec_ends c s
    have htouch : Touches (footprint c) s t := hfr.touches_maskOf (by simp [sub])
    exact ⟨t, ht, htouch .pending (pending_not_mem_footprint c), htouch⟩
  refine ⟨frame, fun c q s t hq hstep => ?_⟩
  obtain ⟨u, hu, hpend, -⟩ := frame c { s with pending := q }
  rw [step_cons hq] at hstep
  have htu : Host.Outcome.next t = .next u := hstep.symm.trans hu
  cases htu
  exact hpend

/-- Settles O59, by cases on the queue: the tick with no command waiting, and the front command, each keep the invariant. -/
theorem stepKeepsInvariant : Obligations.StepKeepsInvariant := by
  intro s t hinv hstep
  match hq : s.pending with
  | [] =>
    rw [step_nil hq] at hstep
    cases hstep
    exact (tick_fr s).inv hinv
  | c :: q =>
    rw [step_cons hq] at hstep
    exact ((exec_ends c { s with pending := q }).keeps hstep).inv hinv

end Sys2Proof.Machine
end

section
/-! SUPPORT. The passing of TIME with no command waiting, and the state it all starts from. -/
namespace Sys2Proof.Machine

/-- Without work in progress the farrier does nothing of itself (R344). -/
theorem farTick_of_work_none {s : State} (h : s.far.work = none) : farTick s = s := by
  rw [farTick, h]

/-- Without power no byte of ostler memory is corrected (log entry 8). -/
theorem oceTick_of_rails_ne {s : State} (h : s.pwr.rails ≠ .valid) : oceTick s = s := if_neg h

theorem oceTick_of_rails_valid {s : State} (h : s.pwr.rails = .valid) :
    oceTick s = drawn (bumpF s Fld.ECC_OCE_COUNT (Config.oceCorrected s.freeCtr)) := if_pos h

theorem tick_of_work_none {s : State} (h : s.far.work = none) : tick s = oceTick { s with time := s.time + 1 } :=
  have hfar : (oceTick { s with time := s.time + 1 }).far = s.far := (oceTick_fr _).same .far rfl
  farTick_of_work_none ((congrArg Far.work hfar).trans h)

theorem tick_of_rails_ne {s : State} (hwork : s.far.work = none) (hrails : s.pwr.rails ≠ .valid) :
    tick s = { s with time := s.time + 1 } :=
  (tick_of_work_none hwork).trans (oceTick_of_rails_ne hrails)

theorem tick_of_rails_valid {s : State} (hwork : s.far.work = none) (hrails : s.pwr.rails = .valid) :
    tick s = drawn (bumpF { s with time := s.time + 1 } Fld.ECC_OCE_COUNT (Config.oceCorrected s.freeCtr)) :=
  (tick_of_work_none hwork).trans (oceTick_of_rails_valid hrails)

theorem tick_time (s : State) : (tick s).time = s.time + 1 :=
  ((farTick_fr _).same .time rfl).trans ((oceTick_fr _).same .time rfl)

/-- What the count of corrected bytes touches, TIME included. -/
theorem tick_touches_of_work_none {s : State} (h : s.far.work = none) : Touches [.time, .freeCtr, .regs] s (tick s) := by
  have hfr : Fr 0xe s (oceTick { s with time := s.time + 1 }) := Fr.post (oceTick_fr _) rfl (Fr.setTime _ rfl (Fr.refl _ _))
  rw [tick_of_work_none h]
  exact hfr.touches_maskOf rfl

/-- Settles O57, from the equations of `step` and what `tick` does with and without power and work of the farrier. -/
theorem stepRule : Obligations.StepRule := by
  refine ⟨fun c q s h => step_cons h, fun s h => ⟨tick s, step_nil h, tick_time s, tick_of_rails_ne, fun hwork hrails => ?_,
    (tick_fr s).touches_maskOf rfl⟩, fun n w s => ⟨rfl, rfl⟩⟩
  refine ⟨?_, fun a ha => ?_, tick_touches_of_work_none hwork⟩
  · rw [tick_of_rails_valid hwork hrails, drawn_freeCtr, bumpF_freeCtr]
  · have hne : a ≠ Fld.ECC_OCE_COUNT.reg.addr 0 0 0 := fun h => ha (List.mem_singleton.mpr h)
    rw [tick_of_rails_valid hwork hrails, rdReg_drawn, rdReg_bumpF_ne _ hne]
    exact rdReg_congr a rfl

/-- The state after reset holds the invariant: its tables are empty. -/
theorem reset_inv : State.reset.inv = true :=
  (inv_iff _).mpr ⟨nmWf_nil _, rfl, nmWf_nil _, nmWf_nil _, nmWf_nil _, nmWf_nil _, nmWf_nil _, Nat.zero_le _⟩

/-- Settles O58: no table lists anything, so a field reads its Reset column. -/
theorem resetState : Obligations.ResetState := by
  refine ⟨⟨reset_inv, rfl, rfl, rfl⟩, rfl, rfl, rfl, ?signer, ?recmax⟩
  case signer => decide +kernel
  case recmax => decide +kernel

end Sys2Proof.Machine
end

section
/-! SUPPORT. Register accesses (R9 to R15): what an access does for each target it can reach, and the two halves of a 64-bit register. -/
namespace Sys2Proof.Machine

/-! Which register an access reaches. -/

theorem visibleAt_of_regByteAt_none {req : Requester} {addr : Nat} (h : regByteAt addr = none) : visibleAt req addr = none := by
  rw [visibleAt, h]

/-- R15: a register reserved to the bridleway is visible to no requester that does not use it. -/
theorem bridle_of_visibleAt {req : Requester} {addr : Nat} {r : RegByte} (h : visibleAt req addr = some r)
    (hr : r.desc.bridleOnly = true) : req.bridle = true := by
  unfold visibleAt at h
  split at h
  · cases h
  · split at h
    · cases h
    · rename_i hvis
      cases h
      simpa [hr] using hvis

theorem visibleAt_of_hidden {req : Requester} {addr : Nat} (hreq : req.bridle = false)
    (h : ∀ r, regByteAt addr = some r → r.desc.bridleOnly = true) : visibleAt req addr = none := by
  cases hv : regByteAt addr with
  | none => exact visibleAt_of_regByteAt_none hv
  | some r => simp [visibleAt, hv, h r hv, hreq]

theorem busTarget_unassigned {req : Requester} {addr width : Nat} (h : ∀ j, j < width → visibleAt req (addr + j) = none) :
    busTarget req addr width = .unassigned := by
  have hits : (List.range width).filterMap (fun j => visibleAt req (addr + j)) = [] :=
    List.filterMap_eq_nil_iff.mpr fun j hj => h j (List.mem_range.mp hj)
  rw [busTarget, hits]

/-! Halves: what `busForget` discards and what is put beside the rest (R10). -/

theorem halfOf_forget (l : List HalfHold) (req : Requester) (addr : Nat) :
    halfOf (l.filter fun h => !(h.req == req && h.addr == addr)) req addr = none := by
  rw [halfOf, Option.map_eq_none_iff, List.find?_eq_none]
  intro h hh
  have hkept : (!(h.req == req && h.addr == addr)) = true := (List.mem_filter.mp hh).2
  rw [Bool.not_eq_true'] at hkept
  exact Bool.eq_false_iff.mp hkept

theorem halfOf_append {l : List HalfHold} {req : Requester} {addr : Nat} (v : Nat) (h : halfOf l req addr = none) :
    halfOf (l ++ [⟨req, addr, v⟩]) req addr = some v := by
  rw [halfOf, Option.map_eq_none_iff] at h
  simp [halfOf, List.find?_append, h]

theorem halfOf_held_busForget (s : State) (req : Requester) (addr : Nat) : halfOf (busForget s req addr).bus.held req addr = none :=
  halfOf_forget ..

theorem halfOf_latched_busForget (s : State) (req : Requester) (addr : Nat) :
    halfOf (busForget s req addr).bus.latched req addr = none :=
  halfOf_forget ..

@[simp] theorem setReply_held (s : State) (r : Reply) : (setReply s r).bus.held = s.bus.held := rfl

@[simp] theorem setReply_latched (s : State) (r : Reply) : (setReply s r).bus.latched = s.bus.latched := rfl

/-- A low half is held beside what is held already (R10). -/
def putHeld (s : State) (x : HalfHold) : State := { s with bus := { s.bus with held := s.bus.held ++ [x] } }

/-- A high half is latched beside what is latched already (R10). -/
def putLatched (s : State) (x : HalfHold) : State := { s with bus := { s.bus with latched := s.bus.latched ++ [x] } }

@[simp] theorem putHeld_held (s : State) (x : HalfHold) : (putHeld s x).bus.held = s.bus.held ++ [x] := rfl

@[simp] theorem putHeld_latched (s : State) (x : HalfHold) : (putHeld s x).bus.latched = s.bus.latched := rfl

@[simp] theorem putLatched_latched (s : State) (x : HalfHold) : (putLatched s x).bus.latched = s.bus.latched ++ [x] := rfl

@[simp] theorem rdReg_putLatched (s : State) (x : HalfHold) (a : Nat) : rdReg (putLatched s x) a = rdReg s a := rfl

theorem putHeld_fr (s : State) (x : HalfHold) : Fr 0x10 s (putHeld s x) := Fr.setBus _ rfl (Fr.refl _ _)

theorem putLatched_fr (s : State) (x : HalfHold) : Fr 0x10 s (putLatched s x) := Fr.setBus _ rfl (Fr.refl _ _)

/-! What a write, and what a read, does at each target. -/

section
variable {s : State} {req : Requester} {addr width : Nat} {r : RegByte}

theorem busWrite_unassigned (v : Nat) (h : busTarget req addr width = .unassigned) : busWrite s req addr width v = setReply s .done := by
  rw [busWrite, h]

theorem busWrite_bad (v : Nat) (h : busTarget req addr width = .bad) :
    busWrite s req addr width v = setReply (busTouch s req addr width) .busError := by
  rw [busWrite, h]

theorem busWrite_whole (v : Nat) (h : busTarget req addr width = .whole r) :
    busWrite s req addr width v = setReply (regWrite (busForget s req r.addr) req r v) .done := by
  rw [busWrite, h]

theorem busRead_unassigned (h : busTarget req addr width = .unassigned) : busRead s req addr width = setReply s (.data 0) := by
  rw [busRead, h]

theorem busRead_bad (h : busTarget req addr width = .bad) :
    busRead s req addr width = setReply (busTouch s req addr width) .busError := by
  rw [busRead, h]

theorem busRead_whole (h : busTarget req addr width = .whole r) :
    busRead s req addr width
      = setReply (readClear (busForget s req r.addr) r) (.data (regValue s r.desc r.w r.i r.k)) := by
  rw [busRead, h]

theorem busWrite_low (v : Nat) (h : busTarget req addr 4 = .half r false) :
    busWrite s req addr 4 v = setReply (putHeld (busForget s req r.addr) ⟨req, r.addr, v % 2 ^ 32⟩) .done := by
  rw [busWrite, h]
  rfl

theorem busWrite_high_unheld (v : Nat) (h : busTarget req addr 4 = .half r true) (hheld : halfOf s.bus.held req r.addr = none) :
    busWrite s req addr 4 v = setReply (busForget s req r.addr) .busError := by
  simp only [busWrite, h, hheld, if_true]

theorem busWrite_high_held {lo : Nat} (v : Nat) (h : busTarget req addr 4 = .half r true)
    (hheld : halfOf s.bus.held req r.addr = some lo) :
    busWrite s req addr 4 v = setReply (regWrite (busForget s req r.addr) req r (lo + v % 2 ^ 32 * 2 ^ 32)) .done := by
  simp only [busWrite, h, hheld, if_true]

theorem busRead_low (h : busTarget req addr 4 = .half r false) :
    busRead s req addr 4 = setReply
      (putLatched (readClear (busForget s req r.addr) r) ⟨req, r.addr, regValue s r.desc r.w r.i r.k / 2 ^ 32⟩)
      (.data (regValue s r.desc r.w r.i r.k % 2 ^ 32)) := by
  rw [busRead, h]
  rfl

theorem busRead_high (h : busTarget req addr 4 = .half r true) :
    busRead s req addr 4 = setReply (busForget s req r.addr)
      (.data ((halfOf s.bus.latched req r.addr).getD (regValue s r.desc r.w r.i r.k / 2 ^ 32))) := by
  rw [busRead, h]
  rfl

end

/-! The fields of a register under a write and a read. -/

theorem rdReg_writeFields_same (s : State) (r : RegByte) (v : W64) : rdReg (writeFields s r v) r.addr
    = (rdReg s r.addr &&& ~~~r.rwBits &&& ~~~(v &&& BitVec.ofNat 64 r.desc.w1c)) ||| (v &&& r.rwBits) :=
  rdReg_wrReg_same ..

theorem rdReg_readClear_same (s : State) (r : RegByte) :
    rdReg (readClear s r) r.addr = rdReg s r.addr &&& ~~~(BitVec.ofNat 64 r.desc.rc) := by
  unfold readClear
  split
  · next h =>
    have hall : ~~~BitVec.ofNat 64 r.desc.rc = BitVec.allOnes 64 := by rw [h]; rfl
    rw [hall, BitVec.and_allOnes]
  · exact rdReg_wrReg_same ..

@[simp] theorem writeFields_bus (s : State) (r : RegByte) (v : W64) : (writeFields s r v).bus = s.bus := wrReg_bus ..

@[simp] theorem readClear_bus (s : State) (r : RegByte) : (readClear s r).bus = s.bus := (readClear_fr s r).same .bus rfl

/-! The registers that a write changes: by the access codes (R11), and for the farrier and the light block (R24). -/

section
variable {req : Requester} {r : RegByte}

/-- R11: a register without an action of its own takes the value by its access codes, whoever may write it. -/
theorem regWrite_eq_writeFields (s : State) (v : Nat) (hlight : req ≠ .light)
    (hfar : req = .farrier → farrierTarget r = true ∧ r.desc.is Reg.STL_CFG = false) (hact : writeAct r.desc = none)
    (hblk : r.desc.blk ≠ 8) : regWrite s req r v = writeFields s r (BitVec.ofNat 64 v) := by
  have hany (q : Requester) : regWriteAny s q r v = writeFields s r (BitVec.ofNat 64 v) := by
    rw [regWriteAny, if_neg fun h => hblk h.1, hact]
  cases req with
  | light => exact absurd rfl hlight
  | farrier =>
    obtain ⟨htarget, hcfg⟩ := hfar rfl
    have hvalue : farrierValue s r v = v := by simp [farrierValue, hcfg]
    rw [regWrite, if_pos htarget, hvalue, hany]
  | _ => exact hany _

/-- R24, log entry 184: the farrier and the light block change no other register. -/
theorem regWrite_of_not_theirs (s : State) (v : Nat)
    (h : (req = .farrier ∧ farrierTarget r = false) ∨ (req = .light ∧ r.desc.is Reg.STL_ID = false
      ∧ r.desc.is Reg.LTE_RING_CFG = false ∧ r.desc.is Reg.LTE_SPARES = false)) : regWrite s req r v = s := by
  obtain ⟨rfl, htarget⟩ | ⟨rfl, hid, hring, hspares⟩ := h
  · simp [regWrite, htarget]
  · simp [regWrite, lightWrite, hid, hring, hspares]

end

/-- Which register a description is of does not depend on which description of it is asked. -/
theorem RegDesc.is_congr {d e : RegDesc} (h : d.is e = true) (f : RegDesc) : d.is f = e.is f := by
  simp only [RegDesc.is, Bool.and_eq_true, beq_iff_eq] at h
  obtain ⟨⟨hblk, hlo⟩, hoff⟩ := h
  rw [RegDesc.is, RegDesc.is, hblk, hlo, hoff]

section
variable (s : State) {r : RegByte} (v : Nat)

theorem lightWrite_stlId (h : r.desc.is Reg.STL_ID = true) :
    lightWrite s r v = setF s Fld.STL_ID_LINE (bitsOf v Fld.STL_ID_LINE.lo Fld.STL_ID_LINE.len) r.w :=
  if_pos h

theorem lightWrite_ringCfg (h : r.desc.is Reg.LTE_RING_CFG = true) :
    lightWrite s r v = setF s Fld.LTE_RING_CFG_LINE (v % 64) 0 r.i := by
  have hid : r.desc.is Reg.STL_ID = false := RegDesc.is_congr h _
  simp [lightWrite, hid, h]

theorem lightWrite_spares (h : r.desc.is Reg.LTE_SPARES = true) :
    lightWrite s r v = wrReg s r.addr (BitVec.ofNat 64 (v % 2 ^ 16)) := by
  have hid : r.desc.is Reg.STL_ID = false := RegDesc.is_congr h _
  have hring : r.desc.is Reg.LTE_RING_CFG = false := RegDesc.is_congr h _
  simp [lightWrite, hid, hring, h]

end

/-! Frames of an access: of a state reached from `s` by an access of `req`, what is as in `s`. -/

theorem only_wrReg (s : State) (a : Nat) (v : W64) : Only rdReg [a] s (wrReg s a v) :=
  fun _ hb => rdReg_wrReg_ne s v fun h => hb (List.mem_singleton.mpr h)

theorem only_setF (s : State) (f : Field) (x w i k : Nat) : Only rdReg [f.reg.addr w i k] s (setF s f x w i k) := only_wrReg _ _ _

theorem only_writeFields (s : State) (r : RegByte) (v : W64) : Only rdReg [r.addr] s (writeFields s r v) := only_wrReg _ _ _

theorem only_readClear (s : State) (r : RegByte) : Only rdReg [r.addr] s (readClear s r) := by
  unfold readClear
  split
  · exact fun _ _ => rfl
  · exact only_wrReg _ _ _

theorem Only.putLatched {l : List Nat} {s t : State} (x : HalfHold) (h : Only rdReg l s t) : Only rdReg l s (putLatched t x) := h

/-- Forgetting halves and replying changes no register. -/
theorem Only.access {l : List Nat} {s t : State} {req : Requester} {a : Nat} (rep : Reply) (h : Only rdReg l (busForget s req a) t) :
    Only rdReg l s (setReply t rep) := fun b hb => by
  rw [rdReg_setReply, h b hb, rdReg_busForget]

theorem touches_bus {s t : State} {req : Requester} {a : Nat} (rep : Reply) (h : Fr 0x10 (busForget s req a) t) :
    Touches [.bus] s (setReply t rep) :=
  (Fr.post (setReply_fr t rep) rfl (Fr.post h rfl (busForget_fr s req a))).touches_maskOf rfl

theorem touches_regs_bus {s t : State} {req : Requester} {a : Nat} (rep : Reply) (h : Fr 0x18 (busForget s req a) t) :
    Touches [.regs, .bus] s (setReply t rep) :=
  Fr.touches_maskOf (m := 0x18) (Fr.post (setReply_fr t rep) rfl (Fr.post h rfl ((busForget_fr s req a).mono rfl))) rfl

/-! The clauses of R9 to R15, one lemma for each command and target. -/
section
variable {s : State} {req : Requester} {addr : BitVec 48} {w : Fin 65} {r : RegByte}

/-- R14: nothing visible is reached. -/
theorem access_unassigned (v : W64) (h : ∀ j, j < w.val → visibleAt req (addr.toNat + j) = none) :
    (∃ t, exec (.registerWrite req addr w v) s = .next t ∧ t.bus = { s.bus with reply := .done } ∧ Touches [.bus] s t)
    ∧ (∃ t, exec (.rcRead req addr w) s = .next t ∧ t.bus = { s.bus with reply := .data 0 } ∧ Touches [.bus] s t) := by
  have htarget := busTarget_unassigned h
  refine ⟨⟨_, rfl, ?_⟩, ⟨_, rfl, ?_⟩⟩
  · rw [busWrite_unassigned _ htarget]
    exact ⟨rfl, (setReply_fr ..).touches_maskOf rfl⟩
  · rw [busRead_unassigned htarget]
    exact ⟨rfl, (setReply_fr ..).touches_maskOf rfl⟩

/-- R9: an access of the wrong width or alignment. -/
theorem access_bad (v : W64) (h : busTarget req addr.toNat w = .bad) :
    (∃ t, exec (.registerWrite req addr w v) s = .next t ∧ t.bus.reply = .busError ∧ Touches [.bus] s t)
    ∧ (∃ t, exec (.rcRead req addr w) s = .next t ∧ t.bus.reply = .busError ∧ Touches [.bus] s t) := by
  have htouch : Touches [.bus] s (setReply (busTouch s req addr.toNat w) .busError) :=
    (Fr.post (setReply_fr ..) rfl (busTouch_fr ..)).touches_maskOf rfl
  refine ⟨⟨_, rfl, ?_⟩, ⟨_, rfl, ?_⟩⟩
  · rw [busWrite_bad _ h]
    exact ⟨rfl, htouch⟩
  · rw [busRead_bad h]
    exact ⟨rfl, htouch⟩

/-- R11, R13: what a write by the access codes leaves, after the requester's halves are discarded. -/
theorem setReply_writeFields (s : State) (req : Requester) (r : RegByte) (v : W64) (rep : Reply) :
    rdReg (setReply (writeFields (busForget s req r.addr) r v) rep) r.addr
      = (rdReg s r.addr &&& ~~~r.rwBits &&& ~~~(v &&& BitVec.ofNat 64 r.desc.w1c)) ||| (v &&& r.rwBits)
    ∧ Only rdReg [r.addr] s (setReply (writeFields (busForget s req r.addr) r v) rep)
    ∧ Touches [.regs, .bus] s (setReply (writeFields (busForget s req r.addr) r v) rep) := by
  refine ⟨?_, (only_writeFields _ _ _).access rep, touches_regs_bus rep ((writeFields_fr ..).mono rfl)⟩
  rw [rdReg_setReply, rdReg_writeFields_same, rdReg_busForget]

theorem registerWrite_fields (v : W64) (h : busTarget req addr.toNat w = .whole r) (hlight : req ≠ .light)
    (hfar : req = .farrier → farrierTarget r = true ∧ r.desc.is Reg.STL_CFG = false) (hact : writeAct r.desc = none)
    (hblk : r.desc.blk ≠ 8) :
    ∃ t, exec (.registerWrite req addr w v) s = .next t ∧ t.bus.reply = .done
    ∧ rdReg t r.addr = (rdReg s r.addr &&& ~~~r.rwBits &&& ~~~(v &&& BitVec.ofNat 64 r.desc.w1c)) ||| (v &&& r.rwBits)
    ∧ Only rdReg [r.addr] s t ∧ Touches [.regs, .bus] s t := by
  refine ⟨_, rfl, ?_⟩
  rw [busWrite_whole _ h, regWrite_eq_writeFields _ _ hlight hfar hact hblk, BitVec.ofNat_toNat, BitVec.setWidth_eq]
  exact ⟨rfl, setReply_writeFields ..⟩

theorem registerWrite_not_theirs (v : W64) (h : busTarget req addr.toNat w = .whole r)
    (hreq : (req = .farrier ∧ farrierTarget r = false)
      ∨ (req = .light ∧ r.desc.is Reg.STL_ID = false ∧ r.desc.is Reg.LTE_RING_CFG = false ∧ r.desc.is Reg.LTE_SPARES = false)) :
    ∃ t, exec (.registerWrite req addr w v) s = .next t ∧ t.bus.reply = .done ∧ Touches [.bus] s t := by
  refine ⟨_, rfl, ?_⟩
  rw [busWrite_whole _ h, regWrite_of_not_theirs _ _ hreq]
  exact ⟨rfl, touches_bus _ (Fr.refl _ _)⟩

/-- R24: each register that the light block writes takes the written field, and no other register changes. -/
theorem registerWrite_light (v : W64) (h : busTarget .light addr.toNat w = .whole r) :
    ∃ t, exec (.registerWrite .light addr w v) s = .next t ∧ t.bus.reply = .done ∧ Touches [.regs, .bus] s t
    ∧ (r.desc.is Reg.LTE_SPARES = true → rdReg t r.addr = BitVec.ofNat 64 (v.toNat % 2 ^ 16) ∧ Only rdReg [r.addr] s t)
    ∧ (r.desc.is Reg.LTE_RING_CFG = true → getF t Fld.LTE_RING_CFG_LINE 0 r.i = v.toNat % 64
      ∧ Only rdReg [Reg.LTE_RING_CFG.addr 0 r.i 0] s t)
    ∧ (r.desc.is Reg.STL_ID = true → getF t Fld.STL_ID_LINE r.w = bitsOf v.toNat Fld.STL_ID_LINE.lo Fld.STL_ID_LINE.len
      ∧ Only rdReg [Reg.STL_ID.addr r.w 0 0] s t) := by
  refine ⟨_, rfl, ?_⟩
  rw [busWrite_whole _ h, regWrite]
  refine ⟨rfl, touches_regs_bus _ ((lightWrite_fr ..).mono rfl), fun hd => ?_, fun hd => ?_, fun hd => ?_⟩
  · rw [lightWrite_spares _ _ hd, rdReg_setReply, rdReg_wrReg_same]
    exact ⟨rfl, (only_wrReg _ _ _).access _⟩
  · rw [lightWrite_ringCfg _ _ hd, getF_setReply, getF_setF_same _ _ _ _ _ (by decide)]
    exact ⟨Nat.mod_mod _ _, (only_setF _ Fld.LTE_RING_CFG_LINE _ 0 r.i 0).access _⟩
  · rw [lightWrite_stlId _ _ hd, getF_setReply, getF_setF_same _ _ _ _ _ (by decide)]
    exact ⟨Nat.mod_mod _ _, (only_setF _ Fld.STL_ID_LINE _ r.w 0 0).access _⟩

theorem rcRead_whole (h : busTarget req addr.toNat w = .whole r) :
    ∃ t, exec (.rcRead req addr w) s = .next t ∧ t.bus.reply = .data (regValue s r.desc r.w r.i r.k)
    ∧ rdReg t r.addr = rdReg s r.addr &&& ~~~(BitVec.ofNat 64 r.desc.rc) ∧ Only rdReg [r.addr] s t ∧ Touches [.regs, .bus] s t := by
  refine ⟨_, rfl, ?_⟩
  rw [busRead_whole h, rdReg_setReply, rdReg_readClear_same, rdReg_busForget]
  exact ⟨rfl, rfl, (only_readClear _ _).access _, touches_regs_bus _ ((readClear_fr ..).mono rfl)⟩

theorem lowHalfWrite_half (v : W32) (h : busTarget req addr.toNat 4 = .half r false) :
    ∃ t, exec (.lowHalfWrite req addr v) s = .next t ∧ t.bus.reply = .done ∧ halfOf t.bus.held req r.addr = some v.toNat
    ∧ halfOf t.bus.latched req r.addr = none ∧ Touches [.bus] s t := by
  refine ⟨_, rfl, ?_⟩
  rw [busWrite_low _ h, Nat.mod_eq_of_lt v.isLt, setReply_held, putHeld_held, setReply_latched, putHeld_latched]
  exact ⟨rfl, halfOf_append _ (halfOf_held_busForget ..), halfOf_latched_busForget .., touches_bus _ (putHeld_fr ..)⟩

theorem highHalfWrite_unheld (v : W32) (h : busTarget req (addr.toNat + 4) 4 = .half r true)
    (hheld : halfOf s.bus.held req r.addr = none) :
    ∃ t, exec (.highHalfWrite req addr v) s = .next t ∧ t.bus.reply = .busError ∧ Touches [.bus] s t := by
  refine ⟨_, rfl, ?_⟩
  rw [busWrite_high_unheld _ h hheld]
  exact ⟨rfl, touches_bus _ (Fr.refl _ _)⟩

theorem highHalfWrite_held (v : W32) {lo : Nat} (h : busTarget req (addr.toNat + 4) 4 = .half r true)
    (hheld : halfOf s.bus.held req r.addr = some lo) (hlight : req ≠ .light)
    (hfar : req = .farrier → farrierTarget r = true ∧ r.desc.is Reg.STL_CFG = false) (hact : writeAct r.desc = none)
    (hblk : r.desc.blk ≠ 8) :
    ∃ t, exec (.highHalfWrite req addr v) s = .next t ∧ t.bus.reply = .done ∧ halfOf t.bus.held req r.addr = none
    ∧ rdReg t r.addr = (rdReg s r.addr &&& ~~~r.rwBits
      &&& ~~~(BitVec.ofNat 64 (lo + v.toNat * 2 ^ 32) &&& BitVec.ofNat 64 r.desc.w1c)) ||| (BitVec.ofNat 64 (lo + v.toNat * 2 ^ 32) &&&
        r.rwBits)
    ∧ Only rdReg [r.addr] s t ∧ Touches [.regs, .bus] s t := by
  refine ⟨_, rfl, ?_⟩
  rw [busWrite_high_held _ h hheld, regWrite_eq_writeFields _ _ hlight hfar hact hblk, Nat.mod_eq_of_lt v.isLt, setReply_held,
    writeFields_bus]
  exact ⟨rfl, halfOf_held_busForget .., setReply_writeFields ..⟩

theorem lowHalfRead_half (h : busTarget req addr.toNat 4 = .half r false) :
    ∃ t, exec (.lowHalfRead req addr) s = .next t ∧ t.bus.reply = .data (regValue s r.desc r.w r.i r.k % 2 ^ 32)
    ∧ halfOf t.bus.latched req r.addr = some (regValue s r.desc r.w r.i r.k / 2 ^ 32)
    ∧ rdReg t r.addr = rdReg s r.addr &&& ~~~(BitVec.ofNat 64 r.desc.rc) ∧ Only rdReg [r.addr] s t ∧ Touches [.regs, .bus] s t := by
  refine ⟨_, rfl, ?_⟩
  rw [busRead_low h, setReply_latched, putLatched_latched, readClear_bus, rdReg_setReply, rdReg_putLatched, rdReg_readClear_same,
    rdReg_busForget]
  exact ⟨rfl, halfOf_append _ (halfOf_latched_busForget ..), rfl, ((only_readClear _ _).putLatched _).access _,
    touches_regs_bus _ (Fr.post (putLatched_fr ..) rfl ((readClear_fr ..).mono rfl))⟩

theorem highHalfRead_latched {v : Nat} (h : busTarget req (addr.toNat + 4) 4 = .half r true)
    (hlatched : halfOf s.bus.latched req r.addr = some v) :
    ∃ t, exec (.highHalfRead req addr) s = .next t ∧ t.bus.reply = .data v ∧ halfOf t.bus.latched req r.addr = none
    ∧ Touches [.bus] s t := by
  refine ⟨_, rfl, ?_⟩
  rw [busRead_high h, hlatched, setReply_latched]
  exact ⟨rfl, halfOf_latched_busForget .., touches_bus _ (Fr.refl _ _)⟩

theorem highHalfRead_unlatched (h : busTarget req (addr.toNat + 4) 4 = .half r true)
    (hlatched : halfOf s.bus.latched req r.addr = none) :
    ∃ t, exec (.highHalfRead req addr) s = .next t
    ∧ t.bus.reply = .data (regValue s r.desc r.w r.i r.k / 2 ^ 32) ∧ Touches [.bus] s t := by
  refine ⟨_, rfl, ?_⟩
  rw [busRead_high h, hlatched]
  exact ⟨rfl, touches_bus _ (Fr.refl _ _)⟩

end

/-- Settles O43, one lemma for each target that `busTarget` can find. -/
theorem registerAccess : Obligations.RegisterAccess :=
  ⟨fun _ _ _ v _ h => access_unassigned v h,
   fun _ _ _ v _ h => access_bad v h,
   fun _ _ => ⟨fun _ => bridle_of_visibleAt, visibleAt_of_regByteAt_none⟩,
   fun _ _ _ v _ _ h => registerWrite_fields v h,
   fun _ _ _ v _ _ h => registerWrite_not_theirs v h,
   fun _ _ v _ _ h => registerWrite_light v h,
   fun _ _ _ _ _ h => rcRead_whole h,
   fun _ _ v _ _ h => lowHalfWrite_half v h,
   fun _ _ v _ _ h => highHalfWrite_unheld v h,
   fun _ _ v _ _ _ h => highHalfWrite_held v h,
   fun _ _ _ _ h => lowHalfRead_half h,
   fun _ _ _ _ _ h => highHalfRead_latched h,
   fun _ _ _ _ h => highHalfRead_unlatched h⟩

end Sys2Proof.Machine
end

section
/-! SUPPORT. R15: what a requester that does not use the bridleway finds at a configuration register, and at a row that writes one. -/
namespace Sys2Proof.Machine

section
variable {req : Requester} (h : req.bridle = false)
include h

/-- Every row that writes a configuration register asks first whether its requester uses the bridleway. -/
theorem next_of_hidden (r : Res) (s : State) : (if req.bridle then r else .next s) = .next s :=
  if_neg (Bool.eq_false_iff.mp h)

theorem pkgreset_of_hidden (key : BitVec 8) (s : State) : exec (.pkgreset req key) s = .next s :=
  congrArg Host.Outcome.next (if_neg fun hk => Bool.eq_false_iff.mp h hk.1)

theorem watchdogKick_of_hidden (s : State) : exec (.watchdogKick req) s = .next s :=
  congrArg Host.Outcome.next (if_neg (Bool.eq_false_iff.mp h))

end

/-- Settles O56: hidden bytes are not visible, so an access to them alone is one to an unassigned location; the rows, in the order of
the statement, answer the state as it is. -/
theorem configurationHidden : Obligations.ConfigurationHidden := by
  refine ⟨fun req addr w v s hreq hidden => access_unassigned v fun j hj => visibleAt_of_hidden hreq fun r => hidden j r hj,
    fun req s hreq => ?_⟩
  have row {r : Res} : (if req.bridle then r else .next s) = .next s := next_of_hidden hreq r s
  exact ⟨
    -- the stalls, sheds, shunters and sidings
    fun _ _ => row, fun _ _ => row, fun _ => row, fun _ _ _ => row, fun _ _ _ => row, fun _ _ => row, fun _ _ _ _ => row,
    -- the memory tiers and their integrity
    fun _ _ => row, fun _ _ => row, fun _ => row, fun _ _ _ => row, row, row, row,
    -- the loft
    fun _ _ => row, fun _ => row, fun _ _ => row, fun _ _ => row,
    -- the light block
    fun _ _ _ => row, fun _ _ _ => row, row, fun _ _ => row, fun _ => row, fun _ => row, fun _ => row, fun _ _ => row,
    -- the monitor converters and trim DACs
    fun _ => row, fun _ => row, fun _ => row, fun _ _ _ => row, fun _ _ _ _ => row,
    -- the rein engine
    fun _ => row, fun _ => row, fun _ _ _ => row, fun _ _ => row,
    -- the farrier
    row, row, row, fun _ => row, fun _ => row, fun _ _ => row,
    -- the Droveway
    fun _ _ => row, fun _ => row, fun _ => row, fun _ _ => row,
    -- the resets and the watchdog
    fun key => pkgreset_of_hidden hreq key s, watchdogKick_of_hidden hreq s⟩

end Sys2Proof.Machine
end

section
/-! SUPPORT. Loading, committing and refreshing (R75 to R84): what the commands leave of a stall's record, its two hold nodes, and the
frames of an operation that replaces one record. -/
namespace Sys2Proof.Machine

/-! Frames: an operation that reaches no stall record, and one that replaces one. -/

theorem Only.trans {α : Type} {f : State → Nat → α} {l : List Nat} {s t u : State} (h : Only f l s t) (h' : Only f l t u) :
    Only f l s u := fun k hk => (h' k hk).trans (h k hk)

/-- An operation whose mask leaves the stall records alone. -/
theorem Fr.getStall_eq {m : Nat} {s t : State} (h : Fr m s t) (hm : m.testBit Comp.stall.idx = false) (k : Nat) :
    getStall t k = getStall s k :=
  getStall_congr k (h.same .stall hm)

theorem Fr.only_getStall {m : Nat} {s t : State} (h : Fr m s t) (hm : m.testBit Comp.stall.idx = false) (l : List Nat) :
    Only getStall l s t := fun k _ => h.getStall_eq hm k

theorem only_putStall (s : State) (k : Nat) (x : Stall) : Only getStall [k] s (putStall s k x) :=
  fun _ hb => getStall_putStall_ne s k x fun h => hb (List.mem_singleton.mpr h)

/-- The frame of a command that replaces the record of stall `k` and does nothing else. -/
theorem putStall_frame (s : State) (k : Nat) (x : Stall) :
    Only getStall [k] s (putStall s k x) ∧ Touches [.stall] s (putStall s k x) :=
  ⟨only_putStall s k x, (putStall_fr s k x).touches_maskOf rfl⟩

/-- The frame of a command that counts in one field of a register of stall `k` and replaces the stall's record. -/
theorem putStall_bumpF_frame (s : State) (f : Field) (n k : Nat) (x : Stall) :
    Only getStall [k] s (putStall (bumpF s f n k) k x) ∧ Only rdReg [f.reg.addr k 0 0] s (putStall (bumpF s f n k) k x)
    ∧ Touches [.regs, .stall] s (putStall (bumpF s f n k) k x) := by
  have hcount : Fr 0x8 s (bumpF s f n k) := bumpF_fr ..
  refine ⟨(hcount.only_getStall rfl _).trans (only_putStall _ _ _), fun b hb => ?_,
    (Fr.post (putStall_fr ..) rfl (hcount.mono rfl) : Fr 0x88 s _).touches_maskOf rfl⟩
  rw [rdReg_putStall]
  exact rdReg_bumpF_ne s fun h => hb (List.mem_singleton.mpr h)

/-! The hold nodes (R76): which node is written, and which the crossbar sees. -/

theorem Stall.setNode_eq (x : Stall) (b : Bool) (n : HoldNode) :
    x.setNode b n = { x with nodeA := if b then x.nodeA else n, nodeB := if b then n else x.nodeB } := by
  cases b <;> rfl

theorem Stall.active_setNode_not (x : Stall) (n : HoldNode) : (x.setNode (!x.activeB) n).active = x.active := by
  rw [setNode_eq]
  cases h : x.activeB <;> simp [active, h]

theorem Stall.idle_setNode_not (x : Stall) (n : HoldNode) : (x.setNode (!x.activeB) n).idle = n := by
  rw [setNode_eq]
  cases h : x.activeB <;> simp [idle]

/-- A commit exchanges the nodes without writing either (R77). -/
theorem Stall.swap_nodes (x : Stall) (aw : Bool) (q : Nat) :
    ({ x with activeB := !x.activeB, awaiting := aw, actSeq := q } : Stall).active = x.idle
    ∧ ({ x with activeB := !x.activeB, awaiting := aw, actSeq := q } : Stall).idle = x.active := by
  cases h : x.activeB <;> simp [active, idle, h]

/-! The commands of the load path, each with the state it answers where its rule lets it act. -/
section
variable {s : State} {k : Fin 16}

theorem loadAccept_next {tl : Tile} {rest : List Tile} (hbuf : (getStall s k).buffer = tl :: rest)
    (hacc : (getStall s k).accepts = true) (hroom : (getStall s k).staged.length < 2) :
    exec (.loadAccept k) s = .next (putStall (bumpF s Fld.STL_WUFL_COUNT (weightUnderflows tl) k) k
      { getStall s k with
        buffer := rest
        staged := (getStall s k).staged ++ [formTile s k ((getStall s k).tilesIn - rest.length) tl] }) := by
  simp [exec, execLoadAccept, hbuf, hacc, hroom]

theorem stringCyclesStart_next (hacc : (getStall s k).accepts = true) (hfar : (getStall s k).farOwns = false)
    (hfree : (getStall s k).strings = .free) (hawait : (getStall s k).awaiting = false) (hdue : (getStall s k).active.due = false)
    (hstaged : (getStall s k).staged ≠ []) :
    exec (.stringCyclesStart k) s = .next (putStall s k
      (({ getStall s k with strings := .load } : Stall).setNode (!(getStall s k).activeB) {})) := by
  simp [exec, execStringCyclesStart, hacc, hfar, hfree, hawait, hdue, hstaged]

theorem loadComplete_next {nt : NodeTile} {rest : List NodeTile} (hload : (getStall s k).strings = .load)
    (hstaged : (getStall s k).staged = nt :: rest) :
    exec (.loadComplete k) s = .next (putStall s k
      (({ getStall s k with strings := .free, staged := rest, awaiting := true } : Stall).setNode (!(getStall s k).activeB)
        { loaded := true, tile := nt })) := by
  simp [exec, execLoadComplete, hload, hstaged]

theorem commit_next (hawait : (getStall s k).awaiting = true) (hcursor : (getStall s k).idle.tile.seq ≤ (getStall s k).cursor)
    (hissue : (getStall s k).issue.all (fun o => decide ((getStall s k).idle.tile.seq ≤ o.tileSeq)) = true)
    (hretry : (getStall s k).retries = []) (hmod : (getStall s k).modulating = false) (hfar : (getStall s k).farOwns = false)
    (hst : (getStall s k).state = .run ∨ (getStall s k).state = .stopping) :
    exec (.commit k) s = .next (putStall s k
      { getStall s k with
        activeB := !(getStall s k).activeB, awaiting := false, actSeq := (getStall s k).idle.tile.seq }) := by
  simp only [exec, execCommit]
  rw [if_pos ⟨hawait, hcursor, hissue, hretry, by simp [hmod], by simp [hfar], hst⟩]

end

/-- Settles O1, one command after the other, each from the state it answers. -/
theorem stallLoad : Obligations.StallLoad := by
  refine ⟨fun k s tl rest hbuf hacc hroom => ?loadAccept, fun k s hacc hfar hfree hawait hdue hstaged => ?stringCyclesStart,
    fun k s nt rest hload hstaged => ?loadComplete, fun k s hawait hcursor hissue hretry hmod hfar hst => ?commit⟩
  case loadAccept =>
    refine ⟨_, loadAccept_next hbuf hacc hroom, ?_⟩
    rw [getStall_putStall_same, getF_putStall]
    exact ⟨rfl, rfl, getF_bumpF_same s _ _ _ _ (by decide), putStall_bumpF_frame ..⟩
  case stringCyclesStart =>
    refine ⟨_, stringCyclesStart_next hacc hfar hfree hawait hdue hstaged, ?_⟩
    rw [getStall_putStall_same]
    refine ⟨?_, Stall.idle_setNode_not _ _, Stall.active_setNode_not { getStall s k with strings := .load } _, ?_,
      putStall_frame ..⟩ <;> rw [Stall.setNode_eq]
  case loadComplete =>
    refine ⟨_, loadComplete_next hload hstaged, ?_⟩
    rw [getStall_putStall_same]
    refine ⟨?_, ?_, ?_, Stall.idle_setNode_not _ _,
      Stall.active_setNode_not { getStall s k with strings := .free, staged := rest, awaiting := true } _, putStall_frame ..⟩ <;>
      rw [Stall.setNode_eq]
  case commit =>
    refine ⟨_, commit_next hawait hcursor hissue hretry hmod hfar hst, ?_⟩
    rw [getStall_putStall_same]
    obtain ⟨hactive, hidle⟩ := (getStall s k).swap_nodes false (getStall s k).idle.tile.seq
    exact ⟨hactive, hidle, rfl, rfl, putStall_frame ..⟩

section
variable {s : State} {k : Fin 16}

theorem holdRefreshDue_next {b : Bool} {e : Nat} (href : (getStall s k).refreshed b = true)
    (hdue : refreshInterval (getStall s k).band ≤ e + 48) :
    exec (.holdRefreshDue k b e) s = .next (putStall s k ((getStall s k).setNode b
      { (if b then (getStall s k).nodeB else (getStall s k).nodeA) with due := true })) := by
  simp only [exec, execHoldRefreshDue]
  rw [if_pos ⟨href, hdue⟩]

theorem holdRefreshStart_active (hfree : (getStall s k).strings = .free) (hfar : (getStall s k).farOwns = false)
    (hdue : (getStall s k).active.due = true) (href : (getStall s k).refreshed (getStall s k).activeB = true) :
    exec (.holdRefreshStart k) s = .next (putStall s k { getStall s k with strings := .refresh (getStall s k).activeB }) := by
  simp [exec, execHoldRefreshStart, hfree, hfar, hdue, href]

theorem holdRefreshStart_idle (hfree : (getStall s k).strings = .free) (hfar : (getStall s k).farOwns = false)
    (hactive : (getStall s k).active.due = false) (hdue : (getStall s k).idle.due = true)
    (href : (getStall s k).refreshed (!(getStall s k).activeB) = true) :
    exec (.holdRefreshStart k) s = .next (putStall s k { getStall s k with strings := .refresh (!(getStall s k).activeB) }) := by
  simp [exec, execHoldRefreshStart, hfree, hfar, hactive, hdue, href]

theorem holdRefreshEnd_next {b : Bool} (h : (getStall s k).strings = .refresh b) :
    exec (.holdRefreshEnd k) s = .next (putStall s k (({ getStall s k with strings := .free } : Stall).setNode b
      { (if b then (getStall s k).nodeB else (getStall s k).nodeA) with due := false })) := by
  simp [exec, execHoldRefreshEnd, h]

end

/-- Settles O2: a refresh writes the one node that the command names, in either of its two places. -/
theorem holdRefresh : Obligations.HoldRefresh := by
  refine ⟨fun k b e s href hdue => ?due, fun k s hfree hfar hdue href => ?active, fun k s hfree hfar hactive hdue href => ?idle,
    fun k b s h => ?ends, fun k a b s => ?band⟩
  case due =>
    refine ⟨_, holdRefreshDue_next href hdue, ?_⟩
    rw [getStall_putStall_same, Stall.setNode_eq]
    cases b <;> exact ⟨rfl, rfl, putStall_frame ..⟩
  case active =>
    refine ⟨_, holdRefreshStart_active hfree hfar hdue href, ?_⟩
    rw [getStall_putStall_same]
    exact ⟨rfl, putStall_frame ..⟩
  case idle =>
    refine ⟨_, holdRefreshStart_idle hfree hfar hactive hdue href, ?_⟩
    rw [getStall_putStall_same]
    exact ⟨rfl, putStall_frame ..⟩
  case ends =>
    refine ⟨_, holdRefreshEnd_next h, ?_⟩
    rw [getStall_putStall_same, Stall.setNode_eq]
    cases b <;> exact ⟨rfl, rfl, putStall_frame ..⟩
  case band =>
    refine ⟨_, rfl, ?_⟩
    rw [getStall_putStall_same]
    exact ⟨rfl, rfl, rfl, putStall_frame ..⟩

end Sys2Proof.Machine
end

section
/-! SUPPORT. How the outputs of a pass reach the troughs (R94, R95, R110, R115): each output writes its own entry and no other, so
what an entry holds after a pass is what its one output leaves there. -/
namespace Sys2Proof.Machine

/-- R94: the trough entry of an output, for an operation whose first vector has slot `slot`. -/
def slotIx (slot : Nat) (e : Nat × Nat × Out) : Nat := troughIx (slot + e.1) e.2.1

/-! The outputs of a pass lie in different entries. -/

theorem slotIx_ne_of_vector {slot : Nat} {e e' : Nat × Nat × Out} (h : e.1 < e'.1) (hc : e.2.1 < 128) :
    slotIx slot e ≠ slotIx slot e' := by
  unfold slotIx troughIx
  omega

theorem slotIx_ne_of_lane {slot : Nat} {e e' : Nat × Nat × Out} (hv : e.1 = e'.1) (h : e.2.1 < e'.2.1) :
    slotIx slot e ≠ slotIx slot e' := by
  unfold slotIx troughIx
  omega

theorem mem_passOutputs {o : OpRun} {sl : Slice} {draw v0 v1 i c : Nat} (h0 : v0 ≤ i) (h1 : i < v1) (hc : c < 128) :
    (i, c, outputOf o sl draw i c) ∈ passOutputs o sl draw v0 v1 := by
  have hi : v0 + (i - v0) = i := Nat.add_sub_cancel' h0
  refine List.mem_flatMap.mpr ⟨i - v0, List.mem_range.mpr (by omega), List.mem_map.mpr ⟨c, List.mem_range.mpr hc, ?_⟩⟩
  rw [hi]

theorem passOutputs_pairwise (o : OpRun) (sl : Slice) (draw v0 v1 slot : Nat) :
    (passOutputs o sl draw v0 v1).Pairwise (fun e e' => slotIx slot e ≠ slotIx slot e') := by
  refine List.pairwise_flatMap.mpr ⟨fun j _ => List.pairwise_map.mpr ?lanes,
    List.pairwise_lt_range.imp fun {j j'} hj e he e' he' => ?vectors⟩
  case lanes =>
    refine List.pairwise_lt_range.imp fun {c c'} hc => ?_
    exact slotIx_ne_of_lane rfl hc
  case vectors =>
    obtain ⟨c, hc, rfl⟩ := List.mem_map.mp he
    obtain ⟨c', -, rfl⟩ := List.mem_map.mp he'
    exact slotIx_ne_of_vector (Nat.add_lt_add_left hj v0) (List.mem_range.mp hc)

/-! Steps through a list of outputs that change the troughs alone, each in its output's entry. -/

theorem Stall.troughAt_setTrough (x : Stall) (ix v j : Nat) :
    (x.setTrough ix v).troughAt j = if j = ix then BitVec.ofNat 32 v else x.troughAt j :=
  nmGet_put ..

/-- `f` takes an output by writing its own trough entry, from what that entry held, or by writing nothing. -/
def WritesOwn (slot : Nat) (f : Stall → Nat × Nat × Out → Stall) : Prop :=
  ∀ e, (∀ x, f x e = x) ∨ ∃ v : W32 → Nat, ∀ x : Stall, f x e = x.setTrough (slotIx slot e) (v (x.troughAt (slotIx slot e)))

section
variable {slot : Nat} {f : Stall → Nat × Nat × Out → Stall} (hf : WritesOwn slot f)
include hf

theorem WritesOwn.trough_only (x : Stall) (e : Nat × Nat × Out) : ∃ tr, f x e = { x with trough := tr } := by
  obtain h | ⟨v, h⟩ := hf e
  · exact ⟨x.trough, h x⟩
  · exact ⟨_, h x⟩

theorem WritesOwn.troughAt_ne (x : Stall) {e : Nat × Nat × Out} {j : Nat} (hj : j ≠ slotIx slot e) :
    (f x e).troughAt j = x.troughAt j := by
  obtain h | ⟨v, h⟩ := hf e
  · rw [h]
  · rw [h, Stall.troughAt_setTrough, if_neg hj]

theorem WritesOwn.troughAt_congr {x y : Stall} {e : Nat × Nat × Out} (hxy : x.troughAt (slotIx slot e) = y.troughAt (slotIx slot e)) :
    (f x e).troughAt (slotIx slot e) = (f y e).troughAt (slotIx slot e) := by
  obtain h | ⟨v, h⟩ := hf e
  · rw [h, h, hxy]
  · rw [h, h, Stall.troughAt_setTrough, Stall.troughAt_setTrough, hxy]

theorem WritesOwn.foldl_trough_only (l : List (Nat × Nat × Out)) (x : Stall) : ∃ tr, l.foldl f x = { x with trough := tr } := by
  induction l generalizing x with
  | nil => exact ⟨x.trough, rfl⟩
  | cons e l ih =>
    obtain ⟨tr, htr⟩ := ih (f x e)
    obtain ⟨tr', hstep⟩ := hf.trough_only x e
    exact ⟨tr, by rw [List.foldl_cons, htr, hstep]⟩

theorem WritesOwn.foldl_troughAt_ne {l : List (Nat × Nat × Out)} {j : Nat} (h : ∀ e ∈ l, j ≠ slotIx slot e) (x : Stall) :
    (l.foldl f x).troughAt j = x.troughAt j := by
  induction l generalizing x with
  | nil => rfl
  | cons e l ih =>
    obtain ⟨he, hl⟩ := List.forall_mem_cons.mp h
    rw [List.foldl_cons, ih hl, hf.troughAt_ne x he]

/-- The entry of an output, after all of them: the outputs before and after it leave it alone. -/
theorem WritesOwn.foldl_troughAt_mem {l : List (Nat × Nat × Out)} (hl : l.Pairwise (fun e e' => slotIx slot e ≠ slotIx slot e'))
    {e : Nat × Nat × Out} (he : e ∈ l) (x : Stall) :
    (l.foldl f x).troughAt (slotIx slot e) = (f x e).troughAt (slotIx slot e) := by
  induction l generalizing x with
  | nil => cases he
  | cons a l ih =>
    obtain ⟨ha, hl⟩ := List.pairwise_cons.mp hl
    rw [List.foldl_cons]
    obtain rfl | he := List.mem_cons.mp he
    · exact hf.foldl_troughAt_ne ha _
    · rw [ih hl he]
      exact hf.troughAt_congr (hf.troughAt_ne x (ha e he).symm)

/-- The outputs of a pass, each taken by its own step: what the entry of vector `i`, column `c` holds is what its output leaves. -/
theorem WritesOwn.foldl_passOutputs (o : OpRun) (sl : Slice) (draw v0 v1 : Nat) (x : Stall) :
    ∃ tr, (passOutputs o sl draw v0 v1).foldl f x = { x with trough := tr }
    ∧ ∀ i c, v0 ≤ i → i < v1 → c < 128 → nmGet (fun _ => 0) tr (troughIx (slot + i) c)
      = (f x (i, c, outputOf o sl draw i c)).troughAt (troughIx (slot + i) c) := by
  obtain ⟨tr, htr⟩ := hf.foldl_trough_only (passOutputs o sl draw v0 v1) x
  refine ⟨tr, htr, fun i c h0 h1 hc => ?_⟩
  have hentry := hf.foldl_troughAt_mem (passOutputs_pairwise o sl draw v0 v1 slot) (mem_passOutputs h0 h1 hc) x
  rw [htr] at hentry
  exact hentry

end

/-! The two steps of the model: an output delivered, and the difference of a retried one. -/

theorem deliver_writesOwn (o : OpRun) (sl : Slice) (g : Nat) (ovr : Bool) (draw : Nat) :
    WritesOwn o.d.slot (fun x e => x.deliver o sl g ovr draw e) := by
  intro e
  cases ovr with
  | true => exact .inr ⟨fun _ => contribution o sl g e.1 e.2.2, fun _ => rfl⟩
  | false =>
    exact .inr ⟨fun w => troughAdd w.toNat (contribution o sl g e.1 e.2.2) (Config.nanBits draw (slotIx o.d.slot e)), fun _ => rfl⟩

theorem deliverDiff_writesOwn (o : OpRun) (sl : Slice) (g gStar : Nat) (orig : NMap Int) (draw : Nat) :
    WritesOwn o.d.slot (fun x e => x.deliverDiff o sl g gStar orig draw e) := by
  rintro ⟨i, c, out⟩
  match out, h : nmFind orig (i * 128 + c) with
  | .poison, _ => exact .inl fun _ => rfl
  | .zero, _ => exact .inl fun _ => rfl
  | .sum _ _, none => exact .inl fun x => by simp [Stall.deliverDiff, h]
  | .sum a thr, some c0 =>
    exact .inr ⟨fun w => troughAdd w.toNat (fpRoundDy 24 false ((Dy.mk (convCode a thr gStar) (outExp o sl i gStar)).add
      ⟨-c0, outExp o sl i g⟩)).bits (Config.nanBits draw (troughIx (o.d.slot + i) c)), fun x => by simp [Stall.deliverDiff, h, slotIx]⟩

theorem troughAt_deliver (x : Stall) (o : OpRun) (sl : Slice) (g : Nat) (ovr : Bool) (draw i c : Nat) (out : Out) :
    (x.deliver o sl g ovr draw (i, c, out)).troughAt (troughIx (o.d.slot + i) c)
      = BitVec.ofNat 32 (if ovr then contribution o sl g i out
        else troughAdd (x.troughAt (troughIx (o.d.slot + i) c)).toNat (contribution o sl g i out)
          (Config.nanBits draw (troughIx (o.d.slot + i) c))) := by
  cases ovr <;> simp [Stall.deliver, Stall.troughAt_setTrough]

theorem troughAt_deliverDiff (x : Stall) {o : OpRun} {sl : Slice} {g gStar : Nat} {orig : NMap Int} {draw i c : Nat} {a thr c0 : Int}
    (h : nmFind orig (i * 128 + c) = some c0) :
    (x.deliverDiff o sl g gStar orig draw (i, c, .sum a thr)).troughAt (troughIx (o.d.slot + i) c)
      = BitVec.ofNat 32 (troughAdd (x.troughAt (troughIx (o.d.slot + i) c)).toNat
        (fpRoundDy 24 false ((Dy.mk (convCode a thr gStar) (outExp o sl i gStar)).add ⟨-c0, outExp o sl i g⟩)).bits
        (Config.nanBits draw (troughIx (o.d.slot + i) c))) := by
  simp [Stall.deliverDiff, h, Stall.troughAt_setTrough]

end Sys2Proof.Machine
end

section
/-! SUPPORT. The life of a tile operation (R95 to R117): what each shared operation of a pass leaves of its stall's record, and the
commands assembled from them. -/
namespace Sys2Proof.Machine

/-! Reports, counters and siding slots leave every stall record alone. -/
section
variable (s : State) (k : Nat)

@[simp] theorem getStall_setLastMiss (d : TileOp) (low : Bool) (g kind : Nat) (second : Bool) (j : Nat) :
    getStall (setLastMiss s k d low g kind second) j = getStall s j :=
  (setLastMiss_fr ..).getStall_eq rfl j

@[simp] theorem getStall_secondMiss (d : TileOp) (low : Bool) (g kind clipped j : Nat) :
    getStall (secondMiss s k d low g kind clipped) j = getStall s j :=
  (secondMiss_fr ..).getStall_eq rfl j

@[simp] theorem getStall_countOutputs (p : PassStats) (j : Nat) : getStall (countOutputs s k p) j = getStall s j :=
  (countOutputs_fr ..).getStall_eq rfl j

@[simp] theorem getStall_sidSweepDie (d j : Nat) : getStall (sidSweepDie s d) j = getStall s j :=
  (sidSweepDie_fr ..).getStall_eq rfl j

@[simp] theorem getStall_dropVectors_same (id : Nat) : getStall (dropVectors s k id) k = (getStall s k).release id := by
  simp [dropVectors]

/-- Giving up the vectors changes no register. -/
theorem dropVectors_regs (id : Nat) : (dropVectors s k id).regs = s.regs := (dropVectors_fr ..).same .regs rfl

theorem only_dropVectors (id : Nat) : Only getStall [k] s (dropVectors s k id) :=
  (only_putStall s k _).trans ((sidSweepDie_fr _ _).only_getStall rfl _)

@[simp] theorem getStall_resumeStall_same : getStall (resumeStall s k) k = (getStall s k).resume (pauseOver s k) :=
  getStall_putStall_same ..

theorem only_resumeStall : Only getStall [k] s (resumeStall s k) := only_putStall _ _ _

end

/-! R120: when the head of the issue port goes on by itself. -/

theorem Stall.resume_frame (x : Stall) (ended : Bool) : ∃ m q, x.resume ended = { x with modulating := m, issue := q } := by
  unfold resume
  split
  · exact ⟨x.modulating, x.issue, rfl⟩
  · split
    · exact ⟨_, _, rfl⟩
    · exact ⟨x.modulating, x.issue, rfl⟩

theorem Stall.resume_of_none_begun {x : Stall} (h : x.issue.all (fun o => !o.begun) = true) (ended : Bool) : x.resume ended = x := by
  unfold resume
  split
  · rfl
  · next o rest hq =>
    have ho : o.begun = false := by simpa using List.all_eq_true.mp h o (hq ▸ List.mem_cons_self)
    simp [ho]

/-- A head that has begun and is no remainder goes on unless a hold or a retry stops it. -/
theorem Stall.resume_of_begun {x : Stall} {o : OpRun} {rest : List OpRun} (hq : x.issue = o :: rest) (hbegun : o.begun = true)
    (hrem : o.remainder = false) (hmod : x.modulating = false) (ended : Bool) :
    x.resume ended = { x with modulating := x.mayIssue && x.retries.isEmpty } := by
  have hhead : { o with remainder := false } = o := by rw [← hrem]
  have hstay : x = { x with modulating := false } := by rw [← hmod]
  have hon : (x.mayIssue && x.retries.isEmpty && o.begun && !x.modulating && (ended || !o.remainder))
      = (x.mayIssue && x.retries.isEmpty) := by simp [hbegun, hmod, hrem]
  simp only [resume, hq, hon, hhead]
  rw [← hq]
  cases x.mayIssue && x.retries.isEmpty with
  | false => exact hstay
  | true => rfl

/-! The end of a pass (R110, log entry 40). -/

theorem Stall.passDone_last {o : OpRun} (h : o.hasLow = false) (x : Stall) (rest : List OpRun) (hold : Bool) :
    x.passDone o rest hold
      = { x with modulating := false, issue := rest, finishing := x.finishing ++ [{ o with vDone := o.n }] } := by
  simp [passDone, h]

theorem Stall.passDone_low {o : OpRun} (h : o.hasLow = true) (x : Stall) (rest : List OpRun) (hold : Bool) :
    x.passDone o rest hold
      = { x with modulating := false, issue := { o with low := true, vDone := 0, remainder := hold } :: rest } := by
  simp [passDone, h]

/-- R114: the scale check of a pass may add a retry to the record, and does not where SCK is 2 or 3. -/
theorem getStall_checkPass (s : State) (k : Nat) (o : OpRun) (v0 v1 : Nat) (es : List (Nat × Nat × Out)) (p : PassStats) :
    ∃ rs, getStall (checkPass s k o v0 v1 es p) k = { getStall s k with retries := (getStall s k).retries ++ rs }
    ∧ (2 ≤ o.d.sck → rs = []) := by
  have hnone : getStall s k = { getStall s k with retries := (getStall s k).retries ++ [] } := by rw [List.append_nil]
  unfold checkPass
  dsimp only
  split
  · exact ⟨[], hnone, fun _ => rfl⟩
  · next h =>
    have hsck : ¬ 2 ≤ o.d.sck := fun hs => h (.inr hs)
    split
    · exact ⟨[], by simp, fun _ => rfl⟩
    · rw [getStall_putStall_same, getStall_setLastMiss, getStall_bumpF]
      exact ⟨[_], rfl, fun hs => absurd hs hsck⟩

theorem only_checkPass (s : State) (k : Nat) (o : OpRun) (v0 v1 : Nat) (es : List (Nat × Nat × Out)) (p : PassStats) :
    Only getStall [k] s (checkPass s k o v0 v1 es p) := by
  unfold checkPass
  dsimp only
  split
  · exact fun _ _ => rfl
  · split
    · exact fun j _ => by simp
    · exact fun j hj => by rw [only_putStall _ _ _ j hj]; simp

/-- R95, R110: what a trough entry holds once the output of vector `i`, column `c` has reached it. -/
def entryAfter (x : Stall) (o : OpRun) (draw i c : Nat) : W32 :=
  BitVec.ofNat 32 (let v := contribution o (sliceOf o.d o.low) o.d.gain i (outputOf o (sliceOf o.d o.low) draw i c)
    if !o.d.acc && !(o.low && o.d.slice == 0) then v
    else troughAdd (x.troughAt (troughIx (o.d.slot + i) c)).toNat v (Config.nanBits draw (troughIx (o.d.slot + i) c)))

/-- Vectors `o.vDone` to `v1 − 1` of a pass change the troughs, each entry by its own output, and may leave a retry. -/
theorem getStall_runVectors (s : State) (k : Nat) (o : OpRun) (v1 : Nat) :
    ∃ tr rs, getStall (runVectors s k o v1) k
      = { getStall s k with trough := tr, retries := (getStall s k).retries ++ rs }
    ∧ (2 ≤ o.d.sck → rs = [])
    ∧ ∀ i c, o.vDone ≤ i → i < v1 → c < 128 →
      nmGet (fun _ => 0) tr (troughIx (o.d.slot + i) c) = entryAfter (getStall s k) o s.freeCtr i c := by
  have hown := deliver_writesOwn o (sliceOf o.d o.low) o.d.gain (!o.d.acc && !(o.low && o.d.slice == 0)) s.freeCtr
  obtain ⟨tr, htr, hentry⟩ := hown.foldl_passOutputs o (sliceOf o.d o.low) s.freeCtr o.vDone v1 (getStall s k)
  unfold runVectors
  dsimp only
  rw [htr]
  obtain ⟨rs, hrs, hsck⟩ := getStall_checkPass _ k o o.vDone v1 _ _
  refine ⟨tr, rs, hrs.trans (by rw [getStall_countOutputs, getStall_putStall_same]), hsck,
    fun i c h0 h1 hc => (hentry i c h0 h1 hc).trans (troughAt_deliver ..)⟩

theorem only_runVectors (s : State) (k : Nat) (o : OpRun) (v1 : Nat) : Only getStall [k] s (runVectors s k o v1) := by
  refine Only.trans (fun j hj => ?_) (only_checkPass _ k o o.vDone v1 _ _)
  rw [getStall_countOutputs, only_putStall _ _ _ j hj, getStall_drawn]

section
variable {s : State} {k : Nat} {o : OpRun} {rest : List OpRun}

theorem endPass_eq (h : (getStall s k).issue = o :: rest) :
    endPass s k = resumeStall (putStall (runVectors s k o o.n) k
      (((getStall (runVectors s k o o.n) k).passDone o rest false).dark o.id s.time)) k := by
  have htime : (runVectors s k o o.n).time = s.time := (runVectors_fr ..).same .time rfl
  rw [← htime]
  simp only [endPass, h]

theorem only_endPass (h : (getStall s k).issue = o :: rest) : Only getStall [k] s (endPass s k) := by
  rw [endPass_eq h]
  exact ((only_runVectors s k o o.n).trans (only_putStall _ _ _)).trans (only_resumeStall _ _)

theorem getStall_endPass (h : (getStall s k).issue = o :: rest) : ∃ ended, getStall (endPass s k) k
    = (((getStall (runVectors s k o o.n) k).passDone o rest false).dark o.id s.time).resume ended := by
  rw [endPass_eq h, getStall_resumeStall_same, getStall_putStall_same]
  exact ⟨_, rfl⟩

/-- The last pass of an operation ends: it leaves the issue port, and nothing begins behind it. -/
theorem getStall_endPass_last (hretry : (getStall s k).retries = []) (h : (getStall s k).issue = o :: rest)
    (hlow : o.hasLow = false) (hrest : rest.all (fun q => !q.begun) = true) :
    ∃ tr rs, getStall (endPass s k) k
      = { getStall s k with
          trough := tr, retries := rs, modulating := false, issue := rest
          finishing := (getStall s k).finishing ++ [{ o with vDone := o.n }]
          darkFrom := some s.time, drain := (getStall s k).drain.filter (· != o.id) }
    ∧ (2 ≤ o.d.sck → rs = [])
    ∧ ∀ i c, o.vDone ≤ i → i < o.n → c < 128 →
      nmGet (fun _ => 0) tr (troughIx (o.d.slot + i) c) = entryAfter (getStall s k) o s.freeCtr i c := by
  obtain ⟨tr, rs, hrun, hsck, hentry⟩ := getStall_runVectors s k o o.n
  obtain ⟨ended, hend⟩ := getStall_endPass h
  refine ⟨tr, rs, ?_, hsck, hentry⟩
  rw [hend, hrun, hretry, Stall.passDone_last hlow]
  exact Stall.resume_of_none_begun hrest ended

/-- The high pass of an operation ends: the low pass follows at once, where nothing holds issue and no retry goes before it. -/
theorem getStall_endPass_low (h : (getStall s k).issue = o :: rest) (hlow : o.hasLow = true) (hbegun : o.begun = true) :
    ∃ tr rs, getStall (endPass s k) k
      = { getStall s k with
          trough := tr, retries := rs, modulating := (getStall s k).mayIssue && rs.isEmpty
          issue := { o with low := true, vDone := 0, remainder := false } :: rest
          darkFrom := some s.time, drain := (getStall s k).drain.filter (· != o.id) } := by
  obtain ⟨tr, rs, hrun, -, -⟩ := getStall_runVectors s k o o.n
  obtain ⟨ended, hend⟩ := getStall_endPass h
  refine ⟨tr, (getStall s k).retries ++ rs, ?_⟩
  rw [hend, hrun, Stall.passDone_low hlow]
  exact Stall.resume_of_begun (o := { o with low := true, vDone := 0, remainder := false }) rfl hbegun rfl rfl ended

end

/-! The end of a retry (R115 to R117). -/

/-- R115: what a trough entry holds once the difference of a retried output, read as `a` with threshold `thr` where the code was `c0`,
has reached it. -/
def entryRetried (x : Stall) (r : Retry) (draw i c : Nat) (a thr c0 : Int) : W32 :=
  BitVec.ofNat 32 (troughAdd (x.troughAt (troughIx (r.o.d.slot + i) c)).toNat
    (fpRoundDy 24 false ((Dy.mk (convCode a thr r.gStar) (outExp r.o (sliceOf r.o.d r.low) i r.gStar)).add
      ⟨-c0, outExp r.o (sliceOf r.o.d r.low) i r.o.d.gain⟩)).bits (Config.nanBits draw (troughIx (r.o.d.slot + i) c)))

/-- Vectors of a retry change the troughs alone, each entry by the difference of its own output. -/
theorem getStall_runRetry (s : State) (k : Nat) (r : Retry) (v1 : Nat) :
    ∃ tr, getStall (runRetry s k r v1).1 k = { getStall s k with trough := tr }
    ∧ ∀ i c a thr c0, r.vFrom + r.vDone ≤ i → i < v1 → c < 128 →
      outputOf r.o (sliceOf r.o.d r.low) s.freeCtr i c = .sum a thr → nmFind r.orig (i * 128 + c) = some c0 →
      nmGet (fun _ => 0) tr (troughIx (r.o.d.slot + i) c) = entryRetried (getStall s k) r s.freeCtr i c a thr c0 := by
  have hown := deliverDiff_writesOwn r.o (sliceOf r.o.d r.low) r.o.d.gain r.gStar r.orig s.freeCtr
  obtain ⟨tr, htr, hentry⟩ := hown.foldl_passOutputs r.o (sliceOf r.o.d r.low) s.freeCtr (r.vFrom + r.vDone) v1 (getStall s k)
  unfold runRetry
  dsimp only
  rw [htr, getStall_countOutputs, getStall_putStall_same]
  refine ⟨tr, rfl, fun i c a thr c0 h0 h1 hc hout hcode => ?_⟩
  rw [hentry i c h0 h1 hc, hout]
  exact troughAt_deliverDiff _ hcode

theorem only_runRetry (s : State) (k : Nat) (r : Retry) (v1 : Nat) : Only getStall [k] s (runRetry s k r v1).1 := fun j hj => by
  rw [runRetry, getStall_countOutputs, only_putStall _ _ _ j hj, getStall_drawn]

/-- The state in which a retry has run all its vectors, and its own scale check has reported what it found (R116). -/
def retryChecked (s : State) (k : Nat) (r : Retry) : State :=
  let sr := runRetry s k r r.vTo
  let kind := missKind r.gStar sr.2.nOut sr.2.nClip sr.2.nBig
  if kind = 0 then sr.1 else secondMiss sr.1 k r.o.d r.low r.gStar kind sr.2.nClip

@[simp] theorem getStall_retryChecked (s : State) (k : Nat) (r : Retry) (j : Nat) :
    getStall (retryChecked s k r) j = getStall (runRetry s k r r.vTo).1 j := by
  unfold retryChecked
  dsimp only
  split
  · rfl
  · rw [getStall_secondMiss]

theorem retryChecked_time (s : State) (k : Nat) (r : Retry) : (retryChecked s k r).time = s.time := by
  have htime : (runRetry s k r r.vTo).1.time = s.time := (runRetry_fr ..).same .time rfl
  unfold retryChecked
  dsimp only
  split
  · exact htime
  · exact ((secondMiss_fr ..).same .time rfl).trans htime

section
variable {s : State} {k : Nat} {r : Retry} {rest : List Retry}

theorem endRetry_eq (h : (getStall s k).retries = r :: rest) :
    endRetry s k = resumeStall (putStall (retryChecked s k r) k
      { (getStall (retryChecked s k r) k).dark r.o.id s.time with
        retries := rest
        drain := ((getStall (retryChecked s k r) k).dark r.o.id s.time).drain ++ [r.o.id] }) k := by
  rw [← retryChecked_time s k r]
  simp only [endRetry, h]
  rfl

theorem only_endRetry (h : (getStall s k).retries = r :: rest) : Only getStall [k] s (endRetry s k) := by
  have hchecked : Only getStall [k] s (retryChecked s k r) := fun j hj =>
    (getStall_retryChecked ..).trans (only_runRetry s k r r.vTo j hj)
  rw [endRetry_eq h]
  exact (hchecked.trans (only_putStall _ _ _)).trans (only_resumeStall _ _)

/-- A retry ends: its record is held for the last difference, and the head of the issue port may go on. -/
theorem getStall_endRetry (h : (getStall s k).retries = r :: rest) :
    ∃ tr m q, getStall (endRetry s k) k
      = { getStall s k with
          trough := tr, modulating := m, issue := q, retries := rest, darkFrom := some s.time
          drain := (getStall s k).drain.filter (· != r.o.id) ++ [r.o.id] }
    ∧ ∀ i c a thr c0, r.vFrom + r.vDone ≤ i → i < r.vTo → c < 128 →
      outputOf r.o (sliceOf r.o.d r.low) s.freeCtr i c = .sum a thr → nmFind r.orig (i * 128 + c) = some c0 →
      nmGet (fun _ => 0) tr (troughIx (r.o.d.slot + i) c) = entryRetried (getStall s k) r s.freeCtr i c a thr c0 := by
  obtain ⟨tr, hrun, hentry⟩ := getStall_runRetry s k r r.vTo
  rw [endRetry_eq h, getStall_resumeStall_same, getStall_putStall_same, getStall_retryChecked, hrun]
  obtain ⟨m, q, hres⟩ := Stall.resume_frame _ _
  exact ⟨tr, m, q, hres, hentry⟩

end

/-! The commands of a tile operation, each with the state it answers where its rule lets it act. -/
section
variable {s : State} {k : Fin 16}

theorem tileOpHandover_next {q : QOp} {rest : List QOp} (hq : (getStall s k).tq = q :: rest) (hroom : (getStall s k).entry.length < 4)
    (hacc : (getStall s k).accepts = true) (hport : (getStall s k).issue.length < 4)
    (hwait : q.d.waitEn = false ∨ sbxReached s (k / 4) q.d.waitSbx q.d.waitValue = true) :
    exec (.tileOpHandover k) s
      = .next (putStall s k { getStall s k with tq := rest, entry := (getStall s k).entry ++ [q] }) := by
  simp only [exec, execTileOpHandover, hq]
  rw [if_pos ⟨hroom, hacc, hport, hwait⟩]

theorem issueAccept_next {q : QOp} {rest : List QOp} (hq : (getStall s k).entry = q :: rest) (hacc : (getStall s k).accepts = true)
    (hport : (getStall s k).issue.length < 4) (hin : (getStall s k).inputVoid = false) (hw : (getStall s k).weightVoid = false) :
    exec (.issueAccept k) s = .next (putStall s k
      { getStall s k with
        entry := rest
        cursor := if q.d.next then (getStall s k).cursor + 1 else (getStall s k).cursor
        issue := (getStall s k).issue ++ [{
          id := q.id, d := q.d, n := q.d.vcnt + 1
          tileSeq := if q.d.next then (getStall s k).cursor + 1 else (getStall s k).cursor
          low := q.d.slice == 2 }] }) := by
  simp [exec, execIssueAccept, hq, hacc, hport, hin, hw]

/-- R89: the lanes' thresholds for an operation forward or in reverse, as it begins. -/
def laneThresholds (s : State) (k : Nat) (rev : Bool) : List Int :=
  (List.range 128).map (fun c =>
    sext 8 ((rdReg s ((if rev then Reg.STL_THR_NEAR else Reg.STL_THR_FAR).addr k (c / 4) 0)).toNat / 2 ^ (8 * (c % 4))))

theorem tileOpBegin_next {o : OpRun} {rest : List OpRun} {f : VecFetch} (hq : (getStall s k).issue = o :: rest)
    (hmay : (getStall s k).mayIssue = true) (hbegun : o.begun = false) (hmod : (getStall s k).modulating = false)
    (hretry : (getStall s k).retries = []) (hseq : o.tileSeq = (getStall s k).actSeq) (hpause : pauseOver s k = true)
    (hfmt : (getStall s k).active.loaded = false ∨ o.d.wfmt = (getStall s k).active.tile.fmt)
    (hfetch : (getStall s k).fetches.find? (fun f => f.id == o.id) = some f) (hlen : o.n ≤ f.vecs.length) :
    exec (.tileOpBegin k) s = .next (putStall
      (bumpF s Fld.STL_XUFL_COUNT ((f.vecs.map InVec.underflows).foldl (· + ·) 0) k) k
      { getStall s k with
        issue := { o with
          begun := true, vecs := f.vecs, tile := (getStall s k).activeTile
          thr := laneThresholds s k (o.d.op == 2) } :: rest
        modulating := true, lastDir := o.d.op == 2
        wave := waveOf (bumpF s Fld.STL_XUFL_COUNT ((f.vecs.map InVec.underflows).foldl (· + ·) 0) k) k }) := by
  have hvoid : ¬ ((getStall s k).active.loaded = true ∧ o.d.wfmt ≠ (getStall s k).active.tile.fmt) := by
    rintro ⟨hl, hne⟩
    obtain h | h := hfmt
    · rw [h] at hl; cases hl
    · exact hne h
  simp only [exec, execTileOpBegin, hq, hbegun]
  rw [if_neg Bool.false_ne_true, if_pos ⟨hmay, by simp [hmod], hretry, hseq, hpause⟩, if_neg hvoid]
  simp only [hfetch]
  rw [if_neg (Nat.not_lt.mpr hlen)]
  rfl

theorem passEnd_of_modulating (hretry : (getStall s k).retries = []) (hmod : (getStall s k).modulating = true) :
    exec (.passEnd k) s = .next (endPass s k) := by
  simp [exec, execPassEnd, hretry, hmod]

theorem passEnd_of_retry {r : Retry} {rest : List Retry} (h : (getStall s k).retries = r :: rest) (hrun : r.running = true) :
    exec (.passEnd k) s = .next (endRetry s k) := by
  simp [exec, execPassEnd, h, hrun]

theorem retryStart_next {r : Retry} {rest : List Retry} (h : (getStall s k).retries = r :: rest)
    (hmay : (getStall s k).mayIssue = true) (hmod : (getStall s k).modulating = false) (hrun : r.running = false)
    (hroom : (getStall s k).drain.length < 2) :
    exec (.retryStart k) s = .next (putStall s k { getStall s k with retries := { r with running := true } :: rest }) := by
  simp [exec, execRetryStart, h, hmay, hmod, hrun, hroom]

/-- The state in which the operation at the head of `finishing` has given up its vectors and is counted (R111, R180). -/
def opCounted (s : State) (k : Nat) (o : OpRun) (rest : List OpRun) : State :=
  addF (dropVectors (putStall s k { getStall s k with finishing := rest, drain := (getStall s k).drain.filter (· != o.id) }) k o.id)
    Fld.STL_OPS_OPS 1 k

theorem tileOpComplete_next {o : OpRun} {rest : List OpRun} (h : (getStall s k).finishing = o :: rest)
    (hretry : (getStall s k).retries.any (fun r => r.o.id == o.id) = false) (hnever : o.never = false) :
    exec (.tileOpComplete k) s
      = .next (if o.d.doneEn then sendSbx (opCounted s k o rest) (k / 4) o.d.doneSbx 1 else opCounted s k o rest) := by
  simp only [exec, execTileOpComplete, h, hretry, hnever]
  rfl

end

section
variable (s : State) (k : Nat) (o : OpRun) (rest : List OpRun)

theorem getStall_opCounted_same : getStall (opCounted s k o rest) k
    = ({ getStall s k with finishing := rest, drain := (getStall s k).drain.filter (· != o.id) } : Stall).release o.id := by
  rw [opCounted, getStall_addF, getStall_dropVectors_same, getStall_putStall_same]

theorem only_opCounted : Only getStall [k] s (opCounted s k o rest) :=
  ((only_putStall s k _).trans (only_dropVectors _ _ _)).trans ((addF_fr ..).only_getStall rfl _)

theorem getF_opCounted : getF (opCounted s k o rest) Fld.STL_OPS_OPS k = (getF s Fld.STL_OPS_OPS k + 1) % 2 ^ 64 := by
  rw [opCounted, getF_addF_same _ _ _ _ _ (by decide), getF_congr _ _ _ _ (dropVectors_regs ..), getF_putStall]
  rfl

theorem onlyReg_opCounted : Only rdReg [Reg.STL_OPS.addr k 0 0] s (opCounted s k o rest) := fun b hb => by
  have hne : b ≠ Fld.STL_OPS_OPS.reg.addr k 0 0 := fun h => hb (List.mem_singleton.mpr h)
  rw [opCounted, rdReg_addF_ne _ hne, rdReg_congr b (dropVectors_regs ..), rdReg_putStall]

end

/-- Settles O3, one command after the other: the passes from what they leave in each trough entry, the rest from the state each
command answers. -/
theorem tileOps : Obligations.TileOps := by
  refine ⟨fun k s q rest hq hroom hacc hport hwait => ?handover, fun k s q rest hq hacc hport hin hw => ?accept,
    fun k s o rest f hq hmay hbegun hmod hretry hseq hpause hfmt hfetch hlen => ?begin,
    fun k s o rest hretry hmod hq hlow hrest => ?lastPass, fun k s o rest hretry hmod hq hlow hbegun => ?highPass,
    fun k s r rest h hrun => ?retryEnd, fun k s r rest h hmay hmod hrun hroom => ?retryStart,
    fun k s o rest h hretry hnever => ?complete⟩
  case handover =>
    refine ⟨_, tileOpHandover_next hq hroom hacc hport hwait, ?_⟩
    rw [getStall_putStall_same]
    exact ⟨rfl, rfl, putStall_frame ..⟩
  case accept =>
    refine ⟨_, issueAccept_next hq hacc hport hin hw, ?_⟩
    rw [getStall_putStall_same]
    exact ⟨rfl, rfl, rfl, putStall_frame ..⟩
  case begin =>
    refine ⟨_, tileOpBegin_next hq hmay hbegun hmod hretry hseq hpause hfmt hfetch hlen, ?_⟩
    rw [getStall_putStall_same, getF_putStall]
    exact ⟨rfl, rfl, getF_bumpF_same s _ _ _ _ (by decide), ⟨_, rfl, rfl, rfl, rfl, rfl, rfl⟩, putStall_bumpF_frame ..⟩
  case lastPass =>
    have hstep := passEnd_of_modulating hretry hmod
    obtain ⟨tr, rs, hend, hsck, hentry⟩ := getStall_endPass_last hretry hq hlow hrest
    refine ⟨_, hstep, ?_⟩
    rw [hend]
    exact ⟨rfl, rfl, rfl, rfl, hentry, hsck, only_endPass hq, ((execPassEnd_fr ..).keeps hstep).touches_maskOf rfl⟩
  case highPass =>
    have hstep := passEnd_of_modulating hretry hmod
    obtain ⟨tr, rs, hend⟩ := getStall_endPass_low hq hlow hbegun
    refine ⟨_, hstep, ?_⟩
    rw [hend]
    exact ⟨rfl, rfl, rfl, only_endPass hq, ((execPassEnd_fr ..).keeps hstep).touches_maskOf rfl⟩
  case retryEnd =>
    have hstep := passEnd_of_retry h hrun
    obtain ⟨tr, m, q, hend, hentry⟩ := getStall_endRetry h
    refine ⟨_, hstep, ?_⟩
    rw [hend]
    exact ⟨rfl, rfl, rfl, hentry, only_endRetry h, ((execPassEnd_fr ..).keeps hstep).touches_maskOf rfl⟩
  case retryStart =>
    refine ⟨_, retryStart_next h hmay hmod hrun hroom, ?_⟩
    rw [getStall_putStall_same]
    exact ⟨rfl, putStall_frame ..⟩
  case complete =>
    have hstep := tileOpComplete_next h hretry hnever
    have htouch := ((execTileOpComplete_fr ..).keeps hstep).touches_maskOf (l := [.regs, .sbxFlight, .stall, .sid]) rfl
    have hdrain : ∀ x ∈ (getStall s k).drain.filter (· != o.id), x ≠ o.id := fun x hx => by simpa using (List.mem_filter.mp hx).2
    have hrec := getStall_opCounted_same s k o rest
    refine ⟨_, hstep, ?_⟩
    cases hdone : o.d.doneEn with
    | false =>
      rw [hdone] at htouch
      rw [if_neg Bool.false_ne_true, hrec]
      exact ⟨rfl, getF_opCounted .., fun h => (Bool.false_ne_true h).elim, hdrain, rfl, only_opCounted _ _ _ _,
        onlyReg_opCounted _ _ _ _, htouch⟩
    | true =>
      rw [hdone] at htouch
      rw [if_pos rfl, getStall_sendSbx, getF_sendSbx, hrec, sendSbx_flight]
      exact ⟨rfl, getF_opCounted .., fun _ => List.getLast?_concat, hdrain, rfl,
        (only_opCounted _ _ _ _).trans ((sendSbx_fr ..).only_getStall rfl _),
        (onlyReg_opCounted _ _ _ _).trans fun b _ => rdReg_congr b (sendSbx_regs ..), htouch⟩

end Sys2Proof.Machine
end

section
/-! SUPPORT. The control of a stall (R118, R121 to R127): voids, the cut of a running pass, and the writes of STL_CTRL, STL_CFG and
STL_RESET, each with what it leaves of the stall's record and of STL_CFG. -/
namespace Sys2Proof.Machine

/-! Voids (R119): an operation gives up its vectors, and three registers of the stall report it. -/

/-- R119: the registers of stall `k` that report a void. -/
def voidRegs (k : Nat) : List Nat := [Reg.STL_VOID.addr k 0 0, Reg.STL_LASTVOID.addr k 0 0, Reg.STL_ERR.addr k 0 0]

/-- R8: registers of one window lie at the sums of its base and their offsets. -/
theorem RegDesc.addr_ne_of_off {d e : RegDesc} (hblk : d.blk = e.blk) (hlo : d.lo = e.lo) (hoff : d.off ≠ e.off) (w : Nat) :
    d.addr w 0 0 ≠ e.addr w 0 0 := by
  unfold addr
  omega

theorem cfgAddr_not_mem_voidRegs (k : Nat) : Reg.STL_CFG.addr k 0 0 ∉ voidRegs k := by
  have hvoid := RegDesc.addr_ne_of_off (d := Reg.STL_CFG) (e := Reg.STL_VOID) rfl rfl (by decide) k
  have hlast := RegDesc.addr_ne_of_off (d := Reg.STL_CFG) (e := Reg.STL_LASTVOID) rfl rfl (by decide) k
  have herr := RegDesc.addr_ne_of_off (d := Reg.STL_CFG) (e := Reg.STL_ERR) rfl rfl (by decide) k
  simp only [voidRegs, List.mem_cons, List.not_mem_nil, or_false, not_or]
  exact ⟨hvoid, hlast, herr⟩

section
variable (s : State) (k : Nat)

@[simp] theorem getStall_voidEvent (tag cause v : Nat) (again : Bool) (j : Nat) :
    getStall (voidEvent s k tag cause v again) j = getStall s j :=
  (voidEvent_fr ..).getStall_eq rfl j

theorem getF_voidEvent_cause (tag cause v : Nat) (again : Bool) :
    getF (voidEvent s k tag cause v again) Fld.STL_LASTVOID_CAUSE k = cause % 8 := by
  have hreg : Reg.STL_LASTVOID.addr k 0 0 ≠ Reg.STL_ERR.addr k 0 0 :=
    RegDesc.addr_ne_of_off (d := Reg.STL_LASTVOID) (e := Reg.STL_ERR) rfl rfl (by decide) k
  rw [voidEvent, getF_raiseEv, getF_setF_reg (f := Fld.STL_ERR_VOID) (g := Fld.STL_LASTVOID_CAUSE) _ _ _ _ _ _ _ _ hreg,
    getF_setF_same _ _ _ _ _ (by decide)]
  rfl

theorem onlyReg_voidEvent (tag cause v : Nat) (again : Bool) : Only rdReg (voidRegs k) s (voidEvent s k tag cause v again) :=
  fun b hb => by
    simp only [voidRegs, List.mem_cons, List.not_mem_nil, or_false, not_or] at hb
    obtain ⟨hvoid, hlast, herr⟩ := hb
    rw [voidEvent, rdReg_raiseEv, rdReg_setF_ne (f := Fld.STL_ERR_VOID) _ herr, rdReg_setF_ne (f := Fld.STL_LASTVOID_CAUSE) _ hlast,
      rdReg_setF_ne (f := Fld.STL_LASTVOID_TAG) _ hlast, rdReg_bumpF_ne (f := Fld.STL_VOID_COUNT) _ hvoid]

theorem getStall_voidOp_same (id tag cause v : Nat) : getStall (voidOp s k id tag cause v) k = (getStall s k).release id := by
  rw [voidOp, getStall_voidEvent, getStall_dropVectors_same]

theorem only_voidOp (id tag cause v : Nat) : Only getStall [k] s (voidOp s k id tag cause v) := fun j hj => by
  rw [voidOp, getStall_voidEvent, only_dropVectors s k id j hj]

theorem onlyReg_voidOp (id tag cause v : Nat) : Only rdReg (voidRegs k) s (voidOp s k id tag cause v) := fun b hb => by
  rw [voidOp, onlyReg_voidEvent _ _ _ _ _ _ b hb, rdReg_congr b (dropVectors_regs ..)]

end

/-- What each void of a list leaves alone, all of them do. -/
theorem Only.voidOps {α : Type} {f : State → Nat → α} {l : List Nat} {k cause : Nat}
    (h : ∀ s id tag v, Only f l s (voidOp s k id tag cause v)) (os : List (Nat × Nat × Nat)) (s : State) :
    Only f l s (voidOps s k cause os) := by
  induction os generalizing s with
  | nil => exact fun _ _ => rfl
  | cons o os ih => exact (h s o.1 o.2.1 o.2.2).trans (ih _)

theorem only_voidOps (s : State) (k cause : Nat) (os : List (Nat × Nat × Nat)) : Only getStall [k] s (voidOps s k cause os) :=
  Only.voidOps (fun s id tag v => only_voidOp s k id tag cause v) os s

theorem onlyReg_voidOps (s : State) (k cause : Nat) (os : List (Nat × Nat × Nat)) : Only rdReg (voidRegs k) s (voidOps s k cause os) :=
  Only.voidOps (fun s id tag v => onlyReg_voidOp s k id tag cause v) os s

/-- A void reaches the vectors of a stall's record and nothing else of it. -/
theorem getStall_voidOps (s : State) (k cause : Nat) (os : List (Nat × Nat × Nat)) :
    ∃ fs tf, getStall (voidOps s k cause os) k = { getStall s k with fetches := fs, toFetch := tf } := by
  induction os generalizing s with
  | nil => exact ⟨(getStall s k).fetches, (getStall s k).toFetch, rfl⟩
  | cons o os ih =>
    obtain ⟨fs, tf, hrec⟩ := ih (voidOp s k o.1 o.2.1 cause o.2.2)
    rw [getStall_voidOp_same] at hrec
    exact ⟨fs, tf, hrec⟩

/-! The cut of a running pass (R118, log entry 6). -/

/-- R118: the vectors of the running pass of `o` that have been modulated when a halt takes effect. -/
def cutVector (s : State) (o : OpRun) : Nat := min o.n (o.vDone + 1 + Config.cutPoint s.freeCtr % (o.n - o.vDone))

theorem lt_cutVector (s : State) {o : OpRun} (h : o.vDone < o.n) : o.vDone < cutVector s o :=
  Nat.lt_min.mpr ⟨h, by omega⟩

theorem cutVector_le (s : State) (o : OpRun) : cutVector s o ≤ o.n := Nat.min_le_left ..

/-- R118, R120: the record once the running pass of `o` has been halted after vector `v`: a remainder waits, or the pass is
done (log entry 233). -/
def Stall.cutAt (x : Stall) (o : OpRun) (rest : List OpRun) (v : Nat) (time : W64) : Stall :=
  if v < o.n then
    { x with darkFrom := some time, modulating := false, issue := { o with vDone := v, remainder := true } :: rest }
  else ({ x with darkFrom := some time } : Stall).passDone o rest true

/-- A cut reaches the issue port, and hands over what has run its last pass. -/
theorem Stall.cutAt_frame (x : Stall) (o : OpRun) (rest : List OpRun) (v : Nat) (time : W64) : ∃ q f,
    x.cutAt o rest v time = { x with darkFrom := some time, modulating := false, issue := q, finishing := f }
    ∧ (v < o.n → q = { o with vDone := v, remainder := true } :: rest) ∧ (v = o.n → o.hasLow = false → q = rest) := by
  unfold cutAt
  split
  · next h => exact ⟨_, x.finishing, rfl, fun _ => rfl, fun he => absurd h (he ▸ Nat.lt_irrefl v)⟩
  · next h =>
    cases hlow : o.hasLow with
    | false => exact ⟨_, _, passDone_last hlow .., fun h' => absurd h' h, fun _ _ => rfl⟩
    | true => exact ⟨_, x.finishing, passDone_low hlow .., fun h' => absurd h' h, fun _ hf => absurd hf.symm Bool.false_ne_true⟩

/-- R118: the state in which the running pass of `o` has been halted, before its void is reported. -/
def passHalted (s : State) (k : Nat) (o : OpRun) (rest : List OpRun) : State :=
  let t := runVectors s k o (cutVector s o)
  putStall t k ((getStall t k).cutAt o rest (cutVector s o) s.time)

theorem only_passHalted (s : State) (k : Nat) (o : OpRun) (rest : List OpRun) : Only getStall [k] s (passHalted s k o rest) :=
  (only_runVectors s k o _).trans (only_putStall _ _ _)

theorem getStall_passHalted_same (s : State) (k : Nat) (o : OpRun) (rest : List OpRun) : ∃ tr rs, getStall (passHalted s k o rest) k
    = ({ getStall s k with trough := tr, retries := rs } : Stall).cutAt o rest (cutVector s o) s.time := by
  obtain ⟨tr, rs, hrun, -, -⟩ := getStall_runVectors s k o (cutVector s o)
  rw [passHalted, getStall_putStall_same, hrun]
  exact ⟨_, _, rfl⟩

section
variable {s : State} {k : Nat} (cause : Nat)

theorem haltStall_of_dark (hretry : (getStall s k).retries = []) (hmod : (getStall s k).modulating = false) :
    haltStall s k cause = s := by
  simp only [haltStall, hretry, hmod]
  split <;> rfl

/-- A halt of a running pass reports what is left of the operation, where something is left. -/
theorem haltStall_of_modulating {o : OpRun} {rest : List OpRun} (hretry : (getStall s k).retries = [])
    (hissue : (getStall s k).issue = o :: rest) (hmod : (getStall s k).modulating = true) :
    haltStall s k cause
      = if cutVector s o < o.n ∨ o.hasLow = true then voidEvent (passHalted s k o rest) k o.d.tag cause (cutVector s o) true
        else passHalted s k o rest := by
  have htime (v : Nat) : (runVectors s k o v).time = s.time := (runVectors_fr ..).same .time rfl
  have hcut : min o.n (o.vDone + 1 + Config.cutPoint s.freeCtr % (o.n - o.vDone)) = cutVector s o := rfl
  simp only [haltStall, hretry, hissue, hmod, htime, hcut, if_true, passHalted]
  by_cases hv : cutVector s o < o.n
  · simp only [Stall.cutAt, hv, if_true, true_or]
  · have hlast : cutVector s o = o.n := Nat.le_antisymm (cutVector_le s o) (Nat.not_lt.mp hv)
    simp only [Stall.cutAt, hlast, Nat.lt_irrefl, if_false, false_or]

/-- The report of a void leaves the records as the halt left them. -/
theorem getStall_haltStall {o : OpRun} {rest : List OpRun} (hretry : (getStall s k).retries = [])
    (hissue : (getStall s k).issue = o :: rest) (hmod : (getStall s k).modulating = true) (j : Nat) :
    getStall (haltStall s k cause) j = getStall (passHalted s k o rest) j := by
  rw [haltStall_of_modulating cause hretry hissue hmod]
  split
  · rw [getStall_voidEvent]
  · rfl

/-- What a halt of a running pass leaves: the vectors up to `cutVector`, and the rest of the operation at the issue port. -/
theorem haltStall_spec {o : OpRun} {rest : List OpRun} (hretry : (getStall s k).retries = [])
    (hissue : (getStall s k).issue = o :: rest) (hmod : (getStall s k).modulating = true) :
    (∃ tr rs q f, getStall (haltStall s k cause) k
      = { getStall s k with
          trough := tr, retries := rs, darkFrom := some s.time, modulating := false, issue := q, finishing := f }
      ∧ (cutVector s o < o.n → q = { o with vDone := cutVector s o, remainder := true } :: rest)
      ∧ (cutVector s o = o.n → o.hasLow = false → q = rest))
    ∧ (cutVector s o < o.n → getF (haltStall s k cause) Fld.STL_LASTVOID_CAUSE k = cause % 8)
    ∧ Only getStall [k] s (haltStall s k cause) := by
  have hhalt := getStall_haltStall cause hretry hissue hmod
  obtain ⟨tr, rs, hrec⟩ := getStall_passHalted_same s k o rest
  obtain ⟨q, f, hcut, hissue'⟩ := Stall.cutAt_frame { getStall s k with trough := tr, retries := rs } o rest (cutVector s o) s.time
  refine ⟨⟨tr, rs, q, f, (hhalt k).trans (hrec.trans hcut), hissue'⟩, fun hlt => ?_,
    fun j hj => (hhalt j).trans (only_passHalted s k o rest j hj)⟩
  rw [haltStall_of_modulating cause hretry hissue hmod, if_pos (.inl hlt), getF_voidEvent_cause]

end

/-! STL_CTRL (R121 to R123). -/

/-- R122: the state in which stall `k` has entered STOPPING with CUT, before its running work is halted. -/
def cutEntered (s : State) (k : Nat) : State := putStall s k { getStall s k with state := .stopping, cutting := true }

theorem getStall_cutEntered_same (s : State) (k : Nat) :
    getStall (cutEntered s k) k = { getStall s k with state := .stopping, cutting := true } := getStall_putStall_same ..

section
variable {s : State} {k : Fin 16}

theorem stallStart_next (h : (getStall s k).state = .stopped) :
    exec (.stallStart k) s = .next (resumeStall (putStall s k { getStall s k with state := .run, cutting := false }) k) := by
  simp [exec, execStallStart, stlCtrlWrite, h]

theorem stallStop_next (h : (getStall s k).state = .run) :
    exec (.stallStop k) s = .next (putStall s k { getStall s k with state := .stopping }) := by
  simp [exec, execStallStop, stlCtrlWrite, h]

theorem stallStopCut_next (h : (getStall s k).state = .run ∨ (getStall s k).state = .stopping) :
    exec (.stallStopCut k) s = .next (haltStall (cutEntered s k) k 7) := by
  simp [exec, execStallStopCut, stlCtrlWrite, cutEntered, h]

theorem stallStopped_next (hst : (getStall s k).state = .stopping) (hload : (getStall s k).strings ≠ .load)
    (hmod : (getStall s k).modulating = false) (hretry : (getStall s k).retries = []) (hfin : (getStall s k).finishing = [])
    (hdone : (getStall s k).issue = [] ∨ (getStall s k).cutting = true) :
    exec (.stallStopped k) s
      = .next (retireEnds (putStall s k { getStall s k with state := .stopped, cutting := false }) k) := by
  simp only [exec, execStallStopped]
  rw [if_pos ⟨hst, hload, by simp [hmod, hretry, hfin], hdone.symm.imp_right fun hissue => ⟨hissue, hretry⟩⟩]

end

/-! STL_CFG (R124, R125, R127). -/

/-- R125: the state once STL_CFG holds `range` and `off`; a change of RANGE grounds the stall. -/
def cfgWritten (s : State) (k range : Nat) (off : Bool) : State :=
  setF (setF (if getF s Fld.STL_CFG_RANGE k = range then s else putStall s k (getStall s k).ground) Fld.STL_CFG_RANGE range k)
    Fld.STL_CFG_OFFLINE (b01 off) k

theorem range_lt_two (s : State) (k : Nat) : getF s Fld.STL_CFG_RANGE k < 2 := Nat.mod_lt _ (by decide)

theorem b01_lt_two (b : Bool) : b01 b < 2 := by cases b <;> decide

section
variable (s : State) (k range : Nat) (off : Bool)

theorem getStall_cfgWritten_same : getStall (cfgWritten s k range off) k
    = if getF s Fld.STL_CFG_RANGE k = range then getStall s k else (getStall s k).ground := by
  rw [cfgWritten, getStall_setF, getStall_setF]
  split
  · rfl
  · rw [getStall_putStall_same]

theorem getF_cfgWritten_offline : getF (cfgWritten s k range off) Fld.STL_CFG_OFFLINE k = b01 off := by
  rw [cfgWritten, getF_setF_same _ _ _ _ _ (by decide)]
  exact Nat.mod_eq_of_lt (b01_lt_two off)

theorem getF_cfgWritten_range {range : Nat} (h : range < 2) : getF (cfgWritten s k range off) Fld.STL_CFG_RANGE k = range := by
  rw [cfgWritten, getF_setF_bits (f := Fld.STL_CFG_OFFLINE) (g := Fld.STL_CFG_RANGE) _ _ _ _ _ _ _ _ rfl (by decide) (by decide)
    (by decide), getF_setF_same _ _ _ _ _ (by decide)]
  exact Nat.mod_eq_of_lt h

theorem only_cfgWritten : Only getStall [k] s (cfgWritten s k range off) := fun j hj => by
  rw [cfgWritten, getStall_setF, getStall_setF]
  split
  · rfl
  · rw [only_putStall _ _ _ j hj]

theorem onlyReg_cfgWritten : Only rdReg [Reg.STL_CFG.addr k 0 0] s (cfgWritten s k range off) := fun b hb => by
  have hne : b ≠ Reg.STL_CFG.addr k 0 0 := fun h => hb (List.mem_singleton.mpr h)
  rw [cfgWritten, rdReg_setF_ne (f := Fld.STL_CFG_OFFLINE) _ hne, rdReg_setF_ne (f := Fld.STL_CFG_RANGE) _ hne]
  split
  · rfl
  · rw [rdReg_putStall]

theorem cfgWritten_fr : Fr 0x88 s (cfgWritten s k range off) :=
  Fr.post (setF_fr ..) rfl (Fr.post (setF_fr ..) rfl (Fr.ite (Fr.refl _ _) ((putStall_fr ..).mono rfl)))

end

/-- R127, R98: the state once STL_CFG holds OFFLINE and stall `k` is OFFLINE, before the voids of what waited at its entry. -/
def wentOffline (s : State) (k range : Nat) : State :=
  putStall (cfgWritten s k range true) k { getStall (cfgWritten s k range true) k with state := .offline, entry := [] }

section
variable {s : State} {req : Requester} {k range : Nat}

/-- The two fields of a value of STL_CFG. -/
theorem cfgValue_fields (h : range < 2) (off : Bool) : (range + 2 * b01 off) % 2 = range ∧ bitOf (range + 2 * b01 off) 1 = off := by
  cases off with
  | false => simp [b01, bitOf]; omega
  | true => simp [b01, bitOf]; omega

/-- R124: a write of STL_CFG that leaves a stall that is not OFFLINE in service. -/
theorem stlCfgWrite_online (hstill : (getStall s k).still req = true) (hissue : (getStall s k).issue = [])
    (hwaits : (getStall s k).waits = false) (hrange : range < 2) (hst : (getStall s k).state ≠ .offline) :
    stlCfgWrite s req k (range + 2 * b01 false) = cfgWritten s k range false := by
  obtain ⟨hlow, hoff⟩ := cfgValue_fields hrange false
  have hst' : (getStall (cfgWritten s k range false) k).state ≠ .offline := by
    rw [getStall_cfgWritten_same]
    split <;> exact hst
  rw [stlCfgWrite, if_pos (by rw [hstill, hissue, hwaits]; rfl), hlow, hoff]
  exact if_neg hst'

/-- R127: a write of STL_CFG that takes a stall out of service. -/
theorem stlCfgWrite_offline (hstill : (getStall s k).still req = true) (hissue : (getStall s k).issue = [])
    (hwaits : (getStall s k).waits = false) (hrange : range < 2) :
    stlCfgWrite s req k (range + 2 * b01 true) = voidOps (wentOffline s k range) k 4
      ((getStall (cfgWritten s k range true) k).entry.map (fun q => (q.id, q.d.tag, 0))) := by
  obtain ⟨hlow, hoff⟩ := cfgValue_fields hrange true
  rw [stlCfgWrite, if_pos (by rw [hstill, hissue, hwaits]; rfl), hlow, hoff]
  rfl

end

section
variable (s : State) (k : Nat)

/-- A stall goes OFFLINE with its RANGE kept, and so with its nodes. -/
theorem getStall_wentOffline_same : getStall (wentOffline s k (getF s Fld.STL_CFG_RANGE k)) k
    = { getStall s k with state := .offline, entry := [] } := by
  rw [wentOffline, getStall_putStall_same, getStall_cfgWritten_same, if_pos rfl]

theorem only_wentOffline (range : Nat) : Only getStall [k] s (wentOffline s k range) :=
  (only_cfgWritten s k range true).trans (only_putStall _ _ _)

theorem getF_wentOffline_offline (range : Nat) : getF (wentOffline s k range) Fld.STL_CFG_OFFLINE k = 1 := by
  rw [wentOffline, getF_putStall, getF_cfgWritten_offline]
  rfl

/-- R127: what a stall with no work left is after a write of OFFLINE, the voids of what waited at its entry included. -/
theorem stlCfgWrite_offline_spec {req : Requester} (hstill : (getStall s k).still req = true) (hissue : (getStall s k).issue = [])
    (hwaits : (getStall s k).waits = false) :
    let t := stlCfgWrite s req k (getF s Fld.STL_CFG_RANGE k + 2 * b01 true)
    (∃ fs tf, getStall t k = { getStall s k with state := .offline, entry := [], fetches := fs, toFetch := tf })
    ∧ getF t Fld.STL_CFG_OFFLINE k = 1 ∧ Only getStall [k] s t := by
  dsimp only
  rw [stlCfgWrite_offline hstill hissue hwaits (range_lt_two s k)]
  generalize (getStall (cfgWritten s k (getF s Fld.STL_CFG_RANGE k) true) k).entry.map (fun q => (q.id, q.d.tag, 0)) = os
  obtain ⟨fs, tf, hrec⟩ := getStall_voidOps (wentOffline s k (getF s Fld.STL_CFG_RANGE k)) k 4 os
  have hreg := onlyReg_voidOps (wentOffline s k (getF s Fld.STL_CFG_RANGE k)) k 4 os _ (cfgAddr_not_mem_voidRegs k)
  rw [getStall_wentOffline_same] at hrec
  refine ⟨⟨fs, tf, hrec⟩, ?_, (only_wentOffline s k _).trans (only_voidOps _ _ _ _)⟩
  rw [← getF_wentOffline_offline s k (getF s Fld.STL_CFG_RANGE k)]
  exact congrArg (fun v : W64 => bitsOf v.toNat 1 1) hreg

end

/-! STL_RESET (R125, R126). -/

/-- R125: the record after a stall reset. -/
def Stall.afterReset (x : Stall) : Stall :=
  { x.ground with
    buffer := [], cursor := x.tilesIn, actSeq := x.tilesIn, retries := [], drain := [], issue := [], modulating := false
    lastDir := false, finishing := x.finishing.filter (fun o => !x.retries.any (fun r => r.o.id == o.id)) }

/-- R125, Table 4.5: what a stall reset voids: operations whose retry waits, and the issue port. -/
def Stall.resetVoids (x : Stall) : List (Nat × Nat × Nat) :=
  (x.finishing.filter (fun o => x.retries.any (fun r => r.o.id == o.id))).map (fun o => (o.id, o.d.tag, o.n))
    ++ x.issue.map (fun o => (o.id, o.d.tag, o.vDone))

section
variable {s : State} {req : Requester} {k : Nat}

theorem stlResetWrite_still (h : (getStall s k).still req = true) :
    stlResetWrite s req k 1 = voidOps (putStall s k (getStall s k).afterReset) k 4 (getStall s k).resetVoids := by
  simp only [stlResetWrite, h]
  rfl

theorem getStall_stlResetWrite (h : (getStall s k).still req = true) :
    ∃ fs tf, getStall (stlResetWrite s req k 1) k = { (getStall s k).afterReset with fetches := fs, toFetch := tf } := by
  rw [stlResetWrite_still h]
  obtain ⟨fs, tf, hrec⟩ := getStall_voidOps (putStall s k (getStall s k).afterReset) k 4 (getStall s k).resetVoids
  rw [getStall_putStall_same] at hrec
  exact ⟨fs, tf, hrec⟩

theorem only_stlResetWrite (h : (getStall s k).still req = true) : Only getStall [k] s (stlResetWrite s req k 1) := by
  rw [stlResetWrite_still h]
  exact (only_putStall _ _ _).trans (only_voidOps _ _ _ _)

end

/-! A stall that ostler firmware takes out of service (R127, log entry 181). -/

theorem Stall.still_of_stopped {x : Stall} (h : x.state = .stopped) (req : Requester) : x.still req = true := by
  simp [still, h]

theorem retireEnds_of_none {s : State} {k : Nat} (h : (getStall s k).retiring = none) : retireEnds s k = s := by
  simp only [retireEnds, h]

/-- R127: RESET and OFFLINE, the writes of ostler firmware to a stall it retires. -/
def resetOffline (s : State) (k : Nat) : State :=
  let s := stlResetWrite (putStall s k { getStall s k with retiring := none }) .ostler k 1
  stlCfgWrite s .ostler k (getF s Fld.STL_CFG_RANGE k + 2 * b01 true)

theorem retireEnds_of_some {s : State} {k : Nat} {d : Bool} (h : (getStall s k).retiring = some d)
    (hst : (getStall s k).state = .stopped) :
    retireEnds s k = if d then releaseFar (resetOffline s k) k else resetOffline s k := by
  simp only [retireEnds, h]
  exact if_pos hst

section
variable {s : State} {k : Nat}

/-- The reset leaves no work, so that the write of OFFLINE is accepted. -/
theorem resetOffline_spec (hst : (getStall s k).state = .stopped) :
    (getStall (resetOffline s k) k).state = .offline ∧ (getStall (resetOffline s k) k).issue = []
    ∧ (getStall (resetOffline s k) k).entry = [] ∧ getF (resetOffline s k) Fld.STL_CFG_OFFLINE k = 1
    ∧ Only getStall [k] s (resetOffline s k) := by
  have hstill : (getStall (putStall s k { getStall s k with retiring := none }) k).still .ostler = true :=
    Stall.still_of_stopped (by rw [getStall_putStall_same]; exact hst) _
  obtain ⟨fs, tf, hreset⟩ := getStall_stlResetWrite hstill
  have honly := (only_putStall s k { getStall s k with retiring := none }).trans (only_stlResetWrite hstill)
  rw [getStall_putStall_same] at hreset
  obtain ⟨⟨fs', tf', hrec⟩, hcfg, honly'⟩ := stlCfgWrite_offline_spec
    (stlResetWrite (putStall s k { getStall s k with retiring := none }) .ostler k 1) k (req := .ostler)
    (Stall.still_of_stopped (by rw [hreset]; exact hst) _) (by rw [hreset]; rfl) (by rw [hreset]; rfl)
  rw [hreset] at hrec
  rw [resetOffline, hrec]
  exact ⟨rfl, rfl, rfl, hcfg, honly.trans honly'⟩

/-- R346: releasing a stall with an empty issue port clears HOLD_FAR and starts nothing. -/
theorem getStall_releaseFar_of_empty (h : (getStall s k).issue = []) :
    getStall (releaseFar s k) k = { getStall s k with far := false, farOwns := false, farKept := false } := by
  rw [releaseFar, getStall_resumeStall_same, getStall_putStall_same]
  exact Stall.resume_of_none_begun (by rw [h]; rfl) _

theorem only_releaseFar (s : State) (k : Nat) : Only getStall [k] s (releaseFar s k) :=
  (only_putStall s k _).trans (only_resumeStall _ _)

theorem retireEnds_spec {d : Bool} (h : (getStall s k).retiring = some d) (hst : (getStall s k).state = .stopped) :
    (getStall (retireEnds s k) k).state = .offline ∧ getF (retireEnds s k) Fld.STL_CFG_OFFLINE k = 1
    ∧ (getStall (retireEnds s k) k).issue = [] ∧ (getStall (retireEnds s k) k).entry = []
    ∧ (d = true → (getStall (retireEnds s k) k).far = false) ∧ Only getStall [k] s (retireEnds s k) := by
  obtain ⟨hoff, hissue, hentry, hcfg, honly⟩ := resetOffline_spec hst
  rw [retireEnds_of_some h hst]
  cases d with
  | false =>
    rw [if_neg Bool.false_ne_true]
    exact ⟨hoff, hcfg, hissue, hentry, fun h => (Bool.false_ne_true h).elim, honly⟩
  | true =>
    have hreg : (releaseFar (resetOffline s k) k).regs = (resetOffline s k).regs := (releaseFar_fr ..).same .regs rfl
    rw [if_pos rfl, getStall_releaseFar_of_empty hissue, getF_congr _ _ _ _ hreg]
    dsimp only
    exact ⟨hoff, hcfg, hissue, hentry, fun _ => rfl, honly.trans (only_releaseFar _ _)⟩

end

/-! The bridleway's commands, each with the state it answers where its rule lets it act. -/
section
variable {s : State} {req : Requester} {k : Fin 16}

theorem stlCfgRange_next {range : Bool} (hreq : req.bridle = true) (hst : (getStall s k).state = .stopped)
    (hissue : (getStall s k).issue = []) (hwaits : (getStall s k).waits = false) (hoff : getF s Fld.STL_CFG_OFFLINE k = 0) :
    exec (.stlCfgRange req k range) s = .next (cfgWritten s k (b01 range) false) := by
  have hne : (getStall s k).state ≠ .offline := by rw [hst]; decide
  simp only [exec, execStlCfgRange, hreq, hoff]
  exact congrArg _ (stlCfgWrite_online (Stall.still_of_stopped hst req) hissue hwaits (b01_lt_two range) hne)

theorem stlCfgOffline_next (hreq : req.bridle = true) (hstill : (getStall s k).still req = true)
    (hissue : (getStall s k).issue = []) (hwaits : (getStall s k).waits = false) (hentry : (getStall s k).entry = []) :
    exec (.stlCfgOffline req k true) s = .next (wentOffline s k (getF s Fld.STL_CFG_RANGE k)) := by
  have hnone : (getStall (cfgWritten s k (getF s Fld.STL_CFG_RANGE k) true) k).entry = [] := by
    rw [getStall_cfgWritten_same, if_pos rfl, hentry]
  simp only [exec, execStlCfgOffline, hreq, if_true]
  rw [stlCfgWrite_offline hstill hissue hwaits (range_lt_two s k), hnone]
  rfl

theorem stlReset_next (hreq : req.bridle = true) (hstill : (getStall s k).still req = true)
    (hissue : (getStall s k).issue = []) (hfin : (getStall s k).finishing = []) :
    exec (.stlReset req k) s = .next (putStall s k (getStall s k).afterReset) := by
  simp only [exec, execStlReset, hreq, if_true]
  rw [stlResetWrite_still hstill, Stall.resetVoids, hissue, hfin]
  rfl

end

/-- Settles O4, one command after the other: the cut from `haltStall_spec`, the end of a stall that is retired from
`retireEnds_spec`, the rest from the state each command answers. -/
theorem stallControl : Obligations.StallControl := by
  refine ⟨fun k s hst => ?start, fun k s hst => ?stop, fun k s hst hmod hretry => ?cutDark,
    fun k s o rest hst hretry hissue hmod hv => ?cutRunning, fun k s hst hload hmod hretry hfin hret hdone => ?stopped,
    fun k s d hst hload hmod hretry hfin hret hcut => ?retired, fun req k range s hreq hst hissue hwaits hoff => ?range,
    fun req k s hreq hstill hissue hwaits hentry => ?offline, fun req k s hreq hstill hissue hfin => ?reset⟩
  case start =>
    have hstep := stallStart_next hst
    obtain ⟨m, q, hrec⟩ := Stall.resume_frame { getStall s k with state := .run, cutting := false }
      (pauseOver (putStall s k { getStall s k with state := .run, cutting := false }) k)
    refine ⟨_, hstep, ?_⟩
    rw [getStall_resumeStall_same, getStall_putStall_same, hrec]
    exact ⟨rfl, rfl, (only_putStall _ _ _).trans (only_resumeStall _ _),
      (Fr.post (resumeStall_fr ..) rfl (putStall_fr s k _) : Fr 0x80 s _).touches_maskOf rfl⟩
  case stop =>
    refine ⟨_, stallStop_next hst, ?_⟩
    rw [getStall_putStall_same]
    exact ⟨rfl, rfl, rfl, putStall_frame ..⟩
  case cutDark =>
    have hrec := getStall_cutEntered_same s k
    refine ⟨_, stallStopCut_next hst, ?_⟩
    rw [haltStall_of_dark 7 (by rw [hrec]; exact hretry) (by rw [hrec]; exact hmod), hrec]
    exact ⟨rfl, rfl, rfl, putStall_frame ..⟩
  case cutRunning =>
    have hstep := stallStopCut_next hst
    have htouch := ((execStallStopCut_fr ..).keeps hstep).touches_maskOf (l := [.freeCtr, .regs, .ev, .stall]) rfl
    have hput := getStall_cutEntered_same s k
    obtain ⟨⟨tr, rs, q, f, hrec, hrem, hlast⟩, hcause, honly⟩ := haltStall_spec 7 (s := cutEntered s k)
      (by rw [hput]; exact hretry) (by rw [hput]; exact hissue) (by rw [hput]; exact hmod)
    refine ⟨_, cutVector (cutEntered s k) o, hstep, lt_cutVector _ hv, cutVector_le _ o, ?_⟩
    rw [hrec, hput]
    exact ⟨rfl, rfl, rfl, rfl, fun hlt => ⟨hrem hlt, hcause hlt⟩, hlast, (only_putStall _ _ _).trans honly, htouch⟩
  case stopped =>
    refine ⟨_, stallStopped_next hst hload hmod hretry hfin hdone, ?_⟩
    rw [retireEnds_of_none (by rw [getStall_putStall_same]; exact hret), getStall_putStall_same]
    exact ⟨rfl, rfl, putStall_frame ..⟩
  case retired =>
    obtain ⟨hoff, hcfg, hissue, hentry, hfar, honly⟩ :=
      retireEnds_spec (s := putStall s k { getStall s k with state := .stopped, cutting := false }) (k := k) (d := d)
        (by rw [getStall_putStall_same]; exact hret) (by rw [getStall_putStall_same])
    exact ⟨_, stallStopped_next hst hload hmod hretry hfin (.inr hcut), hoff, hcfg, hissue, hentry, hfar,
      (only_putStall _ _ _).trans honly⟩
  case range =>
    refine ⟨_, stlCfgRange_next hreq hst hissue hwaits hoff, getF_cfgWritten_range _ _ _ (b01_lt_two range),
      getF_cfgWritten_offline .., ?_, getStall_cfgWritten_same .., only_cfgWritten s k _ _, onlyReg_cfgWritten s k _ _,
      (cfgWritten_fr ..).touches_maskOf rfl⟩
    rw [getStall_cfgWritten_same]
    split <;> exact hst
  case offline =>
    refine ⟨_, stlCfgOffline_next hreq hstill hissue hwaits hentry, ?_, getF_wentOffline_offline .., ?_, only_wentOffline s k _, ?_, ?_⟩
    · rw [getStall_wentOffline_same]
    · rw [wentOffline, getF_putStall, getF_cfgWritten_range _ _ _ (range_lt_two s k)]
    · exact (onlyReg_cfgWritten s k _ true).trans fun b _ => rdReg_putStall ..
    · exact (Fr.post (putStall_fr ..) rfl (cfgWritten_fr s k _ true) : Fr 0x88 s _).touches_maskOf rfl
  case reset =>
    refine ⟨_, stlReset_next hreq hstill hissue hfin, ?_⟩
    rw [getStall_putStall_same]
    exact ⟨rfl, rfl, rfl, rfl, rfl, rfl, putStall_frame ..⟩

end Sys2Proof.Machine
end

section
/-! SUPPORT. How an instruction issues (R131, R135, R143): an issuing thread runs its body on the state its fetch leaves, and either
retires with what the body gives or takes the body's trap. The thread an instruction's body sees differs from the thread in its PC alone. -/
namespace Sys2Proof.Machine

section
variable {s u v : State} {i n : Nat} {rs : List RegRef} {body : State → Thread → IssueEnd} {th : Thread}

/-- R131, R143: the two ends of the body of an instruction that issues. -/
theorem issue_of_issues (h : Issues s u i n rs) :
    (∀ v th, body u (pastPc s i n) = .done v th → issue s i n rs body = addF (putThread v i n th) Fld.SHD_RETIRED_COUNT 1 i)
    ∧ (∀ cause tval, body u (pastPc s i n) = .trap cause tval →
      issue s i n rs body = takeTrap u i n cause false tval (getThread s i n).pc (getThread s i n).pc) := by
  obtain ⟨hmay, hready, hfetch⟩ := h
  simp only [issue, hmay, hready, hfetch, Bool.and_self, if_true]
  rw [pastPc]
  refine ⟨fun v th hbody => ?_, fun cause tval hbody => ?_⟩
  · rw [hbody]
  · rw [hbody]

theorem issue_of_done (h : Issues s u i n rs) (hbody : body u (pastPc s i n) = .done v th) :
    issue s i n rs body = addF (putThread v i n th) Fld.SHD_RETIRED_COUNT 1 i := (issue_of_issues h).1 v th hbody

theorem issue_of_trap {cause : Nat} {tval : W64} (h : Issues s u i n rs) (hbody : body u (pastPc s i n) = .trap cause tval) :
    issue s i n rs body = takeTrap u i n cause false tval (getThread s i n).pc (getThread s i n).pc :=
  (issue_of_issues h).2 cause tval hbody

/-- One thread replaced and one instruction counted. -/
theorem retired_putThread_addF (v : State) (i n : Nat) (th : Thread) :
    Retired v (addF (putThread v i n th) Fld.SHD_RETIRED_COUNT 1 i) i n th := by
  have hcount := getF_addF_same (f := Fld.SHD_RETIRED_COUNT) (putThread v i n th) 1 i 0 0 (by decide)
  rw [getF_putThread] at hcount
  refine ⟨?_, fun j m hne => ?_, hcount, fun b hb => ?_, ?_⟩
  · rw [getThread_addF, getThread_putThread_same]
  · rw [getThread_addF, getThread_putThread_ne _ _ _ _ hne]
  · have hreg : b ≠ Reg.SHD_RETIRED.addr i 0 0 := fun h => hb (List.mem_singleton.mpr h)
    rw [rdReg_addF_ne (f := Fld.SHD_RETIRED_COUNT) _ hreg, rdReg_putThread]
  · exact (Fr.post (addF_fr ..) rfl ((putThread_fr ..).mono rfl) : Fr 0x108 v _).touches_maskOf rfl

theorem retired_of_done (h : Issues s u i n rs) (hbody : body u (pastPc s i n) = .done v th) :
    Retired v (issue s i n rs body) i n th := by
  rw [issue_of_done h hbody]
  exact retired_putThread_addF ..

/-- R143: a scalar instruction with MASK = 0 and a function its class has retires with its function of the thread. -/
theorem retired_scalarOp {mask : Nat} {f : Thread → Thread} {known : Bool} (h : Issues s u i n rs) (hmask : mask = 0)
    (hknown : known = true) : Retired u (scalarOp s i n mask rs f known) i n (f (pastPc s i n)) := by
  refine retired_of_done h (if_neg ?_)
  rw [hmask, hknown]
  decide

/-- R143: any other traps with cause 1. -/
theorem scalarOp_of_illegal {mask : Nat} {f : Thread → Thread} {known : Bool} (h : Issues s u i n rs)
    (hill : mask ≠ 0 ∨ known = false) :
    scalarOp s i n mask rs f known = takeTrap u i n 1 false 0 (getThread s i n).pc (getThread s i n).pc :=
  issue_of_trap h (if_pos hill)

end

/-! What the body of an instruction reads of its thread. -/
section
variable (s : State) (i n : Nat)

@[simp] theorem xr_pastPc (r : Nat) : (pastPc s i n).xr r = (getThread s i n).xr r := rfl

@[simp] theorem vr_pastPc (r : Nat) : (pastPc s i n).vr r = (getThread s i n).vr r := rfl

@[simp] theorem out_pastPc : (pastPc s i n).out = (getThread s i n).out := rfl

@[simp] theorem fence_pastPc : (pastPc s i n).fence = (getThread s i n).fence := rfl

@[simp] theorem handler_pastPc : (pastPc s i n).handler = (getThread s i n).handler := rfl

@[simp] theorem accessIssues_pastPc (release : Bool) : (pastPc s i n).accessIssues release = (getThread s i n).accessIssues release := rfl

/-- The PC an instruction leaves is 4 past its own. -/
@[simp] theorem pc_pastPc_sub : (pastPc s i n).pc - 4 = (getThread s i n).pc := BitVec.add_sub_cancel ..

end

end Sys2Proof.Machine
end

section
/-! SUPPORT. The scalar classes 0 to 2 (R131, R143, Table 5.5). -/
namespace Sys2Proof.Machine

/-- Settles O5: each instruction is a `scalarOp`, which retires with its function of the thread. -/
theorem scalarArithmetic : Obligations.ScalarArithmetic := by
  refine ⟨fun i n rd ra rb s u h => ?add, fun i n rd ra rb s u h => ?sub, fun i n rd ra rb s u h => ?mul,
    fun i n rd ra rb s u h => ?div, fun i n fn rd ra rb s u h hknown => ?logic, fun i n fn rd ra rb s u h => ?shift,
    fun i n fn rd ra rb s u h hknown => ?compare, fun i n fn rd ra m s u h hknown => ?immediate, fun i n rd m s u h => ?lui⟩
  case add => exact ⟨_, exec_scalarAdd .., retired_scalarOp h rfl rfl⟩
  case sub => exact ⟨_, exec_scalarSub .., retired_scalarOp h rfl rfl⟩
  case mul => exact ⟨_, exec_mul .., retired_scalarOp h rfl rfl⟩
  case div => exact ⟨_, exec_div .., retired_scalarOp h rfl rfl⟩
  case logic => exact ⟨_, exec_scalarLogic .., retired_scalarOp h rfl hknown⟩
  case shift => exact ⟨_, exec_scalarShift .., retired_scalarOp h rfl rfl⟩
  case compare => exact ⟨_, exec_scalarCompare .., retired_scalarOp h rfl hknown⟩
  case immediate => exact ⟨_, exec_scalarImmediate .., retired_scalarOp h rfl hknown⟩
  case lui => exact ⟨_, exec_lui .., retired_scalarOp h rfl rfl⟩

/-- A branch counts its offset from its own PC (log entry 44). -/
theorem branchTo_pastPc (s : State) (i n : Nat) (off : W64) :
    branchTo (pastPc s i n) off = { pastPc s i n with pc := (getThread s i n).pc + off <<< 2 } :=
  congrArg (fun p : W64 => { pastPc s i n with pc := p + off <<< 2 }) (pc_pastPc_sub s i n)

theorem retired_branchOp {s u : State} {i n ra rb : Nat} {cond : W64 → W64 → Bool} {p : Prop} [Decidable p]
    (h : Issues s u i n [.x ra, .x rb]) (off : BitVec 15)
    (hcond : cond ((getThread s i n).xr ra) ((getThread s i n).xr rb) = true ↔ p) :
    Retired u (branchOp s i n ra rb off cond) i n
      (if p then { pastPc s i n with pc := (getThread s i n).pc + off.signExtend 64 <<< 2 } else pastPc s i n) := by
  have hret : Retired u (branchOp s i n ra rb off cond) i n _ := retired_scalarOp h rfl rfl
  rw [xr_pastPc, xr_pastPc, branchTo_pastPc] at hret
  by_cases htaken : p
  · rw [if_pos (hcond.mpr htaken)] at hret
    rw [if_pos htaken]
    exact hret
  · rw [if_neg (mt hcond.mp htaken)] at hret
    rw [if_neg htaken]
    exact hret

/-- Settles O6: the six branches from `retired_branchOp` with what each condition says, the jumps as scalar instructions. -/
theorem branchesAndJumps : Obligations.BranchesAndJumps := by
  refine ⟨fun i n ra rb off s u h => ?eq, fun i n ra rb off s u h => ?ne, fun i n ra rb off s u h => ?lt,
    fun i n ra rb off s u h => ?ge, fun i n ra rb off s u h => ?ltu, fun i n ra rb off s u h => ?geu,
    fun i n ra s u h => ?register, fun i n rd off s u h => ?link⟩
  case eq => exact ⟨_, exec_branchEq .., retired_branchOp h off beq_iff_eq⟩
  case ne => exact ⟨_, exec_branchNe .., retired_branchOp h off bne_iff_ne⟩
  case lt => exact ⟨_, exec_branchLt .., retired_branchOp h off BitVec.slt_iff_toInt_lt⟩
  case ge => exact ⟨_, exec_branchGe .., retired_branchOp h off (by simp [BitVec.slt_eq_decide])⟩
  case ltu => exact ⟨_, exec_branchLtu .., retired_branchOp h off BitVec.ult_iff_lt⟩
  case geu => exact ⟨_, exec_branchGeu .., retired_branchOp h off (by simp [BitVec.ult_eq_decide])⟩
  case register => exact ⟨_, exec_jumpToRegister .., retired_scalarOp h rfl rfl⟩
  case link =>
    refine ⟨_, exec_jumpAndLink .., ?_⟩
    rw [← branchTo_pastPc]
    exact retired_scalarOp h rfl rfl

end Sys2Proof.Machine
end

section
/-! SUPPORT. Loads, stores and atomics (R139 to R142): an access that may issue joins those its thread has outstanding. -/
namespace Sys2Proof.Machine

theorem Thread.accessIssues_of {th : Thread} {release : Bool} (hmay : th.mayAccess = true) (hrel : release = true → th.out = []) :
    th.accessIssues release = true := by
  cases release with
  | false => simp [accessIssues, hmay]
  | true => simp [accessIssues, hmay, hrel rfl]

section
variable {s u : State} {i n size : Nat} {rs : List RegRef} {body : State → Thread → IssueEnd} {addr : W64} {kind : AccKind}
  {acquire release : Bool}

/-- R139 to R141, R147: an aligned access inside the map, whose thread may access. -/
theorem issueAccess_pastPc (u : State) (kind : AccKind) (acquire : Bool) (hmay : (getThread s i n).mayAccess = true)
    (hrel : release = true → (getThread s i n).out = []) (halign : addr.toNat % size = 0) (hmap : inMap addr.toNat = true) :
    issueAccess u (pastPc s i n) addr size kind acquire release = .done u (withAccess s i n addr.toNat kind acquire) := by
  rw [issueAccess, accessIssues_pastPc, Thread.accessIssues_of hmay hrel, hmap, pc_pastPc_sub, if_neg Bool.noConfusion,
    if_neg (not_not_intro halign), if_neg Bool.noConfusion]
  rfl

theorem retired_of_issueAccess (h : Issues s u i n rs)
    (hbody : body u (pastPc s i n) = issueAccess u (pastPc s i n) addr size kind acquire release)
    (hmay : (getThread s i n).mayAccess = true) (hrel : release = true → (getThread s i n).out = [])
    (halign : addr.toNat % size = 0) (hmap : inMap addr.toNat = true) :
    Retired u (issue s i n rs body) i n (withAccess s i n addr.toNat kind acquire) :=
  retired_of_done h (hbody.trans (issueAccess_pastPc u kind acquire hmay hrel halign hmap))

end

/-! ORD, of two bits: 0 to 2 are its codes (R141). -/

theorem ord_castLE_ne (ord : Fin 3) : (ord.castLE (by decide) : Fin 4) ≠ 3 := by
  revert ord
  decide

theorem ord_castLE_beq_one (ord : Fin 3) : ((ord.castLE (by decide) : Fin 4) == 1) = (ord == 1) := by
  revert ord
  decide

theorem ord_castLE_beq_two (ord : Fin 3) : ((ord.castLE (by decide) : Fin 4) == 2) = (ord == 2) := by
  revert ord
  decide

/-- A store with release waits for every earlier access. -/
theorem out_of_ord_release {ord : Fin 3} {th : Thread} (h : ord ≠ 2 ∨ th.out = []) :
    ((ord.castLE (by decide) : Fin 4) == 2) = true → th.out = [] := by
  rw [ord_castLE_beq_two, beq_iff_eq]
  exact h.neg_resolve_left

/-- Settles O7: with a size and an ORD of the tables each command issues its access. -/
theorem loadsAndStores : Obligations.LoadsAndStores := by
  refine ⟨fun i n size ord rd ra off s u h halign hmap hmay => ?load, fun i n size ord rs ra off s u h halign hmap hmay hrel => ?store,
    fun i n ord vd ra off s u h halign hmap hmay => ?vectorLoad, fun i n ord vs ra off s u h halign hmap hmay hrel => ?vectorStore⟩
  case load =>
    refine ⟨_, exec_scalarLoad .., ?_⟩
    rw [← ord_castLE_beq_one]
    exact retired_of_issueAccess h (if_neg (not_or_intro (by simp; omega) (ord_castLE_ne ord))) hmay Bool.noConfusion halign hmap
  case store =>
    exact ⟨_, exec_scalarStore .., retired_of_issueAccess h (if_neg (not_or_intro (by simp; omega) (ord_castLE_ne ord))) hmay
      (out_of_ord_release hrel) halign hmap⟩
  case vectorLoad =>
    refine ⟨_, exec_vectorLoad .., ?_⟩
    rw [← ord_castLE_beq_one]
    exact retired_of_issueAccess h (if_neg (not_or_intro (not_not_intro rfl) (ord_castLE_ne ord))) hmay Bool.noConfusion halign hmap
  case vectorStore =>
    exact ⟨_, exec_vectorStore .., retired_of_issueAccess h (if_neg (not_or_intro (not_not_intro rfl) (ord_castLE_ne ord))) hmay
      (out_of_ord_release hrel) halign hmap⟩

/-- R142: an atomic at a manger address. -/
theorem retired_atomicOp {s u : State} {i n rd ra rb mask mod : Nat} (func : Nat) (h : Issues s u i n [.x rd, .x ra, .x rb])
    (hmask : mask = 0) (hmod : 2 ≤ mod % 4) (hlt : mod < 16)
    (halign : ((getThread s i n).xr ra).toNat % (if mod % 4 = 2 then 4 else 8) = 0)
    (hmanger : ((getThread s i n).xr ra).toNat < 0x40000000) (hmap : inMap ((getThread s i n).xr ra).toNat = true)
    (hmay : (getThread s i n).mayAccess = true) (hrel : 8 ≤ mod → (getThread s i n).out = []) :
    Retired u (atomicOp s i n func rd ra rb mask mod) i n (withAccess s i n ((getThread s i n).xr ra).toNat
      (.atomic func (if mod % 4 = 2 then 4 else 8) rd ((getThread s i n).xr rb) ((getThread s i n).xr rd)) (mod / 4 % 2 == 1)) := by
  have hrel' : (mod / 8 == 1) = true → (getThread s i n).out = [] := fun hord => hrel (by have := beq_iff_eq.mp hord; omega)
  refine retired_of_done h ?_
  dsimp only
  rw [if_neg (by omega), xr_pastPc, xr_pastPc, xr_pastPc, issueAccess_pastPc u _ _ hmay hrel' halign hmap]
  exact if_neg (by omega)

/-- Settles O8: the ten functions are one operation (R142). -/
theorem atomics : Obligations.Atomics := by
  refine ⟨fun i n rd ra rb m s u h hmod halign hmanger hmap hmay hrel => ?add,
    fun i n rd ra rb m s u h hmod halign hmanger hmap hmay hrel => ?and,
    fun i n rd ra rb m s u h hmod halign hmanger hmap hmay hrel => ?or,
    fun i n rd ra rb m s u h hmod halign hmanger hmap hmay hrel => ?xor,
    fun i n rd ra rb m s u h hmod halign hmanger hmap hmay hrel => ?swap,
    fun i n rd ra rb m s u h hmod halign hmanger hmap hmay hrel => ?cas,
    fun i n rd ra rb m s u h hmod halign hmanger hmap hmay hrel => ?mins,
    fun i n rd ra rb m s u h hmod halign hmanger hmap hmay hrel => ?maxs,
    fun i n rd ra rb m s u h hmod halign hmanger hmap hmay hrel => ?minu,
    fun i n rd ra rb m s u h hmod halign hmanger hmap hmay hrel => ?maxu⟩
  case add => exact ⟨_, exec_atomicAdd .., retired_atomicOp 0 h rfl hmod m.isLt halign hmanger hmap hmay hrel⟩
  case and => exact ⟨_, exec_atomicAnd .., retired_atomicOp 1 h rfl hmod m.isLt halign hmanger hmap hmay hrel⟩
  case or => exact ⟨_, exec_atomicOr .., retired_atomicOp 2 h rfl hmod m.isLt halign hmanger hmap hmay hrel⟩
  case xor => exact ⟨_, exec_atomicXor .., retired_atomicOp 3 h rfl hmod m.isLt halign hmanger hmap hmay hrel⟩
  case swap => exact ⟨_, exec_atomicSwap .., retired_atomicOp 4 h rfl hmod m.isLt halign hmanger hmap hmay hrel⟩
  case cas => exact ⟨_, exec_atomicCas .., retired_atomicOp 5 h rfl hmod m.isLt halign hmanger hmap hmay hrel⟩
  case mins => exact ⟨_, exec_atomicMins .., retired_atomicOp 6 h rfl hmod m.isLt halign hmanger hmap hmay hrel⟩
  case maxs => exact ⟨_, exec_atomicMaxs .., retired_atomicOp 7 h rfl hmod m.isLt halign hmanger hmap hmay hrel⟩
  case minu => exact ⟨_, exec_atomicMinu .., retired_atomicOp 8 h rfl hmod m.isLt halign hmanger hmap hmay hrel⟩
  case maxu => exact ⟨_, exec_atomicMaxu .., retired_atomicOp 9 h rfl hmod m.isLt halign hmanger hmap hmay hrel⟩

end Sys2Proof.Machine
end

section
/-! SUPPORT. The vector classes 4, 6 and 10 (R51, R58, R143, R144, Table 5.6). -/
namespace Sys2Proof.Machine

/-- Settles O9: each body retires with its lane operation, on the free values that the fetched state draws. -/
theorem vectorInstructions : Obligations.VectorInstructions := by
  refine ⟨fun i n fn ty vd va vb m s u h hknown => ?arith, fun i n ty vd va vb m s u h => ?fma, fun i n vd va vb m s u h => ?dot2,
    fun i n vd va m s u h => ?exp2, fun i n vd va m s u h => ?log2, fun i n vd va m s u h => ?rcp, fun i n vd va m s u h => ?rsqrt,
    fun i n vd va m s u h => ?sin, fun i n vd va m s u h => ?tanh⟩
  case arith => exact ⟨_, exec_vectorArith .., retired_of_done h (if_pos hknown)⟩
  case fma => exact ⟨_, exec_vfma .., retired_of_done h rfl⟩
  case dot2 => exact ⟨_, exec_vdot2 .., retired_of_done h rfl⟩
  case exp2 => exact ⟨_, exec_exp2 .., retired_of_done h rfl⟩
  case log2 => exact ⟨_, exec_log2 .., retired_of_done h rfl⟩
  case rcp => exact ⟨_, exec_rcp .., retired_of_done h rfl⟩
  case rsqrt => exact ⟨_, exec_rsqrt .., retired_of_done h rfl⟩
  case sin => exact ⟨_, exec_sin .., retired_of_done h rfl⟩
  case tanh => exact ⟨_, exec_tanh .., retired_of_done h rfl⟩

/-- Settles O10: a conversion with legal operands takes the branch of its body that retires. -/
theorem formatConversions : Obligations.FormatConversions := by
  refine ⟨fun i n vd va xs slot rnd s u h hlegal => ?tobx4, fun i n vd va xs slot rnd s u h hlegal => ?tobx8,
    fun i n vd va xs slot rnd s u h hlegal => ?tobx16, fun i n vd va xs g s u h hlegal => ?frombx4,
    fun i n vd va xs g s u h hlegal => ?frombx8, fun i n vd va xs g s u h hlegal => ?frombx16,
    fun i n vd va s u h heven => ?narrow, fun i n vd va half s u h => ?widen, fun i n vd va vb xs s u h => ?dot⟩
  case tobx4 => exact ⟨_, exec_tobx4 .., retired_of_done h (if_pos hlegal)⟩
  case tobx8 => exact ⟨_, exec_tobx8 .., retired_of_done h (if_pos hlegal)⟩
  case tobx16 => exact ⟨_, exec_tobx16 .., retired_of_done h (if_pos hlegal)⟩
  case frombx4 => exact ⟨_, exec_frombx4 .., retired_of_done h (if_pos hlegal)⟩
  case frombx8 => exact ⟨_, exec_frombx8 .., retired_of_done h (if_pos hlegal)⟩
  case frombx16 => exact ⟨_, exec_frombx16 .., retired_of_done h (if_pos hlegal)⟩
  case narrow => exact ⟨_, exec_f32tobf16 .., retired_of_done h (if_pos heven)⟩
  case widen => exact ⟨_, exec_bf16tof32 .., retired_of_done h rfl⟩
  case dot => exact ⟨_, exec_bxdot8 .., retired_of_done h rfl⟩

end Sys2Proof.Machine
end

section
/-! SUPPORT. FENCE, signal boxes and TILEOP (R141, R145, R146), and the end of an SBWAIT. -/
namespace Sys2Proof.Machine

/-- A command that replaces the record of one thread and does nothing else. -/
theorem putThread_frame (s : State) (i n : Nat) (th : Thread) :
    getThread (putThread s i n th) i n = th
    ∧ (∀ j m, j ≠ i ∨ m ≠ n → getThread (putThread s i n th) j m = getThread s j m) ∧ Touches [.shed] s (putThread s i n th) :=
  ⟨getThread_putThread_same .., fun _ _ hne => getThread_putThread_ne _ _ _ _ hne, (putThread_fr ..).touches_maskOf rfl⟩

section
variable {s : State} {i : Fin 64} {n : Fin 256} {rd box v : Nat}

theorem sbwaitWake_next (hwait : (getThread s i n).wait = .sbwait rd box v) (hrun : (getShed s i).state = .run)
    (hreached : sbxReached s (i / 16) box v = true) :
    exec (.sbwaitWake i n) s = .next (putThread s i n (endWait (getThread s i n) rd 0)) := by
  simp only [exec_sbwaitWake, execSbwaitWake, hwait, shedDie]
  exact if_pos ⟨hrun, hreached⟩

theorem sbwaitTimeout_next {e : Nat} (hwait : (getThread s i n).wait = .sbwait rd box v) (hrun : (getShed s i).state = .run)
    (hlimit : (getThread s i n).twait ≠ 0) (helapsed : (getThread s i n).twait ≤ e) :
    exec (.sbwaitTimeout i n e) s = .next (putThread s i n (endWait (getThread s i n) rd 1)) := by
  simp only [exec_sbwaitTimeout, execSbwaitTimeout, hwait]
  exact if_pos ⟨hrun, hlimit, helapsed⟩

end

/-- Settles O11: FENCE, SBINC, SBWAIT and TILEOP each take the branch of their body that retires; an SBWAIT ends as one thread
replaced. -/
theorem threadSynchronisation : Obligations.ThreadSynchronisation := by
  refine ⟨fun i n s u h => ?fence, fun i n ra rb s u h hbox hout hfence => ?sbinc, fun i n rd ra rb s u h hbox => ?sbwait,
    fun i n rd box v s hwait hrun hreached => ?wake, fun i n rd box v e s hwait hrun hlimit helapsed => ?timeout,
    fun i n w rd ra rb s u h hstall hfence hroom => ?tileop⟩
  case fence => exact ⟨_, exec_fence .., retired_of_done h rfl⟩
  case sbinc =>
    refine ⟨_, exec_sbinc .., retired_of_done h ?_⟩
    rw [out_pastPc, fence_pastPc, xr_pastPc, xr_pastPc, hout, hfence]
    exact if_neg (Nat.not_le_of_lt hbox)
  case sbwait =>
    refine ⟨_, exec_sbwait .., retired_of_done h ?_⟩
    rw [xr_pastPc, xr_pastPc, pc_pastPc_sub]
    exact if_neg (Nat.not_le_of_lt hbox)
  case wake => exact ⟨_, sbwaitWake_next hwait hrun hreached, putThread_frame ..⟩
  case timeout => exact ⟨_, sbwaitTimeout_next hwait hrun hlimit helapsed, putThread_frame ..⟩
  case tileop =>
    refine ⟨_, exec_tileop .., retired_of_done h ?_⟩
    dsimp only [shedDie]
    rw [xr_pastPc, vr_pastPc, fence_pastPc, hfence, hroom]
    exact if_neg (Nat.not_lt.mpr (Nat.le_of_lt_succ hstall))

end Sys2Proof.Machine
end

section
/-! SUPPORT. Traps (R147 to R151): a trap enters the handler, or halts the thread and writes what the shed reports of it. -/
namespace Sys2Proof.Machine

/-! R149: entering the handler. -/
section
variable {s : State} {i n cause : Nat} {deferred : Bool} {tval tpc epc : W64}

theorem takeTrap_of_enters (hvec : rdReg s (Reg.SHD_TRAPVEC.addr i 0 0) ≠ 0) (hhandler : (getThread s i n).handler = false) :
    takeTrap s i n cause deferred tval tpc epc = putThread s i n
      (entering (getThread s i n) (rdReg s (Reg.SHD_TRAPVEC.addr i 0 0)) (cause + if deferred then 32 else 0) tval tpc epc) := by
  simp only [takeTrap, hvec, hhandler, entering, if_false, Bool.false_eq_true]

theorem takeTrap_of_no_handler (hvec : rdReg s (Reg.SHD_TRAPVEC.addr i 0 0) = 0) :
    takeTrap s i n cause deferred tval tpc epc = haltOnTrap s i n cause deferred false tval tpc := if_pos hvec

theorem takeTrap_of_nested (hvec : rdReg s (Reg.SHD_TRAPVEC.addr i 0 0) ≠ 0) (hhandler : (getThread s i n).handler = true) :
    takeTrap s i n cause deferred tval tpc epc = haltOnTrap s i n cause deferred true tval tpc :=
  (if_neg hvec).trans (if_pos hhandler)

end

/-! R150, R151: halting. -/

/-- R150, R151: SHD_HALTS and SHD_ERR after a halt of a thread of shed `i`. -/
def haltFlagged (s : State) (i : Nat) (deferred nested : Bool) : State :=
  let s := setF (bumpF s Fld.SHD_HALTS_COUNT 1 i) (if deferred then Fld.SHD_ERR_BUSERR else Fld.SHD_ERR_PRECISE) 1 i
  if nested then setF s Fld.SHD_ERR_NESTED 1 i else s

/-- R150: SHD_LASTTRAP, its PC and its value after a halt. -/
def lastTrapWritten (s : State) (i n cause : Nat) (deferred nested : Bool) (tval tpc : W64) : State :=
  wrReg (wrReg (wrReg s (Reg.SHD_LASTTRAP.addr i 0 0)
    (BitVec.ofNat 64 (packDetail [(0, n), (8, cause), (13, b01 deferred), (14, b01 nested)])))
    (Reg.SHD_LASTTRAP_PC.addr i 0 0) tpc) (Reg.SHD_LASTTRAP_VAL.addr i 0 0) tval

section
variable (s : State) (i n cause : Nat) (deferred nested : Bool) (tval tpc : W64)

/-- A halt stops the thread, writes the shed's registers and raises one event. -/
theorem haltOnTrap_eq : ∃ addr detail, haltOnTrap s i n cause deferred nested tval tpc
    = raiseEv (lastTrapWritten (haltFlagged (putThread s i n { getThread s i n with running := false, handler := false }) i deferred
        nested) i n cause deferred nested tval tpc) (if nested then 0x2002 else 0x2001) (unitOf 1 i) addr detail nested :=
  ⟨_, _, rfl⟩

@[simp] theorem getThread_haltFlagged (j m : Nat) : getThread (haltFlagged s i deferred nested) j m = getThread s j m := by
  cases nested <;> simp [haltFlagged]

@[simp] theorem ev_haltFlagged : (haltFlagged s i deferred nested).ev = s.ev := by
  cases nested <;> simp [haltFlagged]

/-- SHD_HALTS is another register than SHD_ERR. -/
theorem getF_haltFlagged_count : getF (haltFlagged s i deferred nested) Fld.SHD_HALTS_COUNT i
    = min (2 ^ 32 - 1) (getF s Fld.SHD_HALTS_COUNT i + 1) := by
  have hne : Reg.SHD_HALTS.addr i 0 0 ≠ Reg.SHD_ERR.addr i 0 0 :=
    RegDesc.addr_ne_of_off (d := Reg.SHD_HALTS) (e := Reg.SHD_ERR) rfl rfl (by decide) i
  have herr (t : State) (f : Field) (hf : f.reg = Reg.SHD_ERR) :
      getF (setF t f 1 i) Fld.SHD_HALTS_COUNT i = getF t Fld.SHD_HALTS_COUNT i := getF_setF_reg _ _ _ _ _ _ _ _ (hf ▸ hne)
  have hcause : (if deferred then Fld.SHD_ERR_BUSERR else Fld.SHD_ERR_PRECISE).reg = Reg.SHD_ERR := by cases deferred <;> rfl
  have hcount := (herr _ _ hcause).trans (getF_bumpF_same (f := Fld.SHD_HALTS_COUNT) s 1 i 0 0 (by decide))
  cases nested with
  | false => exact hcount
  | true => exact (herr _ Fld.SHD_ERR_NESTED rfl).trans hcount

theorem getF_haltFlagged_nested : getF (haltFlagged s i deferred true) Fld.SHD_ERR_NESTED i = 1 :=
  getF_setF_same (f := Fld.SHD_ERR_NESTED) _ 1 i 0 0 (by decide)

@[simp] theorem getThread_lastTrapWritten (j m : Nat) :
    getThread (lastTrapWritten s i n cause deferred nested tval tpc) j m = getThread s j m :=
  (getThread_wrReg ..).trans ((getThread_wrReg ..).trans (getThread_wrReg ..))

@[simp] theorem ev_lastTrapWritten : (lastTrapWritten s i n cause deferred nested tval tpc).ev = s.ev :=
  (wrReg_ev ..).trans ((wrReg_ev ..).trans (wrReg_ev ..))

theorem rdReg_lastTrapWritten_val :
    rdReg (lastTrapWritten s i n cause deferred nested tval tpc) (Reg.SHD_LASTTRAP_VAL.addr i 0 0) = tval := rdReg_wrReg_same ..

theorem rdReg_lastTrapWritten_pc :
    rdReg (lastTrapWritten s i n cause deferred nested tval tpc) (Reg.SHD_LASTTRAP_PC.addr i 0 0) = tpc := by
  have hne : Reg.SHD_LASTTRAP_PC.addr i 0 0 ≠ Reg.SHD_LASTTRAP_VAL.addr i 0 0 :=
    RegDesc.addr_ne_of_off (d := Reg.SHD_LASTTRAP_PC) (e := Reg.SHD_LASTTRAP_VAL) rfl rfl (by decide) i
  exact (rdReg_wrReg_ne _ _ hne).trans (rdReg_wrReg_same ..)

/-- The other registers of the shed keep their fields: a register whose offset is none of the three. -/
theorem getF_lastTrapWritten {f : Field} (hblk : f.reg.blk = 1) (hlo : f.reg.lo = 0) (hoff : f.reg.off ∉ [0x28, 0x30, 0x38]) :
    getF (lastTrapWritten s i n cause deferred nested tval tpc) f i = getF s f i := by
  simp only [List.mem_cons, List.not_mem_nil, or_false, not_or] at hoff
  obtain ⟨htrap, hpc, hval⟩ := hoff
  simp only [getF, lastTrapWritten]
  rw [rdReg_wrReg_ne _ _ (RegDesc.addr_ne_of_off (e := Reg.SHD_LASTTRAP_VAL) hblk hlo hval i),
    rdReg_wrReg_ne _ _ (RegDesc.addr_ne_of_off (e := Reg.SHD_LASTTRAP_PC) hblk hlo hpc i),
    rdReg_wrReg_ne _ _ (RegDesc.addr_ne_of_off (e := Reg.SHD_LASTTRAP) hblk hlo htrap i)]

/-- R150, R151: what a halt leaves: the thread stopped and no other reached, the count, SHD_ERR.NESTED, the registers of the last trap
and the event. -/
theorem haltOnTrap_spec : let t := haltOnTrap s i n cause deferred nested tval tpc
    (getThread t i n).running = false ∧ getF t Fld.SHD_HALTS_COUNT i = min (2 ^ 32 - 1) (getF s Fld.SHD_HALTS_COUNT i + 1)
    ∧ (nested = true → getF t Fld.SHD_ERR_NESTED i = 1) ∧ rdReg t (Reg.SHD_LASTTRAP_PC.addr i 0 0) = tpc
    ∧ rdReg t (Reg.SHD_LASTTRAP_VAL.addr i 0 0) = tval
    ∧ (∃ e : EventRec, t.ev.inFlight = s.ev.inFlight ++ [e] ∧ e.code = (if nested then 0x2002 else 0x2001) ∧ e.unit = 256 + i)
    ∧ (∀ j q, j ≠ i ∨ q ≠ n → getThread t j q = getThread s j q) ∧ Touches [.regs, .ev, .shed] s t := by
  have htouch : Touches [.regs, .ev, .shed] s (haltOnTrap s i n cause deferred nested tval tpc) :=
    (haltOnTrap_fr ..).touches_maskOf rfl
  obtain ⟨addr, detail, heq⟩ := haltOnTrap_eq s i n cause deferred nested tval tpc
  dsimp only
  rw [heq] at htouch ⊢
  simp only [getThread_raiseEv, getF_raiseEv, rdReg_raiseEv, raiseEv_inFlight, getThread_lastTrapWritten, getThread_haltFlagged,
    ev_lastTrapWritten, ev_haltFlagged, putThread_ev, getThread_putThread_same, rdReg_lastTrapWritten_pc, rdReg_lastTrapWritten_val]
  refine ⟨trivial, ?count, fun hnested => ?nested, trivial, trivial, ⟨_, rfl, rfl, rfl⟩, fun j q hne => ?other, htouch⟩
  case count => rw [getF_lastTrapWritten _ _ _ _ _ _ _ _ rfl rfl (by decide), getF_haltFlagged_count, getF_putThread]
  case nested =>
    subst hnested
    rw [getF_lastTrapWritten _ _ _ _ _ _ _ _ rfl rfl (by decide), getF_haltFlagged_nested]
  case other => exact getThread_putThread_ne _ _ _ _ hne

end

end Sys2Proof.Machine
end

section
/-! SUPPORT. The control of a thread (R132, R143, R147, R149): CSRs, HALT, ERET, TRAP and deferred errors. -/
namespace Sys2Proof.Machine

/-- Table 5.2: a CSR that no row of the table lets a thread write. -/
theorem csrWrite_of_not_mem {k : Nat} (h : k ∉ [0x010, 0x011, 0x020, 0x040, 0x041, 0x042, 0x043]) (th : Thread) (v : W64) :
    csrWrite th k v = th := by
  simp only [List.mem_cons, List.not_mem_nil, or_false, not_or] at h
  obtain ⟨hfflags, hfrm, htwait, hepc, htpc, htval, hcause⟩ := h
  unfold csrWrite
  split
  case h_8 => rfl
  all_goals contradiction

/-- FRM holds the two rounding modes alone. -/
theorem csrWrite_frm {v : W64} (h : v.toNat % 4 < 2) (th : Thread) : csrWrite th 0x011 v = { th with frm := v.toNat % 4 } := by
  simp only [csrWrite, if_pos h]

section
variable {s u : State} {i : Fin 64} {n : Fin 256}

/-- R147, R149: an instruction that traps at a thread outside handler mode, where the shed has a handler. -/
theorem takeTrap_frame {cause : Nat} {tval tpc epc : W64} (hvec : rdReg u (Reg.SHD_TRAPVEC.addr i 0 0) ≠ 0)
    (hhandler : (getThread u i n).handler = false) :
    getThread (takeTrap u i n cause false tval tpc epc) i n
      = entering (getThread u i n) (rdReg u (Reg.SHD_TRAPVEC.addr i 0 0)) cause tval tpc epc
    ∧ (∀ j q, j ≠ i.val ∨ q ≠ n.val → getThread (takeTrap u i n cause false tval tpc epc) j q = getThread u j q)
    ∧ Touches [.shed] u (takeTrap u i n cause false tval tpc epc) := by
  rw [takeTrap_of_enters hvec hhandler]
  exact putThread_frame ..

theorem trap_next (h : Issues s u i n []) (m : BitVec 12) :
    exec (.trap i n m) s = .next (takeTrap u i n 6 false (m.zeroExtend 64) (getThread s i n).pc (getThread s i n).pc) :=
  (exec_trap ..).trans (congrArg _ (issue_of_trap h rfl))

/-- The record of a thread replaced twice is replaced once. -/
theorem putThread_twice_frame (s : State) (i n : Nat) (th th' : Thread) :
    getThread (putThread (putThread s i n th) i n th') i n = th'
    ∧ (∀ j m, j ≠ i ∨ m ≠ n → getThread (putThread (putThread s i n th) i n th') j m = getThread s j m)
    ∧ Touches [.shed] s (putThread (putThread s i n th) i n th') := by
  refine ⟨getThread_putThread_same .., fun j m hne => ?_, ?_⟩
  · rw [getThread_putThread_ne _ _ _ _ hne, getThread_putThread_ne _ _ _ _ hne]
  · exact (Fr.post (putThread_fr ..) rfl (putThread_fr s i n th)).touches_maskOf rfl

section
variable {e : DefErr} {rest : List DefErr} (herrs : (getThread s i n).errs = e :: rest) (hst : (getShed s i).state = .run)
  (hrun : (getThread s i n).running = true) (hwait : (getThread s i n).wait = .none)
include herrs hst hrun hwait

/-- R147 to R150: a thread that is running and not waiting takes the oldest error that has arrived, or, where the access of the error was
issued before a trap, sets MULTI alone. -/
theorem deferredBusError_next :
    exec (.deferredBusError i n) s = .next
      (if e.preTrap then putThread (putThread s i n { getThread s i n with errs := rest }) i n { getThread s i n with
          errs := rest, cause := if bitOf (getThread s i n).cause 6 then (getThread s i n).cause else (getThread s i n).cause + 64 }
        else takeTrap (putThread s i n { getThread s i n with errs := rest }) i n e.cause true (BitVec.ofNat 64 e.addr) e.pc
          (getThread s i n).pc) := by
  simp only [exec_deferredBusError, execDeferredBusError, herrs, hst, hrun, hwait]
  cases e.preTrap <;> rfl

theorem deferredBusError_taken (hpre : e.preTrap = false) (hhandler : (getThread s i n).handler = false)
    (hvec : rdReg s (Reg.SHD_TRAPVEC.addr i 0 0) ≠ 0) :
    exec (.deferredBusError i n) s = .next (putThread (putThread s i n { getThread s i n with errs := rest }) i n
      (entering { getThread s i n with errs := rest } (rdReg s (Reg.SHD_TRAPVEC.addr i 0 0)) (e.cause + 32) (BitVec.ofNat 64 e.addr) e.pc
        (getThread s i n).pc)) := by
  rw [deferredBusError_next herrs hst hrun hwait, hpre, if_neg Bool.false_ne_true, takeTrap_of_enters
    (by rw [rdReg_putThread]; exact hvec) (by rw [getThread_putThread_same]; exact hhandler), getThread_putThread_same, rdReg_putThread,
    if_pos rfl]

theorem deferredBusError_multi (hpre : e.preTrap = true) :
    exec (.deferredBusError i n) s = .next (putThread (putThread s i n { getThread s i n with errs := rest }) i n { getThread s i n with
      errs := rest, cause := if bitOf (getThread s i n).cause 6 then (getThread s i n).cause else (getThread s i n).cause + 64 }) := by
  rw [deferredBusError_next herrs hst hrun hwait, hpre, if_pos rfl]

end

end

/-- Settles O12: the instructions that retire from their bodies, those that trap from what a trap leaves (`takeTrap_frame`,
`haltOnTrap_spec`). -/
theorem threadControl : Obligations.ThreadControl := by
  refine ⟨fun i n rd csr s u h => ?csrr, fun i n ra csr s u h hmode => ?csrw, fun i n s u h => ?halt, fun i n s u h hhandler => ?eret,
    fun i n m s u h hvec hhandler => ?trap, fun i n e rest s herrs hst hrun hwait hpre hhandler hvec => ?deferred,
    fun i n e rest s herrs hst hrun hwait hpre => ?preTrap, fun i n rd ra rb m s u h hmask hvec hhandler c hc => ?mask,
    fun i n fn rd ra rb m s u h hill hvec => ?noHandler, fun i n m s u h hvec hhandler => ?nested,
    fun i n cause tval tpc epc s hvec _ => ?halts⟩
  case csrr =>
    refine ⟨_, csrRead u i n (pastPc s i n) csr.toNat, exec_csrr .., retired_of_done h rfl, ?_⟩
    refine ⟨?_, ?_, ?_, ?_, ?_, ?_, ?_, ?_, ?_⟩ <;> (rintro rfl; rfl)
  case csrw =>
    have hlegal : ¬(0x040 ≤ csr.toNat ∧ csr.toNat ≤ 0x043 ∧ (pastPc s i n).handler = false) := by
      rw [handler_pastPc]
      rintro ⟨hlo, hhi, hout⟩
      rcases hmode with hbelow | habove | hin
      · omega
      · omega
      · exact Bool.false_ne_true (hout.symm.trans hin)
    refine ⟨_, csrWrite (pastPc s i n) csr.toNat ((getThread s i n).xr ra), exec_csrw .., retired_of_done h (if_neg hlegal), ?_⟩
    refine ⟨?_, ?frm, ?_, ?_, ?_, ?_, ?_, fun hother => csrWrite_of_not_mem hother _ _⟩
    case frm =>
      rintro rfl hmode
      exact csrWrite_frm hmode _
    all_goals (rintro rfl; rfl)
  case halt => exact ⟨_, exec_halt .., retired_of_done h rfl⟩
  case eret => exact ⟨_, exec_eret .., retired_of_done h (if_pos hhandler)⟩
  case trap => exact ⟨_, trap_next h m, takeTrap_frame hvec hhandler⟩
  case deferred => exact ⟨_, deferredBusError_taken herrs hst hrun hwait hpre hhandler hvec, putThread_twice_frame ..⟩
  case preTrap => exact ⟨_, deferredBusError_multi herrs hst hrun hwait hpre, putThread_twice_frame ..⟩
  case mask =>
    have hmask' : (m : Nat) ≠ 0 := fun h0 => hmask (Fin.ext h0)
    have hstep : exec c s = .next (takeTrap u i n 1 false 0 (getThread s i n).pc (getThread s i n).pc) := by
      simp only [List.mem_cons, List.not_mem_nil, or_false] at hc
      rcases hc with rfl | rfl | rfl | rfl
      · exact (exec_scalarAdd ..).trans (congrArg _ (scalarOp_of_illegal h (.inl hmask')))
      · exact (exec_scalarSub ..).trans (congrArg _ (scalarOp_of_illegal h (.inl hmask')))
      · exact (exec_mul ..).trans (congrArg _ (scalarOp_of_illegal h (.inl hmask')))
      · exact (exec_div ..).trans (congrArg _ (scalarOp_of_illegal h (.inl hmask')))
    exact ⟨_, hstep, takeTrap_frame hvec hhandler⟩
  case noHandler =>
    have hill' : (m : Nat) ≠ 0 ∨ logicKnown 0 fn = false := hill.imp_left fun hmask h0 => hmask (Fin.ext h0)
    have hstep : exec (.scalarLogic i n fn rd ra rb m) s = .next (takeTrap u i n 1 false 0 (getThread s i n).pc (getThread s i n).pc) :=
      (exec_scalarLogic ..).trans (congrArg _ (scalarOp_of_illegal h hill'))
    refine ⟨_, hstep, ?_⟩
    rw [takeTrap_of_no_handler hvec]
    obtain ⟨hrun, hcount, -, hpc, hval, -, hother, htouch⟩ := haltOnTrap_spec u i n 1 false false 0 (getThread s i n).pc
    exact ⟨hrun, hcount, hpc, hval, hother, htouch⟩
  case nested =>
    refine ⟨_, trap_next h m, ?_⟩
    rw [takeTrap_of_nested hvec hhandler]
    obtain ⟨hrun, hcount, hnested, -, -, hevent, hother, htouch⟩ :=
      haltOnTrap_spec u i n 6 false true (m.zeroExtend 64) (getThread s i n).pc
    exact ⟨hrun, hnested rfl, hcount, hevent, hother, htouch⟩
  case halts =>
    rw [takeTrap_of_no_handler hvec]
    obtain ⟨hrun, hcount, -, hpc, hval, hevent, -, -⟩ := haltOnTrap_spec s i n cause false false tval tpc
    exact ⟨hrun, hcount, hpc, hval, hevent⟩

end Sys2Proof.Machine
end

section
/-! SUPPORT. The configuration registers of a shed (R10, R136). -/
namespace Sys2Proof.Machine

/-- R10: a write of a shed configuration register discards the requester's held half of it, and its latch. -/
theorem shedCfgWrite_bus {req : Requester} {i : Fin 64} {reg : ShedCfgReg} {v : W64} {s t : State} (hreq : req.bridle = true)
    (hstep : exec (.shedCfgWrite req i reg v) s = .next t) : t.bus = (busForget s req (shedCfgAddr reg i)).bus := by
  have hnext : exec (.shedCfgWrite req i reg v) s
      = .next (shdCfgWrite (busForget s req (shedCfgAddr reg i)) i (shedCfgAddr reg i) (shedCfgKeep reg v.toNat)) :=
    (exec_shedCfgWrite ..).trans (if_pos hreq)
  cases hnext.symm.trans hstep
  exact (shdCfgWrite_fr ..).same .bus rfl

/-- The reset state with a half of SHD_ENTRY of shed 0 held for ostler firmware. -/
def entryHalfHeld : State := { State.reset with bus := { held := [⟨.ostler, Reg.SHD_ENTRY.addr 0 0 0, 0⟩] } }

/-- Refutes O13: its clause for a write of SHD_ENTRY says that the write touches the registers alone. Ostler firmware that has written
the low half of SHD_ENTRY of shed 0 and then writes the register whole has its held half discarded (R10, log entry 73). -/
theorem not_shedControl : ¬ Obligations.ShedControl := by
  rintro ⟨-, -, -, -, -, hcfg⟩
  obtain ⟨⟨t, hstep, -, -, htouch⟩, -⟩ := hcfg .ostler 0 0 entryHalfHeld rfl rfl
  have hkept : t.bus.held = entryHalfHeld.bus.held := congrArg Bus.held (htouch .bus (by decide))
  have hlost : t.bus.held = [] := by
    simp [shedCfgWrite_bus rfl hstep, busForget, shedCfgAddr, entryHalfHeld]
  exact List.cons_ne_nil _ _ (hkept.symm.trans hlost)

end Sys2Proof.Machine
end

section
/-! SUPPORT. The records of the shunters: the frames of an operation that replaces one shunter, one channel, or none. -/
namespace Sys2Proof.Machine
set_option Elab.async false

theorem only_putShu (s : State) (n : Nat) (x : Shunter) : Only getShu [n] s (putShu s n x) :=
  fun _ hb => getShu_putShu_ne s n x fun h => hb (List.mem_singleton.mpr h)

theorem only_putChan (s : State) (n c : Nat) (x : Chan) : Only getShu [n] s (putChan s n c x) := only_putShu _ _ _

/-- The frame of a command that replaces the record of shunter `n` and does nothing else. -/
theorem putShu_frame (s : State) (n : Nat) (x : Shunter) :
    Only getShu [n] s (putShu s n x) ∧ Touches [.shu] s (putShu s n x) :=
  ⟨only_putShu s n x, (putShu_fr s n x).touches_maskOf rfl⟩

/-- A command that replaces the record of one channel and does nothing else. -/
theorem putChan_frame (s : State) (n c : Nat) (x : Chan) :
    getChan (putChan s n c x) n c = x
    ∧ (∀ m j, m ≠ n ∨ j ≠ c → getChan (putChan s n c x) m j = getChan s m j) ∧ Touches [.shu] s (putChan s n c x) :=
  ⟨getChan_putChan_same .., fun _ _ hne => getChan_putChan_ne _ _ _ _ hne, (putChan_fr ..).touches_maskOf rfl⟩

/-- An operation whose mask leaves the shunter records alone. -/
theorem Fr.getChan_eq {m : Nat} {s t : State} (h : Fr m s t) (hm : m.testBit Comp.shu.idx = false) (n c : Nat) :
    getChan t n c = getChan s n c :=
  getChan_congr n c (h.same .shu hm)

/-- R8: elements of two register arrays with the same window and strides lie apart where their offsets differ. -/
theorem RegDesc.addr_ne_of_strides {d e : RegDesc} (hblk : d.blk = e.blk) (hlo : d.lo = e.lo) (hs1 : d.s1 = e.s1) (hs2 : d.s2 = e.s2)
    (hoff : d.off ≠ e.off) (w i k : Nat) : d.addr w i k ≠ e.addr w i k := by
  unfold addr
  rw [hblk, hlo, hs1, hs2]
  omega

/-- The event that an operation raises joins those in flight before it. -/
theorem raiseEv_appends {s u : State} (h : u.ev = s.ev) (code unit addr detail : Nat) :
    ∃ e, (raiseEv u code unit addr detail).ev.inFlight = s.ev.inFlight ++ [e] ∧ e.code = code ∧ e.unit = unit ∧ e.detail = detail :=
  ⟨_, by rw [raiseEv_inFlight, h], rfl, rfl, rfl⟩

/-- A unit sets a flag of its error register and raises an event: what that leaves. -/
theorem raiseEv_setF_spec (s : State) (f : Field) (w i code unit addr detail : Nat) (hf : f.lo + f.len ≤ 64) :
    getF (raiseEv (setF s f 1 w i) code unit addr detail) f w i = 1 % 2 ^ f.len
    ∧ (∃ e, (raiseEv (setF s f 1 w i) code unit addr detail).ev.inFlight = s.ev.inFlight ++ [e] ∧ e.code = code ∧ e.unit = unit
      ∧ e.detail = detail)
    ∧ Only rdReg [f.reg.addr w i 0] s (raiseEv (setF s f 1 w i) code unit addr detail)
    ∧ Touches [.regs, .ev] s (raiseEv (setF s f 1 w i) code unit addr detail) := by
  refine ⟨?_, raiseEv_appends (setF_ev ..) .., fun b hb => ?_, ?_⟩
  · rw [getF_raiseEv, getF_setF_same _ _ _ _ _ hf]
  · rw [rdReg_raiseEv, only_setF s f 1 w i 0 b hb]
  · exact Fr.touches_maskOf (m := 0x28) (Fr.post (raiseEv_fr ..) rfl ((setF_fr ..).mono rfl)) rfl

end Sys2Proof.Machine
end

section
/-! SUPPORT. The commands of a shunter (R55, R169, R170, R189), each with the state it answers where its rule lets it act. -/
namespace Sys2Proof.Machine
set_option Elab.async false

section
variable {s : State} {n : Fin 96}

/-- R195: the UNIT of shunter `n`. -/
theorem shuUnit_eq (n : Nat) : shuUnit n = 0x200 + n := by
  simp [shuUnit, unitOf]

theorem shunterStop_next (h : (getShu s n).state = .run) :
    exec (.shunterStop n) s = .next (putShu s n { getShu s n with state := .stopping }) := by
  simp [exec_shunterStop, execShunterStop, shuCtrlWrite, h]

theorem shunterStopped_next (hst : (getShu s n).state = .stopping) (hnone : (getShu s n).outstanding = 0) :
    exec (.shunterStopped n) s = .next (putShu s n { getShu s n with state := .stopped }) :=
  (exec_shunterStopped ..).trans (if_pos ⟨hst, hnone⟩)

/-- R189: the buckets of shunter `n`, each filled to its depth. -/
def fullBuckets (s : State) (n : Nat) : NMap Int :=
  [0, 1, 2].foldl (fun m i => nmPut (fun _ => 131072) m i ((getF s Fld.SHU_CLASS_DEPTH n i * 1024 : Nat) : Int)) (getShu s n).tok

theorem shunterStart_next (h : (getShu s n).state = .stopped) :
    exec (.shunterStart n) s = .next (putShu s n { getShu s n with state := .run, tok := fullBuckets s n }) := by
  simp [exec_shunterStart, execShunterStart, shuCtrlWrite, h, fullBuckets]

/-- The three classes have a bucket each. -/
theorem nmGet_fullBuckets (s : State) (n : Nat) (i : Fin 3) :
    nmGet (fun _ => 131072) (fullBuckets s n) i = ((getF s Fld.SHU_CLASS_DEPTH n i * 1024 : Nat) : Int) := by
  have hclass : i.val = 0 ∨ i.val = 1 ∨ i.val = 2 := by omega
  rcases hclass with h | h | h <;> simp [fullBuckets, nmGet_put, h]

theorem shuClassWrite_next {req : Requester} (hreq : req.bridle = true) (k : Fin 3) (v : W32) :
    exec (.shuClassWrite req n k v) s = .next (shuClassWrite s n k v.toNat) :=
  (exec_shuClassWrite ..).trans (if_pos hreq)

/-- R170: what a STOPPED shunter takes. -/
theorem shuClassWrite_of_stopped (k : Nat) (v : W32) (h : (getShu s n).state = .stopped) :
    shuClassWrite s n k v.toNat = wrReg s (Reg.SHU_CLASS.addr n k 0) (v.zeroExtend 64) := by
  have hval : BitVec.ofNat 64 (v.toNat % 2 ^ 32) = v.zeroExtend 64 := by
    rw [Nat.mod_eq_of_lt v.isLt]
    exact BitVec.eq_of_toNat_eq (by simp)
  rw [shuClassWrite, if_pos h, hval]

/-- R170: what another refuses. -/
theorem shuClassWrite_of_not_stopped (k v : Nat) (h : (getShu s n).state ≠ .stopped) :
    shuClassWrite s n k v = raiseEv (setF s Fld.SHU_ERR_CFG_REFUSED 1 n) 0x4040 (shuUnit n) 0
      (packDetail [(0, (getShu s n).state.code)]) :=
  if_neg h

theorem seedWrite_next (w : ShuAt) (v : W64) :
    exec (.seedWrite w v) s = .next (shuSeedWrite (busForget s w.req (Reg.SHU_SEED.addr w.shu 0 0)) w.shu v) :=
  exec_seedWrite ..

end

/-- Settles O15, one command after the other, each from the state it answers. -/
theorem shunterCommands : Obligations.ShunterCommands := by
  refine ⟨fun n s hrun => ?stop, fun n s hst hnone => ?stopped, fun n s hst => ?start, fun req n k v s hreq => ?cls, fun w v s => ?seed⟩
  case stop => exact ⟨_, shunterStop_next hrun, getShu_putShu_same .., putShu_frame ..⟩
  case stopped => exact ⟨_, shunterStopped_next hst hnone, getShu_putShu_same .., putShu_frame ..⟩
  case start =>
    refine ⟨_, shunterStart_next hst, ?_⟩
    rw [getShu_putShu_same]
    exact ⟨rfl, nmGet_fullBuckets s n, rfl, rfl, putShu_frame ..⟩
  case cls =>
    refine ⟨_, shuClassWrite_next hreq k v, fun hst => ?_, fun hst => ?_⟩
    · rw [shuClassWrite_of_stopped _ _ hst]
      exact ⟨rdReg_wrReg_same .., only_wrReg _ _ _, (wrReg_fr ..).touches_maskOf rfl⟩
    · rw [shuClassWrite_of_not_stopped _ _ hst]
      obtain ⟨hflag, ⟨e, hev, hcode, hunit, hdetail⟩, hother, htouch⟩ := raiseEv_setF_spec s Fld.SHU_ERR_CFG_REFUSED n 0 0x4040
        (shuUnit n) 0 (packDetail [(0, (getShu s n).state.code)]) (by decide)
      exact ⟨hflag, ⟨e, hev, hcode, hunit.trans (shuUnit_eq n), hdetail.trans (by simp [packDetail])⟩, hother, htouch⟩
  case seed =>
    refine ⟨_, seedWrite_next w v, ?_, ?_, ?_, ?_, ?_, ?_⟩
    · rw [shuSeedWrite, rdReg_putShu, rdReg_wrReg_same]
    · rw [shuSeedWrite, getShu_putShu_same, getShu_wrReg, getShu_busForget]
    · rw [shuSeedWrite, putShu_bus, wrReg_bus]
    · intro m hm
      rw [shuSeedWrite, only_putShu _ _ _ m hm, getShu_wrReg, getShu_busForget]
    · intro b hb
      rw [shuSeedWrite, rdReg_putShu, only_wrReg _ _ _ b hb, rdReg_busForget]
    · exact Fr.touches_maskOf (m := 0x218) (Fr.post (shuSeedWrite_fr ..) rfl ((busForget_fr ..).mono rfl)) rfl

end Sys2Proof.Machine
end

section
/-! SUPPORT. The registers of a siding (R174 to R176, R500) and the signal boxes (R177, R178). -/
namespace Sys2Proof.Machine
set_option Elab.async false

/-! Frames: an operation that replaces the record of one siding. -/

theorem getSid_putSid_fin (s : State) (x : Siding) (d : Fin 4) (i : Fin 256) :
    ∀ (e : Fin 4) (j : Fin 256), e ≠ d ∨ j ≠ i → getSid (putSid s d i x) e j = getSid s e j := fun e j hne => by
  refine getSid_putSid_ne s d i x fun h => ?_
  have hi : j.val = i.val := by omega
  have hd : e.val = d.val := by omega
  exact hne.elim (fun h => h (Fin.ext hd)) (fun h => h (Fin.ext hi))

section
variable (s : State) (d i n : Nat)

/-- R174: the record of a siding after `n` slots of it are published. -/
def Siding.published (x : Siding) (n : Nat) : Siding := { x with fill := x.fill + n, seq := x.seq + n }

/-- R174: the record of a siding of `k` slots after the `n` from HEAD are released. -/
def Siding.released (x : Siding) (k n : Nat) : Siding :=
  { x with head := (x.head + n) % k, fill := x.fill - n, held := x.held.drop n }

theorem sidPublish_of_ne_zero (h : n ≠ 0) :
    sidPublish s d i n = if getF s Fld.SID_SBX_PUB_EN d i = 1 then
      sendSbx (putSid s d i ((getSid s d i).published n)) d (getF s Fld.SID_SBX_PUB_SBX d i) n
    else putSid s d i ((getSid s d i).published n) := by
  simp only [sidPublish, if_neg h, getF_putSid]
  rfl

theorem sidRelease_of_ne_zero (h : n ≠ 0) (hk : sidSlots s d i ≠ 0) :
    sidRelease s d i n = if getF s Fld.SID_SBX_REL_EN d i = 1 then
      sendSbx (putSid s d i ((getSid s d i).released (sidSlots s d i) n)) d (getF s Fld.SID_SBX_REL_SBX d i) n
    else putSid s d i ((getSid s d i).released (sidSlots s d i) n) := by
  simp only [sidRelease, if_neg h, if_neg hk, getF_putSid]
  rfl

/-- A siding command that replaces one record and may send an increment: what it leaves. -/
theorem putSid_sendSbx_spec (s : State) (d : Fin 4) (i : Fin 256) (x : Siding) (box n : Nat) (en : Prop) [Decidable en] (t : State)
    (ht : t = if en then sendSbx (putSid s d i x) d box n else putSid s d i x) :
    getSid t d i = x ∧ t.sbxFlight = (if en then s.sbxFlight ++ [⟨d, box, n⟩] else s.sbxFlight)
    ∧ (∀ (e : Fin 4) (j : Fin 256), e ≠ d ∨ j ≠ i → getSid t e j = getSid s e j) ∧ Touches [.sbxFlight, .sid] s t := by
  subst ht
  split
  · refine ⟨?_, ?_, fun e j hne => ?_, ?_⟩
    · rw [getSid_sendSbx, getSid_putSid_same]
    · rw [sendSbx_flight, putSid_sbxFlight]
    · rw [getSid_sendSbx, getSid_putSid_fin s x d i e j hne]
    · exact Fr.touches_maskOf (m := 0x440) (Fr.post (sendSbx_fr ..) rfl ((putSid_fr ..).mono rfl)) rfl
  · exact ⟨getSid_putSid_same .., putSid_sbxFlight .., getSid_putSid_fin s x d i,
      Fr.touches_maskOf (m := 0x440) ((putSid_fr ..).mono rfl) rfl⟩

end

/-! Protocol errors (R176). -/


section
variable {s : State} {d : Fin 4} {i : Fin 256} {n : Fin 128}

theorem sidPub_next : exec (.sidPub d i n) s = .next (sidPubWrite s d i n) := exec_sidPub ..

theorem sidPubWrite_of_party (h : (getSid s d i).prod ≠ none) (n : Nat) :
    sidPubWrite s d i n = raiseEv (setF s Fld.SID_ERR_PARTY 1 d i) 0x4030 (sidUnit d) 0 (packDetail [(0, i), (8, 3), (10, n)]) :=
  if_pos h

theorem sidPubWrite_of_free (hprod : (getSid s d i).prod = none) {n : Nat} (hfree : n ≤ sidFree s d i) :
    sidPubWrite s d i n = sidPublish s d i n := by
  simp only [sidPubWrite, hprod, Nat.min_eq_left hfree, if_neg (Nat.not_lt.mpr hfree)]
  exact if_neg fun h => h rfl

theorem sidPubWrite_of_over (hprod : (getSid s d i).prod = none) {n : Nat} (hbeyond : sidFree s d i < n) :
    sidPubWrite s d i n = raiseEv (setF (sidPublish s d i (sidFree s d i)) Fld.SID_ERR_PUB_OVER 1 d i) 0x4030 (sidUnit d) 0
      (packDetail [(0, i), (8, 1), (10, n)]) := by
  simp only [sidPubWrite, hprod, Nat.min_eq_right (Nat.le_of_lt hbeyond), if_pos hbeyond]
  exact if_neg fun h => h rfl

/-- R174: a publish, of no slots too, replaces the record of its siding and sends at most an increment. -/
theorem getSid_sidPublish (n : Nat) : getSid (sidPublish s d i n) d i = (getSid s d i).published n
    ∧ (∀ (e : Fin 4) (j : Fin 256), e ≠ d ∨ j ≠ i → getSid (sidPublish s d i n) e j = getSid s e j) := by
  by_cases h : n = 0
  · subst h
    exact ⟨rfl, fun _ _ _ => rfl⟩
  · obtain ⟨hsid, -, hother, -⟩ := putSid_sendSbx_spec s d i _ _ n _ _ (sidPublish_of_ne_zero s d i n h)
    exact ⟨hsid, hother⟩

theorem sidRelWrite_of_filled (hcons : (getSid s d i).cons = none) {n : Nat} (hfill : n ≤ (getSid s d i).fill)
    (hk : sidSlots s d i ≠ 0) : sidRelWrite s d i n = sidRelease s d i n := by
  simp only [sidRelWrite, hcons, if_neg hk, Nat.min_eq_left hfill, if_neg (Nat.not_lt.mpr hfill)]
  exact if_neg fun h => h rfl

theorem unbound_of_none (hprod : (getSid s d i).prod = none) (hcons : (getSid s d i).cons = none) :
    (getSid s d i).unbound = true := by
  simp [Siding.unbound, hprod, hcons]

theorem sidCtrlReset_next {req : Requester} (hreq : req.bridle = true) (hunbound : (getSid s d i).unbound = true) :
    exec (.sidCtrlReset req d i) s = .next (sidReset s d i) := by
  have hreset : sidCtrlWrite s d i 1 = sidReset s d i := by
    rw [sidCtrlWrite, hunbound]
    rfl
  rw [← hreset]
  exact (exec_sidCtrlReset ..).trans (if_pos hreq)

/-- R500: the state in which SID_BASE has taken the bits it has of `v`. -/
def baseWritten (s : State) (req : Requester) (d i : Nat) (v : W64) : State :=
  wrReg (busForget s req (Reg.SID_BASE.addr d i 0)) (Reg.SID_BASE.addr d i 0) (v &&& BitVec.ofNat 64 (Reg.SID_BASE.rw i))

theorem sidingConfigWrite_base_next {req : Requester} {v : W64} (hreq : req.bridle = true) (hunbound : (getSid s d i).unbound = true)
    (hnew : rdReg s (Reg.SID_BASE.addr d i 0) ≠ v &&& BitVec.ofNat 64 (Reg.SID_BASE.rw i)) :
    exec (.sidingConfigWrite req d i .base v) s = .next (sidReset (baseWritten s req d i v) d i) := by
  have hwrite : sidCfgWrite (busForget s req (Reg.SID_BASE.addr d i 0)) d i Reg.SID_BASE v = sidReset (baseWritten s req d i v) d i := by
    simp only [sidCfgWrite, getSid_busForget, hunbound, if_true, rdReg_busForget]
    exact if_pos ⟨hnew, by decide⟩
  rw [← hwrite]
  exact (exec_sidingConfigWrite ..).trans (if_pos hreq)

end

/-- R177: the arrival of an increment, from the state in which it has left those on their way. -/
theorem signalBoxIncrement_next {s : State} {j : Nat} {x : SbxInc} (h : s.sbxFlight[j]? = some x) :
    exec (.signalBoxIncrement j) s
      = .next (addF { s with sbxFlight := s.sbxFlight.eraseIdx j } Fld.SBX_CNT_COUNT x.inc x.die x.box) := by
  rw [exec_signalBoxIncrement, execSignalBoxIncrement, h]

/-- Settles O17: a publish and a release from `putSid_sendSbx_spec`, the protocol errors from `raiseEv_setF_spec`. -/
theorem sidingsAndBoxes : Obligations.SidingsAndBoxes := by
  refine ⟨fun d i n s hprod hfree hn => ?pub, fun d i n s hprod hbeyond => ?beyond, fun d i n s hcons hfill hn hk => ?rel,
    fun d i n s hprod => ?party, fun req d i s hreq hprod hcons => ?reset, fun req d i v s hreq hprod hcons hnew => ?cfg,
    fun j x s hj => ?arrive, fun d b v s => ?cnt, fun d b v s => ?inc⟩
  case pub =>
    refine ⟨_, sidPub_next, ?_⟩
    rw [sidPubWrite_of_free hprod hfree]
    exact putSid_sendSbx_spec s d i _ _ n _ _ (sidPublish_of_ne_zero s d i n fun h => hn (Fin.ext h))
  case beyond =>
    refine ⟨_, sidPub_next, ?_⟩
    rw [sidPubWrite_of_over hprod hbeyond]
    obtain ⟨hsid, hother⟩ := getSid_sidPublish (s := s) (d := d) (i := i) (sidFree s d i)
    have hpub := sidPublish_fr s d i (sidFree s d i)
    obtain ⟨hflag, ⟨e, hev, hcode, -, -⟩, hregs, -⟩ := raiseEv_setF_spec (sidPublish s d i (sidFree s d i)) Fld.SID_ERR_PUB_OVER d i
      0x4030 (sidUnit d) 0 (packDetail [(0, i), (8, 1), (10, n)]) (by decide)
    refine ⟨?_, hflag, ⟨e, ?_, hcode⟩, fun e j hne => ?_, fun b hb => ?_, ?_⟩
    · rw [getSid_raiseEv, getSid_setF, hsid]
      rfl
    · rw [hev, hpub.same .ev rfl]
    · rw [getSid_raiseEv, getSid_setF, hother e j hne]
    · rw [hregs b hb, rdReg_congr b (hpub.same .regs rfl)]
    · exact Fr.touches_maskOf (m := 0x468) (Fr.post (raiseEv_fr ..) rfl (Fr.post (setF_fr ..) rfl (hpub.mono rfl))) rfl
  case rel =>
    refine ⟨_, exec_sidRel .., ?_⟩
    rw [sidRelWrite_of_filled hcons hfill hk]
    exact putSid_sendSbx_spec s d i _ _ n _ _ (sidRelease_of_ne_zero s d i n (fun h => hn (Fin.ext h)) hk)
  case party =>
    refine ⟨_, sidPub_next, ?_⟩
    rw [sidPubWrite_of_party hprod]
    obtain ⟨hflag, ⟨e, hev, hcode, -, -⟩, hregs, htouch⟩ := raiseEv_setF_spec s Fld.SID_ERR_PARTY d i 0x4030 (sidUnit d) 0
      (packDetail [(0, i), (8, 3), (10, n)]) (by decide)
    exact ⟨by rw [getSid_raiseEv, getSid_setF], hflag, ⟨e, hev, hcode⟩, hregs, htouch⟩
  case reset =>
    exact ⟨_, sidCtrlReset_next hreq (unbound_of_none hprod hcons), getSid_putSid_same .., getSid_putSid_fin _ _ d i,
      (sidReset_fr ..).touches_maskOf rfl⟩
  case cfg =>
    refine ⟨_, sidingConfigWrite_base_next hreq (unbound_of_none hprod hcons) hnew, ?_, ?_, fun e j hne => ?_, fun b hb => ?_, ?_⟩
    · rw [sidReset, baseWritten, rdReg_putSid, rdReg_wrReg_same]
    · rw [sidReset, baseWritten, getSid_putSid_same, getSid_wrReg, getSid_busForget]
    · rw [sidReset, baseWritten, getSid_putSid_fin _ _ d i e j hne, getSid_wrReg, getSid_busForget]
    · rw [sidReset, baseWritten, rdReg_putSid, only_wrReg _ _ _ b hb, rdReg_busForget]
    · exact Fr.touches_maskOf (m := 0x418) (Fr.post (sidReset_fr ..) rfl (Fr.post (wrReg_fr ..) rfl ((busForget_fr ..).mono rfl))) rfl
  case arrive =>
    refine ⟨_, signalBoxIncrement_next hj, addF_sbxFlight .., getF_addF_same _ _ _ _ _ (by decide), ?_, ?_⟩
    · exact only_setF { s with sbxFlight := s.sbxFlight.eraseIdx j } Fld.SBX_CNT_COUNT _ x.die x.box 0
    · exact Fr.touches_maskOf (m := 0x48) (Fr.post (addF_fr ..) rfl (Fr.setSbxFlight _ rfl (Fr.refl _ _))) rfl
  case cnt =>
    refine ⟨_, exec_sbxCntWrite .., ?_, only_setF s Fld.SBX_CNT_COUNT _ d b 0, (setF_fr ..).touches_maskOf rfl⟩
    rw [getF_setF_same _ _ _ _ _ (by decide)]
    exact Nat.mod_eq_of_lt v.isLt
  case inc =>
    exact ⟨_, exec_sbxIncWrite .., getF_addF_same _ _ _ _ _ (by decide), only_setF s Fld.SBX_CNT_COUNT _ d b 0,
      (addF_fr ..).touches_maskOf rfl⟩

end Sys2Proof.Machine
end

section
/-! SUPPORT. The arm of a channel (R161, R162, R165): its result, and what an accepted descriptor leaves. -/
namespace Sys2Proof.Machine
set_option Elab.async false

/-! Statuses fit their field. -/

theorem streamStatus_lt (s : State) (n c : Nat) (d : StreamDesc) : streamStatus s n c d < 16 := by
  unfold streamStatus
  dsimp only
  repeat' split
  all_goals decide

/-! The arm result (R161, log entry 64). -/
section
variable (s : State) (n c st : Nat)

/-- A field of a channel's register that holds no arm result keeps its value. -/
theorem getF_armResult_of_off (g : Field) (hblk : g.reg.blk = Reg.SHU_CH_ARMST.blk) (hlo : g.reg.lo = Reg.SHU_CH_ARMST.lo)
    (hs1 : g.reg.s1 = Reg.SHU_CH_ARMST.s1) (hs2 : g.reg.s2 = Reg.SHU_CH_ARMST.s2) (hoff : g.reg.off ≠ Reg.SHU_CH_ARMST.off) :
    getF (armResult s n c st) g n c = getF s g n c := by
  have hne := RegDesc.addr_ne_of_strides hblk hlo hs1 hs2 hoff n c 0
  rw [armResult, addF, getF_setF_reg (f := Fld.SHU_CH_ARMST_SEQ) _ _ _ _ _ _ _ _ hne,
    getF_setF_reg (f := Fld.SHU_CH_ARMST_STATUS) _ _ _ _ _ _ _ _ hne]

theorem getF_armResult_status : getF (armResult s n c st) Fld.SHU_CH_ARMST_STATUS n c = st % 256 := by
  rw [armResult, addF, getF_setF_bits (f := Fld.SHU_CH_ARMST_SEQ) (g := Fld.SHU_CH_ARMST_STATUS) _ _ _ _ _ _ _ _ rfl (by decide)
    (by decide) (by decide)]
  exact getF_setF_same s st n c 0 (f := Fld.SHU_CH_ARMST_STATUS) (by decide)

theorem getF_armResult_seq :
    getF (armResult s n c st) Fld.SHU_CH_ARMST_SEQ n c = (getF s Fld.SHU_CH_ARMST_SEQ n c + 1) % 256 := by
  rw [armResult, getF_addF_same _ _ _ _ _ (by decide), getF_setF_bits (f := Fld.SHU_CH_ARMST_STATUS) (g := Fld.SHU_CH_ARMST_SEQ)
    _ _ _ _ _ _ _ _ rfl (by decide) (by decide) (by decide)]
  rfl

@[simp] theorem getChan_armResult (m j : Nat) : getChan (armResult s n c st) m j = getChan s m j :=
  (armResult_fr ..).getChan_eq rfl m j

end

/-! A descriptor that binds, starts or is shadowed. -/
section
variable (s : State) (n c : Nat) (d : StreamDesc)

/-- R172: a channel's record once descriptor `d` has bound it to its ports. -/
def Chan.boundTo (x : Chan) (d : StreamDesc) : Chan :=
  { x with
    bindW := x.bindW || d.dstKind == .weight
    bindI := x.bindI || d.dstKind == .input
    bindD := x.bindD || d.srcKind == .drain }

theorem bindDesc_eq : ∃ u, Fr 0x400 s u ∧ bindDesc s n c d = putChan u n c ((getChan s n c).boundTo d) := by
  let a := if d.srcKind = .siding then putSid s (shuDie n) d.ssid { getSid s (shuDie n) d.ssid with cons := some (chanNo n c) } else s
  let b := if d.dstKind = .siding then putSid a (shuDie n) d.dsid { getSid a (shuDie n) d.dsid with prod := some (chanNo n c) } else a
  have ha : Fr 0x400 s a := Fr.ite (putSid_fr ..) (Fr.refl _ _)
  have hb : Fr 0x400 s b := Fr.ite (Fr.post (putSid_fr ..) rfl ha) ha
  refine ⟨b, hb, ?_⟩
  rw [← hb.getChan_eq rfl n c]
  rfl

/-- R55, R161: the state in which an accepted descriptor has bound its channel and reseeded the generator if it asks for that. -/
def descBound : State :=
  if d.reseed then
    putShu (bindDesc s n c d) n
      { getShu (bindDesc s n c d) n with gen := seedLoad (rdReg (bindDesc s n c d) (Reg.SHU_SEED.addr n 0 0)) }
  else bindDesc s n c d

/-- What the binding of a descriptor leaves of the channels, and where it may reach. -/
theorem descBound_spec : getChan (descBound s n c d) n c = (getChan s n c).boundTo d
    ∧ (∀ m j, m ≠ n ∨ j ≠ c → getChan (descBound s n c d) m j = getChan s m j) := by
  obtain ⟨u, hu, hbind⟩ := bindDesc_eq s n c d
  have hchan (m j : Nat) : getChan (descBound s n c d) m j = getChan (bindDesc s n c d) m j := by
    unfold descBound
    split
    · by_cases hm : m = n
      · subst hm
        rw [getChan, getShu_putShu_same, getChan]
      · rw [getChan, getShu_putShu_ne _ _ _ hm, getChan]
    · rfl
  refine ⟨?_, fun m j hne => ?_⟩
  · rw [hchan, hbind, getChan_putChan_same]
  · rw [hchan, hbind, getChan_putChan_ne _ _ _ _ hne, hu.getChan_eq rfl]

theorem acceptDesc_of_idle (h : (getChan s n c).state = .idle) :
    acceptDesc s n c d = (startDesc (descBound s n c d) n c d, 0) := by
  refine if_pos ?_
  exact (congrArg Chan.state (descBound_spec s n c d).1).trans h

theorem acceptDesc_of_busy (h : (getChan s n c).state ≠ .idle) :
    acceptDesc s n c d = (putChan (descBound s n c d) n c { (getChan s n c).boundTo d with shadow := some d }, 1) := by
  rw [← (descBound_spec s n c d).1]
  exact if_neg fun hidle => h ((congrArg Chan.state (descBound_spec s n c d).1).symm.trans hidle)

/-- R163, R165: a channel's record once descriptor `d` is current. -/
def Chan.started (x : Chan) (d : StreamDesc) : Chan :=
  { x with
    state := if d.waitEn then .wait else .active
    run := some { d := d }
    halting := 0
    hcause := 0
    waitOn := none
    waitCnt := 0 }

theorem startDesc_spec : getChan (startDesc s n c d) n c = (getChan s n c).started d
    ∧ (∀ m j, m ≠ n ∨ j ≠ c → getChan (startDesc s n c d) m j = getChan s m j)
    ∧ getF (startDesc s n c d) Fld.SHU_CH_DESC_ADDR n c = d.addr % 2 ^ 48 ∧ getF (startDesc s n c d) Fld.SHU_CH_DONE_POS n c = 0 := by
  have hne : Reg.SHU_CH_DONE.addr n c 0 ≠ Reg.SHU_CH_DESC.addr n c 0 :=
    RegDesc.addr_ne_of_strides (d := Reg.SHU_CH_DONE) (e := Reg.SHU_CH_DESC) rfl rfl rfl rfl (by decide) n c 0
  refine ⟨?_, fun m j hmj => ?_, getF_setF_same _ _ _ _ _ (by decide), ?_⟩
  · rw [startDesc, getChan_setF, getChan_setF, getChan_putChan_same]
    rfl
  · rw [startDesc, getChan_setF, getChan_setF, getChan_putChan_ne _ _ _ _ hmj]
  · rw [startDesc, getF_setF_reg (f := Fld.SHU_CH_DESC_ADDR) (g := Fld.SHU_CH_DONE_POS) _ _ _ _ _ _ _ _ hne]
    exact getF_setF_same _ 0 n c 0 (f := Fld.SHU_CH_DONE_POS) (by decide)

end

/-! The arm (R161, R162), from the state in which it has left those that wait. -/
section
variable {s u : State} {n c a : Nat} {m : MemRead}

theorem armDesc_of_pre (h : armPreStatus u n c a ≠ 0) : armDesc u n c a = armResult u n c (armPreStatus u n c a) := if_pos h

theorem armDesc_of_misaligned (h : a % 128 ≠ 0) : armDesc u n c a = armResult u n c 5 := by
  have hpre : armPreStatus u n c a = 5 := if_pos h
  rw [armDesc_of_pre (by rw [hpre]; decide), hpre]

section
variable (hpre : armPreStatus u n c a = 0) (hread : memRead u a 128 = m) (hgood : m.failed = false)
  (hrsvd : streamRsvdOk m.bytes = true)
include hpre hread hgood hrsvd

theorem armDesc_of_status (hst : streamStatus m.s n c (parseStream a m.bytes) ≠ 0) :
    armDesc u n c a = armResult m.s n c (streamStatus m.s n c (parseStream a m.bytes)) := by
  simp only [armDesc, hpre, hread, hgood, hrsvd]
  exact if_pos hst

theorem armDesc_of_accepted (hst : streamStatus m.s n c (parseStream a m.bytes) = 0) :
    armDesc u n c a = armResult (acceptDesc m.s n c (parseStream a m.bytes)).1 n c (acceptDesc m.s n c (parseStream a m.bytes)).2 := by
  simp only [armDesc, hpre, hread, hgood, hrsvd, hst]
  rfl

end

/-- The fetch of a descriptor leaves the channels alone. -/
theorem getChan_memRead {l : Nat} (hread : memRead u a l = m) (n c : Nat) : getChan m.s n c = getChan u n c :=
  hread ▸ (memRead_fr ..).getChan_eq rfl n c

end

section
variable {s u : State} {n : Fin 96} {c : Fin 8}

theorem armResult_next {a : Nat} {rest : List Nat} (harms : (getChan s n c).arms = a :: rest)
    (hu : u = putChan s n c { getChan s n c with arms := rest }) : exec (.armResult n c) s = .next (armDesc u n c a) := by
  rw [exec_armResult, execArmResult, harms, hu]

end

end Sys2Proof.Machine
end

section
/-! SUPPORT. The commands of a channel (R161 to R168), each with the state it answers where its rule lets it act. -/
namespace Sys2Proof.Machine
set_option Elab.async false

section
variable {s : State} {n : Fin 96} {c : Fin 8}

theorem channelArm_next (w : ShuAt) (c : Fin 8) (a : BitVec 48) (s : State) :
    exec (.channelArm w c a) s = .next (putChan (busForget s w.req (Reg.SHU_CH_ARM.addr w.shu c 0)) w.shu c
      { getChan s w.shu c with arms := (getChan s w.shu c).arms ++ [a.toNat] }) := by
  rw [exec_channelArm, execChannelArm, getChan_busForget]

theorem channelWaitSatisfied_next {r : Run} (hrun : (getChan s n c).run = some r) (hwait : (getChan s n c).state = .wait)
    (hshu : (getShu s n).state ≠ .stopped) (hbox : sbxReached s (shuDie n) r.d.waitSbx r.d.waitValue = true) :
    exec (.channelWaitSatisfied n c) s = .next (putChan s n c { getChan s n c with state := .active }) := by
  simp only [exec_channelWaitSatisfied, execChannelWaitSatisfied, hrun]
  exact if_pos ⟨hwait, hshu, hbox⟩

theorem channelHalted_unreach_next (hcause : (getChan s n c).halting = 3) (hst : (getChan s n c).state ≠ .halted)
    (hnone : (getChan s n c).outstanding = 0) (hready : (chanNext s n c).ready = false) :
    exec (.channelHalted n c) s = .next (setF
      (putChan s n c { getChan s n c with state := .halted, hcause := 3, waitOn := none, waitCnt := 0 }) Fld.SHU_ERR_UNREACH 1 n) := by
  simp only [exec_channelHalted, execChannelHalted, hcause]
  rw [if_pos ⟨by decide, hst, hnone, hready⟩]
  cases (getChan s n c).run <;> rfl

/-- R168: a CLEAR of a channel bound to a port is refused while its stall is not STOPPED. -/
theorem channelClear_refused_next (d : Bool) (hbound : (getChan s n c).bindW = true)
    (hstall : (getStall s (shuStall n)).state ≠ .stopped) :
    exec (.channelClear n c d) s = .next (setF s Fld.SHU_ERR_CFG_REFUSED 1 n) := by
  have hrefuse : chanCtrlWrite s n c true d = setF s Fld.SHU_ERR_CFG_REFUSED 1 n := by simp [chanCtrlWrite, hbound, hstall]
  rw [exec_channelClear, execChannelClear, hrefuse]

theorem channelClear_next (d : Bool)
    (h : ((getChan s n c).bindW = false ∧ (getChan s n c).bindI = false ∧ (getChan s n c).bindD = false)
      ∨ ((getStall s (shuStall n)).state = .stopped ∧ (getStall s (shuStall n)).issue = [])) :
    exec (.channelClear n c d) s = .next (putChan s n c { getChan s n c with clearing := true, drop := d }) := by
  have hclear : chanCtrlWrite s n c true d = putChan s n c { getChan s n c with clearing := true, drop := d } := by
    rcases h with ⟨hw, hi, hd⟩ | ⟨hst, hissue⟩
    · simp [chanCtrlWrite, hw, hi, hd]
    · simp [chanCtrlWrite, hst, hissue]
  rw [exec_channelClear, execChannelClear, hclear]

/-- R168: a channel's record once it is cleared and no shadow follows. -/
def Chan.cleared (x : Chan) : Chan :=
  { x with
    bindW := false, bindI := false, bindD := false, state := .idle, run := none, shadow := none, clearing := false, drop := false
    halting := 0, hcause := 0, waitOn := none, waitCnt := 0 }

/-- R168: the ports of a clearing channel give up what they void. -/
def portsCleared (s : State) (n c : Nat) : State :=
  let s' := if (getChan s n c).bindW then
    putStall s (shuStall n) { getStall s (shuStall n) with weightVoid := false, voidHit := false } else s
  if (getChan s n c).bindI then
    putStall s' (shuStall n) { (getStall s' (shuStall n)).refetch with inputVoid := false } else s'

theorem portsCleared_fr (s : State) (n c : Nat) : Fr 0x80 s (portsCleared s n c) := by
  have hweight : Fr 0x80 s (if (getChan s n c).bindW then
      putStall s (shuStall n) { getStall s (shuStall n) with weightVoid := false, voidHit := false } else s) :=
    Fr.ite (putStall_fr ..) (Fr.refl _ _)
  exact Fr.ite (Fr.post (putStall_fr ..) rfl hweight) hweight

theorem getChan_unbindChan_same (s : State) (n c : Nat) (clear : Bool) : getChan (unbindChan s n c clear) n c
    = { getChan s n c with bindW := false, bindI := false, bindD := false } :=
  getChan_putChan_same ..

/-- R168: a CLEAR after which no shadow becomes current. -/
theorem clearChan_of_dropped (h : (getChan s n c).shadow = none ∨ (getChan s n c).drop = true) :
    clearChan s n c = putChan (unbindChan (portsCleared s n c) n c true) n c (getChan s n c).cleared := by
  have hchan : (getChan s n c).cleared = { getChan (unbindChan (portsCleared s n c) n c true) n c with
      state := .idle, run := none, shadow := none, clearing := false, drop := false, halting := 0, hcause := 0, waitOn := none
      waitCnt := 0 } := by
    rw [getChan_unbindChan_same, (portsCleared_fr ..).getChan_eq rfl]
    rfl
  rw [hchan, clearChan]
  cases hshadow : (getChan s n c).shadow with
  | none => rfl
  | some d =>
    cases hdrop : (getChan s n c).drop with
    | true => rfl
    | false => simp [hshadow, hdrop] at h

theorem channelClearComplete_next (hclear : (getChan s n c).clearing = true) (hnone : (getChan s n c).outstanding = 0) :
    exec (.channelClearComplete n c) s = .next (clearChan s n c) :=
  (exec_channelClearComplete ..).trans (if_pos ⟨hclear, hnone⟩)

end

/-- Settles O14: the arm from `armDesc` and what an accepted descriptor leaves, the rest from the state each command answers. -/
theorem channelCommands : Obligations.ChannelCommands := by
  refine ⟨fun w c a s => ?arm, fun n c a rest m s u harms hu hpre hread hgood hrsvd hst => ?refused,
    fun n c a rest m s u harms hu hpre hread hgood hrsvd hst hidle => ?starts,
    fun n c a rest m s u harms hu hpre hread hgood hrsvd hst hbusy => ?shadowed, fun n c a rest s harms halign => ?misaligned,
    fun n c r s hrun hwait hshu hbox => ?wait, fun n c s hcause hst hnone hready => ?halted, fun n c d s hw hi hd => ?unbound,
    fun n c d s hst hissue => ?stopped, fun n c d s hw hst => ?refusedClear, fun n c s hclear hnone hshadow => ?cleared⟩
  case arm =>
    refine ⟨_, channelArm_next w c a s, getChan_putChan_same .., putChan_bus .., fun m j hne => ?_, ?_⟩
    · rw [getChan_putChan_ne _ _ _ _ hne, getChan_busForget]
    · exact Fr.touches_maskOf (m := 0x210) (Fr.post (putChan_fr ..) rfl ((busForget_fr ..).mono rfl)) rfl
  case refused =>
    have hchan := getChan_memRead hread
    have hlt := streamStatus_lt m.s n c (parseStream a m.bytes)
    refine ⟨_, armResult_next harms hu, ?_⟩
    rw [armDesc_of_status hpre hread hgood hrsvd hst, getF_armResult_status, getF_armResult_seq, getChan_armResult, hchan, hu,
      getChan_putChan_same]
    refine ⟨by omega, rfl, rfl, fun k j hne => ?_⟩
    rw [getChan_armResult, hchan, hu, getChan_putChan_ne _ _ _ _ hne]
  case starts =>
    have hchan : getChan m.s n c = { getChan s n c with arms := rest } := by
      rw [getChan_memRead hread, hu, getChan_putChan_same]
    have hidle' : (getChan m.s n c).state = .idle := by rw [hchan]; exact hidle
    obtain ⟨hbound, hboundNe⟩ := descBound_spec m.s n c (parseStream a m.bytes)
    obtain ⟨hstart, hstartNe, haddr, hdone⟩ := startDesc_spec (descBound m.s n c (parseStream a m.bytes)) n c (parseStream a m.bytes)
    refine ⟨_, armResult_next harms hu, ?_⟩
    rw [armDesc_of_accepted hpre hread hgood hrsvd hst, acceptDesc_of_idle _ _ _ _ hidle', getF_armResult_status, getChan_armResult,
      hstart, hbound, hchan]
    refine ⟨rfl, ?_, ?_, rfl, rfl, rfl, fun k j hne => ?_⟩
    · rw [getF_armResult_of_off _ _ _ _ Fld.SHU_CH_DESC_ADDR rfl rfl rfl rfl (by decide)]
      exact haddr
    · rw [getF_armResult_of_off _ _ _ _ Fld.SHU_CH_DONE_POS rfl rfl rfl rfl (by decide)]
      exact hdone
    · rw [getChan_armResult, hstartNe k j hne, hboundNe k j hne, getChan_memRead hread, hu, getChan_putChan_ne _ _ _ _ hne]
  case shadowed =>
    have hchan : getChan m.s n c = { getChan s n c with arms := rest } := by
      rw [getChan_memRead hread, hu, getChan_putChan_same]
    have hbusy' : (getChan m.s n c).state ≠ .idle := by rw [hchan]; exact hbusy
    obtain ⟨-, hboundNe⟩ := descBound_spec m.s n c (parseStream a m.bytes)
    refine ⟨_, armResult_next harms hu, ?_⟩
    rw [armDesc_of_accepted hpre hread hgood hrsvd hst, acceptDesc_of_busy _ _ _ _ hbusy', getF_armResult_status, getChan_armResult,
      getChan_putChan_same, hchan]
    refine ⟨rfl, rfl, rfl, rfl, rfl, fun k j hne => ?_⟩
    rw [getChan_armResult, getChan_putChan_ne _ _ _ _ hne, hboundNe k j hne, getChan_memRead hread, hu, getChan_putChan_ne _ _ _ _ hne]
  case misaligned =>
    refine ⟨_, armResult_next harms rfl, ?_⟩
    rw [armDesc_of_misaligned halign, getF_armResult_status, getF_armResult_seq, getF_putChan, getChan_armResult, getChan_putChan_same]
    exact ⟨rfl, rfl, rfl, Fr.touches_maskOf (m := 0x208) (Fr.post (armResult_fr ..) rfl ((putChan_fr ..).mono rfl)) rfl⟩
  case wait => exact ⟨_, channelWaitSatisfied_next hrun hwait hshu hbox, putChan_frame ..⟩
  case halted =>
    refine ⟨_, channelHalted_unreach_next hcause hst hnone hready, ?_⟩
    rw [getChan_setF, getChan_putChan_same, getF_setF_same _ _ _ _ _ (by decide)]
    refine ⟨rfl, rfl, rfl, rfl, fun b hb => ?_, Fr.touches_maskOf (m := 0x208) (Fr.post (setF_fr ..) rfl ((putChan_fr ..).mono rfl)) rfl⟩
    rw [only_setF _ Fld.SHU_ERR_UNREACH 1 n 0 0 b hb, rdReg_putChan]
  case unbound => exact ⟨_, channelClear_next d (.inl ⟨hw, hi, hd⟩), putChan_frame ..⟩
  case stopped => exact ⟨_, channelClear_next d (.inr ⟨hst, hissue⟩), putChan_frame ..⟩
  case refusedClear =>
    exact ⟨_, channelClear_refused_next d hw hst, getF_setF_same _ _ _ _ _ (by decide), only_setF _ Fld.SHU_ERR_CFG_REFUSED 1 n 0 0,
      (setF_fr ..).touches_maskOf rfl⟩
  case cleared =>
    refine ⟨_, channelClearComplete_next hclear hnone, ?_⟩
    rw [clearChan_of_dropped hshadow, getChan_putChan_same]
    exact ⟨rfl, rfl, rfl, rfl, rfl, rfl, rfl, rfl, rfl, Fr.touches_maskOf (m := 0x680)
      (Fr.post (putChan_fr ..) rfl (Fr.post (unbindChan_fr ..) rfl ((portsCleared_fr ..).mono rfl))) rfl⟩

end Sys2Proof.Machine
end

section
/-! SUPPORT. Tile queue arms (R185): the three fields of SHU_TQ_STATUS, what an arm leaves of them, and that the register answers no
question of memory. -/
namespace Sys2Proof.Machine
set_option Elab.async false

theorem tileOpStatus_lt (s : State) (k : Nat) (bs : List Nat) : tileOpStatus s k bs < 16 := by
  unfold tileOpStatus
  dsimp only
  repeat' split
  all_goals decide

section
variable {s : State} {k : Nat} {bs : List Nat}

/-- R185: a stall's record once operation `d` is queued. -/
def Stall.queued (x : Stall) (d : TileOp) : Stall :=
  { x with
    nextId := x.nextId + 1
    tq := x.tq ++ [{ id := x.nextId, d := d }]
    toFetch := x.toFetch ++ [{ id := x.nextId, d := d }] }

theorem queueTileOp_of_refused (h : tileOpStatus s k bs ≠ 0) : queueTileOp s k bs = (s, tileOpStatus s k bs) := if_pos h

theorem queueTileOp_of_accepted (h : tileOpStatus s k bs = 0) :
    queueTileOp s k bs = (putStall s k ((getStall s k).queued (parseTileOp bs)), 0) := if_neg fun hne => hne h

theorem queueTileOp_status (s : State) (k : Nat) (bs : List Nat) : (queueTileOp s k bs).2 = tileOpStatus s k bs := by
  by_cases h : tileOpStatus s k bs = 0
  · rw [queueTileOp_of_accepted h, h]
  · rw [queueTileOp_of_refused h]

end

/-! SHU_TQ_STATUS lies below every register that says what memory is in service (R8, R199). -/

theorem tqStatus_addr_lt {n : Nat} (hn : n < 96) : Reg.SHU_TQ_STATUS.addr n 0 0 < 0x83000000 := by
  have haddr : Reg.SHU_TQ_STATUS.addr n 0 0 = 0x82000048 + n * 0x10000 := by
    simp only [RegDesc.addr, Reg.SHU_TQ_STATUS]
    omega
  omega

theorem evenShu_lt {k : Nat} (hk : k < 16) : evenShu k < 96 := by
  unfold evenShu
  omega

theorem RegDesc.le_addr_of_blk {d : RegDesc} (h : 3 ≤ d.blk) (w i k : Nat) : 0x83000000 ≤ d.addr w i k := by
  unfold addr
  omega

/-- Two states whose registers agree from block 0x03 on answer alike what is in service. -/
theorem reachable_congr {s t : State} (h : ∀ b, 0x83000000 ≤ b → rdReg t b = rdReg s b) (a : Nat) : reachable t a = reachable s a := by
  have hfield (f : Field) (w : Nat) (hblk : 3 ≤ f.reg.blk) : getF t f w = getF s f w := by
    rw [getF, h _ (RegDesc.le_addr_of_blk hblk w 0 0), getF]
  have hunit (u : Nat) : unitState t u = unitState s u := by
    rw [unitState, unitState, hfield Fld.HBM_STATUS_STATE u (by decide), hfield Fld.DDR_STATUS_STATE (u - 8) (by decide)]
  unfold reachable
  rw [hfield Fld.DDR_TOP_TOP 0 (by decide)]
  cases regionAt a with
  | manger d b => simp only [hfield Fld.MGR_OFFLINE_OFF d (by decide)]
  | hbm j => simp only [hunit]
  | ddr j => simp only [hunit]
  | control => rfl
  | outside => rfl

/-! The arm. -/

/-- R185: the state in which an arm is counted and the queue has space. -/
def tqCounted (s : State) (n : Nat) : State := setF (addF s Fld.SHU_TQ_STATUS_SEQ 1 n) Fld.SHU_TQ_STATUS_FULL 0 n

section
variable (s : State) (n : Nat)

theorem tqCounted_fr : Fr 0x8 s (tqCounted s n) := Fr.post (setF_fr ..) rfl (addF_fr ..)

theorem only_tqCounted : Only rdReg [Reg.SHU_TQ_STATUS.addr n 0 0] s (tqCounted s n) :=
  (only_setF s Fld.SHU_TQ_STATUS_SEQ _ n 0 0).trans (only_setF _ Fld.SHU_TQ_STATUS_FULL _ n 0 0)

theorem getF_tqCounted_full : getF (tqCounted s n) Fld.SHU_TQ_STATUS_FULL n = 0 :=
  getF_setF_same _ 0 n 0 0 (f := Fld.SHU_TQ_STATUS_FULL) (by decide)

theorem getF_tqCounted_seq : getF (tqCounted s n) Fld.SHU_TQ_STATUS_SEQ n = (getF s Fld.SHU_TQ_STATUS_SEQ n + 1) % 256 := by
  rw [tqCounted, getF_setF_bits (f := Fld.SHU_TQ_STATUS_FULL) (g := Fld.SHU_TQ_STATUS_SEQ) _ _ _ _ _ _ _ _ rfl (by decide) (by decide)
    (by decide)]
  exact getF_addF_same s 1 n 0 0 (f := Fld.SHU_TQ_STATUS_SEQ) (by decide)

theorem reachable_tqCounted {n : Nat} (hn : n < 96) (a : Nat) : reachable (tqCounted s n) a = reachable s a := by
  refine reachable_congr (fun b hb => only_tqCounted s n b ?_) a
  have hlt := tqStatus_addr_lt hn
  simp only [List.mem_singleton]
  omega

variable (st : Nat)

/-- The status of an arm is written beside FULL and SEQ. -/
theorem setF_tqStatus_spec : getF (setF s Fld.SHU_TQ_STATUS_STATUS st n) Fld.SHU_TQ_STATUS_STATUS n = st % 256
    ∧ getF (setF s Fld.SHU_TQ_STATUS_STATUS st n) Fld.SHU_TQ_STATUS_FULL n = getF s Fld.SHU_TQ_STATUS_FULL n
    ∧ getF (setF s Fld.SHU_TQ_STATUS_STATUS st n) Fld.SHU_TQ_STATUS_SEQ n = getF s Fld.SHU_TQ_STATUS_SEQ n :=
  ⟨getF_setF_same s st n 0 0 (f := Fld.SHU_TQ_STATUS_STATUS) (by decide),
    getF_setF_bits (f := Fld.SHU_TQ_STATUS_STATUS) (g := Fld.SHU_TQ_STATUS_FULL) _ _ _ _ _ _ _ _ rfl (by decide) (by decide) (by decide),
    getF_setF_bits (f := Fld.SHU_TQ_STATUS_STATUS) (g := Fld.SHU_TQ_STATUS_SEQ) _ _ _ _ _ _ _ _ rfl (by decide) (by decide) (by decide)⟩

end

section
variable {s : State} {k a : Nat}

theorem tqFull_addF (f : Field) (x w : Nat) : tqFull (addF s f x w) k = tqFull s k := by
  rw [tqFull, getStall_addF, tqFull]

theorem tqArmWrite_of_full (h : tqFull s k = true) : tqArmWrite s k a = setF
    (setF (addF s Fld.SHU_TQ_STATUS_SEQ 1 (evenShu k)) Fld.SHU_TQ_STATUS_FULL 1 (evenShu k)) Fld.SHU_TQ_STATUS_STATUS 0 (evenShu k) := by
  simp only [tqArmWrite, tqFull_addF, h, if_true]

section
variable (h : tqFull s k = false)
include h

theorem tqArmWrite_of_misaligned (ha : a % 16 ≠ 0) :
    tqArmWrite s k a = setF (tqCounted s (evenShu k)) Fld.SHU_TQ_STATUS_STATUS 5 (evenShu k) := by
  simp only [tqArmWrite, tqFull_addF, h, if_pos ha]
  rfl

theorem tqArmWrite_of_unreachable (ha : a % 16 = 0)
    (hreach : shuDie (evenShu k) ≠ a / 0x10000000 ∨ reachable (tqCounted s (evenShu k)) a = false) :
    tqArmWrite s k a = setF (tqCounted s (evenShu k)) Fld.SHU_TQ_STATUS_STATUS 12 (evenShu k) := by
  simp only [tqArmWrite, tqFull_addF, h, ha]
  rw [tqCounted] at hreach
  simp only [hreach]
  rfl

theorem tqArmWrite_of_fetched {m : MemRead} (ha : a % 16 = 0) (hdie : shuDie (evenShu k) = a / 0x10000000)
    (hreach : reachable (tqCounted s (evenShu k)) a = true) (hread : memRead (tqCounted s (evenShu k)) a 16 = m)
    (hgood : m.failed = false) : tqArmWrite s k a
      = setF (queueTileOp m.s k m.bytes).1 Fld.SHU_TQ_STATUS_STATUS (tileOpStatus m.s k m.bytes) (evenShu k) := by
  rw [← queueTileOp_status]
  rw [tqCounted] at hreach hread
  simp [tqArmWrite, tqFull_addF, h, ha, hdie, hreach, hread, hgood]

end

end

end Sys2Proof.Machine
end

section
/-! SUPPORT. The ports of a stall (R179, R180, R185) and siding deadlock (R191, R192): each command with the state it answers where its rule
lets it act. -/
namespace Sys2Proof.Machine
set_option Elab.async false

/-- The state in which an arm of `w`'s queue has been forgotten by the bus. -/
abbrev tqForgotten (s : State) (w : StallAt) : State := busForget s w.req (Reg.SHU_TQ_ARM.addr (evenShu w.stall) 0 0)

theorem tqArm_next (w : StallAt) (a : BitVec 48) (s : State) :
    exec (.tqArm w a) s = .next (tqArmWrite (tqForgotten s w) w.stall a.toNat) := exec_tqArm ..

theorem tqFull_busForget (s : State) (req : Requester) (a k : Nat) : tqFull (busForget s req a) k = tqFull s k := by
  rw [tqFull, getStall_busForget, tqFull]

theorem reachable_busForget (s : State) (req : Requester) (b a : Nat) : reachable (busForget s req b) a = reachable s a :=
  reachable_congr (fun _ _ => rdReg_busForget ..) a

/-- An arm that is counted, and whose status nothing else follows. -/
theorem tqArm_counted_spec (s : State) (req : Requester) (a n st : Nat) :
    getF (setF (tqCounted (busForget s req a) n) Fld.SHU_TQ_STATUS_STATUS st n) Fld.SHU_TQ_STATUS_STATUS n = st % 256
    ∧ getF (setF (tqCounted (busForget s req a) n) Fld.SHU_TQ_STATUS_STATUS st n) Fld.SHU_TQ_STATUS_FULL n = 0
    ∧ getF (setF (tqCounted (busForget s req a) n) Fld.SHU_TQ_STATUS_STATUS st n) Fld.SHU_TQ_STATUS_SEQ n
      = (getF s Fld.SHU_TQ_STATUS_SEQ n + 1) % 256
    ∧ Only rdReg [Reg.SHU_TQ_STATUS.addr n 0 0] s (setF (tqCounted (busForget s req a) n) Fld.SHU_TQ_STATUS_STATUS st n)
    ∧ Touches [.regs, .bus] s (setF (tqCounted (busForget s req a) n) Fld.SHU_TQ_STATUS_STATUS st n) := by
  obtain ⟨hstatus, hfull, hseq⟩ := setF_tqStatus_spec (tqCounted (busForget s req a) n) n st
  refine ⟨hstatus, hfull.trans (getF_tqCounted_full ..), ?_, fun b hb => ?_, ?_⟩
  · rw [hseq, getF_tqCounted_seq, getF_busForget]
  · rw [only_setF _ Fld.SHU_TQ_STATUS_STATUS st n 0 0 b hb, only_tqCounted _ n b hb, rdReg_busForget]
  · exact Fr.touches_maskOf (m := 0x18)
      (Fr.post (setF_fr ..) rfl (Fr.post (tqCounted_fr ..) rfl ((busForget_fr ..).mono rfl))) rfl

section
variable {s : State} {k : Fin 16}

theorem tileBufferEntry_next {c : Nat} {r : Run} {tl : Tile} {rest : List Tile} (hport : portChan s k .weight = some c)
    (hrun : (getChan s (evenShu k) c).run = some r) (hready : r.ready = tl :: rest) (hroom : (getStall s k).buffer.length < 2) :
    exec (.tileBufferEntry k) s = .next (putChan
      (putStall s k { getStall s k with buffer := (getStall s k).buffer ++ [tl], tilesIn := (getStall s k).tilesIn + 1 }) (evenShu k) c
      { getChan s (evenShu k) c with run := some { r with ready := rest, entered := r.entered + 1 } }) := by
  simp only [exec_tileBufferEntry, execTileBufferEntry, hport, hrun, hready]
  exact if_pos hroom

/-- R180: a stall's record once the fetch of `b` vectors in `bytes` has begun for the operation at the head of its queue. -/
def Stall.fetching (x : Stall) (q : QOp) (rest : List QOp) (bytes : Nat) : Stall :=
  { x with
    toFetch := rest
    fetches := x.fetches ++ [{ id := q.id, need := q.d.vcnt + 1, bytes := bytes }]
    inGrant := x.inGrant + 128 * (q.d.vcnt + 1) }

theorem inputVectorFetch_next {c : Nat} {q : QOp} {rest : List QOp} {r : Run} (hfetch : (getStall s k).toFetch = q :: rest)
    (hport : portChan s k .input = some c) (hrun : (getChan s (oddShu k) c).run = some r) (hdst : r.d.dstKind = .input)
    (hactive : (getChan s (oddShu k) c).state = .active) (hhalt : (getChan s (oddShu k) c).halting = 0)
    (hclear : (getChan s (oddShu k) c).clearing = false) (hshu : (getShu s (oddShu k)).state = .run)
    (hwait : q.d.waitEn = false ∨ sbxReached s (stallDie k) q.d.waitSbx q.d.waitValue = true)
    (hleft : r.pos + (getStall s k).inGrant < r.d.total)
    (hfits : ((getStall s k).fetches.map (·.bytes)).foldl (· + ·) 0 + (q.d.vcnt + 1) * (if q.d.xfmt = 0 then 64 else 128) ≤ 1048576) :
    exec (.inputVectorFetch k) s = .next (putStall s k
      ((getStall s k).fetching q rest ((q.d.vcnt + 1) * (if q.d.xfmt = 0 then 64 else 128)))) := by
  simp only [exec_inputVectorFetch, execInputVectorFetch, hfetch, hport, hrun]
  exact if_pos ⟨hdst, hactive, hhalt, by simp [hclear], hshu, hwait, hleft, hfits⟩

end

/-! Siding deadlock. -/

/-- R166, log entry 230: a channel's record once it is to halt with `cause`, if it was not stopping already. -/
def Chan.haltedFor (x : Chan) (cause : Nat) : Chan := { x with halting := if x.halting = 0 then cause else x.halting }

/-- A channel that is already stopping keeps its cause, so halting it twice for one cause is halting it once. -/
theorem Chan.haltedFor_twice (x : Chan) (cause : Nat) : (x.haltedFor cause).haltedFor cause = x.haltedFor cause := by
  by_cases h : x.halting = 0 <;> simp [haltedFor, h]

section
variable (s : State) (n c cause : Nat)

theorem getChan_haltChan_same : getChan (haltChan s n c cause) n c = (getChan s n c).haltedFor cause := by
  by_cases h : (getChan s n c).halting = 0
  · simp [haltChan, Chan.haltedFor, h]
  · simp [haltChan, Chan.haltedFor, h]

theorem getChan_haltChan_ne {m j : Nat} (hne : m ≠ n ∨ j ≠ c) : getChan (haltChan s n c cause) m j = getChan s m j := by
  by_cases h : (getChan s n c).halting = 0
  · simp [haltChan, h, getChan_putChan_ne _ _ _ _ hne]
  · simp [haltChan, h]

/-- Two channels, which may be one, are to halt for one cause. -/
theorem haltChan_twice_spec (n2 c2 : Nat) :
    getChan (haltChan (haltChan s n c cause) n2 c2 cause) n c = (getChan s n c).haltedFor cause
    ∧ getChan (haltChan (haltChan s n c cause) n2 c2 cause) n2 c2 = (getChan s n2 c2).haltedFor cause
    ∧ (∀ m j, m ≠ n ∨ j ≠ c → m ≠ n2 ∨ j ≠ c2 →
      getChan (haltChan (haltChan s n c cause) n2 c2 cause) m j = getChan s m j) := by
  refine ⟨?_, ?_, fun m j hne hne2 => ?_⟩
  · by_cases h : n = n2 ∧ c = c2
    · obtain ⟨rfl, rfl⟩ := h
      rw [getChan_haltChan_same, getChan_haltChan_same, Chan.haltedFor_twice]
    · rw [getChan_haltChan_ne _ _ _ _ (by omega), getChan_haltChan_same]
  · rw [getChan_haltChan_same]
    by_cases h : n2 = n ∧ c2 = c
    · obtain ⟨rfl, rfl⟩ := h
      rw [getChan_haltChan_same, Chan.haltedFor_twice]
    · rw [getChan_haltChan_ne _ _ _ _ (by omega)]
  · rw [getChan_haltChan_ne _ _ _ _ hne2, getChan_haltChan_ne _ _ _ _ hne]

end

theorem sidingDeadlock_next {s : State} {n : Fin 96} {c : Fin 8} {sa sb : Nat} {pa pb : Bool} {n2 c2 : Nat}
    (hwait : chanNext s n c = .waitSid sa pa) (hon : (getChan s n c).waitOn = some (sa, pa))
    (hwindow : deadlockWindow s (shuDie n) ≤ (getChan s n c).waitCnt) (hparty : sidParty s (shuDie n) sa pa = some (n2, c2))
    (hwait2 : chanNext s n2 c2 = .waitSid sb pb) (hparty2 : sidParty s (shuDie n) sb pb = some (n.val, c.val))
    (hhalt : (getChan s n c).halting = 0 ∨ (getChan s n2 c2).halting = 0) :
    ∃ unit detail, exec (.sidingDeadlock n c) s = .next (raiseEv (haltChan (haltChan s n c 2) n2 c2 2) 0x4020 unit 0 detail) := by
  rw [exec_sidingDeadlock]
  simp only [execSidingDeadlock, hwait, hon, hparty, hwait2, hparty2]
  rw [if_pos ⟨trivial, hwindow⟩, if_pos ⟨trivial, hhalt⟩]
  exact ⟨_, _, rfl⟩

/-- Settles O18: the arms from `tqArmWrite`, the deadlock from what two halts leave, the rest from the state each command answers. -/
theorem stallPorts : Obligations.StallPorts := by
  refine ⟨fun w a k m s u hk hu hfull halign hdie hreach hread hgood => ?fetched, fun k bs s hst => ?queued, fun w a k s hk hfull => ?full,
    fun w a k s hk hfull halign => ?misaligned, fun w a k s hk hfull halign hreach => ?unreachable,
    fun k c r tl rest s hport hrun hready hroom => ?tile,
    fun k c q rest r s hfetch hport hrun hdst hactive hhalt hclear hshu hwait hleft hfits => ?vectors,
    fun n c sa sb pa pb n2 c2 s hwait hon hwindow hparty hwait2 hparty2 hhalt => ?deadlock⟩
  case fetched =>
    subst hk hu
    have hlt := evenShu_lt w.stall.isLt
    have hstall : getStall m.s w.stall = getStall s w.stall := by
      rw [← hread, (memRead_fr ..).getStall_eq rfl, getStall_setF, getStall_addF, getStall_busForget]
    have hstatus := tileOpStatus_lt m.s w.stall m.bytes
    have hqueue := queueTileOp_fr m.s w.stall m.bytes
    obtain ⟨hst, hfullKept, hseqKept⟩ := setF_tqStatus_spec (queueTileOp m.s w.stall m.bytes).1 (evenShu w.stall)
      (tileOpStatus m.s w.stall m.bytes)
    refine ⟨_, tqArm_next .., ?_⟩
    rw [tqArmWrite_of_fetched ((tqFull_busForget ..).trans hfull) halign hdie
      ((reachable_tqCounted _ hlt _).trans ((reachable_busForget ..).trans hreach)) hread hgood, hst, hfullKept, hseqKept,
      getF_congr _ _ _ _ (hqueue.same .regs rfl), getF_congr _ _ _ _ (hqueue.same .regs rfl), getStall_setF]
    refine ⟨by omega, rfl, rfl, fun h0 => ?_, fun h0 => ?_⟩
    · rw [queueTileOp_of_accepted h0, getStall_putStall_same, hstall]
      rfl
    · rw [queueTileOp_of_refused h0, hstall]
  case queued =>
    rw [queueTileOp_of_accepted hst, getStall_putStall_same]
    exact ⟨rfl, rfl, putStall_frame ..⟩
  case full =>
    subst hk
    refine ⟨_, tqArm_next .., ?_⟩
    rw [tqArmWrite_of_full ((tqFull_busForget ..).trans hfull)]
    obtain ⟨-, hfullKept, hseqKept⟩ := setF_tqStatus_spec (setF (addF (tqForgotten s w) Fld.SHU_TQ_STATUS_SEQ 1 (evenShu w.stall))
      Fld.SHU_TQ_STATUS_FULL 1 (evenShu w.stall)) (evenShu w.stall) 0
    rw [hfullKept, hseqKept]
    refine ⟨getF_setF_same _ 1 _ 0 0 (f := Fld.SHU_TQ_STATUS_FULL) (by decide), ?_, fun b hb => ?_, ?_⟩
    · rw [getF_setF_bits (f := Fld.SHU_TQ_STATUS_FULL) (g := Fld.SHU_TQ_STATUS_SEQ) _ _ _ _ _ _ _ _ rfl (by decide) (by decide)
        (by decide), getF_addF_same _ _ _ _ _ (by decide), getF_busForget]
      rfl
    · rw [only_setF _ Fld.SHU_TQ_STATUS_STATUS _ _ 0 0 b hb, only_setF _ Fld.SHU_TQ_STATUS_FULL _ _ 0 0 b hb,
        rdReg_addF_ne (f := Fld.SHU_TQ_STATUS_SEQ) _ fun h => hb (List.mem_singleton.mpr h), rdReg_busForget]
    · exact Fr.touches_maskOf (m := 0x18)
        (Fr.post (setF_fr ..) rfl (Fr.post (setF_fr ..) rfl (Fr.post (addF_fr ..) rfl ((busForget_fr ..).mono rfl)))) rfl
  case misaligned =>
    subst hk
    refine ⟨_, tqArm_next .., ?_⟩
    rw [tqArmWrite_of_misaligned ((tqFull_busForget ..).trans hfull) halign]
    exact tqArm_counted_spec s w.req _ (evenShu w.stall) 5
  case unreachable =>
    subst hk
    refine ⟨_, tqArm_next .., ?_⟩
    have hreach' := hreach.imp_right fun h => (reachable_tqCounted _ (evenShu_lt w.stall.isLt) _).trans
      ((reachable_busForget s w.req (Reg.SHU_TQ_ARM.addr (evenShu w.stall) 0 0) _).trans h)
    rw [tqArmWrite_of_unreachable ((tqFull_busForget ..).trans hfull) halign hreach']
    obtain ⟨hst, hfull0, -, hother, htouch⟩ :=
      tqArm_counted_spec s w.req (Reg.SHU_TQ_ARM.addr (evenShu w.stall) 0 0) (evenShu w.stall) 12
    exact ⟨hst, hfull0, hother, htouch⟩
  case tile =>
    refine ⟨_, tileBufferEntry_next hport hrun hready hroom, ?_, getChan_putChan_same .., fun j hj => ?_, fun j hj => ?_, ?_⟩
    · rw [getStall_putChan, getStall_putStall_same]
    · rw [getStall_putChan, only_putStall _ _ _ j hj]
    · rw [only_putChan _ _ _ _ j hj, getShu_putStall]
    · exact Fr.touches_maskOf (m := 0x280) (Fr.post (putChan_fr ..) rfl ((putStall_fr ..).mono rfl)) rfl
  case vectors =>
    refine ⟨_, inputVectorFetch_next hfetch hport hrun hdst hactive hhalt hclear hshu hwait hleft hfits, ?_⟩
    rw [getStall_putStall_same]
    exact ⟨rfl, rfl, rfl, putStall_frame ..⟩
  case deadlock =>
    obtain ⟨unit, detail, hnext⟩ := sidingDeadlock_next hwait hon hwindow hparty hwait2 hparty2 hhalt
    obtain ⟨ha, hb, hother⟩ := haltChan_twice_spec s n c 2 n2 c2
    have hhalts : Fr 0x200 s (haltChan (haltChan s n c 2) n2 c2 2) := Fr.post (haltChan_fr ..) rfl (haltChan_fr ..)
    obtain ⟨e, hev, hcode, -, -⟩ := raiseEv_appends (hhalts.same .ev rfl) 0x4020 unit 0 detail
    refine ⟨_, hnext, ?_, ?_, fun m j hne hne2 => ?_, ⟨e, hev, hcode⟩,
      Fr.touches_maskOf (m := 0x220) (Fr.post (raiseEv_fr ..) rfl (hhalts.mono rfl)) rfl⟩
    · rw [getChan_raiseEv, ha]
      rfl
    · rw [getChan_raiseEv, hb]
      rfl
    · rw [getChan_raiseEv, hother m j hne hne2]

end Sys2Proof.Machine
end

section
/-! SUPPORT. The acknowledgement of a transfer that others follow (R157, Table 6.10): what it leaves, and what SHU_CHn_DONE.POS holds. -/
namespace Sys2Proof.Machine
set_option Elab.async false

section
variable {s : State} {n c : Nat} {r : Run}

theorem getChan_putRun_run (s : State) (n c : Nat) (r : Run) : (getChan (putRun s n c r) n c).run = some r :=
  congrArg Chan.run (getChan_putChan_same ..)

/-- R174: only a siding takes slots. -/
theorem publishSlots_of_not_siding (hrun : (getChan s n c).run = some r) (hdst : r.d.dstKind ≠ .siding) (fuel : Nat) :
    publishSlots s n c fuel = s := by
  cases fuel with
  | zero => rfl
  | succ fuel =>
    have hslots : slotElems s (shuDie n) r.d.dstKind r.d.dsid = 0 := if_neg hdst
    simp only [publishSlots, hrun, hslots]
    exact if_neg fun h => h.1 rfl

/-- R164: a walk with a transfer outstanding has not ended. -/
theorem endWalk_of_outstanding (hrun : (getChan s n c).run = some r) (hout : r.xfers ≠ []) : endWalk s n c = s := by
  simp [endWalk, hrun, Run.ended, hout]

/-- The channel's run once the data of positions `p` to `p + k − 1` is acknowledged. -/
def Run.acked (r : Run) (rest : List Xfer) (p k : Nat) : Run :=
  { r with xfers := rest, done := max r.done (min (r.upTo p k) r.written) }

theorem ackTransfer_of_data {x : Xfer} {rest : List Xfer} {p k : Nat} {lead : Bool} (hrun : (getChan s n c).run = some r)
    (hxfers : r.xfers = x :: rest) (hack : mayAck s n c r x = true) (hkind : x.kind = .data p k lead) (hdst : r.d.dstKind ≠ .siding)
    (hrest : rest ≠ []) :
    ackTransfer s n c = setF (putRun s n c (r.acked rest p k)) Fld.SHU_CH_DONE_POS (r.acked rest p k).done n c := by
  have hset : (getChan (setF (putRun s n c (r.acked rest p k)) Fld.SHU_CH_DONE_POS (r.acked rest p k).done n c) n c).run
      = some (r.acked rest p k) := by
    rw [getChan_setF, getChan_putRun_run]
  simp only [ackTransfer, hrun, hxfers, hack, hkind]
  exact (congrArg (fun t => endWalk t n c) (publishSlots_of_not_siding hset hdst 64)).trans
    (endWalk_of_outstanding hset hrest)

/-- Table 6.11: POS of SHU_CHn_DONE is the whole register, of 64 bits. -/
theorem getF_ackTransfer_of_data {x : Xfer} {rest : List Xfer} {p k : Nat} {lead : Bool} (hrun : (getChan s n c).run = some r)
    (hxfers : r.xfers = x :: rest) (hack : mayAck s n c r x = true) (hkind : x.kind = .data p k lead) (hdst : r.d.dstKind ≠ .siding)
    (hrest : rest ≠ []) :
    getF (ackTransfer s n c) Fld.SHU_CH_DONE_POS n c = max r.done (min (r.upTo p k) r.written) % 2 ^ 64 := by
  rw [ackTransfer_of_data hrun hxfers hack hkind hdst hrest]
  exact getF_setF_same _ _ n c 0 (f := Fld.SHU_CH_DONE_POS) (by decide)

end

/-- A walk of 2^51 positions that copies two windows of manger 0 over and over, 128 elements of binary32 at a time (Table 6.2: its counts
fit their fields). -/
def longDesc : StreamDesc :=
  { cls := 1, sfmt := 6, dfmt := 6, cnt := [128, 2, 2 ^ 22, 2 ^ 21, 1]
    src := { str := [1, 128, 0, 0, 0] }
    dst := { base := 0x1000, str := [1, 128, 0, 0, 0] } }

/-- The transfer of its first 128 positions from 2^48 on, whose read has returned, and the one after it. -/
def firstXfer : Xfer := ⟨.data (2 ^ 48) 128 false, 0, 512, true, 0⟩
def nextXfer : Xfer := ⟨.data (2 ^ 48 + 128) 128 false, 512, 512, false, 1⟩

/-- The walk with 2^48 positions done and those two transfers outstanding. -/
def longRun : Run :=
  { d := longDesc, pos := 2 ^ 48 + 256, xfers := [firstXfer, nextXfer], conv := 2 ^ 48 + 128, done := 2 ^ 48 }

/-- The reset state with that walk on channel 0 of shunter 0. -/
def longWalk : State := putChan .reset 0 0 { state := .active, run := some longRun }

theorem longWalk_run : (getChan longWalk 0 0).run = some longRun := congrArg Chan.run (getChan_putChan_same ..)

/-- Every position of the transfer is converted, and nothing of it waits for a later one. -/
theorem longRun_mayAck : mayAck longWalk 0 0 longRun firstXfer = true := by
  have hholds : longRun.holds (longRun.upTo (2 ^ 48) 128) false = false := by decide
  have hdst : (longRun.d.dstKind != .weight) = true := by decide
  simp only [mayAck, firstXfer, hholds, hdst, Bool.and_false, Bool.not_false, Bool.and_self, Bool.true_or]

/-- Refutes O16: its clause for TRANSFER_ACK has SHU_CHn_DONE.POS count modulo 2^48, where Table 6.11 gives POS all 64 bits of its register
and the model writes them. A walk of 2^51 positions whose first 2^48 + 128 are acknowledged reads 2^48 + 128 there, not 128. -/
theorem not_transferCommands : ¬ Obligations.TransferCommands := by
  rintro ⟨-, -, -, -, hack, -⟩
  obtain ⟨t, hstep, -, hpos, -⟩ := hack 0 0 longRun firstXfer [nextXfer] (2 ^ 48) 128 false longWalk longWalk_run rfl longRun_mayAck rfl
    (by decide) (List.cons_ne_nil _ _)
  cases (exec_transferAck ..).symm.trans hstep
  have hwhole := getF_ackTransfer_of_data longWalk_run rfl longRun_mayAck rfl (by decide) (List.cons_ne_nil _ _)
  have hdone : max longRun.done (min (longRun.upTo (2 ^ 48) 128) longRun.written) = 2 ^ 48 + 128 := by decide
  rw [hdone] at hpos hwhole
  exact absurd (hwhole.symm.trans hpos) (by decide)

end Sys2Proof.Machine
end

section
/-! SUPPORT. A write of OFFLINE to a unit whose power-on fill is still to run (R215, R229). -/
namespace Sys2Proof.Machine
set_option Elab.async false

section
variable (s : State) {u : Nat}

theorem unitState_setUnitState (v : Nat) : unitState (setUnitState s u v) u = v % 4 := by
  unfold unitState setUnitState
  split <;> exact getF_setF_same _ _ _ _ _ (by decide)

/-- A unit's OFFLINE bit is written (R215): HBM_CFG or DDR_CFG, in the unit's own window. -/
def putOffline (s : State) (u x : Nat) : State :=
  if u < 8 then setF s Fld.HBM_CFG_OFFLINE x u else setF s Fld.DDR_CFG_OFFLINE x (u - 8)

theorem putOffline_integ (x : Nat) : (putOffline s u x).integ = s.integ := by
  unfold putOffline
  split <;> rfl

theorem putOffline_tier (x : Nat) : (putOffline s u x).tier = s.tier := by
  unfold putOffline
  split <;> rfl

/-- Table 7.5: STATUS and CFG have offsets of their own in the window. -/
theorem unitState_putOffline (x : Nat) : unitState (putOffline s u x) u = unitState s u := by
  have hhbm (w : Nat) : Fld.HBM_STATUS_STATE.reg.addr w 0 0 ≠ Fld.HBM_CFG_OFFLINE.reg.addr w 0 0 := by
    simp [RegDesc.addr, Fld.HBM_STATUS_STATE, Fld.HBM_CFG_OFFLINE, Reg.HBM_STATUS, Reg.HBM_CFG]
  have hddr (w : Nat) : Fld.DDR_STATUS_STATE.reg.addr w 0 0 ≠ Fld.DDR_CFG_OFFLINE.reg.addr w 0 0 := by
    simp [RegDesc.addr, Fld.DDR_STATUS_STATE, Fld.DDR_CFG_OFFLINE, Reg.DDR_STATUS, Reg.DDR_CFG]
  unfold unitState putOffline
  split
  · exact getF_setF_reg _ _ _ _ _ _ _ _ (hhbm u)
  · exact getF_setF_reg _ _ _ _ _ _ _ _ (hddr (u - 8))

theorem tierCfgWrite_on : tierCfgWrite s u false =
    if unitState (putOffline s u 0) u = tierOffline ∧ (putOffline s u 0).tier.trained.contains u then
      setUnitState (putOffline s u 0) u
        (if (putOffline s u 0).integ.fillDue.contains (u + 4) then tierTraining else tierReady)
    else putOffline s u 0 :=
  rfl

end

/-- R229: a unit reads TRAINING until its fill ends, so OFFLINE = 0 returns it to READY only where no fill of it is due. -/
theorem unitState_tierCfgWrite_on {s : State} {u : Nat} (hoff : unitState s u = tierOffline) (htrained : s.tier.trained.contains u = true) :
    unitState (tierCfgWrite s u false) u = if s.integ.fillDue.contains (u + 4) then tierTraining else tierReady := by
  rw [tierCfgWrite_on, unitState_putOffline, putOffline_tier, putOffline_integ, if_pos ⟨hoff, htrained⟩, unitState_setUnitState]
  split <;> rfl

/-- Stack 0 trained, taken OFFLINE with its fill still due. -/
def offlineBeforeFill : State :=
  { setF .reset Fld.HBM_STATUS_STATE tierOffline with tier := { trained := [0] }, integ := { fillDue := [4] } }

/-- Refutes O20: its clause for OFFLINE = 0 has every trained OFFLINE unit return to READY. A unit taken out of service while it was
TRAINING (log entry 76) has its fill still due, and goes back to TRAINING until that ends (R229). -/
theorem not_tierService : ¬ Obligations.TierService := by
  rintro ⟨hon, -⟩
  have hoff : unitState offlineBeforeFill 0 = tierOffline := by decide +kernel
  obtain ⟨t, hstep, hready, -⟩ := hon .ostler 0 offlineBeforeFill rfl hoff rfl
  have hnext : exec (.tierOfflineWrite .ostler 0 false) offlineBeforeFill = .next (tierCfgWrite offlineBeforeFill 0 false) :=
    (exec_tierOfflineWrite ..).trans (if_pos rfl)
  cases hnext.symm.trans hstep
  have htraining : unitState (tierCfgWrite offlineBeforeFill 0 false) 0 = tierTraining :=
    unitState_tierCfgWrite_on hoff rfl
  exact absurd (htraining.symm.trans hready) (by decide)

end Sys2Proof.Machine
end

section
/-! SUPPORT. A queued read of no bursts (R206): it answers no bytes, so it never fails, and yet opens the burst that its address lies in. -/
namespace Sys2Proof.Machine
set_option Elab.async false

theorem settle_of_lost_nil {s : State} (h : s.integ.lost = []) : settle s = s := by
  rw [settle, settleN, h]

/-- A read of no bytes reports no byte as bad. -/
theorem readAt_zero_failed (s : State) (a : Nat) (groom : Bool) : (readAt s a 0 groom).failed = false := by
  unfold readAt
  split <;> simp [readManger, MemRead.failed]

/-- What a read of `n` bursts leaves where it is the oldest of its class and its direction is served (R187, R206, R210). -/
def readServed (s : State) (j : Nat) (q : MemReq) (n : Nat) : MemRead :=
  readAt (serveLane { s with tier := { s.tier with queue := s.tier.queue.eraseIdx j } } q) q.addr (64 * n)

theorem queue_memoryRequestComplete_read {s t : State} {j n : Nat} {q : MemReq} (hq : s.tier.queue[j]? = some q)
    (hkind : q.kind = .read n) (hahead : ∀ y ∈ s.tier.queue.take j, y.cls ≠ q.cls) (hturn : inTurn s q = true)
    (hstep : exec (.memoryRequestComplete j) s = .next t) : t.tier.queue = (settle (readServed s j q n).s).tier.queue := by
  have holdest : (s.tier.queue.take j).any
      (fun y => y.cls == q.cls && y.writes == q.writes && laneKey s y.addr == laneKey s q.addr) = false :=
    List.any_eq_false.mpr fun y hy => by simp [hahead y hy]
  simp only [exec_memoryRequestComplete, execMemoryRequestComplete, hq, holdest, hturn, hkind, Bool.not_true, Bool.or_self,
    Bool.false_eq_true, if_false] at hstep
  cases hstep
  rfl

/-- A request of no bursts at the first burst of HBM, and a read of another class behind it. -/
def emptyRead : MemReq := { addr := 0x1000000000, cls := 0, kind := .read 0 }
def readBehind : MemReq := { addr := 0x1000000000, cls := 1, kind := .read 1 }

/-- Both queued at stack 0 in the handling state, the burst with errors in three of its check symbols, and the bank's repair unused. -/
def emptyReadQueued : State :=
  { setF .reset Fld.ECC_HND_HND 1 with
    tier := { queue := [emptyRead, readBehind] }
    mem := { dev := [(0x1000000000, packDev [1, 2, 7])] } }

/-- The burst is uncorrectable, so its row is repaired (R238 level 2), and the read behind waits for that (R235). -/
theorem readServed_emptyRead_queue : (readServed emptyReadQueued 0 emptyRead 0).s.tier.queue = [{ readBehind with tRef := true }] := by
  decide +kernel

theorem readServed_emptyRead_lost : (readServed emptyReadQueued 0 emptyRead 0).s.integ.lost = [] := by
  decide +kernel

/-- Refutes O19: its clause for a read that departs takes in a queued read of no bursts. That read answers no bytes, so it does not
fail; where the burst that it opens is uncorrectable and its row is repaired, the requests behind it take the repair as t_ref, so the
queue is not the one before without the read. R206 has k = 1 to 8, and `execMemoryRequest` queues no such read: the clause has no
hypothesis that says so. -/
theorem not_memoryRequests : ¬ Obligations.MemoryRequests := by
  rintro ⟨-, -, hread, -⟩
  have hturn : inTurn emptyReadQueued emptyRead = true := by decide +kernel
  have hahead : ∀ y ∈ emptyReadQueued.tier.queue.take 0, y.cls ≠ emptyRead.cls := fun _ hy => nomatch hy
  obtain ⟨t, hstep, hserved, -⟩ := hread 0 emptyRead 0 (readServed emptyReadQueued 0 emptyRead 0) emptyReadQueued rfl rfl hahead hturn
    rfl rfl
  obtain ⟨-, hqueue, -⟩ := hserved (readAt_zero_failed ..)
  rw [queue_memoryRequestComplete_read rfl rfl hahead hturn hstep, settle_of_lost_nil readServed_emptyRead_lost,
    readServed_emptyRead_queue] at hqueue
  exact absurd (congrArg (List.map MemReq.tRef) hqueue) (by decide)

end Sys2Proof.Machine
end

section
/-! SUPPORT. The bays of the loft (R254, R259, R266): what emptying a bay, a switch and the failure of a build leave of the bays' states
and of the registers that show them. -/
namespace Sys2Proof.Machine
set_option Elab.async false

/-- A field of a register outside a frame keeps its value. -/
theorem Only.getF_eq {l : List Nat} {s t : State} (h : Only rdReg l s t) {f : Field} {w i k : Nat} (hf : f.reg.addr w i k ∉ l) :
    getF t f w i k = getF s f w i k := by
  rw [getF, h _ hf, getF]

/-! The state of a bay (Table 9.5). -/

theorem bayState_setF_same (s : State) (y x : Nat) : bayState (setF s Fld.LFT_BAY_STATUS_STATE x 0 y) y = x % 8 :=
  getF_setF_same s x 0 y 0 (f := Fld.LFT_BAY_STATUS_STATE) (by decide)

theorem bayStatus_addr_ne {y z : Nat} (h : z ≠ y) : Reg.LFT_BAY_STATUS.addr 0 z 0 ≠ Reg.LFT_BAY_STATUS.addr 0 y 0 := by
  simp only [RegDesc.addr, Reg.LFT_BAY_STATUS]
  omega

theorem bayState_setF_ne (s : State) (x : Nat) {y z : Nat} (h : z ≠ y) :
    bayState (setF s Fld.LFT_BAY_STATUS_STATE x 0 y) z = bayState s z :=
  getF_setF_reg s _ _ _ _ _ _ _ (bayStatus_addr_ne h)

/-- The registers of bay `y` that show what it holds (Table 9.9). -/
def holdingRegs (y : Nat) : List Nat := [Reg.LFT_BAY_HBM.addr 0 y 0, Reg.LFT_BAY_DDR.addr 0 y 0, Reg.LFT_BAY_VERSION.addr 0 y 0]

theorem bayStatus_not_mem_holdingRegs (y z : Nat) : Reg.LFT_BAY_STATUS.addr 0 z 0 ∉ holdingRegs y := by
  simp only [holdingRegs, RegDesc.addr, Reg.LFT_BAY_STATUS, Reg.LFT_BAY_HBM, Reg.LFT_BAY_DDR, Reg.LFT_BAY_VERSION, List.mem_cons,
    List.not_mem_nil, or_false, not_or]
  omega

/-- A bay that empties changes its state, and then no register but those of its holding. -/
theorem only_emptyBay (s : State) (y : Nat) :
    Only rdReg (holdingRegs y) (setF s Fld.LFT_BAY_STATUS_STATE 0 0 y) (emptyBay s y) := by
  intro b hb
  simp only [holdingRegs, List.mem_cons, List.not_mem_nil, or_false, not_or] at hb
  obtain ⟨hhbm, hddr, hver⟩ := hb
  rw [emptyBay, rdReg_putBay, rdReg_setF_ne (f := Fld.LFT_BAY_VERSION_VERSION) _ hver, showBytes,
    rdReg_setF_ne (f := Fld.LFT_BAY_DDR_BYTES) _ hddr, rdReg_setF_ne (f := Fld.LFT_BAY_HBM_BYTES) _ hhbm]
  rfl

theorem bayState_emptyBay (s : State) (y z : Nat) :
    bayState (emptyBay s y) z = bayState (setF s Fld.LFT_BAY_STATUS_STATE 0 0 y) z :=
  (only_emptyBay s y).getF_eq (bayStatus_not_mem_holdingRegs y z)

theorem bayState_emptyBay_same (s : State) (y : Nat) : bayState (emptyBay s y) y = 0 :=
  (bayState_emptyBay s y y).trans (bayState_setF_same s y 0)

theorem bayState_emptyBay_ne (s : State) {y z : Nat} (h : z ≠ y) : bayState (emptyBay s y) z = bayState s z :=
  (bayState_emptyBay s y z).trans (bayState_setF_ne s 0 h)

/-! The switch (R259): the bay not named, the generation, the bay named, and the floor of its set. -/

/-- A switch to the other bay: bay `o`, where it is ACTIVE, drains, or empties where no request is bound to it. -/
def outgoing (s : State) (o : Nat) : State :=
  if bayState s o = 3 then
    (if getF s Fld.LFT_BAY_REFS_REFS 0 o = 0 then emptyBay s o else setF s Fld.LFT_BAY_STATUS_STATE 4 0 o)
  else s

/-- LFT_GEN and the generation of bay `y` become `gen`. -/
def genGiven (s : State) (y gen : Nat) : State := setF (setF s Fld.LFT_GEN_GEN gen) Fld.LFT_BAY_GEN_GEN gen 0 y

/-- Bay `y` becomes ACTIVE and is shown in LFT_ACTIVE. -/
def activated (s : State) (y : Nat) : State :=
  setF (setF (setF s Fld.LFT_BAY_STATUS_STATE 3 0 y) Fld.LFT_ACTIVE_BAY y) Fld.LFT_ACTIVE_VALID 1

/-- R251: the floor rises to that of the set that bay `y` holds. -/
def floorRaised (s : State) (y : Nat) : State :=
  match (getBay s y).set with
  | some t => raiseFloor s t.keySlot t.modelId t.floor
  | none => s

/-- The generation that the next switch gives. -/
def nextGen (s : State) : Nat := (getF s Fld.LFT_GEN_GEN + 1) % 2 ^ 64

/-- The state in which a switch to bay `y` raises its event. -/
def switched (s : State) (y : Nat) : State := floorRaised (activated (genGiven (outgoing s (1 - y)) y (nextGen s)) y) y

section
variable {s : State} {y : Nat}

theorem loftSwitch_of_taken (h : bayState s y = 2 ∨ bayState s y = 4) :
    (loftSwitch s y).1 = raiseEv (switched s y) 0x5005 loftUnit 0 (packDetail [(0, y), (32, nextGen s % 2 ^ 32)]) := by
  rw [loftSwitch, if_pos h]
  rfl

theorem loftSwitch_of_refused (hready : bayState s y ≠ 2) (hdrain : bayState s y ≠ 4) :
    (loftSwitch s y).1 = raiseEv (setF s Fld.LFT_ERR_SWITCH_REFUSED 1) 0x5008 loftUnit 0 (packDetail [(0, 1), (2, bayState s y)]) := by
  rw [loftSwitch, if_neg (not_or.mpr ⟨hready, hdrain⟩)]
  rfl

theorem loftSwitch_next {req : Requester} (hreq : req.bridle = true) (y : Fin 2) :
    exec (.loftSwitch req y) s = .next (loftSwitch s y).1 :=
  (exec_loftSwitch ..).trans (if_pos hreq)

end

theorem bayState_outgoing_same (s : State) (o : Nat) : bayState (outgoing s o) o
    = if bayState s o = 3 then (if getF s Fld.LFT_BAY_REFS_REFS 0 o = 0 then 0 else 4) else bayState s o := by
  unfold outgoing
  split
  · split
    · exact bayState_emptyBay_same s o
    · exact bayState_setF_same s o 4
  · rfl

theorem only_genGiven (s : State) (y gen : Nat) :
    Only rdReg [Reg.LFT_GEN.addr 0 0 0, Reg.LFT_BAY_GEN.addr 0 y 0] s (genGiven s y gen) := fun b hb => by
  simp only [List.mem_cons, List.not_mem_nil, or_false, not_or] at hb
  obtain ⟨hgen, hbay⟩ := hb
  rw [genGiven, rdReg_setF_ne (f := Fld.LFT_BAY_GEN_GEN) _ hbay, rdReg_setF_ne (f := Fld.LFT_GEN_GEN) _ hgen]

theorem getF_genGiven (s : State) (y gen : Nat) : getF (genGiven s y gen) Fld.LFT_GEN_GEN = gen % 2 ^ 64
    ∧ getF (genGiven s y gen) Fld.LFT_BAY_GEN_GEN 0 y = gen % 2 ^ 64 := by
  have hne : Fld.LFT_GEN_GEN.reg.addr 0 0 0 ≠ Fld.LFT_BAY_GEN_GEN.reg.addr 0 y 0 := by
    simp only [RegDesc.addr, Fld.LFT_GEN_GEN, Fld.LFT_BAY_GEN_GEN, Reg.LFT_GEN, Reg.LFT_BAY_GEN]
    omega
  exact ⟨(getF_setF_reg _ _ _ _ _ _ _ _ hne).trans (getF_setF_same s gen 0 0 0 (f := Fld.LFT_GEN_GEN) (by decide)),
    getF_setF_same _ gen 0 y 0 (f := Fld.LFT_BAY_GEN_GEN) (by decide)⟩

theorem only_activated (s : State) (y : Nat) :
    Only rdReg [Reg.LFT_ACTIVE.addr 0 0 0] (setF s Fld.LFT_BAY_STATUS_STATE 3 0 y) (activated s y) :=
  (only_setF _ Fld.LFT_ACTIVE_BAY y 0 0 0).trans (only_setF _ Fld.LFT_ACTIVE_VALID 1 0 0 0)

theorem getF_activated (s : State) (y : Nat) :
    getF (activated s y) Fld.LFT_ACTIVE_VALID = 1 ∧ getF (activated s y) Fld.LFT_ACTIVE_BAY = y % 2 := by
  refine ⟨getF_setF_same _ 1 0 0 0 (f := Fld.LFT_ACTIVE_VALID) (by decide), ?_⟩
  rw [activated, getF_setF_bits (f := Fld.LFT_ACTIVE_VALID) (g := Fld.LFT_ACTIVE_BAY) _ _ _ _ _ _ _ _ rfl (by decide) (by decide)
    (by decide)]
  exact getF_setF_same _ y 0 0 0 (f := Fld.LFT_ACTIVE_BAY) (by decide)

/-- LFT_ACTIVE lies at the loft's first address. -/
theorem loftReg_not_mem_active {d : RegDesc} (hblk : d.blk = 5) (hlo : d.lo = 0) (hoff : d.off ≠ 0) (i : Nat) :
    d.addr 0 i 0 ∉ [Reg.LFT_ACTIVE.addr 0 0 0] := by
  simp only [RegDesc.addr, Reg.LFT_ACTIVE, hblk, hlo, List.mem_singleton]
  omega

theorem bayState_activated (s : State) (y z : Nat) :
    bayState (activated s y) z = bayState (setF s Fld.LFT_BAY_STATUS_STATE 3 0 y) z :=
  (only_activated s y).getF_eq (loftReg_not_mem_active (d := Reg.LFT_BAY_STATUS) rfl rfl (by decide) z)

theorem bayState_genGiven (s : State) (y gen z : Nat) : bayState (genGiven s y gen) z = bayState s z := by
  refine (only_genGiven s y gen).getF_eq ?_
  simp only [RegDesc.addr, Fld.LFT_BAY_STATUS_STATE, Reg.LFT_BAY_STATUS, Reg.LFT_GEN, Reg.LFT_BAY_GEN, List.mem_cons, List.not_mem_nil,
    or_false, not_or]
  omega

/-- The generations stay as given while the bay becomes ACTIVE. -/
theorem getF_activated_gen (s : State) (y : Nat) : getF (activated s y) Fld.LFT_GEN_GEN = getF s Fld.LFT_GEN_GEN
    ∧ getF (activated s y) Fld.LFT_BAY_GEN_GEN 0 y = getF s Fld.LFT_BAY_GEN_GEN 0 y := by
  have hgen : Reg.LFT_GEN.addr 0 0 0 ∉ [Reg.LFT_BAY_STATUS.addr 0 y 0] := by
    simp only [RegDesc.addr, Reg.LFT_GEN, Reg.LFT_BAY_STATUS, List.mem_singleton]
    omega
  have hbay : Reg.LFT_BAY_GEN.addr 0 y 0 ∉ [Reg.LFT_BAY_STATUS.addr 0 y 0] := fun h =>
    RegDesc.addr_ne_of_strides (d := Reg.LFT_BAY_GEN) (e := Reg.LFT_BAY_STATUS) rfl rfl rfl rfl (by decide) 0 y 0 (List.mem_singleton.mp h)
  have hstatus := only_setF s Fld.LFT_BAY_STATUS_STATE 3 0 y 0
  constructor
  · rw [(only_activated s y).getF_eq (f := Fld.LFT_GEN_GEN) (loftReg_not_mem_active rfl rfl (by decide) 0),
      hstatus.getF_eq (f := Fld.LFT_GEN_GEN) hgen]
  · rw [(only_activated s y).getF_eq (f := Fld.LFT_BAY_GEN_GEN) (loftReg_not_mem_active rfl rfl (by decide) y),
      hstatus.getF_eq (f := Fld.LFT_BAY_GEN_GEN) hbay]

theorem outgoing_fr (s : State) (o : Nat) : Fr 0x4008 s (outgoing s o) := by
  unfold outgoing
  split
  · split
    · exact emptyBay_fr ..
    · exact (setF_fr ..).mono rfl
  · exact Fr.refl _ _

theorem floorRaised_fr (s : State) (y : Nat) : Fr 0x4000 s (floorRaised s y) := by
  unfold floorRaised
  split
  · exact raiseFloor_fr ..
  · exact Fr.refl _ _

section
variable (s : State) (y : Nat)

theorem switched_regs : (switched s y).regs = (activated (genGiven (outgoing s (1 - y)) y (nextGen s)) y).regs :=
  (floorRaised_fr ..).same .regs rfl

theorem switched_ev : (switched s y).ev = s.ev := by
  rw [switched, (floorRaised_fr ..).same .ev rfl, activated, genGiven]
  simp only [setF_ev]
  exact (outgoing_fr ..).same .ev rfl

/-- The generation of a switch, in LFT_GEN and in its bay. -/
theorem getF_switched_gen : getF (switched s y) Fld.LFT_GEN_GEN = nextGen s
    ∧ getF (switched s y) Fld.LFT_BAY_GEN_GEN 0 y = nextGen s := by
  have hlt : nextGen s % 2 ^ 64 = nextGen s := Nat.mod_mod _ _
  obtain ⟨hgen, hbay⟩ := getF_activated_gen (genGiven (outgoing s (1 - y)) y (nextGen s)) y
  obtain ⟨hgiven, hbayGiven⟩ := getF_genGiven (outgoing s (1 - y)) y (nextGen s)
  rw [getF_congr _ _ _ _ (switched_regs s y), getF_congr _ _ _ _ (switched_regs s y), hgen, hbay, hgiven, hbayGiven, hlt]
  exact ⟨rfl, rfl⟩

theorem bayState_switched (z : Nat) :
    bayState (switched s y) z = bayState (setF (genGiven (outgoing s (1 - y)) y (nextGen s)) Fld.LFT_BAY_STATUS_STATE 3 0 y) z :=
  (getF_congr _ _ _ _ (switched_regs s y)).trans (bayState_activated ..)

theorem bayState_switched_same : bayState (switched s y) y = 3 :=
  (bayState_switched s y y).trans (bayState_setF_same _ y 3)

theorem bayState_switched_other (h : 1 - y ≠ y) : bayState (switched s y) (1 - y) = bayState (outgoing s (1 - y)) (1 - y) :=
  (bayState_switched s y (1 - y)).trans ((bayState_setF_ne _ 3 h).trans (bayState_genGiven ..))

theorem getF_switched_active : getF (switched s y) Fld.LFT_ACTIVE_VALID = 1 ∧ getF (switched s y) Fld.LFT_ACTIVE_BAY = y % 2 := by
  rw [getF_congr _ _ _ _ (switched_regs s y), getF_congr _ _ _ _ (switched_regs s y)]
  exact getF_activated ..

end

/-- Settles O54: a switch that is taken from `switched`, what it leaves of either bay, and one that is refused from `raiseEv_setF_spec`. -/
theorem switchRule : Obligations.SwitchRule := by
  refine ⟨fun req y s hreq hst => ?taken, fun req y s hreq hready hdrain => ?refused⟩
  case taken =>
    have hother : 1 - y.val ≠ y.val := by omega
    obtain ⟨hgen, hbay⟩ := getF_switched_gen s y
    obtain ⟨hvalid, hshown⟩ := getF_switched_active s y
    obtain ⟨e, hev, hcode, -, -⟩ := raiseEv_appends (switched_ev s y) 0x5005 loftUnit 0
      (packDetail [(0, y.val), (32, nextGen s % 2 ^ 32)])
    have htouch := (loftSwitch_fr s y).touches_maskOf (l := [.regs, .ev, .loft]) rfl
    refine ⟨_, loftSwitch_next hreq y, ?_⟩
    rw [loftSwitch_of_taken hst] at htouch ⊢
    simp only [bayState, getF_raiseEv]
    refine ⟨hgen, hbay.trans hgen.symm, bayState_switched_same s y, hvalid, hshown.trans (Nat.mod_eq_of_lt y.isLt), ?_, ⟨e, hev, hcode⟩,
      htouch⟩
    exact (bayState_switched_other s y hother).trans (bayState_outgoing_same s (1 - y))
  case refused =>
    refine ⟨_, loftSwitch_next hreq y, ?_⟩
    rw [loftSwitch_of_refused hready hdrain]
    obtain ⟨hflag, ⟨e, hev, hcode, -, -⟩, hregs, htouch⟩ := raiseEv_setF_spec s Fld.LFT_ERR_SWITCH_REFUSED 0 0 0x5008 loftUnit 0
      (packDetail [(0, 1), (2, bayState s y)]) (by decide)
    exact ⟨hflag, hregs, ⟨e, hev, hcode⟩, htouch⟩

/-! The failure of a build (R266). -/

theorem buildingBay_isSome {s : State} {y : Nat} (hy : y < 2) (h : bayState s y = 1) : (buildingBay s).isSome = true := by
  have hmem : y ∈ [0, 1] := by
    simp only [List.mem_cons, List.not_mem_nil, or_false]
    omega
  exact List.find?_isSome.mpr ⟨y, hmem, beq_iff_eq.mpr h⟩

/-- The state in which the bay `y` of a build that has failed is empty. -/
def buildDropped (s : State) (y : Nat) : State :=
  emptyBay { s with loft := { s.loft with build := none, staged := s.loft.staged.filter (·.repair) } } y

section
variable {s : State} {b : Build} (hbuild : s.loft.build = some b) (hslot : b.slot = none)
include hbuild hslot

theorem failBuild_of_bay (cause : Nat) (ecdsa hss : Bool) (chunk : Nat) : failBuild s cause ecdsa hss chunk
    = raiseEv (setF (setF (buildDropped s b.bay) Fld.LFT_BUILD_BUSY (b01 (buildingBay (buildDropped s b.bay)).isSome))
        Fld.LFT_BUILD_CAUSE cause) 0x5003 loftUnit 0
        (packDetail [(0, b.bay), (1, cause), (5, b01 ecdsa), (6, b01 hss), (32, chunk)]) := by
  simp [failBuild, hbuild, hslot, buildDropped]

theorem getF_failBuild_busy (cause : Nat) (ecdsa hss : Bool) (chunk : Nat) :
    getF (failBuild s cause ecdsa hss chunk) Fld.LFT_BUILD_BUSY = b01 (buildingBay (buildDropped s b.bay)).isSome % 2 := by
  rw [failBuild_of_bay hbuild hslot, getF_raiseEv,
    getF_setF_bits (f := Fld.LFT_BUILD_CAUSE) (g := Fld.LFT_BUILD_BUSY) _ _ _ _ _ _ _ _ rfl (by decide) (by decide) (by decide)]
  exact getF_setF_same _ _ 0 0 0 (f := Fld.LFT_BUILD_BUSY) (by decide)

/-- Table 9.9: BUSY stays set where the other bay is BUILDING. -/
theorem getF_failBuild_busy_of_other {z : Nat} (hz : z < 2) (hne : z ≠ b.bay) (hst : bayState s z = 1) (cause : Nat)
    (ecdsa hss : Bool) (chunk : Nat) : getF (failBuild s cause ecdsa hss chunk) Fld.LFT_BUILD_BUSY = 1 := by
  have hstill : bayState (buildDropped s b.bay) z = 1 := (bayState_emptyBay_ne _ hne).trans hst
  rw [getF_failBuild_busy hbuild hslot, buildingBay_isSome hz hstill]
  rfl

end

theorem buildTimeout_next {s : State} (hbuild : s.loft.build.isSome = true) (hlimit : getF s Fld.LFT_BTIMEOUT_S ≠ 0) :
    exec .buildTimeout s = .next (failBuild s 10 false false 0) :=
  (exec_buildTimeout ..).trans (if_pos ⟨hbuild, hlimit⟩)

/-- A build of bay B whose bundle named no chunk. -/
def buildOfB : Build :=
  { bay := 1, slot := none, set := { keySlot := 0, modelId := 0, version := 0, floor := 0, hdrHash := 0, chunks := [], bands := [] } }

/-- Bay A is BUILDING beside it. -/
def bothBuilding : State :=
  setF (setF { State.reset with loft := { build := some buildOfB } } Fld.LFT_BAY_STATUS_STATE 1 0 0) Fld.LFT_BAY_STATUS_STATE 1 0 1

/-- Refutes O26: its clause for the time-out of a build has LFT_BUILD.BUSY at 0 whatever the other bay does. BUSY says that a bay is
BUILDING (Table 9.9), so in a state with both bays BUILDING the build that fails empties its own bay and BUSY stays 1. Table 9.5 lets no
bay leave EMPTY for BUILDING beside another, but the clause has no hypothesis that says so. -/
theorem not_baysAndBuilds : ¬ Obligations.BaysAndBuilds := by
  rintro ⟨-, -, -, -, -, -, htimeout, -⟩
  have hlimit : getF bothBuilding Fld.LFT_BTIMEOUT_S ≠ 0 := by decide +kernel
  have hother : bayState bothBuilding 0 = 1 := by decide +kernel
  obtain ⟨t, hstep, -, -, hidle, -⟩ := htimeout buildOfB bothBuilding rfl rfl (by decide) hlimit
  rw [buildTimeout_next rfl hlimit] at hstep
  cases hstep
  rw [getF_failBuild_busy_of_other (b := buildOfB) rfl rfl (z := 0) (by decide) (by decide) hother] at hidle
  exact absurd hidle (by decide)

end Sys2Proof.Machine
end

section
/-! SUPPORT. What the sweeps, the captures, the spares and the holds of the light block (R276 to R286) leave alone: LTE_STATUS, LTE_SPARES
but for the spares, the light block's own state but for checks and recoveries, and the events already in flight. -/
namespace Sys2Proof.Machine
set_option Elab.async false

/-- The light block's state without the checks that are due and the recoveries under way. -/
def Light.settled (l : Light) : Light := { l with checks := [], recov := [] }

/-- `t` comes from `s` by work on rings, stalls and lanes: the register at `a` and the light block's settled state are kept, and the events
in flight stay in flight. -/
structure Steady (a : Nat) (s t : State) : Prop where
  reg : rdReg t a = rdReg s a
  light : t.light.settled = s.light.settled
  flight : s.ev.inFlight ⊆ t.ev.inFlight

/-- An address from LTE_STATUS to LTE_SPARES: it lies above the registers of the stalls, and below the registers that the work on rings,
stalls and lanes writes in every other block. -/
def SharedReg (a : Nat) : Prop := Reg.LTE_STATUS.addr 0 0 0 ≤ a ∧ a ≤ Reg.LTE_SPARES.addr 0 0 0

theorem sharedReg_status : SharedReg (Reg.LTE_STATUS.addr 0 0 0) := ⟨Nat.le_refl _, by decide⟩

theorem sharedReg_spares : SharedReg (Reg.LTE_SPARES.addr 0 0 0) := ⟨by decide, Nat.le_refl _⟩

theorem SharedReg.ne_of_above {a : Nat} (ha : SharedReg a) {d : RegDesc} (hd : Reg.LTE_SPARES.addr 0 0 0 < d.addr 0 0 0) (w i k : Nat) :
    a ≠ d.addr w i k := by
  have hle : d.addr 0 0 0 ≤ d.addr w i k := by
    simp only [RegDesc.addr, Nat.zero_mul, Nat.add_zero]
    omega
  obtain ⟨-, hhi⟩ := ha
  omega

/-- The registers of a stall lie in its window of block 0. -/
theorem SharedReg.ne_of_stall {a : Nat} (ha : SharedReg a) {d : RegDesc} (hd : d.addr 0 0 0 < 0x80010000) {w : Nat} (hw : w < 16) :
    a ≠ d.addr w 0 0 := by
  obtain ⟨hlo, -⟩ := ha
  simp only [RegDesc.addr, Reg.LTE_STATUS] at hlo hd ⊢
  omega

namespace Steady

variable {a : Nat} {s t u : State}

theorem refl (a : Nat) (s : State) : Steady a s s := ⟨rfl, rfl, List.Subset.refl _⟩

/-- An operation after what came before it. -/
theorem after (h' : Steady a t u) (h : Steady a s t) : Steady a s u :=
  ⟨h'.reg.trans h.reg, h'.light.trans h.light, List.Subset.trans h.flight h'.flight⟩

theorem ite {c : Prop} [Decidable c] (ht : c → Steady a s t) (hu : ¬ c → Steady a s u) : Steady a s (if c then t else u) := by
  split
  · next h => exact ht h
  · next h => exact hu h

theorem foldl {α : Type} {f : State → α → State} {l : List α} (hf : ∀ v, ∀ x ∈ l, Steady a v (f v x)) (s : State) :
    Steady a s (l.foldl f s) := by
  induction l generalizing s with
  | nil => exact refl a s
  | cons x l ih =>
    exact (ih (fun v y hy => hf v y (List.mem_cons_of_mem _ hy)) (f s x)).after (hf s x List.mem_cons_self)

/-- An operation that reaches no register, no event and nothing of the light block. -/
theorem of_fr {m : Nat} (h : Fr m s t) (hm : sub m (0x3ffffff - 0x20028) = true) : Steady a s t := by
  have hframe := h.mono hm
  have hev : t.ev = s.ev := hframe.same .ev rfl
  exact ⟨rdReg_congr a (hframe.same .regs rfl), congrArg Light.settled (hframe.same .light rfl), hev ▸ List.Subset.refl _⟩

theorem raiseEv (s : State) (code unit addr detail : Nat) (n : Bool) : Steady a s (raiseEv s code unit addr detail n) :=
  ⟨rdReg_raiseEv .., rfl, List.subset_append_left _ _⟩

theorem wrReg {b : Nat} (h : a ≠ b) (s : State) (v : W64) : Steady a s (wrReg s b v) := ⟨rdReg_wrReg_ne s v h, rfl, List.Subset.refl _⟩

theorem withLight {l : Light} (h : Steady a s t) (hl : l.settled = t.light.settled) : Steady a s { t with light := l } :=
  ⟨h.reg, hl.trans h.light, h.flight⟩

section
variable (ha : SharedReg a) (s : State)
include ha

theorem setF {f : Field} (x w i k : Nat) (hf : Reg.LTE_SPARES.addr 0 0 0 < f.reg.addr 0 0 0 := by decide) :
    Steady a s (setF s f x w i k) :=
  wrReg (ha.ne_of_above hf w i k) s _

theorem setF_stall {f : Field} {w : Nat} (hw : w < 16) (x : Nat) (hf : f.reg.addr 0 0 0 < 0x80010000 := by decide) :
    Steady a s (Machine.setF s f x w) :=
  wrReg (ha.ne_of_stall hf hw) s _

end

end Steady

/-! The stalls (R118 to R127). -/

section
variable {a : Nat} (ha : SharedReg a) (s : State) {k : Nat} (hk : k < 16)
include ha hk

theorem voidEvent_steady (tag cause v : Nat) (again : Bool) : Steady a s (voidEvent s k tag cause v again) :=
  (Steady.raiseEv ..).after <| (Steady.setF_stall ha _ hk _).after <| (Steady.setF_stall ha _ hk _).after <|
    (Steady.setF_stall ha _ hk _).after <| Steady.setF_stall ha _ hk _

theorem voidOps_steady (cause : Nat) (os : List (Nat × Nat × Nat)) : Steady a s (voidOps s k cause os) :=
  Steady.foldl (fun _ _ _ => (voidEvent_steady ha _ hk ..).after (.of_fr (dropVectors_fr ..) rfl)) s

theorem setLastMiss_steady (d : TileOp) (low : Bool) (g kind : Nat) (second : Bool) : Steady a s (setLastMiss s k d low g kind second) :=
  .wrReg (ha.ne_of_stall (by decide) hk) _ _

theorem secondMiss_steady (d : TileOp) (low : Bool) (g kind clipped : Nat) : Steady a s (secondMiss s k d low g kind clipped) :=
  (Steady.raiseEv ..).after <| (setLastMiss_steady ha _ hk ..).after <| (Steady.setF_stall ha _ hk _).after <|
    Steady.setF_stall ha _ hk _

theorem countOutputs_steady (p : PassStats) : Steady a s (countOutputs s k p) := by
  have hpeak {u : State} (h : Steady a s u) :
      Steady a s (if getF u Fld.STL_PEAK_PEAK k < p.peak then setF u Fld.STL_PEAK_PEAK p.peak k else u) :=
    .ite (fun _ => (Steady.setF_stall ha _ hk _).after h) fun _ => h
  have hclip : Steady a s (bumpF s Fld.STL_CLIP_COUNT p.nClip k) := .setF_stall ha _ hk _
  exact .ite (fun _ => (Steady.setF_stall ha _ hk _).after (hpeak hclip)) fun _ => hpeak hclip

theorem checkPass_steady (o : OpRun) (v0 v1 : Nat) (es : List (Nat × Nat × Out)) (p : PassStats) :
    Steady a s (checkPass s k o v0 v1 es p) := by
  have hmiss : Steady a s (bumpF s Fld.STL_SMISS_COUNT 1 k) := .setF_stall ha _ hk _
  unfold checkPass
  refine .ite (fun _ => .refl ..) fun _ => .ite (fun _ => (secondMiss_steady ha _ hk ..).after hmiss) fun _ => ?_
  exact (Steady.of_fr (putStall_fr ..) rfl).after ((setLastMiss_steady ha _ hk ..).after hmiss)

theorem runVectors_steady (o : OpRun) (v1 : Nat) : Steady a s (runVectors s k o v1) :=
  (checkPass_steady ha _ hk ..).after <| (countOutputs_steady ha _ hk _).after <| (Steady.of_fr (putStall_fr ..) rfl).after <|
    .of_fr (drawn_fr ..) rfl

theorem runRetry_steady (r : Retry) (v1 : Nat) : Steady a s (runRetry s k r v1).1 :=
  (countOutputs_steady ha _ hk _).after <| (Steady.of_fr (putStall_fr ..) rfl).after <| .of_fr (drawn_fr ..) rfl

theorem endRetry_steady : Steady a s (endRetry s k) := by
  unfold endRetry
  split
  · exact .refl ..
  · next r rest _ =>
    have hrun := runRetry_steady ha s hk r r.vTo
    exact (Steady.of_fr (resumeStall_fr ..) rfl).after <| (Steady.of_fr (putStall_fr ..) rfl).after <|
      .ite (fun _ => hrun) fun _ => (secondMiss_steady ha _ hk ..).after hrun

theorem haltStall_steady (cause : Nat) : Steady a s (haltStall s k cause) := by
  unfold haltStall
  dsimp only
  split
  · exact .ite (fun _ => .ite (fun _ => endRetry_steady ha s hk) fun _ =>
      (Steady.of_fr (putStall_fr ..) rfl).after (runRetry_steady ha s hk ..)) fun _ => .refl ..
  · split
    · exact .refl ..
    · next o rest _ =>
      have hput (v : Nat) (x : Stall) : Steady a s (putStall (runVectors s k o v) k x) :=
        (Steady.of_fr (putStall_fr ..) rfl).after (runVectors_steady ha s hk o v)
      exact .ite (fun _ => .ite (fun _ => (voidEvent_steady ha _ hk ..).after (hput ..)) fun _ =>
        .ite (fun _ => (voidEvent_steady ha _ hk ..).after (hput ..)) fun _ => hput ..) fun _ => .refl ..

theorem holdLte_steady (why : LteWhy) : Steady a s (holdLte s k why) :=
  (Steady.of_fr (farInterrupt_fr ..) rfl).after <| (haltStall_steady ha _ hk _).after <|
    .ite (fun _ => .refl ..) fun _ => .of_fr (putStall_fr ..) rfl

theorem refuseStall_steady : Steady a s (refuseStall s k) :=
  (Steady.raiseEv ..).after (Steady.setF_stall ha _ hk _)

theorem stlCtrlWrite_steady (start stop cut : Bool) : Steady a s (stlCtrlWrite s k start stop cut) := by
  have hput (x : Stall) : Steady a s (putStall s k x) := .of_fr (putStall_fr ..) rfl
  unfold stlCtrlWrite
  refine .ite (fun _ => .ite (fun _ => .ite (fun _ => ?_) fun _ => hput _) fun _ => .refl ..) fun _ => .ite (fun _ => ?_) fun _ => .refl ..
  · exact (haltStall_steady ha _ hk _).after (hput _)
  · exact (Steady.of_fr (resumeStall_fr ..) rfl).after (hput _)

theorem stlResetWrite_steady (req : Requester) (v : Nat) : Steady a s (stlResetWrite s req k v) := by
  unfold stlResetWrite
  refine .ite (fun _ => .ite (fun _ => ?_) fun _ => .refl ..) fun _ => refuseStall_steady ha s hk
  exact (voidOps_steady ha _ hk ..).after (.of_fr (putStall_fr ..) rfl)

theorem stlCfgWrite_steady (req : Requester) (v : Nat) : Steady a s (stlCfgWrite s req k v) := by
  unfold stlCfgWrite
  refine .ite (fun _ => ?_) fun _ => refuseStall_steady ha s hk
  have hput (u : State) (x : Stall) : Steady a u (putStall u k x) := .of_fr (putStall_fr ..) rfl
  have hset {u : State} (h : Steady a s u) (range off : Nat) :
      Steady a s (setF (setF u Fld.STL_CFG_RANGE range k) Fld.STL_CFG_OFFLINE off k) :=
    (Steady.setF_stall ha _ hk _).after ((Steady.setF_stall ha _ hk _).after h)
  have hcfg := hset (.ite (c := getF s Fld.STL_CFG_RANGE k = v % 2) (fun _ => .refl ..) fun _ => hput s (getStall s k).ground) (v % 2)
    (b01 (bitOf v 1))
  exact .ite (fun _ => (voidOps_steady ha _ hk ..).after ((hput ..).after hcfg)) fun _ =>
    .ite (fun _ => (hput ..).after hcfg) fun _ => hcfg

theorem retireEnds_steady : Steady a s (retireEnds s k) := by
  unfold retireEnds
  dsimp only
  split
  · refine .ite (fun _ => ?_) fun _ => .refl ..
    have hcfg {u : State} (h : Steady a s u) (v : Nat) : Steady a s (stlCfgWrite u .ostler k v) := (stlCfgWrite_steady ha _ hk ..).after h
    have hreset (x : Stall) : Steady a s (stlResetWrite (putStall s k x) .ostler k 1) :=
      (stlResetWrite_steady ha _ hk ..).after (.of_fr (putStall_fr ..) rfl)
    exact .ite (fun _ => (Steady.of_fr (releaseFar_fr ..) rfl).after (hcfg (hreset _) _)) fun _ => hcfg (hreset _) _
  · exact .refl ..

theorem retireStall_steady (degraded : Bool) : Steady a s (retireStall s k degraded) := by
  unfold retireStall
  exact .ite (fun _ => .refl ..) fun _ =>
    (retireEnds_steady ha _ hk).after ((stlCtrlWrite_steady ha _ hk ..).after (.of_fr (putStall_fr ..) rfl))

end

/-! The rings (R276 to R288). -/

section
variable {a : Nat} (ha : SharedReg a) (s : State) (r : Nat)

theorem checkRing_steady : Steady a s (checkRing s r) := .ite (fun _ => .refl ..) fun _ => (Steady.refl a s).withLight rfl

theorem dropRing_steady : Steady a s (dropRing s r) := (Steady.refl a s).withLight rfl

include ha

theorem setFreeze_steady (i : Nat) (b : Bool) : Steady a s (setFreeze s i b) := by
  have hput (u : State) (x : LoopSt) : Steady a u (putLoop u i x) := .of_fr (putLoop_fr ..) rfl
  have hset : Steady a s (setF s Fld.RN_LP_RUN_FREEZE (b01 b) (i / 256) (i % 256)) := .setF ha ..
  exact .ite (fun _ => (hput ..).after ((Steady.setF ha ..).after hset)) fun _ =>
    .ite (fun _ => (hput ..).after hset) fun _ => hset

theorem setHeater_steady (v : Int) : Steady a s (setHeater s r v) :=
  (Steady.of_fr (putTrim_fr ..) rfl).after <| .ite (fun _ => .wrReg (ha.ne_of_above (by decide) _ _ _) _ _) fun _ => .setF ha ..

theorem writePeaks_steady (ps : List (Nat × Nat)) : Steady a s (writePeaks s r ps) :=
  Steady.foldl (fun _ _ _ => .ite (fun _ => .setF ha ..) fun _ => .setF ha ..) s

theorem setLine_steady (n : Nat) : Steady a s (setLine s r n) := by
  have hset : Steady a s (setF s Fld.LTE_RING_CFG_LINE n 0 r) := .setF ha ..
  exact .ite (fun hr => (Steady.setF_stall ha _ hr _).after hset) fun _ => hset

theorem captureRing_steady : Steady a s (captureRing s r) :=
  (checkRing_steady ..).after <| (Steady.setF ha ..).after <| (Steady.setF ha ..).after <|
    setFreeze_steady ha ..

theorem recapture_steady (rs : List Nat) : Steady a s (recapture s rs) := Steady.foldl (fun v x _ => captureRing_steady ha v x) s

theorem carrierBack_steady : Steady a s (carrierBack s r) :=
  .ite (fun _ => .refl ..) fun _ => (setLine_steady ha ..).after (setHeater_steady ha ..)

theorem ringOut_steady : Steady a s (ringOut s r) := by
  have hset : Steady a s (setF s Fld.LTE_RING_STATUS_OOS 1 0 r) := .setF ha ..
  exact .ite (fun hr => (holdLte_steady ha _ hr _).after hset) fun _ => hset

theorem attempt_steady (target : Int) (spare : Bool) (n : Nat) : Steady a s (attempt s r target spare n) := by
  have hfrozen : Steady a s (setFreeze (dropRing s r) (ringLoop r) true) := (setFreeze_steady ha ..).after (dropRing_steady ..)
  have hrecover := ((Steady.setF ha _ (f := Fld.LTE_RING_STATUS_ATTEMPTS) n 0 r 0).after <|
    Steady.setF ha _ (f := Fld.LTE_RING_STATUS_STATE) ringRecover 0 r 0).after hfrozen
  have hslewed := (setHeater_steady ha _ r target).after hrecover
  exact (checkRing_steady ..).after (hslewed.withLight rfl)

theorem queueRun_steady (k : Nat) (asked byTemp : Bool) : Steady a s (queueRun s k asked byTemp) :=
  (Steady.setF ha ..).after <| .of_fr (putFar_fr ..) rfl

theorem farSpare_steady (k : Nat) : Steady a s (farSpare s k) :=
  (queueRun_steady ha ..).after <| .of_fr (putFar_fr ..) rfl

theorem allRingsOut_steady : Steady a s (allRingsOut s) :=
  (Steady.foldl (fun _ _ _ => (Steady.setF ha ..).after (.setF ha ..)) _).after ((Steady.refl a s).withLight rfl)

theorem holdAllCarriers_steady : Steady a s (holdAllCarriers s) :=
  Steady.foldl (fun _ _ hk => (Steady.of_fr (releaseLte_fr ..) rfl).after <| (Steady.of_fr (releaseLte_fr ..) rfl).after <|
    holdLte_steady ha _ (List.mem_range.mp hk) _) s

/-- A spare is taken in LTE_SPARES, and in no other register from LTE_STATUS on. -/
theorem takeSpare_steady (hspares : a ≠ Reg.LTE_SPARES.addr 0 0 0) {k : Nat} (hk : k < 16) : Steady a s (takeSpare s k) := by
  unfold takeSpare
  refine .ite (fun _ => .refl ..) fun _ => ?_
  split
  · exact retireStall_steady ha s hk _
  · next i _ =>
    refine (attempt_steady ha ..).after <| (farSpare_steady ha ..).after <| (Steady.raiseEv ..).after <|
      Steady.after ?_ (setLine_steady ha s k (40 + i))
    exact .ite (fun _ => .wrReg hspares _ _) fun _ => .wrReg hspares _ _

theorem ringFails_steady (hspares : a ≠ Reg.LTE_SPARES.addr 0 0 0) : Steady a s (ringFails s r) := by
  have hout : Steady a s (ringOut (dropRing s r) r) := (ringOut_steady ha ..).after (dropRing_steady ..)
  have hcounted (n : Nat) := ((Steady.setF ha _ (f := Fld.LTE_RINGFAIL_COUNT) n 0 0 0).after <|
    Steady.setF ha _ (f := Fld.LTE_RING_STATUS_STATE) ringFailed 0 r 0).after hout
  have hraised (n d : Nat) := (Steady.raiseEv _ 0x6003 lightUnit 0 d false).after (hcounted n)
  exact .ite (fun hr => (takeSpare_steady ha _ hspares hr).after <| (Steady.of_fr (tripStallDone_fr ..) rfl).after (hraised ..)) fun _ =>
    hraised ..

theorem sweepRing_steady (hspares : a ≠ Reg.LTE_SPARES.addr 0 0 0) (sws : List RingSweep) : Steady a s (sweepRing s r sws) := by
  have hswept (v : Int) (ps : List (Nat × Nat)) (n : Nat) : Steady a s (setLine (writePeaks (setHeater s r v) r ps) r n) :=
    (setLine_steady ha ..).after ((writePeaks_steady ha ..).after (setHeater_steady ha ..))
  exact .ite (fun _ => (ringFails_steady ha _ _ hspares).after (hswept ..)) fun _ =>
    (captureRing_steady ha ..).after ((setHeater_steady ha ..).after (hswept ..))

end

/-! The lanes of a port (R285, R411). -/

section
variable {a : Nat} (ha : SharedReg a) (s : State) (p : Nat)
include ha

theorem countLanes_steady : Steady a s (countLanes s p) := (Steady.setF ha ..).after (.setF ha ..)

theorem setLane_steady (lane : Nat) (rx on : Bool) (cause : Nat) : Steady a s (setLane s p lane rx on cause) := by
  cases rx with
  | false =>
    exact (countLanes_steady ha ..).after <| (Steady.setF (f := Fld.DRV_LSTAT_TXCAUSE) ha ..).after <|
      (Steady.setF (f := Fld.DRV_LSTAT_TXIN) ha ..).after <| .setF (f := Fld.DRV_TXLANES_LANES) ha ..
  | true =>
    exact (countLanes_steady ha ..).after <| (Steady.setF (f := Fld.DRV_LSTAT_RXCAUSE) ha ..).after <|
      (Steady.setF (f := Fld.DRV_LSTAT_RXIN) ha ..).after <| .setF (f := Fld.DRV_RXLANES_LANES) ha ..

theorem laneLeaves_steady (lane : Nat) (rx : Bool) (cause : Nat) : Steady a s (laneLeaves s p lane rx cause) :=
  .ite (fun _ => (Steady.raiseEv ..).after (setLane_steady ha ..)) fun _ => .refl ..

theorem failFlight_steady (reason : Nat) (f : Outgoing → Bool) : Steady a s (failFlight s p reason f) :=
  (Steady.setF ha ..).after <| (Steady.setF ha ..).after <|
    (Steady.foldl (fun _ _ _ => (Steady.raiseEv ..).after (.setF ha ..)) _).after (.of_fr (putPort_fr ..) rfl)

theorem releaseAsked_steady : Steady a s (releaseAsked s p) := by
  unfold releaseAsked
  split
  · exact .refl ..
  · exact .ite (fun _ => .refl ..) fun _ => (Steady.setF ha ..).after <| (Steady.of_fr (putPort_fr ..) rfl).after <|
      (laneLeaves_steady ha ..).after (laneLeaves_steady ha ..)

theorem portGoesDown_steady (reason : Nat) : Steady a s (portGoesDown s p reason) :=
  .ite (fun _ => (Steady.raiseEv ..).after <| (Steady.of_fr (putPort_fr ..) rfl).after <| (Steady.setF ha ..).after <|
    (releaseAsked_steady ha ..).after (failFlight_steady ha ..)) fun _ => .refl ..

theorem portDark_steady : Steady a s (portDark s p) :=
  (portGoesDown_steady ha ..).after <|
    Steady.foldl (fun _ _ _ => (laneLeaves_steady ha ..).after (laneLeaves_steady ha ..)) s

end

end Sys2Proof.Machine
end

section
/-! SUPPORT. The sequences of the light block (R275 to R278, R285, R286, R356, R491): the fields of LTE_STATUS under its writes, the state
each sequence leaves once its comb dies are set, and the rest of it as `Steady` work on rings, stalls and lanes. -/
namespace Sys2Proof.Machine
set_option Elab.async false

/-! LTE_STATUS: the states of the comb dies, and the fields above them. -/

theorem Steady.getF_eq {s t : State} {f : Field} {w i k : Nat} (h : Steady (f.reg.addr w i k) s t) : getF t f w i k = getF s f w i k := by
  rw [getF, h.reg, getF]

theorem combState_congr {s t : State} (h : rdReg t (Reg.LTE_STATUS.addr 0 0 0) = rdReg s (Reg.LTE_STATUS.addr 0 0 0)) (k : Nat) :
    combState t k = combState s k := by
  have hfield {f : Field} (hf : f.reg = Reg.LTE_STATUS) : getF t f = getF s f := by rw [getF, getF, hf, h]
  rw [combState, combState, hfield rfl, hfield rfl]

theorem Steady.combState_eq {s t : State} (h : Steady (Reg.LTE_STATUS.addr 0 0 0) s t) (k : Nat) : combState t k = combState s k :=
  combState_congr h.reg k

theorem combState_withLight (s : State) (l : Light) (k : Nat) : combState { s with light := l } k = combState s k := rfl

/-- A field of LTE_STATUS keeps its value where one that it does not overlap is set. -/
theorem getF_setF_status (s : State) {f g : Field} (x : Nat) (hf : f.reg = Reg.LTE_STATUS) (hg : g.reg = Reg.LTE_STATUS)
    (hflen : f.lo + f.len ≤ 64) (hglen : g.lo + g.len ≤ 64) (hapart : f.lo + f.len ≤ g.lo ∨ g.lo + g.len ≤ f.lo) :
    getF (setF s f x) g = getF s g :=
  getF_setF_bits _ _ _ _ _ _ _ _ (by rw [hf, hg]) hflen hglen hapart

/-- COMB0 and COMB1 are different fields: die 1 is any die but 0. -/
theorem combState_setComb (s : State) (k v j : Nat) :
    combState (setComb s k v) j = if (k = 0 ↔ j = 0) then v % 4 else combState s j := by
  by_cases hk : k = 0 <;> by_cases hj : j = 0 <;> simp only [combState, setComb, hk, hj, if_true, if_false, iff_self, iff_true, true_iff]
  · exact getF_setF_same s v 0 0 0 (f := Fld.LTE_STATUS_COMB0) (by decide)
  · exact getF_setF_status s v rfl rfl (by decide) (by decide) (.inl (by decide))
  · exact getF_setF_status s v rfl rfl (by decide) (by decide) (.inr (by decide))
  · exact getF_setF_same s v 0 0 0 (f := Fld.LTE_STATUS_COMB1) (by decide)

section
variable (s : State) {f : Field} (hreg : f.reg = Reg.LTE_STATUS) (hlo : 4 ≤ f.lo) (hlen : f.lo + f.len ≤ 64)
include hreg hlo hlen

/-- REDIST and ASSIGNED lie above the states of the comb dies. -/
theorem getF_setComb (k v : Nat) : getF (setComb s k v) f = getF s f := by
  unfold setComb
  split
  · exact getF_setF_status s v rfl hreg (by decide) hlen (.inl (Nat.le_trans (by decide) hlo))
  · exact getF_setF_status s v rfl hreg (by decide) hlen (.inl (Nat.le_trans (by decide) hlo))

theorem combState_setF_above (x k : Nat) : combState (setF s f x) k = combState s k := by
  unfold combState
  split
  · exact getF_setF_status s x hreg rfl hlen (by decide) (.inr (Nat.le_trans (by decide) hlo))
  · exact getF_setF_status s x hreg rfl hlen (by decide) (.inr (Nat.le_trans (by decide) hlo))

end

theorem setComb_light (s : State) (k v : Nat) : (setComb s k v).light = s.light := (setComb_fr ..).same .light rfl

/-! The light block's settled state, field by field. -/

section
variable {a : Nat} {s t : State} (h : Steady a s t)
include h

theorem Steady.running_eq : t.light.running = s.light.running := (congrArg Light.running h.light :)

theorem Steady.dark_eq : t.light.dark = s.light.dark := (congrArg Light.dark h.light :)

theorem Steady.lost_eq : t.light.lost = s.light.lost := (congrArg Light.lost h.light :)

theorem Steady.switching_eq : t.light.switching = s.light.switching := (congrArg Light.switching h.light :)

end

/-! The start-up sequence (R275, Table 10.2). -/

/-- Every ring and lane is out of service, its stall held for its carrier. -/
def yardCleared (s : State) : State := (List.range 8).foldl portDark (allRingsOut (holdAllCarriers s))

/-- Steps 1 and 2: the sequence runs, with no line lost and no spare taken, and the comb dies are LOCKED or FAILED. -/
def combsStarted (s : State) (lock0 lock1 : Bool) : State :=
  let s := { s with light := { s.light with running := true, dark := false, byFall := false, lost := [], switching := false } }
  let s := setF (setF (setF s Fld.LTE_STATUS_ASSIGNED 0) Fld.LTE_SPARES_FREE0 0xFF) Fld.LTE_SPARES_FREE1 0xFF
  let auto := getF s Fld.LTE_CFG_AUTO_REDIST == 1
  let redist := if auto && lock0 && !lock1 then 1 else if auto && lock1 && !lock0 then 2 else 0
  setComb (setComb (setF s Fld.LTE_STATUS_REDIST redist) 0 (if lock0 then combLocked else combFailed)) 1
    (if lock1 then combLocked else combFailed)

/-- Steps 3 to 6 work on rings. -/
theorem startSequence_steady (s : State) (lock0 lock1 : Bool) (sws : List RingSweep) :
    Steady (Reg.LTE_STATUS.addr 0 0 0) (combsStarted (yardCleared s) lock0 lock1) (startSequence s lock0 lock1 sws) := by
  have hring (u : State) (r : Nat) : Steady (Reg.LTE_STATUS.addr 0 0 0) u (if combState u (feedOf u (ringHalf r)) = combLocked
      then sweepRing u r sws else setF u Fld.LTE_RING_STATUS_STATE ringOff 0 r) :=
    .ite (fun _ => sweepRing_steady sharedReg_status u r (by decide) sws) fun _ => .setF sharedReg_status ..
  refine (Steady.foldl (fun u r _ => hring u r) _).after ?_
  exact (Steady.ite (fun _ => .refl ..) fun _ => .raiseEv ..).after (.ite (fun _ => .refl ..) fun _ => .raiseEv ..)

theorem combState_combsStarted (s : State) (lock0 lock1 : Bool) :
    combState (combsStarted s lock0 lock1) 0 = (if lock0 then combLocked else combFailed)
    ∧ combState (combsStarted s lock0 lock1) 1 = (if lock1 then combLocked else combFailed) := by
  simp only [combsStarted, combState_setComb]
  cases lock0 <;> cases lock1 <;> exact ⟨rfl, rfl⟩

theorem getF_combsStarted_assigned (s : State) (lock0 lock1 : Bool) : getF (combsStarted s lock0 lock1) Fld.LTE_STATUS_ASSIGNED = 0 := by
  simp only [combsStarted]
  rw [getF_setComb _ rfl (by decide) (by decide), getF_setComb _ rfl (by decide) (by decide),
    getF_setF_status (f := Fld.LTE_STATUS_REDIST) (g := Fld.LTE_STATUS_ASSIGNED) _ _ rfl rfl (by decide) (by decide) (by decide),
    getF_setF_reg (f := Fld.LTE_SPARES_FREE1) (g := Fld.LTE_STATUS_ASSIGNED) _ _ _ _ _ _ _ _ (by decide),
    getF_setF_reg (f := Fld.LTE_SPARES_FREE0) (g := Fld.LTE_STATUS_ASSIGNED) _ _ _ _ _ _ _ _ (by decide)]
  exact getF_setF_same _ 0 0 0 0 (f := Fld.LTE_STATUS_ASSIGNED) (by decide)

theorem combsStarted_light (s : State) (lock0 lock1 : Bool) :
    (combsStarted s lock0 lock1).light.running = true ∧ (combsStarted s lock0 lock1).light.dark = false := by
  simp only [combsStarted, setComb_light, setF_light, and_self]

theorem startSequence_spec (s : State) (lock0 lock1 : Bool) (sws : List RingSweep) :
    combState (startSequence s lock0 lock1 sws) 0 = (if lock0 then combLocked else combFailed)
    ∧ combState (startSequence s lock0 lock1 sws) 1 = (if lock1 then combLocked else combFailed)
    ∧ (startSequence s lock0 lock1 sws).light.running = true ∧ (startSequence s lock0 lock1 sws).light.dark = false
    ∧ getF (startSequence s lock0 lock1 sws) Fld.LTE_STATUS_ASSIGNED = 0 := by
  have hsteady := startSequence_steady s lock0 lock1 sws
  obtain ⟨hcomb0, hcomb1⟩ := combState_combsStarted (yardCleared s) lock0 lock1
  obtain ⟨hrunning, hdark⟩ := combsStarted_light (yardCleared s) lock0 lock1
  exact ⟨(hsteady.combState_eq 0).trans hcomb0, (hsteady.combState_eq 1).trans hcomb1, hsteady.running_eq.trans hrunning,
    hsteady.dark_eq.trans hdark, (hsteady.getF_eq (f := Fld.LTE_STATUS_ASSIGNED)).trans (getF_combsStarted_assigned ..)⟩

theorem lteAssign_next {req : Requester} {s : State} (hreq : req.bridle = true) (hlaser : s.light.laserEn = true) (lock0 lock1 : Bool)
    (sws : List RingSweep) : exec (.lteAssign req lock0 lock1 sws) s = .next (startSequence s lock0 lock1 sws) := by
  rw [exec_lteAssign, execLteAssign, if_pos hreq, assignWrite, if_pos hlaser]

theorem lteRelight_next {req : Requester} {s : State} (hreq : req.bridle = true) (hlaser : s.light.laserEn = true)
    (hoff0 : combState s 0 = combOff) (hoff1 : combState s 1 = combOff) (lock0 lock1 : Bool) (sws : List RingSweep) :
    exec (.lteRelight req lock0 lock1 sws) s = .next (startSequence s lock0 lock1 sws) := by
  have hdark : (s.light.laserEn && lasersOff s) = true := by simp [lasersOff, hlaser, hoff0, hoff1]
  rw [exec_lteRelight, execLteRelight, if_pos hreq, relightWrite, if_pos hdark]

/-- R278: step 6 has ended. -/
def sequenceEnded (s : State) : State := setF { s with light := { s.light with running := false } } Fld.LTE_STATUS_ASSIGNED 1

theorem lightSequenceEnd_next {s : State} (h : s.light.running = true) : exec .lightSequenceEnd s
    = .next (raiseEv (sequenceEnded s) 0x6007 lightUnit 0
        (packDetail [(0, ringsInService (sequenceEnded s)), (10, ringsFailed (sequenceEnded s))])) :=
  (exec_lightSequenceEnd s).trans (if_pos h)

theorem getF_sequenceEnded (s : State) : getF (sequenceEnded s) Fld.LTE_STATUS_ASSIGNED = 1 :=
  getF_setF_same _ 1 0 0 0 (f := Fld.LTE_STATUS_ASSIGNED) (by decide)

theorem sequenceEnded_ev (s : State) : (sequenceEnded s).ev = s.ev := setF_ev ..

theorem sequenceEnded_fr (s : State) : Fr 0x20008 s (sequenceEnded s) := Fr.post (setF_fr ..) rfl (Fr.setLight _ rfl (Fr.refl ..))

/-! Dark (R356, R491). -/

theorem allRingsOut_light (s : State) : (allRingsOut s).light = s.light.settled :=
  (Fr.foldl (m := 0x8) (fun _ _ h => Fr.post (setF_fr ..) rfl (Fr.post (setF_fr ..) rfl h)) (Fr.refl ..)).same .light rfl

/-- Every ring and lane is out of service, its loop frozen. -/
def yardDark (s : State) : State :=
  let s := allRingsOut ((List.range 16).foldl (fun s k => holdLte s k .dark) s)
  let s := (List.range 528).foldl (fun s r => setFreeze (setF s Fld.LTE_RING_STATUS_STATE ringOff 0 r) (ringLoop r) true) s
  (List.range 8).foldl portDark s

/-- Both comb dies are OFF, and no assignment stands. -/
def combsDark (s : State) : State :=
  setF (setF (setComb (setComb s 0 combOff) 1 combOff) Fld.LTE_STATUS_ASSIGNED 0) Fld.LTE_STATUS_REDIST 0

/-- The comb dies go off, and the changed residuals are stored. -/
def lasersOut (s : State) : State := storeAll { combsDark s with
  light := { (combsDark s).light with dark := true, byFall := false, running := false, switching := false } }

theorem storeAll_regs (s : State) : (storeAll s).regs = s.regs := (storeAll_fr s).same .regs rfl

theorem storeAll_light (s : State) : (storeAll s).light = s.light := (storeAll_fr s).same .light rfl

theorem goDark_eq (s : State) : goDark s = lasersOut (yardDark s) := rfl

/-- The rings and lanes that leave service reach nothing of the light block but its checks and recoveries, which are given up. -/
theorem yardDark_light (s : State) : (yardDark s).light = s.light.settled := by
  have hheld : ((List.range 16).foldl (fun s k => holdLte s k .dark) s).light = s.light :=
    (Fr.foldl (m := 0x1000ac) (fun _ _ h => Fr.post (holdLte_fr ..) rfl h) (Fr.refl ..)).same .light rfl
  have hfrozen (u : State) : Fr 0x480028 u ((List.range 8).foldl portDark ((List.range 528).foldl
      (fun s r => setFreeze (setF s Fld.LTE_RING_STATUS_STATE ringOff 0 r) (ringLoop r) true) u)) :=
    Fr.foldl (fun _ _ h => Fr.post (portDark_fr ..) rfl h) <|
      Fr.foldl (fun _ _ h => Fr.post (setFreeze_fr ..) rfl (Fr.post (setF_fr ..) rfl h)) (Fr.refl ..)
  rw [yardDark, (hfrozen _).same .light rfl, allRingsOut_light, hheld]

theorem combsDark_light (s : State) : (combsDark s).light = s.light := by
  rw [combsDark, setF_light, setF_light, setComb_light, setComb_light]

theorem combState_combsDark (s : State) : combState (combsDark s) 0 = combOff ∧ combState (combsDark s) 1 = combOff := by
  simp only [combsDark, combState_setF_above (f := Fld.LTE_STATUS_REDIST) _ rfl (by decide) (by decide),
    combState_setF_above (f := Fld.LTE_STATUS_ASSIGNED) _ rfl (by decide) (by decide), combState_setComb]
  exact ⟨rfl, rfl⟩

theorem getF_combsDark_assigned (s : State) : getF (combsDark s) Fld.LTE_STATUS_ASSIGNED = 0 := by
  rw [combsDark,
    getF_setF_status (f := Fld.LTE_STATUS_REDIST) (g := Fld.LTE_STATUS_ASSIGNED) _ _ rfl rfl (by decide) (by decide) (by decide)]
  exact getF_setF_same _ 0 0 0 0 (f := Fld.LTE_STATUS_ASSIGNED) (by decide)

theorem lasersOut_spec (s : State) : combState (lasersOut s) 0 = combOff ∧ combState (lasersOut s) 1 = combOff
    ∧ (lasersOut s).light = { s.light with dark := true, byFall := false, running := false, switching := false }
    ∧ getF (lasersOut s) Fld.LTE_STATUS_ASSIGNED = 0 := by
  have hregs : (lasersOut s).regs = (combsDark s).regs := by rw [lasersOut, storeAll_regs]
  have hlight : (lasersOut s).light = { (combsDark s).light with dark := true, byFall := false, running := false, switching := false } := by
    rw [lasersOut, storeAll_light]
  obtain ⟨hcomb0, hcomb1⟩ := combState_combsDark s
  refine ⟨(combState_congr (rdReg_congr _ hregs) 0).trans hcomb0, (combState_congr (rdReg_congr _ hregs) 1).trans hcomb1, ?_,
    (getF_congr _ _ _ _ hregs).trans (getF_combsDark_assigned s)⟩
  rw [hlight, combsDark_light]

theorem goDark_spec (s : State) : combState (goDark s) 0 = combOff ∧ combState (goDark s) 1 = combOff
    ∧ (goDark s).light = { s.light with
        dark := true, byFall := false, running := false, switching := false, checks := [], recov := [] }
    ∧ getF (goDark s) Fld.LTE_STATUS_ASSIGNED = 0 := by
  have hout := lasersOut_spec (yardDark s)
  rw [yardDark_light] at hout
  rw [goDark_eq]
  exact hout

theorem lteDark_next {req : Requester} (hreq : req.bridle = true) (s : State) : exec (.lteDark req) s = .next (goDark s) := by
  rw [exec_lteDark, execLteDark, if_pos hreq]

/-- R491: the lasers are off by a fall of LASER_EN. -/
def markedByFall (s : State) : State := { s with light := { s.light with byFall := true } }

theorem markedByFall_light (s : State) : (markedByFall s).light = { s.light with byFall := true } := rfl

theorem combState_markedByFall (s : State) (k : Nat) : combState (markedByFall s) k = combState s k := rfl

theorem laserEnFall_next {s : State} (h : combState s 0 ≠ combOff) : exec .laserEnFall s
    = .next (markedByFall (goDark { s with light := { s.light with laserEn := false } })) := by
  have hon : ¬ lasersOff { s with light := { s.light with laserEn := false } } = true := fun hoff =>
    h (beq_iff_eq.mp (Bool.and_eq_true_iff.mp hoff).1)
  rw [exec_laserEnFall]
  unfold execLaserEnFall
  dsimp only
  rw [if_neg hon]
  rfl

/-! A comb die is lost (R285). -/

/-- The state in which comb die `k` is FAILED, and every ring and lane out of service. -/
def combLost (s : State) (k : Nat) : State :=
  (List.range 8).foldl portDark (allRingsOut ((List.range 16).foldl (fun s i => holdLte s i .comb) (setComb s k combFailed)))

/-- The loss is reported, and the redistribution switch begins to settle where it is used. -/
def combReported (s : State) (k reason : Nat) (redist : Bool) : State :=
  { combEvent s k reason redist with light := { (combEvent s k reason redist).light with switching := redist } }

theorem combState_combReported (s : State) (k reason : Nat) (redist : Bool) (j : Nat) :
    combState (combReported s k reason redist) j = combState s j := rfl

theorem combReported_event (s : State) (k reason : Nat) (redist : Bool) :
    ∃ e ∈ (combReported s k reason redist).ev.inFlight, e.code = 0x6006 :=
  ⟨_, List.mem_append_right _ (List.mem_singleton_self _), rfl⟩

theorem combLost_steady (s : State) (k : Nat) : Steady (Reg.LTE_STATUS.addr 0 0 0) (setComb s k combFailed) (combLost s k) :=
  (Steady.foldl (fun u p _ => portDark_steady sharedReg_status u p) _).after <| (allRingsOut_steady sharedReg_status _).after <|
    Steady.foldl (fun u _ hi => holdLte_steady sharedReg_status u (List.mem_range.mp hi) _) _

theorem combFails_steady {s : State} {k : Nat} (h : combState s k = combLocked) (reason : Nat) :
    Steady (Reg.LTE_STATUS.addr 0 0 0) (combReported (combLost s k) k reason
      (getF s Fld.LTE_CFG_AUTO_REDIST == 1 && combState s (1 - k) == combLocked)) (combFails s k reason) := by
  unfold combFails
  rw [if_pos (.inl h)]
  refine .ite (fun _ => .refl ..) fun _ => (recapture_steady sharedReg_status ..).after (Steady.foldl (fun u i hi => ?_) _)
  exact .ite (fun _ => (Steady.of_fr (releaseLte_fr ..) rfl).after (holdLte_steady sharedReg_status u (List.mem_range.mp hi) _)) fun _ =>
    .refl ..

theorem combFails_spec {s : State} {k : Nat} (h : combState s k = combLocked) (reason : Nat) :
    combState (combFails s k reason) k = combFailed ∧ ∃ e ∈ (combFails s k reason).ev.inFlight, e.code = 0x6006 := by
  have hsteady := combFails_steady h reason
  constructor
  · rw [hsteady.combState_eq, combState_combReported, (combLost_steady s k).combState_eq, combState_setComb, if_pos Iff.rfl]
    rfl
  · obtain ⟨e, hmem, hcode⟩ := combReported_event (combLost s k) k reason
      (getF s Fld.LTE_CFG_AUTO_REDIST == 1 && combState s (1 - k) == combLocked)
    exact ⟨e, hsteady.flight hmem, hcode⟩

theorem combDieFailure_next (k : Fin 2) (s : State) : exec (.combDieFailure k 1) s = .next (combFails s k 1) := rfl

/-- The redistribution switch has settled, and one comb die feeds both halves. -/
def redistInForce (s : State) : State :=
  setF { s with light := { s.light with switching := false } } Fld.LTE_STATUS_REDIST ((if combState s 0 = combLocked then 0 else 1) + 1)

theorem redistInForce_switching (s : State) : (redistInForce s).light.switching = false := by rw [redistInForce, setF_light]

theorem getF_redistInForce (s : State) :
    getF (redistInForce s) Fld.LTE_STATUS_REDIST = if combState s 0 = combLocked then 1 else 2 := by
  rw [redistInForce, getF_setF_same _ _ 0 0 0 (f := Fld.LTE_STATUS_REDIST) (by decide)]
  split <;> rfl

theorem redistSettled_steady {s : State} (h : s.light.switching = true) :
    Steady (Reg.LTE_STATUS.addr 0 0 0) (redistInForce s) (redistSettled s) := by
  have hrings (u : State) : Steady (Reg.LTE_STATUS.addr 0 0 0) u (recapture (holdAllCarriers u) (List.range 528)) :=
    (recapture_steady sharedReg_status ..).after (holdAllCarriers_steady sharedReg_status u)
  rw [redistSettled, if_pos h]
  exact hrings (redistInForce s)

/-! RESTORE (R286). -/

/-- The state in which comb die 0 is LOCKED again, and comb die 1 too where it is restored with it. -/
def combsRestored (s : State) (both : Bool) : State :=
  if both then setComb (setComb s 0 combLocked) 1 combLocked else setComb s 0 combLocked

/-- No line is lost, no redistribution is in force, and every spare is free. -/
def plansRestored (s : State) : State :=
  setF (setF (setF { s with light := { s.light with lost := [], switching := false } } Fld.LTE_STATUS_REDIST 0) Fld.LTE_SPARES_FREE0 0xFF)
    Fld.LTE_SPARES_FREE1 0xFF

theorem ringsCleared_steady (s : State) : Steady (Reg.LTE_STATUS.addr 0 0 0) s (allRingsOut (holdAllCarriers s)) :=
  (allRingsOut_steady sharedReg_status _).after (holdAllCarriers_steady sharedReg_status s)

theorem combState_combsRestored (s : State) (both : Bool) : combState (combsRestored s both) 0 = combLocked := by
  cases both with
  | false => exact combState_setComb s 0 combLocked 0
  | true => exact (combState_setComb _ 1 combLocked 0).trans (combState_setComb s 0 combLocked 0)

theorem combState_plansRestored (s : State) (k : Nat) : combState (plansRestored s) k = combState s k := by
  have hspares {f : Field} (hf : f.reg = Reg.LTE_SPARES) (u : State) (x : Nat) : combState (setF u f x) k = combState u k :=
    combState_congr (rdReg_setF_ne u (by rw [hf]; decide)) k
  rw [plansRestored, hspares rfl, hspares rfl, combState_setF_above (f := Fld.LTE_STATUS_REDIST) _ rfl (by decide) (by decide),
    combState_withLight]

theorem getF_plansRestored_redist (s : State) : getF (plansRestored s) Fld.LTE_STATUS_REDIST = 0 := by
  rw [plansRestored, getF_setF_reg (f := Fld.LTE_SPARES_FREE1) (g := Fld.LTE_STATUS_REDIST) _ _ _ _ _ _ _ _ (by decide),
    getF_setF_reg (f := Fld.LTE_SPARES_FREE0) (g := Fld.LTE_STATUS_REDIST) _ _ _ _ _ _ _ _ (by decide)]
  exact getF_setF_same _ 0 0 0 0 (f := Fld.LTE_STATUS_REDIST) (by decide)

theorem getF_plansRestored_free0 (s : State) : getF (plansRestored s) Fld.LTE_SPARES_FREE0 = 0xFF := by
  rw [plansRestored,
    getF_setF_bits (f := Fld.LTE_SPARES_FREE1) (g := Fld.LTE_SPARES_FREE0) _ _ _ _ _ _ _ _ rfl (by decide) (by decide) (by decide)]
  exact getF_setF_same _ 0xFF 0 0 0 (f := Fld.LTE_SPARES_FREE0) (by decide)

theorem plansRestored_lost (s : State) : (plansRestored s).light.lost = [] := by
  simp only [plansRestored, setF_light]

/-- The carriers are taken back, and the rings whose comb die is LOCKED captured. -/
def ringsRestored (s : State) : State :=
  let s := (List.range 16).foldl carrierBack s
  recapture s ((List.range 528).filter (fun r => combState s (ringHalf r) == combLocked))

theorem ringsRestored_steady {a : Nat} (ha : SharedReg a) (s : State) : Steady a s (ringsRestored s) :=
  (recapture_steady ha ..).after (Steady.foldl (fun u k _ => carrierBack_steady ha u k) s)

theorem restoreWrite_eq {s : State} (hfailed : combState s 0 = combFailed) (hlaser : s.light.laserEn = true) (pass1 : Bool) :
    restoreWrite s true pass1 = ringsRestored (plansRestored (allRingsOut (holdAllCarriers
      (combsRestored s (pass1 && combState s 1 == combFailed))))) := by
  have hdie0 : (true && combState s 0 == combFailed) = true := by simp [hfailed]
  have hpassed : (((true && combState s 0 == combFailed) || (pass1 && combState s 1 == combFailed)) && s.light.laserEn) = true := by
    rw [hdie0, hlaser, Bool.true_or, Bool.true_and]
  unfold restoreWrite
  dsimp only
  rw [if_pos hpassed, if_pos hdie0, combsRestored]
  rfl

/-- What a restored plan leaves, whatever the rings do after it. -/
theorem ringsRestored_spec (s : State) : combState (ringsRestored (plansRestored s)) 0 = combState s 0
    ∧ getF (ringsRestored (plansRestored s)) Fld.LTE_STATUS_REDIST = 0
    ∧ getF (ringsRestored (plansRestored s)) Fld.LTE_SPARES_FREE0 = 0xFF ∧ (ringsRestored (plansRestored s)).light.lost = [] := by
  have hstatus := ringsRestored_steady sharedReg_status (plansRestored s)
  have hspares := ringsRestored_steady sharedReg_spares (plansRestored s)
  exact ⟨(hstatus.combState_eq 0).trans (combState_plansRestored s 0),
    (hstatus.getF_eq (f := Fld.LTE_STATUS_REDIST)).trans (getF_plansRestored_redist s),
    (hspares.getF_eq (f := Fld.LTE_SPARES_FREE0)).trans (getF_plansRestored_free0 s), hstatus.lost_eq.trans (plansRestored_lost s)⟩

theorem lteRestore_next {req : Requester} (hreq : req.bridle = true) (pass0 pass1 : Bool) (s : State) :
    exec (.lteRestore req pass0 pass1) s = .next (restoreWrite s pass0 pass1) := by
  rw [exec_lteRestore, execLteRestore, if_pos hreq]

/-- Settles O31: the start-up sequence from `startSequence_spec`, the lasers that go off from `goDark_spec`, a comb die that fails from
`combFails_spec`, and a restored one from what `plansRestored` leaves. -/
theorem lightSequences : Obligations.LightSequences := by
  refine ⟨fun req l0 l1 w s hreq hlaser => ?assign, fun req l0 l1 w s hreq hlaser h0 h1 => ?relight, fun req s hreq => ?dark,
    fun s h0 => ?fall, fun s => ?rise, fun s hrun => ?ended, fun k s hk => ?failure, fun s hswitch => ?settled,
    fun req p1 s hreq hfailed hlaser => ?restore⟩
  case assign => exact ⟨_, lteAssign_next hreq hlaser l0 l1 w, startSequence_spec s l0 l1 w⟩
  case relight => exact ⟨_, lteRelight_next hreq hlaser h0 h1 l0 l1 w, startSequence_spec s l0 l1 w⟩
  case dark =>
    obtain ⟨hcomb0, hcomb1, hlight, hassigned⟩ := goDark_spec s
    exact ⟨_, lteDark_next hreq s, hcomb0, hcomb1, by rw [hlight], by rw [hlight], by rw [hlight], hassigned⟩
  case fall =>
    have hon : combState s 0 ≠ combOff := h0 ▸ by decide
    obtain ⟨hcomb0, hcomb1, hlight, -⟩ := goDark_spec { s with light := { s.light with laserEn := false } }
    exact ⟨_, laserEnFall_next hon, by rw [markedByFall_light, hlight], (combState_markedByFall ..).trans hcomb0,
      (combState_markedByFall ..).trans hcomb1, by rw [markedByFall_light, hlight]⟩
  case rise => exact ⟨_, exec_laserEnRise s, rfl, (Fr.setLight (m := 0x20000) _ rfl (Fr.refl ..)).touches_maskOf rfl⟩
  case ended =>
    refine ⟨_, lightSequenceEnd_next hrun, (raiseEv_light ..).trans (setF_light ..), (getF_raiseEv ..).trans (getF_sequenceEnded s),
      ?_, fun b hb => (rdReg_raiseEv ..).trans (only_setF _ _ _ _ _ _ b hb), ?_⟩
    · obtain ⟨e, hev, hcode, -, -⟩ := raiseEv_appends (sequenceEnded_ev s) 0x6007 lightUnit 0
        (packDetail [(0, ringsInService (sequenceEnded s)), (10, ringsFailed (sequenceEnded s))])
      exact ⟨e, hev, hcode⟩
    · exact (Fr.post (m := 0x20028) (raiseEv_fr ..) rfl ((sequenceEnded_fr s).mono rfl)).touches_maskOf rfl
  case failure => exact ⟨_, combDieFailure_next k s, combFails_spec hk 1⟩
  case settled =>
    have hsteady := redistSettled_steady hswitch
    exact ⟨_, exec_redistributionSettled s, hsteady.switching_eq.trans (redistInForce_switching s),
      (hsteady.getF_eq (f := Fld.LTE_STATUS_REDIST)).trans (getF_redistInForce s)⟩
  case restore =>
    have hnext := (lteRestore_next hreq true p1 s).trans (congrArg _ (restoreWrite_eq hfailed hlaser p1))
    obtain ⟨hcomb, hrest⟩ := ringsRestored_spec (allRingsOut (holdAllCarriers (combsRestored s (p1 && combState s 1 == combFailed))))
    exact ⟨_, hnext, hcomb.trans (((ringsCleared_steady _).combState_eq 0).trans (combState_combsRestored ..)), hrest⟩

end Sys2Proof.Machine
end

section
/-! SUPPORT. A pilot check that passes on a ring in service (R280, R331). -/
namespace Sys2Proof.Machine
set_option Elab.async false

theorem pilotCheckResult_next {s : State} {r : Fin 528} (h : s.light.checks.find? (fun x => ringConv x == ringConv r) = some r.val)
    (p : PilotMeas) : exec (.pilotCheckResult r p) s = .next (checkResult s r p) :=
  (exec_pilotCheckResult ..).trans (if_pos h)

/-- Port ring 16 is locked on line 0 and in service, its check is under way, and ostler firmware has frozen its loop (R327). -/
def frozenInService : State :=
  let s := setF { State.reset with light := { checks := [16] } } Fld.LTE_RING_STATUS_STATE ringLocked 0 16
  setF (setF s Fld.LTE_RING_STATUS_OOS 0 0 16) Fld.RN_LP_RUN_FREEZE 1 (ringLoop 16 / 256) (ringLoop 16 % 256)

/-- Full drop power, and the pilot of line 0 alone: a PASS on line 0 (Table 10.3). -/
def ownPilotAlone : PilotMeas := { mean := 100, full := 100, amp := [0, 0, 100, 0, 0] }

/-- Refutes O32: its clause for a check that passes has FREEZE of the ring's loop 0 after it, whatever it was before. A PASS clears FREEZE
for a ring that returns to service (R282) and for a loop that notified a fault (R331). A ring in service whose loop has notified nothing
keeps the FREEZE that firmware wrote, so in `frozenInService` the check passes and FREEZE stays 1. -/
theorem not_pilotChecks : ¬ Obligations.PilotChecks := by
  rintro ⟨-, -, hpass, -⟩
  have hpilot : pilotOutcome frozenInService (ringLine frozenInService 16) ownPilotAlone = .pass := by decide +kernel
  have hline : onLostLine frozenInService 16 = false := by decide +kernel
  have hfrozen : lpF (checkResult frozenInService 16 ownPilotAlone) Fld.RN_LP_RUN_FREEZE (ringLoop 16) = 1 := by decide +kernel
  obtain ⟨t, hstep, -, -, -, -, -, hruns⟩ := hpass 16 ownPilotAlone frozenInService rfl (by decide) hpilot hline
  rw [pilotCheckResult_next rfl] at hstep
  cases hstep
  exact absurd (hfrozen.symm.trans hruns) (by decide)

end Sys2Proof.Machine
end

section
/-! SUPPORT. Two fields whose registers lie in one window at the same strides: each keeps its value when the other is set. -/
namespace Sys2Proof.Machine
set_option Elab.async false

/-- Two fields of registers in the same windows and with the same strides, at different offsets or with no bit in common. -/
noncomputable def Field.apart (f g : Field) : Bool :=
  decide (f.reg.blk = g.reg.blk ∧ f.reg.lo = g.reg.lo ∧ f.reg.s1 = g.reg.s1 ∧ f.reg.s2 = g.reg.s2
    ∧ f.lo + f.len ≤ 64 ∧ g.lo + g.len ≤ 64 ∧ (f.reg.off ≠ g.reg.off ∨ f.lo + f.len ≤ g.lo ∨ g.lo + g.len ≤ f.lo))

theorem getF_setF_apart {f g : Field} (h : Field.apart f g = true) (s : State) (x w i k : Nat) :
    getF (setF s f x w i k) g w i k = getF s g w i k := by
  obtain ⟨hblk, hlo, hs1, hs2, hf, hg, hapart⟩ := of_decide_eq_true h
  by_cases hoff : f.reg.off = g.reg.off
  · have haddr : g.reg.addr w i k = f.reg.addr w i k := by simp only [RegDesc.addr, hblk, hlo, hs1, hs2, hoff]
    exact getF_setF_bits s _ _ _ _ _ _ _ haddr hf hg (hapart.resolve_left (· hoff))
  · exact getF_setF_reg s _ _ _ _ _ _ _
      (RegDesc.addr_ne_of_strides hblk.symm hlo.symm hs1.symm hs2.symm (Ne.symm hoff) w i k)

theorem getF_addF_apart {f g : Field} (h : Field.apart f g = true) (s : State) (n w i k : Nat) :
    getF (addF s f n w i k) g w i k = getF s g w i k :=
  getF_setF_apart h ..

end Sys2Proof.Machine
end


section
/-! SUPPORT. The commands of a monitor converter (R296, R298 to R300), each with the state it answers where its rule lets it act. The states
that only lemmas speak of are noncomputable: no code is made of them. -/
namespace Sys2Proof.Machine
set_option Elab.async false

section
variable {s : State} {m : Fin 48} {req : Requester}

/-! MON_CTRL (R298, R299). -/

/-- A write of MON_CTRL does no more than replace the record of its converter. -/
theorem monCtrlWrite_spec {c : Instr} {start stop cal : Bool} {x : Converter}
    (hnext : exec c s = .next (monCtrlWrite s m start stop cal)) (hx : monCtrlWrite s m start stop cal = putConv s m x) :
    ∃ t, exec c s = .next t ∧ getConv t m = x ∧ Only getConv [m.val] s t ∧ Touches [.mon] s t :=
  ⟨_, hnext.trans (congrArg _ hx), getConv_putConv_same .., fun _ hb => getConv_putConv_ne s m x (List.ne_of_not_mem_cons hb),
    (putConv_fr ..).touches_maskOf rfl⟩

/-! The end of a self-calibration (R299, R300). -/

/-- R300: converter `m` returns to the state it had, with OFFSET and GAIN stored and one more self-calibration counted. -/
noncomputable def calStored (s : State) (m offset gain : Nat) : State :=
  addF (setF (setF (setF (setF s Fld.MON_STATUS_STATE (getConv s m).back m) Fld.MON_CALF_OFFSET offset m) Fld.MON_CALF_GAIN gain m)
    Fld.MON_STATUS_CALBAD 0 m) Fld.MON_STATUS_CALS 1 m

theorem wrapTo_lt (w : Nat) (v : Int) : wrapTo w v < 2 ^ w := by
  have hpos : (0 : Int) < ((2 ^ w : Nat) : Int) := Int.natCast_pos.mpr (Nat.two_pow_pos w)
  exact (Int.toNat_lt (Int.emod_nonneg _ (Int.ne_of_gt hpos))).mpr (Int.emod_lt_of_pos v hpos)

theorem wrapTo_of_lt {w n : Nat} (h : n < 2 ^ w) : wrapTo w n = n :=
  Nat.mod_eq_of_lt h

theorem calEnd_of_inRange {g r : Nat} {gain : Int} (hgain : calGain ((r : Int) - g) = some gain) (hoffset : calOffset g ≤ 512)
    (hbound : gain.natAbs ≤ 1311) : calEnd s m g r = calStored s m (wrapTo 16 (calOffset g)) (wrapTo 16 gain) := by
  unfold calEnd
  rw [hgain]
  exact if_pos ⟨hoffset, hbound⟩

/-- Where no converter waits to be calibrated and start-up does not wait for it, nothing follows the end of a self-calibration. -/
theorem lightGoes_calNext {u : State} (hqueue : u.mon.calQueue = []) (hdue : u.sys.lightDue = none) : lightGoes (calNext u) = u := by
  unfold calNext
  rw [hqueue]
  unfold lightGoes
  rw [hdue]

theorem calibrationEnd_spec {g r : Nat} {gain : Int} (hcal : monState s m = monCal) (hqueue : s.mon.calQueue = [])
    (hdue : s.sys.lightDue = none) (hgain : calGain ((r : Int) - g) = some gain) (hoffset : calOffset g ≤ 512)
    (hbound : gain.natAbs ≤ 1311) : ∃ t, exec (.calibrationEnd m g r) s = .next t
    ∧ getF t Fld.MON_CALF_OFFSET m = calOffset g ∧ getF t Fld.MON_CALF_GAIN m = wrapTo 16 gain ∧ getF t Fld.MON_STATUS_CALBAD m = 0
    ∧ monState t m = (getConv s m).back % 4
    ∧ Only rdReg [Reg.MON_STATUS.addr m 0 0, Reg.MON_CALF.addr m 0 0] s t ∧ Touches [.regs] s t := by
  have hlt : calOffset g < 2 ^ 16 := Nat.lt_of_le_of_lt hoffset (by decide)
  have hfr : Fr 0x8 s (calStored s m (wrapTo 16 (calOffset g)) (wrapTo 16 gain)) :=
    Fr.post (addF_fr ..) rfl <| Fr.post (setF_fr ..) rfl <| Fr.post (setF_fr ..) rfl <| Fr.post (setF_fr ..) rfl (setF_fr ..)
  have hend := lightGoes_calNext ((congrArg Mon.calQueue (hfr.same .mon rfl)).trans hqueue)
    ((congrArg Sys.lightDue (hfr.same .sys rfl)).trans hdue)
  rw [← calEnd_of_inRange hgain hoffset hbound] at hend
  refine ⟨_, (exec_calibrationEnd ..).trans ((if_pos hcal).trans (congrArg _ (hend.trans (calEnd_of_inRange hgain hoffset hbound)))),
    ?offset, ?gain, ?calbad, ?state, fun b hb => ?regs, hfr.touches_maskOf rfl⟩
  case regs =>
    have hstatus := List.ne_of_not_mem_cons hb
    have hcalf := List.ne_of_not_mem_cons (List.not_mem_of_not_mem_cons hb)
    exact (rdReg_addF_ne (f := Fld.MON_STATUS_CALS) _ hstatus).trans <|
      (rdReg_setF_ne (f := Fld.MON_STATUS_CALBAD) _ hstatus).trans <| (rdReg_setF_ne (f := Fld.MON_CALF_GAIN) _ hcalf).trans <|
      (rdReg_setF_ne (f := Fld.MON_CALF_OFFSET) _ hcalf).trans (rdReg_setF_ne (f := Fld.MON_STATUS_STATE) _ hstatus)
  all_goals simp (disch := decide) only [monState, calStored, getF_addF_apart, getF_setF_apart, getF_setF_same]
  case offset => exact (Nat.mod_mod _ _).trans (Nat.mod_eq_of_lt hlt)
  case gain => exact Nat.mod_eq_of_lt (wrapTo_lt ..)
  all_goals rfl

/-! Configuration (R298). -/

/-- R298: a refused write sets CFG_REFUSED, raises its event, and does nothing else. -/
def CfgRefused (s t : State) (m : Nat) : Prop :=
  getF t Fld.MON_ERR_CFG_REFUSED m = 1 ∧ (∃ e, t.ev.inFlight = s.ev.inFlight ++ [e] ∧ e.code = 0x7802)
    ∧ Only rdReg [Reg.MON_ERR.addr m 0 0] s t ∧ Touches [.regs, .ev] s t

theorem monRefuse_cfgRefused (s : State) (m : Nat) (reg : MonReg) : CfgRefused s (monRefuse s m reg) m :=
  (raiseEv_setF_spec s Fld.MON_ERR_CFG_REFUSED m 0 0x7802 _ 0 _ (by decide)).imp_right <|
    And.imp_left <| Exists.imp fun _ => And.imp_right And.left

theorem accConfigWrite_accepted (hreq : req.bridle = true) {reg : MonReg} {v : W32} (h : monAccepts s m v.toNat reg = true) :
    exec (.accConfigWrite req m reg v) s = .next (monStore s m v.toNat reg) :=
  (exec_accConfigWrite ..).trans ((if_pos hreq).trans (congrArg _ (if_pos h)))

theorem accConfigWrite_refused (hreq : req.bridle = true) {reg : MonReg} {v : W32} (h : ¬ monAccepts s m v.toNat reg = true) :
    ∃ t, exec (.accConfigWrite req m reg v) s = .next t ∧ CfgRefused s t m :=
  ⟨_, (exec_accConfigWrite ..).trans ((if_pos hreq).trans (congrArg _ (if_neg h))), monRefuse_cfgRefused ..⟩

/-- A configuration register that is a register and nothing else: `p` says when it is written, `a` where it lies and `x` what it takes. -/
theorem accConfigWrite_register (hreq : req.bridle = true) {reg : MonReg} {v : W32} {p : Prop} {a : Nat} {x : W64}
    (hp : monAccepts s m v.toNat reg = true ↔ p) (hstore : monStore s m v.toNat reg = wrReg s a x) :
    ∃ t, exec (.accConfigWrite req m reg v) s = .next t
    ∧ (p → rdReg t a = x ∧ Only rdReg [a] s t ∧ Touches [.regs] s t) ∧ (¬ p → CfgRefused s t m) := by
  by_cases h : p
  · exact ⟨_, (accConfigWrite_accepted hreq (hp.mpr h)).trans (congrArg _ hstore),
      fun _ => ⟨rdReg_wrReg_same .., only_wrReg _ _ _, (wrReg_fr ..).touches_maskOf rfl⟩, fun hn => absurd h hn⟩
  · obtain ⟨t, hnext, hrefused⟩ := accConfigWrite_refused hreq (mt hp.mp h)
    exact ⟨t, hnext, fun hy => absurd hy h, fun _ => hrefused⟩

theorem monAccepts_seq_iff (v : Nat) (k : Fin 400) : monAccepts s m v (.seq k) = true ↔ monState s m = monStopped :=
  beq_iff_eq

theorem monAccepts_calf_iff (v : Nat) : monAccepts s m v .calf = true ↔ monState s m = monStopped :=
  beq_iff_eq

theorem monAccepts_ref_iff (v : Nat) (a : Fin 128) :
    monAccepts s m v (.ref a) = true ↔ monState s m = monStopped ∨ getF s Fld.ACC_CFG_RUN m a = 0 :=
  Bool.or_eq_true_iff.trans (or_congr beq_iff_eq beq_iff_eq)

theorem monAccepts_phase_iff (v : Nat) (a : Fin 128) :
    monAccepts s m v (.phase a) = true ↔ monState s m = monStopped ∨ getF s Fld.ACC_CFG_RUN m a = 0 :=
  monAccepts_ref_iff v a

/-- A field of a value cut to `x * y`: it begins at the weight `x`, and its size `z` divides `y`. -/
theorem mod_mul_div_mod (v x : Nat) {y z : Nat} (h : z ∣ y) : v % (x * y) / x % z = v / x % z := by
  rw [Nat.mod_mul_right_div_self, Nat.mod_mod_of_dvd _ h]

/-- R298: ACC_CFG takes the value it has with RUN 0, and a legal one of a converter that is STOPPED or an accumulator that is OFF. -/
theorem monAccepts_cfg_iff (v : Nat) (a : Fin 128) : monAccepts s m v (.cfg a) = true ↔
    v % 2 ^ 22 = (rdReg s (Reg.ACC_CFG.addr m a 0)).toNat - 4 * ((rdReg s (Reg.ACC_CFG.addr m a 0)).toNat / 4 % 4)
    ∨ (v % 4 ≠ 3 ∧ v / 4 % 4 ≠ 3 ∧ v / 16 % 1024 ≠ 0) ∧ (monState s m = monStopped ∨ getF s Fld.ACC_CFG_RUN m a = 0) := by
  have hmode : v % 2 ^ 22 % 4 = v % 4 := Nat.mod_mod_of_dvd v (by decide)
  have hrun : v % 2 ^ 22 / 4 % 4 = v / 4 % 4 := mod_mul_div_mod v 4 (y := 2 ^ 20) (by decide)
  have hperiod : v % 2 ^ 22 / 16 % 1024 = v / 16 % 1024 := mod_mul_div_mod v 16 (y := 2 ^ 18) (by decide)
  have hlegal : (v % 2 ^ 22 % 4 != 3 && v % 2 ^ 22 / 4 % 4 != 3 && v % 2 ^ 22 / 16 % 1024 != 0) = true
      ↔ v % 4 ≠ 3 ∧ v / 4 % 4 ≠ 3 ∧ v / 16 % 1024 ≠ 0 := by
    simp only [hmode, hrun, hperiod, Bool.and_eq_true, bne_iff_ne, and_assoc]
  exact Bool.or_eq_true_iff.trans <| or_congr beq_iff_eq <| Bool.and_eq_true_iff.trans <| and_congr hlegal <|
    Bool.or_eq_true_iff.trans (or_congr beq_iff_eq beq_iff_eq)

/-- Accumulators of a converter, or of two, have different places in the table. -/
theorem accIndex_ne {m n a b : Nat} (hb : b < 128) (ha : a < 128) (hne : n ≠ m ∨ b ≠ a) : 128 * n + b ≠ 128 * m + a := fun h => by
  obtain ⟨hn, hb'⟩ := (Nat.div_mod_unique (by decide)).mpr ⟨(Nat.add_comm ..).trans h, hb⟩
  obtain ⟨hm, ha'⟩ := (Nat.div_mod_unique (by decide)).mpr ⟨Nat.add_comm .., ha⟩
  exact hne.elim (· (hn.symm.trans hm)) (· (hb'.symm.trans ha'))

/-- R296, R298: an accepted write of ACC_CFG begins a period of its accumulator and leaves the ended one to its latch. -/
theorem accConfigWrite_cfg (hreq : req.bridle = true) {a : Fin 128} {v : W32} (h : monAccepts s m v.toNat (.cfg a) = true) :
    ∃ t, exec (.accConfigWrite req m (.cfg a) v) s = .next t
    ∧ rdReg t (Reg.ACC_CFG.addr m a 0) = BitVec.ofNat 64 (v.toNat % 2 ^ 22)
    ∧ (getAcc t m a).until_ = none ∧ (getAcc t m a).ended = (getAcc s m a).ended ∧ (getAcc t m a).cur = { since := s.mon.k }
    ∧ (∀ n b, b < 128 → n ≠ m.val ∨ b ≠ a.val → getAcc t n b = getAcc s n b) ∧ Only rdReg [Reg.ACC_CFG.addr m a 0] s t
    ∧ Touches [.regs, .mon] s t := by
  have hacc : getAcc (monStore s m v.toNat (.cfg a)) m a = { getAcc s m a with cur := { since := s.mon.k }, until_ := none } :=
    getAcc_putAcc_same ..
  exact ⟨_, accConfigWrite_accepted hreq h, (rdReg_putAcc ..).trans (rdReg_wrReg_same ..), (congrArg Acc.until_ hacc :),
    (congrArg Acc.ended hacc :), (congrArg Acc.cur hacc :), fun n b hb hne => getAcc_putAcc_ne _ _ _ _ (accIndex_ne hb a.isLt hne),
    fun b hb => (rdReg_putAcc ..).trans (only_wrReg s _ _ b hb), (monStore_fr ..).touches_maskOf rfl⟩

/-- RUN is 0 in a value with RUN taken from it. -/
theorem run_of_off {v old : Nat} (hoff : v % 2 ^ 22 = old - 4 * (old / 4 % 4)) : (BitVec.ofNat 64 (v % 2 ^ 22)).toNat / 4 % 4 = 0 := by
  have hlt : v % 2 ^ 22 < 2 ^ 64 := Nat.lt_trans (Nat.mod_lt v (Nat.two_pow_pos 22)) (by decide)
  rw [BitVec.toNat_ofNat, Nat.mod_eq_of_lt hlt, hoff, Nat.sub_mul_div]
  exact Nat.sub_mod_eq_zero_of_mod_eq (Nat.mod_mod _ _).symm

/-! The latch of an ended period (R296). -/

/-- Accumulator `a` of converter `m` once its ended period `e` stands in the result registers. -/
noncomputable def latched (s : State) (m a : Nat) (e : AccEnd) : State :=
  addF (addF (setF (setF (setF (setF (setF (putAcc s m a { getAcc s m a with ended := none })
    Fld.ACC_SUM_SUM (wrapTo 48 e.acc.sum) m a) Fld.ACC_STAT_MIN e.acc.mn m a) Fld.ACC_STAT_MAX e.acc.mx m a)
    Fld.ACC_STAT_VALID (b01 e.valid) m a) Fld.ACC_COUNT_COUNT e.acc.count m a) Fld.ACC_STAT_PSEQ 1 m a) Fld.ACC_COUNT_PSEQ 1 m a

theorem accLatch_of_ended {a : Nat} {e : AccEnd} (h : (getAcc s m a).ended = some e) : accLatch s m a = latched s m a e := by
  unfold accLatch
  dsimp only
  rw [h]
  rfl

theorem accumulatorLatch_spec {a : Fin 128} {e : AccEnd} (h : (getAcc s m a).ended = some e) :
    ∃ t, exec (.accumulatorLatch m a) s = .next t
    ∧ getAcc t m a = { getAcc s m a with ended := none } ∧ getF t Fld.ACC_SUM_SUM m a = wrapTo 48 e.acc.sum % 2 ^ 48
    ∧ getF t Fld.ACC_STAT_MIN m a = e.acc.mn % 4096 ∧ getF t Fld.ACC_STAT_MAX m a = e.acc.mx % 4096
    ∧ getF t Fld.ACC_STAT_VALID m a = b01 e.valid
    ∧ getF t Fld.ACC_COUNT_COUNT m a = e.acc.count % 2 ^ 19 ∧ getF t Fld.ACC_STAT_PSEQ m a = (getF s Fld.ACC_STAT_PSEQ m a + 1) % 64
    ∧ Only rdReg [Reg.ACC_SUM.addr m a 0, Reg.ACC_STAT.addr m a 0, Reg.ACC_COUNT.addr m a 0] s t ∧ Touches [.regs, .mon] s t := by
  have heq := accLatch_of_ended h
  refine ⟨_, (exec_accumulatorLatch ..).trans (congrArg Host.Outcome.next heq), ?acc, ?sum, ?min, ?max, ?valid, ?count, ?pseq, fun b hb => ?regs,
    (heq ▸ accLatch_fr s m a : Fr 0x40008 s (latched s m a e)).touches_maskOf rfl⟩
  case regs =>
    have hsum := List.ne_of_not_mem_cons hb
    have hstat := List.ne_of_not_mem_cons (List.not_mem_of_not_mem_cons hb)
    have hcount := List.ne_of_not_mem_cons (List.not_mem_of_not_mem_cons (List.not_mem_of_not_mem_cons hb))
    exact (rdReg_addF_ne (f := Fld.ACC_COUNT_PSEQ) _ hcount).trans <| (rdReg_addF_ne (f := Fld.ACC_STAT_PSEQ) _ hstat).trans <|
      (rdReg_setF_ne (f := Fld.ACC_COUNT_COUNT) _ hcount).trans <| (rdReg_setF_ne (f := Fld.ACC_STAT_VALID) _ hstat).trans <|
      (rdReg_setF_ne (f := Fld.ACC_STAT_MAX) _ hstat).trans <| (rdReg_setF_ne (f := Fld.ACC_STAT_MIN) _ hstat).trans <|
      (rdReg_setF_ne (f := Fld.ACC_SUM_SUM) _ hsum).trans (rdReg_putAcc ..)
  all_goals delta latched
  case acc => simp only [getAcc_addF, getAcc_setF, getAcc_putAcc_same]
  all_goals simp (disch := decide) only [getF_addF_apart, getF_addF_same, getF_setF_apart, getF_setF_same, getF_putAcc]
  case valid => exact Nat.mod_eq_of_lt (b01_lt_two _)
  all_goals rfl

end

/-- Settles O27, one command after the other; of the configuration registers ACC_CFG alone does more than take its value. -/
theorem monitorConverters : Obligations.MonitorConverters := by
  refine ⟨fun req m s hreq hst => ?start, fun req m s hreq hst => ?stop, fun req m s hreq hst => ?cal,
    fun m g r s gain => calibrationEnd_spec,
    fun req m k v s hreq => accConfigWrite_register hreq (monAccepts_seq_iff ..) rfl,
    fun req m v s hreq => accConfigWrite_register hreq (monAccepts_calf_iff ..) rfl,
    fun req m a v s hreq => accConfigWrite_register hreq (monAccepts_ref_iff ..) rfl,
    fun req m a v s hreq => accConfigWrite_register hreq (monAccepts_phase_iff ..) rfl,
    fun req m a v s hreq hmode hrun hperiod hst =>
      accConfigWrite_cfg hreq ((monAccepts_cfg_iff ..).mpr (.inr ⟨⟨hmode, hrun, hperiod⟩, hst⟩)),
    fun req m a v s hreq hoff => ?off,
    fun req m a v s hreq hon hbad => accConfigWrite_refused hreq (mt (monAccepts_cfg_iff ..).mp (not_or.mpr ⟨hon, fun hlegal =>
      hbad.elim hlegal.1.1 (·.elim hlegal.1.2.1 (·.elim hlegal.1.2.2 fun hruns => hlegal.2.elim hruns.1 hruns.2))⟩)),
    fun m a s e => accumulatorLatch_spec⟩
  case start =>
    exact monCtrlWrite_spec ((exec_monitorStart ..).trans (if_pos hreq)) (congrArg (putConv s m) (if_pos (beq_iff_eq.mpr hst)))
  case stop => exact monCtrlWrite_spec ((exec_monitorStop ..).trans (if_pos hreq)) (congrArg (putConv s m) (if_pos hst))
  case cal =>
    exact monCtrlWrite_spec ((exec_monitorCal ..).trans (if_pos hreq)) (congrArg (putConv s m) (if_pos (bne_iff_ne.mpr hst)))
  case off =>
    obtain ⟨t, hnext, hreg, huntil, hended, -, hframe⟩ := accConfigWrite_cfg hreq ((monAccepts_cfg_iff ..).mpr (.inl hoff))
    have hrun : getF t Fld.ACC_CFG_RUN m a = 0 := (congrArg (fun x : W64 => x.toNat / 4 % 4) hreg).trans (run_of_off hoff)
    exact ⟨t, hnext, hrun, huntil, hended, hframe⟩

end Sys2Proof.Machine
end

section
/-! SUPPORT. A conversion where the table of trim channels lists one channel twice (R292, Table 11.8). -/
namespace Sys2Proof.Machine
set_option Elab.async false

/-- Inside a frame: channel 0 is listed with code 1 and then with code 2, so that it reads as 1. -/
noncomputable def twiceListed : State := { State.reset with mon := { k := 1, trim := [(0, { code := 1 }), (0, { code := 2 })] } }

/-- Refutes O28: its clause for a conversion inside a frame has every trim channel with its code after it, in every state. A conversion
notes the clamp of each channel by `nmMap`, which stores the entries of the table one after the other, so that of two entries for one
channel the last stands after it and the first is what the channel read as before. In `twiceListed` channel 0 goes from code 1 to code 2.
No hypothesis of the clause, and not `State.inv`, has the table of the trim channels in its canonical form. -/
theorem not_conversionsAndTrims : ¬ Obligations.ConversionsAndTrims := by
  intro h
  have hafter : (getTrim (conversion twiceListed fun m => ((List.replicate 48 (0 : BitVec 12)).getD m 0).toNat) 0).code = 2 := by
    decide +kernel
  obtain ⟨t, hstep, -, -, htrim, -⟩ := h.1 (List.replicate 48 0) twiceListed (by decide)
  have ht := Host.Outcome.next.inj ((exec_conversion ..).symm.trans hstep)
  exact absurd (hafter.symm.trans (ht ▸ (htrim 0).1)) (by decide)

end Sys2Proof.Machine
end
